-- ==== Sys2Proof/Word.lean ====
section
/-!
DEFINITION. The words of the machine: bytes, 32-bit registers (R373) and the 64-bit registers of the engines (R284).
-/

namespace Sys2Proof

/-- A byte. -/
abbrev Byte := BitVec 8

/-- A register of the device: 32 bits wide (R373). -/
abbrev Word := BitVec 32

/-- An engine register: 64 bits wide (R284). -/
abbrev Word64 := BitVec 64

end Sys2Proof
end

