-- ==== Sys2Proof/Syntax.lean ====
section
/-!
DEFINITION. The commands the block takes from outside: one constructor for each row of spec/opcode_table.json, with its
operands. A command is a register access by a requester, an event on a pin, a clock or an analog monitor, an instruction
carried out by an engine, or a step the device makes at an instant that a clock reaches.
-/

namespace Sys2Proof

/-- Who makes a register access (R375, R276): a door, an engine, the tunnel from another member, a firing at-time entry
of an engine, or the early-out script of start-up (R456). -/
inductive Req
  | pcie | spi | i2c
  | eng (k : Nat)
  | tunnel (m : Nat)
  | atEntry (k : Nat)
  | script
  deriving DecidableEq, Repr

/-- The seven outcomes of a register access (R354). -/
inductive AccOut
  | reach | align | width | locked | wign | timeout | ok
  deriving DecidableEq, Repr

/-- Sources SRC0–SRC20. -/
abbrev Src := Fin 21
/-- Loops DPLL0–DPLL3. -/
abbrev Loop := Fin 4
/-- APLLA and APLLB. -/
abbrev Apll := Fin 2
/-- Output channels OUT0–OUT39. -/
abbrev Chan := Fin 40
/-- Ports 0 and 1 (ETH, PTP) and the two Guyline ports A and B. -/
abbrev Port := Fin 2
/-- What is seen at an edge of a source's input (R34, R36): the edges of the polarity EDGE names that the input's divider has
counted since its last divided edge, the edge's polarity, the raw code of its TDC, and the XO's phase at the same instant,
which a TDC of its own measures (R35), in TB units. -/
structure SrcEdge where
  inputs : Nat
  falling : Bool
  code : Fin 2048
  xo : Int
  deriving DecidableEq, Repr

/-- What the monitor of a channel's drivers reports (R159): bad edges in a row, or a static output bad for 1 µs. -/
structure DrvBad where
  chan : Chan
  edges : Nat
  static : Bool
  deriving DecidableEq, Repr

/-- Good edges in a row at a channel's drivers (R159). -/
structure DrvGood where
  chan : Chan
  edges : Nat
  deriving DecidableEq, Repr

/-- Engines ENG0–ENG10. -/
abbrev EngId := Fin 11
/-- Engine registers w0–w31. -/
abbrev Reg := Fin 32
/-- Queues and rings 0–63. -/
abbrev Queue := Fin 64
/-- TEV generators 0–15. -/
abbrev Gen := Fin 16
/-- CAP inputs 0–7. -/
abbrev Cap := Fin 8
/-- SYSREF generators 0–3. -/
abbrev SrGen := Fin 4

/-- The commands. -/
inductive Instr
  /-- REGISTER_WRITE (R356): A plain write to a register that has no row of its own, taken or ignored according to its class, the CFG rule, locks and single-writer rules. -/
  | registerWrite (r : Req) (a : Nat) (be : BitVec 4) (v : Word)
  /-- LATCHING_READ (R375): A read of a LO or W0 register that latches the matching HI half, the W1 and W2 of a time triple or TB_EPOCH for the same requester. -/
  | latchingRead (r : Req) (a : Nat) (be : BitVec 4)
  /-- STAGED_WRITE (R466): A write to a register that is staged per requester until a later committing write. -/
  | stagedWrite (r : Req) (a : Nat) (v : Word)
  /-- SET_ALIAS_WRITE (R363): An atomic read-modify-write that sets the bits written as 1, then is taken as a plain write. -/
  | setAliasWrite (r : Req) (a : Nat) (v : Word)
  /-- CLR_ALIAS_WRITE (R363): An atomic read-modify-write that clears the bits written as 1, then is taken as a plain write. -/
  | clrAliasWrite (r : Req) (a : Nat) (v : Word)
  /-- TGL_ALIAS_WRITE (R363): An atomic read-modify-write that inverts the bits written as 1, then is taken as a plain write. -/
  | tglAliasWrite (r : Req) (a : Nat) (v : Word)
  /-- STS_SEQ_CLEAR (R360): A write to an STS register that clears it when its SEQ matches, and is otherwise ignored. -/
  | stsSeqClear (r : Req) (a : Nat) (v : Word)
  /-- GUARD_LOCK_WRITE (R369): A write that sets guard lock bits, which only power-on reset and RESET_N clear. -/
  | guardLockWrite (r : Req) (v : Word)
  /-- BLOCK_TIMEOUT (R25): A block that has not answered within 1 µs makes the access complete as TIMEOUT. -/
  | blockTimeout (r : Req) (a : Nat) (w : Option Word) (x : Nat)
  /-- LATE_BLOCK_ANSWER (R25): A block answers after the timeout: its answer is discarded, and an abandoned write may take effect when the block takes it up. -/
  | lateBlockAnswer (i : Nat)
  /-- HELD_CROSSING_EFFECT (R19): A crossing held for a clock that was not yet running takes effect at the second or third edge after that clock starts. -/
  | heldCrossingEffect
  /-- PARITY_SCRUB (R368): The background scrubber visits a CFG or RUN register and checks its parity. -/
  | parityScrub (a : Nat) (upset : BitVec 33)
  /-- SRAM_SCRUB (R23): The background scrubber reads a word of shared SRAM or of an engine-local memory. -/
  | sramScrub (a : Nat) (upset : Fin 3)
  /-- SOURCE_EDGE (R36): A divided source edge is time-stamped by its TDC and forms a phase sample, and the activity bucket is updated. -/
  | sourceEdge (n : Src) (e : SrcEdge)
  /-- MISSED_NOMINAL_EDGE (R37): A nominal edge time passes by the tolerance without an edge, and ACT_INC is added to the bucket. -/
  | missedNominalEdge (n : Src)
  /-- XO_LOSS (R35): The XO monitor reports XO_IN lost. -/
  | xoLoss
  /-- XO_RETURN (R35): The XO monitor reports XO_IN present again. -/
  | xoReturn
  /-- BASIS_CHANGE (R35): At the next W0 bin boundary after an XO loss or return, every source changes its offset basis and restarts its statistics. -/
  | basisChange
  /-- BIN_CLOSE (R38): A window bin closes on the free-running count, and each source's window offset and phase drift are updated. -/
  | binClose (w : Fin 3)
  /-- MTIE_BIN_CLOSE (R44): An MTIE bin of τ/100 closes, and the MTIE estimate is updated. -/
  | mtieBinClose (i : Fin 5)
  /-- TDEV_STRIDE (R45): At each stride of τ/10, a second difference is formed and TDEV is updated. -/
  | tdevStride (i : Fin 5)
  /-- SRC_ENABLE (R46): A write of ENABLE = 1 moves the source from OFF to LOST and clears its windows. -/
  | srcEnable (r : Req) (n : Src) (v : Word)
  /-- SRC_DISABLE (R46): A write of ENABLE = 0 moves the source to OFF, with SRC_DISQ if it leaves QUAL. -/
  | srcDisable (r : Req) (n : Src) (v : Word)
  /-- SRC_FORCE_WRITE (R50): A write of FORCE holds the source in UNQUAL or QUAL, or returns it to AUTO judgement. -/
  | srcForceWrite (r : Req) (n : Src) (v : Word)
  /-- SRC_VERDICT_WRITE (R46): The MON engine writes a verdict, which drives the qualification transitions. -/
  | srcVerdictWrite (r : Req) (n : Src) (v : Word)
  /-- PEND_TIMER_EXPIRY (R47): The FIRSTQ or WTR timer of a PEND source expires, and the source is promoted when its last verdict passed with HYSTOK. -/
  | pendTimerExpiry (n : Src)
  /-- VERDICT_STALE (R46): A QUAL source receives no verdict for 1 s and goes to UNQUAL with cause STALE. -/
  | verdictStale (n : Src)
  /-- SRC_ACCEPT (R49): The ACCEPT command moves a HELD source to QUAL or UNQUAL and gives it a jump pass. -/
  | srcAccept (r : Req) (n : Src) (v : Word)
  /-- SRC_HOLD (R49): The HOLD command moves a QUAL or PEND source to HELD with HOLDCAUSE = HOST. -/
  | srcHold (r : Req) (n : Src) (v : Word)
  /-- SRC_CLRSTAT (R49): The CLRSTAT command restarts PDRIFT, MTIE and TDEV. -/
  | srcClrstat (r : Req) (n : Src) (v : Word)
  /-- SELECTOR_EVALUATION (R62): Within 1 µs of a trigger, the selector evaluates its candidates and makes at most one change of choice. -/
  | selectorEvaluation (n : Loop)
  /-- SEL_REEVAL (R62): The REEVAL command triggers a selector evaluation. -/
  | selReeval (r : Req) (n : Loop) (v : Word)
  /-- SEL_ABSORB (R66): The ABSORB command in state PULL stops the ramp and keeps O as a build-out. -/
  | selAbsorb (r : Req) (n : Loop) (v : Word)
  /-- SWITCH_FIRST_SAMPLE (R65): The first phase sample of the new source after a switch sets O so that the effective error continues without a step. -/
  | switchFirstSample (n : Loop)
  /-- RETARGET_FIRST_SAMPLE (R67): The first phase sample of the new source during a re-target sets the new O. -/
  | retargetFirstSample (n : Loop)
  /-- RETURN_FIRST_SAMPLE (R70): The first phase sample of a source returning from NONE applies BUILDOUT or FOLLOW, with the jump guard. -/
  | returnFirstSample (n : Loop)
  /-- DPLL_UPDATE (R79): At an update instant the DPLL forms ERR, transfers the shadow word, moves the step engine, applies the limiters and delivers the word to its destinations. -/
  | dpllUpdate (n : Loop) (baw : Int)
  /-- DCOW_COMMIT (R79): LPn writes DCOW_HI and commits a word to the shadow for the next update. -/
  | dcowCommit (r : Req) (n : Loop) (v : Word)
  /-- HOWORD_COMMIT (R92): A write of HOWORD_HI commits the holdover word and sets t_w. -/
  | howordCommit (r : Req) (n : Loop) (v : Word)
  /-- PHASE_STEP_COMMAND (R90): A write of PSTEP_HI adds a phase step to PSREM, or is refused. -/
  | phaseStepCommand (r : Req) (n : Loop) (v : Word)
  /-- PSABORT (R91): The command discards the remaining step and ends it with PSCAUSE = ABORT. -/
  | psabort (r : Req) (n : Loop) (v : Word)
  /-- DPLL_ENABLE (R96): A write of ENABLE = 1 starts the loop, or is refused when the handler budget does not fit. -/
  | dpllEnable (r : Req) (n : Loop) (v : Word)
  /-- DPLL_DISABLE (R99): A write of ENABLE = 0 aborts any step and holds the active word. -/
  | dpllDisable (r : Req) (n : Loop) (v : Word)
  /-- TIED_SET (R95): Setting TIED makes DPLL0 take DPLL3's active word. -/
  | tiedSet (r : Req) (v : Word)
  /-- TIED_CLEAR (R95): Clearing TIED loads the shadow with the active word, and selector 0 switches under R73. -/
  | tiedClear (r : Req) (v : Word)
  /-- LPSTAT_WRITE (R87): LPn writes its status; a change of STAGE raises DPLL_STAGE. -/
  | lpstatWrite (r : Req) (n : Loop) (v : Word)
  /-- FLOCK_WINDOW_END (R89): A FLTIME window of the lock detector ends and frequency lock is judged. -/
  | flockWindowEnd (n : Loop)
  /-- OSC_EVALUATION (R101): OSC evaluates the model every 1 ms and brings any pending set into force. -/
  | oscEvaluation
  /-- THERMISTOR_SAMPLE (R102): Every 10 ms the raw temperature is taken and θ is filtered. -/
  | thermistorSample (code : BitVec 16)
  /-- LEARNING_SAMPLE (R109): Every LINT a learning sample is formed from the learning DPLL and latched. -/
  | learningSample
  /-- OSC_GEN_COMMIT (R116): A write of OSC_GEN copies the shadows into a pending set. -/
  | oscGenCommit (r : Req) (v : Word)
  /-- LS_INFO_READ (R110): A read of OSC_LS_INFO marks the sample read and latches Y and THETA. -/
  | lsInfoRead (r : Req)
  /-- TEEST_UPDATE (R118): Once per second, OSC computes the time-error estimates and the projection. -/
  | teestUpdate
  /-- BAW_FAIL (R126): The BAW amplitude or its offset against the XO fails, and the fault is raised. -/
  | bawFail (amp : Bool) (off : Int)
  /-- CLK_COUNT_CHECK (R126): The 1 µs count check of the TB clock against the BAW is made. -/
  | clkCountCheck (diff : Int)
  /-- APLL_ENABLE (R128): A write of ENABLE = 1 starts the APLL, or is refused for range. -/
  | apllEnable (r : Req) (n : Apll) (v : Word)
  /-- APLL_DISABLE (R139): A write of ENABLE = 0 stops the APLL and its VCO. -/
  | apllDisable (r : Req) (n : Apll) (v : Word)
  /-- BAND_SEARCH_DONE (R129): The band search completes and BAND becomes valid. -/
  | bandSearchDone (n : Apll) (band : Fin 128)
  /-- APLL_LOCK_ACQUIRED (R129): The analog loop locks and LOCK becomes 1. -/
  | apllLockAcquired (n : Apll)
  /-- VTUNE_SAMPLE (R130): Every 1 ms VTUNE is digitised and checked against the warning and limit windows. -/
  | vtuneSample (n : Apll) (mv : BitVec 12)
  /-- APLL_LOSS_OF_LOCK (R131): A cycle slip or large phase error clears LOCK. -/
  | apllLossOfLock (n : Apll)
  /-- BRG_MAP_WRITE (R134): A write of BRG_MAP reassigns destinations with a blend, or is held pending in the safe state. -/
  | brgMapWrite (r : Req) (v : Word)
  /-- OUT_ENABLE (R152): A write of ENABLE = 1 starts the channel, or is refused for range. -/
  | outEnable (r : Req) (n : Chan) (v : Word)
  /-- OUT_START_ON_LOCK (R152): A channel waiting in STARTING starts at the first LOCK = 1 of its APLL. -/
  | outStartOnLock (n : Chan)
  /-- OUT_DISABLE (R152): A write of ENABLE = 0 stops the channel at the next divider boundary. -/
  | outDisable (r : Req) (n : Chan) (v : Word)
  /-- FRET_MOVE (R149): After FSTEP, the applied fret moves by one fret towards its target in a low phase. -/
  | fretMove (n : Chan)
  /-- OUT_RESUME (R157): The RESUME command ends a SAFE_STOP or SAFE_HIZ gate. -/
  | outResume (r : Req) (n : Chan) (v : Word)
  /-- SAFE_ACTION_APPLY (R155): At the next divider boundary after the safe-state command, the channel applies its safe action. -/
  | safeActionApply (n : Chan)
  /-- DRIVER_FAULT_DETECTION (R159): A pin-level or current failure persists for DFN edges or 1 µs. -/
  | driverFaultDetection (d : DrvBad)
  /-- DIVIDER_TERMINAL_COUNT (R160): At a divider terminal count, the divider is compared with its shadow counter. -/
  | dividerTerminalCount (n : Chan) (equal : Bool)
  /-- SYNC_ARM (R168): The ARM command arms a sync reset at an instant T, or is refused. -/
  | syncArm (r : Req) (v : Word)
  /-- SYNC_DISARM (R169): The DISARM command clears an arm whose placement has not begun. -/
  | syncDisarm (r : Req) (v : Word)
  /-- SYNC_PLACEMENT (R170): At T − 200 ns the reset is placed from the latest APLL phase. -/
  | syncPlacement
  /-- SYNC_RESET (R170): At the reset edge, the dividers of the masked running channels restart. -/
  | syncReset
  /-- SYNC_IN_EDGE (R171): A SYNC_IN edge is captured and serves a PIN arm or is counted. -/
  | syncInEdge (code : Fin 2048) (rising : Bool)
  /-- APLL_TRIM (R167): Every TRIMINT, SYNC commands a phase step on the assigned DPLL to trim the APLL onto its target. -/
  | apllTrim (n : Apll)
  /-- TRIM_SATURATION (R167): |APERR| has exceeded 10 ps for 1 s while trimming is on. -/
  | trimSaturation (n : Apll)
  /-- SR_START (R176): The START command arms a SYSREF pattern generator. -/
  | srStart (r : Req) (g : SrGen) (v : Word)
  /-- SR_STOP (R177): The STOP command closes the generator's gate at the next divider boundary or burst end. -/
  | srStop (r : Req) (g : SrGen) (v : Word)
  /-- SR_GATE_OPEN (R176): At the first divider rising edge at or after T_s, the gate opens. -/
  | srGateOpen (g : SrGen)
  /-- SR_PATTERN_END (R176): The ON-th high phase of an NPULSE pattern ends and the gate closes. -/
  | srPatternEnd (g : SrGen)
  /-- ECHO_RESULT (R181): Every AVG, echo ranging delivers τ, λ and Γ for a channel, classified and applied. -/
  | echoResult (n : Chan) (tau : Option Nat) (lam gam : Int)
  /-- TB_INCR_COMMIT (R195): A write of TB_INCR_HI commits the increment pair. -/
  | tbIncrCommit (r : Req) (v : Word)
  /-- TB_INCR_EFFECT (R195): The committed increment takes effect at the second or third tick. -/
  | tbIncrEffect
  /-- TB_SRVW_COMMIT (R195): A PTP engine commits the servo word. -/
  | tbSrvwCommit (r : Req) (v : Word)
  /-- TB_STEER_WRITE (R195): A write of TB_STEER requests a change of steering. -/
  | tbSteerWrite (r : Req) (v : Word)
  /-- TB_STEER_EFFECT (R195): The change of steering takes effect at the second or third tick without a change of rate. -/
  | tbSteerEffect
  /-- TB_MODE_WRITE (R196): A write of TB_MODE requests a change of time format. -/
  | tbModeWrite (r : Req) (v : Word)
  /-- TB_MODE_EFFECT (R196): The format changes at the second or third tick and every stored instant is converted, or the change is refused. -/
  | tbModeEffect
  /-- TB_STEP_COMMAND (R197): A write of TB_STEP_W2 commits a signed step amount. -/
  | tbStepCommand (r : Req) (v : Word)
  /-- TB_STEP_EFFECT (R197): At the second or third tick the step is applied and the epoch rises, or the step is refused. -/
  | tbStepEffect
  /-- TB_BACKEN_WRITE (R199): A write of the key sets BACKARM for 1 s, and any other value is ignored. -/
  | tbBackenWrite (r : Req) (v : Word)
  /-- BACKARM_EXPIRY (R199): BACKARM clears at the end of its 1 s. -/
  | backarmExpiry
  /-- TB_RESYNC (R212): The RESYNC command copies the timebase into its duplicate and clears DUPBAD. -/
  | tbResync (r : Req) (v : Word)
  /-- TB_DUP_MISMATCH (R212): The duplicate timebase mismatches at a tick. -/
  | tbDupMismatch
  /-- TEV_ARM (R201): The ARM command captures the generator's configuration and arms it, or is refused. -/
  | tevArm (r : Req) (g : Gen) (v : Word)
  /-- TEV_DISARM (R201): The DISARM command returns the generator to IDLE. -/
  | tevDisarm (r : Req) (g : Gen) (v : Word)
  /-- TEV_DISABLE (R201): Clearing TEV_CTL.ENABLE disarms every generator. -/
  | tevDisable (r : Req) (v : Word)
  /-- TIMED_EVENT_FIRING (R204): A generator reaches its instant and fires its pins, pulses, snapshot and stamp record. -/
  | timedEventFiring (g : Gen)
  /-- TEV_PIN_PULSE_END (R204): A TEV pin pulse ends after WIDTH ns. -/
  | tevPinPulseEnd (p : Fin 8)
  /-- CAPTURE (R206): A CAP pin edge is time-stamped and recorded. -/
  | capture (p : Cap) (code : Fin 2048) (falling : Bool)
  /-- SNAP_IN_EDGE (R208): A SNAP_IN edge is captured as a snapshot trigger. -/
  | snapInEdge (code : Fin 2048) (falling : Bool)
  /-- SNAPSHOT_TRIGGER (R208): At tick E the common trigger is distributed and every block latches its SNP registers. -/
  | snapshotTrigger
  /-- SNAP_RELEASE (R209): The RELEASE command clears HELD. -/
  | snapRelease (r : Req) (v : Word)
  /-- SNAP_RINGGO (R210): The RINGGO command on the anchor broadcasts a ring snapshot instant. -/
  | snapRinggo (r : Req) (v : Word)
  /-- RING_SNAPSHOT (R210): A member reaches the ring snapshot instant and snapshots. -/
  | ringSnapshot
  /-- ETH_LINK_CHANGE (R217): An Ethernet port gains or loses block lock. -/
  | ethLinkChange (n : Port) (link hiber fecLock : Bool)
  /-- ETH_FRAME_RX (R218): A received frame is classified and terminated, forwarded or dropped. -/
  | ethFrameRx (n : Port) (frame : List Byte) (fcsOk : Bool) (t cor unc : Nat)
  /-- EVENT_RATE_WINDOW (R228): A 1 s event-message window ends and the counts restart. -/
  | eventRateWindow (n : Port)
  /-- PTP_TX_DESCRIPTOR (R226): The engine takes a transmit descriptor from TXQ. -/
  | ptpTxDescriptor (n : Port)
  /-- PTP_FRAME_TX (R220): An originated frame is sent in a gap at or after its launch time and stamped. -/
  | ptpFrameTx (n : Port) (t : Nat)
  /-- ORIGINATED_FRAME_TIMEOUT (R220): An originated frame finds no gap within 2 ms and is dropped. -/
  | originatedFrameTimeout (n : Port)
  /-- PTP_ENABLE (R224): A write of ENABLE = 1 to a PTP engine starts it, or is refused for P2P in INLINE mode. -/
  | ptpEnable (r : Req) (n : Port) (v : Word)
  /-- PTP_SRVEN_WRITE (R231): A write of SRVEN = 1 starts the hardware servo, or is refused. -/
  | ptpSrvenWrite (r : Req) (n : Port) (v : Word)
  /-- PTP_PSTATE_WRITE (R229): SUP writes the port state, parent clockClass and published rank. -/
  | ptpPstateWrite (r : Req) (n : Port) (v : Word)
  /-- PTP_OFFSET_COMMIT (R230): A write of OFS_HI commits an offset, which feeds the virtual source and the hardware servo. -/
  | ptpOffsetCommit (r : Req) (n : Port) (v : Word)
  /-- PTP_PATHHOLD (R237): The PATHHOLD command enters path hold. -/
  | ptpPathhold (r : Req) (n : Port) (v : Word)
  /-- PTP_PATHACCEPT (R238): The PATHACCEPT command ends path hold with the measured delay. -/
  | ptpPathaccept (r : Req) (n : Port) (v : Word)
  /-- PTP_PATHREJECT (R238): The PATHREJECT command ends path hold with MPDREF in use. -/
  | ptpPathreject (r : Req) (n : Port) (v : Word)
  /-- PTP_PARENTCHG (R235): The PARENTCHG command zeroes the proportional term and holds I. -/
  | ptpParentchg (r : Req) (n : Port) (v : Word)
  /-- PTP_SRVRESET (R238): The SRVRESET command clears I and PATHST. -/
  | ptpSrvreset (r : Req) (n : Port) (v : Word)
  /-- PATH_HOLD_TIMEOUT (R237): PATHLEFT reaches 0, and path hold continues. -/
  | pathHoldTimeout (n : Port)
  /-- SYE_RXSSM_WRITE (R241): PTn writes the received SSM codes, and SYE maps them to the published rank. -/
  | syeRxssmWrite (r : Req) (p : Port) (v : Word)
  /-- ESMC_TIMEOUT (R241): 5 s pass without an ESMC PDU and the rank falls to 15. -/
  | esmcTimeout (p : Port)
  /-- ESMC_TICK (R243): Every 1 s of free-running count SYE raises the information-PDU event to PTn. -/
  | esmcTick
  /-- UART_MESSAGE (R244): The UART receives a whole NMEA or binary time message and checks it. -/
  | uartMessage (bytes : List Byte) (framing : Bool) (start : Nat)
  /-- UART_TOD_ASSOCIATION (R245): A message is associated with its 1PPS edge, and the edge time and second difference are recorded. -/
  | uartTodAssociation
  /-- UART_TX_START (R246): TXDLY after a whole second, the UART starts the time message. -/
  | uartTxStart
  /-- UART_TX_END (R246): The transmitted time message ends. -/
  | uartTxEnd
  /-- GL_CELL_RX (R258): A Guyline cell is received, checked, acted on and forwarded. -/
  | glCellRx (p : Port) (header : Word64) (payload : List Byte) (arr : Nat)
  /-- GL_TIME_INITIATION (R259): Every 1 ms GLA initiates a TIME exchange on an UP port. -/
  | glTimeInitiation
  /-- GL_ALIGNED_CHECK (R263): The mean |o| has stayed within ALIGNTHR for 1 s. -/
  | glAlignedCheck
  /-- GL_LANE_RANGING_RESULT (R260): Every 8 s a GL transmitter delivers a lane-ranging result. -/
  | glLaneRangingResult (p : Port) (tau : Option Nat) (gam : Int)
  /-- GL_TOKEN_REGEN (R269): The anchor sees no token for 1 ms and creates a new one. -/
  | glTokenRegen
  /-- GL_TOKEN_HOLD_END (R269): TOKMAX passes since the token arrived, and the member passes it on. -/
  | glTokenHoldEnd (d : Port)
  /-- GL_PORT_UP (R272): A port reaches block lock and 64 valid cells, and becomes UP and MEASURING. -/
  | glPortUp (p : Port)
  /-- GL_MEASURING_END (R272): A port ends its 1 s of MEASURING and its hop carries time. -/
  | glMeasuringEnd (p : Port)
  /-- GL_PORT_DOWN (R273): A port loses block lock or sees 16 invalid cells, and the ring opens or isolates members. -/
  | glPortDown (p : Port)
  /-- GL_LINK_FAULT (R274): A port stays DOWN for LINKFLT. -/
  | glLinkFault (p : Port)
  /-- GL_FORM (R272): The FORM command on the anchor starts ring discovery. -/
  | glForm (r : Req) (v : Word)
  /-- GL_REJOIN (R264): The REJOIN command ends ALIGNHOLD and repeats the first alignment. -/
  | glRejoin (r : Req) (v : Word)
  /-- SRC20_RANK_TIMEOUT (R266): 10 ms pass without a TIME cell from upstream, and SRC20's rank falls to 15. -/
  | src20RankTimeout
  /-- TUNNELLED_ACCESS (R276): An access to another member in the gang window is sent as a TUNREQ, or completes at once as absent. -/
  | tunnelledAccess (r : Req) (a : Nat) (w : Option Word)
  /-- TUNNEL_ISSUE (R276): An access that waited behind four outstanding accesses is issued. -/
  | tunnelIssue
  /-- TUNNEL_TIMEOUT (R277): No TUNRSP arrives within 200 µs, and the access completes with ACC_TIMEOUT. -/
  | tunnelTimeout
  /-- GANG_ENABLE (R278): A write of GL_GANG enables the gang window, or is ignored outside CLOSED or OPEN. -/
  | gangEnable (r : Req) (v : Word)
  /-- HANDLER_ENTRY (R303): A free engine takes its next pending event and starts the handler. -/
  | handlerEntry (k : EngId)
  /-- SUP_TICK (R301): Each 1 ms of C the supervisor's TICK event becomes pending. -/
  | supTick
  /-- HANDLER_OVERRUN (R306): A handler's running time exceeds its loader bound and the fault is raised. -/
  | handlerOverrun (k : EngId)
  /-- QPUT_WAIT_END (R296): An engine held at a QPUT with W = 1 is released when space exists. -/
  | qputWaitEnd (k : EngId)
  /-- SEND_WAIT_END (R297): An engine held at a SEND with W = 1 is released by a credit or ABSENT. -/
  | sendWaitEnd (k : EngId)
  /-- AT_ENTRY_FIRING (R299): An at-time entry reaches its target and its captured POUT, SNAP or RAISE acts. -/
  | atEntryFiring (k : EngId)
  /-- ADD (R288): Adds two registers. -/
  | add (k : EngId) (rd ra rb : Reg)
  /-- SUB (R288): Subtracts two registers. -/
  | sub (k : EngId) (rd ra rb : Reg)
  /-- AND (R288): Bitwise and of two registers. -/
  | and (k : EngId) (rd ra rb : Reg)
  /-- OR (R288): Bitwise or of two registers. -/
  | or (k : EngId) (rd ra rb : Reg)
  /-- XOR (R288): Bitwise exclusive or of two registers. -/
  | xor (k : EngId) (rd ra rb : Reg)
  /-- SHL (R288): Shifts left by a register. -/
  | shl (k : EngId) (rd ra rb : Reg)
  /-- SHR (R288): Shifts logically right by a register. -/
  | shr (k : EngId) (rd ra rb : Reg)
  /-- SAR (R288): Shifts arithmetically right by a register. -/
  | sar (k : EngId) (rd ra rb : Reg)
  /-- ADDS (R288): Saturating signed addition. -/
  | adds (k : EngId) (rd ra rb : Reg)
  /-- SUBS (R288): Saturating signed subtraction. -/
  | subs (k : EngId) (rd ra rb : Reg)
  /-- MIN (R288): Signed minimum. -/
  | min (k : EngId) (rd ra rb : Reg)
  /-- MAX (R288): Signed maximum. -/
  | max (k : EngId) (rd ra rb : Reg)
  /-- MINU (R288): Unsigned minimum. -/
  | minu (k : EngId) (rd ra rb : Reg)
  /-- MAXU (R288): Unsigned maximum. -/
  | maxu (k : EngId) (rd ra rb : Reg)
  /-- MUL (R288): Low 64 bits of the product. -/
  | mul (k : EngId) (rd ra rb : Reg)
  /-- MULHS (R288): High 64 bits of the signed product. -/
  | mulhs (k : EngId) (rd ra rb : Reg)
  /-- CMP (R288): Compares two registers and sets the flags. -/
  | cmp (k : EngId) (ra rb : Reg)
  /-- ABS (R288): Saturating absolute value. -/
  | abs (k : EngId) (rd ra : Reg)
  /-- NEGS (R288): Saturating negation. -/
  | negs (k : EngId) (rd ra : Reg)
  /-- CLZ (R288): Counts leading zero bits. -/
  | clz (k : EngId) (rd ra : Reg)
  /-- SXT (R288): Sign-extends from a given bit. -/
  | sxt (k : EngId) (rd ra : Reg) (b : BitVec 6)
  /-- ADDI (R288): Adds a sign-extended immediate. -/
  | addi (k : EngId) (rd ra : Reg) (imm : BitVec 16)
  /-- ANDI (R288): Bitwise and with a zero-extended immediate. -/
  | andi (k : EngId) (rd ra : Reg) (imm : BitVec 16)
  /-- ORI (R288): Bitwise or with a zero-extended immediate. -/
  | ori (k : EngId) (rd ra : Reg) (imm : BitVec 16)
  /-- XORI (R288): Bitwise exclusive or with a zero-extended immediate. -/
  | xori (k : EngId) (rd ra : Reg) (imm : BitVec 16)
  /-- SHLI (R287): Shifts left by an immediate. -/
  | shli (k : EngId) (rd ra : Reg) (sh : BitVec 6)
  /-- SHRI (R287): Shifts logically right by an immediate. -/
  | shri (k : EngId) (rd ra : Reg) (sh : BitVec 6)
  /-- SARI (R287): Shifts arithmetically right by an immediate. -/
  | sari (k : EngId) (rd ra : Reg) (sh : BitVec 6)
  /-- CMPI (R288): Compares with a sign-extended immediate. -/
  | cmpi (k : EngId) (ra : Reg) (imm : BitVec 16)
  /-- LDK (R288): Loads a sign-extended 16-bit constant. -/
  | ldk (k : EngId) (rd : Reg) (imm : BitVec 16)
  /-- SHIN (R288): Shifts left by 16 bits and inserts an immediate. -/
  | shin (k : EngId) (rd : Reg) (imm : BitVec 16)
  /-- MULQ (R289): Fixed-point multiply with rounding and saturation. -/
  | mulq (k : EngId) (rd ra rb : Reg) (sh : BitVec 6)
  /-- MACQ (R289): Fixed-point multiply-accumulate. -/
  | macq (k : EngId) (rd ra rb : Reg) (sh : BitVec 6)
  /-- MSUQ (R289): Fixed-point multiply-subtract. -/
  | msuq (k : EngId) (rd ra rb : Reg) (sh : BitVec 6)
  /-- DIVS (R290): Signed division truncated towards zero. -/
  | divs (k : EngId) (rd ra rb : Reg)
  /-- SQRTU (R290): Unsigned integer square root. -/
  | sqrtu (k : EngId) (rd ra : Reg)
  /-- LD8U (R291): Loads a byte, zero-extended. -/
  | ld8u (k : EngId) (rd ra : Reg) (imm : BitVec 16)
  /-- LD8S (R291): Loads a byte, sign-extended. -/
  | ld8s (k : EngId) (rd ra : Reg) (imm : BitVec 16)
  /-- LD16U (R291): Loads 16 bits, zero-extended. -/
  | ld16u (k : EngId) (rd ra : Reg) (imm : BitVec 16)
  /-- LD16S (R291): Loads 16 bits, sign-extended. -/
  | ld16s (k : EngId) (rd ra : Reg) (imm : BitVec 16)
  /-- LD32U (R291): Loads 32 bits, zero-extended. -/
  | ld32u (k : EngId) (rd ra : Reg) (imm : BitVec 16)
  /-- LD32S (R291): Loads 32 bits, sign-extended. -/
  | ld32s (k : EngId) (rd ra : Reg) (imm : BitVec 16)
  /-- LD64 (R291): Loads 64 bits. -/
  | ld64 (k : EngId) (rd ra : Reg) (imm : BitVec 16)
  /-- ST8 (R291): Stores a byte. -/
  | st8 (k : EngId) (rs ra : Reg) (imm : BitVec 16)
  /-- ST16 (R291): Stores 16 bits. -/
  | st16 (k : EngId) (rs ra : Reg) (imm : BitVec 16)
  /-- ST32 (R291): Stores 32 bits. -/
  | st32 (k : EngId) (rs ra : Reg) (imm : BitVec 16)
  /-- ST64 (R291): Stores 64 bits. -/
  | st64 (k : EngId) (rs ra : Reg) (imm : BitVec 16)
  /-- FWD (R292): Moves forward when the condition holds. -/
  | fwd (k : EngId) (cond : BitVec 4) (off : BitVec 16)
  /-- LOOP (R293): Runs the following body a counted number of times. -/
  | loop (k : EngId) (count : Nat) (len : BitVec 14)
  /-- CALL (R294): Pushes the return index and continues at the target. -/
  | call (k : EngId) (target : BitVec 16)
  /-- RET (R294): Returns to the index on top of the call stack. -/
  | ret (k : EngId)
  /-- DONE (R300): Ends the handler and empties both stacks. -/
  | done (k : EngId)
  /-- NOP (R287): Does nothing. -/
  | nop (k : EngId)
  /-- PIN (R295): Reads one register of a block window through the engine's port. -/
  | pin (k : EngId) (rd ra : Reg) (port off8 : BitVec 8)
  /-- POUT (R295): Writes one register of a block window through the engine's port. -/
  | pout (k : EngId) (rs ra : Reg) (port off8 : BitVec 8)
  /-- QPUT (R296): Enqueues a 32-byte entry under the queue's mode. -/
  | qput (k : EngId) (rg : Reg) (q : Queue) (w : Bool)
  /-- QGET (R296): Removes the oldest entry of a queue, or reports EMPTY. -/
  | qget (k : EngId) (rg : Reg) (q : Queue) (w : Bool)
  /-- SEND (R297): Sends an entry to a queue of a ring member as a BULK cell. -/
  | send (k : EngId) (rg : Reg) (m : Fin 8) (q : Queue) (w : Bool)
  /-- AT (R299): Arms an at-time entry for the following POUT, SNAP or RAISE. -/
  | armAt (k : EngId) (ra : Reg) (baseC : Bool)
  /-- TNOW (R298): Reads timebase time or the free-running count, with its epoch. -/
  | tnow (k : EngId) (rd : Reg) (baseC : Bool)
  /-- SNAP (R300): Distributes the common snapshot trigger at the next tick when INSTR is enabled. -/
  | snap (k : EngId)
  /-- RAISE (R300): Makes an event pending at a target engine, or raises ENG_RAISE. -/
  | raise (k : EngId) (target : BitVec 4) (code : BitVec 16)
  /-- MFS (R285): Reads a special register. -/
  | mfs (k : EngId) (rd : Reg) (sreg : BitVec 5)
  /-- MTS (R285): Writes FLAGS. -/
  | mts (k : EngId) (ra : Reg) (sreg : BitVec 5)
  /-- LOADER_LOAD (R315): The LOAD command starts reading and checking an image for a target engine, or is refused. -/
  | loaderLoad (r : Req) (v : Word)
  /-- LOAD_CHECK_COMPLETE (R316): The loader finishes its checks and the load waits for the target. -/
  | loadCheckComplete
  /-- LOAD_TARGET_HOLD (R316): The target reaches DONE, or is idle, and is held for the copy. -/
  | loadTargetHold
  /-- LOAD_COPY_COMPLETE (R316): The image is copied, the state is cleared and START becomes pending. -/
  | loadCopyComplete
  /-- ENGINE_HALT (R317): The HALT command stops the engine after its handler in progress. -/
  | engineHalt (r : Req) (k : EngId) (v : Word)
  /-- ENGINE_RUN (R317): The RUN command resumes an engine halted by command. -/
  | engineRun (r : Req) (k : EngId) (v : Word)
  /-- ENGINE_RESTART (R317): The RESTART command clears the engine's registers and makes START pending. -/
  | engineRestart (r : Req) (k : EngId) (v : Word)
  /-- PCIE_BAR0_REQUEST (R374): A PCIe memory request to BAR0 is resolved into 32-bit register accesses. -/
  | pcieBar0Request (write : Bool) (a : Nat) (dws : List (BitVec 4 × Word))
  /-- PCIE_BAR2_ACCESS (R329): A PCIe request reaches shared SRAM through BAR2. -/
  | pcieBar2Access (write : Bool) (a : Nat) (dws : List (BitVec 4 × Word))
  /-- PCIE_LINK_CHANGE (R330): The PCIe link, Bus Master Enable or D3hot changes, and DMA pauses or resumes. -/
  | pcieLinkChange (up : Bool) (speed : Fin 4) (width : Fin 4) (bme d3 : Bool)
  /-- PERST_ASSERT (R331): PERST_N resets the configuration space, the link, MSI-X and the DMA controls. -/
  | perstAssert
  /-- PCIE_AER_ERROR (R331): The endpoint sets an AER uncorrectable error bit. -/
  | pcieAerError (bit : Fin 32)
  /-- SPI_ADDRESS_FRAME (R332): The SPI target takes the address frame of a transaction. -/
  | spiAddressFrame (f : Word)
  /-- SPI_WRITE_FRAME (R334): A write data frame enters the write buffer, or is discarded when the buffer is full. -/
  | spiWriteFrame (v : Word)
  /-- SPI_BUFFERED_WRITE (R334): The next buffered SPI write is carried out. -/
  | spiBufferedWrite
  /-- SPI_READ_ACCESS (R333): An SPI read access completes and its marker and datum are sent. -/
  | spiReadAccess
  /-- SPI_CS_RISE (R332): SPI_CS_N rises and ends the transaction, discarding a partial frame. -/
  | spiCsRise (part : Bool)
  /-- I2C_WRITE (R335): An I²C write transaction writes registers. -/
  | i2cWrite (a : Word) (bytes : List Byte)
  /-- I2C_READ (R335): An I²C read transaction reads registers with clock stretching. -/
  | i2cRead (a : Word) (n : Nat)
  /-- QUEUE_ENABLE (R336): A write of ENABLE = 1 enables a queue, or is refused. -/
  | queueEnable (r : Req) (n : Queue) (v : Word)
  /-- QUEUE_DISABLE (R339): A write of ENABLE = 0 disables a queue and discards its entries, or is ignored while its ring is enabled. -/
  | queueDisable (r : Req) (n : Queue) (v : Word)
  /-- QUEUE_MODE_WRITE (R337): A write of MODE changes the queue's full behaviour and may release held producers. -/
  | queueModeWrite (r : Req) (n : Queue) (v : Word)
  /-- QUEUE_DEADLINE (R338): The drain timer of a STALL queue reaches QDL. -/
  | queueDeadline (n : Queue)
  /-- RING_ENABLE (R341): A write of ENABLE = 1 enables a ring, or is refused. -/
  | ringEnable (r : Req) (n : Queue) (v : Word)
  /-- RING_DISABLE (R345): A write of ENABLE = 0 disables a ring and clears ERR. -/
  | ringDisable (r : Req) (n : Queue) (v : Word)
  /-- RING_HIDX_WRITE (R340): The host writes HIDX, or is refused for an index beyond N. -/
  | ringHidxWrite (r : Req) (n : Queue) (v : Word)
  /-- DMA_D2H_MOVE (R342): The DMA block moves queue entries into a D2H ring and writes back. -/
  | dmaD2hMove (n : Queue) (count : Nat)
  /-- DMA_H2D_MOVE (R342): The DMA block moves ring elements from an H2D ring into its queue. -/
  | dmaH2dMove (n : Queue) (elems : List (BitVec 256))
  /-- QDATA_AGE_EXPIRY (R344): The oldest element since the last Q_DATA becomes TIME µs old. -/
  | qdataAgeExpiry (n : Queue)
  /-- DMA_RING_ERROR (R345): A ring read or write fails on the bus, and the ring enters ERR. -/
  | dmaRingError (n : Queue) (bus : Word64)
  /-- EVT_ACK_WRITE (R346): A write to EVT_ACK clears pending bits and may re-send MSI-X messages. -/
  | evtAckWrite (r : Req) (g : Fin 16) (v : Word)
  /-- MSIX_UNMASK (R347): The vector or function mask is removed, and one held message is sent. -/
  | msixUnmask (vec : Option (Fin 64))
  /-- FAULT_MESSAGE (R379): A fault message reaches the collector's arbiter and is latched or discarded. -/
  | faultMessage (i : Nat)
  /-- FAULT_PULSE_END (R381): FLT_PULSE ends, and FAULT_N follows PINLVL. -/
  | faultPulseEnd
  /-- ESCALATION_EXPIRY (R383): The escalation timer expires, the collector enters SAFE and the safe-state command goes to every block. -/
  | escalationExpiry
  /-- FLT_ACK_WRITE (R382): Software acknowledges a record, which stops escalation if in time. -/
  | fltAckWrite (r : Req) (v : Word)
  /-- FAULT_CLEAR (R387): A sequence-matched write of FLT_STATUS leaves the fault state, or is refused while the cause is present. -/
  | faultClear (r : Req) (v : Word)
  /-- FAULT_IN_FALL (R389): The filtered FAULT_IN_N pin falls. -/
  | faultInFall
  /-- FAULT_IN_RISE (R389): The filtered FAULT_IN_N pin rises. -/
  | faultInRise
  /-- FAULT_INJECTION (R391): The collector takes an entry from INJQ and presents it as a fault message. -/
  | faultInjection
  /-- TDC_LINEARISATION (R397): A TDC code-density collection completes and its knots are checked and applied. -/
  | tdcLinearisation (i : Fin 38) (counts : List Nat)
  /-- FRET_TABLE_REFORM (R399): The die temperature has moved 0.5 K, and the fret tables are re-formed. -/
  | fretTableReform
  /-- FCAL_UPDATE (R399): Every FRETINT, λ is tracked and FCAL is written. -/
  | fcalUpdate (n : Chan) (lam : Int)
  /-- CALSEQ_START (R405): The START command begins CALSEQ on the masked instances. -/
  | calseqStart (r : Req) (v : Word)
  /-- CALSEQ_CONT (R405): The CONT command ends the ECHOWAIT step. -/
  | calseqCont (r : Req) (v : Word)
  /-- CALSEQ_ABORT (R407): The ABORT command stops the sequence with RESULT = ABORTED. -/
  | calseqAbort (r : Req) (v : Word)
  /-- CALSEQ_STEP_DONE (R405): A CALSEQ step completes and the next begins, or the sequence ends. -/
  | calseqStepDone (fret : List (Nat × List Nat × Int))
  /-- CAL_TPTS_WRITE (R402): A write of the temperature points is taken and re-forms the values in force, or is ignored. -/
  | calTptsWrite (r : Req) (j : Fin 2) (v : Word)
  /-- CAL_TDATA_ACCESS (R404): An access to CAL_TDATA reads or writes a trim entry and advances ENTRY. -/
  | calTdataAccess (r : Req) (w : Option Word)
  /-- AGE_READING (R409): Every AGEINT the ageing sensor pairs are measured. -/
  | ageReading (ratios : List Nat)
  /-- HLTH_PLAN_WRITE (R410): SUP writes a plan, which HLTH applies within its limits. -/
  | hlthPlanWrite (r : Req) (v : Word)
  /-- HLTH_AGEACK (R411): The AGEACK command clears AGEFLT. -/
  | hlthAgeack (r : Req) (v : Word)
  /-- HLTH_AGENOW (R418): The AGENOW command takes an ageing reading now. -/
  | hlthAgenow (r : Req) (v : Word)
  /-- VCORE_OFFSET_STEP (R444): PWR raises the VCORE offset by one 5 mV step. -/
  | vcoreOffsetStep
  /-- DIE_TEMP_READING (R412): Every 10 ms the on-die sensors are read and HLTH_TDIE is formed. -/
  | dieTempReading (temps : List Int)
  /-- LIFEDATA_ACCESS (R413): An access to HLTH_LIFEDATA reads or restores a lifetime record and advances the index. -/
  | lifedataAccess (r : Req) (w : Option Word)
  /-- NV_READ (R421): The READ operation copies bytes from the cells into the page buffer. -/
  | nvRead (r : Req) (v : Word) (upset : List (Nat × Bool))
  /-- NV_WRITE (R422): The WRITE operation writes buffer bytes to the cells row by row. -/
  | nvWrite (r : Req) (v : Word)
  /-- NV_COPYOUT (R421): The COPYOUT operation copies pages to shared SRAM. -/
  | nvCopyout (r : Req) (v : Word) (upset : List (Nat × Bool))
  /-- NV_COPYIN (R421): The COPYIN operation writes pages from shared SRAM. -/
  | nvCopyin (r : Req) (v : Word)
  /-- NV_UNLOCK (R424): The UNLOCK operation presents a password for a region and kind. -/
  | nvUnlock (r : Req) (v : Word)
  /-- NV_RELOCK (R421): The RELOCK operation withdraws a region's unlocks. -/
  | nvRelock (r : Req) (v : Word)
  /-- NV_SETPWD (R426): The SETPWD operation sets a region's password through two copies. -/
  | nvSetpwd (r : Req) (v : Word)
  /-- NV_SCANNOW (R430): The SCANNOW operation starts a full refresh scan. -/
  | nvScannow (r : Req) (v : Word)
  /-- NV_OPERATION_DONE (R421): An NVS operation completes with its result. -/
  | nvOperationDone
  /-- NV_WAITING_COMMAND_START (R429): A command that waited for an internal operation begins. -/
  | nvWaitingCommandStart
  /-- NV_REFRESH_ROW (R430): The refresh scan reads a row and rewrites it when needed. -/
  | nvRefreshRow (cond : Fin 4)
  /-- NV_SLOT_UPDATE (R431): SUP writes a value into the next slot of a ring. -/
  | nvSlotUpdate (r : Req) (v : Word)
  /-- NV_SLOT_FETCH (R431): SUP fetches the valid value of a ring. -/
  | nvSlotFetch (r : Req) (v : Word)
  /-- VIN_ON (R456): VIN rises through VINON and start-up begins. -/
  | vinOn
  /-- POR_RELEASE (R456): The rails are good, POR is released, the straps are latched and the boot data are loaded. -/
  | porRelease (id : Fin 8) (boot : Fin 4)
  /-- TB_PLL_LOCK (R456): The BAW is stable and the TB PLL locks, C and time start and image loading begins. -/
  | tbPllLock
  /-- SUPPLY_DETECTION (R443): A VIN condition or rail excursion lasts 10 µs. -/
  | supplyDetection (cond : Fin 7)
  /-- VINLOW_ARM_TIMEOUT (R443): VIN has not risen above VINLOW within 50 ms of the release, and the condition becomes present. -/
  | vinlowArmTimeout
  /-- VIN_FAIL (R457): VIN falls through VINFAIL and NVS begins no further row. -/
  | vinFail
  /-- VIN_OFF (R457): VIN falls through VINOFF and power-on reset is asserted. -/
  | vinOff
  /-- THERMAL_RESET (R445): The hottest sensor reads 145 °C or above for 1 ms, and a thermal reset is asserted. -/
  | thermalReset
  /-- THERMAL_RESET_RELEASE (R445): Every sensor reads below 120 °C, and the thermal reset is released. -/
  | thermalResetRelease
  /-- RESET_N_ASSERT (R447): RESET_N is held low for at least 1 µs. -/
  | resetNAssert
  /-- RESET_N_RELEASE (R447): RESET_N is released and start-up resumes at step 3. -/
  | resetNRelease (id : Fin 8) (boot : Fin 4)
  /-- SOFT_RESET (R449): A keyed write to SYS_SOFTRST resets the device and runs start-up from step 4. -/
  | softReset (r : Req) (v : Word)
  /-- BLOCK_RESET (R450): A keyed write to SYS_BLKRST resets one block. -/
  | blockReset (r : Req) (v : Word)
  /-- APLL_PHASE_MEASUREMENT (R165): At least once every 1 ms, SYNC measures the phase of each locked APLL against its grid and updates SYNC_APHx and SYNC_APERRx. -/
  | apllPhaseMeasurement (n : Apll) (raw : Int)
  /-- SUPPLY_CONDITION_END (R443): VIN rises out of VINLOW or VINFAIL, falls out of VINHIGH, or a rail returns within ±4.5 %, arming VINLOW, ending the condition and clearing SUPBAD or PWRHOLD. -/
  | supplyConditionEnd (cond : Fin 8)
  /-- DRVBAD_CLEAR (R159): After DFN consecutive good edges, DRVBAD, the cause-present bit of DRV_FAULT, clears. -/
  | drvbadClear (d : DrvGood)
  /-- AER_STATUS_CLEAR (R331): The host clears the AER Uncorrectable Error Status in configuration space, and AERPEND clears. -/
  | aerStatusClear (mask : Word)
  /-- PERST_RELEASE (R331): PERST_N is released, the PCIE_ERR detector is unmasked and the link may train. -/
  | perstRelease
  /-- HELD_OFFSET_SAMPLE (R234): In step hold or path hold under VSRCEN, the PTP engine delivers the last offset before entry as a phase sample at each expected interval. -/
  | heldOffsetSample (n : Port)
  /-- TOD_ASSOCIATION_TIMEOUT (R245): With TODREF = NEXT, 990 ms pass after a message's stop bit without a PPSSRC edge, and UART_ERR is raised with cause ASSOC. -/
  | todAssociationTimeout
  /-- DISC_RETURN_DEADLINE (R272): During FORMING, the anchor concludes that no DISC came back round, builds the member table and sets RSTATE = OPEN. -/
  | discReturnDeadline
  /-- LIFETIME_HOUR (R413): HLTH advances the time-based lifetime records: powered hours, the temperature and VIN bin hours, and the bivouac minutes. -/
  | lifetimeHour (vin : BitVec 16)
  deriving DecidableEq, Repr

end Sys2Proof
end

