-- ==== Sys2Proof/WellFormed.lean ====
section
/-!
DEFINITION. Which commands are well formed: a requester that the device has (R375), and operands within what their rows
allow: addresses of the size a door carries (R328, R332, R335), legal conditions, counts and groups of the instructions
(R286 to R300), whole cells (R256) and complete readings (R397, R409, R412).
-/

namespace Sys2Proof

/-- A requester whose accesses are commands of their own; those of the early-out script are part of start-up (R455). -/
def Req.ok : Req → Bool
  | .pcie => true
  | .spi => true
  | .i2c => true
  | .eng k => decide (k < 11)
  | .tunnel m => decide (m < 8)
  | .atEntry k => decide (k < 11)
  | .script => false

/-- The requester of a command that is a register access. -/
def Instr.sender : Instr → Option Req
  | .registerWrite r _ _ _ => some r
  | .latchingRead r _ _ => some r
  | .stagedWrite r _ _ => some r
  | .setAliasWrite r _ _ => some r
  | .clrAliasWrite r _ _ => some r
  | .tglAliasWrite r _ _ => some r
  | .stsSeqClear r _ _ => some r
  | .guardLockWrite r _ => some r
  | .blockTimeout r _ _ _ => some r
  | .lateBlockAnswer _ => none
  | .heldCrossingEffect => none
  | .parityScrub _ _ => none
  | .sramScrub _ _ => none
  | .handlerEntry _ => none
  | .supTick => none
  | .handlerOverrun _ => none
  | .qputWaitEnd _ => none
  | .sendWaitEnd _ => none
  | .atEntryFiring _ => none
  | .add _ _ _ _ => none
  | .sub _ _ _ _ => none
  | .and _ _ _ _ => none
  | .or _ _ _ _ => none
  | .xor _ _ _ _ => none
  | .shl _ _ _ _ => none
  | .shr _ _ _ _ => none
  | .sar _ _ _ _ => none
  | .adds _ _ _ _ => none
  | .subs _ _ _ _ => none
  | .min _ _ _ _ => none
  | .max _ _ _ _ => none
  | .minu _ _ _ _ => none
  | .maxu _ _ _ _ => none
  | .mul _ _ _ _ => none
  | .mulhs _ _ _ _ => none
  | .cmp _ _ _ => none
  | .abs _ _ _ => none
  | .negs _ _ _ => none
  | .clz _ _ _ => none
  | .sxt _ _ _ _ => none
  | .addi _ _ _ _ => none
  | .andi _ _ _ _ => none
  | .ori _ _ _ _ => none
  | .xori _ _ _ _ => none
  | .shli _ _ _ _ => none
  | .shri _ _ _ _ => none
  | .sari _ _ _ _ => none
  | .cmpi _ _ _ => none
  | .ldk _ _ _ => none
  | .shin _ _ _ => none
  | .mulq _ _ _ _ _ => none
  | .macq _ _ _ _ _ => none
  | .msuq _ _ _ _ _ => none
  | .divs _ _ _ _ => none
  | .sqrtu _ _ _ => none
  | .ld8u _ _ _ _ => none
  | .ld8s _ _ _ _ => none
  | .ld16u _ _ _ _ => none
  | .ld16s _ _ _ _ => none
  | .ld32u _ _ _ _ => none
  | .ld32s _ _ _ _ => none
  | .ld64 _ _ _ _ => none
  | .st8 _ _ _ _ => none
  | .st16 _ _ _ _ => none
  | .st32 _ _ _ _ => none
  | .st64 _ _ _ _ => none
  | .fwd _ _ _ => none
  | .loop _ _ _ => none
  | .call _ _ => none
  | .ret _ => none
  | .done _ => none
  | .nop _ => none
  | .pin _ _ _ _ _ => none
  | .pout _ _ _ _ _ => none
  | .qput _ _ _ _ => none
  | .qget _ _ _ _ => none
  | .send _ _ _ _ _ => none
  | .armAt _ _ _ => none
  | .tnow _ _ _ => none
  | .snap _ => none
  | .raise _ _ _ => none
  | .mfs _ _ _ => none
  | .mts _ _ _ => none
  | .loaderLoad r _ => some r
  | .loadCheckComplete => none
  | .loadTargetHold => none
  | .loadCopyComplete => none
  | .engineHalt r _ _ => some r
  | .engineRun r _ _ => some r
  | .engineRestart r _ _ => some r
  | .pcieBar0Request _ _ _ => none
  | .pcieBar2Access _ _ _ => none
  | .pcieLinkChange _ _ _ _ _ => none
  | .perstAssert => none
  | .pcieAerError _ => none
  | .spiAddressFrame _ => none
  | .spiWriteFrame _ => none
  | .spiBufferedWrite => none
  | .spiReadAccess => none
  | .spiCsRise _ => none
  | .i2cWrite _ _ => none
  | .i2cRead _ _ => none
  | .queueEnable r _ _ => some r
  | .queueDisable r _ _ => some r
  | .queueModeWrite r _ _ => some r
  | .queueDeadline _ => none
  | .ringEnable r _ _ => some r
  | .ringDisable r _ _ => some r
  | .ringHidxWrite r _ _ => some r
  | .dmaD2hMove _ _ => none
  | .dmaH2dMove _ _ => none
  | .qdataAgeExpiry _ => none
  | .dmaRingError _ _ => none
  | .evtAckWrite r _ _ => some r
  | .msixUnmask _ => none
  | .faultMessage _ => none
  | .faultPulseEnd => none
  | .escalationExpiry => none
  | .fltAckWrite r _ => some r
  | .faultClear r _ => some r
  | .faultInFall => none
  | .faultInRise => none
  | .faultInjection => none
  | .aerStatusClear _ => none
  | .perstRelease => none
  | .sourceEdge _ _ => none
  | .missedNominalEdge _ => none
  | .xoLoss => none
  | .xoReturn => none
  | .basisChange => none
  | .binClose _ => none
  | .mtieBinClose _ => none
  | .tdevStride _ => none
  | .srcEnable r _ _ => some r
  | .srcDisable r _ _ => some r
  | .srcForceWrite r _ _ => some r
  | .srcVerdictWrite r _ _ => some r
  | .pendTimerExpiry _ => none
  | .verdictStale _ => none
  | .srcAccept r _ _ => some r
  | .srcHold r _ _ => some r
  | .srcClrstat r _ _ => some r
  | .selectorEvaluation _ => none
  | .selReeval r _ _ => some r
  | .selAbsorb r _ _ => some r
  | .switchFirstSample _ => none
  | .retargetFirstSample _ => none
  | .returnFirstSample _ => none
  | .dpllUpdate _ _ => none
  | .dcowCommit r _ _ => some r
  | .howordCommit r _ _ => some r
  | .phaseStepCommand r _ _ => some r
  | .psabort r _ _ => some r
  | .dpllEnable r _ _ => some r
  | .dpllDisable r _ _ => some r
  | .tiedSet r _ => some r
  | .tiedClear r _ => some r
  | .lpstatWrite r _ _ => some r
  | .flockWindowEnd _ => none
  | .oscEvaluation => none
  | .thermistorSample _ => none
  | .learningSample => none
  | .oscGenCommit r _ => some r
  | .lsInfoRead r => some r
  | .teestUpdate => none
  | .bawFail _ _ => none
  | .clkCountCheck _ => none
  | .apllEnable r _ _ => some r
  | .apllDisable r _ _ => some r
  | .bandSearchDone _ _ => none
  | .apllLockAcquired _ => none
  | .vtuneSample _ _ => none
  | .apllLossOfLock _ => none
  | .brgMapWrite r _ => some r
  | .outEnable r _ _ => some r
  | .outStartOnLock _ => none
  | .outDisable r _ _ => some r
  | .fretMove _ => none
  | .outResume r _ _ => some r
  | .safeActionApply _ => none
  | .driverFaultDetection _ => none
  | .dividerTerminalCount _ _ => none
  | .syncArm r _ => some r
  | .syncDisarm r _ => some r
  | .syncPlacement => none
  | .syncReset => none
  | .syncInEdge _ _ => none
  | .apllTrim _ => none
  | .trimSaturation _ => none
  | .srStart r _ _ => some r
  | .srStop r _ _ => some r
  | .srGateOpen _ => none
  | .srPatternEnd _ => none
  | .echoResult _ _ _ _ => none
  | .tbIncrCommit r _ => some r
  | .tbIncrEffect => none
  | .tbSrvwCommit r _ => some r
  | .tbSteerWrite r _ => some r
  | .tbSteerEffect => none
  | .tbModeWrite r _ => some r
  | .tbModeEffect => none
  | .tbStepCommand r _ => some r
  | .tbStepEffect => none
  | .tbBackenWrite r _ => some r
  | .backarmExpiry => none
  | .tbResync r _ => some r
  | .tbDupMismatch => none
  | .tevArm r _ _ => some r
  | .tevDisarm r _ _ => some r
  | .tevDisable r _ => some r
  | .timedEventFiring _ => none
  | .tevPinPulseEnd _ => none
  | .capture _ _ _ => none
  | .snapInEdge _ _ => none
  | .snapshotTrigger => none
  | .snapRelease r _ => some r
  | .snapRinggo r _ => some r
  | .ringSnapshot => none
  | .ethLinkChange _ _ _ _ => none
  | .ethFrameRx _ _ _ _ _ _ => none
  | .eventRateWindow _ => none
  | .ptpTxDescriptor _ => none
  | .ptpFrameTx _ _ => none
  | .originatedFrameTimeout _ => none
  | .ptpEnable r _ _ => some r
  | .ptpSrvenWrite r _ _ => some r
  | .ptpPstateWrite r _ _ => some r
  | .ptpOffsetCommit r _ _ => some r
  | .ptpPathhold r _ _ => some r
  | .ptpPathaccept r _ _ => some r
  | .ptpPathreject r _ _ => some r
  | .ptpParentchg r _ _ => some r
  | .ptpSrvreset r _ _ => some r
  | .pathHoldTimeout _ => none
  | .syeRxssmWrite r _ _ => some r
  | .esmcTimeout _ => none
  | .esmcTick => none
  | .uartMessage _ _ _ => none
  | .uartTodAssociation => none
  | .uartTxStart => none
  | .uartTxEnd => none
  | .glCellRx _ _ _ _ => none
  | .glTimeInitiation => none
  | .glAlignedCheck => none
  | .glLaneRangingResult _ _ _ => none
  | .glTokenRegen => none
  | .glTokenHoldEnd _ => none
  | .glPortUp _ => none
  | .glMeasuringEnd _ => none
  | .glPortDown _ => none
  | .glLinkFault _ => none
  | .glForm r _ => some r
  | .glRejoin r _ => some r
  | .src20RankTimeout => none
  | .tunnelledAccess r _ _ => some r
  | .tunnelIssue => none
  | .tunnelTimeout => none
  | .gangEnable r _ => some r
  | .tdcLinearisation _ _ => none
  | .fretTableReform => none
  | .fcalUpdate _ _ => none
  | .calseqStart r _ => some r
  | .calseqCont r _ => some r
  | .calseqAbort r _ => some r
  | .calseqStepDone _ => none
  | .calTptsWrite r _ _ => some r
  | .calTdataAccess r _ => some r
  | .ageReading _ => none
  | .hlthPlanWrite r _ => some r
  | .hlthAgeack r _ => some r
  | .hlthAgenow r _ => some r
  | .vcoreOffsetStep => none
  | .dieTempReading _ => none
  | .lifedataAccess r _ => some r
  | .nvRead r _ _ => some r
  | .nvWrite r _ => some r
  | .nvCopyout r _ _ => some r
  | .nvCopyin r _ => some r
  | .nvUnlock r _ => some r
  | .nvRelock r _ => some r
  | .nvSetpwd r _ => some r
  | .nvScannow r _ => some r
  | .nvOperationDone => none
  | .nvWaitingCommandStart => none
  | .nvRefreshRow _ => none
  | .nvSlotUpdate r _ => some r
  | .nvSlotFetch r _ => some r
  | .vinOn => none
  | .porRelease _ _ => none
  | .tbPllLock => none
  | .supplyDetection _ => none
  | .vinlowArmTimeout => none
  | .vinFail => none
  | .vinOff => none
  | .thermalReset => none
  | .thermalResetRelease => none
  | .resetNAssert => none
  | .resetNRelease _ _ => none
  | .softReset r _ => some r
  | .blockReset r _ => some r
  | .apllPhaseMeasurement _ _ => none
  | .supplyConditionEnd _ => none
  | .drvbadClear _ => none
  | .heldOffsetSample _ => none
  | .todAssociationTimeout => none
  | .discReturnDeadline => none
  | .lifetimeHour _ => none

/-- The checks on the other operands. -/
def Instr.operandsOk : Instr → Bool
  | .registerWrite _ a _ _ => decide (a < 2 ^ 32)
  | .latchingRead _ a _ => decide (a < 2 ^ 32)
  | .stagedWrite _ a _ => decide (a < 2 ^ 32)
  | .setAliasWrite _ a _ => decide (a < 2 ^ 32)
  | .clrAliasWrite _ a _ => decide (a < 2 ^ 32)
  | .tglAliasWrite _ a _ => decide (a < 2 ^ 32)
  | .stsSeqClear _ a _ => decide (a < 2 ^ 32)
  | .guardLockWrite _ _ => true
  | .blockTimeout _ a _ _ => decide (a < 2 ^ 32)
  | .lateBlockAnswer _ => true
  | .heldCrossingEffect => true
  | .parityScrub a _ => decide (a < 2 ^ 21 ∧ a % 4 = 0)
  | .sramScrub a _ => decide (a % 8 = 0)
  | .handlerEntry _ => true
  | .supTick => true
  | .handlerOverrun _ => true
  | .qputWaitEnd _ => true
  | .sendWaitEnd _ => true
  | .atEntryFiring _ => true
  | .add _ _ _ _ => true
  | .sub _ _ _ _ => true
  | .and _ _ _ _ => true
  | .or _ _ _ _ => true
  | .xor _ _ _ _ => true
  | .shl _ _ _ _ => true
  | .shr _ _ _ _ => true
  | .sar _ _ _ _ => true
  | .adds _ _ _ _ => true
  | .subs _ _ _ _ => true
  | .min _ _ _ _ => true
  | .max _ _ _ _ => true
  | .minu _ _ _ _ => true
  | .maxu _ _ _ _ => true
  | .mul _ _ _ _ => true
  | .mulhs _ _ _ _ => true
  | .cmp _ _ _ => true
  | .abs _ _ _ => true
  | .negs _ _ _ => true
  | .clz _ _ _ => true
  | .sxt _ _ _ _ => true
  | .addi _ _ _ _ => true
  | .andi _ _ _ _ => true
  | .ori _ _ _ _ => true
  | .xori _ _ _ _ => true
  | .shli _ _ _ _ => true
  | .shri _ _ _ _ => true
  | .sari _ _ _ _ => true
  | .cmpi _ _ _ => true
  | .ldk _ _ _ => true
  | .shin _ _ _ => true
  | .mulq _ _ _ _ _ => true
  | .macq _ _ _ _ _ => true
  | .msuq _ _ _ _ _ => true
  | .divs _ _ _ _ => true
  | .sqrtu _ _ _ => true
  | .ld8u _ _ _ _ => true
  | .ld8s _ _ _ _ => true
  | .ld16u _ _ _ _ => true
  | .ld16s _ _ _ _ => true
  | .ld32u _ _ _ _ => true
  | .ld32s _ _ _ _ => true
  | .ld64 _ _ _ _ => true
  | .st8 _ _ _ _ => true
  | .st16 _ _ _ _ => true
  | .st32 _ _ _ _ => true
  | .st64 _ _ _ _ => true
  | .fwd _ cond off => decide (cond.toNat ≤ 12 ∧ off ≠ 0)
  | .loop _ count len => decide (1 ≤ count ∧ count ≤ 4096 ∧ len ≠ 0)
  | .call _ _ => true
  | .ret _ => true
  | .done _ => true
  | .nop _ => true
  | .pin _ _ _ _ _ => true
  | .pout _ _ _ _ _ => true
  | .qput _ rg _ _ => decide (rg.val % 4 = 0)
  | .qget _ rg _ w => decide (rg.val % 4 = 0) && !w
  | .send _ rg _ _ _ => decide (rg.val % 4 = 0)
  | .armAt _ _ _ => true
  | .tnow _ _ _ => true
  | .snap _ => true
  | .raise _ target _ => decide (target.toNat ≤ 10 ∨ target.toNat = 15)
  | .mfs _ _ _ => true
  | .mts _ _ _ => true
  | .loaderLoad _ _ => true
  | .loadCheckComplete => true
  | .loadTargetHold => true
  | .loadCopyComplete => true
  | .engineHalt _ _ _ => true
  | .engineRun _ _ _ => true
  | .engineRestart _ _ _ => true
  | .pcieBar0Request _ a dws => decide (a % 4 = 0 ∧ a < 2 ^ 25) && !dws.isEmpty
  | .pcieBar2Access _ a dws => decide (a % 4 = 0 ∧ a < 2 ^ 23) && !dws.isEmpty
  | .pcieLinkChange _ _ _ _ _ => true
  | .perstAssert => true
  | .pcieAerError _ => true
  | .spiAddressFrame _ => true
  | .spiWriteFrame _ => true
  | .spiBufferedWrite => true
  | .spiReadAccess => true
  | .spiCsRise _ => true
  | .i2cWrite _ _ => true
  | .i2cRead _ n => decide (0 < n)
  | .queueEnable _ _ _ => true
  | .queueDisable _ _ _ => true
  | .queueModeWrite _ _ _ => true
  | .queueDeadline _ => true
  | .ringEnable _ _ _ => true
  | .ringDisable _ _ _ => true
  | .ringHidxWrite _ _ _ => true
  | .dmaD2hMove _ _ => true
  | .dmaH2dMove _ _ => true
  | .qdataAgeExpiry _ => true
  | .dmaRingError _ _ => true
  | .evtAckWrite _ _ _ => true
  | .msixUnmask _ => true
  | .faultMessage _ => true
  | .faultPulseEnd => true
  | .escalationExpiry => true
  | .fltAckWrite _ _ => true
  | .faultClear _ _ => true
  | .faultInFall => true
  | .faultInRise => true
  | .faultInjection => true
  | .aerStatusClear _ => true
  | .perstRelease => true
  | .sourceEdge _ _ => true
  | .missedNominalEdge _ => true
  | .xoLoss => true
  | .xoReturn => true
  | .basisChange => true
  | .binClose _ => true
  | .mtieBinClose _ => true
  | .tdevStride _ => true
  | .srcEnable _ _ _ => true
  | .srcDisable _ _ _ => true
  | .srcForceWrite _ _ _ => true
  | .srcVerdictWrite _ _ _ => true
  | .pendTimerExpiry _ => true
  | .verdictStale _ => true
  | .srcAccept _ _ _ => true
  | .srcHold _ _ _ => true
  | .srcClrstat _ _ _ => true
  | .selectorEvaluation _ => true
  | .selReeval _ _ _ => true
  | .selAbsorb _ _ _ => true
  | .switchFirstSample _ => true
  | .retargetFirstSample _ => true
  | .returnFirstSample _ => true
  | .dpllUpdate _ _ => true
  | .dcowCommit _ _ _ => true
  | .howordCommit _ _ _ => true
  | .phaseStepCommand _ _ _ => true
  | .psabort _ _ _ => true
  | .dpllEnable _ _ _ => true
  | .dpllDisable _ _ _ => true
  | .tiedSet _ _ => true
  | .tiedClear _ _ => true
  | .lpstatWrite _ _ _ => true
  | .flockWindowEnd _ => true
  | .oscEvaluation => true
  | .thermistorSample _ => true
  | .learningSample => true
  | .oscGenCommit _ _ => true
  | .lsInfoRead _ => true
  | .teestUpdate => true
  | .bawFail _ _ => true
  | .clkCountCheck _ => true
  | .apllEnable _ _ _ => true
  | .apllDisable _ _ _ => true
  | .bandSearchDone _ _ => true
  | .apllLockAcquired _ => true
  | .vtuneSample _ _ => true
  | .apllLossOfLock _ => true
  | .brgMapWrite _ _ => true
  | .outEnable _ _ _ => true
  | .outStartOnLock _ => true
  | .outDisable _ _ _ => true
  | .fretMove _ => true
  | .outResume _ _ _ => true
  | .safeActionApply _ => true
  | .driverFaultDetection _ => true
  | .dividerTerminalCount _ _ => true
  | .syncArm _ _ => true
  | .syncDisarm _ _ => true
  | .syncPlacement => true
  | .syncReset => true
  | .syncInEdge _ _ => true
  | .apllTrim _ => true
  | .trimSaturation _ => true
  | .srStart _ _ _ => true
  | .srStop _ _ _ => true
  | .srGateOpen _ => true
  | .srPatternEnd _ => true
  | .echoResult _ _ _ _ => true
  | .tbIncrCommit _ _ => true
  | .tbIncrEffect => true
  | .tbSrvwCommit _ _ => true
  | .tbSteerWrite _ _ => true
  | .tbSteerEffect => true
  | .tbModeWrite _ _ => true
  | .tbModeEffect => true
  | .tbStepCommand _ _ => true
  | .tbStepEffect => true
  | .tbBackenWrite _ _ => true
  | .backarmExpiry => true
  | .tbResync _ _ => true
  | .tbDupMismatch => true
  | .tevArm _ _ _ => true
  | .tevDisarm _ _ _ => true
  | .tevDisable _ _ => true
  | .timedEventFiring _ => true
  | .tevPinPulseEnd _ => true
  | .capture _ _ _ => true
  | .snapInEdge _ _ => true
  | .snapshotTrigger => true
  | .snapRelease _ _ => true
  | .snapRinggo _ _ => true
  | .ringSnapshot => true
  | .ethLinkChange _ _ _ _ => true
  | .ethFrameRx _ frame _ t _ _ => decide (t < 2 ^ 96) && !frame.isEmpty
  | .eventRateWindow _ => true
  | .ptpTxDescriptor _ => true
  | .ptpFrameTx _ t => decide (t < 2 ^ 96)
  | .originatedFrameTimeout _ => true
  | .ptpEnable _ _ _ => true
  | .ptpSrvenWrite _ _ _ => true
  | .ptpPstateWrite _ _ _ => true
  | .ptpOffsetCommit _ _ _ => true
  | .ptpPathhold _ _ _ => true
  | .ptpPathaccept _ _ _ => true
  | .ptpPathreject _ _ _ => true
  | .ptpParentchg _ _ _ => true
  | .ptpSrvreset _ _ _ => true
  | .pathHoldTimeout _ => true
  | .syeRxssmWrite _ _ _ => true
  | .esmcTimeout _ => true
  | .esmcTick => true
  | .uartMessage bytes _ start => decide (start < 2 ^ 96) && !bytes.isEmpty
  | .uartTodAssociation => true
  | .uartTxStart => true
  | .uartTxEnd => true
  | .glCellRx _ _ payload arr => decide (payload.length = 64 ∧ arr < 2 ^ 96)
  | .glTimeInitiation => true
  | .glAlignedCheck => true
  | .glLaneRangingResult _ _ _ => true
  | .glTokenRegen => true
  | .glTokenHoldEnd _ => true
  | .glPortUp _ => true
  | .glMeasuringEnd _ => true
  | .glPortDown _ => true
  | .glLinkFault _ => true
  | .glForm _ _ => true
  | .glRejoin _ _ => true
  | .src20RankTimeout => true
  | .tunnelledAccess _ a _ => decide (a < 2 ^ 25)
  | .tunnelIssue => true
  | .tunnelTimeout => true
  | .gangEnable _ _ => true
  | .tdcLinearisation _ counts => decide (counts.length = 2048)
  | .fretTableReform => true
  | .fcalUpdate _ _ => true
  | .calseqStart _ _ => true
  | .calseqCont _ _ => true
  | .calseqAbort _ _ => true
  | .calseqStepDone _ => true
  | .calTptsWrite _ _ _ => true
  | .calTdataAccess _ _ => true
  | .ageReading ratios => decide (ratios.length = 24)
  | .hlthPlanWrite _ _ => true
  | .hlthAgeack _ _ => true
  | .hlthAgenow _ _ => true
  | .vcoreOffsetStep => true
  | .dieTempReading temps => decide (temps.length = 8)
  | .lifedataAccess _ _ => true
  | .nvRead _ _ _ => true
  | .nvWrite _ _ => true
  | .nvCopyout _ _ _ => true
  | .nvCopyin _ _ => true
  | .nvUnlock _ _ => true
  | .nvRelock _ _ => true
  | .nvSetpwd _ _ => true
  | .nvScannow _ _ => true
  | .nvOperationDone => true
  | .nvWaitingCommandStart => true
  | .nvRefreshRow _ => true
  | .nvSlotUpdate _ _ => true
  | .nvSlotFetch _ _ => true
  | .vinOn => true
  | .porRelease _ _ => true
  | .tbPllLock => true
  | .supplyDetection _ => true
  | .vinlowArmTimeout => true
  | .vinFail => true
  | .vinOff => true
  | .thermalReset => true
  | .thermalResetRelease => true
  | .resetNAssert => true
  | .resetNRelease _ _ => true
  | .softReset _ _ => true
  | .blockReset _ _ => true
  | .apllPhaseMeasurement _ _ => true
  | .supplyConditionEnd _ => true
  | .drvbadClear _ => true
  | .heldOffsetSample _ => true
  | .todAssociationTimeout => true
  | .discReturnDeadline => true
  | .lifetimeHour _ => true

/-- A well-formed command. -/
def Instr.wf (i : Instr) : Bool := (match i.sender with | some r => r.ok | none => true) && i.operandsOk

end Sys2Proof
end

