-- ==== Sys2Proof/Decode.lean ====
section
/-!
DEFINITION. The command that a word spells: spec/opcode_table.json gives no row of this block any bits, so no word spells
one (log entry 80). The instruction words of the engines (R286) are data of their images, which the loader judges
(Machine/Loader.lean).
-/

namespace Sys2Proof

/-- The command that the low `nbits` bits of `w` spell by the table: none. -/
def decodeTableWord (_nbits _w : Nat) : Option Instr := none

end Sys2Proof
end

