-- ==== Sys2Proof/Config.lean ====
section
/-!
DEFINITION. The free values: what the spec leaves open and the machine goes on with. Each is an opaque constant, so no
proof can see its value. Log entry 1 says how they are used; the entry that names each use is cited there.
-/

namespace Sys2Proof.Config

/-- A value the spec leaves open, fresh for every value of the counter it is applied to (log entry 1). -/
opaque freeNat : Nat → Nat

/-- Whether a quotient `num / den` whose rounding the spec does not state is rounded up (log entry 6). -/
opaque roundUp : Int → Int → Bool

/-- The byte at an offset of boot-ROM image `rom`: the spec gives no content (log entry 7). -/
opaque romByte : Nat → Nat → Byte

/-- The raw temperature in 2^-16 °C of a reading to which R103 gives none (outside the valid window, or with the excitation
off), of the conversion code, IEXC, RNOM and BETA (log entry 27). -/
opaque thermistor : Nat → Nat → Nat → Nat → Int

/-- The arithmetic error of the beta conversion in 2^-16 K, of the same four; R103 bounds it (log entry 27). -/
opaque thermErr : Nat → Nat → Nat → Nat → Int

/-- The fixed latency from a channel's clock to its pin, in TB units, and by how much the delay of a channel's fret departs
from 1.25 ps per fret, in TB units: R154 gives typical figures and bounds (log entry 97). -/
opaque outLatency : Nat
opaque fretDev : Nat → Nat → Int

/-- The slot ring reserved for the VCORE plan (R444): the spec does not name it (log entry 58). -/
opaque planRing : Nat

end Sys2Proof.Config
end

