-- ==== Sys2Proof/Machine/Bits.lean ====
section
/-!
DEFINITION. Bit fields, two's complement and saturation over natural and integer numbers, and little-endian bytes (R6).
-/

namespace Sys2Proof.Machine

/-- Bits `[lsb + width - 1 : lsb]` of `v`. -/
def bitsOf (v lsb width : Nat) : Nat := v / 2 ^ lsb % 2 ^ width

/-- `v` with bits `[lsb + width - 1 : lsb]` replaced by the low bits of `x`. -/
def putBits (v lsb width x : Nat) : Nat :=
  v % 2 ^ lsb + (x % 2 ^ width) * 2 ^ lsb + v / 2 ^ (lsb + width) * 2 ^ (lsb + width)

/-- Bit `b` of `v`. -/
def bitOf (v b : Nat) : Bool := v / 2 ^ b % 2 = 1

/-- A Boolean as a bit. -/
def b2n (b : Bool) : Nat := if b then 1 else 0

/-- The two's-complement value of the low `w` bits of `v`. -/
def toSigned (w v : Nat) : Int :=
  let u := v % 2 ^ w
  if u < 2 ^ (w - 1) then (u : Int) else (u : Int) - (2 : Int) ^ w

/-- The low `w` bits of the two's-complement form of `i`. -/
def ofSigned (w : Nat) (i : Int) : Nat := (i % (2 : Int) ^ w).toNat

/-- `i` held between `lo` and `hi`. -/
def clampInt (lo hi i : Int) : Int := if i < lo then lo else if hi < i then hi else i

/-- `i` saturated to a signed number of `w` bits. -/
def satSigned (w : Nat) (i : Int) : Int := clampInt (-(2 : Int) ^ (w - 1)) ((2 : Int) ^ (w - 1) - 1) i

/-- A difference of two 96-bit counts, as a signed number (R1, R191). -/
def signedDiff (w a b : Nat) : Int := toSigned w ((a + 2 ^ w - b % 2 ^ w) % 2 ^ w)

/-- The sum of a count of `w` bits and a signed amount, wrapping. -/
def addSigned (w a : Nat) (d : Int) : Nat := ofSigned w ((a : Int) + d)

/-- The `n` bytes of `v`, least significant first (R6). -/
def leBytes : Nat → Nat → List Byte
  | 0, _ => []
  | n + 1, v => BitVec.ofNat 8 v :: leBytes n (v / 256)

/-- The number whose bytes, least significant first, are `bs`. -/
def leNat : List Byte → Nat
  | [] => 0
  | b :: bs => b.toNat + 256 * leNat bs

/-- The number whose bytes, most significant first, are `bs` (R335: the I²C wire order). -/
def beNat (bs : List Byte) : Nat := leNat bs.reverse

/-- `v` rounded up to a multiple of `m`, in units of `m`. -/
def ceilDiv (v m : Nat) : Nat := (v + m - 1) / m

/-- `a` divided by a positive `b`, rounded up. -/
def ceilInt (a b : Int) : Int := -((-a) / b)

/-- Element `n` of a list, or `d` beyond its end. -/
def lget {α : Type} (d : α) (l : List α) (n : Nat) : α := l.getD n d

/-- The list with element `n` changed by `f`. -/
def lmod {α : Type} (l : List α) (n : Nat) (f : α → α) : List α := l.modify n f

/-- The list with `v` as element `n`, filled up with `d` where it is shorter. -/
def lput {α : Type} (d : α) (l : List α) (n : Nat) (v : α) : List α :=
  if n < l.length then l.set n v else l ++ List.replicate (n - l.length) d ++ [v]

/-- The list with element `n`, `d` beyond its end, changed by `f`. -/
def lupd {α : Type} (d : α) (l : List α) (n : Nat) (f : α → α) : List α := lput d l n (f (lget d l n))

end Sys2Proof.Machine
end

