-- ==== Sys2Proof/Machine/Sparse.lean ====
section
/-!
DEFINITION. Sparse contents keyed by address, in one canonical form: keys strictly rising, and no entry equal to what
an unlisted address reads as. The register bank, the memories and the NV cells are held so.
-/

namespace Sys2Proof.Machine

/-- What address `k` reads as: its entry, else the default `d k`. -/
def sparseGet {α : Type} (d : Nat → α) : List (Nat × α) → Nat → α
  | [], k => d k
  | (k', v) :: t, k => if k' = k then v else sparseGet d t k

/-- `l` with address `k` set to `v`, the canonical form kept. -/
def sparsePut {α : Type} [DecidableEq α] (d : Nat → α) : List (Nat × α) → Nat → α → List (Nat × α)
  | [], k, v => if v = d k then [] else [(k, v)]
  | (k', v') :: t, k, v =>
    if k < k' then (if v = d k then (k', v') :: t else (k, v) :: (k', v') :: t)
    else if k = k' then (if v = d k then t else (k, v) :: t)
    else (k', v') :: sparsePut d t k v

/-- Keys strictly rising from above `lo`, no entry at its default. -/
def sparseWfFrom {α : Type} [DecidableEq α] (d : Nat → α) : Nat → List (Nat × α) → Bool
  | _, [] => true
  | lo, (k, v) :: t => decide (lo ≤ k) && decide (v ≠ d k) && sparseWfFrom d (k + 1) t

/-- The canonical form. -/
def sparseWf {α : Type} [DecidableEq α] (d : Nat → α) (l : List (Nat × α)) : Bool := sparseWfFrom d 0 l

/-- `l` with every address from `lo` up to, not including, `hi` at its default. -/
def sparseClear {α : Type} (l : List (Nat × α)) (lo hi : Nat) : List (Nat × α) :=
  l.filter (fun e => !(decide (lo ≤ e.1) && decide (e.1 < hi)))

end Sys2Proof.Machine
end

