-- ==== Sys2Proof/Machine/RegMap.lean ====
section
/-!
DEFINITION. The register map of every block, from the "register map" tables of chapters 02 to 19: for each register its
offset in the block's window, its class (R356), its RSV bits (R366) and its reset value; for each named field its place.
A register or field constant is named block, register, field, as the tables name it, without the instance number.
The resets that the tables leave open ("—") are named in log entry 2.
-/

namespace Sys2Proof.Machine

/-- The register classes of R356 (RSV offsets have no row). -/
inductive RegClass
  | cfg | run | cmd | sts | ro | snp
  deriving DecidableEq, Repr

/-- A field of a register: the register's offset in its window, the field's lowest bit, its width. -/
structure Fld where
  off : Nat
  lsb : Nat
  width : Nat
  deriving DecidableEq, Repr

/-- The same field in the register `d` bytes further on (arrays of registers). -/
def Fld.up (f : Fld) (d : Nat) : Fld := { f with off := f.off + d }

/-- One row of a register map: `n` registers from `off`, `stride` bytes apart. -/
structure RegRow where
  off : Nat
  n : Nat
  stride : Nat
  cls : RegClass
  rsv : Nat
  reset : Nat
  deriving DecidableEq, Repr

/-! ### SRC: reference source (spec/02_sources.md) -/

def SRC_EN : Nat := 0x0
def SRC_EN_ENABLE : Fld := ⟨0x0, 0, 1⟩
def SRC_EN_FORCE : Fld := ⟨0x0, 4, 2⟩
def SRC_EN_KIND : Fld := ⟨0x0, 8, 2⟩
def SRC_CFG : Nat := 0x4
def SRC_CFG_FMT : Fld := ⟨0x4, 0, 3⟩
def SRC_CFG_TERM : Fld := ⟨0x4, 3, 2⟩
def SRC_CFG_LVL : Fld := ⟨0x4, 5, 1⟩
def SRC_CFG_EDGE : Fld := ⟨0x4, 6, 1⟩
def SRC_DIV : Nat := 0x8
def SRC_DIV_DIV : Fld := ⟨0x8, 0, 24⟩
def SRC_PER_LO : Nat := 0xc
def SRC_PER_HI : Nat := 0x10
def SRC_ACT : Nat := 0x14
def SRC_ACT_ACT_TOL : Fld := ⟨0x14, 0, 8⟩
def SRC_ACT_ACT_INC : Fld := ⟨0x14, 8, 4⟩
def SRC_ACT_ACT_LIM : Fld := ⟨0x14, 16, 8⟩
def SRC_FTOL0 : Nat := 0x18
def SRC_FTOL1 : Nat := 0x1c
def SRC_FTOL2 : Nat := 0x20
def SRC_CTOL0 : Nat := 0x24
def SRC_CTOL1 : Nat := 0x28
def SRC_CTOL2 : Nat := 0x2c
def SRC_PDTOL : Nat := 0x30
def SRC_QCTL : Nat := 0x34
def SRC_QCTL_HYST : Fld := ⟨0x34, 0, 8⟩
def SRC_QCTL_FIRSTQ : Fld := ⟨0x34, 8, 16⟩
def SRC_WTR : Nat := 0x38
def SRC_WTR_WTR : Fld := ⟨0x38, 0, 16⟩
def SRC_MTIELIM0 : Nat := 0x40
def SRC_MTIELIM1 : Nat := 0x44
def SRC_MTIELIM2 : Nat := 0x48
def SRC_MTIELIM3 : Nat := 0x4c
def SRC_MTIELIM4 : Nat := 0x50
def SRC_TDEVLIM0 : Nat := 0x54
def SRC_TDEVLIM1 : Nat := 0x58
def SRC_TDEVLIM2 : Nat := 0x5c
def SRC_TDEVLIM3 : Nat := 0x60
def SRC_TDEVLIM4 : Nat := 0x64
def SRC_CMD : Nat := 0x68
def SRC_CMD_ACCEPT : Fld := ⟨0x68, 0, 1⟩
def SRC_CMD_HOLD : Fld := ⟨0x68, 1, 1⟩
def SRC_CMD_CLRSTAT : Fld := ⟨0x68, 2, 1⟩
def SRC_VERDICT : Nat := 0x6c
def SRC_VERDICT_FAIL : Fld := ⟨0x6c, 0, 19⟩
def SRC_VERDICT_HYSTOK : Fld := ⟨0x6c, 31, 1⟩
def SRC_STATE : Nat := 0x70
def SRC_STATE_QSTATE : Fld := ⟨0x70, 0, 3⟩
def SRC_STATE_FIRST : Fld := ⟨0x70, 3, 1⟩
def SRC_STATE_BASIS : Fld := ⟨0x70, 4, 2⟩
def SRC_STATE_FBASIS : Fld := ⟨0x70, 6, 1⟩
def SRC_STATE_HOLDCAUSE : Fld := ⟨0x70, 8, 2⟩
def SRC_STATE_NOTHERS : Fld := ⟨0x70, 10, 5⟩
def SRC_STATE_WAITLEFT : Fld := ⟨0x70, 16, 16⟩
def SRC_CHK : Nat := 0x74
def SRC_CHK_ACT : Fld := ⟨0x74, 0, 1⟩
def SRC_CHK_FOFF : Fld := ⟨0x74, 1, 3⟩
def SRC_CHK_CONS : Fld := ⟨0x74, 4, 3⟩
def SRC_CHK_PDRIFT : Fld := ⟨0x74, 7, 1⟩
def SRC_CHK_MTIE : Fld := ⟨0x74, 8, 5⟩
def SRC_CHK_TDEV : Fld := ⟨0x74, 13, 5⟩
def SRC_CHK_STALE : Fld := ⟨0x74, 18, 1⟩
def SRC_STS : Nat := 0x78
def SRC_STS_LOS : Fld := ⟨0x78, 0, 1⟩
def SRC_STS_QUAL : Fld := ⟨0x78, 1, 1⟩
def SRC_STS_DISQ : Fld := ⟨0x78, 2, 1⟩
def SRC_STS_DRIFT : Fld := ⟨0x78, 3, 1⟩
def SRC_STS_JUMP : Fld := ⟨0x78, 4, 1⟩
def SRC_STS_CAUSE : Fld := ⟨0x78, 8, 8⟩
def SRC_STS_SEQ : Fld := ⟨0x78, 24, 8⟩
def SRC_EDGES : Nat := 0x7c
def SRC_FOFF0 : Nat := 0x80
def SRC_FOFF1 : Nat := 0x84
def SRC_FOFF2 : Nat := 0x88
def SRC_COFF0 : Nat := 0x8c
def SRC_COFF1 : Nat := 0x90
def SRC_COFF2 : Nat := 0x94
def SRC_PDRIFT : Nat := 0x98
def SRC_PHASE_LO : Nat := 0x9c
def SRC_PHASE_HI : Nat := 0xa0
def SRC_MTIE0 : Nat := 0xa4
def SRC_MTIE1 : Nat := 0xa8
def SRC_MTIE2 : Nat := 0xac
def SRC_MTIE3 : Nat := 0xb0
def SRC_MTIE4 : Nat := 0xb4
def SRC_TDEV0 : Nat := 0xb8
def SRC_TDEV1 : Nat := 0xbc
def SRC_TDEV2 : Nat := 0xc0
def SRC_TDEV3 : Nat := 0xc4
def SRC_TDEV4 : Nat := 0xc8
def SRC_SNAP_STATE : Nat := 0xd0
def SRC_SNAP_FOFF0 : Nat := 0xd4
def SRC_SNAP_FOFF1 : Nat := 0xd8
def SRC_SNAP_COFF1 : Nat := 0xdc
def SRC_SNAP_PHASE_LO : Nat := 0xe0
def SRC_SNAP_PHASE_HI : Nat := 0xe4

def rowsSRC0 : List RegRow := [
  ⟨0x0, 1, 0, .run, 0xfffffcce, 0⟩, ⟨0x4, 1, 0, .cfg, 0xffffff80, 0⟩, ⟨0x8, 1, 0, .cfg, 0xff000000, 0x1⟩,
  ⟨0xc, 1, 0, .cfg, 0, 0⟩, ⟨0x10, 1, 0, .cfg, 0, 0⟩, ⟨0x14, 1, 0, .run, 0xff00f000, 0x100810⟩,
  ⟨0x18, 1, 0, .run, 0, 0x3a98000⟩, ⟨0x1c, 1, 0, .run, 0, 0x2ee0000⟩, ⟨0x20, 1, 0, .run, 0, 0x2710000⟩,
  ⟨0x24, 1, 0, .run, 0, 0xc8000⟩, ⟨0x28, 1, 0, .run, 0, 0x14000⟩, ⟨0x2c, 1, 0, .run, 0, 0x2000⟩,
  ⟨0x30, 1, 0, .run, 0, 0x13880⟩, ⟨0x34, 1, 0, .run, 0xff000000, 0xa40⟩, ⟨0x38, 1, 0, .run, 0xffff0000, 0x12c⟩,
  ⟨0x40, 1, 0, .run, 0, 0⟩, ⟨0x44, 1, 0, .run, 0, 0⟩, ⟨0x48, 1, 0, .run, 0, 0⟩,
  ⟨0x4c, 1, 0, .run, 0, 0⟩, ⟨0x50, 1, 0, .run, 0, 0⟩, ⟨0x54, 1, 0, .run, 0, 0⟩,
  ⟨0x58, 1, 0, .run, 0, 0⟩, ⟨0x5c, 1, 0, .run, 0, 0⟩, ⟨0x60, 1, 0, .run, 0, 0⟩]
def rowsSRC1 : List RegRow := [
  ⟨0x64, 1, 0, .run, 0, 0⟩, ⟨0x68, 1, 0, .cmd, 0xfffffff8, 0⟩, ⟨0x6c, 1, 0, .cmd, 0x7ff80000, 0⟩,
  ⟨0x70, 1, 0, .ro, 0x8080, 0⟩, ⟨0x74, 1, 0, .ro, 0xfff80000, 0⟩, ⟨0x78, 1, 0, .sts, 0xff00e0, 0⟩,
  ⟨0x7c, 1, 0, .ro, 0, 0⟩, ⟨0x80, 1, 0, .ro, 0, 0x80000000⟩, ⟨0x84, 1, 0, .ro, 0, 0x80000000⟩,
  ⟨0x88, 1, 0, .ro, 0, 0x80000000⟩, ⟨0x8c, 1, 0, .ro, 0, 0x80000000⟩, ⟨0x90, 1, 0, .ro, 0, 0x80000000⟩,
  ⟨0x94, 1, 0, .ro, 0, 0x80000000⟩, ⟨0x98, 1, 0, .ro, 0, 0x80000000⟩, ⟨0x9c, 1, 0, .ro, 0, 0⟩,
  ⟨0xa0, 1, 0, .ro, 0, 0⟩, ⟨0xa4, 1, 0, .ro, 0, 0xffffffff⟩, ⟨0xa8, 1, 0, .ro, 0, 0xffffffff⟩,
  ⟨0xac, 1, 0, .ro, 0, 0xffffffff⟩, ⟨0xb0, 1, 0, .ro, 0, 0xffffffff⟩, ⟨0xb4, 1, 0, .ro, 0, 0xffffffff⟩,
  ⟨0xb8, 1, 0, .ro, 0, 0xffffffff⟩, ⟨0xbc, 1, 0, .ro, 0, 0xffffffff⟩, ⟨0xc0, 1, 0, .ro, 0, 0xffffffff⟩]
def rowsSRC2 : List RegRow := [
  ⟨0xc4, 1, 0, .ro, 0, 0xffffffff⟩, ⟨0xc8, 1, 0, .ro, 0, 0xffffffff⟩, ⟨0xd0, 1, 0, .snp, 0, 0⟩,
  ⟨0xd4, 1, 0, .snp, 0, 0⟩, ⟨0xd8, 1, 0, .snp, 0, 0⟩, ⟨0xdc, 1, 0, .snp, 0, 0⟩,
  ⟨0xe0, 1, 0, .snp, 0, 0⟩, ⟨0xe4, 1, 0, .snp, 0, 0⟩]
def rowsSRC : List RegRow := rowsSRC0 ++ rowsSRC1 ++ rowsSRC2

/-! ### DPLL: digital loop and its selector (spec/03_selection.md) -/

def DPLL_SEL_CTL : Nat := 0x200
def DPLL_SEL_CTL_MODE : Fld := ⟨0x200, 0, 2⟩
def DPLL_SEL_CTL_REVERT : Fld := ⟨0x200, 2, 1⟩
def DPLL_SEL_CTL_QLEN : Fld := ⟨0x200, 3, 1⟩
def DPLL_SEL_CTL_SWMODE : Fld := ⟨0x200, 4, 1⟩
def DPLL_SEL_CTL_RMODE_FREQ : Fld := ⟨0x200, 5, 1⟩
def DPLL_SEL_CTL_RMODE_TIME : Fld := ⟨0x200, 6, 1⟩
def DPLL_SEL_CTL_FSRC : Fld := ⟨0x200, 8, 5⟩
def DPLL_SEL_CTL_QLMIN : Fld := ⟨0x200, 16, 4⟩
def DPLL_SEL_PRIO0 : Nat := 0x204
def DPLL_SEL_PRIO0_P0 : Fld := ⟨0x204, 0, 4⟩
def DPLL_SEL_PRIO0_P1 : Fld := ⟨0x204, 4, 4⟩
def DPLL_SEL_PRIO0_P2 : Fld := ⟨0x204, 8, 4⟩
def DPLL_SEL_PRIO0_P3 : Fld := ⟨0x204, 12, 4⟩
def DPLL_SEL_PRIO0_P4 : Fld := ⟨0x204, 16, 4⟩
def DPLL_SEL_PRIO0_P5 : Fld := ⟨0x204, 20, 4⟩
def DPLL_SEL_PRIO0_P6 : Fld := ⟨0x204, 24, 4⟩
def DPLL_SEL_PRIO0_P7 : Fld := ⟨0x204, 28, 4⟩
def DPLL_SEL_PRIO1 : Nat := 0x208
def DPLL_SEL_PRIO1_P0 : Fld := ⟨0x208, 0, 4⟩
def DPLL_SEL_PRIO1_P1 : Fld := ⟨0x208, 4, 4⟩
def DPLL_SEL_PRIO1_P2 : Fld := ⟨0x208, 8, 4⟩
def DPLL_SEL_PRIO1_P3 : Fld := ⟨0x208, 12, 4⟩
def DPLL_SEL_PRIO1_P4 : Fld := ⟨0x208, 16, 4⟩
def DPLL_SEL_PRIO1_P5 : Fld := ⟨0x208, 20, 4⟩
def DPLL_SEL_PRIO1_P6 : Fld := ⟨0x208, 24, 4⟩
def DPLL_SEL_PRIO1_P7 : Fld := ⟨0x208, 28, 4⟩
def DPLL_SEL_PRIO2 : Nat := 0x20c
def DPLL_SEL_PRIO2_P0 : Fld := ⟨0x20c, 0, 4⟩
def DPLL_SEL_PRIO2_P1 : Fld := ⟨0x20c, 4, 4⟩
def DPLL_SEL_PRIO2_P2 : Fld := ⟨0x20c, 8, 4⟩
def DPLL_SEL_PRIO2_P3 : Fld := ⟨0x20c, 12, 4⟩
def DPLL_SEL_PRIO2_P4 : Fld := ⟨0x20c, 16, 4⟩
def DPLL_SEL_QL0 : Nat := 0x210
def DPLL_SEL_QL0_Q0 : Fld := ⟨0x210, 0, 4⟩
def DPLL_SEL_QL0_Q1 : Fld := ⟨0x210, 4, 4⟩
def DPLL_SEL_QL0_Q2 : Fld := ⟨0x210, 8, 4⟩
def DPLL_SEL_QL0_Q3 : Fld := ⟨0x210, 12, 4⟩
def DPLL_SEL_QL0_Q4 : Fld := ⟨0x210, 16, 4⟩
def DPLL_SEL_QL0_Q5 : Fld := ⟨0x210, 20, 4⟩
def DPLL_SEL_QL0_Q6 : Fld := ⟨0x210, 24, 4⟩
def DPLL_SEL_QL0_Q7 : Fld := ⟨0x210, 28, 4⟩
def DPLL_SEL_QL1 : Nat := 0x214
def DPLL_SEL_QL1_Q0 : Fld := ⟨0x214, 0, 4⟩
def DPLL_SEL_QL1_Q1 : Fld := ⟨0x214, 4, 4⟩
def DPLL_SEL_QL1_Q2 : Fld := ⟨0x214, 8, 4⟩
def DPLL_SEL_QL1_Q3 : Fld := ⟨0x214, 12, 4⟩
def DPLL_SEL_QL1_Q4 : Fld := ⟨0x214, 16, 4⟩
def DPLL_SEL_QL1_Q5 : Fld := ⟨0x214, 20, 4⟩
def DPLL_SEL_QL1_Q6 : Fld := ⟨0x214, 24, 4⟩
def DPLL_SEL_QL1_Q7 : Fld := ⟨0x214, 28, 4⟩
def DPLL_SEL_QL2 : Nat := 0x218
def DPLL_SEL_QL2_Q0 : Fld := ⟨0x218, 0, 4⟩
def DPLL_SEL_QL2_Q1 : Fld := ⟨0x218, 4, 4⟩
def DPLL_SEL_QL2_Q2 : Fld := ⟨0x218, 8, 4⟩
def DPLL_SEL_QL2_Q3 : Fld := ⟨0x218, 12, 4⟩
def DPLL_SEL_QL2_Q4 : Fld := ⟨0x218, 16, 4⟩
def DPLL_SEL_QLAUTO : Nat := 0x21c
def DPLL_SEL_QLAUTO_AUTO : Fld := ⟨0x21c, 0, 5⟩
def DPLL_SEL_JGUARD : Nat := 0x220
def DPLL_SEL_CMD : Nat := 0x224
def DPLL_SEL_CMD_REEVAL : Fld := ⟨0x224, 0, 1⟩
def DPLL_SEL_CMD_ABSORB : Fld := ⟨0x224, 1, 1⟩
def DPLL_SEL_STATE : Nat := 0x228
def DPLL_SEL_STATE_CUR : Fld := ⟨0x228, 0, 5⟩
def DPLL_SEL_STATE_ST : Fld := ⟨0x228, 8, 2⟩
def DPLL_SEL_STATE_BO : Fld := ⟨0x228, 10, 1⟩
def DPLL_SEL_STATE_TIED : Fld := ⟨0x228, 11, 1⟩
def DPLL_SEL_STATE_FROZEN : Fld := ⟨0x228, 12, 1⟩
def DPLL_SEL_STATE_PREV : Fld := ⟨0x228, 16, 5⟩
def DPLL_SEL_PULL_LO : Nat := 0x22c
def DPLL_SEL_PULL_HI : Nat := 0x230
def DPLL_SEL_STS : Nat := 0x234
def DPLL_SEL_STS_SWITCH : Fld := ⟨0x234, 0, 1⟩
def DPLL_SEL_STS_RETARGET : Fld := ⟨0x234, 1, 1⟩
def DPLL_SEL_STS_PULLDONE : Fld := ⟨0x234, 2, 1⟩
def DPLL_SEL_STS_NONE : Fld := ⟨0x234, 3, 1⟩
def DPLL_SEL_STS_JHOLD : Fld := ⟨0x234, 4, 1⟩
def DPLL_SEL_STS_CAUSE : Fld := ⟨0x234, 8, 8⟩
def DPLL_SEL_STS_SEQ : Fld := ⟨0x234, 24, 8⟩
def DPLL_SEL_ERANK0 : Nat := 0x238
def DPLL_SEL_ERANK0_F0 : Fld := ⟨0x238, 0, 4⟩
def DPLL_SEL_ERANK0_F1 : Fld := ⟨0x238, 4, 4⟩
def DPLL_SEL_ERANK0_F2 : Fld := ⟨0x238, 8, 4⟩
def DPLL_SEL_ERANK0_F3 : Fld := ⟨0x238, 12, 4⟩
def DPLL_SEL_ERANK0_F4 : Fld := ⟨0x238, 16, 4⟩
def DPLL_SEL_ERANK0_F5 : Fld := ⟨0x238, 20, 4⟩
def DPLL_SEL_ERANK0_F6 : Fld := ⟨0x238, 24, 4⟩
def DPLL_SEL_ERANK0_F7 : Fld := ⟨0x238, 28, 4⟩
def DPLL_SEL_ERANK1 : Nat := 0x23c
def DPLL_SEL_ERANK1_F0 : Fld := ⟨0x23c, 0, 4⟩
def DPLL_SEL_ERANK1_F1 : Fld := ⟨0x23c, 4, 4⟩
def DPLL_SEL_ERANK1_F2 : Fld := ⟨0x23c, 8, 4⟩
def DPLL_SEL_ERANK1_F3 : Fld := ⟨0x23c, 12, 4⟩
def DPLL_SEL_ERANK1_F4 : Fld := ⟨0x23c, 16, 4⟩
def DPLL_SEL_ERANK1_F5 : Fld := ⟨0x23c, 20, 4⟩
def DPLL_SEL_ERANK1_F6 : Fld := ⟨0x23c, 24, 4⟩
def DPLL_SEL_ERANK1_F7 : Fld := ⟨0x23c, 28, 4⟩
def DPLL_SEL_ERANK2 : Nat := 0x240
def DPLL_SEL_ERANK2_F0 : Fld := ⟨0x240, 0, 4⟩
def DPLL_SEL_ERANK2_F1 : Fld := ⟨0x240, 4, 4⟩
def DPLL_SEL_ERANK2_F2 : Fld := ⟨0x240, 8, 4⟩
def DPLL_SEL_ERANK2_F3 : Fld := ⟨0x240, 12, 4⟩
def DPLL_SEL_ERANK2_F4 : Fld := ⟨0x240, 16, 4⟩
def DPLL_SEL_SWCNT : Nat := 0x244
def DPLL_SEL_SNAP_STATE : Nat := 0x250
def DPLL_SEL_SNAP_PULL_LO : Nat := 0x254
def DPLL_SEL_SNAP_PULL_HI : Nat := 0x258
def DPLL_CTL : Nat := 0x0
def DPLL_CTL_ENABLE : Fld := ⟨0x0, 0, 1⟩
def DPLL_CTL_TIED : Fld := ⟨0x0, 1, 1⟩
def DPLL_CFG : Nat := 0x4
def DPLL_CFG_UPER : Fld := ⟨0x4, 0, 16⟩
def DPLL_CFG_STALLN : Fld := ⟨0x4, 16, 8⟩
def DPLL_SLOPE : Nat := 0x8
def DPLL_SLOPE_V : Fld := ⟨0x8, 0, 20⟩
def DPLL_FSLEW : Nat := 0xc
def DPLL_FLIM : Nat := 0x10
def DPLL_DCOW_LO : Nat := 0x14
def DPLL_DCOW_HI : Nat := 0x18
def DPLL_DCOW_HI_V : Fld := ⟨0x18, 0, 16⟩
def DPLL_DCO_LO : Nat := 0x1c
def DPLL_DCO_HI : Nat := 0x20
def DPLL_DCO_HI_V : Fld := ⟨0x20, 0, 16⟩
def DPLL_HOWORD_LO : Nat := 0x24
def DPLL_HOWORD_HI : Nat := 0x28
def DPLL_HOWORD_HI_V : Fld := ⟨0x28, 0, 16⟩
def DPLL_HORAMP : Nat := 0x2c
def DPLL_PSTEP_LO : Nat := 0x30
def DPLL_PSTEP_HI : Nat := 0x34
def DPLL_PSTEP_HI_V : Fld := ⟨0x34, 0, 16⟩
def DPLL_PSREM_LO : Nat := 0x38
def DPLL_PSREM_HI : Nat := 0x3c
def DPLL_PSREM_HI_V : Fld := ⟨0x3c, 0, 16⟩
def DPLL_PHOFF_LO : Nat := 0x40
def DPLL_PHOFF_HI : Nat := 0x44
def DPLL_ERR_LO : Nat := 0x48
def DPLL_ERR_HI : Nat := 0x4c
def DPLL_PLTHR : Nat := 0x50
def DPLL_PLTIME : Nat := 0x54
def DPLL_FLTHR : Nat := 0x58
def DPLL_FLTIME : Nat := 0x5c
def DPLL_CMD : Nat := 0x60
def DPLL_CMD_PSABORT : Fld := ⟨0x60, 0, 1⟩
def DPLL_LPSTAT : Nat := 0x64
def DPLL_LPSTAT_STAGE : Fld := ⟨0x64, 0, 3⟩
def DPLL_LPSTAT_PMODE : Fld := ⟨0x64, 4, 2⟩
def DPLL_LPSTAT_CLAMP : Fld := ⟨0x64, 8, 1⟩
def DPLL_LPSTAT_SEEDED : Fld := ⟨0x64, 9, 1⟩
def DPLL_LPSTAT_BLKREJ : Fld := ⟨0x64, 10, 1⟩
def DPLL_STATE : Nat := 0x68
def DPLL_STATE_LOOPST : Fld := ⟨0x68, 0, 3⟩
def DPLL_STATE_FLOCK : Fld := ⟨0x68, 4, 1⟩
def DPLL_STATE_PLOCK : Fld := ⟨0x68, 5, 1⟩
def DPLL_STATE_ALIGNED : Fld := ⟨0x68, 6, 1⟩
def DPLL_STATE_PSACT : Fld := ⟨0x68, 7, 1⟩
def DPLL_STATE_HOAGE : Fld := ⟨0x68, 16, 16⟩
def DPLL_STS : Nat := 0x6c
def DPLL_STS_LOCKCHG : Fld := ⟨0x6c, 0, 1⟩
def DPLL_STS_BIV : Fld := ⟨0x6c, 1, 1⟩
def DPLL_STS_STAGE : Fld := ⟨0x6c, 2, 1⟩
def DPLL_STS_PSEND : Fld := ⟨0x6c, 3, 1⟩
def DPLL_STS_PSREF : Fld := ⟨0x6c, 4, 1⟩
def DPLL_STS_BUDGET : Fld := ⟨0x6c, 5, 1⟩
def DPLL_STS_FLIMHIT : Fld := ⟨0x6c, 6, 1⟩
def DPLL_STS_SLEWHIT : Fld := ⟨0x6c, 7, 1⟩
def DPLL_STS_CAUSE : Fld := ⟨0x6c, 8, 8⟩
def DPLL_STS_PSCAUSE : Fld := ⟨0x6c, 16, 8⟩
def DPLL_STS_SEQ : Fld := ⟨0x6c, 24, 8⟩
def DPLL_UPDCNT : Nat := 0x70
def DPLL_MISSCNT : Nat := 0x74
def DPLL_SNAP_STATE : Nat := 0x80
def DPLL_SNAP_DCO_LO : Nat := 0x84
def DPLL_SNAP_DCO_HI : Nat := 0x88
def DPLL_SNAP_ERR_LO : Nat := 0x8c
def DPLL_SNAP_ERR_HI : Nat := 0x90
def DPLL_SNAP_PHOFF_LO : Nat := 0x94
def DPLL_SNAP_PHOFF_HI : Nat := 0x98

def rowsDPLL0 : List RegRow := [
  ⟨0x200, 1, 0, .run, 0xfff0e080, 0xe0044⟩, ⟨0x204, 1, 0, .run, 0, 0⟩, ⟨0x208, 1, 0, .run, 0, 0⟩,
  ⟨0x20c, 1, 0, .run, 0xfff00000, 0⟩, ⟨0x210, 1, 0, .run, 0, 0xeeeeeeee⟩, ⟨0x214, 1, 0, .run, 0, 0xeeeeeeee⟩,
  ⟨0x218, 1, 0, .run, 0xfff00000, 0xeeeee⟩, ⟨0x21c, 1, 0, .run, 0xffffffe0, 0x1f⟩, ⟨0x220, 1, 0, .run, 0, 0x64⟩,
  ⟨0x224, 1, 0, .cmd, 0xfffffffc, 0⟩, ⟨0x228, 1, 0, .ro, 0xffe0e0e0, 0x1f001f⟩, ⟨0x22c, 1, 0, .ro, 0, 0⟩,
  ⟨0x230, 1, 0, .ro, 0, 0⟩, ⟨0x234, 1, 0, .sts, 0xff00e0, 0⟩, ⟨0x238, 1, 0, .ro, 0, 0xeeeeeeee⟩,
  ⟨0x23c, 1, 0, .ro, 0, 0xeeeeeeee⟩, ⟨0x240, 1, 0, .ro, 0xfff00000, 0xeeeee⟩, ⟨0x244, 1, 0, .ro, 0, 0⟩,
  ⟨0x250, 1, 0, .snp, 0, 0⟩, ⟨0x254, 1, 0, .snp, 0, 0⟩, ⟨0x258, 1, 0, .snp, 0, 0⟩,
  ⟨0x0, 1, 0, .run, 0xfffffffc, 0⟩, ⟨0x4, 1, 0, .cfg, 0xff000000, 0x100064⟩, ⟨0x8, 1, 0, .run, 0xfff00000, 0xa⟩]
def rowsDPLL1 : List RegRow := [
  ⟨0xc, 1, 0, .run, 0, 0⟩, ⟨0x10, 1, 0, .run, 0, 0x186a0⟩, ⟨0x14, 1, 0, .run, 0, 0⟩,
  ⟨0x18, 1, 0, .run, 0xffff0000, 0⟩, ⟨0x1c, 1, 0, .ro, 0, 0⟩, ⟨0x20, 1, 0, .ro, 0xffff0000, 0⟩,
  ⟨0x24, 1, 0, .run, 0, 0⟩, ⟨0x28, 1, 0, .run, 0xffff0000, 0⟩, ⟨0x2c, 1, 0, .run, 0, 0⟩,
  ⟨0x30, 1, 0, .run, 0, 0⟩, ⟨0x34, 1, 0, .cmd, 0xffff0000, 0⟩, ⟨0x38, 1, 0, .ro, 0, 0⟩,
  ⟨0x3c, 1, 0, .ro, 0xffff0000, 0⟩, ⟨0x40, 1, 0, .ro, 0, 0⟩, ⟨0x44, 1, 0, .ro, 0, 0⟩,
  ⟨0x48, 1, 0, .ro, 0, 0⟩, ⟨0x4c, 1, 0, .ro, 0, 0x80000000⟩, ⟨0x50, 1, 0, .run, 0, 0xfa0⟩,
  ⟨0x54, 1, 0, .run, 0, 0x3e8⟩, ⟨0x58, 1, 0, .run, 0, 0x1000⟩, ⟨0x5c, 1, 0, .run, 0, 0xa⟩,
  ⟨0x60, 1, 0, .cmd, 0xfffffffe, 0⟩, ⟨0x64, 1, 0, .cmd, 0xfffff8c8, 0⟩, ⟨0x68, 1, 0, .ro, 0xff08, 0xffff0000⟩]
def rowsDPLL2 : List RegRow := [
  ⟨0x6c, 1, 0, .sts, 0, 0⟩, ⟨0x70, 1, 0, .ro, 0, 0⟩, ⟨0x74, 1, 0, .ro, 0, 0⟩,
  ⟨0x80, 1, 0, .snp, 0, 0⟩, ⟨0x84, 1, 0, .snp, 0, 0⟩, ⟨0x88, 1, 0, .snp, 0, 0⟩,
  ⟨0x8c, 1, 0, .snp, 0, 0⟩, ⟨0x90, 1, 0, .snp, 0, 0⟩, ⟨0x94, 1, 0, .snp, 0, 0⟩,
  ⟨0x98, 1, 0, .snp, 0, 0⟩]
def rowsDPLL : List RegRow := rowsDPLL0 ++ rowsDPLL1 ++ rowsDPLL2

/-! ### OSC: oscillator model (spec/05_bivouac.md) -/

def OSC_CTL : Nat := 0x0
def OSC_CTL_EVAL : Fld := ⟨0x0, 0, 1⟩
def OSC_CTL_LSAMP : Fld := ⟨0x0, 1, 1⟩
def OSC_CFG : Nat := 0x4
def OSC_CFG_TSEL : Fld := ⟨0x4, 0, 2⟩
def OSC_CFG_IEXC : Fld := ⟨0x4, 2, 2⟩
def OSC_CFG_LDPLLA : Fld := ⟨0x4, 4, 3⟩
def OSC_CFG_LDPLLB : Fld := ⟨0x4, 8, 3⟩
def OSC_CFG_LINT : Fld := ⟨0x4, 16, 8⟩
def OSC_TS_RNOM : Nat := 0x8
def OSC_TS_RNOM_V : Fld := ⟨0x8, 0, 24⟩
def OSC_TS_BETA : Nat := 0xc
def OSC_TS_BETA_V : Fld := ⟨0xc, 0, 16⟩
def OSC_TLAG : Nat := 0x10
def OSC_TLAG_V : Fld := ⟨0x10, 0, 16⟩
def OSC_BVCTL : Nat := 0x14
def OSC_BVCTL_ANCHOR : Fld := ⟨0x14, 0, 1⟩
def OSC_BVCTL_ANCHMAX : Fld := ⟨0x14, 16, 16⟩
def OSC_LCTL : Nat := 0x18
def OSC_LCTL_LMEM : Fld := ⟨0x18, 0, 8⟩
def OSC_LCTL_JUMPN : Fld := ⟨0x18, 8, 8⟩
def OSC_LCTL_REJMIN : Fld := ⟨0x18, 16, 16⟩
def OSC_Y0_LO : Nat := 0x20
def OSC_Y0_HI : Nat := 0x24
def OSC_Y0_HI_V : Fld := ⟨0x24, 0, 16⟩
def OSC_AGE : Nat := 0x28
def OSC_K1 : Nat := 0x2c
def OSC_K2 : Nat := 0x30
def OSC_T0 : Nat := 0x34
def OSC_TREF : Nat := 0x38
def OSC_SIGF : Nat := 0x3c
def OSC_SIGA : Nat := 0x40
def OSC_UNC0 : Nat := 0x44
def OSC_UNC1 : Nat := 0x48
def OSC_UNC2 : Nat := 0x4c
def OSC_GEN : Nat := 0x50
def OSC_GEN_V : Fld := ⟨0x50, 0, 16⟩
def OSC_LSTAT : Nat := 0x54
def OSC_LSTAT_LSTATE : Fld := ⟨0x54, 0, 2⟩
def OSC_STATE : Nat := 0x58
def OSC_STATE_LSTATE : Fld := ⟨0x58, 0, 2⟩
def OSC_STATE_LEARNED : Fld := ⟨0x58, 2, 1⟩
def OSC_STATE_TSBAD : Fld := ⟨0x58, 3, 1⟩
def OSC_STATE_XOLOST : Fld := ⟨0x58, 4, 1⟩
def OSC_STATE_GENIN : Fld := ⟨0x58, 16, 16⟩
def OSC_STS : Nat := 0x5c
def OSC_STS_MODEL : Fld := ⟨0x5c, 0, 1⟩
def OSC_STS_JUMP : Fld := ⟨0x5c, 1, 1⟩
def OSC_STS_TSENSE : Fld := ⟨0x5c, 2, 1⟩
def OSC_STS_LSTCHG : Fld := ⟨0x5c, 3, 1⟩
def OSC_STS_LSLOST : Fld := ⟨0x5c, 4, 1⟩
def OSC_STS_SEQ : Fld := ⟨0x5c, 24, 8⟩
def OSC_PRED_LO : Nat := 0x60
def OSC_PRED_HI : Nat := 0x64
def OSC_PRED_HI_V : Fld := ⟨0x64, 0, 16⟩
def OSC_THETA : Nat := 0x68
def OSC_TRAW : Nat := 0x6c
def OSC_LS_Y_LO : Nat := 0x70
def OSC_LS_Y_HI : Nat := 0x74
def OSC_LS_Y_HI_V : Fld := ⟨0x74, 0, 16⟩
def OSC_LS_THETA : Nat := 0x78
def OSC_LS_INFO : Nat := 0x7c
def OSC_LS_INFO_COUNT : Fld := ⟨0x7c, 0, 16⟩
def OSC_LS_INFO_DPLL : Fld := ⟨0x7c, 16, 3⟩
def OSC_LS_INFO_VALID : Fld := ⟨0x7c, 19, 1⟩
def OSC_LS_INFO_LOST : Fld := ⟨0x7c, 24, 8⟩
def OSC_BV0 : Nat := 0x80
def OSC_BV0_BVQ : Fld := ⟨0x80, 0, 3⟩
def OSC_BV1 : Nat := 0x84
def OSC_BV1_BVQ : Fld := ⟨0x84, 0, 3⟩
def OSC_BV2 : Nat := 0x88
def OSC_BV2_BVQ : Fld := ⟨0x88, 0, 3⟩
def OSC_BV3 : Nat := 0x8c
def OSC_BV3_BVQ : Fld := ⟨0x8c, 0, 3⟩
def OSC_TEEST0 : Nat := 0x90
def OSC_TEEST1 : Nat := 0x94
def OSC_TEEST2 : Nat := 0x98
def OSC_TEEST3 : Nat := 0x9c
def OSC_PROJH : Nat := 0xa0
def OSC_PROJH_V : Fld := ⟨0xa0, 0, 16⟩
def OSC_PROJ : Nat := 0xa4
def OSC_SNAP_STATE : Nat := 0xb0
def OSC_SNAP_PRED_LO : Nat := 0xb4
def OSC_SNAP_PRED_HI : Nat := 0xb8
def OSC_SNAP_THETA : Nat := 0xbc

def rowsOSC0 : List RegRow := [
  ⟨0x0, 1, 0, .run, 0xfffffffc, 0⟩, ⟨0x4, 1, 0, .cfg, 0xff00f880, 0x1073e⟩, ⟨0x8, 1, 0, .cfg, 0xff000000, 0x2710⟩,
  ⟨0xc, 1, 0, .cfg, 0xffff0000, 0xd6b⟩, ⟨0x10, 1, 0, .run, 0xffff0000, 0⟩, ⟨0x14, 1, 0, .run, 0xfffe, 0x2580001⟩,
  ⟨0x18, 1, 0, .run, 0, 0xcd0a1e⟩, ⟨0x20, 1, 0, .run, 0, 0⟩, ⟨0x24, 1, 0, .run, 0xffff0000, 0⟩,
  ⟨0x28, 1, 0, .run, 0, 0⟩, ⟨0x2c, 1, 0, .run, 0, 0⟩, ⟨0x30, 1, 0, .run, 0, 0⟩,
  ⟨0x34, 1, 0, .run, 0, 0⟩, ⟨0x38, 1, 0, .run, 0, 0⟩, ⟨0x3c, 1, 0, .run, 0, 0⟩,
  ⟨0x40, 1, 0, .run, 0, 0⟩, ⟨0x44, 1, 0, .run, 0, 0⟩, ⟨0x48, 1, 0, .run, 0, 0⟩,
  ⟨0x4c, 1, 0, .run, 0, 0⟩, ⟨0x50, 1, 0, .cmd, 0xffff0000, 0⟩, ⟨0x54, 1, 0, .run, 0xfffffffc, 0⟩,
  ⟨0x58, 1, 0, .ro, 0xffe0, 0⟩, ⟨0x5c, 1, 0, .sts, 0xffffe0, 0⟩, ⟨0x60, 1, 0, .ro, 0, 0⟩]
def rowsOSC1 : List RegRow := [
  ⟨0x64, 1, 0, .ro, 0xffff0000, 0⟩, ⟨0x68, 1, 0, .ro, 0, 0⟩, ⟨0x6c, 1, 0, .ro, 0, 0⟩,
  ⟨0x70, 1, 0, .ro, 0, 0⟩, ⟨0x74, 1, 0, .ro, 0xffff0000, 0⟩, ⟨0x78, 1, 0, .ro, 0, 0⟩,
  ⟨0x7c, 1, 0, .ro, 0xf00000, 0⟩, ⟨0x80, 1, 0, .cmd, 0xfffffff8, 0⟩, ⟨0x84, 1, 0, .cmd, 0xfffffff8, 0⟩,
  ⟨0x88, 1, 0, .cmd, 0xfffffff8, 0⟩, ⟨0x8c, 1, 0, .cmd, 0xfffffff8, 0⟩, ⟨0x90, 1, 0, .ro, 0, 0xffffffff⟩,
  ⟨0x94, 1, 0, .ro, 0, 0xffffffff⟩, ⟨0x98, 1, 0, .ro, 0, 0xffffffff⟩, ⟨0x9c, 1, 0, .ro, 0, 0xffffffff⟩,
  ⟨0xa0, 1, 0, .run, 0xffff0000, 0x8⟩, ⟨0xa4, 1, 0, .ro, 0, 0xffffffff⟩, ⟨0xb0, 1, 0, .snp, 0, 0⟩,
  ⟨0xb4, 1, 0, .snp, 0, 0⟩, ⟨0xb8, 1, 0, .snp, 0, 0⟩, ⟨0xbc, 1, 0, .snp, 0, 0⟩]
def rowsOSC : List RegRow := rowsOSC0 ++ rowsOSC1

/-! ### APLL: analog PLL (spec/06_synthesis.md) -/

def APLL_CTL : Nat := 0x0
def APLL_CTL_ENABLE : Fld := ⟨0x0, 0, 1⟩
def APLL_CFG : Nat := 0x4
def APLL_CFG_RDIV : Fld := ⟨0x4, 0, 2⟩
def APLL_CFG_LBW : Fld := ⟨0x4, 4, 2⟩
def APLL_CFG_BANDF : Fld := ⟨0x4, 8, 7⟩
def APLL_CFG_BANDMODE : Fld := ⟨0x4, 15, 1⟩
def APLL_NINT : Nat := 0x8
def APLL_NINT_V : Fld := ⟨0x8, 0, 5⟩
def APLL_NFRAC_LO : Nat := 0xc
def APLL_NFRAC_HI : Nat := 0x10
def APLL_NFRAC_HI_V : Fld := ⟨0x10, 0, 16⟩
def APLL_STATE : Nat := 0x18
def APLL_STATE_LOCK : Fld := ⟨0x18, 0, 1⟩
def APLL_STATE_LOL : Fld := ⟨0x18, 1, 1⟩
def APLL_STATE_MARGIN : Fld := ⟨0x18, 2, 1⟩
def APLL_STATE_MARGFLT : Fld := ⟨0x18, 3, 1⟩
def APLL_STATE_BANDOK : Fld := ⟨0x18, 4, 1⟩
def APLL_STATE_BAND : Fld := ⟨0x18, 8, 7⟩
def APLL_VTUNE : Nat := 0x1c
def APLL_VTUNE_VTUNE : Fld := ⟨0x1c, 0, 12⟩
def APLL_M_LO : Nat := 0x20
def APLL_M_HI : Nat := 0x24
def APLL_M_HI_FRAC : Fld := ⟨0x24, 0, 16⟩
def APLL_M_HI_INT : Fld := ⟨0x24, 16, 5⟩
def APLL_STS : Nat := 0x28
def APLL_STS_LOCKED : Fld := ⟨0x28, 0, 1⟩
def APLL_STS_MARGIN : Fld := ⟨0x28, 1, 1⟩
def APLL_STS_BAND : Fld := ⟨0x28, 2, 1⟩
def APLL_STS_RANGE : Fld := ⟨0x28, 3, 1⟩
def APLL_STS_LOLSEEN : Fld := ⟨0x28, 4, 1⟩
def APLL_STS_MARGSEEN : Fld := ⟨0x28, 5, 1⟩
def APLL_STS_SEQ : Fld := ⟨0x28, 24, 8⟩
def APLL_LOLCNT : Nat := 0x2c
def APLL_SNAP_STATE : Nat := 0x40
def APLL_SNAP_M_LO : Nat := 0x44
def APLL_SNAP_M_HI : Nat := 0x48
def APLL_SNAP_VTUNE : Nat := 0x4c

def rowsAPLL : List RegRow := [
  ⟨0x0, 1, 0, .run, 0xfffffffe, 0⟩, ⟨0x4, 1, 0, .cfg, 0xffff00cc, 0x21⟩, ⟨0x8, 1, 0, .cfg, 0xffffffe0, 0x9⟩,
  ⟨0xc, 1, 0, .cfg, 0, 0x182a9931⟩, ⟨0x10, 1, 0, .cfg, 0xffff0000, 0xd495⟩, ⟨0x18, 1, 0, .ro, 0xffff80e0, 0⟩,
  ⟨0x1c, 1, 0, .ro, 0xfffff000, 0⟩, ⟨0x20, 1, 0, .ro, 0, 0⟩, ⟨0x24, 1, 0, .ro, 0xffe00000, 0⟩,
  ⟨0x28, 1, 0, .sts, 0xffffc0, 0⟩, ⟨0x2c, 1, 0, .ro, 0, 0⟩, ⟨0x40, 1, 0, .snp, 0, 0⟩,
  ⟨0x44, 1, 0, .snp, 0, 0⟩, ⟨0x48, 1, 0, .snp, 0, 0⟩, ⟨0x4c, 1, 0, .snp, 0, 0⟩]

/-! ### BRG: bridge (spec/06_synthesis.md) -/

def BRG_MAP : Nat := 0x0
def BRG_MAP_V : Fld := ⟨0x0, 0, 14⟩
def BRG_SLEW : Nat := 0x4
def BRG_STATE : Nat := 0x8
def BRG_STATE_BLEND : Fld := ⟨0x8, 0, 7⟩
def BRG_STATE_BAWOK : Fld := ⟨0x8, 16, 1⟩
def BRG_STATE_TBLOCK : Fld := ⟨0x8, 17, 1⟩
def BRG_STATE_PENDING : Fld := ⟨0x8, 18, 1⟩
def BRG_STATE_XOHELD : Fld := ⟨0x8, 19, 1⟩
def BRG_BAWOFF : Nat := 0xc
def BRG_STS : Nat := 0x10
def BRG_STS_MOVE : Fld := ⟨0x10, 0, 1⟩
def BRG_STS_SETTLED : Fld := ⟨0x10, 1, 1⟩
def BRG_STS_SEQ : Fld := ⟨0x10, 24, 8⟩
def BRG_SNAP_MAP : Nat := 0x20
def BRG_SNAP_STATE : Nat := 0x24

def rowsBRG : List RegRow := [
  ⟨0x0, 1, 0, .run, 0xffffc000, 0x3ab4⟩, ⟨0x4, 1, 0, .run, 0, 0x64⟩, ⟨0x8, 1, 0, .ro, 0xfff0ff80, 0xb0000⟩,
  ⟨0xc, 1, 0, .ro, 0, 0⟩, ⟨0x10, 1, 0, .sts, 0xfffffc, 0⟩, ⟨0x20, 1, 0, .snp, 0, 0⟩,
  ⟨0x24, 1, 0, .snp, 0, 0⟩]

/-! ### OUT: output channel (spec/07_outputs.md) -/

def OUT_CTL : Nat := 0x0
def OUT_CTL_ENABLE : Fld := ⟨0x0, 0, 1⟩
def OUT_CTL_DISST : Fld := ⟨0x0, 1, 1⟩
def OUT_CFG : Nat := 0x4
def OUT_CFG_MODE : Fld := ⟨0x4, 0, 2⟩
def OUT_CFG_CLKSEL : Fld := ⟨0x4, 2, 2⟩
def OUT_CFG_PREDIV : Fld := ⟨0x4, 4, 4⟩
def OUT_CFG_DUTY : Fld := ⟨0x4, 8, 1⟩
def OUT_CFG_TEVSEL : Fld := ⟨0x4, 12, 4⟩
def OUT_DIV : Nat := 0x8
def OUT_DIV_V : Fld := ⟨0x8, 0, 24⟩
def OUT_WIDTH : Nat := 0xc
def OUT_DRV : Nat := 0x10
def OUT_DRV_FMT : Fld := ⟨0x10, 0, 2⟩
def OUT_DRV_SWING : Fld := ⟨0x10, 4, 2⟩
def OUT_DRV_CMOSPOL : Fld := ⟨0x10, 6, 2⟩
def OUT_COARSE : Nat := 0x14
def OUT_COARSE_V : Fld := ⟨0x14, 0, 10⟩
def OUT_FSTEP : Nat := 0x18
def OUT_FSTEP_V : Fld := ⟨0x18, 0, 16⟩
def OUT_CMD : Nat := 0x1c
def OUT_CMD_RESUME : Fld := ⟨0x1c, 0, 1⟩
def OUT_SAFE : Nat := 0x20
def OUT_SAFE_SAFE : Fld := ⟨0x20, 0, 2⟩
def OUT_FRET : Nat := 0x24
def OUT_FRET_V : Fld := ⟨0x24, 0, 9⟩
def OUT_FCOMP : Nat := 0x28
def OUT_FCOMP_V : Fld := ⟨0x28, 0, 10⟩
def OUT_FCAL : Nat := 0x2c
def OUT_FCAL_V : Fld := ⟨0x2c, 0, 10⟩
def OUT_FRETAPP : Nat := 0x30
def OUT_FRETAPP_A : Fld := ⟨0x30, 0, 9⟩
def OUT_FRETAPP_T : Fld := ⟨0x30, 16, 9⟩
def OUT_STATE : Nat := 0x34
def OUT_STATE_OUTST : Fld := ⟨0x34, 0, 3⟩
def OUT_STATE_SAFEACT : Fld := ⟨0x34, 3, 2⟩
def OUT_STATE_DRVBAD : Fld := ⟨0x34, 5, 1⟩
def OUT_STATE_DIVBAD : Fld := ⟨0x34, 6, 1⟩
def OUT_STATE_FMOVE : Fld := ⟨0x34, 7, 1⟩
def OUT_STATE_FCLAMP : Fld := ⟨0x34, 8, 1⟩
def OUT_STATE_COARSEAPP : Fld := ⟨0x34, 16, 10⟩
def OUT_STS : Nat := 0x38
def OUT_STS_ENDONE : Fld := ⟨0x38, 0, 1⟩
def OUT_STS_DISDONE : Fld := ⟨0x38, 1, 1⟩
def OUT_STS_SAFE : Fld := ⟨0x38, 2, 1⟩
def OUT_STS_FRETDONE : Fld := ⟨0x38, 3, 1⟩
def OUT_STS_FCLAMP : Fld := ⟨0x38, 4, 1⟩
def OUT_STS_OVLAP : Fld := ⟨0x38, 5, 1⟩
def OUT_STS_RANGE : Fld := ⟨0x38, 6, 1⟩
def OUT_STS_DRVSEEN : Fld := ⟨0x38, 7, 1⟩
def OUT_STS_SEQ : Fld := ⟨0x38, 24, 8⟩
def OUT_DFCFG : Nat := 0x3c
def OUT_DFCFG_DFN : Fld := ⟨0x3c, 0, 8⟩
def OUT_DRVCNT : Nat := 0x40
def OUT_SNAP_STATE : Nat := 0x50
def OUT_SNAP_FRETAPP : Nat := 0x54

def rowsOUT : List RegRow := [
  ⟨0x0, 1, 0, .run, 0xfffffffc, 0⟩, ⟨0x4, 1, 0, .cfg, 0xffff0e00, 0x40⟩, ⟨0x8, 1, 0, .cfg, 0xff000000, 0x6⟩,
  ⟨0xc, 1, 0, .cfg, 0, 0x1⟩, ⟨0x10, 1, 0, .cfg, 0xffffff0c, 0x10⟩, ⟨0x14, 1, 0, .run, 0xfffffc00, 0⟩,
  ⟨0x18, 1, 0, .run, 0xffff0000, 0x64⟩, ⟨0x1c, 1, 0, .cmd, 0xfffffffe, 0⟩, ⟨0x20, 1, 0, .run, 0xfffffffc, 0⟩,
  ⟨0x24, 1, 0, .run, 0xfffffe00, 0⟩, ⟨0x28, 1, 0, .run, 0xfffffc00, 0⟩, ⟨0x2c, 1, 0, .run, 0xfffffc00, 0⟩,
  ⟨0x30, 1, 0, .ro, 0xfe00fe00, 0⟩, ⟨0x34, 1, 0, .ro, 0xfc00fe00, 0⟩, ⟨0x38, 1, 0, .sts, 0xffff00, 0⟩,
  ⟨0x3c, 1, 0, .run, 0xffffff00, 0x10⟩, ⟨0x40, 1, 0, .ro, 0, 0⟩, ⟨0x50, 1, 0, .snp, 0, 0⟩,
  ⟨0x54, 1, 0, .snp, 0, 0⟩]

/-! ### SYNC: alignment (spec/08_alignment.md) -/

def SYNC_CTL : Nat := 0x0
def SYNC_CTL_ENABLE : Fld := ⟨0x0, 0, 1⟩
def SYNC_CTL_RINGEN : Fld := ⟨0x0, 1, 1⟩
def SYNC_CFG : Nat := 0x4
def SYNC_CFG_PINDLY : Fld := ⟨0x4, 0, 20⟩
def SYNC_CFG_PINEDGE : Fld := ⟨0x4, 20, 1⟩
def SYNC_CFG_PINMODE : Fld := ⟨0x4, 21, 1⟩
def SYNC_CHMASK_LO : Nat := 0x8
def SYNC_CHMASK_HI : Nat := 0xc
def SYNC_CHMASK_HI_V : Fld := ⟨0xc, 0, 8⟩
def SYNC_AT_W0 : Nat := 0x10
def SYNC_AT_W1 : Nat := 0x14
def SYNC_AT_W2 : Nat := 0x18
def SYNC_CMD : Nat := 0x1c
def SYNC_CMD_ARM : Fld := ⟨0x1c, 0, 1⟩
def SYNC_CMD_TRIG : Fld := ⟨0x1c, 1, 2⟩
def SYNC_CMD_RINGBC : Fld := ⟨0x1c, 3, 1⟩
def SYNC_CMD_DISARM : Fld := ⟨0x1c, 4, 1⟩
def SYNC_STATE : Nat := 0x20
def SYNC_STATE_ARMED : Fld := ⟨0x20, 0, 1⟩
def SYNC_STATE_TRIGARM : Fld := ⟨0x20, 1, 2⟩
def SYNC_STATE_RINGARM : Fld := ⟨0x20, 3, 1⟩
def SYNC_STATE_PLACED : Fld := ⟨0x20, 4, 1⟩
def SYNC_STATE_RSTCNT : Fld := ⟨0x20, 16, 16⟩
def SYNC_STS : Nat := 0x24
def SYNC_STS_DONE : Fld := ⟨0x24, 0, 1⟩
def SYNC_STS_LATE : Fld := ⟨0x24, 1, 1⟩
def SYNC_STS_PINLOST : Fld := ⟨0x24, 2, 1⟩
def SYNC_STS_TRIMSAT : Fld := ⟨0x24, 3, 1⟩
def SYNC_STS_TRIMREF : Fld := ⟨0x24, 4, 1⟩
def SYNC_STS_SRDONE : Fld := ⟨0x24, 5, 4⟩
def SYNC_STS_SRLATE : Fld := ⟨0x24, 9, 1⟩
def SYNC_STS_ARMREF : Fld := ⟨0x24, 10, 1⟩
def SYNC_STS_SEQ : Fld := ⟨0x24, 24, 8⟩
def SYNC_LAST_W0 : Nat := 0x28
def SYNC_LAST_W1 : Nat := 0x2c
def SYNC_LAST_W2 : Nat := 0x30
def SYNC_DONEMASK_LO : Nat := 0x34
def SYNC_DONEMASK_HI : Nat := 0x38
def SYNC_DONEMASK_HI_V : Fld := ⟨0x38, 0, 8⟩
def SYNC_PINCNT : Nat := 0x3c
def SYNC_TRIMCTL : Nat := 0x40
def SYNC_TRIMCTL_TRIMENA : Fld := ⟨0x40, 0, 1⟩
def SYNC_TRIMCTL_TRIMENB : Fld := ⟨0x40, 1, 1⟩
def SYNC_TRIMCTL_TRIMTHR : Fld := ⟨0x40, 8, 8⟩
def SYNC_TRIMCTL_TRIMINT : Fld := ⟨0x40, 16, 16⟩
def SYNC_PHTGTA : Nat := 0x44
def SYNC_PHTGTB : Nat := 0x48
def SYNC_APHA : Nat := 0x4c
def SYNC_APHB : Nat := 0x50
def SYNC_APERRA : Nat := 0x54
def SYNC_APERRB : Nat := 0x58
def SYNC_TRIMCNT : Nat := 0x5c
def SYNC_TRIMCNT_A : Fld := ⟨0x5c, 0, 16⟩
def SYNC_TRIMCNT_B : Fld := ⟨0x5c, 16, 16⟩
def SYNC_SNAP_STATE : Nat := 0x60
def SYNC_SNAP_APERRA : Nat := 0x64
def SYNC_SNAP_APERRB : Nat := 0x68
def SYNC_SR_CFG : Nat := 0x80
def SYNC_SR_CFG_KIND : Fld := ⟨0x80, 0, 2⟩
def SYNC_SR_CFG_START : Fld := ⟨0x80, 2, 2⟩
def SYNC_SR_COUNT : Nat := 0x84
def SYNC_SR_COUNT_ON : Fld := ⟨0x84, 0, 16⟩
def SYNC_SR_COUNT_OFF : Fld := ⟨0x84, 16, 16⟩
def SYNC_SR_AT_W0 : Nat := 0x88
def SYNC_SR_AT_W1 : Nat := 0x8c
def SYNC_SR_AT_W2 : Nat := 0x90
def SYNC_SR_CMD : Nat := 0x94
def SYNC_SR_CMD_START : Fld := ⟨0x94, 0, 1⟩
def SYNC_SR_CMD_STOP : Fld := ⟨0x94, 1, 1⟩
def SYNC_SR_CMD_RINGBC : Fld := ⟨0x94, 2, 1⟩
def SYNC_SR_STATE : Nat := 0x98
def SYNC_SR_STATE_SRST : Fld := ⟨0x98, 0, 2⟩
def SYNC_SR_STATE_PASSED : Fld := ⟨0x98, 8, 24⟩
def SYNC_SRMAP0 : Nat := 0x100
def SYNC_SRMAP0_F0 : Fld := ⟨0x100, 0, 2⟩
def SYNC_SRMAP0_F1 : Fld := ⟨0x100, 2, 2⟩
def SYNC_SRMAP0_F2 : Fld := ⟨0x100, 4, 2⟩
def SYNC_SRMAP0_F3 : Fld := ⟨0x100, 6, 2⟩
def SYNC_SRMAP0_F4 : Fld := ⟨0x100, 8, 2⟩
def SYNC_SRMAP0_F5 : Fld := ⟨0x100, 10, 2⟩
def SYNC_SRMAP0_F6 : Fld := ⟨0x100, 12, 2⟩
def SYNC_SRMAP0_F7 : Fld := ⟨0x100, 14, 2⟩
def SYNC_SRMAP0_F8 : Fld := ⟨0x100, 16, 2⟩
def SYNC_SRMAP0_F9 : Fld := ⟨0x100, 18, 2⟩
def SYNC_SRMAP0_F10 : Fld := ⟨0x100, 20, 2⟩
def SYNC_SRMAP0_F11 : Fld := ⟨0x100, 22, 2⟩
def SYNC_SRMAP0_F12 : Fld := ⟨0x100, 24, 2⟩
def SYNC_SRMAP0_F13 : Fld := ⟨0x100, 26, 2⟩
def SYNC_SRMAP0_F14 : Fld := ⟨0x100, 28, 2⟩
def SYNC_SRMAP0_F15 : Fld := ⟨0x100, 30, 2⟩
def SYNC_SRMAP1 : Nat := 0x104
def SYNC_SRMAP1_F0 : Fld := ⟨0x104, 0, 2⟩
def SYNC_SRMAP1_F1 : Fld := ⟨0x104, 2, 2⟩
def SYNC_SRMAP1_F2 : Fld := ⟨0x104, 4, 2⟩
def SYNC_SRMAP1_F3 : Fld := ⟨0x104, 6, 2⟩
def SYNC_SRMAP1_F4 : Fld := ⟨0x104, 8, 2⟩
def SYNC_SRMAP1_F5 : Fld := ⟨0x104, 10, 2⟩
def SYNC_SRMAP1_F6 : Fld := ⟨0x104, 12, 2⟩
def SYNC_SRMAP1_F7 : Fld := ⟨0x104, 14, 2⟩
def SYNC_SRMAP1_F8 : Fld := ⟨0x104, 16, 2⟩
def SYNC_SRMAP1_F9 : Fld := ⟨0x104, 18, 2⟩
def SYNC_SRMAP1_F10 : Fld := ⟨0x104, 20, 2⟩
def SYNC_SRMAP1_F11 : Fld := ⟨0x104, 22, 2⟩
def SYNC_SRMAP1_F12 : Fld := ⟨0x104, 24, 2⟩
def SYNC_SRMAP1_F13 : Fld := ⟨0x104, 26, 2⟩
def SYNC_SRMAP1_F14 : Fld := ⟨0x104, 28, 2⟩
def SYNC_SRMAP1_F15 : Fld := ⟨0x104, 30, 2⟩
def SYNC_SRMAP2 : Nat := 0x108
def SYNC_SRMAP2_F0 : Fld := ⟨0x108, 0, 2⟩
def SYNC_SRMAP2_F1 : Fld := ⟨0x108, 2, 2⟩
def SYNC_SRMAP2_F2 : Fld := ⟨0x108, 4, 2⟩
def SYNC_SRMAP2_F3 : Fld := ⟨0x108, 6, 2⟩
def SYNC_SRMAP2_F4 : Fld := ⟨0x108, 8, 2⟩
def SYNC_SRMAP2_F5 : Fld := ⟨0x108, 10, 2⟩
def SYNC_SRMAP2_F6 : Fld := ⟨0x108, 12, 2⟩
def SYNC_SRMAP2_F7 : Fld := ⟨0x108, 14, 2⟩
def SYNC_ECTL : Nat := 0x140
def SYNC_ECTL_ECHOEN : Fld := ⟨0x140, 0, 1⟩
def SYNC_ECTL_APPLY : Fld := ⟨0x140, 1, 1⟩
def SYNC_ECTL_AVG : Fld := ⟨0x140, 4, 3⟩
def SYNC_ECTL_FHYST : Fld := ⟨0x140, 8, 8⟩
def SYNC_ECTL_JUMPTHR : Fld := ⟨0x140, 16, 8⟩
def SYNC_ECTL_JUMPN : Fld := ⟨0x140, 24, 4⟩
def SYNC_ESTS : Nat := 0x144
def SYNC_ESTS_UPDATE : Fld := ⟨0x144, 0, 1⟩
def SYNC_ESTS_WEAK : Fld := ⟨0x144, 1, 1⟩
def SYNC_ESTS_OPEN : Fld := ⟨0x144, 2, 1⟩
def SYNC_ESTS_SHORT : Fld := ⟨0x144, 3, 1⟩
def SYNC_ESTS_RANGE : Fld := ⟨0x144, 4, 1⟩
def SYNC_ESTS_JUMP : Fld := ⟨0x144, 5, 1⟩
def SYNC_ESTS_CLAMP : Fld := ⟨0x144, 6, 1⟩
def SYNC_ESTS_REFUSED : Fld := ⟨0x144, 7, 1⟩
def SYNC_ESTS_LASTCH : Fld := ⟨0x144, 8, 6⟩
def SYNC_ESTS_SEQ : Fld := ⟨0x144, 24, 8⟩
def SYNC_EREF0 : Nat := 0x150
def SYNC_EREF1 : Nat := 0x154
def SYNC_EREF2 : Nat := 0x158
def SYNC_EREF3 : Nat := 0x15c
def SYNC_ECFG : Nat := 0x200
def SYNC_ECFG_EN : Fld := ⟨0x200, 0, 1⟩
def SYNC_ECFG_ISO : Fld := ⟨0x200, 1, 1⟩
def SYNC_ECFG_GROUP : Fld := ⟨0x200, 2, 2⟩
def SYNC_ECFG_CBULK : Fld := ⟨0x200, 16, 10⟩
def SYNC_ENOM : Nat := 0x204
def SYNC_ENOM_ENOM : Fld := ⟨0x204, 0, 16⟩
def SYNC_ETAU : Nat := 0x208
def SYNC_ERES : Nat := 0x20c
def SYNC_ERES_LAUNCH : Fld := ⟨0x20c, 0, 16⟩
def SYNC_ERES_GAMMA : Fld := ⟨0x20c, 16, 8⟩
def SYNC_ERES_RSTAT : Fld := ⟨0x20c, 24, 3⟩

def rowsSYNC0 : List RegRow := [
  ⟨0x0, 1, 0, .run, 0xfffffffc, 0x2⟩, ⟨0x4, 1, 0, .cfg, 0xffc00000, 0x3e8⟩, ⟨0x8, 1, 0, .run, 0, 0⟩,
  ⟨0xc, 1, 0, .run, 0xffffff00, 0⟩, ⟨0x10, 1, 0, .run, 0, 0⟩, ⟨0x14, 1, 0, .run, 0, 0⟩,
  ⟨0x18, 1, 0, .run, 0, 0⟩, ⟨0x1c, 1, 0, .cmd, 0xffffffe0, 0⟩, ⟨0x20, 1, 0, .ro, 0xffe0, 0⟩,
  ⟨0x24, 1, 0, .sts, 0xfff800, 0⟩, ⟨0x28, 1, 0, .ro, 0, 0⟩, ⟨0x2c, 1, 0, .ro, 0, 0⟩,
  ⟨0x30, 1, 0, .ro, 0, 0⟩, ⟨0x34, 1, 0, .ro, 0, 0⟩, ⟨0x38, 1, 0, .ro, 0xffffff00, 0⟩,
  ⟨0x3c, 1, 0, .ro, 0, 0⟩, ⟨0x40, 1, 0, .run, 0xfc, 0x640200⟩, ⟨0x44, 1, 0, .run, 0, 0⟩,
  ⟨0x48, 1, 0, .run, 0, 0⟩, ⟨0x4c, 1, 0, .ro, 0, 0xffffffff⟩, ⟨0x50, 1, 0, .ro, 0, 0xffffffff⟩,
  ⟨0x54, 1, 0, .ro, 0, 0x80000000⟩, ⟨0x58, 1, 0, .ro, 0, 0x80000000⟩, ⟨0x5c, 1, 0, .ro, 0, 0⟩]
def rowsSYNC1 : List RegRow := [
  ⟨0x60, 1, 0, .snp, 0, 0⟩, ⟨0x64, 1, 0, .snp, 0, 0⟩, ⟨0x68, 1, 0, .snp, 0, 0⟩,
  ⟨0x80, 4, 0x20, .run, 0xfffffff0, 0x1⟩, ⟨0x84, 4, 0x20, .run, 0, 0x1⟩, ⟨0x88, 4, 0x20, .run, 0, 0⟩,
  ⟨0x8c, 4, 0x20, .run, 0, 0⟩, ⟨0x90, 4, 0x20, .run, 0, 0⟩, ⟨0x94, 4, 0x20, .cmd, 0xfffffff8, 0⟩,
  ⟨0x98, 4, 0x20, .ro, 0xfc, 0⟩, ⟨0x100, 1, 0, .run, 0, 0⟩, ⟨0x104, 1, 0, .run, 0, 0⟩,
  ⟨0x108, 1, 0, .run, 0xffff0000, 0⟩, ⟨0x140, 1, 0, .run, 0xf000008c, 0x3149a30⟩, ⟨0x144, 1, 0, .sts, 0xffc000, 0⟩,
  ⟨0x150, 1, 0, .run, 0, 0⟩, ⟨0x154, 1, 0, .run, 0, 0⟩, ⟨0x158, 1, 0, .run, 0, 0⟩,
  ⟨0x15c, 1, 0, .run, 0, 0⟩, ⟨0x200, 40, 0x10, .run, 0xfc00fff0, 0⟩, ⟨0x204, 40, 0x10, .run, 0xffff0000, 0⟩,
  ⟨0x208, 40, 0x10, .ro, 0, 0xffffffff⟩, ⟨0x20c, 40, 0x10, .ro, 0xf8000000, 0⟩]
def rowsSYNC : List RegRow := rowsSYNC0 ++ rowsSYNC1

/-! ### TB: timebase (spec/09_timebase.md) -/

def TB_MODE : Nat := 0x0
def TB_MODE_MODE : Fld := ⟨0x0, 0, 1⟩
def TB_STEER : Nat := 0x4
def TB_STEER_STEER : Fld := ⟨0x4, 0, 2⟩
def TB_INCR_LO : Nat := 0x8
def TB_INCR_HI : Nat := 0xc
def TB_SRVW_LO : Nat := 0x10
def TB_SRVW_HI : Nat := 0x14
def TB_SRVW_HI_V : Fld := ⟨0x14, 0, 16⟩
def TB_BACKEN : Nat := 0x18
def TB_BACKEN_KEY : Fld := ⟨0x18, 0, 16⟩
def TB_CMD : Nat := 0x1c
def TB_CMD_RESYNC : Fld := ⟨0x1c, 0, 1⟩
def TB_STEP_W0 : Nat := 0x20
def TB_STEP_W1 : Nat := 0x24
def TB_STEP_W2 : Nat := 0x28
def TB_TIME_W0 : Nat := 0x30
def TB_TIME_W1 : Nat := 0x34
def TB_TIME_W2 : Nat := 0x38
def TB_EPOCH : Nat := 0x3c
def TB_EPOCH_V : Fld := ⟨0x3c, 0, 16⟩
def TB_COUNT_W0 : Nat := 0x40
def TB_COUNT_W1 : Nat := 0x44
def TB_COUNT_W2 : Nat := 0x48
def TB_OFS_W0 : Nat := 0x4c
def TB_OFS_W1 : Nat := 0x50
def TB_OFS_W2 : Nat := 0x54
def TB_RATE_LO : Nat := 0x58
def TB_RATE_HI : Nat := 0x5c
def TB_RATE_HI_V : Fld := ⟨0x5c, 0, 16⟩
def TB_INCRNOW_LO : Nat := 0x60
def TB_INCRNOW_HI : Nat := 0x64
def TB_STATE : Nat := 0x68
def TB_STATE_MODE : Fld := ⟨0x68, 0, 1⟩
def TB_STATE_STEER : Fld := ⟨0x68, 1, 2⟩
def TB_STATE_BACKARM : Fld := ⟨0x68, 3, 1⟩
def TB_STATE_DUPBAD : Fld := ⟨0x68, 4, 1⟩
def TB_STATE_CLAMP : Fld := ⟨0x68, 5, 1⟩
def TB_STS : Nat := 0x6c
def TB_STS_STEP : Fld := ⟨0x6c, 0, 1⟩
def TB_STS_STEPREF : Fld := ⟨0x6c, 1, 1⟩
def TB_STS_MODECHG : Fld := ⟨0x6c, 2, 1⟩
def TB_STS_MODEREF : Fld := ⟨0x6c, 3, 1⟩
def TB_STS_CLAMP : Fld := ⟨0x6c, 4, 1⟩
def TB_STS_DUPSEEN : Fld := ⟨0x6c, 5, 1⟩
def TB_STS_CAUSE : Fld := ⟨0x6c, 8, 8⟩
def TB_STS_SEQ : Fld := ⟨0x6c, 24, 8⟩
def TB_LASTSTEP_W0 : Nat := 0x70
def TB_LASTSTEP_W1 : Nat := 0x74
def TB_LASTSTEP_W2 : Nat := 0x78
def TB_SNAP_EPOCH : Nat := 0x80
def TB_SNAP_COUNT_W0 : Nat := 0x84
def TB_SNAP_COUNT_W1 : Nat := 0x88
def TB_SNAP_COUNT_W2 : Nat := 0x8c

def rowsTB0 : List RegRow := [
  ⟨0x0, 1, 0, .run, 0xfffffffe, 0⟩, ⟨0x4, 1, 0, .run, 0xfffffffc, 0⟩, ⟨0x8, 1, 0, .run, 0, 0⟩,
  ⟨0xc, 1, 0, .run, 0, 0x10000⟩, ⟨0x10, 1, 0, .run, 0, 0⟩, ⟨0x14, 1, 0, .run, 0xffff0000, 0⟩,
  ⟨0x18, 1, 0, .cmd, 0xffff0000, 0⟩, ⟨0x1c, 1, 0, .cmd, 0xfffffffe, 0⟩, ⟨0x20, 1, 0, .run, 0, 0⟩,
  ⟨0x24, 1, 0, .run, 0, 0⟩, ⟨0x28, 1, 0, .cmd, 0, 0⟩, ⟨0x30, 1, 0, .ro, 0, 0⟩,
  ⟨0x34, 1, 0, .ro, 0, 0⟩, ⟨0x38, 1, 0, .ro, 0, 0⟩, ⟨0x3c, 1, 0, .ro, 0xffff0000, 0⟩,
  ⟨0x40, 1, 0, .ro, 0, 0⟩, ⟨0x44, 1, 0, .ro, 0, 0⟩, ⟨0x48, 1, 0, .ro, 0, 0⟩,
  ⟨0x4c, 1, 0, .ro, 0, 0⟩, ⟨0x50, 1, 0, .ro, 0, 0⟩, ⟨0x54, 1, 0, .ro, 0, 0⟩,
  ⟨0x58, 1, 0, .ro, 0, 0⟩, ⟨0x5c, 1, 0, .ro, 0xffff0000, 0⟩, ⟨0x60, 1, 0, .ro, 0, 0⟩]
def rowsTB1 : List RegRow := [
  ⟨0x64, 1, 0, .ro, 0, 0x10000⟩, ⟨0x68, 1, 0, .ro, 0xffffffc0, 0⟩, ⟨0x6c, 1, 0, .sts, 0xff00c0, 0⟩,
  ⟨0x70, 1, 0, .ro, 0, 0⟩, ⟨0x74, 1, 0, .ro, 0, 0⟩, ⟨0x78, 1, 0, .ro, 0, 0⟩,
  ⟨0x80, 1, 0, .snp, 0, 0⟩, ⟨0x84, 1, 0, .snp, 0, 0⟩, ⟨0x88, 1, 0, .snp, 0, 0⟩,
  ⟨0x8c, 1, 0, .snp, 0, 0⟩]
def rowsTB : List RegRow := rowsTB0 ++ rowsTB1

/-! ### TEV: timed events and captures (spec/09_timebase.md) -/

def TEV_CTL : Nat := 0x0
def TEV_CTL_ENABLE : Fld := ⟨0x0, 0, 1⟩
def TEV_CTL_RINGEN : Fld := ⟨0x0, 1, 1⟩
def TEV_PINSEL : Nat := 0x4
def TEV_PINSEL_F0 : Fld := ⟨0x4, 0, 4⟩
def TEV_PINSEL_F1 : Fld := ⟨0x4, 4, 4⟩
def TEV_PINSEL_F2 : Fld := ⟨0x4, 8, 4⟩
def TEV_PINSEL_F3 : Fld := ⟨0x4, 12, 4⟩
def TEV_PINSEL_F4 : Fld := ⟨0x4, 16, 4⟩
def TEV_PINSEL_F5 : Fld := ⟨0x4, 20, 4⟩
def TEV_PINSEL_F6 : Fld := ⟨0x4, 24, 4⟩
def TEV_PINSEL_F7 : Fld := ⟨0x4, 28, 4⟩
def TEV_PINEN : Nat := 0x8
def TEV_PINEN_EN : Fld := ⟨0x8, 0, 8⟩
def TEV_PINEN_POL : Fld := ⟨0x8, 8, 8⟩
def TEV_QSEL : Nat := 0xc
def TEV_QSEL_STAMPQ : Fld := ⟨0xc, 0, 6⟩
def TEV_QSEL_CAPQ : Fld := ⟨0xc, 8, 6⟩
def TEV_STS : Nat := 0x10
def TEV_STS_REPLAY : Fld := ⟨0x10, 0, 1⟩
def TEV_STS_SKIP : Fld := ⟨0x10, 1, 1⟩
def TEV_STS_REFUSED : Fld := ⟨0x10, 2, 1⟩
def TEV_STS_CAPLOST : Fld := ⟨0x10, 3, 1⟩
def TEV_STS_OVLAP : Fld := ⟨0x10, 4, 1⟩
def TEV_STS_LASTG : Fld := ⟨0x10, 8, 4⟩
def TEV_STS_SEQ : Fld := ⟨0x10, 24, 8⟩
def TEV_ARMED : Nat := 0x14
def TEV_ARMED_V : Fld := ⟨0x14, 0, 16⟩
def TEV_SNAP_ARMED : Nat := 0x20
def TEV_CAP_CFG : Nat := 0x40
def TEV_CAP_CFG_EN : Fld := ⟨0x40, 0, 1⟩
def TEV_CAP_CFG_EDGE : Fld := ⟨0x40, 1, 2⟩
def TEV_CAP_LAST_W0 : Nat := 0x44
def TEV_CAP_LAST_W1 : Nat := 0x48
def TEV_CAP_LAST_W2 : Nat := 0x4c
def TEV_CAP_INFO : Nat := 0xc0
def TEV_CAP_INFO_EPOCH : Fld := ⟨0xc0, 0, 16⟩
def TEV_CAP_INFO_COUNT : Fld := ⟨0xc0, 16, 16⟩
def TEV_CAP_LOST : Nat := 0xe0
def TEV_G_CFG : Nat := 0x100
def TEV_G_CFG_KIND : Fld := ⟨0x100, 0, 1⟩
def TEV_G_CFG_STAMP : Fld := ⟨0x100, 1, 1⟩
def TEV_G_WIDTH : Nat := 0x104
def TEV_G_WIDTH_V : Fld := ⟨0x104, 0, 24⟩
def TEV_G_AT_W0 : Nat := 0x108
def TEV_G_AT_W1 : Nat := 0x10c
def TEV_G_AT_W2 : Nat := 0x110
def TEV_G_PER_LO : Nat := 0x114
def TEV_G_PER_HI : Nat := 0x118
def TEV_G_CMD : Nat := 0x11c
def TEV_G_CMD_ARM : Fld := ⟨0x11c, 0, 1⟩
def TEV_G_CMD_DISARM : Fld := ⟨0x11c, 1, 1⟩
def TEV_G_CMD_RINGBC : Fld := ⟨0x11c, 2, 1⟩
def TEV_G_STATE : Nat := 0x120
def TEV_G_STATE_ST : Fld := ⟨0x120, 0, 2⟩
def TEV_G_STATE_LATE : Fld := ⟨0x120, 2, 1⟩
def TEV_G_STATE_REPLAY : Fld := ⟨0x120, 3, 1⟩
def TEV_G_STATE_EPOCH : Fld := ⟨0x120, 16, 16⟩
def TEV_G_LAST_W0 : Nat := 0x124
def TEV_G_LAST_W1 : Nat := 0x128
def TEV_G_LAST_W2 : Nat := 0x12c
def TEV_G_LABEL_LO : Nat := 0x130
def TEV_G_LABEL_HI : Nat := 0x134
def TEV_G_SKIPCNT : Nat := 0x138
def TEV_G_COUNT : Nat := 0x13c

def rowsTEV0 : List RegRow := [
  ⟨0x0, 1, 0, .run, 0xfffffffc, 0x2⟩, ⟨0x4, 1, 0, .run, 0, 0⟩, ⟨0x8, 1, 0, .run, 0xffff0000, 0⟩,
  ⟨0xc, 1, 0, .run, 0xffffc0c0, 0x100⟩, ⟨0x10, 1, 0, .sts, 0xfff0e0, 0⟩, ⟨0x14, 1, 0, .ro, 0xffff0000, 0⟩,
  ⟨0x20, 1, 0, .snp, 0, 0⟩, ⟨0x40, 8, 0x10, .run, 0xfffffff8, 0⟩, ⟨0x44, 8, 0x10, .ro, 0, 0⟩,
  ⟨0x48, 8, 0x10, .ro, 0, 0⟩, ⟨0x4c, 8, 0x10, .ro, 0, 0⟩, ⟨0xc0, 8, 0x4, .ro, 0, 0⟩,
  ⟨0xe0, 8, 0x4, .ro, 0, 0⟩, ⟨0x100, 16, 0x40, .run, 0xfffffffc, 0⟩, ⟨0x104, 16, 0x40, .run, 0xff000000, 0x64⟩,
  ⟨0x108, 16, 0x40, .run, 0, 0⟩, ⟨0x10c, 16, 0x40, .run, 0, 0⟩, ⟨0x110, 16, 0x40, .run, 0, 0⟩,
  ⟨0x114, 16, 0x40, .run, 0, 0⟩, ⟨0x118, 16, 0x40, .run, 0, 0⟩, ⟨0x11c, 16, 0x40, .cmd, 0xfffffff8, 0⟩,
  ⟨0x120, 16, 0x40, .ro, 0xfff0, 0⟩, ⟨0x124, 16, 0x40, .ro, 0, 0⟩, ⟨0x128, 16, 0x40, .ro, 0, 0⟩]
def rowsTEV1 : List RegRow := [
  ⟨0x12c, 16, 0x40, .ro, 0, 0⟩, ⟨0x130, 16, 0x40, .ro, 0, 0⟩, ⟨0x134, 16, 0x40, .ro, 0, 0⟩,
  ⟨0x138, 16, 0x40, .ro, 0, 0⟩, ⟨0x13c, 16, 0x40, .ro, 0, 0⟩]
def rowsTEV : List RegRow := rowsTEV0 ++ rowsTEV1

/-! ### SNAP: snapshots (spec/09_timebase.md) -/

def SNAP_CTL : Nat := 0x0
def SNAP_CTL_PIN : Fld := ⟨0x0, 0, 1⟩
def SNAP_CTL_TEV : Fld := ⟨0x0, 1, 1⟩
def SNAP_CTL_FAULT : Fld := ⟨0x0, 2, 1⟩
def SNAP_CTL_INSTR : Fld := ⟨0x0, 3, 1⟩
def SNAP_CTL_RING : Fld := ⟨0x0, 4, 1⟩
def SNAP_CTL_PINEDGE : Fld := ⟨0x0, 5, 1⟩
def SNAP_CTL_TEVSEL : Fld := ⟨0x0, 8, 4⟩
def SNAP_HOLD : Nat := 0x4
def SNAP_HOLD_HOLD : Fld := ⟨0x4, 0, 1⟩
def SNAP_HOLD_FLTHOLD : Fld := ⟨0x4, 1, 1⟩
def SNAP_CMD : Nat := 0x8
def SNAP_CMD_RELEASE : Fld := ⟨0x8, 0, 1⟩
def SNAP_CMD_RINGGO : Fld := ⟨0x8, 1, 1⟩
def SNAP_RINGAT_W0 : Nat := 0xc
def SNAP_RINGAT_W1 : Nat := 0x10
def SNAP_RINGAT_W2 : Nat := 0x14
def SNAP_STAMP_W0 : Nat := 0x18
def SNAP_STAMP_W1 : Nat := 0x1c
def SNAP_STAMP_W2 : Nat := 0x20
def SNAP_EPOCH : Nat := 0x24
def SNAP_EPOCH_V : Fld := ⟨0x24, 0, 16⟩
def SNAP_INFO : Nat := 0x28
def SNAP_INFO_SEQ : Fld := ⟨0x28, 0, 16⟩
def SNAP_INFO_CAUSE : Fld := ⟨0x28, 16, 5⟩
def SNAP_INFO_HELD : Fld := ⟨0x28, 24, 1⟩
def SNAP_MISSED : Nat := 0x2c
def SNAP_STS : Nat := 0x30
def SNAP_STS_DONE : Fld := ⟨0x30, 0, 1⟩
def SNAP_STS_MISS : Fld := ⟨0x30, 1, 1⟩
def SNAP_STS_LATE : Fld := ⟨0x30, 2, 1⟩
def SNAP_STS_SEQ : Fld := ⟨0x30, 24, 8⟩
def SNAP_PIN_W0 : Nat := 0x34
def SNAP_PIN_W1 : Nat := 0x38
def SNAP_PIN_W2 : Nat := 0x3c

def rowsSNAP : List RegRow := [
  ⟨0x0, 1, 0, .run, 0xfffff0c0, 0xc⟩, ⟨0x4, 1, 0, .run, 0xfffffffc, 0x2⟩, ⟨0x8, 1, 0, .cmd, 0xfffffffc, 0⟩,
  ⟨0xc, 1, 0, .run, 0, 0⟩, ⟨0x10, 1, 0, .run, 0, 0⟩, ⟨0x14, 1, 0, .run, 0, 0⟩,
  ⟨0x18, 1, 0, .snp, 0, 0⟩, ⟨0x1c, 1, 0, .snp, 0, 0⟩, ⟨0x20, 1, 0, .snp, 0, 0⟩,
  ⟨0x24, 1, 0, .snp, 0xffff0000, 0⟩, ⟨0x28, 1, 0, .ro, 0xfee00000, 0⟩, ⟨0x2c, 1, 0, .ro, 0, 0⟩,
  ⟨0x30, 1, 0, .sts, 0xfffff8, 0⟩, ⟨0x34, 1, 0, .snp, 0, 0⟩, ⟨0x38, 1, 0, .snp, 0, 0⟩,
  ⟨0x3c, 1, 0, .snp, 0, 0⟩]

/-! ### ETH: Ethernet port (spec/10_network_time.md) -/

def ETH_CTL : Nat := 0x0
def ETH_CTL_ENABLE : Fld := ⟨0x0, 0, 1⟩
def ETH_CFG : Nat := 0x4
def ETH_CFG_RATE : Fld := ⟨0x4, 0, 1⟩
def ETH_CFG_FEC : Fld := ⟨0x4, 1, 1⟩
def ETH_CFG_MODE : Fld := ⟨0x4, 2, 2⟩
def ETH_CFG_TXPOL : Fld := ⟨0x4, 4, 1⟩
def ETH_CFG_RXPOL : Fld := ⟨0x4, 5, 1⟩
def ETH_MAC_LO : Nat := 0x8
def ETH_MAC_HI : Nat := 0xc
def ETH_MAC_HI_V : Fld := ⟨0xc, 0, 16⟩
def ETH_IP4 : Nat := 0x10
def ETH_IP6_W0 : Nat := 0x14
def ETH_IP6_W1 : Nat := 0x18
def ETH_IP6_W2 : Nat := 0x1c
def ETH_IP6_W3 : Nat := 0x20
def ETH_VLAN : Nat := 0x24
def ETH_VLAN_VID : Fld := ⟨0x24, 0, 12⟩
def ETH_VLAN_PCP : Fld := ⟨0x24, 12, 3⟩
def ETH_VLAN_VLANEN : Fld := ⟨0x24, 15, 1⟩
def ETH_RXLAT : Nat := 0x28
def ETH_TXLAT : Nat := 0x2c
def ETH_STATE : Nat := 0x30
def ETH_STATE_LINK : Fld := ⟨0x30, 0, 1⟩
def ETH_STATE_HIBER : Fld := ⟨0x30, 1, 1⟩
def ETH_STATE_FECLOCK : Fld := ⟨0x30, 2, 1⟩
def ETH_STATE_FWD : Fld := ⟨0x30, 3, 1⟩
def ETH_STS : Nat := 0x34
def ETH_STS_LINKCHG : Fld := ⟨0x34, 0, 1⟩
def ETH_STS_FEC : Fld := ⟨0x34, 1, 1⟩
def ETH_STS_DROP : Fld := ⟨0x34, 2, 1⟩
def ETH_STS_TXDROP : Fld := ⟨0x34, 3, 1⟩
def ETH_STS_SEQ : Fld := ⟨0x34, 24, 8⟩
def ETH_RXCNT : Nat := 0x38
def ETH_FWDCNT : Nat := 0x3c
def ETH_DROPCNT : Nat := 0x40
def ETH_TXDROPCNT : Nat := 0x44
def ETH_FECCOR : Nat := 0x48
def ETH_FECUNC : Nat := 0x4c
def ETH_SNAP_STATE : Nat := 0x50

def rowsETH : List RegRow := [
  ⟨0x0, 1, 0, .run, 0xfffffffe, 0⟩, ⟨0x4, 1, 0, .cfg, 0xffffffc0, 0x1⟩, ⟨0x8, 1, 0, .cfg, 0, 0⟩,
  ⟨0xc, 1, 0, .cfg, 0xffff0000, 0⟩, ⟨0x10, 1, 0, .cfg, 0, 0⟩, ⟨0x14, 1, 0, .cfg, 0, 0⟩,
  ⟨0x18, 1, 0, .cfg, 0, 0⟩, ⟨0x1c, 1, 0, .cfg, 0, 0⟩, ⟨0x20, 1, 0, .cfg, 0, 0⟩,
  ⟨0x24, 1, 0, .cfg, 0xffff0000, 0⟩, ⟨0x28, 1, 0, .run, 0, 0⟩, ⟨0x2c, 1, 0, .run, 0, 0⟩,
  ⟨0x30, 1, 0, .ro, 0xfffffff0, 0⟩, ⟨0x34, 1, 0, .sts, 0xfffff0, 0⟩, ⟨0x38, 1, 0, .ro, 0, 0⟩,
  ⟨0x3c, 1, 0, .ro, 0, 0⟩, ⟨0x40, 1, 0, .ro, 0, 0⟩, ⟨0x44, 1, 0, .ro, 0, 0⟩,
  ⟨0x48, 1, 0, .ro, 0, 0⟩, ⟨0x4c, 1, 0, .ro, 0, 0⟩, ⟨0x50, 1, 0, .snp, 0, 0⟩]

/-! ### PTP: PTP engine (spec/10_network_time.md) -/

def PTP_CTL : Nat := 0x0
def PTP_CTL_ENABLE : Fld := ⟨0x0, 0, 1⟩
def PTP_CTL_SRVEN : Fld := ⟨0x0, 1, 1⟩
def PTP_CTL_VSRCEN : Fld := ⟨0x0, 2, 1⟩
def PTP_CTL_MONPORT : Fld := ⟨0x0, 3, 1⟩
def PTP_CFG : Nat := 0x4
def PTP_CFG_PROFILE : Fld := ⟨0x4, 0, 2⟩
def PTP_CFG_ONESTEP : Fld := ⟨0x4, 2, 1⟩
def PTP_CFG_DELAYMECH : Fld := ⟨0x4, 3, 1⟩
def PTP_CFG_MCADDR : Fld := ⟨0x4, 4, 1⟩
def PTP_CFG_DOMAIN : Fld := ⟨0x4, 8, 8⟩
def PTP_QCFG : Nat := 0x8
def PTP_QCFG_RXQ : Fld := ⟨0x8, 0, 6⟩
def PTP_QCFG_TXQ : Fld := ⟨0x8, 8, 6⟩
def PTP_BUFBASE : Nat := 0xc
def PTP_BUFBASE_BASE : Fld := ⟨0xc, 15, 8⟩
def PTP_ASYM : Nat := 0x10
def PTP_SRVBW : Nat := 0x14
def PTP_SRVZETA : Nat := 0x18
def PTP_SRVZETA_V : Fld := ⟨0x18, 0, 16⟩
def PTP_SRVSLOPE : Nat := 0x1c
def PTP_SRVSLOPE_V : Fld := ⟨0x1c, 0, 20⟩
def PTP_SRVSTEP : Nat := 0x20
def PTP_PATH : Nat := 0x24
def PTP_PATH_PATHGUARD : Fld := ⟨0x24, 0, 8⟩
def PTP_PATH_MPDN : Fld := ⟨0x24, 8, 4⟩
def PTP_PATH_PATHHOLD : Fld := ⟨0x24, 16, 16⟩
def PTP_OFSEP : Nat := 0x28
def PTP_OFSEP_V : Fld := ⟨0x28, 0, 16⟩
def PTP_OFS_LO : Nat := 0x2c
def PTP_OFS_HI : Nat := 0x30
def PTP_MPD_LO : Nat := 0x34
def PTP_MPD_HI : Nat := 0x38
def PTP_MPDREF : Nat := 0x3c
def PTP_PATHDELTA : Nat := 0x40
def PTP_CMD : Nat := 0x44
def PTP_CMD_PATHHOLD : Fld := ⟨0x44, 0, 1⟩
def PTP_CMD_PATHACCEPT : Fld := ⟨0x44, 1, 1⟩
def PTP_CMD_PATHREJECT : Fld := ⟨0x44, 2, 1⟩
def PTP_CMD_PARENTCHG : Fld := ⟨0x44, 3, 1⟩
def PTP_CMD_SRVRESET : Fld := ⟨0x44, 4, 1⟩
def PTP_PSTATE : Nat := 0x48
def PTP_PSTATE_PORTST : Fld := ⟨0x48, 0, 4⟩
def PTP_PSTATE_RANK : Fld := ⟨0x48, 4, 4⟩
def PTP_PSTATE_PCLASS : Fld := ⟨0x48, 8, 8⟩
def PTP_STATE : Nat := 0x4c
def PTP_STATE_STEPPEND : Fld := ⟨0x4c, 0, 1⟩
def PTP_STATE_PATHST : Fld := ⟨0x4c, 1, 2⟩
def PTP_STATE_SRVON : Fld := ⟨0x4c, 3, 1⟩
def PTP_STATE_SRCHELD : Fld := ⟨0x4c, 4, 1⟩
def PTP_STATE_PATHLEFT : Fld := ⟨0x4c, 16, 16⟩
def PTP_STS : Nat := 0x50
def PTP_STS_RXFRAME : Fld := ⟨0x50, 0, 1⟩
def PTP_STS_TXSTAMP : Fld := ⟨0x50, 1, 1⟩
def PTP_STS_STEPPEND : Fld := ⟨0x50, 2, 1⟩
def PTP_STS_PATH : Fld := ⟨0x50, 3, 1⟩
def PTP_STS_PATHTO : Fld := ⟨0x50, 4, 1⟩
def PTP_STS_MASTER : Fld := ⟨0x50, 5, 1⟩
def PTP_STS_RATE : Fld := ⟨0x50, 6, 1⟩
def PTP_STS_EPDROP : Fld := ⟨0x50, 7, 1⟩
def PTP_STS_SRVREF : Fld := ⟨0x50, 8, 1⟩
def PTP_STS_CFGREF : Fld := ⟨0x50, 9, 1⟩
def PTP_STS_XCHK : Fld := ⟨0x50, 10, 1⟩
def PTP_STS_SEQ : Fld := ⟨0x50, 24, 8⟩
def PTP_STEPAMT_W0 : Nat := 0x54
def PTP_STEPAMT_W1 : Nat := 0x58
def PTP_STEPAMT_W2 : Nat := 0x5c
def PTP_SRVI_LO : Nat := 0x60
def PTP_SRVI_HI : Nat := 0x64
def PTP_SRVI_HI_V : Fld := ⟨0x64, 0, 16⟩
def PTP_RXEVCNT : Nat := 0x68
def PTP_TXEVCNT : Nat := 0x6c
def PTP_RATECNT : Nat := 0x70
def PTP_EPDROP : Nat := 0x74
def PTP_QDROP : Nat := 0x78
def PTP_XOFS : Nat := 0x7c
def PTP_XTOL : Nat := 0x80
def PTP_SNAP_STATE : Nat := 0x90
def PTP_SNAP_OFS_LO : Nat := 0x94
def PTP_SNAP_OFS_HI : Nat := 0x98

def rowsPTP0 : List RegRow := [
  ⟨0x0, 1, 0, .run, 0xfffffff0, 0⟩, ⟨0x4, 1, 0, .cfg, 0xffff00e0, 0x1800⟩, ⟨0x8, 1, 0, .cfg, 0xffffc0c0, 0x908⟩,
  ⟨0xc, 1, 0, .cfg, 0xff807fff, 0x300000⟩, ⟨0x10, 1, 0, .run, 0, 0⟩, ⟨0x14, 1, 0, .run, 0, 0x64⟩,
  ⟨0x18, 1, 0, .run, 0xffff0000, 0x100⟩, ⟨0x1c, 1, 0, .run, 0xfff00000, 0xa⟩, ⟨0x20, 1, 0, .run, 0, 0x3e8⟩,
  ⟨0x24, 1, 0, .run, 0xf000, 0x12c0414⟩, ⟨0x28, 1, 0, .run, 0xffff0000, 0⟩, ⟨0x2c, 1, 0, .run, 0, 0⟩,
  ⟨0x30, 1, 0, .cmd, 0, 0⟩, ⟨0x34, 1, 0, .run, 0, 0⟩, ⟨0x38, 1, 0, .run, 0, 0⟩,
  ⟨0x3c, 1, 0, .run, 0, 0⟩, ⟨0x40, 1, 0, .run, 0, 0⟩, ⟨0x44, 1, 0, .cmd, 0xffffffe0, 0⟩,
  ⟨0x48, 1, 0, .run, 0xffff0000, 0xf8e3⟩, ⟨0x4c, 1, 0, .ro, 0xffe0, 0⟩, ⟨0x50, 1, 0, .sts, 0xfff800, 0⟩,
  ⟨0x54, 1, 0, .ro, 0, 0⟩, ⟨0x58, 1, 0, .ro, 0, 0⟩, ⟨0x5c, 1, 0, .ro, 0, 0⟩]
def rowsPTP1 : List RegRow := [
  ⟨0x60, 1, 0, .ro, 0, 0⟩, ⟨0x64, 1, 0, .ro, 0xffff0000, 0⟩, ⟨0x68, 1, 0, .ro, 0, 0⟩,
  ⟨0x6c, 1, 0, .ro, 0, 0⟩, ⟨0x70, 1, 0, .ro, 0, 0⟩, ⟨0x74, 1, 0, .ro, 0, 0⟩,
  ⟨0x78, 1, 0, .ro, 0, 0⟩, ⟨0x7c, 1, 0, .ro, 0, 0x80000000⟩, ⟨0x80, 1, 0, .run, 0, 0x32⟩,
  ⟨0x90, 1, 0, .snp, 0, 0⟩, ⟨0x94, 1, 0, .snp, 0, 0⟩, ⟨0x98, 1, 0, .snp, 0, 0⟩]
def rowsPTP : List RegRow := rowsPTP0 ++ rowsPTP1

/-! ### SYE: SyncE (spec/10_network_time.md) -/

def SYE_CTL : Nat := 0x0
def SYE_CTL_RXEN0 : Fld := ⟨0x0, 0, 1⟩
def SYE_CTL_RXEN1 : Fld := ⟨0x0, 1, 1⟩
def SYE_CTL_TXEN0 : Fld := ⟨0x0, 2, 1⟩
def SYE_CTL_TXEN1 : Fld := ⟨0x0, 3, 1⟩
def SYE_CFG : Nat := 0x4
def SYE_CFG_NET : Fld := ⟨0x4, 0, 1⟩
def SYE_CFG_ENH : Fld := ⟨0x4, 1, 1⟩
def SYE_CFG_HOQL : Fld := ⟨0x4, 4, 4⟩
def SYE_RXSSM0 : Nat := 0x8
def SYE_RXSSM0_SSM : Fld := ⟨0x8, 0, 4⟩
def SYE_RXSSM0_ESSM : Fld := ⟨0x8, 8, 8⟩
def SYE_RXSSM0_EPRES : Fld := ⟨0x8, 16, 1⟩
def SYE_RXSSM1 : Nat := 0xc
def SYE_RXSSM1_SSM : Fld := ⟨0xc, 0, 4⟩
def SYE_RXSSM1_ESSM : Fld := ⟨0xc, 8, 8⟩
def SYE_RXSSM1_EPRES : Fld := ⟨0xc, 16, 1⟩
def SYE_RXQL : Nat := 0x10
def SYE_RXQL_RANK0 : Fld := ⟨0x10, 0, 4⟩
def SYE_RXQL_RANK1 : Fld := ⟨0x10, 4, 4⟩
def SYE_TXQL : Nat := 0x14
def SYE_TXQL_RANK0 : Fld := ⟨0x14, 0, 4⟩
def SYE_TXQL_SSM0 : Fld := ⟨0x14, 4, 4⟩
def SYE_TXQL_ESSM0 : Fld := ⟨0x14, 8, 8⟩
def SYE_TXQL_RANK1 : Fld := ⟨0x14, 16, 4⟩
def SYE_TXQL_SSM1 : Fld := ⟨0x14, 20, 4⟩
def SYE_TXQL_ESSM1 : Fld := ⟨0x14, 24, 8⟩
def SYE_STS : Nat := 0x18
def SYE_STS_QL0 : Fld := ⟨0x18, 0, 1⟩
def SYE_STS_QL1 : Fld := ⟨0x18, 1, 1⟩
def SYE_STS_LOSS0 : Fld := ⟨0x18, 2, 1⟩
def SYE_STS_LOSS1 : Fld := ⟨0x18, 3, 1⟩
def SYE_STS_TXQL : Fld := ⟨0x18, 4, 1⟩
def SYE_STS_BADPDU : Fld := ⟨0x18, 5, 1⟩
def SYE_STS_SEQ : Fld := ⟨0x18, 24, 8⟩
def SYE_SNAP_RXQL : Nat := 0x20
def SYE_SNAP_TXQL : Nat := 0x24

def rowsSYE : List RegRow := [
  ⟨0x0, 1, 0, .run, 0xfffffff0, 0⟩, ⟨0x4, 1, 0, .cfg, 0xffffff0c, 0xa0⟩, ⟨0x8, 1, 0, .cmd, 0xfffe00f0, 0⟩,
  ⟨0xc, 1, 0, .cmd, 0xfffe00f0, 0⟩, ⟨0x10, 1, 0, .ro, 0xffffff00, 0xee⟩, ⟨0x14, 1, 0, .ro, 0, 0xff00ff⟩,
  ⟨0x18, 1, 0, .sts, 0xffffc0, 0⟩, ⟨0x20, 1, 0, .snp, 0, 0⟩, ⟨0x24, 1, 0, .snp, 0, 0⟩]

/-! ### UART: UART (spec/10_network_time.md) -/

def UART_CTL : Nat := 0x0
def UART_CTL_RXEN : Fld := ⟨0x0, 0, 1⟩
def UART_CTL_TXEN : Fld := ⟨0x0, 1, 1⟩
def UART_CFG : Nat := 0x4
def UART_CFG_BAUD : Fld := ⟨0x4, 0, 3⟩
def UART_CFG_PROTO : Fld := ⟨0x4, 3, 1⟩
def UART_CFG_TODREF : Fld := ⟨0x4, 4, 1⟩
def UART_CFG_PPSSRC : Fld := ⟨0x4, 5, 5⟩
def UART_LEAP : Nat := 0x8
def UART_LEAP_V : Fld := ⟨0x8, 0, 16⟩
def UART_TXDLY : Nat := 0xc
def UART_TXDLY_V : Fld := ⟨0xc, 0, 10⟩
def UART_TXINFO : Nat := 0x10
def UART_TXINFO_UTCOFS : Fld := ⟨0x10, 0, 16⟩
def UART_TXINFO_FLAGS : Fld := ⟨0x10, 16, 4⟩
def UART_TODSEC_LO : Nat := 0x14
def UART_TODSEC_HI : Nat := 0x18
def UART_TODSEC_HI_V : Fld := ⟨0x18, 0, 16⟩
def UART_PPS_W0 : Nat := 0x1c
def UART_PPS_W1 : Nat := 0x20
def UART_PPS_W2 : Nat := 0x24
def UART_SECDIFF : Nat := 0x28
def UART_NSERR : Nat := 0x2c
def UART_STS : Nat := 0x30
def UART_STS_TOD : Fld := ⟨0x30, 0, 1⟩
def UART_STS_ERR : Fld := ⟨0x30, 1, 1⟩
def UART_STS_SECDIFF : Fld := ⟨0x30, 2, 1⟩
def UART_STS_TX : Fld := ⟨0x30, 3, 1⟩
def UART_STS_CAUSE : Fld := ⟨0x30, 8, 4⟩
def UART_STS_SEQ : Fld := ⟨0x30, 24, 8⟩
def UART_ERRCNT : Nat := 0x34

def rowsUART : List RegRow := [
  ⟨0x0, 1, 0, .run, 0xfffffffc, 0⟩, ⟨0x4, 1, 0, .cfg, 0xfffffc00, 0x4⟩, ⟨0x8, 1, 0, .run, 0xffff0000, 0x25⟩,
  ⟨0xc, 1, 0, .run, 0xfffffc00, 0x64⟩, ⟨0x10, 1, 0, .run, 0xfff00000, 0x25⟩, ⟨0x14, 1, 0, .ro, 0, 0⟩,
  ⟨0x18, 1, 0, .ro, 0xffff0000, 0⟩, ⟨0x1c, 1, 0, .ro, 0, 0⟩, ⟨0x20, 1, 0, .ro, 0, 0⟩,
  ⟨0x24, 1, 0, .ro, 0, 0⟩, ⟨0x28, 1, 0, .ro, 0, 0⟩, ⟨0x2c, 1, 0, .ro, 0, 0⟩,
  ⟨0x30, 1, 0, .sts, 0xfff0f0, 0⟩, ⟨0x34, 1, 0, .ro, 0, 0⟩]

/-! ### GL: Guyline (spec/11_guyline.md) -/

def GL_CTL : Nat := 0x0
def GL_CTL_ENABLE : Fld := ⟨0x0, 0, 1⟩
def GL_CTL_LRANGE : Fld := ⟨0x0, 1, 1⟩
def GL_CTL_FWDFLT : Fld := ⟨0x0, 2, 1⟩
def GL_CTL_RFLTIN : Fld := ⟨0x0, 3, 1⟩
def GL_CFG : Nat := 0x4
def GL_CFG_BURST : Fld := ⟨0x4, 0, 5⟩
def GL_CFG_CRED : Fld := ⟨0x4, 8, 4⟩
def GL_CFG_TOKMAX : Fld := ⟨0x4, 16, 8⟩
def GL_CFG_LINKFLT : Fld := ⟨0x4, 24, 8⟩
def GL_SERVO : Nat := 0x8
def GL_SERVO_GLBW : Fld := ⟨0x8, 0, 16⟩
def GL_SERVO_GLSLOPE : Fld := ⟨0x8, 16, 16⟩
def GL_THR : Nat := 0xc
def GL_THR_ALIGNTHR : Fld := ⟨0xc, 0, 8⟩
def GL_THR_GLJUMP : Fld := ⟨0xc, 16, 16⟩
def GL_CMD : Nat := 0x10
def GL_CMD_FORM : Fld := ⟨0x10, 0, 1⟩
def GL_CMD_REJOIN : Fld := ⟨0x10, 1, 1⟩
def GL_STATE : Nat := 0x14
def GL_STATE_ID : Fld := ⟨0x14, 0, 3⟩
def GL_STATE_ANCHOR : Fld := ⟨0x14, 3, 1⟩
def GL_STATE_RSTATE : Fld := ⟨0x14, 4, 3⟩
def GL_STATE_JOINED : Fld := ⟨0x14, 7, 1⟩
def GL_STATE_ALIGNED : Fld := ⟨0x14, 8, 1⟩
def GL_STATE_ALIGNHOLD : Fld := ⟨0x14, 9, 1⟩
def GL_STATE_LINKBADA : Fld := ⟨0x14, 10, 1⟩
def GL_STATE_LINKBADB : Fld := ⟨0x14, 11, 1⟩
def GL_STATE_NMEM : Fld := ⟨0x14, 16, 4⟩
def GL_STATE_HOPS : Fld := ⟨0x14, 20, 3⟩
def GL_MEMBERS : Nat := 0x18
def GL_MEMBERS_PRESENT : Fld := ⟨0x18, 0, 8⟩
def GL_MEMBERS_POS1 : Fld := ⟨0x18, 8, 3⟩
def GL_MEMBERS_POS2 : Fld := ⟨0x18, 11, 3⟩
def GL_MEMBERS_POS3 : Fld := ⟨0x18, 14, 3⟩
def GL_MEMBERS_POS4 : Fld := ⟨0x18, 17, 3⟩
def GL_MEMBERS_POS5 : Fld := ⟨0x18, 20, 3⟩
def GL_MEMBERS_POS6 : Fld := ⟨0x18, 23, 3⟩
def GL_MEMBERS_POS7 : Fld := ⟨0x18, 26, 3⟩
def GL_STS : Nat := 0x1c
def GL_STS_RING : Fld := ⟨0x1c, 0, 1⟩
def GL_STS_PORT : Fld := ⟨0x1c, 1, 1⟩
def GL_STS_ALIGNED : Fld := ⟨0x1c, 2, 1⟩
def GL_STS_AJUMP : Fld := ⟨0x1c, 3, 1⟩
def GL_STS_IDCONF : Fld := ⟨0x1c, 4, 1⟩
def GL_STS_ABSENT : Fld := ⟨0x1c, 5, 1⟩
def GL_STS_RFAULT : Fld := ⟨0x1c, 6, 1⟩
def GL_STS_DROP : Fld := ⟨0x1c, 7, 1⟩
def GL_STS_ABSMEM : Fld := ⟨0x1c, 8, 3⟩
def GL_STS_LINKSEEN : Fld := ⟨0x1c, 11, 1⟩
def GL_STS_SEQ : Fld := ⟨0x1c, 24, 8⟩
def GL_PORTA : Nat := 0x20
def GL_PORTA_LINK : Fld := ⟨0x20, 0, 2⟩
def GL_PORTA_LRSTAT : Fld := ⟨0x20, 2, 3⟩
def GL_PORTA_GAMMA : Fld := ⟨0x20, 8, 8⟩
def GL_PORTB : Nat := 0x24
def GL_PORTB_LINK : Fld := ⟨0x24, 0, 2⟩
def GL_PORTB_LRSTAT : Fld := ⟨0x24, 2, 3⟩
def GL_PORTB_GAMMA : Fld := ⟨0x24, 8, 8⟩
def GL_HOPA : Nat := 0x28
def GL_HOPB : Nat := 0x2c
def GL_LANEA : Nat := 0x30
def GL_LANEB : Nat := 0x34
def GL_OFS_LO : Nat := 0x38
def GL_OFS_HI : Nat := 0x3c
def GL_CLOS : Nat := 0x40
def GL_CRCERR : Nat := 0x44
def GL_CRCERR_A : Fld := ⟨0x44, 0, 16⟩
def GL_CRCERR_B : Fld := ⟨0x44, 16, 16⟩
def GL_TIMEDROP : Nat := 0x48
def GL_TOKREGEN : Nat := 0x4c
def GL_RFLT_W0 : Nat := 0x50
def GL_RFLT_W1 : Nat := 0x54
def GL_RFLT_W2 : Nat := 0x58
def GL_RFLT_W3 : Nat := 0x5c
def GL_RFMEM : Nat := 0x60
def GL_RFMEM_MEMBER : Fld := ⟨0x60, 0, 3⟩
def GL_RFMEM_COUNT : Fld := ⟨0x60, 16, 16⟩
def GL_GANG : Nat := 0x68
def GL_GANG_GANG : Fld := ⟨0x68, 0, 1⟩
def GL_SNAP_STATE : Nat := 0x70
def GL_SNAP_OFS_LO : Nat := 0x74
def GL_SNAP_OFS_HI : Nat := 0x78

def rowsGL0 : List RegRow := [
  ⟨0x0, 1, 0, .run, 0xfffffff0, 0x6⟩, ⟨0x4, 1, 0, .cfg, 0xf0e0, 0xa0a0810⟩, ⟨0x8, 1, 0, .run, 0, 0x3e803e8⟩,
  ⟨0xc, 1, 0, .run, 0xff00, 0x640008⟩, ⟨0x10, 1, 0, .cmd, 0xfffffffc, 0⟩, ⟨0x14, 1, 0, .ro, 0xff80f000, 0x10008⟩,
  ⟨0x18, 1, 0, .ro, 0xe0000000, 0⟩, ⟨0x1c, 1, 0, .sts, 0xfff000, 0⟩, ⟨0x20, 1, 0, .ro, 0xffff00e0, 0⟩,
  ⟨0x24, 1, 0, .ro, 0xffff00e0, 0⟩, ⟨0x28, 1, 0, .ro, 0, 0xffffffff⟩, ⟨0x2c, 1, 0, .ro, 0, 0xffffffff⟩,
  ⟨0x30, 1, 0, .ro, 0, 0xffffffff⟩, ⟨0x34, 1, 0, .ro, 0, 0xffffffff⟩, ⟨0x38, 1, 0, .ro, 0, 0⟩,
  ⟨0x3c, 1, 0, .ro, 0, 0x80000000⟩, ⟨0x40, 1, 0, .ro, 0, 0⟩, ⟨0x44, 1, 0, .ro, 0, 0⟩,
  ⟨0x48, 1, 0, .ro, 0, 0⟩, ⟨0x4c, 1, 0, .ro, 0, 0⟩, ⟨0x50, 1, 0, .ro, 0, 0⟩,
  ⟨0x54, 1, 0, .ro, 0, 0⟩, ⟨0x58, 1, 0, .ro, 0, 0⟩, ⟨0x5c, 1, 0, .ro, 0, 0⟩]
def rowsGL1 : List RegRow := [
  ⟨0x60, 1, 0, .ro, 0xfff8, 0⟩, ⟨0x68, 1, 0, .run, 0xfffffffe, 0⟩, ⟨0x70, 1, 0, .snp, 0, 0⟩,
  ⟨0x74, 1, 0, .snp, 0, 0⟩, ⟨0x78, 1, 0, .snp, 0, 0⟩]
def rowsGL : List RegRow := rowsGL0 ++ rowsGL1

/-! ### ENG: engine (spec/13_engines.md) -/

def ENG_CMD : Nat := 0x0
def ENG_CMD_HALT : Fld := ⟨0x0, 0, 1⟩
def ENG_CMD_RUN : Fld := ⟨0x0, 1, 1⟩
def ENG_CMD_RESTART : Fld := ⟨0x0, 2, 1⟩
def ENG_STATE : Nat := 0x4
def ENG_STATE_EST : Fld := ⟨0x4, 0, 3⟩
def ENG_STATE_WAITIMG : Fld := ⟨0x4, 3, 1⟩
def ENG_STATE_PROFILE : Fld := ⟨0x4, 4, 2⟩
def ENG_STATE_EVT : Fld := ⟨0x4, 8, 6⟩
def ENG_STATE_ATUSED : Fld := ⟨0x4, 16, 4⟩
def ENG_STS : Nat := 0x8
def ENG_STS_LOADED : Fld := ⟨0x8, 0, 1⟩
def ENG_STS_REJECT : Fld := ⟨0x8, 1, 1⟩
def ENG_STS_HALT : Fld := ⟨0x8, 2, 1⟩
def ENG_STS_EXC : Fld := ⟨0x8, 3, 1⟩
def ENG_STS_OVERRUN : Fld := ⟨0x8, 4, 1⟩
def ENG_STS_RAISE : Fld := ⟨0x8, 5, 1⟩
def ENG_STS_EVDISC : Fld := ⟨0x8, 6, 1⟩
def ENG_STS_CAUSE : Fld := ⟨0x8, 8, 8⟩
def ENG_STS_SEQ : Fld := ⟨0x8, 24, 8⟩
def ENG_EXC : Nat := 0xc
def ENG_EXC_INDEX : Fld := ⟨0xc, 0, 16⟩
def ENG_EXC_CAUSE : Fld := ⟨0xc, 16, 3⟩
def ENG_IMGID : Nat := 0x10
def ENG_IMGVER : Nat := 0x14
def ENG_BOUND : Nat := 0x18
def ENG_BOUND_V : Fld := ⟨0x18, 0, 24⟩
def ENG_OVRCNT : Nat := 0x1c
def ENG_MERGECNT : Nat := 0x20
def ENG_EVDISC : Nat := 0x24
def ENG_RAISECODE : Nat := 0x28
def ENG_RAISECODE_V : Fld := ⟨0x28, 0, 16⟩
def ENG_HCOUNT : Nat := 0x2c
def ENG_PEND_LO : Nat := 0x30
def ENG_PEND_HI : Nat := 0x34
def ENG_LDETAIL : Nat := 0x38
def ENG_LDETAIL_DETAIL : Fld := ⟨0x38, 0, 16⟩
def ENG_LDETAIL_REASON : Fld := ⟨0x38, 16, 4⟩
def ENG_SNAP_STATE : Nat := 0x40
def ENG_LDRCMD : Nat := 0x100
def ENG_LDRCMD_LOAD : Fld := ⟨0x100, 0, 1⟩
def ENG_LDRCMD_KEEPDATA : Fld := ⟨0x100, 1, 1⟩
def ENG_LDRCMD_SRC : Fld := ⟨0x100, 2, 2⟩
def ENG_LDRCMD_TARGET : Fld := ⟨0x100, 4, 4⟩
def ENG_LDRADDR : Nat := 0x104
def ENG_LDRSTATE : Nat := 0x108
def ENG_LDRSTATE_LPHASE : Fld := ⟨0x108, 0, 2⟩
def ENG_LDRSTATE_TARGET : Fld := ⟨0x108, 4, 4⟩
def ENG_LDRSTS : Nat := 0x10c
def ENG_LDRSTS_DONE : Fld := ⟨0x10c, 0, 1⟩
def ENG_LDRSTS_REJECT : Fld := ⟨0x10c, 1, 1⟩
def ENG_LDRSTS_REASON : Fld := ⟨0x10c, 4, 4⟩
def ENG_LDRSTS_TARGET : Fld := ⟨0x10c, 8, 4⟩
def ENG_LDRSTS_SEQ : Fld := ⟨0x10c, 24, 8⟩
def ENG_LDRPOLICY : Nat := 0x110
def ENG_LDRPOLICY_HMACREQ : Fld := ⟨0x110, 0, 1⟩
def ENG_LDRPOLICY_ROMOK : Fld := ⟨0x110, 1, 1⟩

def rowsENG : List RegRow := [
  ⟨0x0, 1, 0, .cmd, 0xfffffff8, 0⟩, ⟨0x4, 1, 0, .ro, 0xfff0c0c0, 0⟩, ⟨0x8, 1, 0, .sts, 0xff0080, 0⟩,
  ⟨0xc, 1, 0, .ro, 0xfff80000, 0⟩, ⟨0x10, 1, 0, .ro, 0, 0⟩, ⟨0x14, 1, 0, .ro, 0, 0⟩,
  ⟨0x18, 1, 0, .ro, 0xff000000, 0⟩, ⟨0x1c, 1, 0, .ro, 0, 0⟩, ⟨0x20, 1, 0, .ro, 0, 0⟩,
  ⟨0x24, 1, 0, .ro, 0, 0⟩, ⟨0x28, 1, 0, .ro, 0xffff0000, 0⟩, ⟨0x2c, 1, 0, .ro, 0, 0⟩,
  ⟨0x30, 1, 0, .ro, 0, 0⟩, ⟨0x34, 1, 0, .ro, 0, 0⟩, ⟨0x38, 1, 0, .ro, 0xfff00000, 0⟩,
  ⟨0x40, 1, 0, .snp, 0, 0⟩, ⟨0x100, 1, 0, .cmd, 0xffffff00, 0⟩, ⟨0x104, 1, 0, .run, 0, 0⟩,
  ⟨0x108, 1, 0, .ro, 0xffffff0c, 0⟩, ⟨0x10c, 1, 0, .sts, 0xfff00c, 0⟩, ⟨0x110, 1, 0, .run, 0xfffffffc, 0x2⟩]

/-! ### HIF: host interface (spec/14_host.md) -/

def HIF_CTL : Nat := 0x0
def HIF_CTL_SPIEN : Fld := ⟨0x0, 0, 1⟩
def HIF_CTL_I2CEN : Fld := ⟨0x0, 1, 1⟩
def HIF_STATE : Nat := 0x4
def HIF_STATE_LINKUP : Fld := ⟨0x4, 0, 1⟩
def HIF_STATE_SPEED : Fld := ⟨0x4, 1, 2⟩
def HIF_STATE_WIDTH : Fld := ⟨0x4, 3, 2⟩
def HIF_STATE_BME : Fld := ⟨0x4, 5, 1⟩
def HIF_STATE_D3 : Fld := ⟨0x4, 6, 1⟩
def HIF_STATE_GANGBAR : Fld := ⟨0x4, 7, 1⟩
def HIF_STATE_AERPEND : Fld := ⟨0x4, 8, 1⟩
def HIF_STATE_I2CADDR : Fld := ⟨0x4, 16, 7⟩
def HIF_ACCSTAT : Nat := 0x8
def HIF_ACCSTAT_WIGN : Fld := ⟨0x8, 0, 1⟩
def HIF_ACCSTAT_LOCKED : Fld := ⟨0x8, 1, 1⟩
def HIF_ACCSTAT_WIDTH : Fld := ⟨0x8, 2, 1⟩
def HIF_ACCSTAT_ALIGN : Fld := ⟨0x8, 3, 1⟩
def HIF_ACCSTAT_REACH : Fld := ⟨0x8, 4, 1⟩
def HIF_ACCSTAT_TIMEOUT : Fld := ⟨0x8, 5, 1⟩
def HIF_ACCSTAT_WINDOW : Fld := ⟨0x8, 16, 8⟩
def HIF_ACCSTAT_SEQ : Fld := ⟨0x8, 24, 8⟩
def HIF_ACCADDR : Nat := 0xc
def HIF_ACCADDR_V : Fld := ⟨0xc, 0, 25⟩
def HIF_ACCREQ : Nat := 0x10
def HIF_ACCREQ_REQ : Fld := ⟨0x10, 0, 5⟩
def HIF_ACCREQ_MEMBER : Fld := ⟨0x10, 5, 3⟩
def HIF_ACCREQ_WRITE : Fld := ⟨0x10, 8, 1⟩
def HIF_ACCCNT : Nat := 0x14
def HIF_PCIESTS : Nat := 0x18
def HIF_PCIESTS_LINKCHG : Fld := ⟨0x18, 0, 1⟩
def HIF_PCIESTS_OVF : Fld := ⟨0x18, 1, 1⟩
def HIF_PCIESTS_SEQ : Fld := ⟨0x18, 24, 8⟩
def HIF_SNAP_STATE : Nat := 0x20

def rowsHIF : List RegRow := [
  ⟨0x0, 1, 0, .run, 0xfffffffc, 0x3⟩, ⟨0x4, 1, 0, .ro, 0xff80fe00, 0x580000⟩, ⟨0x8, 1, 0, .sts, 0xffc0, 0⟩,
  ⟨0xc, 1, 0, .ro, 0xfe000000, 0⟩, ⟨0x10, 1, 0, .ro, 0xfffffe00, 0⟩, ⟨0x14, 1, 0, .ro, 0, 0⟩,
  ⟨0x18, 1, 0, .sts, 0xfffffc, 0⟩, ⟨0x20, 1, 0, .snp, 0, 0⟩]

/-! ### DMA: queues and rings (spec/14_host.md) -/

def DMA_CTL : Nat := 0x0
def DMA_CTL_ENABLE : Fld := ⟨0x0, 0, 1⟩
def DMA_STATE : Nat := 0x4
def DMA_STATE_RUNNING : Fld := ⟨0x4, 0, 1⟩
def DMA_STATE_PAUSED : Fld := ⟨0x4, 1, 1⟩
def DMA_STATE_LASTERR : Fld := ⟨0x4, 8, 6⟩
def DMA_ERRADDR_LO : Nat := 0x8
def DMA_ERRADDR_HI : Nat := 0xc
def DMA_ENTCNT : Nat := 0x10
def DMA_QDLCNT : Nat := 0x14
def DMA_SNAP_STATE : Nat := 0x20
def DMA_QDROP : Nat := 0x300
def DMA_QCTL : Nat := 0x400
def DMA_QCTL_ENABLE : Fld := ⟨0x400, 0, 1⟩
def DMA_QCTL_MODE : Fld := ⟨0x400, 1, 2⟩
def DMA_QCTL_QDL : Fld := ⟨0x400, 16, 16⟩
def DMA_QCFG : Nat := 0x404
def DMA_QCFG_DEPTH : Fld := ⟨0x404, 0, 4⟩
def DMA_QCFG_CONS : Fld := ⟨0x404, 4, 2⟩
def DMA_QCFG_CONSID : Fld := ⟨0x404, 8, 8⟩
def DMA_QCFG_BASE : Fld := ⟨0x404, 16, 16⟩
def DMA_QSTATE : Nat := 0x408
def DMA_QSTATE_FILL : Fld := ⟨0x408, 0, 13⟩
def DMA_QSTATE_FULL : Fld := ⟨0x408, 13, 1⟩
def DMA_QSTATE_HELD : Fld := ⟨0x408, 14, 1⟩
def DMA_QSTATE_DLRUN : Fld := ⟨0x408, 15, 1⟩
def DMA_QSTATE_RERR : Fld := ⟨0x408, 16, 1⟩
def DMA_QSTS : Nat := 0x40c
def DMA_QSTS_DATA : Fld := ⟨0x40c, 0, 1⟩
def DMA_QSTS_DROP : Fld := ⟨0x40c, 1, 1⟩
def DMA_QSTS_DEADLINE : Fld := ⟨0x40c, 2, 1⟩
def DMA_QSTS_ERR : Fld := ⟨0x40c, 3, 1⟩
def DMA_QSTS_BADIDX : Fld := ⟨0x40c, 4, 1⟩
def DMA_QSTS_REFUSED : Fld := ⟨0x40c, 5, 1⟩
def DMA_QSTS_SEQ : Fld := ⟨0x40c, 24, 8⟩
def DMA_R_BASE_LO : Nat := 0x800
def DMA_R_BASE_HI : Nat := 0x804
def DMA_R_WB_LO : Nat := 0x808
def DMA_R_WB_HI : Nat := 0x80c
def DMA_R_CTL : Nat := 0x810
def DMA_R_CTL_ENABLE : Fld := ⟨0x810, 0, 1⟩
def DMA_R_CTL_THR : Fld := ⟨0x810, 8, 12⟩
def DMA_R_CTL_TIME : Fld := ⟨0x810, 20, 12⟩
def DMA_R_CFG : Nat := 0x814
def DMA_R_CFG_SIZE : Fld := ⟨0x814, 0, 5⟩
def DMA_R_CFG_DIR : Fld := ⟨0x814, 5, 1⟩
def DMA_R_CFG_WBEN : Fld := ⟨0x814, 6, 1⟩
def DMA_R_HIDX : Nat := 0x818
def DMA_R_HIDX_V : Fld := ⟨0x818, 0, 19⟩
def DMA_R_DIDX : Nat := 0x81c
def DMA_R_DIDX_V : Fld := ⟨0x81c, 0, 19⟩

def rowsDMA : List RegRow := [
  ⟨0x0, 1, 0, .run, 0xfffffffe, 0⟩, ⟨0x4, 1, 0, .ro, 0xffffc0fc, 0⟩, ⟨0x8, 1, 0, .ro, 0, 0⟩,
  ⟨0xc, 1, 0, .ro, 0, 0⟩, ⟨0x10, 1, 0, .ro, 0, 0⟩, ⟨0x14, 1, 0, .ro, 0, 0⟩,
  ⟨0x20, 1, 0, .snp, 0, 0⟩, ⟨0x300, 64, 0x4, .ro, 0, 0⟩, ⟨0x400, 64, 0x10, .run, 0xfff8, 0x3e80002⟩,
  ⟨0x404, 64, 0x10, .cfg, 0xc0, 0⟩, ⟨0x408, 64, 0x10, .ro, 0xfffe0000, 0⟩, ⟨0x40c, 64, 0x10, .sts, 0xffffc0, 0⟩,
  ⟨0x800, 64, 0x20, .cfg, 0, 0⟩, ⟨0x804, 64, 0x20, .cfg, 0, 0⟩, ⟨0x808, 64, 0x20, .cfg, 0, 0⟩,
  ⟨0x80c, 64, 0x20, .cfg, 0, 0⟩, ⟨0x810, 64, 0x20, .run, 0xfe, 0⟩, ⟨0x814, 64, 0x20, .cfg, 0xffffff80, 0x4c⟩,
  ⟨0x818, 64, 0x20, .run, 0xfff80000, 0⟩, ⟨0x81c, 64, 0x20, .ro, 0xfff80000, 0⟩]

/-! ### EVT: events (spec/14_host.md) -/

def EVT_PEND : Nat := 0x0
def EVT_ACK : Nat := 0x40
def EVT_SUM : Nat := 0x80
def EVT_SUM_GPEND : Fld := ⟨0x80, 0, 16⟩
def EVT_SUM_INT : Fld := ⟨0x80, 16, 1⟩
def EVT_VACT_LO : Nat := 0x84
def EVT_VACT_HI : Nat := 0x88
def EVT_SNAP_SUM : Nat := 0x90
def EVT_MAP : Nat := 0x200
def EVT_RT : Nat := 0x400
def EVT_RT_SRC0 : Fld := ⟨0x400, 0, 9⟩
def EVT_RT_EN0 : Fld := ⟨0x400, 15, 1⟩
def EVT_RT_SRC1 : Fld := ⟨0x400, 16, 9⟩
def EVT_RT_EN1 : Fld := ⟨0x400, 31, 1⟩

def rowsEVT : List RegRow := [
  ⟨0x0, 16, 0x4, .ro, 0, 0⟩, ⟨0x40, 16, 0x4, .cmd, 0, 0⟩, ⟨0x80, 1, 0, .ro, 0xfffe0000, 0⟩,
  ⟨0x84, 1, 0, .ro, 0, 0⟩, ⟨0x88, 1, 0, .ro, 0, 0⟩, ⟨0x90, 1, 0, .snp, 0, 0⟩,
  ⟨0x200, 128, 0x4, .run, 0, 0⟩, ⟨0x400, 176, 0x4, .run, 0x7e007e00, 0⟩]

/-! ### FLT: fault collector (spec/16_faults.md) -/

def FLT_CTL : Nat := 0x0
def FLT_CTL_RECQEN : Fld := ⟨0x0, 0, 1⟩
def FLT_CTL_INJEN : Fld := ⟨0x0, 1, 1⟩
def FLT_CTL_RECQ : Fld := ⟨0x0, 8, 6⟩
def FLT_CTL_INJQ : Fld := ⟨0x0, 16, 6⟩
def FLT_PULSE : Nat := 0x4
def FLT_PULSE_V : Fld := ⟨0x4, 0, 14⟩
def FLT_ESC : Nat := 0x8
def FLT_ESC_V : Fld := ⟨0x8, 0, 22⟩
def FLT_ESCCTL : Nat := 0xc
def FLT_ESCCTL_ESCEN : Fld := ⟨0xc, 0, 1⟩
def FLT_ESCCTL_FINEN : Fld := ⟨0xc, 1, 1⟩
def FLT_ESCCTL_RSTENG : Fld := ⟨0xc, 8, 1⟩
def FLT_ESCCTL_RSTGL : Fld := ⟨0xc, 9, 1⟩
def FLT_ESCCTL_RSTAPLLA : Fld := ⟨0xc, 10, 1⟩
def FLT_ESCCTL_RSTAPLLB : Fld := ⟨0xc, 11, 1⟩
def FLT_ESCCTL_FINFILT : Fld := ⟨0xc, 16, 8⟩
def FLT_PIN : Nat := 0x10
def FLT_PIN_PINLVL : Fld := ⟨0x10, 0, 1⟩
def FLT_ACK : Nat := 0x14
def FLT_ACK_SEQ : Fld := ⟨0x14, 0, 8⟩
def FLT_STATUS : Nat := 0x18
def FLT_STATUS_LATCHED : Fld := ⟨0x18, 0, 1⟩
def FLT_STATUS_SEQ : Fld := ⟨0x18, 24, 8⟩
def FLT_STATE : Nat := 0x1c
def FLT_STATE_FSTATE : Fld := ⟨0x1c, 0, 2⟩
def FLT_STATE_CAUSEP : Fld := ⟨0x1c, 2, 1⟩
def FLT_STATE_PULSE : Fld := ⟨0x1c, 3, 1⟩
def FLT_STATE_PINOUT : Fld := ⟨0x1c, 4, 1⟩
def FLT_STATE_FINLVL : Fld := ⟨0x1c, 5, 1⟩
def FLT_STATE_ESCRUN : Fld := ⟨0x1c, 6, 1⟩
def FLT_STATE_ESCLEFT : Fld := ⟨0x1c, 10, 22⟩
def FLT_REC_W0 : Nat := 0x20
def FLT_REC_W1 : Nat := 0x24
def FLT_REC_W2 : Nat := 0x28
def FLT_REC_W3 : Nat := 0x2c
def FLT_DISCCNT : Nat := 0x30
def FLT_LATCHCNT : Nat := 0x34
def FLT_STS : Nat := 0x38
def FLT_STS_LATCH : Fld := ⟨0x38, 0, 1⟩
def FLT_STS_ESC : Fld := ⟨0x38, 1, 1⟩
def FLT_STS_CLEAR : Fld := ⟨0x38, 2, 1⟩
def FLT_STS_CLRREF : Fld := ⟨0x38, 3, 1⟩
def FLT_STS_ACKBAD : Fld := ⟨0x38, 4, 1⟩
def FLT_STS_SEQ : Fld := ⟨0x38, 24, 8⟩
def FLT_SNAP_STATE : Nat := 0x40

def rowsFLT : List RegRow := [
  ⟨0x0, 1, 0, .run, 0xffc0c0fc, 0x30200⟩, ⟨0x4, 1, 0, .run, 0xffffc000, 0x64⟩, ⟨0x8, 1, 0, .run, 0xffc00000, 0xc350⟩,
  ⟨0xc, 1, 0, .run, 0xff00f0fc, 0xa0001⟩, ⟨0x10, 1, 0, .run, 0xfffffffe, 0⟩, ⟨0x14, 1, 0, .cmd, 0xffffff00, 0⟩,
  ⟨0x18, 1, 0, .sts, 0xfffffe, 0⟩, ⟨0x1c, 1, 0, .ro, 0x380, 0⟩, ⟨0x20, 1, 0, .ro, 0, 0⟩,
  ⟨0x24, 1, 0, .ro, 0, 0⟩, ⟨0x28, 1, 0, .ro, 0, 0⟩, ⟨0x2c, 1, 0, .ro, 0, 0⟩,
  ⟨0x30, 1, 0, .ro, 0, 0⟩, ⟨0x34, 1, 0, .ro, 0, 0⟩, ⟨0x38, 1, 0, .sts, 0xffffe0, 0⟩,
  ⟨0x40, 1, 0, .snp, 0, 0⟩]

/-! ### CAL: calibration (spec/17_calibration.md) -/

def CAL_CTL : Nat := 0x0
def CAL_CTL_BGEN : Fld := ⟨0x0, 0, 1⟩
def CAL_CTL_TDCEN : Fld := ⟨0x0, 1, 1⟩
def CAL_CTL_FDRIFTEN : Fld := ⟨0x0, 2, 1⟩
def CAL_CTL_ECHOCHK : Fld := ⟨0x0, 3, 1⟩
def CAL_INT : Nat := 0x4
def CAL_INT_TDCINT : Fld := ⟨0x4, 0, 8⟩
def CAL_INT_FRETINT : Fld := ⟨0x4, 8, 8⟩
def CAL_TPTS0 : Nat := 0x8
def CAL_TPTS1 : Nat := 0xc
def CAL_SEQCMD : Nat := 0x10
def CAL_SEQCMD_START : Fld := ⟨0x10, 0, 1⟩
def CAL_SEQCMD_INSERVICE : Fld := ⟨0x10, 1, 1⟩
def CAL_SEQCMD_CONT : Fld := ⟨0x10, 2, 1⟩
def CAL_SEQCMD_ABORT : Fld := ⟨0x10, 3, 1⟩
def CAL_SEQCMD_ECHOWAIT : Fld := ⟨0x10, 4, 1⟩
def CAL_SEQCMD_NOCOMMIT : Fld := ⟨0x10, 5, 1⟩
def CAL_SEQTDC_LO : Nat := 0x14
def CAL_SEQTDC_HI : Nat := 0x18
def CAL_SEQTDC_HI_V : Fld := ⟨0x18, 0, 6⟩
def CAL_SEQOUT_LO : Nat := 0x1c
def CAL_SEQOUT_HI : Nat := 0x20
def CAL_SEQOUT_HI_V : Fld := ⟨0x20, 0, 8⟩
def CAL_STATE : Nat := 0x24
def CAL_STATE_SEQST : Fld := ⟨0x24, 0, 3⟩
def CAL_STATE_INSERV : Fld := ⟨0x24, 3, 1⟩
def CAL_STATE_SEQLEFT : Fld := ⟨0x24, 16, 16⟩
def CAL_STS : Nat := 0x28
def CAL_STS_REJECT : Fld := ⟨0x28, 0, 1⟩
def CAL_STS_STEP : Fld := ⟨0x28, 1, 1⟩
def CAL_STS_SEQDONE : Fld := ⟨0x28, 2, 1⟩
def CAL_STS_TSET : Fld := ⟨0x28, 3, 1⟩
def CAL_STS_RESULT : Fld := ⟨0x28, 8, 4⟩
def CAL_STS_SEQ : Fld := ⟨0x28, 24, 8⟩
def CAL_LASTREJ : Nat := 0x2c
def CAL_LASTREJ_STEP : Fld := ⟨0x2c, 0, 4⟩
def CAL_LASTREJ_INSTANCE : Fld := ⟨0x2c, 8, 8⟩
def CAL_LASTREJ_CHECK : Fld := ⟨0x2c, 16, 8⟩
def CAL_LASTREJVAL : Nat := 0x30
def CAL_TIDX : Nat := 0x34
def CAL_TIDX_POINT : Fld := ⟨0x34, 0, 4⟩
def CAL_TIDX_KIND : Fld := ⟨0x34, 4, 2⟩
def CAL_TIDX_INSTANCE : Fld := ⟨0x34, 8, 6⟩
def CAL_TIDX_ENTRY : Fld := ⟨0x34, 16, 6⟩
def CAL_TDATA : Nat := 0x38
def CAL_TFILL : Nat := 0x3c
def CAL_TFILL_FILLED : Fld := ⟨0x3c, 0, 8⟩
def CAL_LIMTDC : Nat := 0x40
def CAL_LIMTDC_WMIN : Fld := ⟨0x40, 0, 8⟩
def CAL_LIMTDC_WMAX : Fld := ⟨0x40, 8, 8⟩
def CAL_LIMTDC_SPANTOL : Fld := ⟨0x40, 16, 8⟩
def CAL_LIMFRET : Nat := 0x44
def CAL_LIMFRET_TAPMIN : Fld := ⟨0x44, 0, 8⟩
def CAL_LIMFRET_TAPMAX : Fld := ⟨0x44, 8, 8⟩
def CAL_LIMFRET_DRIFTMAX : Fld := ⟨0x44, 16, 8⟩
def CAL_LIMFRET_SPANMIN : Fld := ⟨0x44, 24, 8⟩
def CAL_LIMECHO : Nat := 0x48
def CAL_LIMECHO_TAUMIN : Fld := ⟨0x48, 0, 8⟩
def CAL_LIMECHO_TAUMAX : Fld := ⟨0x48, 8, 10⟩
def CAL_LIMECHO_LAMMAX : Fld := ⟨0x48, 24, 8⟩
def CAL_LIMAGE : Nat := 0x4c
def CAL_LIMAGE_VSTMAX : Fld := ⟨0x4c, 0, 8⟩
def CAL_LIMAGE_DMAX : Fld := ⟨0x4c, 16, 16⟩
def CAL_LINOK_LO : Nat := 0x50
def CAL_LINOK_HI : Nat := 0x54
def CAL_LINOK_HI_V : Fld := ⟨0x54, 0, 8⟩
def CAL_TDCOK_LO : Nat := 0x58
def CAL_TDCOK_HI : Nat := 0x5c
def CAL_TDCOK_HI_V : Fld := ⟨0x5c, 0, 6⟩
def CAL_SNAP_STATE : Nat := 0x60

def rowsCAL0 : List RegRow := [
  ⟨0x0, 1, 0, .run, 0xfffffff0, 0xe⟩, ⟨0x4, 1, 0, .run, 0xffff0000, 0xa0a⟩, ⟨0x8, 1, 0, .run, 0, 0x230af1d8⟩,
  ⟨0xc, 1, 0, .run, 0, 0x7d69553c⟩, ⟨0x10, 1, 0, .cmd, 0xffffffc0, 0⟩, ⟨0x14, 1, 0, .run, 0, 0⟩,
  ⟨0x18, 1, 0, .run, 0xffffffc0, 0⟩, ⟨0x1c, 1, 0, .run, 0, 0⟩, ⟨0x20, 1, 0, .run, 0xffffff00, 0⟩,
  ⟨0x24, 1, 0, .ro, 0xfff0, 0⟩, ⟨0x28, 1, 0, .sts, 0xfff0f0, 0⟩, ⟨0x2c, 1, 0, .ro, 0xff0000f0, 0⟩,
  ⟨0x30, 1, 0, .ro, 0, 0⟩, ⟨0x34, 1, 0, .run, 0xffc0c0c0, 0⟩, ⟨0x38, 1, 0, .run, 0, 0⟩,
  ⟨0x3c, 1, 0, .run, 0xffffff00, 0⟩, ⟨0x40, 1, 0, .run, 0xff000000, 0x142804⟩, ⟨0x44, 1, 0, .run, 0, 0x8208c832⟩,
  ⟨0x48, 1, 0, .run, 0xfc0000, 0x32038414⟩, ⟨0x4c, 1, 0, .run, 0xff00, 0xbb8000c⟩, ⟨0x50, 1, 0, .ro, 0, 0⟩,
  ⟨0x54, 1, 0, .ro, 0xffffff00, 0⟩, ⟨0x58, 1, 0, .ro, 0, 0⟩, ⟨0x5c, 1, 0, .ro, 0xffffffc0, 0⟩]
def rowsCAL1 : List RegRow := [
  ⟨0x60, 1, 0, .snp, 0, 0⟩]
def rowsCAL : List RegRow := rowsCAL0 ++ rowsCAL1

/-! ### HLTH: health (spec/17_calibration.md) -/

def HLTH_CTL : Nat := 0x0
def HLTH_CTL_AGEEN : Fld := ⟨0x0, 0, 1⟩
def HLTH_CTL_LIFEEN : Fld := ⟨0x0, 1, 1⟩
def HLTH_AGEINT : Nat := 0x4
def HLTH_AGEINT_V : Fld := ⟨0x4, 0, 16⟩
def HLTH_CMD : Nat := 0x8
def HLTH_CMD_AGEACK : Fld := ⟨0x8, 0, 1⟩
def HLTH_CMD_AGENOW : Fld := ⟨0x8, 1, 1⟩
def HLTH_STATE : Nat := 0xc
def HLTH_STATE_AGEFLT : Fld := ⟨0xc, 0, 1⟩
def HLTH_STATE_AGECOND : Fld := ⟨0xc, 1, 3⟩
def HLTH_STATE_AGESHIFT : Fld := ⟨0xc, 4, 2⟩
def HLTH_STATE_VSTOFS : Fld := ⟨0xc, 8, 8⟩
def HLTH_PLAN : Nat := 0x10
def HLTH_PLAN_VST : Fld := ⟨0x10, 0, 8⟩
def HLTH_PLAN_SHIFT : Fld := ⟨0x10, 8, 2⟩
def HLTH_PLAN_BANDAV : Fld := ⟨0x10, 10, 1⟩
def HLTH_PLAN_BANDBV : Fld := ⟨0x10, 11, 1⟩
def HLTH_PLAN_BANDA : Fld := ⟨0x10, 12, 7⟩
def HLTH_PLAN_BANDB : Fld := ⟨0x10, 19, 7⟩
def HLTH_STS : Nat := 0x14
def HLTH_STS_AGE : Fld := ⟨0x14, 0, 1⟩
def HLTH_STS_REPLAN : Fld := ⟨0x14, 1, 1⟩
def HLTH_STS_AGECOND : Fld := ⟨0x14, 2, 1⟩
def HLTH_STS_SEQ : Fld := ⟨0x14, 24, 8⟩
def HLTH_TDIE : Nat := 0x18
def HLTH_TEMP0 : Nat := 0x20
def HLTH_TEMP1 : Nat := 0x24
def HLTH_TEMP2 : Nat := 0x28
def HLTH_TEMP3 : Nat := 0x2c
def HLTH_TEMP4 : Nat := 0x30
def HLTH_TEMP5 : Nat := 0x34
def HLTH_TEMP6 : Nat := 0x38
def HLTH_TEMP7 : Nat := 0x3c
def HLTH_AGE0 : Nat := 0x40
def HLTH_AGE0_LO : Fld := ⟨0x40, 0, 16⟩
def HLTH_AGE0_HI : Fld := ⟨0x40, 16, 16⟩
def HLTH_AGE1 : Nat := 0x44
def HLTH_AGE1_LO : Fld := ⟨0x44, 0, 16⟩
def HLTH_AGE1_HI : Fld := ⟨0x44, 16, 16⟩
def HLTH_AGE2 : Nat := 0x48
def HLTH_AGE2_LO : Fld := ⟨0x48, 0, 16⟩
def HLTH_AGE2_HI : Fld := ⟨0x48, 16, 16⟩
def HLTH_AGE3 : Nat := 0x4c
def HLTH_AGE3_LO : Fld := ⟨0x4c, 0, 16⟩
def HLTH_AGE3_HI : Fld := ⟨0x4c, 16, 16⟩
def HLTH_AGE4 : Nat := 0x50
def HLTH_AGE4_LO : Fld := ⟨0x50, 0, 16⟩
def HLTH_AGE4_HI : Fld := ⟨0x50, 16, 16⟩
def HLTH_AGE5 : Nat := 0x54
def HLTH_AGE5_LO : Fld := ⟨0x54, 0, 16⟩
def HLTH_AGE5_HI : Fld := ⟨0x54, 16, 16⟩
def HLTH_AGE6 : Nat := 0x58
def HLTH_AGE6_LO : Fld := ⟨0x58, 0, 16⟩
def HLTH_AGE6_HI : Fld := ⟨0x58, 16, 16⟩
def HLTH_AGE7 : Nat := 0x5c
def HLTH_AGE7_LO : Fld := ⟨0x5c, 0, 16⟩
def HLTH_AGE7_HI : Fld := ⟨0x5c, 16, 16⟩
def HLTH_AGE8 : Nat := 0x60
def HLTH_AGE8_LO : Fld := ⟨0x60, 0, 16⟩
def HLTH_AGE8_HI : Fld := ⟨0x60, 16, 16⟩
def HLTH_AGE9 : Nat := 0x64
def HLTH_AGE9_LO : Fld := ⟨0x64, 0, 16⟩
def HLTH_AGE9_HI : Fld := ⟨0x64, 16, 16⟩
def HLTH_AGE10 : Nat := 0x68
def HLTH_AGE10_LO : Fld := ⟨0x68, 0, 16⟩
def HLTH_AGE10_HI : Fld := ⟨0x68, 16, 16⟩
def HLTH_AGE11 : Nat := 0x6c
def HLTH_AGE11_LO : Fld := ⟨0x6c, 0, 16⟩
def HLTH_AGE11_HI : Fld := ⟨0x6c, 16, 16⟩
def HLTH_LIFEIDX : Nat := 0x70
def HLTH_LIFEIDX_INDEX : Fld := ⟨0x70, 0, 6⟩
def HLTH_LIFEDATA : Nat := 0x74
def HLTH_SNAP_STATE : Nat := 0x80
def HLTH_SNAP_TDIE : Nat := 0x84

def rowsHLTH0 : List RegRow := [
  ⟨0x0, 1, 0, .run, 0xfffffffc, 0⟩, ⟨0x4, 1, 0, .run, 0xffff0000, 0x3c⟩, ⟨0x8, 1, 0, .cmd, 0xfffffffc, 0⟩,
  ⟨0xc, 1, 0, .ro, 0xffff00c0, 0⟩, ⟨0x10, 1, 0, .run, 0xfc000000, 0⟩, ⟨0x14, 1, 0, .sts, 0xfffff8, 0⟩,
  ⟨0x18, 1, 0, .ro, 0, 0⟩, ⟨0x20, 1, 0, .ro, 0, 0⟩, ⟨0x24, 1, 0, .ro, 0, 0⟩,
  ⟨0x28, 1, 0, .ro, 0, 0⟩, ⟨0x2c, 1, 0, .ro, 0, 0⟩, ⟨0x30, 1, 0, .ro, 0, 0⟩,
  ⟨0x34, 1, 0, .ro, 0, 0⟩, ⟨0x38, 1, 0, .ro, 0, 0⟩, ⟨0x3c, 1, 0, .ro, 0, 0⟩,
  ⟨0x40, 1, 0, .ro, 0, 0⟩, ⟨0x44, 1, 0, .ro, 0, 0⟩, ⟨0x48, 1, 0, .ro, 0, 0⟩,
  ⟨0x4c, 1, 0, .ro, 0, 0⟩, ⟨0x50, 1, 0, .ro, 0, 0⟩, ⟨0x54, 1, 0, .ro, 0, 0⟩,
  ⟨0x58, 1, 0, .ro, 0, 0⟩, ⟨0x5c, 1, 0, .ro, 0, 0⟩, ⟨0x60, 1, 0, .ro, 0, 0⟩]
def rowsHLTH1 : List RegRow := [
  ⟨0x64, 1, 0, .ro, 0, 0⟩, ⟨0x68, 1, 0, .ro, 0, 0⟩, ⟨0x6c, 1, 0, .ro, 0, 0⟩,
  ⟨0x70, 1, 0, .run, 0xffffffc0, 0⟩, ⟨0x74, 1, 0, .run, 0, 0⟩, ⟨0x80, 1, 0, .snp, 0, 0⟩,
  ⟨0x84, 1, 0, .snp, 0, 0⟩]
def rowsHLTH : List RegRow := rowsHLTH0 ++ rowsHLTH1

/-! ### NVS: non-volatile storage (spec/18_nv_storage.md) -/

def NVS_CTL : Nat := 0x0
def NVS_CTL_SCANEN : Fld := ⟨0x0, 0, 1⟩
def NVS_CTL_SCANDAYS : Fld := ⟨0x0, 8, 3⟩
def NVS_ADDR : Nat := 0x4
def NVS_ADDR_V : Fld := ⟨0x4, 0, 18⟩
def NVS_LEN : Nat := 0x8
def NVS_LEN_V : Fld := ⟨0x8, 0, 17⟩
def NVS_SRAM : Nat := 0xc
def NVS_SRAM_V : Fld := ⟨0xc, 0, 23⟩
def NVS_CMD : Nat := 0x10
def NVS_CMD_OP : Fld := ⟨0x10, 0, 4⟩
def NVS_CMD_REGION : Fld := ⟨0x10, 4, 3⟩
def NVS_CMD_KIND : Fld := ⟨0x10, 7, 1⟩
def NVS_PWD_LO : Nat := 0x14
def NVS_PWD_HI : Nat := 0x18
def NVS_PWDNEW_LO : Nat := 0x1c
def NVS_PWDNEW_HI : Nat := 0x20
def NVS_STATE : Nat := 0x24
def NVS_STATE_BUSY : Fld := ⟨0x24, 0, 1⟩
def NVS_STATE_INTERNAL : Fld := ⟨0x24, 1, 1⟩
def NVS_STATE_PWRHOLD : Fld := ⟨0x24, 2, 1⟩
def NVS_STATE_SCANRUN : Fld := ⟨0x24, 3, 1⟩
def NVS_STATE_RUNLK : Fld := ⟨0x24, 4, 5⟩
def NVS_STATE_WUNLK : Fld := ⟨0x24, 9, 5⟩
def NVS_STATE_LOCKOUT : Fld := ⟨0x24, 14, 5⟩
def NVS_STS : Nat := 0x28
def NVS_STS_DONE : Fld := ⟨0x28, 0, 1⟩
def NVS_STS_LOCKOUT : Fld := ⟨0x28, 1, 1⟩
def NVS_STS_REFRESH : Fld := ⟨0x28, 2, 1⟩
def NVS_STS_UNCORR : Fld := ⟨0x28, 3, 1⟩
def NVS_STS_CALNONE : Fld := ⟨0x28, 4, 1⟩
def NVS_STS_RESULT : Fld := ⟨0x28, 8, 4⟩
def NVS_STS_SEQ : Fld := ⟨0x28, 24, 8⟩
def NVS_ATTEMPTS : Nat := 0x2c
def NVS_ATTEMPTS_R0 : Fld := ⟨0x2c, 0, 4⟩
def NVS_ATTEMPTS_R1 : Fld := ⟨0x2c, 4, 4⟩
def NVS_ATTEMPTS_R2 : Fld := ⟨0x2c, 8, 4⟩
def NVS_ATTEMPTS_R3 : Fld := ⟨0x2c, 12, 4⟩
def NVS_ATTEMPTS_R4 : Fld := ⟨0x2c, 16, 4⟩
def NVS_ERRADDR : Nat := 0x30
def NVS_ERRADDR_V : Fld := ⟨0x30, 0, 18⟩
def NVS_REFCNT : Nat := 0x34
def NVS_CORRCNT : Nat := 0x38
def NVS_BANKSTATE : Nat := 0x3c
def NVS_BANKSTATE_V0 : Fld := ⟨0x3c, 0, 1⟩
def NVS_BANKSTATE_V1 : Fld := ⟨0x3c, 1, 1⟩
def NVS_BANKSTATE_CUR : Fld := ⟨0x3c, 2, 1⟩
def NVS_BANKSTATE_FACTORY : Fld := ⟨0x3c, 3, 1⟩
def NVS_BANKSTATE_SEQLO : Fld := ⟨0x3c, 16, 16⟩
def NVS_BUF0 : Nat := 0x40
def NVS_BUF1 : Nat := 0x44
def NVS_BUF2 : Nat := 0x48
def NVS_BUF3 : Nat := 0x4c
def NVS_BUF4 : Nat := 0x50
def NVS_BUF5 : Nat := 0x54
def NVS_BUF6 : Nat := 0x58
def NVS_BUF7 : Nat := 0x5c
def NVS_BUF8 : Nat := 0x60
def NVS_BUF9 : Nat := 0x64
def NVS_BUF10 : Nat := 0x68
def NVS_BUF11 : Nat := 0x6c
def NVS_BUF12 : Nat := 0x70
def NVS_BUF13 : Nat := 0x74
def NVS_BUF14 : Nat := 0x78
def NVS_BUF15 : Nat := 0x7c
def NVS_SLOTCMD : Nat := 0x80
def NVS_SLOTCMD_RING : Fld := ⟨0x80, 0, 6⟩
def NVS_SLOTCMD_FETCH : Fld := ⟨0x80, 8, 1⟩
def NVS_SLOTVAL_LO : Nat := 0x84
def NVS_SLOTVAL_HI : Nat := 0x88
def NVS_SNAP_STATE : Nat := 0x90

def rowsNVS0 : List RegRow := [
  ⟨0x0, 1, 0, .run, 0xfffff8fe, 0x701⟩, ⟨0x4, 1, 0, .run, 0xfffc0000, 0⟩, ⟨0x8, 1, 0, .run, 0xfffe0000, 0⟩,
  ⟨0xc, 1, 0, .run, 0xff800000, 0⟩, ⟨0x10, 1, 0, .cmd, 0xffffff00, 0⟩, ⟨0x14, 1, 0, .cmd, 0, 0⟩,
  ⟨0x18, 1, 0, .cmd, 0, 0⟩, ⟨0x1c, 1, 0, .cmd, 0, 0⟩, ⟨0x20, 1, 0, .cmd, 0, 0⟩,
  ⟨0x24, 1, 0, .ro, 0xfff80000, 0⟩, ⟨0x28, 1, 0, .sts, 0xfff0e0, 0⟩, ⟨0x2c, 1, 0, .ro, 0xfff00000, 0⟩,
  ⟨0x30, 1, 0, .ro, 0xfffc0000, 0⟩, ⟨0x34, 1, 0, .ro, 0, 0⟩, ⟨0x38, 1, 0, .ro, 0, 0⟩,
  ⟨0x3c, 1, 0, .ro, 0xfff0, 0⟩, ⟨0x40, 1, 0, .run, 0, 0⟩, ⟨0x44, 1, 0, .run, 0, 0⟩,
  ⟨0x48, 1, 0, .run, 0, 0⟩, ⟨0x4c, 1, 0, .run, 0, 0⟩, ⟨0x50, 1, 0, .run, 0, 0⟩,
  ⟨0x54, 1, 0, .run, 0, 0⟩, ⟨0x58, 1, 0, .run, 0, 0⟩, ⟨0x5c, 1, 0, .run, 0, 0⟩]
def rowsNVS1 : List RegRow := [
  ⟨0x60, 1, 0, .run, 0, 0⟩, ⟨0x64, 1, 0, .run, 0, 0⟩, ⟨0x68, 1, 0, .run, 0, 0⟩,
  ⟨0x6c, 1, 0, .run, 0, 0⟩, ⟨0x70, 1, 0, .run, 0, 0⟩, ⟨0x74, 1, 0, .run, 0, 0⟩,
  ⟨0x78, 1, 0, .run, 0, 0⟩, ⟨0x7c, 1, 0, .run, 0, 0⟩, ⟨0x80, 1, 0, .cmd, 0xfffffec0, 0⟩,
  ⟨0x84, 1, 0, .run, 0, 0⟩, ⟨0x88, 1, 0, .run, 0, 0⟩, ⟨0x90, 1, 0, .snp, 0, 0⟩]
def rowsNVS : List RegRow := rowsNVS0 ++ rowsNVS1

/-! ### SYS: system (spec/19_power.md) -/

def SYS_ID : Nat := 0x0
def SYS_ID_PART : Fld := ⟨0x0, 0, 16⟩
def SYS_ID_STEP : Fld := ⟨0x0, 16, 4⟩
def SYS_ID_ROMREL : Fld := ⟨0x0, 20, 8⟩
def SYS_SOFTRST : Nat := 0x4
def SYS_SOFTRST_KEY : Fld := ⟨0x4, 0, 16⟩
def SYS_BLKRST : Nat := 0x8
def SYS_BLKRST_WINDOW : Fld := ⟨0x8, 0, 8⟩
def SYS_BLKRST_KEY : Fld := ⟨0x8, 16, 16⟩
def SYS_BOOTSRC : Nat := 0xc
def SYS_BOOTSRC_SRC : Fld := ⟨0xc, 0, 2⟩
def SYS_BOOTSRC_OVR : Fld := ⟨0xc, 2, 1⟩
def SYS_STATE : Nat := 0x10
def SYS_STATE_BOOTST : Fld := ⟨0x10, 0, 1⟩
def SYS_STATE_STRAPS : Fld := ⟨0x10, 1, 2⟩
def SYS_STATE_SRCUSED : Fld := ⟨0x10, 3, 2⟩
def SYS_STATE_ID : Fld := ⟨0x10, 5, 3⟩
def SYS_STATE_LASTRST : Fld := ⟨0x10, 8, 2⟩
def SYS_STATE_EARLY : Fld := ⟨0x10, 10, 1⟩
def SYS_STATE_CFGPARP : Fld := ⟨0x10, 11, 1⟩
def SYS_STS : Nat := 0x14
def SYS_STS_BOOTDONE : Fld := ⟨0x14, 0, 1⟩
def SYS_STS_BOOTFAIL : Fld := ⟨0x14, 1, 1⟩
def SYS_STS_SOFTRST : Fld := ⟨0x14, 2, 1⟩
def SYS_STS_ECCCORR : Fld := ⟨0x14, 3, 1⟩
def SYS_STS_PARSEEN : Fld := ⟨0x14, 4, 1⟩
def SYS_STS_EARLY : Fld := ⟨0x14, 5, 1⟩
def SYS_STS_CAUSE : Fld := ⟨0x14, 8, 8⟩
def SYS_STS_SEQ : Fld := ⟨0x14, 24, 8⟩
def SYS_BOOTINFO : Nat := 0x18
def SYS_BOOTINFO_FROMNV : Fld := ⟨0x18, 0, 11⟩
def SYS_BOOTINFO_FAILSLOT : Fld := ⟨0x18, 16, 4⟩
def SYS_BOOTINFO_SCRIPTIDX : Fld := ⟨0x18, 20, 11⟩
def SYS_PARADDR : Nat := 0x1c
def SYS_PARADDR_V : Fld := ⟨0x1c, 0, 22⟩
def SYS_ECCCNT : Nat := 0x20
def SYS_ECCADDR : Nat := 0x24
def SYS_SNAP_STATE : Nat := 0x30

def rowsSYS : List RegRow := [
  ⟨0x0, 1, 0, .ro, 0xf0000000, 0x1009640⟩, ⟨0x4, 1, 0, .cmd, 0xffff0000, 0⟩, ⟨0x8, 1, 0, .cmd, 0xff00, 0⟩,
  ⟨0xc, 1, 0, .run, 0xfffffff8, 0⟩, ⟨0x10, 1, 0, .ro, 0xfffff000, 0⟩, ⟨0x14, 1, 0, .sts, 0xff00c0, 0⟩,
  ⟨0x18, 1, 0, .ro, 0x8000f800, 0⟩, ⟨0x1c, 1, 0, .ro, 0xffc00000, 0⟩, ⟨0x20, 1, 0, .ro, 0, 0⟩,
  ⟨0x24, 1, 0, .ro, 0, 0⟩, ⟨0x30, 1, 0, .snp, 0, 0⟩]

/-! ### PWR: power (spec/19_power.md) -/

def PWR_STATE : Nat := 0x0
def PWR_STATE_VINOK : Fld := ⟨0x0, 0, 1⟩
def PWR_STATE_VINFAIL : Fld := ⟨0x0, 1, 1⟩
def PWR_STATE_SUPBAD : Fld := ⟨0x0, 2, 1⟩
def PWR_STATE_TEMPBAD : Fld := ⟨0x0, 3, 1⟩
def PWR_STATE_TWARN : Fld := ⟨0x0, 4, 1⟩
def PWR_STATE_VINCOND : Fld := ⟨0x0, 5, 2⟩
def PWR_STATE_VSTOFS : Fld := ⟨0x0, 8, 8⟩
def PWR_STATE_RAILBAD : Fld := ⟨0x0, 16, 5⟩
def PWR_VIN : Nat := 0x4
def PWR_VIN_V : Fld := ⟨0x4, 0, 16⟩
def PWR_RAIL0 : Nat := 0x8
def PWR_RAIL0_V : Fld := ⟨0x8, 0, 16⟩
def PWR_RAIL1 : Nat := 0xc
def PWR_RAIL1_V : Fld := ⟨0xc, 0, 16⟩
def PWR_RAIL2 : Nat := 0x10
def PWR_RAIL2_V : Fld := ⟨0x10, 0, 16⟩
def PWR_RAIL3 : Nat := 0x14
def PWR_RAIL3_V : Fld := ⟨0x14, 0, 16⟩
def PWR_RAIL4 : Nat := 0x18
def PWR_RAIL4_V : Fld := ⟨0x18, 0, 16⟩
def PWR_TRIM : Nat := 0x20
def PWR_TRIM_VCORE : Fld := ⟨0x20, 0, 4⟩
def PWR_TRIM_VANA : Fld := ⟨0x20, 4, 4⟩
def PWR_TRIM_VDRV : Fld := ⟨0x20, 8, 4⟩
def PWR_TRIM_VSER : Fld := ⟨0x20, 12, 4⟩
def PWR_TRIM_VNV : Fld := ⟨0x20, 16, 4⟩
def PWR_TLIM : Nat := 0x28
def PWR_TLIM_TWARN : Fld := ⟨0x28, 0, 8⟩
def PWR_TLIM_TFLT : Fld := ⟨0x28, 8, 8⟩
def PWR_TLIM_TLOW : Fld := ⟨0x28, 16, 8⟩
def PWR_STS : Nat := 0x2c
def PWR_STS_RAIL : Fld := ⟨0x2c, 0, 1⟩
def PWR_STS_VSTSTEP : Fld := ⟨0x2c, 1, 1⟩
def PWR_STS_TWARN : Fld := ⟨0x2c, 2, 1⟩
def PWR_STS_SEQ : Fld := ⟨0x2c, 24, 8⟩
def PWR_SNAP_STATE : Nat := 0x30

def rowsPWR : List RegRow := [
  ⟨0x0, 1, 0, .ro, 0xffe00080, 0⟩, ⟨0x4, 1, 0, .ro, 0xffff0000, 0⟩, ⟨0x8, 1, 0, .ro, 0xffff0000, 0⟩,
  ⟨0xc, 1, 0, .ro, 0xffff0000, 0⟩, ⟨0x10, 1, 0, .ro, 0xffff0000, 0⟩, ⟨0x14, 1, 0, .ro, 0xffff0000, 0⟩,
  ⟨0x18, 1, 0, .ro, 0xffff0000, 0⟩, ⟨0x20, 1, 0, .run, 0xfff00000, 0⟩, ⟨0x28, 1, 0, .run, 0xff000000, 0x13c2b3⟩,
  ⟨0x2c, 1, 0, .sts, 0xfffff8, 0⟩, ⟨0x30, 1, 0, .snp, 0, 0⟩]

/-! ### GUARD: guard locks (spec/15_registers.md) -/

def GUARD_LOCK : Nat := 0x0
def GUARD_LOCK_SAFECFG : Fld := ⟨0x0, 0, 1⟩
def GUARD_LOCK_ESCCFG : Fld := ⟨0x0, 1, 1⟩
def GUARD_LOCK_REGTRIM : Fld := ⟨0x0, 2, 1⟩
def GUARD_LOCK_NVKEY : Fld := ⟨0x0, 3, 1⟩
def GUARD_LOCK_LDRPOL : Fld := ⟨0x0, 4, 1⟩
def GUARD_LOCK_BOOTSRC : Fld := ⟨0x0, 5, 1⟩
def GUARD_LOCK_GANGEN : Fld := ⟨0x0, 6, 1⟩
def GUARD_LOCK_CALLIM : Fld := ⟨0x0, 7, 1⟩

def rowsGUARD : List RegRow := [
  ⟨0x0, 1, 0, .run, 0xffffff00, 0⟩]

/-! ### Windows (R376) -/

/-- The blocks of the address map, with the instance where there are several. -/
inductive Block
  | sys | guard | flt | snap | evt | nvs | cal | hlth | pwr | hif | dma | gl | tb | tev | sync | osc
  | src (n : Nat) | brg | apll (x : Nat) | dpll (n : Nat) | out (n : Nat) | eth (n : Nat) | ptp (n : Nat)
  | sye | uart | eng (k : Nat)
  deriving DecidableEq, Repr

def W_SYS : Nat := 0x0
def W_GUARD : Nat := 0x1
def W_FLT : Nat := 0x2
def W_SNAP : Nat := 0x3
def W_EVT : Nat := 0x4
def W_NVS : Nat := 0x5
def W_CAL : Nat := 0x6
def W_HLTH : Nat := 0x7
def W_PWR : Nat := 0x8
def W_HIF : Nat := 0x9
def W_DMA : Nat := 0xa
def W_GL : Nat := 0xb
def W_TB : Nat := 0xc
def W_TEV : Nat := 0xd
def W_SYNC : Nat := 0xe
def W_OSC : Nat := 0xf
def W_SRC : Nat := 0x10
def W_BRG : Nat := 0x25
def W_APLL : Nat := 0x26
def W_DPLL : Nat := 0x28
def W_OUT : Nat := 0x2c
def W_ETH : Nat := 0x54
def W_PTP : Nat := 0x56
def W_SYE : Nat := 0x58
def W_UART : Nat := 0x59
def W_ENG : Nat := 0x5c

/-- The block of a window number, for the assigned register windows (R376). -/
def winBlock (w : Nat) : Option Block :=
  if w = 0x00 then some .sys else if w = 0x01 then some .guard else if w = 0x02 then some .flt
  else if w = 0x03 then some .snap else if w = 0x04 then some .evt else if w = 0x05 then some .nvs
  else if w = 0x06 then some .cal else if w = 0x07 then some .hlth else if w = 0x08 then some .pwr
  else if w = 0x09 then some .hif else if w = 0x0a then some .dma else if w = 0x0b then some .gl
  else if w = 0x0c then some .tb else if w = 0x0d then some .tev else if w = 0x0e then some .sync
  else if w = 0x0f then some .osc else if w < 0x25 then some (.src (w - 0x10)) else if w = 0x25 then some .brg
  else if w < 0x28 then some (.apll (w - 0x26)) else if w < 0x2c then some (.dpll (w - 0x28))
  else if w < 0x54 then some (.out (w - 0x2c)) else if w < 0x56 then some (.eth (w - 0x54))
  else if w < 0x58 then some (.ptp (w - 0x56)) else if w = 0x58 then some .sye else if w = 0x59 then some .uart
  else if 0x5c ≤ w ∧ w < 0x67 then some (.eng (w - 0x5c)) else none

/-- The register rows of a block. The loader registers exist in ENG0 only (R325), XOFS and XTOL in PTP0 only (R252); SRC18 and
SRC19 have no divider (R32, R55; log entry 82). -/
def blockRows : Block → List RegRow
  | .sys => rowsSYS
  | .guard => rowsGUARD
  | .flt => rowsFLT
  | .snap => rowsSNAP
  | .evt => rowsEVT
  | .nvs => rowsNVS
  | .cal => rowsCAL
  | .hlth => rowsHLTH
  | .pwr => rowsPWR
  | .hif => rowsHIF
  | .dma => rowsDMA
  | .gl => rowsGL
  | .tb => rowsTB
  | .tev => rowsTEV
  | .sync => rowsSYNC
  | .osc => rowsOSC
  | .src n => if n = 18 ∨ n = 19 then rowsSRC.filter (fun r => r.off != SRC_DIV) else rowsSRC
  | .brg => rowsBRG
  | .apll _ => rowsAPLL
  | .dpll _ => rowsDPLL
  | .out _ => rowsOUT
  | .eth _ => rowsETH
  | .sye => rowsSYE
  | .uart => rowsUART
  | .ptp n => if n = 0 then rowsPTP else rowsPTP.filter (fun r => r.off != PTP_XOFS && r.off != PTP_XTOL)
  | .eng k => if k = 0 then rowsENG else rowsENG.filter (fun r => r.off < 0x100)

/-- Whether row `r` covers offset `off`. -/
def RegRow.covers (r : RegRow) (off : Nat) : Bool :=
  r.off ≤ off && (if r.stride = 0 then off = r.off else (off - r.off) % r.stride = 0 && (off - r.off) / r.stride < r.n)

/-- The row of the register at offset `off` (below 0x1000) of window `w`; none for RSV offsets and windows. -/
def regRow (w off : Nat) : Option RegRow :=
  match winBlock w with
  | none => none
  | some b => (blockRows b).find? (fun r => r.covers off)

/-- Reset values that depend on the instance, where they differ from the row's. -/
def instReset (b : Block) (off : Nat) : Option Nat :=
  match b with
  | .src n => if off = SRC_EN ∧ 18 ≤ n then some 0x100 else none
  | .apll x =>
    if x = 1 then
      if off = APLL_NINT then some 8 else if off = APLL_NFRAC_LO then some 0xe978d4fe
      else if off = APLL_NFRAC_HI then some 0x3126 else none
    else none
  | .ptp n =>
    if n = 1 then
      if off = PTP_QCFG then some 0xd0c else if off = PTP_BUFBASE then some (0x62 * 2 ^ 15) else none
    else none
  | _ => none

/-- The BAR0 address of offset `off` of window `w` (R376). -/
def regAddr (w off : Nat) : Nat := w * 0x4000 + off

/-- The reset value of the register at BAR0 address `a`; zero where there is none. -/
def regReset (a : Nat) : BitVec 32 :=
  match winBlock (a / 0x4000) with
  | none => 0
  | some b =>
    match instReset b (a % 0x4000) with
    | some v => BitVec.ofNat 32 v
    | none =>
      match (blockRows b).find? (fun r => r.covers (a % 0x4000)) with
      | some r => BitVec.ofNat 32 r.reset
      | none => 0

end Sys2Proof.Machine
end

