-- ==== Sys2Proof/Machine/State.lean ====
section
/-!
DEFINITION. The state of the device, plain data: the register bank, the memories, what each block holds beside its
registers, and the queue of waiting commands; and the machine right after power-on reset is asserted (R456, step 1).
-/

namespace Sys2Proof.Machine

/-- Why a step stops for good. No command of this model raises one: see notes/assumptions/3.md (safe). -/
inductive Fault
  | unreachable
  deriving DecidableEq, Repr

/-- Why a command has no meaning. `notModelled` is raised by Machine/Dispatch.lean alone, for a command not reached yet
(safe: nothing can be proved of it). -/
inductive Refusal
  | notModelled (mnemonic : String)
  deriving DecidableEq, Repr

/-! ### Timebase, timed events, captures and snapshots (chapter 9) -/

/-- A change granted to the timebase that takes effect at the second or third tick (R195 to R197). -/
inductive TbChange
  | incr (v : Nat)
  | steer (v : Nat)
  | mode (ring : Bool)
  | step (amount : Int)
  | srvw (word : Int) (granted : Nat)
  deriving DecidableEq, Repr

/-- TB (R189 to R199): whether the TB clock runs, the free-running count C in TB units, standalone time in units of
2^-48 ns, the format and steering in force, OFS, RATE and C_R of the ring format, the increment in force, the epoch, the
end of BACKARM on C, whether a clamp acts, DUPBAD, the word at the bridge's TB destination and the servo word in force
(R194), whether SERVO steering still waits for its first update, the changes granted and not yet in effect, and the last 1 ms
tick of C (R301). -/
structure TbSt where
  running : Bool
  c : Nat
  t : Nat
  ring : Bool
  steer : Nat
  ofs : Nat
  rate : Int
  cr : Nat
  incr : Nat
  epoch : Nat
  backarm : Option Nat
  clamp : Bool
  dupbad : Bool
  word : Int
  srvw : Int
  servoWait : Bool
  changes : List TbChange
  tickIdx : Nat
  deriving DecidableEq, Repr

/-- The states of a generator (R215). -/
inductive GenPhase
  | idle | armed | run
  deriving DecidableEq, Repr

/-- A generator as armed (R201 to R203): kind and STAMP as captured, T0 and PER in TB units, the label to fire next, the
last label fired (-1 before the first), the label up to which firings are replays, and the C of its last firing (R202). -/
structure GenSt where
  phase : GenPhase
  periodic : Bool
  stamp : Bool
  t0 : Nat
  per : Nat
  label : Nat
  last : Int
  replayTo : Int
  replayRaised : Bool
  late : Bool
  replay : Bool
  epoch : Nat
  firedAt : Option Nat
  deriving DecidableEq, Repr

/-- A time-stamp record waiting in a CAP FIFO (R206): the edge's time as 96 + 14 fraction bits is kept in the record. -/
structure CapSt where
  fifo : List (BitVec 256)
  lastEdge : Option Nat
  deriving DecidableEq, Repr

/-- TEV: generators, ends of the pin pulses on C (R204), captures; SNAP: triggers not yet distributed, as tick on C and
cause bits (R208), and the ring snapshot instant waited for (R210). -/
structure TevSt where
  gens : List GenSt
  pins : List (Option Nat)
  caps : List CapSt
  lastRecord : Nat
  triggers : List (Nat × Nat)
  ringAt : Option Nat
  deriving DecidableEq, Repr

/-! ### Sources (chapter 2) -/

/-- A bin of phase samples: their sum in TB units and their number. -/
structure Bin where
  sum : Int
  count : Nat
  deriving DecidableEq, Repr

/-- One frequency window of a source (R38): the first bin that its history may use, by the bin's number on C (R35); the
bins that hold samples, by their numbers, newest first; single samples with the count at which they were measured, newest
first. -/
structure WinSt where
  start : Nat
  bins : List (Nat × Bin)
  singles : List (Nat × Int)
  deriving DecidableEq, Repr

/-- MTIE at one τ (R44): the number on C of the bin in which the history began; the bins that hold samples, as number,
minimum and maximum, newest first; the values e formed within the span, by the number of the bin that closed, newest first,
none where no bin held a sample. -/
structure MtieSt where
  start : Option Nat
  bins : List (Nat × Int × Int)
  es : List (Nat × Option Int)
  deriving DecidableEq, Repr

/-- TDEV at one τ (R45): the number on C of the stride in which the history began; the samples per stride of τ/10, by its
number, newest first; the squares of the second differences within the span, by number, newest first, none where a mean is
missing. -/
structure TdevSt where
  start : Option Nat
  strides : List (Nat × Bin)
  d2 : List (Nat × Option Nat)
  deriving DecidableEq, Repr

/-- A verdict of the MON engine: passed, HYSTOK, and the count C at which it was written (R46). -/
structure Verdict where
  pass : Bool
  hyst : Bool
  at_ : Nat
  deriving DecidableEq, Repr

/-- What a source holds beside its registers: the activity bucket and the nominal edges missed since the last edge (R37),
the last edge's time on C and the index of the last sample, none before the first of a history (R36), the PEND timer and
whether it has expired (R47), the last verdict, the count C of the enable (R46), its kind in force (R42), the reference of
the accumulated steering G (R36), windows, the wander phase in TB units / (4096 × 10^9) with the last sample, its count and
the offsets ŷ in force since, each from its count on, newest first (R44), the statistics (R44, R45), the count from which
PDRIFT's history runs (R49), what MON0's consensus judged (R41: bits 0 to 2 a failing window, 3 to 5 one beyond the margin),
the loops whose selector holds a jump pass for it (R71), the number of samples taken, the two newest samples with their
times (R53), the feedback phase of each loop at the newest one (R64), and per loop the samples' errors since the loop
program's last filter step (R83). -/
structure SrcSt where
  bucket : Nat
  missed : Nat
  lastEdge : Option Nat
  index : Option Int
  timer : Option Nat
  expired : Bool
  verdict : Option Verdict
  since : Nat
  kind : Nat
  gRef : Int
  wins : List WinSt
  xw : Int
  lastX : Option Int
  lastXAt : Nat
  ys : List (Nat × Int)
  mtie : List MtieSt
  tdev : List TdevSt
  pdFrom : Nat
  consFail : Nat
  pass : List Bool
  samples : Nat
  newest : List (Nat × Int)
  fbs : List Int
  sums : List Bin
  deriving DecidableEq, Repr

/-- What the sources share: XO lost, the number on C of the 1 ms bin in which a change of basis came due, and the newest
sample of the XO's own TDC, in TB units (R35); and the last bin closed of each window, MTIE bin and TDEV stride, as indexes
on C (R38, R44, R45). -/
structure MonSt where
  xoLost : Bool
  basisDue : Option Nat
  xo : Int
  binIdx : List Nat
  mtieIdx : List Nat
  tdevIdx : List Nat
  deriving DecidableEq, Repr

/-! ### Selectors and loops (chapters 3 and 4) -/

/-- What asked for a selector's evaluation (R62, the causes of R78). -/
inductive SelTrig
  | qstate | rank | config | untie | unfreeze
  deriving DecidableEq, Repr

/-- A selector beside its registers: the last effective error (R65), whether a re-target waits for its first sample and
the source followed until then (31 else; R67), whether the acquisition is a return (R68), what asked for the evaluation, the fraction of the ramp below a TB unit, in
10^-7 (R66), and how many samples the chosen source had delivered when it was chosen. -/
structure SelSt where
  eLast : Int
  retarget : Bool
  follow : Nat
  returning : Bool
  trig : SelTrig
  frac : Nat
  mark : Nat
  deriving DecidableEq, Repr

/-- A loop beside its registers (R79 to R95): whether a commit waits to be transferred and whether one was granted since
the last update, the word transferred last and its value after the slew limit (in 10^-15 of a word unit, as the limit is
no whole number), the run of updates without a commit, STALL, frozen, the feed-forward in force, the move to be added to
Φ at the next instant, the fraction of the step engine below 1 fs in tenths, the feedback phase in 2^-48 TB units with
its count C, t_w, the last update's index, the source and the sample that the last ERR came from, and the lock detector's
window and streaks, and the enables and the ends of a freeze so far (log entry 70). -/
structure DpllSt where
  committed : Bool
  granted : Bool
  target : Int
  prog : Int
  missRun : Nat
  stall : Bool
  frozen : Bool
  ff : Int
  moving : Int
  stepFrac : Nat
  fb : Int
  fbAt : Nat
  tw : Option Nat
  updIdx : Nat
  seenSrc : Nat
  seen : Nat
  flEnd : Nat
  flWord : Int
  flGood : Nat
  plSince : Option Nat
  plBad : Nat
  enables : Nat
  thaws : Nat
  deriving DecidableEq, Repr
/-! ### The oscillator model (chapter 5) -/

/-- A coefficient set (R116), as the shadows hold it. -/
structure OscSet where
  y0 : Int
  age : Int
  k1 : Int
  k2 : Int
  t0 : Int
  tref : Nat
  sigf : Nat
  siga : Nat
  unc : List Nat
  lstate : Nat
  gen : Nat
  deriving DecidableEq, Repr

/-- What the time-error estimate keeps of a loop (R118): whether it has made a TRACK update since its enable, |ERR| at the
last one, the entry into BIVOUAC, FROZEN or STALL as count C and temperature, and the integral of the change of the
temperature terms since, in 2^-88 times ms. -/
structure EstSt where
  tracked : Bool
  x0 : Nat
  entry : Option (Nat × Int)
  integral : Int
  deriving DecidableEq, Repr

/-- ŷ over one window (R117): the open bin, the closed bins, newest first, and the delivered mean. -/
structure YWin where
  acc : Bin
  bins : List Bin
  mean : Option Int
  deriving DecidableEq, Repr

/-- OSC: the set in force and the pending ones with the counts of their grants, newest first (R116), whether θ has a value (R102), the run of valid readings since a bad
one (R103), the learning interval: feedback phase of each learning loop at its start, whether each qualified all along,
its start on C, the sum and number of its θ values (R109), whether the last sample is unread (R110), ŷ per window, the
estimates, and the last evaluation, reading, sample and estimate as indexes on C. -/
structure OscSt where
  inForce : OscSet
  pend : List (Nat × OscSet)
  hasTheta : Bool
  goodRun : Nat
  fbA : Int
  fbB : Int
  okA : Bool
  okB : Bool
  start : Nat
  thSum : Int
  thN : Nat
  unread : Bool
  ywins : List YWin
  est : List EstSt
  evalIdx : Nat
  tempIdx : Nat
  learnIdx : Nat
  estIdx : Nat
  deriving DecidableEq, Repr
/-! ### The bridge and the synthesisers (chapter 6) -/

/-- A bridge destination (R134): Δ in 10^-15 of a word unit, the word last received before the basis correction, the word it
was given, and the ratio M_tx of its transmit PLL in 2^-48, 0 for a destination without one (R133). -/
structure DestSt where
  delta : Int
  last : Int
  full : Int
  ratio : Nat
  deriving DecidableEq, Repr

/-- BRG: the map in force (R135), the destinations in the order of R132, and DSYN's phase accumulator in 2^-64 of a TB-clock
period, whole periods counted, with the count C at which it held that value (R133). -/
structure BrgSt where
  map : Nat
  dests : List DestSt
  acc : Int
  accAt : Nat
  deriving DecidableEq, Repr

/-- An APLL beside its registers: whether it has locked since its enable (R129, R131), whether the message of a loss of lock
in the safe state is still owed (R386), and the phase of its VCO, in units of `clkK`, with the count C at which it had it
(R127). -/
structure ApllSt where
  locked : Bool
  owed : Bool
  vco : Int
  vcoAt : Nat
  deriving DecidableEq, Repr
/-! ### Output channels (chapter 7) -/

/-- A channel beside its registers: the safe action captured at the command and not yet applied, and the one captured for a
channel not enabled then (R155); the end on C of the wait after the last fret move (R149); a driver failure seen while its
detector is masked (R386), and the run of bad and of good edges seen (R159); the tap (R150). Its divider, in phases of the
channel's clock in units of `clkK`: the rising edge from which it counts its periods, and before that edge the one of the wave
that a reset ends (R158); the begin and end of the newest pulse (R145); in SYSREF mode the counted periods begun before an
edge and that edge, and how many counted periods may be admitted after a STOP (R175 to R177). And whether a RESUME waits for
the divider's boundary (R157). -/
structure OutSt where
  safePend : Option Nat
  safeCap : Option Nat
  fretNext : Option Nat
  owed : Bool
  bad : Nat
  good : Nat
  tap : Nat
  start : Option Int
  prev : Option Int
  pulse : Option (Int × Int)
  sr : Option (Nat × Int)
  srLimit : Option Nat
  resume : Bool
  deriving DecidableEq, Repr
/-! ### The sync engine and echo ranging (chapter 8) -/

/-- A SYSREF generator beside its registers (R176): the start source, kind and counts as captured at START, the start instant
in timebase time, once known, and whether the ring hears of it then. -/
structure SrSt where
  start : Nat
  kind : Nat
  on : Nat
  off : Nat
  ts : Option Nat
  rb : Bool
  deriving DecidableEq, Repr

/-- Echo ranging of a channel: the least and greatest τ of the run of results beyond JUMPTHR, their number (R181), whether
ECHO_REFUSED has been raised, and C at the last result (R179). -/
structure EchoSt where
  lo : Nat
  hi : Nat
  run : Nat
  refused : Bool
  at_ : Option Nat
  deriving DecidableEq, Repr

/-- SYNC: the armed instant T in timebase time, once known (R168), the reset's instant on C once placed, and per APLL how far
after it the reset edge lies in 2^-32 ns, where a φ was valid (R170); the last φ measured of each APLL in 2^-32 ns while valid (R165), since when
each APLL's error exceeds 10 ps and whether SYNC_TRIMSAT was raised for it, the last trim interval of each (R167), the
generators and the channels' echo state. -/
structure SyncSt where
  t : Option Nat
  resetAt : Option Nat
  edges : List (Option Int)
  phi : List (Option Int)
  satSince : List (Option Nat)
  satDone : List Bool
  trimIdx : List Nat
  srs : List SrSt
  echo : List EchoSt
  deriving DecidableEq, Repr
/-! ### The Guyline (chapter 11) -/

/-- A tunnelled access (R276): the member, the requester, the gang address, the byte lanes addressed, the value of a write, its tag, and the end on
C of the 200 µs once issued. -/
structure TunAcc where
  member : Nat
  req : Req
  addr : Nat
  be : BitVec 4
  val : Option Word
  tag : Nat
  due : Nat
  deriving DecidableEq, Repr

/-- A BULK cell waiting for the token of its direction (0 downstream, 1 upstream), or a received one waiting to enter its
queue, with the other member (R269, R270). -/
structure BulkCell where
  dir : Nat
  member : Nat
  queue : Nat
  entry : BitVec 256
  deriving DecidableEq, Repr

/-- A port of the ring (0 GLA, 1 GLB): since when it is DOWN while in a formed ring, UP since the ring formed (R274), the
end of MEASURING (R272), the C of the invalid cells of the last 1 ms (R273), and the last alignment estimate through it
(R262). -/
structure GlPort where
  downAt : Option Nat
  everUp : Bool
  measEnd : Option Nat
  bad : List Nat
  est : Option Int
  deriving DecidableEq, Repr

/-- A cell that waits for a slot of port `port` (R257): its header without TOKEN and HCRC, its payload, whether it is
forwarded, and of a TIME cell, whose payload is formed as it leaves, INIT and ECHO (R259). -/
structure GlTx where
  port : Nat
  header : Nat
  payload : List Byte
  fwd : Bool
  time : Option (Bool × Nat)
  deriving DecidableEq, Repr

/-- GL beside its registers: the published rank of SRC20 and the C of the last TIME cell from upstream (R266); the SEQ of
each class sent and the broadcasts acted on, as (member and class, SEQ, C) (R267); the timing queue and the C of the last origination
(R268); the delays of the last exchanges, the departure of the open one and the C of the last initiation (R259); the latest TIME cell from upstream as
ring time, hop delay and arrival (R266); the ports; I of the alignment loop in 2^-64, the last sample's C and the run of
samples beyond GLJUMP (R261, R264); |o| summed over the 100 ms in progress, their number, its index, and since when the
mean has stayed within ALIGNTHR (R263; on an anchor in FORMING, the C of FORM); the tokens held per direction as arrival and cells inserted, the C when each was
last seen (R269), the number of the last cell slot and the cells waiting for a slot (R257); entries waiting to be sent and to be delivered; credits held and credits
owed per member (R270); tunnelled accesses issued and waiting, and the next tag (R276); and what DISC cells have reported
during FORMING, downstream and upstream (R272); and the hops known to be broken, bit h for the hop between positions h
and h + 1 (R273; log entry 61). -/
structure GlSt where
  rank : Nat
  rankAt : Option Nat
  seqs : List Nat
  seen : List (Nat × Nat × Nat)
  tq : List (Nat × List Byte)
  lastTim : Option Nat
  ds : List Int
  t1 : Option Nat
  initAt : Option Nat
  time : Option (Nat × Int × Nat)
  ports : List GlPort
  i : Int
  lastAt : Option Nat
  jumpRun : Nat
  absSum : Nat
  absN : Nat
  absIdx : Nat
  okSince : Option Nat
  tokens : List (Option (Nat × Nat))
  tokSeen : List Nat
  slotAt : Nat
  tx : List GlTx
  ready : List BulkCell
  rx : List BulkCell
  credits : List Nat
  owed : List Nat
  tun : List TunAcc
  tunWait : List TunAcc
  tag : Nat
  discDn : List Nat
  discUp : List Nat
  broken : Nat
  deriving DecidableEq, Repr
/-! ### Network time (chapter 10) -/

/-- A transmit descriptor taken from TXQ (R226): buffer, EVENT, ONESTEP, the launch instant in timebase time with its epoch
where LAUNCH is set, and the C at which it was taken. -/
structure TxDesc where
  buf : Nat
  event : Bool
  oneStep : Bool
  launch : Option Nat
  epoch : Nat
  since : Nat
  deriving DecidableEq, Repr

/-- A message time that a port program keeps (R230): its sequenceId, its time in TB units with the corrections removed or
added, its epoch (none for a time told by another clock), and the C of its stamp. -/
structure PtpStamp where
  seq : Nat
  time : Int
  epoch : Option Nat
  count : Nat
  deriving DecidableEq, Repr

/-- A stock port program (R229 to R236, R241): t2 of the newest Sync whose Follow_Up is awaited; t1 and t2 of the newest Sync
that is complete; t3 of the last Delay_Req or t1 of the last Pdelay_Req sent; t2, t3 and t4 as far as a Pdelay_Resp gave them;
the mean path delay in force with its epoch; the accepted delays, newest last; the delays of the open suspicion; the PATHST
seen last; the offsets of the present 1 s window, its index, and mean and frequency reference at the end of the one before; the
clockClass of the last Announce and the C at which it came; and the next transmit buffer. -/
structure PtProg where
  sync : Option PtpStamp
  t1 : Option PtpStamp
  t2 : Option PtpStamp
  t3 : Option PtpStamp
  turn : Option PtpStamp
  mpd : Option (Int × Nat)
  refs : List Int
  suspect : Nat
  pathSeen : Nat
  win : Bin
  winIdx : Nat
  winLast : Option Int
  freqLast : Option (Bool × Int)
  parent : Option (Nat × Nat)
  txBuf : Nat
  deriving DecidableEq, Repr

/-- PTPn beside its registers: the next receive buffer (R225), event messages received and sent in the window of R228 and
its index, descriptors taken and not yet sent, the C of the last accepted offset, I in 2^-64 and P in 2^-48 (R232), the
last offset before a hold, the C of the last sample and the expected interval (R234), the end of path hold on C and
whether its timeout was raised (R237), the offsets of the current second and the last second's mean (R239), the end
on C of the window in which ETH_FEC has been raised (R247), the last offset committed (R249), the C of the last Sync's stamp
(R36), and the stock program of its engine. -/
structure PtpSt where
  rxIdx : Nat
  rxEv : Nat
  txEv : Nat
  winIdx : Nat
  txs : List TxDesc
  lastAt : Option Nat
  i : Int
  p : Int
  heldOfs : Int
  sampleAt : Nat
  interval : Nat
  pathEnd : Option Nat
  pathTo : Bool
  sum : Int
  count : Nat
  secIdx : Nat
  mean : Option Int
  fecEnd : Option Nat
  ofs : Int
  syncAt : Option Nat
  prog : PtProg
  deriving DecidableEq, Repr

/-- A time message waiting for its edge (R245): TAI seconds and the C of its last stop bit. -/
structure TodMsg where
  secs : Nat
  stop : Nat
  deriving DecidableEq, Repr

/-- SYE and UART: the end on C of each port's 5 s without a PDU (R241), the last ESMC tick (R243), the PPS edges of the last 100 s as
count C and timebase time, newest first (R245), the messages held for their edges, oldest first, the last whole second for which transmission was decided and the
message in progress (R246). -/
structure TodSt where
  esmcEnd : List (Option Nat)
  esmcIdx : Nat
  edges : List (Int × Nat)
  msgs : List TodMsg
  txSec : Option Nat
  txBytes : Option (List Byte)
  deriving DecidableEq, Repr
/-! ### Calibration, health and lifetime records (chapter 17) -/

/-- A result of CALSEQ waiting for its store of step 5 (R405): KIND as CAL_TIDX codes it, instance, knots. -/
structure CalResult where
  kind : Nat
  inst : Nat
  knots : List Nat
  deriving DecidableEq, Repr

/-- CAL beside its registers. `trims`: the knots of points 0–7 and, as point 8, the values in force, that differ from
their defaults (R402, R404, R416). `echo`: the accepted τ and LAMREF of each channel (R404). `rej`: the rejected result
shown at point 9 (R400). `formT`, `formAt`: temperature and C of the last re-forming; `tdcAt`, `fcalAt`: C of each
instance's last linearisation and of each channel's last FCAL evaluation (R399). The rest is CALSEQ (R405 to R408): C at
the start of the step, the options of START, instances still to do, results to store, whether anything was refused, and
the ECHO results that wait for a second that agrees; who wrote START, and whether its WIGN has been recorded (R406). -/
structure CalSt where
  trims : List (Nat × Nat)
  echo : List (Nat × Nat)
  rej : List Nat
  formT : Int
  formAt : Nat
  tdcAt : List (Option Nat)
  fcalAt : List (Option Nat)
  stepAt : Nat
  echoWait : Bool
  noCommit : Bool
  todoT : Nat
  todoO : Nat
  results : List CalResult
  refused : Bool
  first : List (Option Nat)
  starter : Req
  wign : Bool
  deriving DecidableEq, Repr

/-- HLTH beside its registers: the factory ratio and the last ratio of each sensor pair (R409), C at the last ageing
reading and whether AGENOW asks for one, whether the last temperature reading lay beyond a limit (R445), the lifetime
records (R413), per loop the start of its bivouac on C and the bivouac time not yet counted, the last 10 ms reading and
the last hour counted, the bands of the plan that wait for their APLL's disable (R410), and per record the value last
restored from or committed to its slot ring, C at that, and the hour of the last hourly commit (R414). -/
structure HlthSt where
  r0 : List (Option Nat)
  ratio : List (Option Nat)
  ageAt : Option Nat
  ageNow : Bool
  beyond : Bool
  life : List Nat
  biv : List (Option Nat)
  bivAcc : List Nat
  tempIdx : Nat
  hourIdx : Nat
  bands : List Bool
  slots : List Nat
  slotAt : List (Option Nat)
  slotHour : Nat
  deriving DecidableEq, Repr

/-! ### Non-volatile storage (chapter 18) -/

/-- A requester's command as it stands at its grant (R421). -/
structure NvCmd where
  op : Nat
  addr : Nat
  len : Nat
  sram : Nat
  region : Nat
  kind : Nat
  pwd : Nat
  pwdNew : Nat
  buf : List Byte
  deriving DecidableEq, Repr

/-- The users of the cells (R429): a requester's command, a slot update or fetch, a calibration commit, the loader's
reading of a boot slot, a write of the model record. -/
inductive NvUser
  | cmd (c : NvCmd)
  | slotPut (ring val : Nat)
  | slotGet (ring : Nat)
  | commit
  | loader
  | model (bytes : List Byte)
  deriving DecidableEq, Repr

/-- The operation in progress: its user, the rows still to be written with their content, its result. -/
structure NvJob where
  user : NvUser
  rows : List (Nat × List Byte)
  result : Nat
  deriving DecidableEq, Repr

/-- NVS: the cells that differ from zero (R419), rows whose check bits fail (true: double-bit) and rows scheduled for
rewriting (R420), the passwords by 2 × region + kind (R424), the operation in progress and those that wait in grant
order (R429), the row the refresh scan reads next and whether it has rewritten one (R430). -/
structure NvSt where
  cells : List Host.Cell
  bad : List (Nat × Bool)
  sched : List Nat
  pwds : List Nat
  job : Option NvJob
  wait : List NvUser
  scanAt : Option Nat
  rewrote : Bool
  deriving DecidableEq, Repr

/-! ### Power, reset and start-up (chapter 19) -/

/-- Where start-up stands (R456): VIN below VINON, or reset asserted; the rails rising (steps 1 and 2); held at step 3
(RESET_N low); released and waiting for the TB PLL (steps 3 to 5); images loading (steps 6 and 7); done. -/
inductive BootPhase
  | off | rails | held | released | loading | done
  deriving DecidableEq, Repr

/-- SYS and PWR beside their registers: the phase, whether VIN lies above VINON and RESET_N is low, whether a thermal
reset is asserted, the cause of the next release, VINLOW armed and the supply conditions present (R443: 0 VINLOW, 1
VINHIGH, 2 + r rail r, 8 a VINLOW not yet detected), the VCORE offset of the plan, whether the first approach goes on, and
C at the last step (R444); the engines whose boot load is still to come, the boot slot being tried, whether SUP's START has
not ended (R453), and whether a soft reset is being completed. -/
structure SysSt where
  phase : BootPhase
  vinOn : Bool
  rstLow : Bool
  thermal : Bool
  cause : Nat
  armed : Bool
  conds : List Nat
  vstPlan : Nat
  vstFirst : Bool
  vstAt : Option Nat
  toLoad : List Nat
  slot : Option Nat
  supStart : Bool
  soft : Bool
  deriving DecidableEq, Repr

/-! ### The stock programs (R318) -/

/-- The bivouac case of the stock loop program (R104 to R106). -/
inductive BivCase
  | none | full | model | anchor | freerun | xolost
  deriving DecidableEq, Repr

/-- What the stock loop program keeps: whether its record's check word is valid (R318); the integral in 2^-64, the word
last committed in 2^-48; the stage, C at its start and since when the error is under LOCKTHR (R87); C at the last filter
step (R83); the choice it follows; the start it owes at the next filter step: 0 none, 1 an enable, 2 a return (R86, R87);
the enables and the ends of a freeze acted on; the bivouac case and d in 2^-48 (R104); GENIN and the set in
force at its last update (R105, R107); since when PLOCK holds in a FINAL stage, whether HOWORD has been seeded, and the average that
HOWORD shows, in 2^-96 (R92). -/
structure LpSt where
  valid : Bool
  i : Int
  word : Int
  stage : Nat
  stageAt : Nat
  under : Option Nat
  stepAt : Option Nat
  cur : Nat
  owes : Nat
  thaws : Nat
  enables : Nat
  biv : BivCase
  d : Int
  gen : Nat
  set : OscSet
  finalAt : Option Nat
  hoSeeded : Bool
  hoAvg : Int
  deriving DecidableEq, Repr

/-- The parameter block that a stock image has in force, and the GEN last judged (R88, R319). -/
structure StockBlk where
  bytes : List Byte
  judged : Nat
  deriving DecidableEq, Repr

/-- A bin of the model fit (R111): its end in seconds of C, the mean offset in 2^-48 and the mean θ. -/
structure FitBin where
  at_ : Nat
  y : Int
  th : Int
  deriving DecidableEq, Repr

/-- What the stock supervisor program keeps of learning (R111 to R115): whether it was learning at its last handler, the
samples of the bin in progress, how many of them there are, the valid samples of the last 24 h newest first, the valid bins
oldest first, the run of rejected bins, the valid bins since the start or restart and the end of the first of them, whether
a model was restored and its LSTATE, C at the last save, C at a drift of a learning loop's source not yet acted on (R114),
C at the ageing reading last planned for (R410), per port the clockClass and timeout last judged, and the clockClass announced
(R229). -/
structure SupSt where
  on : Bool
  ySum : Int
  thSum : Int
  valid : Nat
  total : Nat
  samples : List FitBin
  bins : List FitBin
  rejected : List FitBin
  count : Nat
  since : Option Nat
  restored : Bool
  saved : Nat
  savedAt : Nat
  drift : Option Nat
  planAt : Option Nat
  ann : List (Option (Nat × Bool))
  annClass : Nat
  deriving DecidableEq, Repr

/-! ### Register accesses (chapter 15) -/

/-- A write that a block may still carry out after its access timed out (R25). -/
structure Abandoned where
  req : Req
  addr : Nat
  val : Word
  deriving DecidableEq, Repr

/-- What the register rules keep beside the registers: latches and staged values per requester (R375, R466),
abandoned writes (R25), and writes of TB-clocked blocks that wait for the TB clock (R19). -/
structure AccSt where
  latches : List (Req × Nat × Word)
  staged : List (Req × Nat × Word)
  abandoned : List Abandoned
  held : List (Req × Nat × Word)
  deriving DecidableEq, Repr

/-! ### Host interface, queues and rings (chapter 14) -/

/-- The SPI transaction in progress, as its address frame gives it (R332). -/
structure SpiTxn where
  rnw : Bool
  sram : Bool
  inc : Bool
  badHigh : Bool
  addr : Nat
  deriving DecidableEq, Repr

/-- A write waiting in the SPI write buffer (R334). -/
structure SpiWrite where
  sram : Bool
  badHigh : Bool
  addr : Nat
  val : Word
  deriving DecidableEq, Repr

/-- HIF: PERST_N asserted, the AER uncorrectable status, MSI-X masks and PBA (R327, R347), the SPI transaction and its
write buffer with the status of the last completed write (R332 to R334). -/
structure HifSt where
  perst : Bool
  aer : Nat
  vecMask : List Bool
  funcMask : Bool
  pba : List Bool
  active : List Bool
  spi : Option SpiTxn
  spiBuf : List SpiWrite
  spiLast : Nat
  deriving DecidableEq, Repr

/-- A producer held at a full STALL queue: engine `eng` with its entry (R296, R297, R338). -/
structure HeldProducer where
  eng : Nat
  entry : BitVec 256
  deriving DecidableEq, Repr

/-- Queue n (R336 to R339), whose entries lie in shared SRAM: the slot of the oldest entry and how many there are, held
producers, the drain timer's expiry on C while it runs, and whether this full episode has raised Q_DEADLINE. -/
structure QueueSt where
  head : Nat
  fill : Nat
  held : List HeldProducer
  drain : Option Nat
  fired : Bool
  deriving DecidableEq, Repr

/-- Ring n (R340 to R345): in ERR, the write-back count, the elements written since the last Q_DATA and the C at which
the oldest of them was written. -/
structure RingSt where
  err : Bool
  wbCount : Nat
  since : Nat
  oldest : Option Nat
  deriving DecidableEq, Repr

/-! ### The fault path (chapter 16) -/

/-- A fault message on its way to the collector (R378); `injected` marks an entry of INJQ (R391). -/
structure FaultMsg where
  src : Nat
  kind : Nat
  addr : Nat
  injected : Bool
  deriving DecidableEq, Repr

/-- The collector's states (R394). -/
inductive FltState
  | idle | latched | acked | safe
  deriving DecidableEq, Repr

/-- FLT: its state, the messages in flight, the escalation timer's and the pulse's end on C while they run, whether the
record was injected, and whether the filtered FAULT_IN_N pin is low (R379 to R391). -/
structure FltSt where
  st : FltState
  msgs : List FaultMsg
  esc : Option Nat
  pulse : Option Nat
  injected : Bool
  finLow : Bool
  deriving DecidableEq, Repr

/-! ### Engines (chapters 12 and 13) -/

/-- FLAGS (R285). -/
structure Flags where
  z : Bool
  n : Bool
  c : Bool
  v : Bool
  sat : Bool
  pf : Bool
  deriving DecidableEq, Repr

/-- A loop in progress (R293): its body from `first` to `last`, runs still to make after this one, and the call depth
at which it was opened. -/
structure LoopFrame where
  first : Nat
  last : Nat
  left : Nat
  depth : Nat
  deriving DecidableEq, Repr

/-- What an at-time entry captured (R299). -/
inductive AtAction
  | pout (window off : Nat) (val : Word)
  | snap
  | raise (target code : Nat)
  deriving DecidableEq, Repr

/-- An armed at-time entry (R299): its base (true: C), its target, whether it was LATE and fires at the next tick. -/
structure AtEntry where
  baseC : Bool
  target : Nat
  late : Bool
  act : AtAction
  deriving DecidableEq, Repr

/-- The engine states of ENGk_STATE (R325). -/
inductive EngSt
  | empty | idle | busy | waitq | held | halted | except
  deriving DecidableEq, Repr

/-- What holds an engine in WAITQ (R296, R297). -/
inductive EngWait
  | none
  | queue (q : Nat)
  | send (member queue : Nat) (entry : BitVec 256)
  deriving DecidableEq, Repr

/-- An entry of an image's queue table (R309). -/
structure QBind where
  queue : Nat
  consume : Bool
  produce : Bool
  event : Nat
  deriving DecidableEq, Repr

/-- One engine: registers w0–w31, flags and special registers (R284, R285), program counter, loop and call stacks,
pending edge events with their arguments (R302), at-time entries (R299), the AT prefix waiting for its instruction, a HALT
that waits for DONE and whether a reset and no command halted it (R317, R324), what the image in force gives it (R309 to R313), and for the run in progress: whether it has overrun, C at its entry
moved on by the time held, and C at the start of a wait (R306). -/
structure Eng where
  w : List Word64
  flags : Flags
  pstat : Nat
  evt : Nat
  evarg : Word64
  epoch : Nat
  pc : Nat
  loops : List LoopFrame
  calls : List Nat
  atPrefix : Option (Bool × Nat)
  st : EngSt
  haltReq : Bool
  byReset : Bool
  wait : EngWait
  pend : List (Nat × Word64)
  lastNormal : Nat
  ats : List AtEntry
  profile : Nat
  waiting : Bool
  hands : List (Nat × Nat)
  hbounds : List (Nat × Nat)
  queues : List QBind
  rom : Option Nat
  overran : Bool
  runAt : Nat
  waitAt : Nat
  deriving DecidableEq, Repr

/-- An image that the loader has accepted and not yet copied (R316). -/
structure Image where
  profile : Nat
  code : List Byte
  data : List Byte
  hands : List (Nat × Nat)
  hbounds : List (Nat × Nat)
  queues : List QBind
  imgId : Nat
  imgVer : Nat
  bound : Nat
  waiting : Bool
  rom : Option Nat
  deriving DecidableEq, Repr

/-- The loader's phases (R316). -/
inductive LdrPhase
  | idle | check | wait | copy
  deriving DecidableEq, Repr

/-- The loader: phase, target, KEEPDATA, the source of the image in check (SRC and address), the accepted image. -/
structure LdrSt where
  phase : LdrPhase
  target : Nat
  keep : Bool
  src : Nat
  addr : Nat
  img : Option Image
  deriving DecidableEq, Repr

/-- What leaves the device: answers to accesses, bus writes, messages, cells, frames and bytes. -/
inductive Output
  | answer (r : Req) (addr : Nat) (o : AccOut) (val : Word)
  | memAnswer (addr : Nat) (bytes : List Byte)
  | hostWrite (addr : Nat) (bytes : List Byte)
  | msix (v : Nat)
  | spi (frame : Word)
  | glCell (port : Nat) (header : Word64) (payload : List Byte)
  | frame (port : Nat) (bytes : List Byte)
  | todByte (bytes : List Byte)
  deriving DecidableEq, Repr

/-! ### The whole state -/

/-- The state of the device. -/
structure State where
  /-- The commands waiting, first in, first out. -/
  pending : List Instr
  /-- Every register that differs from its reset value, by BAR0 address. -/
  regs : List (Nat × Word)
  /-- Shared SRAM at 0x8000_0000 + offset and the engine memories at their BAR0 addresses (R308, R377). -/
  mem : List Host.Cell
  /-- 64-bit words holding an ECC error, true where it is a double-bit error (R23). -/
  ecc : List (Nat × Bool)
  /-- Registers whose parity is bad, by BAR0 address, true once the mismatch has been reported (R368). -/
  par : List (Nat × Bool)
  /-- Register accesses. -/
  acc : AccSt
  /-- Host interface. -/
  hif : HifSt
  /-- Queues Q0–Q63. -/
  queues : List QueueSt
  /-- Rings 0–63. -/
  rings : List RingSt
  /-- The fault collector. -/
  flt : FltSt
  /-- The timebase. -/
  tb : TbSt
  /-- Generators, captures and snapshot triggers. -/
  tev : TevSt
  /-- Sources SRC0–SRC20. -/
  srcs : List SrcSt
  /-- What the sources share. -/
  mon : MonSt
  /-- Selectors 0–3. -/
  sels : List SelSt
  /-- Loops DPLL0–DPLL3. -/
  dplls : List DpllSt
  /-- The oscillator model. -/
  osc : OscSt
  /-- The bridge and DSYN. -/
  brg : BrgSt
  /-- APLLA and APLLB. -/
  aplls : List ApllSt
  /-- Channels OUT0–OUT39. -/
  outs : List OutSt
  /-- The sync engine. -/
  sync : SyncSt
  /-- The Guyline. -/
  gl : GlSt
  /-- PTP0 and PTP1. -/
  ptps : List PtpSt
  /-- SYE and the UART. -/
  tod : TodSt
  /-- Engines ENG0–ENG10. -/
  engs : List Eng
  /-- The loader. -/
  ldr : LdrSt
  /-- Calibration. -/
  cal : CalSt
  /-- Ageing, temperatures and lifetime records. -/
  hlth : HlthSt
  /-- Non-volatile storage. -/
  nv : NvSt
  /-- Power, reset and start-up. -/
  sys : SysSt
  /-- The stock loop programs. -/
  lps : List LpSt
  /-- The parameter blocks in force of the stock images. -/
  blks : List StockBlk
  /-- The stock supervisor program. -/
  sup : SupSt
  /-- What has left the device, oldest first. -/
  out : List Output
  /-- The model's own: advances at every free value taken, so that each is fresh (log entry 1). -/
  freeCtr : Nat
  deriving DecidableEq, Repr

/-- HIF after power-on reset: every MSI-X vector masked, nothing pending (log entry 5). -/
def HifSt.reset : HifSt := ⟨false, 0, List.replicate 64 true, false, List.replicate 64 false, List.replicate 64 false,
  none, [], 0⟩

/-- The profile of engine k (R25, R307): 0 SUP, 1 LP, 2 MON, 3 PT. -/
def profileOf (k : Nat) : Nat := if k = 0 then 0 else if k ≤ 4 then 1 else if k ≤ 8 then 2 else 3

/-- Engine k after power-on reset: EMPTY, registers zero, nothing pending (R284, R324). -/
def Eng.reset (k : Nat) : Eng :=
  { w := List.replicate 32 0, flags := ⟨false, false, false, false, false, false⟩, pstat := 0, evt := 0, evarg := 0,
    epoch := 0, pc := 0, loops := [], calls := [], atPrefix := none, st := .empty, haltReq := false, byReset := false,
    wait := .none, pend := [], lastNormal := 62, ats := [], profile := profileOf k,
    waiting := false, hands := [], hbounds := [], queues := [], rom := none, overran := false, runAt := 0, waitAt := 0 }

/-- TEV, CAP and SNAP after power-on reset: every generator IDLE, nothing captured, no trigger (R213). -/
def TevSt.reset : TevSt :=
  { gens := List.replicate 16 ⟨.idle, false, false, 0, 0, 0, -1, -1, false, false, false, 0, none⟩,
    pins := List.replicate 8 none, caps := List.replicate 8 ⟨[], none⟩, lastRecord := 0, triggers := [], ringAt := none }

/-- A window, an MTIE and a TDEV that hold nothing. -/
def WinSt.empty : WinSt := ⟨0, [], []⟩
def MtieSt.empty : MtieSt := ⟨none, [], []⟩
def TdevSt.empty : TdevSt := ⟨none, [], []⟩

/-- Source n after power-on reset: OFF, nothing measured (R54). -/
def SrcSt.reset (n : Nat) : SrcSt :=
  { bucket := 0, missed := 0, lastEdge := none, index := none, timer := none, expired := false, verdict := none,
    since := 0, kind := if 18 ≤ n then 1 else 0, gRef := 0, wins := List.replicate 3 WinSt.empty, xw := 0, lastX := none,
    lastXAt := 0, ys := [], mtie := List.replicate 5 MtieSt.empty, tdev := List.replicate 5 TdevSt.empty, pdFrom := 0,
    consFail := 0, pass := List.replicate 4 false, samples := 0, newest := [], fbs := List.replicate 4 0,
    sums := List.replicate 4 ⟨0, 0⟩ }

/-- A selector and a loop after reset: nothing chosen, nothing held (R77, R99). -/
def SelSt.reset : SelSt := ⟨0, false, 31, false, .config, 0, 0⟩
def DpllSt.reset : DpllSt :=
  { committed := false, granted := false, target := 0, prog := 0, missRun := 0, stall := false, frozen := false, ff := 0,
    moving := 0, stepFrac := 0, fb := 0, fbAt := 0, tw := none, updIdx := 0, seenSrc := 31, seen := 0, flEnd := 0,
    flWord := 0, flGood := 0, plSince := none, plBad := 0, enables := 0, thaws := 0 }

/-- OSC after reset: every coefficient 0, no set pending, θ without a value, no estimate (R123). -/
def OscSet.reset : OscSet := ⟨0, 0, 0, 0, 0, 0, 0, 0, [0, 0, 0], 0, 0⟩
def OscSt.reset : OscSt :=
  { inForce := OscSet.reset, pend := [], hasTheta := false, goodRun := 0, fbA := 0, fbB := 0, okA := false,
    okB := false, start := 0, thSum := 0, thN := 0, unread := false,
    ywins := List.replicate 3 ⟨⟨0, 0⟩, [], none⟩, est := List.replicate 4 ⟨false, 0, none, 0⟩, evalIdx := 0,
    tempIdx := 0, learnIdx := 0, estIdx := 0 }

/-- SYNC after reset: unarmed, every generator IDLE (R187). -/
def SyncSt.reset : SyncSt :=
  { t := none, resetAt := none, edges := [none, none], phi := [none, none], satSince := [none, none], satDone := [false, false], trimIdx := [0, 0],
    srs := List.replicate 4 ⟨0, 1, 1, 0, none, false⟩,
    echo := List.replicate 40 ⟨0, 0, 0, false, none⟩ }

/-- A Guyline port and GL after reset: disabled, no ring (R282). -/
def GlPort.reset : GlPort := ⟨none, false, none, [], none⟩
def GlSt.reset : GlSt :=
  { rank := 14, rankAt := none, seqs := List.replicate 16 0, seen := [], tq := [], lastTim := none,
    ds := [], t1 := none, initAt := none, time := none, ports := [GlPort.reset, GlPort.reset], i := 0, lastAt := none, jumpRun := 0,
    absSum := 0, absN := 0, absIdx := 0, okSince := none, tokens := [none, none], tokSeen := [0, 0], slotAt := 0,
    tx := [], ready := [], rx := [], credits := List.replicate 8 0, owed := List.replicate 8 0, tun := [], tunWait := [], tag := 0,
    discDn := [], discUp := [], broken := 0 }

/-- A PTP engine, and SYE with the UART, after reset (R250). -/
def PtProg.fresh : PtProg :=
  { sync := none, t1 := none, t2 := none, t3 := none, turn := none, mpd := none, refs := [], suspect := 0, pathSeen := 0,
    win := ⟨0, 0⟩, winIdx := 0, winLast := none, freqLast := none, parent := none, txBuf := 0 }
def PtpSt.reset : PtpSt :=
  { rxIdx := 0, rxEv := 0, txEv := 0, winIdx := 0, txs := [], lastAt := none, i := 0, p := 0, heldOfs := 0,
    sampleAt := 0, interval := 0, pathEnd := none, pathTo := false, sum := 0, count := 0, secIdx := 0, mean := none,
    fecEnd := none, ofs := 0, syncAt := none, prog := PtProg.fresh }
def TodSt.reset : TodSt := ⟨[none, none], 0, [], [], none, none⟩

/-- BRG after reset: its reset map with no blend (R139). -/
def BrgSt.reset : BrgSt := ⟨0x3ab4, List.replicate 7 ⟨0, 0, 0, 0⟩, 0, 0⟩

/-- An APLL that is off (R139), and a channel in HIZ (R163). -/
def ApllSt.reset : ApllSt := ⟨false, false, 0, 0⟩
def OutSt.reset : OutSt := ⟨none, none, none, false, 0, 0, 0, none, none, none, none, none, false⟩


/-- CAL after reset: every trim at its default, CALSEQ idle (R416). -/
def CalSt.reset : CalSt :=
  { trims := [], echo := List.replicate 40 (2 ^ 32 - 1, 0), rej := [], formT := 0, formAt := 0,
    tdcAt := List.replicate 38 none, fcalAt := List.replicate 40 none, stepAt := 0, echoWait := false, noCommit := false,
    todoT := 0, todoO := 0, results := [], refused := false, first := List.replicate 40 none,
    starter := .pcie, wign := false }

/-- HLTH after power-on reset: no reading, every lifetime record 0 (R413, R416). -/
def HlthSt.reset : HlthSt :=
  { r0 := List.replicate 24 none, ratio := List.replicate 24 none, ageAt := none, ageNow := false,
    beyond := false, life := List.replicate 64 0, biv := List.replicate 4 none, bivAcc := List.replicate 4 0,
    tempIdx := 0, hourIdx := 0, bands := [false, false], slots := List.replicate 64 0,
    slotAt := List.replicate 64 none, slotHour := 0 }

/-- NVS as the device is first powered: cells and passwords zero, every kind open (log entry 53). -/
def NvSt.reset : NvSt :=
  { cells := [], bad := [], sched := [], pwds := List.replicate 10 0, job := none, wait := [], scanAt := none,
    rewrote := false }

/-- SYS and PWR in power-on reset, VIN below VINON (R456). -/
def SysSt.reset : SysSt :=
  { phase := .off, vinOn := false, rstLow := false, thermal := false, cause := 0, armed := false, conds := [],
    vstPlan := 0, vstFirst := true, vstAt := none, toLoad := [], slot := none, supStart := false, soft := false }

/-- The stock loop and supervisor programs before a load (R318). -/
def LpSt.reset : LpSt :=
  { valid := false, i := 0, word := 0, stage := 0, stageAt := 0, under := none, stepAt := none, cur := 31, owes := 0,
    thaws := 0, enables := 0, biv := .none, d := 0, gen := 0, set := OscSet.reset, finalAt := none, hoSeeded := false,
    hoAvg := 0 }
def SupSt.reset : SupSt :=
  { on := false, ySum := 0, thSum := 0, valid := 0, total := 0, samples := [], bins := [], rejected := [], count := 0,
    since := none, restored := false, saved := 0, savedAt := 0, drift := none, planAt := none,
    ann := [none, none], annClass := 248 }
/-- The device in power-on reset, before VIN rises: every register at its reset value, engines EMPTY, the TB clock not
running (R456, step 1; log entries 2 to 5). -/
def State.reset : State :=
  { pending := [],
    regs := [],
    mem := [],
    ecc := [],
    par := [],
    acc := ⟨[], [], [], []⟩,
    hif := HifSt.reset,
    queues := List.replicate 64 ⟨0, 0, [], none, false⟩,
    rings := List.replicate 64 ⟨false, 0, 0, none⟩,
    flt := ⟨.idle, [], none, none, false, false⟩,
    tb := ⟨false, 0, 0, false, 0, 0, 0, 0, 2 ^ 48, 0, none, false, false, 0, 0, false, [], 0⟩,
    tev := TevSt.reset,
    srcs := List.ofFn (fun n : Fin 21 => SrcSt.reset n.val),
    mon := ⟨false, none, 0, [0, 0, 0], [0, 0, 0, 0, 0], [0, 0, 0, 0, 0]⟩,
    sels := List.replicate 4 SelSt.reset,
    dplls := List.replicate 4 DpllSt.reset,
    osc := OscSt.reset,
    brg := BrgSt.reset,
    aplls := [ApllSt.reset, ApllSt.reset],
    outs := List.replicate 40 OutSt.reset,
    sync := SyncSt.reset,
    gl := GlSt.reset,
    ptps := [PtpSt.reset, PtpSt.reset],
    tod := TodSt.reset,
    engs := List.ofFn (fun k : Fin 11 => Eng.reset k.val),
    ldr := ⟨.idle, 0, false, 0, 0, none⟩,
    cal := CalSt.reset,
    hlth := HlthSt.reset,
    nv := NvSt.reset,
    sys := SysSt.reset,
    lps := List.replicate 4 LpSt.reset,
    blks := List.replicate 11 ⟨[], 0⟩,
    sup := SupSt.reset,
    out := [],
    freeCtr := 0 }

end Sys2Proof.Machine
end

