-- ==== Sys2Proof/Machine/Ops.lean ====
section
/-!
DEFINITION. The named operations the blocks share: registers and fields, status bits with their SEQ (R360), events (R346
to R348), fault messages (R378), memory words with their check bits (R23), and free values.
-/

namespace Sys2Proof.Machine

/-! ### Registers -/

/-- The register at offset `off` of window `w`. -/
def State.rd (s : State) (w off : Nat) : Word := sparseGet regReset s.regs (regAddr w off)

/-- The same, as a number. -/
def State.rn (s : State) (w off : Nat) : Nat := (s.rd w off).toNat

/-- `s` with the register bank replaced. -/
def State.setRegs (s : State) (l : List (Nat × Word)) : State := { s with regs := l }

/-- `s` with the list of bad parities replaced. -/
def State.setPar (s : State) (l : List (Nat × Bool)) : State := { s with par := l }

/-- `s` with the register at offset `off` of window `w` holding the low 32 bits of `v`; its parity is computed anew, whoever
writes (R368). -/
def State.wr (s : State) (w off v : Nat) : State :=
  (s.setRegs (sparsePut regReset s.regs (regAddr w off) (BitVec.ofNat 32 v))).setPar
    (s.par.filter (fun e => e.1 != regAddr w off))

/-- Field `f` of window `w`. -/
def State.get (s : State) (w : Nat) (f : Fld) : Nat := bitsOf (s.rn w f.off) f.lsb f.width

/-- A one-bit field as a Boolean. -/
def State.flag (s : State) (w : Nat) (f : Fld) : Bool := s.get w f != 0

/-- Field `f` of window `w` set to the low bits of `v`. -/
def State.put (s : State) (w : Nat) (f : Fld) (v : Nat) : State :=
  s.wr w f.off (putBits (s.rn w f.off) f.lsb f.width v)

/-- The register as a signed 32-bit number. -/
def State.ri (s : State) (w off : Nat) : Int := toSigned 32 (s.rn w off)

/-- A LO/HI pair as one number of 64 bits. -/
def State.pair (s : State) (w off : Nat) : Nat := s.rn w off + s.rn w (off + 4) * 2 ^ 32

/-- A LO/HI pair set to the low 64 bits of `v`. -/
def State.putPair (s : State) (w off v : Nat) : State :=
  (s.wr w off (v % 2 ^ 32)).wr w (off + 4) (v / 2 ^ 32 % 2 ^ 32)

/-- Three words W0–W2 as one number of 96 bits. -/
def State.triple (s : State) (w off : Nat) : Nat :=
  s.rn w off + s.rn w (off + 4) * 2 ^ 32 + s.rn w (off + 8) * 2 ^ 64

/-- Three words W0–W2 set to the low 96 bits of `v`. -/
def State.putTriple (s : State) (w off v : Nat) : State :=
  ((s.wr w off (v % 2 ^ 32)).wr w (off + 4) (v / 2 ^ 32 % 2 ^ 32)).wr w (off + 8) (v / 2 ^ 64 % 2 ^ 32)

/-- A counter register advanced by `n`, wrapping at 2^32. -/
def State.count (s : State) (w off n : Nat) : State := s.wr w off ((s.rn w off + n) % 2 ^ 32)

/-- R360: an event that sets bits `m` of an STS register also advances its SEQ by one. -/
def State.sts (s : State) (w off m : Nat) : State :=
  let v := s.rn w off
  s.wr w off (putBits (v ||| m) 24 8 (v / 2 ^ 24 + 1))

/-- A field of an STS register beside the sticky bits (a cause, a channel) set with an event. -/
def State.stsField (s : State) (w : Nat) (f : Fld) (m v : Nat) : State := (s.sts w f.off m).put w f v

/-! ### Small updates -/

def State.setMem (s : State) (l : List Host.Cell) : State := { s with mem := l }
def State.setEcc (s : State) (l : List (Nat × Bool)) : State := { s with ecc := l }
def State.setAcc (s : State) (x : AccSt) : State := { s with acc := x }
def State.setHif (s : State) (x : HifSt) : State := { s with hif := x }
def State.setFlt (s : State) (x : FltSt) : State := { s with flt := x }
def State.setTb (s : State) (x : TbSt) : State := { s with tb := x }
def State.setTev (s : State) (x : TevSt) : State := { s with tev := x }
def State.setLdr (s : State) (x : LdrSt) : State := { s with ldr := x }
def State.setPending (s : State) (l : List Instr) : State := { s with pending := l }
def State.modQueue (s : State) (n : Nat) (f : QueueSt → QueueSt) : State := { s with queues := lmod s.queues n f }
def State.modRing (s : State) (n : Nat) (f : RingSt → RingSt) : State := { s with rings := lmod s.rings n f }
def State.modEng (s : State) (k : Nat) (f : Eng → Eng) : State := { s with engs := lmod s.engs k f }

def State.modSrc (s : State) (n : Nat) (f : SrcSt → SrcSt) : State := { s with srcs := lmod s.srcs n f }
def State.setMon (s : State) (x : MonSt) : State := { s with mon := x }

def State.modSel (s : State) (n : Nat) (f : SelSt → SelSt) : State := { s with sels := lmod s.sels n f }
def State.modDpll (s : State) (n : Nat) (f : DpllSt → DpllSt) : State := { s with dplls := lmod s.dplls n f }

def State.setOsc (s : State) (x : OscSt) : State := { s with osc := x }
def State.setBrg (s : State) (x : BrgSt) : State := { s with brg := x }
def State.modApll (s : State) (n : Nat) (f : ApllSt → ApllSt) : State := { s with aplls := lmod s.aplls n f }

def State.modOut (s : State) (n : Nat) (f : OutSt → OutSt) : State := { s with outs := lmod s.outs n f }
def State.setGl (s : State) (x : GlSt) : State := { s with gl := x }

def State.setSync (s : State) (x : SyncSt) : State := { s with sync := x }
def State.modPtp (s : State) (n : Nat) (f : PtpSt → PtpSt) : State := { s with ptps := lmod s.ptps n f }
def State.setTod (s : State) (x : TodSt) : State := { s with tod := x }

def State.setCal (s : State) (x : CalSt) : State := { s with cal := x }
def State.setHlth (s : State) (x : HlthSt) : State := { s with hlth := x }
def State.setNv (s : State) (x : NvSt) : State := { s with nv := x }
def State.setSys (s : State) (x : SysSt) : State := { s with sys := x }
def State.setSup (s : State) (x : SupSt) : State := { s with sup := x }
def State.modLp (s : State) (n : Nat) (f : LpSt → LpSt) : State := { s with lps := lmod s.lps n f }
def State.modBlk (s : State) (k : Nat) (f : StockBlk → StockBlk) : State := { s with blks := lmod s.blks k f }
/-- The parameter block in force of engine `k`'s stock image. -/
def State.blk (s : State) (k : Nat) : StockBlk := lget ⟨[], 0⟩ s.blks k
/-- The stock program of loop `n`. -/
def State.lp (s : State) (n : Nat) : LpSt := lget LpSt.reset s.lps n

/-- PTP engine `n` beside its registers. -/
def State.ptp (s : State) (n : Nat) : PtpSt := lget PtpSt.reset s.ptps n
/-- Channel `n` beside its registers. -/
def State.chan (s : State) (n : Nat) : OutSt := lget OutSt.reset s.outs n
/-- Selector `n`, loop `n`. -/
def State.sel (s : State) (n : Nat) : SelSt := lget SelSt.reset s.sels n
def State.dpll (s : State) (n : Nat) : DpllSt := lget DpllSt.reset s.dplls n
/-- Source `n`. -/
def State.src (s : State) (n : Nat) : SrcSt := lget (SrcSt.reset n) s.srcs n
/-- Engine `k`. -/
def State.eng (s : State) (k : Nat) : Eng := lget (Eng.reset k) s.engs k
/-- Queue `n`. -/
def State.queue (s : State) (n : Nat) : QueueSt := lget ⟨0, 0, [], none, false⟩ s.queues n
/-- Ring `n`. -/
def State.ring (s : State) (n : Nat) : RingSt := lget ⟨false, 0, 0, none⟩ s.rings n

/-- Something leaves the device. -/
def State.emit (s : State) (o : Output) : State := { s with out := s.out ++ [o] }

/-- A free value and the state that has taken it (log entry 1). -/
def State.takeFree (s : State) : Nat × State := (Config.freeNat s.freeCtr, { s with freeCtr := s.freeCtr + 1 })

/-- A quotient whose rounding the spec does not state: the floor or the next integer (log entry 6). -/
def quotFree (num den : Int) : Int := num / den + (if num % den ≠ 0 ∧ Config.roundUp num den then 1 else 0)

/-- A quotient rounded to the nearest integer; which way a tie goes is not stated (log entry 6). -/
def roundFree (num den : Int) : Int :=
  let q := num / den
  let r := num % den
  if 2 * r < den then q else if den < 2 * r then q + 1 else q + (if Config.roundUp num den then 1 else 0)

/-- A signed result as 32 register bits; what a register shows for a result outside its range is not stated
(log entry 6). -/
def fit32 (i : Int) : Nat :=
  if -(2 : Int) ^ 31 < i ∧ i < 2 ^ 31 then ofSigned 32 i else Config.freeNat i.natAbs % 2 ^ 32

/-- The integer square root of an exact quotient, rounded as the spec leaves open (log entry 6). -/
def sqrtFree (num den : Nat) : Nat :=
  let r := Nat.sqrt (num / den)
  if r * r * den = num then r else r + (if Config.roundUp num den then 1 else 0)

/-! ### Events -/

/-- The number of the event at bit `b` of group `g` (R346). -/
def evNo (g b : Nat) : Nat := 32 * g + b

/-- R302, R26: event `e` with its argument becomes pending at engine `k`, or merges with the pending one. -/
def State.engPend (s : State) (k e : Nat) (arg : Word64) : State :=
  if (s.eng k).pend.any (fun p => p.1 == e) then s.count (W_ENG + k) ENG_MERGECNT 1
  else s.modEng k (fun x => { x with pend := x.pend ++ [(e, arg)] })

/-- The byte of EVT_MAPj for source `n`: VEC, MSIEN, INTEN (R347). -/
def State.evMap (s : State) (n : Nat) : Nat := bitsOf (s.rn W_EVT (EVT_MAP + 4 * (n / 4))) (8 * (n % 4)) 8

/-- Whether source `n` is pending (R346). -/
def State.evPending (s : State) (n : Nat) : Bool := bitOf (s.rn W_EVT (EVT_PEND + 4 * (n / 32))) (n % 32)

/-- Whether MSI-X messages leave at all: the link is up, bus mastering on, not in D3hot (R329, R330). -/
def State.msixOut (s : State) : Bool :=
  s.flag W_HIF HIF_STATE_LINKUP && s.flag W_HIF HIF_STATE_BME && !s.flag W_HIF HIF_STATE_D3

/-- R347: vector `v`'s message: its PBA bit while the vector or the function is masked, else sent. -/
def State.msixSend (s : State) (v : Nat) : State :=
  if s.hif.funcMask || lget true s.hif.vecMask v then s.setHif { s.hif with pba := lput false s.hif.pba v true }
  else if s.msixOut then s.emit (.msix v) else s

/-- Whether vector `v` has a pending source mapped to it with MSIEN = 1 (R347). -/
def State.vecActive (s : State) (v : Nat) : Bool :=
  (List.range 512).any (fun n => s.evPending n && bitOf (s.evMap n) 6 && s.evMap n % 64 == v)

/-- R347 after pending bits or maps have changed: a vector that became active sends, one that stopped being active
while masked loses its PBA bit; `resend` sends again for every vector that stays active (an EVT_ACK write). -/
def State.msixRefresh (s : State) (resend : Bool) : State :=
  (List.range 64).foldl (fun (t : State) v =>
    let was := lget false t.hif.active v
    let now := t.vecActive v
    let t1 := t.setHif { t.hif with active := lput false t.hif.active v now }
    if now && (resend || !was) then t1.msixSend v
    else if was && !now && (t.hif.funcMask || lget true t.hif.vecMask v) then
      t1.setHif { t1.hif with pba := lput false t1.hif.pba v false }
    else t1) s

/-- The routed inputs that source `n` feeds: engine and input (R348). -/
def State.routesOf (s : State) (n : Nat) : List (Nat × Nat) :=
  s.regs.flatMap (fun e =>
    let base := regAddr W_EVT EVT_RT
    if base ≤ e.1 ∧ e.1 < base + 0x2c0 then
      let k := (e.1 - base) / 0x40
      let p := (e.1 - base) % 0x40 / 4
      let v := e.2.toNat
      (if bitOf v 15 ∧ v % 512 = n then [(k, 2 * p)] else []) ++
        (if bitOf v 31 ∧ v / 2 ^ 16 % 512 = n then [(k, 2 * p + 1)] else [])
    else [])

/-- R346 to R348: source `n` is raised: its pending bit, its vector's message, its routed inputs. -/
def State.raiseNo (s : State) (n : Nat) : State :=
  let off := EVT_PEND + 4 * (n / 32)
  let s1 := s.wr W_EVT off (s.rn W_EVT off ||| 2 ^ (n % 32))
  let m := s.evMap n
  let s2 := if bitOf m 6 && !lget false s1.hif.active (m % 64) then
      (s1.setHif { s1.hif with active := lput false s1.hif.active (m % 64) true }).msixSend (m % 64)
    else s1
  (s.routesOf n).foldl (fun t ki => t.engPend ki.1 (16 + ki.2) (BitVec.ofNat 64 n)) s2

/-- The event at bit `b` of group `g` is raised. -/
def State.raise (s : State) (g b : Nat) : State := s.raiseNo (evNo g b)

/-! ### Fault messages -/

/-- R378: a block sends the collector one message: source window, kind, address. -/
def State.fault (s : State) (src kind addr : Nat) : State :=
  s.setFlt { s.flt with msgs := s.flt.msgs ++ [⟨src, kind, addr, false⟩] }

/-- The fault kinds of R377. -/
def K_CFGPAR : Nat := 0x01
def K_ECC_UNCORR : Nat := 0x02
def K_ACC_TIMEOUT : Nat := 0x03
def K_HANDLER_OVERRUN : Nat := 0x04
def K_ILLEGAL_INSN : Nat := 0x05
def K_APLL_LOL : Nat := 0x10
def K_VCO_MARGIN : Nat := 0x11
def K_BAW_FAIL : Nat := 0x12
def K_CLK_DISAGREE : Nat := 0x13
def K_TB_DUP : Nat := 0x14
def K_DRV_FAULT : Nat := 0x18
def K_DIV_PHASE : Nat := 0x19
def K_TEMP : Nat := 0x20
def K_SUPPLY : Nat := 0x21
def K_AGEING : Nat := 0x22
def K_GL_LINK : Nat := 0x28
def K_GL_REMOTE : Nat := 0x29
def K_PCIE_ERR : Nat := 0x30
def K_DMA_ERR : Nat := 0x31
def K_FAULT_IN : Nat := 0x38

/-- The kinds that R377 lists; every other code is reserved. -/
def faultKinds : List Nat := [0x01, 0x02, 0x03, 0x04, 0x05, 0x10, 0x11, 0x12, 0x13, 0x14, 0x18, 0x19, 0x20, 0x21, 0x22,
  0x28, 0x29, 0x30, 0x31, 0x38]

/-! ### Memory -/

/-- Where shared SRAM begins in the memory's keys (the fault addresses of R377). -/
def SRAM : Nat := 0x8000_0000

/-- The size of shared SRAM (R23): 8 MiB. -/
def sramSize : Nat := 0x80_0000

/-- Bytes of instruction memory of engine `k`, and as many of data memory (R308). -/
def engMemSize (k : Nat) : Nat := if k = 0 then 0x4_0000 else 0x8000

/-- The BAR0 address of engine `k`'s instruction memory (R308). -/
def engImem (k : Nat) : Nat := if k = 0 then 0x20_0000 else 0x28_0000 + (k - 1) * 0x1_0000

/-- The BAR0 address of engine `k`'s data memory (R308). -/
def engDmem (k : Nat) : Nat := engImem k + engMemSize k

/-- What a byte nothing has written reads as: zero, since power-on clears both memories (R448). -/
def memDefault (_ : Nat) : Byte := 0

/-- The memory's canonical form. -/
def Memory.wf (l : List Host.Cell) : Bool := sparseWf memDefault l

/-- One byte of memory. -/
def State.byte (s : State) (a : Nat) : Byte := sparseGet memDefault s.mem a

/-- One byte of memory written. -/
def State.setByte (s : State) (a : Nat) (b : Byte) : State := s.setMem (sparsePut memDefault s.mem a b)

/-- The `n` bytes from `a`. -/
def State.bytes (s : State) (a n : Nat) : List Byte := (List.range n).map (fun i => s.byte (a + i))

/-- The bytes `bs` written from `a` on. -/
def State.setBytes : State → Nat → List Byte → State
  | s, _, [] => s
  | s, a, b :: bs => (s.setByte a b).setBytes (a + 1) bs

/-- The little-endian number of `n` bytes at `a`. -/
def State.memNat (s : State) (a n : Nat) : Nat := leNat (s.bytes a n)

/-- The engine whose local memory holds BAR0 address `a`, if any (R308). -/
def memEngine (a : Nat) : Option Nat :=
  if 0x20_0000 ≤ a ∧ a < 0x28_0000 then some 0
  else if 0x28_0000 ≤ a ∧ a < 0x32_0000 then some ((a - 0x28_0000) / 0x1_0000 + 1) else none

/-- The source window and address that ECC_UNCORR carries for the word at `a` (R377). -/
def eccSource (a : Nat) : Nat := match memEngine a with | some k => W_ENG + k | none => W_SYS

/-- R23 on the word at `a` (a multiple of 8): a single-bit error is corrected, counted and reported; a double-bit
error raises the fault and leaves the word. True where the word reads as all ones. -/
def State.eccCheck (s : State) (a : Nat) : Bool × State :=
  match s.ecc.find? (fun e => e.1 == a) with
  | none => (false, s)
  | some (_, true) => (true, s.fault (eccSource a) K_ECC_UNCORR a)
  | some (_, false) =>
    (false, (((((s.setEcc (s.ecc.filter (fun e => e.1 != a))).count W_SYS SYS_ECCCNT 1).wr W_SYS SYS_ECCADDR a).sts
      W_SYS SYS_STS 8).raise 0 22))

/-- A read of `n` ≤ 8 bytes that lie within the 64-bit word of `a` (R23). -/
def State.memLoad (s : State) (a n : Nat) : Nat × State :=
  let (bad, s1) := s.eccCheck (a / 8 * 8)
  (if bad then 2 ^ (8 * n) - 1 else s1.memNat a n, s1)

/-- A write of the `n` ≤ 8 low bytes of `v` within the 64-bit word of `a`: a narrow one reads the word first; a word that
then holds a double-bit error is rewritten from all ones (R23). -/
def State.memStore (s : State) (a n v : Nat) : State :=
  let wa := a / 8 * 8
  if n = 8 then (s.setEcc (s.ecc.filter (fun e => e.1 != wa))).setBytes a (leBytes 8 v)
  else
    let (bad, s1) := s.eccCheck wa
    let s2 := if bad then (s1.setEcc (s1.ecc.filter (fun e => e.1 != wa))).setBytes wa (leBytes 8 (2 ^ 64 - 1)) else s1
    s2.setBytes a (leBytes n v)

/-- A 32-byte queue entry read from memory word by word. -/
def State.loadEntry (s : State) (a : Nat) : BitVec 256 × State :=
  let (w0, s0) := s.memLoad a 8
  let (w1, s1) := s0.memLoad (a + 8) 8
  let (w2, s2) := s1.memLoad (a + 16) 8
  let (w3, s3) := s2.memLoad (a + 24) 8
  (BitVec.ofNat 256 (w0 + w1 * 2 ^ 64 + w2 * 2 ^ 128 + w3 * 2 ^ 192), s3)

/-- A 32-byte queue entry written to memory word by word. -/
def State.storeEntry (s : State) (a : Nat) (e : BitVec 256) : State :=
  (((s.memStore a 8 (e.toNat % 2 ^ 64)).memStore (a + 8) 8 (e.toNat / 2 ^ 64 % 2 ^ 64)).memStore (a + 16) 8
    (e.toNat / 2 ^ 128 % 2 ^ 64)).memStore (a + 24) 8 (e.toNat / 2 ^ 192)

end Sys2Proof.Machine
end

