-- ==== Sys2Proof/Machine/Operands.lean ====
section
/-!
DEFINITION. The operands of the engines' instructions (chapter 12): registers with w0 hard-wired to zero (R284),
immediates (R288), data addresses (R291), register groups of an entry (R296), and port offsets (R295).
-/

namespace Sys2Proof.Machine

/-- R284: register `r` of an engine; w0 reads as zero. -/
def Eng.rw (x : Eng) (r : Nat) : Word64 := if r = 0 then 0 else lget 0 x.w r

/-- R284: register `r` written; a write to w0 is discarded. -/
def Eng.setW (x : Eng) (r : Nat) (v : Word64) : Eng := if r = 0 then x else { x with w := x.w.set r v }

/-- A 16-bit immediate, sign-extended (ADDI, CMPI, LDK, address offsets). -/
def immS (i : BitVec 16) : Word64 := i.signExtend 64

/-- A 16-bit immediate, zero-extended (ANDI, ORI, XORI). -/
def immZ (i : BitVec 16) : Word64 := i.zeroExtend 64

/-- The register's signed value. -/
def sval (v : Word64) : Int := v.toInt

/-- R291: the byte address of a load or store. -/
def dataAddr (x : Eng) (ra : Nat) (imm : BitVec 16) : Nat := (x.rw ra + immS imm).toNat

/-- R291: where a data address of engine `k` lies in the memory's keys; none outside its data space. Shared SRAM is
outside the data space of the LP profile. -/
def dataKey (k profile a : Nat) : Option Nat :=
  if a < engMemSize k then some (engDmem k + a)
  else if 0x1000_0000 ≤ a ∧ a < 0x1080_0000 ∧ profile ≠ 1 then some (SRAM + (a - 0x1000_0000))
  else none

/-- R296: the entry built from registers rg to rg + 3, the first the least significant. -/
def Eng.entry (x : Eng) (rg : Nat) : BitVec 256 :=
  BitVec.ofNat 256 ((x.rw rg).toNat + (x.rw (rg + 1)).toNat * 2 ^ 64 + (x.rw (rg + 2)).toNat * 2 ^ 128 +
    (x.rw (rg + 3)).toNat * 2 ^ 192)

/-- R296: an entry taken into registers rg to rg + 3. -/
def Eng.setEntry (x : Eng) (rg : Nat) (e : BitVec 256) : Eng :=
  (((x.setW rg (BitVec.ofNat 64 e.toNat)).setW (rg + 1) (BitVec.ofNat 64 (e.toNat / 2 ^ 64))).setW (rg + 2)
    (BitVec.ofNat 64 (e.toNat / 2 ^ 128))).setW (rg + 3) (BitVec.ofNat 64 (e.toNat / 2 ^ 192))

/-- R295: the offset of a port access, `ra + 4 × off8`. -/
def portOffset (x : Eng) (ra : Nat) (off8 : BitVec 8) : Nat := ((x.rw ra).toNat + 4 * off8.toNat) % 2 ^ 64

end Sys2Proof.Machine
end

