-- ==== Sys2Proof/Machine/Flags.lean ====
section
/-!
DEFINITION. The flags of the engines (R285, R288): what each kind of result sets, a flag not named keeping its value.
-/

namespace Sys2Proof.Machine

/-- Z and N from a result. -/
def Flags.zn (f : Flags) (v : Word64) : Flags := { f with z := v == 0, n := v.msb }

/-- Z, N, C and V of `a + b`: C is the carry out of bit 63, V signed overflow. -/
def Flags.ofAdd (f : Flags) (a b : Word64) : Flags :=
  { f.zn (a + b) with
    c := decide (2 ^ 64 ≤ a.toNat + b.toNat)
    v := decide ((a + b).toInt ≠ a.toInt + b.toInt) }

/-- Z, N, C and V of `a - b`: C is 1 when `a ≥ b` as unsigned values, V signed overflow. -/
def Flags.ofSub (f : Flags) (a b : Word64) : Flags :=
  { f.zn (a - b) with
    c := decide (b.toNat ≤ a.toNat)
    v := decide ((a - b).toInt ≠ a.toInt - b.toInt) }

/-- Z and N from a saturated result, and the sticky SAT when the clamp acted. -/
def Flags.satZn (f : Flags) (v : Word64) (acted : Bool) : Flags := { f.zn v with sat := f.sat || acted }

/-- A signed result clamped to 64 bits (R288, R289), and whether the clamp acted. -/
def sat64 (i : Int) : Word64 × Bool := (BitVec.ofInt 64 (satSigned 64 i), decide (satSigned 64 i ≠ i))

/-- FLAGS as special register 0 (R285). -/
def Flags.toNat (f : Flags) : Nat :=
  b2n f.z + 2 * b2n f.n + 4 * b2n f.c + 8 * b2n f.v + 16 * b2n f.sat + 32 * b2n f.pf

/-- FLAGS as MTS writes it (R285). -/
def Flags.ofNat (v : Nat) : Flags := ⟨bitOf v 0, bitOf v 1, bitOf v 2, bitOf v 3, bitOf v 4, bitOf v 5⟩

/-- Every flag zero (R304). -/
def Flags.zero : Flags := ⟨false, false, false, false, false, false⟩

/-- The conditions of FWD (R292); 13 to 15 are illegal. -/
def condHolds (f : Flags) (cond : Nat) : Option Bool :=
  match cond with
  | 0 => some true
  | 1 => some f.z
  | 2 => some (!f.z)
  | 3 => some (f.n != f.v)
  | 4 => some (f.n == f.v)
  | 5 => some (!f.c)
  | 6 => some f.c
  | 7 => some (!f.z && f.n == f.v)
  | 8 => some (f.z || f.n != f.v)
  | 9 => some f.pf
  | 10 => some (!f.pf)
  | 11 => some f.sat
  | 12 => some (!f.sat)
  | _ => none

end Sys2Proof.Machine
end

