-- ==== Sys2Proof/Machine/EngineCore.lean ====
section
/-!
DEFINITION. What every instruction of an engine shares (chapter 12): the stacks and the program counter (R292 to R294),
exceptions (R305), the outcome a port, queue, ring or at-time instruction reports (R285), and the end of a handler.
-/

namespace Sys2Proof.Machine

/-- The exception causes of R305, in table order. -/
inductive Exc
  | illegal | memrange | memalign | profile | fetch
  deriving DecidableEq, Repr

/-- The cause code of ENGk_EXC and ENGk_STS (R325). -/
def Exc.code : Exc → Nat
  | .illegal => 1
  | .memrange => 2
  | .memalign => 3
  | .profile => 4
  | .fetch => 5

/-- R305: the instruction has no effect, ILLEGAL_INSN is raised with the instruction's host address, the cause is
recorded and the engine halts in EXCEPT. -/
def State.engExcept (s : State) (k : Nat) (c : Exc) : State :=
  let pc := (s.eng k).pc
  let w := W_ENG + k
  (((s.wr w ENG_EXC (pc % 2 ^ 16 + c.code * 2 ^ 16)).stsField w ENG_STS_CAUSE 8 c.code).modEng k
    (fun x => { x with st := .except, atPrefix := none })).fault w K_ILLEGAL_INSN (engImem k + 4 * pc)

/-- R293: where execution goes after the instruction at index `p`: the next index, or back to the first instruction of
the body that ends at `p` while runs are left; a body run out is closed. -/
def advance (p depth : Nat) : List LoopFrame → Nat × List LoopFrame
  | [] => (p + 1, [])
  | f :: fs =>
    if f.last = p ∧ f.depth = depth then
      if f.left = 0 then advance p depth fs else (f.first, { f with left := f.left - 1 } :: fs)
    else (p + 1, f :: fs)

/-- R293: a forward branch to `t` ends every loop whose body it leaves. -/
def leaveLoops (t depth : Nat) : List LoopFrame → List LoopFrame
  | [] => []
  | f :: fs => if f.last < t ∧ f.depth = depth then leaveLoops t depth fs else f :: fs

/-- The engine moves past its instruction. -/
def Eng.next (x : Eng) : Eng :=
  let r := advance x.pc x.calls.length x.loops
  { x with pc := r.1, loops := r.2 }

/-- R292: the engine branches forward to `t`. -/
def Eng.branch (x : Eng) (t : Nat) : Eng := { x with pc := t, loops := leaveLoops t x.calls.length x.loops }

/-- R285: the outcomes PSTAT codes. -/
inductive PStat
  | ok | wign | locked | align | timeout | empty | full | dropped | olddrop | nocred | absent | atfull | atrange | late
  | noqueue
  deriving DecidableEq, Repr

/-- The code of PSTAT (R285). -/
def PStat.code : PStat → Nat
  | .ok => 0 | .wign => 1 | .locked => 2 | .align => 3 | .timeout => 4 | .empty => 5 | .full => 6 | .dropped => 7
  | .olddrop => 8 | .nocred => 9 | .absent => 10 | .atfull => 11 | .atrange => 12 | .late => 13 | .noqueue => 14

/-- PF is 0 only for OK and OLDDROP (R285). -/
def PStat.pf (p : PStat) : Bool := !(p == .ok || p == .olddrop)

/-- The engine records an outcome in PSTAT and PF (R285). -/
def Eng.report (x : Eng) (p : PStat) : Eng := { x with pstat := p.code, flags := { x.flags with pf := p.pf } }

/-- The window numbers PIN may name in an engine's profile (R307). -/
def mayPin (k w : Nat) : Bool :=
  let own := w == W_ENG + k
  match profileOf k with
  | 0 => w ≤ 0x59 || (0x5c ≤ w && w ≤ 0x66)
  | 1 => w == 0x0c || w == 0x0f || (0x10 ≤ w && w ≤ 0x2b) || own
  | 2 => w == 0x0c || w == 0x0f || (0x10 ≤ w && w ≤ 0x24) || own
  | _ => w == 0x0c || w == 0x0f || (0x10 ≤ w && w ≤ 0x24) || w == 0x54 + (k - 9) || w == 0x56 + (k - 9) || w == 0x58 || own

/-- The sources each monitor engine owns (R307): MON0 to MON3 are ENG5 to ENG8. -/
def monOwns (k n : Nat) : Bool :=
  (k == 5 && n ≤ 4) || (k == 6 && 5 ≤ n && n ≤ 10) || (k == 7 && 11 ≤ n && n ≤ 15) || (k == 8 && 16 ≤ n && n ≤ 20)

/-- The window numbers POUT may name in an engine's profile (R307). -/
def mayPout (k w : Nat) : Bool :=
  let own := w == W_ENG + k
  match profileOf k with
  | 0 => w ≤ 0x59 || (0x5c ≤ w && w ≤ 0x66)
  | 1 => w == 0x28 + (k - 1) || w == 0x0f || own
  | 2 => (0x10 ≤ w && monOwns k (w - 0x10)) || own
  | _ => w == 0x54 + (k - 9) || w == 0x56 + (k - 9) || w == 0x58 || own

/-- Instruction words of engine `k`'s memory: an index beyond raises FETCH (R305). -/
def imemWords (k : Nat) : Nat := engMemSize k / 4

/-- An instruction of engine `k`: it acts only while a handler runs; an index beyond the memory raises FETCH; after AT,
only POUT, SNAP and RAISE (`captured`) are legal (R299, R305). -/
def State.insn (s : State) (k : Nat) (captured : Bool) (f : State → State) : State :=
  let x := s.eng k
  if x.st ≠ .busy then s
  else if imemWords k ≤ x.pc then s.engExcept k .fetch
  else if x.atPrefix.isSome ∧ ¬ captured then s.engExcept k .illegal
  else f s

/-- An instruction that changes only its engine, and then moves on. -/
def State.alu (s : State) (k : Nat) (f : Eng → Eng) : State := s.insn k false (fun t => t.modEng k (fun x => (f x).next))

/-- The engine ends its wait with outcome `p` and continues its handler (R296, R297). -/
def State.engRelease (s : State) (k : Nat) (p : PStat) : State :=
  s.modEng k (fun x => { (x.report p).next with st := .busy, wait := .none, runAt := x.runAt + (s.tb.c - x.waitAt) })

/-- R317: the engine enters HALTED by command: STS HALT, cause COMMAND, ENG_HALT. -/
def State.engHaltNow (s : State) (k : Nat) : State :=
  ((s.modEng k (fun x => { x with st := .halted, haltReq := false })).stsField (W_ENG + k) ENG_STS_CAUSE 4
    0).raise 15 2

end Sys2Proof.Machine
end

