-- ==== Sys2Proof/Machine/Time.lean ====
section
/-!
DEFINITION. The timebase (R189 to R200): the tick, the two formats, steering and its clamp, rebases, and the commits
whose effect a later command brings (R195 to R197). Periods are in TB units, 2^-16 ns.
-/

namespace Sys2Proof.Machine

/-- One TB tick, 1 ns, in TB units (R190). -/
def tickU : Nat := 65536
def usU : Nat := 1000 * 65536
def msU : Nat := 1000000 * 65536
def secU : Nat := 1000000000 * 65536

/-- A bin with one more sample. -/
def Bin.add (b : Bin) (x : Int) : Bin := ⟨b.sum + x, b.count + 1⟩

/-- Seconds times 10^9 that the standalone SEC field can hold, in units of 2^-48 ns (R191). -/
def stdWrap : Nat := 2 ^ 48 * 1000000000 * 2 ^ 48

/-- The rate term of R192 at the count in force. -/
def TbSt.rateTerm (x : TbSt) : Int := x.rate * (((x.c + 2 ^ 96 - x.cr) % 2 ^ 96 : Nat) : Int) / 2 ^ 60

/-- Timebase time in TB units: u of R191 or t of R192. -/
def TbSt.now (x : TbSt) : Nat :=
  if x.ring then ofSigned 96 ((x.c : Int) + (x.ofs : Int) + x.rateTerm) else x.t / 2 ^ 32

/-- Timebase time of the device. -/
def State.now (s : State) : Nat := s.tb.now

/-- R19: whether a crossing reaches the TB clock at once: from the second tick after its first on (log entry 12). -/
def State.tbClocked (s : State) : Bool := s.tb.running && decide (2 * tickU ≤ s.tb.c)

/-- Whether deadline `d` on the free-running count has come. -/
def State.due (s : State) (d : Nat) : Bool := decide (0 ≤ signedDiff 96 s.tb.c d)

/-- The next boundary of a grid of `u` TB units on C has come since index `i` (R38, R79, R101). -/
def State.gridDue (s : State) (u i : Nat) : Bool := s.tb.running && decide (i < s.tb.c / u)

/-- The count `u` TB units from now. -/
def State.after (s : State) (u : Nat) : Nat := (s.tb.c + u) % 2 ^ 96

/-- A time in TB units as the 96-bit triple of the format in force (R191, R192). -/
def fmtTime (ring : Bool) (u : Nat) : Nat :=
  if ring then u % 2 ^ 96
  else
    let ns := u / 65536
    ns % 1000000000 + ns / 1000000000 % 2 ^ 48 * 2 ^ 32 + u % 65536 * 2 ^ 80

/-- The time in TB units that a 96-bit triple means in the format in force (R191, R192). -/
def parseTime (ring : Bool) (v : Nat) : Nat :=
  if ring then v % 2 ^ 96
  else (bitsOf v 32 48 * 1000000000 + bitsOf v 0 30) * 65536 + bitsOf v 80 16

/-- The instant a triple register holds (format in force). -/
def State.instant (s : State) (w off : Nat) : Nat := parseTime s.tb.ring (s.triple w off)

/-- A triple register set to a time in TB units (format in force). -/
def State.putInstant (s : State) (w off u : Nat) : State := s.putTriple w off (fmtTime s.tb.ring u)

/-- R189, R190: one tick of the TB clock. -/
def TbSt.tick (x : TbSt) : TbSt :=
  { x with c := (x.c + tickU) % 2 ^ 96, t := if x.ring then x.t else (x.t + x.incr) % stdWrap }

/-- R192: before a change of RATE or OFS the rate term reached is folded into OFS. -/
def TbSt.rebase (x : TbSt) : TbSt := { x with ofs := ofSigned 96 ((x.ofs : Int) + x.rateTerm), cr := x.c }

/-- The clamp of R194 on the increment. -/
def incrMax : Int := 2 ^ 35 - 1

/-- The clamp of R194 on RATE. -/
def rateMax : Int := 2 ^ 47 - 1

/-- R194: whether a clamp acts; TB_CLAMP is raised once per excursion. -/
def State.tbClamp (s : State) (acts : Bool) : State :=
  let s1 := s.setTb { s.tb with clamp := acts }
  if acts && !s.tb.clamp then (s1.sts W_TB TB_STS 16).raise 6 23 else s1

/-- R194: an increment comes into force, clamped; in ring format RATE follows it after a rebase. -/
def State.tbRetune (s : State) (raw : Int) : State :=
  let d := clampInt (-incrMax) incrMax (raw - 2 ^ 48)
  let x := s.tb
  let x1 := if x.ring then { x.rebase with rate := clampInt (-rateMax) rateMax ((raw - 2 ^ 48) * 2 ^ 12) } else x
  (s.setTb { x1 with incr := ((2 : Int) ^ 48 + d).toNat }).tbClamp (decide (d ≠ raw - 2 ^ 48))

/-- R194, R195: the bridge delivers word `w` to its TB destination at an update instant. -/
def State.tbDeliver (s : State) (w : Int) : State :=
  let s1 := s.setTb { s.tb with word := w, servoWait := if s.tb.steer = 1 then false else s.tb.servoWait }
  if s.tb.steer = 1 then s1.tbRetune (2 ^ 48 + w + s.tb.srvw) else s1

/-- R194, R195: a new SRVW in force acts under SERVO steering, once an update instant has come. -/
def State.tbServoAgain (s : State) : State :=
  if s.tb.steer = 1 ∧ ¬ s.tb.servoWait then s.tbRetune (2 ^ 48 + s.tb.word + s.tb.srvw) else s

/-- R195, R232: TB_SRVW has been committed; the word takes effect at the second tick after the grant (log entry 92). -/
def State.tbServoWord (s : State) : State :=
  s.setTb { s.tb with changes := s.tb.changes ++ [.srvw (toSigned 48 (s.pair W_TB TB_SRVW_LO)) s.tb.c] }

/-- The first waiting change of the timebase that `p` takes, and the others. -/
def takeChange {α : Type} (p : TbChange → Option α) : List TbChange → Option (α × List TbChange)
  | [] => none
  | c :: cs =>
    match p c with
    | some a => some (a, cs)
    | none => (takeChange p cs).map (fun r => (r.1, c :: r.2))

/-- R195: at a tick, a servo word granted two ticks before comes into force. -/
def State.tbServoTick (s : State) : State :=
  match takeChange (fun c => match c with
      | .srvw w c0 => if 2 * tickU ≤ signedDiff 96 s.tb.c c0 then some w else none
      | _ => none) s.tb.changes with
  | some (w, cs) => (s.setTb { s.tb with changes := cs, srvw := w }).tbServoAgain
  | none => s

/-- A change granted to the timebase waits for its tick (R195 to R197). -/
def State.tbGrant (s : State) (c : TbChange) : State := s.setTb { s.tb with changes := s.tb.changes ++ [c] }

/-- The increment in force, from RATE under ring alignment (R194, R196). -/
def TbSt.incrInForce (x : TbSt) : Int :=
  if x.ring ∧ x.steer = 2 then 2 ^ 48 + roundFree x.rate (2 ^ 12) else x.incr

/-- R195: the increment pair takes effect, when steering follows TB_INCR. -/
def State.tbIncrEffect (s : State) (v : Nat) : State :=
  if s.tb.steer = 1 ∨ (s.tb.ring ∧ s.tb.steer = 2) then s else s.tbRetune v

/-- R195: a change of steering. To INCR, or to a value that acts as INCR, TB_INCR is loaded with the increment in force;
to SERVO, the increment is held until the next update instant. -/
def State.tbSteerEffect (s : State) (v : Nat) : State :=
  let x := s.tb
  if v = x.steer then s
  else if v = 1 then s.setTb { x with steer := 1, servoWait := true, incr := x.incrInForce.toNat }
  else if v = 2 ∧ x.ring then s.setTb { x with steer := 2 }
  else if x.steer = 1 ∨ (x.ring ∧ x.steer = 2) ∨ v = 0 then
    let i := x.incrInForce
    ((s.setTb { x with steer := v }).putPair W_TB TB_INCR_LO i.toNat).tbRetune i
  else s.setTb { x with steer := v }

/-- R197: time moved by `amount` TB units: standalone time itself, or OFS in ring format after a rebase. -/
def TbSt.move (x : TbSt) (amount : Int) : TbSt :=
  if x.ring then { x.rebase with ofs := ofSigned 96 ((x.rebase.ofs : Int) + amount) }
  else { x with t := (((x.t : Int) + amount * 2 ^ 32) % stdWrap).toNat }

/-- R198: why a step is refused at its tick: 1 BACKWARD, 2 RANGE, 3 RINGSTEER, in this order. -/
def TbSt.stepRefusal (x : TbSt) (amount : Int) : Option Nat :=
  if amount < 0 ∧ x.backarm.isNone then some 1
  else if ¬ x.ring ∧ ((x.t : Int) + amount * 2 ^ 32 < 0 ∨ (stdWrap : Int) ≤ (x.t : Int) + amount * 2 ^ 32) then some 2
  else if x.steer = 2 then some 3
  else none

/-- R192, R194: OFS and RATE written by ring alignment, after a rebase. -/
def State.tbAlign (s : State) (ofsAdd rate : Int) : State :=
  let x := s.tb.rebase
  let r := clampInt (-rateMax) rateMax rate
  (s.setTb { x with ofs := ofSigned 96 ((x.ofs : Int) + ofsAdd), rate := r }).tbClamp (decide (r ≠ rate))

/-- What the live registers of TB read as (R214); none for stored ones. -/
def State.tbLive (s : State) (off : Nat) : Option Nat :=
  let x := s.tb
  let word (v i : Nat) : Option Nat := some (v / 2 ^ (32 * i) % 2 ^ 32)
  let time := fmtTime x.ring x.now
  if off = TB_TIME_W0 then word time 0 else if off = TB_TIME_W1 then word time 1
  else if off = TB_TIME_W2 then word time 2 else if off = TB_EPOCH then some x.epoch
  else if off = TB_COUNT_W0 then word x.c 0 else if off = TB_COUNT_W1 then word x.c 1
  else if off = TB_COUNT_W2 then word x.c 2
  else if off = TB_OFS_W0 then word x.ofs 0 else if off = TB_OFS_W1 then word x.ofs 1
  else if off = TB_OFS_W2 then word x.ofs 2
  else if off = TB_RATE_LO then word (ofSigned 48 x.rate) 0 else if off = TB_RATE_HI then word (ofSigned 48 x.rate) 1
  else if off = TB_INCRNOW_LO then word x.incrInForce.toNat 0
  else if off = TB_INCRNOW_HI then word x.incrInForce.toNat 1
  else if off = TB_STATE then
    some (b2n x.ring + 2 * x.steer + 8 * b2n x.backarm.isSome + 16 * b2n x.dupbad + 32 * b2n x.clamp)
  else none

end Sys2Proof.Machine
end

