-- ==== Sys2Proof/Machine/Brodti.lean ====
section
/-!
DEFINITION. The Brodti instructions that touch only their engine or the data memories (R285 to R294, R298, R300). One
definition per instruction; the flags each sets are those its row of R288 names.
-/

namespace Sys2Proof.Machine

/-- A result written to rd with Z and N. -/
def Eng.resZN (x : Eng) (rd : Nat) (v : Word64) : Eng := { x.setW rd v with flags := x.flags.zn v }

/-- A saturated result written to rd with Z, N and the sticky SAT. -/
def Eng.resSat (x : Eng) (rd : Nat) (r : Word64 × Bool) : Eng := { x.setW rd r.1 with flags := x.flags.satZn r.1 r.2 }

/-- `ra + b` with the flags of ADD. -/
def Eng.resAdd (x : Eng) (rd : Nat) (a b : Word64) : Eng := { x.setW rd (a + b) with flags := x.flags.ofAdd a b }

/-- `ra - b` with the flags of SUB. -/
def Eng.resSub (x : Eng) (rd : Nat) (a b : Word64) : Eng := { x.setW rd (a - b) with flags := x.flags.ofSub a b }

/-- The shift amount: the low 6 bits (R288). -/
def shAmt (v : Word64) : Nat := v.toNat % 64

/-- R289: the exact product scaled back by `sh` bits, a tie rounding towards +∞. -/
def scaled (a b : Word64) (sh : Nat) : Int :=
  let p := sval a * sval b
  if sh = 0 then p else (p + 2 ^ (sh - 1)) / 2 ^ sh

/-- The number of leading zero bits of a 64-bit value, 0 to 64 (R288). -/
def clz64 (v : Nat) : Nat := if v = 0 then 64 else 63 - Nat.log2 v

/-- floor(√v) of a 64-bit value by `n` bits from the top: the largest r below 2^n that starts with `acc` and whose square
does not exceed v (R290). -/
def sqrtBits (v : Nat) : Nat → Nat → Nat
  | 0, acc => acc
  | n + 1, acc => if (acc + 2 ^ n) * (acc + 2 ^ n) ≤ v then sqrtBits v n (acc + 2 ^ n) else sqrtBits v n acc

/-- R290: signed division truncated towards zero, with its corners; the flag says whether SAT is set. -/
def divSat (a b : Word64) : Word64 × Bool :=
  let x := sval a
  let y := sval b
  if y = 0 then
    (if 0 < x then BitVec.ofInt 64 (2 ^ 63 - 1) else if x < 0 then BitVec.ofInt 64 (-2 ^ 63) else 0, true)
  else sat64 (x.tdiv y)

def execAdd (k : EngId) (rd ra rb : Reg) (s : State) : Host.Outcome State Fault Refusal :=
  .next (s.alu k (fun x => x.resAdd rd (x.rw ra) (x.rw rb)))

def execSub (k : EngId) (rd ra rb : Reg) (s : State) : Host.Outcome State Fault Refusal :=
  .next (s.alu k (fun x => x.resSub rd (x.rw ra) (x.rw rb)))

def execAnd (k : EngId) (rd ra rb : Reg) (s : State) : Host.Outcome State Fault Refusal :=
  .next (s.alu k (fun x => x.resZN rd (x.rw ra &&& x.rw rb)))

def execOr (k : EngId) (rd ra rb : Reg) (s : State) : Host.Outcome State Fault Refusal :=
  .next (s.alu k (fun x => x.resZN rd (x.rw ra ||| x.rw rb)))

def execXor (k : EngId) (rd ra rb : Reg) (s : State) : Host.Outcome State Fault Refusal :=
  .next (s.alu k (fun x => x.resZN rd (x.rw ra ^^^ x.rw rb)))

def execShl (k : EngId) (rd ra rb : Reg) (s : State) : Host.Outcome State Fault Refusal :=
  .next (s.alu k (fun x => x.resZN rd (x.rw ra <<< shAmt (x.rw rb))))

def execShr (k : EngId) (rd ra rb : Reg) (s : State) : Host.Outcome State Fault Refusal :=
  .next (s.alu k (fun x => x.resZN rd (x.rw ra >>> shAmt (x.rw rb))))

def execSar (k : EngId) (rd ra rb : Reg) (s : State) : Host.Outcome State Fault Refusal :=
  .next (s.alu k (fun x => x.resZN rd ((x.rw ra).sshiftRight (shAmt (x.rw rb)))))

def execAdds (k : EngId) (rd ra rb : Reg) (s : State) : Host.Outcome State Fault Refusal :=
  .next (s.alu k (fun x => x.resSat rd (sat64 (sval (x.rw ra) + sval (x.rw rb)))))

def execSubs (k : EngId) (rd ra rb : Reg) (s : State) : Host.Outcome State Fault Refusal :=
  .next (s.alu k (fun x => x.resSat rd (sat64 (sval (x.rw ra) - sval (x.rw rb)))))

def execMin (k : EngId) (rd ra rb : Reg) (s : State) : Host.Outcome State Fault Refusal :=
  .next (s.alu k (fun x => x.resZN rd (if sval (x.rw ra) ≤ sval (x.rw rb) then x.rw ra else x.rw rb)))

def execMax (k : EngId) (rd ra rb : Reg) (s : State) : Host.Outcome State Fault Refusal :=
  .next (s.alu k (fun x => x.resZN rd (if sval (x.rw rb) ≤ sval (x.rw ra) then x.rw ra else x.rw rb)))

def execMinu (k : EngId) (rd ra rb : Reg) (s : State) : Host.Outcome State Fault Refusal :=
  .next (s.alu k (fun x => x.resZN rd (if (x.rw ra).toNat ≤ (x.rw rb).toNat then x.rw ra else x.rw rb)))

def execMaxu (k : EngId) (rd ra rb : Reg) (s : State) : Host.Outcome State Fault Refusal :=
  .next (s.alu k (fun x => x.resZN rd (if (x.rw rb).toNat ≤ (x.rw ra).toNat then x.rw ra else x.rw rb)))

def execMul (k : EngId) (rd ra rb : Reg) (s : State) : Host.Outcome State Fault Refusal :=
  .next (s.alu k (fun x => x.resZN rd (x.rw ra * x.rw rb)))

def execMulhs (k : EngId) (rd ra rb : Reg) (s : State) : Host.Outcome State Fault Refusal :=
  .next (s.alu k (fun x => x.resZN rd (BitVec.ofInt 64 (sval (x.rw ra) * sval (x.rw rb) / 2 ^ 64))))

def execCmp (k : EngId) (ra rb : Reg) (s : State) : Host.Outcome State Fault Refusal :=
  .next (s.alu k (fun x => { x with flags := x.flags.ofSub (x.rw ra) (x.rw rb) }))

def execAbs (k : EngId) (rd ra : Reg) (s : State) : Host.Outcome State Fault Refusal :=
  .next (s.alu k (fun x => x.resSat rd (sat64 (sval (x.rw ra)).natAbs)))

def execNegs (k : EngId) (rd ra : Reg) (s : State) : Host.Outcome State Fault Refusal :=
  .next (s.alu k (fun x => x.resSat rd (sat64 (-sval (x.rw ra)))))

/-- CLZ sets Z alone. -/
def execClz (k : EngId) (rd ra : Reg) (s : State) : Host.Outcome State Fault Refusal :=
  .next (s.alu k (fun x =>
    let v := BitVec.ofNat 64 (clz64 (x.rw ra).toNat)
    { x.setW rd v with flags := { x.flags with z := v == 0 } }))

def execSxt (k : EngId) (rd ra : Reg) (b : BitVec 6) (s : State) : Host.Outcome State Fault Refusal :=
  .next (s.alu k (fun x => x.resZN rd (BitVec.ofInt 64 (toSigned (b.toNat + 1) (x.rw ra).toNat))))

def execAddi (k : EngId) (rd ra : Reg) (imm : BitVec 16) (s : State) : Host.Outcome State Fault Refusal :=
  .next (s.alu k (fun x => x.resAdd rd (x.rw ra) (immS imm)))

def execAndi (k : EngId) (rd ra : Reg) (imm : BitVec 16) (s : State) : Host.Outcome State Fault Refusal :=
  .next (s.alu k (fun x => x.resZN rd (x.rw ra &&& immZ imm)))

def execOri (k : EngId) (rd ra : Reg) (imm : BitVec 16) (s : State) : Host.Outcome State Fault Refusal :=
  .next (s.alu k (fun x => x.resZN rd (x.rw ra ||| immZ imm)))

def execXori (k : EngId) (rd ra : Reg) (imm : BitVec 16) (s : State) : Host.Outcome State Fault Refusal :=
  .next (s.alu k (fun x => x.resZN rd (x.rw ra ^^^ immZ imm)))

def execShli (k : EngId) (rd ra : Reg) (sh : BitVec 6) (s : State) : Host.Outcome State Fault Refusal :=
  .next (s.alu k (fun x => x.resZN rd (x.rw ra <<< sh.toNat)))

def execShri (k : EngId) (rd ra : Reg) (sh : BitVec 6) (s : State) : Host.Outcome State Fault Refusal :=
  .next (s.alu k (fun x => x.resZN rd (x.rw ra >>> sh.toNat)))

def execSari (k : EngId) (rd ra : Reg) (sh : BitVec 6) (s : State) : Host.Outcome State Fault Refusal :=
  .next (s.alu k (fun x => x.resZN rd ((x.rw ra).sshiftRight sh.toNat)))

def execCmpi (k : EngId) (ra : Reg) (imm : BitVec 16) (s : State) : Host.Outcome State Fault Refusal :=
  .next (s.alu k (fun x => { x with flags := x.flags.ofSub (x.rw ra) (immS imm) }))

def execLdk (k : EngId) (rd : Reg) (imm : BitVec 16) (s : State) : Host.Outcome State Fault Refusal :=
  .next (s.alu k (fun x => x.setW rd (immS imm)))

def execShin (k : EngId) (rd : Reg) (imm : BitVec 16) (s : State) : Host.Outcome State Fault Refusal :=
  .next (s.alu k (fun x => x.setW rd ((x.rw rd <<< 16) ||| immZ imm)))

def execMulq (k : EngId) (rd ra rb : Reg) (sh : BitVec 6) (s : State) : Host.Outcome State Fault Refusal :=
  .next (s.alu k (fun x => x.resSat rd (sat64 (scaled (x.rw ra) (x.rw rb) sh.toNat))))

def execMacq (k : EngId) (rd ra rb : Reg) (sh : BitVec 6) (s : State) : Host.Outcome State Fault Refusal :=
  .next (s.alu k (fun x => x.resSat rd (sat64 (sval (x.rw rd) + scaled (x.rw ra) (x.rw rb) sh.toNat))))

def execMsuq (k : EngId) (rd ra rb : Reg) (sh : BitVec 6) (s : State) : Host.Outcome State Fault Refusal :=
  .next (s.alu k (fun x => x.resSat rd (sat64 (sval (x.rw rd) - scaled (x.rw ra) (x.rw rb) sh.toNat))))

def execDivs (k : EngId) (rd ra rb : Reg) (s : State) : Host.Outcome State Fault Refusal :=
  .next (s.alu k (fun x => x.resSat rd (divSat (x.rw ra) (x.rw rb))))

def execSqrtu (k : EngId) (rd ra : Reg) (s : State) : Host.Outcome State Fault Refusal :=
  .next (s.alu k (fun x => x.resZN rd (BitVec.ofNat 64 (sqrtBits (x.rw ra).toNat 32 0))))

/-! ### Memory (R291) -/

/-- A load of `n` bytes: MEMRANGE outside the data space, MEMALIGN where misaligned; the bytes zero- or sign-extended. -/
def State.engLoad (s : State) (k : EngId) (rd ra : Reg) (imm : BitVec 16) (n : Nat) (signed : Bool) : State :=
  s.insn k false (fun t =>
    let x := t.eng k
    let a := dataAddr x ra imm
    match dataKey k x.profile a with
    | none => t.engExcept k .memrange
    | some key =>
      if a % n ≠ 0 then t.engExcept k .memalign
      else
        let (v, t1) := t.memLoad key n
        let r : Word64 := if signed then BitVec.ofInt 64 (toSigned (8 * n) v) else BitVec.ofNat 64 v
        t1.modEng k (fun y => (y.setW rd r).next))

/-- A store of the low `n` bytes of rs, under the same address rules. -/
def State.engStore (s : State) (k : EngId) (rs ra : Reg) (imm : BitVec 16) (n : Nat) : State :=
  s.insn k false (fun t =>
    let x := t.eng k
    let a := dataAddr x ra imm
    match dataKey k x.profile a with
    | none => t.engExcept k .memrange
    | some key =>
      if a % n ≠ 0 then t.engExcept k .memalign
      else (t.memStore key n ((x.rw rs).toNat % 2 ^ (8 * n))).modEng k Eng.next)

def execLd8u (k : EngId) (rd ra : Reg) (imm : BitVec 16) (s : State) : Host.Outcome State Fault Refusal :=
  .next (s.engLoad k rd ra imm 1 false)

def execLd8s (k : EngId) (rd ra : Reg) (imm : BitVec 16) (s : State) : Host.Outcome State Fault Refusal :=
  .next (s.engLoad k rd ra imm 1 true)

def execLd16u (k : EngId) (rd ra : Reg) (imm : BitVec 16) (s : State) : Host.Outcome State Fault Refusal :=
  .next (s.engLoad k rd ra imm 2 false)

def execLd16s (k : EngId) (rd ra : Reg) (imm : BitVec 16) (s : State) : Host.Outcome State Fault Refusal :=
  .next (s.engLoad k rd ra imm 2 true)

def execLd32u (k : EngId) (rd ra : Reg) (imm : BitVec 16) (s : State) : Host.Outcome State Fault Refusal :=
  .next (s.engLoad k rd ra imm 4 false)

def execLd32s (k : EngId) (rd ra : Reg) (imm : BitVec 16) (s : State) : Host.Outcome State Fault Refusal :=
  .next (s.engLoad k rd ra imm 4 true)

def execLd64 (k : EngId) (rd ra : Reg) (imm : BitVec 16) (s : State) : Host.Outcome State Fault Refusal :=
  .next (s.engLoad k rd ra imm 8 false)

def execSt8 (k : EngId) (rs ra : Reg) (imm : BitVec 16) (s : State) : Host.Outcome State Fault Refusal :=
  .next (s.engStore k rs ra imm 1)

def execSt16 (k : EngId) (rs ra : Reg) (imm : BitVec 16) (s : State) : Host.Outcome State Fault Refusal :=
  .next (s.engStore k rs ra imm 2)

def execSt32 (k : EngId) (rs ra : Reg) (imm : BitVec 16) (s : State) : Host.Outcome State Fault Refusal :=
  .next (s.engStore k rs ra imm 4)

def execSt64 (k : EngId) (rs ra : Reg) (imm : BitVec 16) (s : State) : Host.Outcome State Fault Refusal :=
  .next (s.engStore k rs ra imm 8)

/-! ### Control flow (R292 to R294) -/

/-- FWD: forward by `off` when the condition holds; off 0 and conditions 13 to 15 are illegal. -/
def execFwd (k : EngId) (cond : BitVec 4) (off : BitVec 16) (s : State) : Host.Outcome State Fault Refusal :=
  .next (s.insn k false (fun t =>
    match condHolds (t.eng k).flags cond.toNat with
    | none => t.engExcept k .illegal
    | some c =>
      if off = 0 then t.engExcept k .illegal
      else t.modEng k (fun x => if c then x.branch (x.pc + off.toNat) else x.next)))

/-- LOOP: the next `len` instructions run `count` times; a fifth level is illegal, and so is a body of no instruction or
a count outside 1 to 4,096. -/
def execLoop (k : EngId) (count : Nat) (len : BitVec 14) (s : State) : Host.Outcome State Fault Refusal :=
  .next (s.insn k false (fun t =>
    let x := t.eng k
    if 4 ≤ x.loops.length ∨ len = 0 ∨ count = 0 ∨ 4096 < count then t.engExcept k .illegal
    else t.modEng k (fun y =>
      { y with pc := y.pc + 1
               loops := ⟨y.pc + 1, y.pc + len.toNat, count - 1, y.calls.length⟩ :: y.loops })))

/-- CALL: the index after it is pushed; a ninth level is illegal. -/
def execCall (k : EngId) (target : BitVec 16) (s : State) : Host.Outcome State Fault Refusal :=
  .next (s.insn k false (fun t =>
    if 8 ≤ (t.eng k).calls.length then t.engExcept k .illegal
    else t.modEng k (fun x => { x with pc := target.toNat, calls := (x.pc + 1) :: x.calls })))

/-- RET: back to the index on top of the stack; illegal on an empty stack. A body that ends at the CALL runs on as after
any last instruction (log entry 8). -/
def execRet (k : EngId) (s : State) : Host.Outcome State Fault Refusal :=
  .next (s.insn k false (fun t =>
    match (t.eng k).calls with
    | [] => t.engExcept k .illegal
    | p :: ps => t.modEng k (fun x => { x with pc := p - 1, calls := ps }.next)))

def execNop (k : EngId) (s : State) : Host.Outcome State Fault Refusal := .next (s.alu k id)

/-- DONE: the handler ends and both stacks empty (R300); the engine is then free, or halts where HALT was commanded
(R317). The end of SUP's START lets the other engines take theirs (R453). -/
def execDone (k : EngId) (s : State) : Host.Outcome State Fault Refusal :=
  .next (s.insn k false (fun t =>
    let t1 := t.modEng k (fun x => { x with st := .idle, loops := [], calls := [] })
    let t2 := if k.val = 0 ∧ (t.eng k).evt = 63 then t1.setSys { t1.sys with supStart := false } else t1
    if (t.eng k).haltReq then t2.engHaltNow k else t2))

/-! ### Special registers and time (R285, R298) -/

/-- A special register of engine `k` (R285): ENGID holds the engine, the member ID and the profile. -/
def State.sreg (s : State) (k n : Nat) : Word64 :=
  let x := s.eng k
  match n with
  | 0 => BitVec.ofNat 64 x.flags.toNat
  | 1 => BitVec.ofNat 64 x.pstat
  | 2 => BitVec.ofNat 64 x.evt
  | 3 => x.evarg
  | 4 => BitVec.ofNat 64 x.epoch
  | 5 => BitVec.ofNat 64 (k + s.rn W_GL GL_STATE % 8 * 16 + x.profile * 256)
  | 6 => BitVec.ofNat 64 (8 - x.ats.length)
  | _ => 0

def execMfs (k : EngId) (rd : Reg) (sreg : BitVec 5) (s : State) : Host.Outcome State Fault Refusal :=
  .next (s.alu k (fun x => x.setW rd (s.sreg k sreg.toNat)))

/-- MTS writes only FLAGS. -/
def execMts (k : EngId) (ra : Reg) (sreg : BitVec 5) (s : State) : Host.Outcome State Fault Refusal :=
  .next (s.alu k (fun x => if sreg = 0 then { x with flags := Flags.ofNat (x.rw ra).toNat } else x))

/-- TNOW: the low 64 bits of time or of C, and the epoch. -/
def execTnow (k : EngId) (rd : Reg) (baseC : Bool) (s : State) : Host.Outcome State Fault Refusal :=
  .next (s.alu k (fun x =>
    { x.setW rd (BitVec.ofNat 64 (if baseC then s.tb.c else s.now)) with epoch := s.tb.epoch }))

/-- AT: the following instruction is captured (R299). -/
def execArmAt (k : EngId) (ra : Reg) (baseC : Bool) (s : State) : Host.Outcome State Fault Refusal :=
  .next (s.alu k (fun x => { x with atPrefix := some (baseC, (x.rw ra).toNat) }))

end Sys2Proof.Machine
end

