-- ==== Sys2Proof/Machine/Queues.lean ====
section
/-!
DEFINITION. The 64 queues and the rings bound to them (R336 to R345): entries in shared SRAM, modes, drops, held
producers, drain timers, the coalescing of Q_DATA and the write-back.
-/

namespace Sys2Proof.Machine

/-- The register block of queue `n` (R352). -/
def qOff (n : Nat) : Nat := 0x10 * n
/-- The register block of ring `n` (R352). -/
def ringOff (n : Nat) : Nat := 0x20 * n

def State.qGet (s : State) (n : Nat) (f : Fld) : Nat := s.get W_DMA (f.up (qOff n))
def State.rGet (s : State) (n : Nat) (f : Fld) : Nat := s.get W_DMA (f.up (ringOff n))

def State.qEnabled (s : State) (n : Nat) : Bool := s.qGet n DMA_QCTL_ENABLE != 0
def State.ringEnabled (s : State) (n : Nat) : Bool := s.rGet n DMA_R_CTL_ENABLE != 0

/-- A queue's modes: 3 acts as DROP_NEW (R352). -/
inductive QMode
  | stall | dropNew | dropOld
  deriving DecidableEq, Repr

/-- The mode a MODE field means. -/
def qModeOf (v : Nat) : QMode := if v = 0 then .stall else if v = 2 then .dropOld else .dropNew

def State.qMode (s : State) (n : Nat) : QMode := qModeOf (s.qGet n DMA_QCTL_MODE)

/-- Entries queue `n` can hold, and where its buffer begins in memory (R336). -/
def State.qSlots (s : State) (n : Nat) : Nat := 2 ^ s.qGet n DMA_QCFG_DEPTH
def State.qBase (s : State) (n : Nat) : Nat := SRAM + s.qGet n DMA_QCFG_BASE * 128

def State.qFull (s : State) (n : Nat) : Bool := decide (s.qSlots n ≤ (s.queue n).fill)
def State.qEmpty (s : State) (n : Nat) : Bool := (s.queue n).fill == 0

/-- The queue's event bit with a bit of DMA_QSTSn (R349). -/
def State.qEvent (s : State) (n bit : Nat) : State :=
  (s.sts W_DMA (DMA_QSTS + qOff n) (2 ^ bit)).raiseNo (32 * 13 + n)

/-- Drops counted in DMA_QDROPn, with DROP and Q_DROP (R337). -/
def State.qDrop (s : State) (n k : Nat) : State := (s.count W_DMA (DMA_QDROP + 4 * n) k).qEvent n 1

/-- An entry stored behind the youngest. -/
def State.qPush (s : State) (n : Nat) (e : BitVec 256) : State :=
  let q := s.queue n
  (s.storeEntry (s.qBase n + 32 * ((q.head + q.fill) % s.qSlots n)) e).modQueue n (fun x => { x with fill := x.fill + 1 })

/-- The oldest entry removed: the queue then has space, and its drain timer stops and clears (R338). -/
def State.qDiscard (s : State) (n : Nat) : State :=
  s.modQueue n (fun x => { x with head := (x.head + 1) % s.qSlots n, fill := x.fill - 1, drain := none, fired := false })

/-- The oldest entry, read and removed. -/
def State.qPop (s : State) (n : Nat) : BitVec 256 × State :=
  let (e, s1) := s.loadEntry (s.qBase n + 32 * (s.queue n).head)
  (e, s1.qDiscard n)

/-- R338: the drain timer of a STALL queue that holds a producer. -/
def State.qStartDrain (s : State) (n : Nat) : State :=
  let d := max 1 (s.qGet n DMA_QCTL_QDL)
  s.modQueue n (fun x => if x.drain.isSome then x else { x with drain := some (s.after (d * 10 * usU)), fired := false })

/-- R337: a block producer puts an entry, or drops it and counts it; it never waits. -/
def State.qPutBlock (s : State) (n : Nat) (e : BitVec 256) : State :=
  if ¬ s.qEnabled n ∨ s.qFull n then s.qDrop n 1 else s.qPush n e

/-- R296: an engine's QPUT: the outcome to report, or none where the engine is held. -/
def State.qPutEngine (s : State) (n : Nat) (e : BitVec 256) (wait : Bool) : Option PStat × State :=
  if ¬ s.qEnabled n then (some .noqueue, s)
  else if ¬ s.qFull n then (some .ok, s.qPush n e)
  else match s.qMode n with
    | .dropNew => (some .dropped, s.qDrop n 1)
    | .dropOld => (some .olddrop, ((s.qDiscard n).qPush n e).qDrop n 1)
    | .stall => if wait then (none, s.qStartDrain n) else (some .full, s)

/-- Engine `k` held at queue `n` with entry `e` (R296, R338). -/
def State.qHold (s : State) (n k : Nat) (e : BitVec 256) : State :=
  (s.modQueue n (fun x => { x with held := x.held ++ [⟨k, e⟩] })).modEng k
    (fun x => { x with st := .waitq, wait := .queue n, waitAt := s.tb.c })

/-- The held producers of queue `n` but engine `k`. -/
def State.qUnhold (s : State) (n k : Nat) : State :=
  s.modQueue n (fun x => { x with held := x.held.filter (fun h => h.eng != k) })

/-- R337: after a change from STALL to a drop mode each held producer's entry is handled under the new mode. -/
def State.qReleaseAll (s : State) (n : Nat) : List HeldProducer → State
  | [] => s
  | h :: hs =>
    let (p, s1) := (s.qUnhold n h.eng).qPutEngine n h.entry false
    (s1.engRelease h.eng (p.getD .full)).qReleaseAll n hs

/-- R339: every producer held at a queue that is disabled completes with NOQUEUE. -/
def State.qReleaseNone (s : State) (n : Nat) : List HeldProducer → State
  | [] => s
  | h :: hs => ((s.qUnhold n h.eng).engRelease h.eng .noqueue).qReleaseNone n hs

/-- R339: the queue's entries are discarded and counted; held producers complete with NOQUEUE. -/
def State.qDisable (s : State) (n : Nat) : State :=
  let q := s.queue n
  let s1 := if q.fill = 0 then s else s.qDrop n q.fill
  let s2 := s1.modQueue n (fun x => { x with head := 0, fill := 0, drain := none, fired := false })
  s2.qReleaseNone n q.held

/-- The consumer of queue `n`: CONS and CONSID (R335). -/
def State.qCons (s : State) (n : Nat) : Nat := s.qGet n DMA_QCFG_CONS
def State.qConsId (s : State) (n : Nat) : Nat := s.qGet n DMA_QCFG_CONSID

/-- R27 assumption 2, R314: whether MODE = STALL is refused on queue `n`: it feeds a loop engine, the fault collector, or
an engine that runs a waiting image. No queue feeds the sync engine. -/
def State.qStallRefused (s : State) (n : Nat) : Bool :=
  (s.qCons n == 2 && ((1 ≤ s.qConsId n && s.qConsId n ≤ 4) || (s.eng (s.qConsId n)).waiting)) ||
    (s.qCons n == 3 && s.qConsId n == 0x02)

/-- R336: whether a queue's enable is refused for its depth or its base. -/
def State.qEnableRefused (s : State) (n : Nat) : Bool :=
  let d := s.qGet n DMA_QCFG_DEPTH
  let b := s.qGet n DMA_QCFG_BASE * 128
  d < 4 || 12 < d || b % (32 * 2 ^ d) != 0 || sramSize < b + 32 * 2 ^ d

/-- What DMA_QSTATEn reads as (R352). -/
def State.qStateReg (s : State) (n : Nat) : Nat :=
  let q := s.queue n
  q.fill + 2 ^ 13 * b2n (s.qEnabled n && s.qFull n) + 2 ^ 14 * b2n (!q.held.isEmpty) + 2 ^ 15 * b2n q.drain.isSome +
    2 ^ 16 * b2n (s.ring n).err

/-! ### Rings -/

/-- Elements of ring `n` (R340). -/
def State.ringN (s : State) (n : Nat) : Nat := 2 ^ s.rGet n DMA_R_CFG_SIZE / 32

def State.ringH2D (s : State) (n : Nat) : Bool := s.rGet n DMA_R_CFG_DIR != 0
def State.hidx (s : State) (n : Nat) : Nat := s.rGet n DMA_R_HIDX_V
def State.didx (s : State) (n : Nat) : Nat := s.rGet n DMA_R_DIDX_V
def State.setDidx (s : State) (n v : Nat) : State := s.wr W_DMA (DMA_R_DIDX + ringOff n) v
def State.ringBase (s : State) (n : Nat) : Nat := s.pair W_DMA (DMA_R_BASE_LO + ringOff n)

/-- R330: DMA moves nothing while the link is down, bus mastering is off or in D3hot, nor while DMA_CTL.ENABLE = 0. -/
def State.dmaPaused (s : State) : Bool :=
  !(s.flag W_HIF HIF_STATE_LINKUP) || !(s.flag W_HIF HIF_STATE_BME) || s.flag W_HIF HIF_STATE_D3 ||
    !(s.flag W_DMA DMA_CTL_ENABLE)

/-- R341: whether a ring's enable is refused. -/
def State.ringEnableRefused (s : State) (n : Nat) : Bool :=
  let sz := s.rGet n DMA_R_CFG_SIZE
  sz < 12 || 24 < sz || s.ringBase n % 4096 != 0 ||
    (s.rGet n DMA_R_CFG_WBEN != 0 && s.pair W_DMA (DMA_R_WB_LO + ringOff n) % 16 != 0) ||
    !(s.qEnabled n) || (!s.ringH2D n && s.qCons n != 1) || (s.ringH2D n && (s.qCons n == 1 || s.qCons n == 0)) ||
    !(s.flag W_DMA DMA_CTL_ENABLE)

/-- R343: the write-back block after a batch. -/
def State.writeBack (s : State) (n : Nat) : State :=
  if s.rGet n DMA_R_CFG_WBEN = 0 then s
  else
    let c := (s.ring n).wbCount + 1
    let s1 := s.modRing n (fun x => { x with wbCount := c % 2 ^ 32 })
    let q := s.queue n
    s1.emit (.hostWrite (s.pair W_DMA (DMA_R_WB_LO + ringOff n))
      (leBytes 4 (s.didx n) ++ leBytes 4 (s.rn W_DMA (DMA_QDROP + 4 * n)) ++ leBytes 4 c ++
        leBytes 4 (b2n (s.ring n).err + 2 * b2n (!q.held.isEmpty) +
          4 * b2n (bitOf (s.rn W_DMA (DMA_QSTS + qOff n)) 2))))

/-- R344: Q_DATA is raised and its counts restart. -/
def State.qData (s : State) (n : Nat) : State :=
  (s.modRing n (fun x => { x with since := 0, oldest := none })).qEvent n 0

/-- R344 after elements were written: the count condition. -/
def State.qDataCount (s : State) (n : Nat) : State :=
  let thr := s.rGet n DMA_R_CTL_THR
  if thr ≠ 0 ∧ thr ≤ (s.ring n).since then s.qData n else s

/-- R342: one entry of queue `n` written to its D2H ring. -/
def State.d2hOne (s : State) (n : Nat) : State :=
  let (e, s1) := s.qPop n
  let d := s.didx n
  ((s1.emit (.hostWrite (s.ringBase n + 32 * d) (leBytes 32 e.toNat))).setDidx n ((d + 1) % s.ringN n)).count W_DMA
      DMA_ENTCNT 1 |>.modRing n (fun x => { x with since := x.since + 1, oldest := x.oldest.or (some s.tb.c) })

/-- R342: up to `k` entries of queue `n` moved while the ring has space; whether any was. -/
def State.d2hMany : State → Nat → Nat → Bool × State
  | s, _, 0 => (false, s)
  | s, n, k + 1 =>
    if s.qEmpty n ∨ (s.didx n + 1) % s.ringN n = s.hidx n then (false, s)
    else (true, ((s.d2hOne n).d2hMany n k).2)

/-- R342: elements of an H2D ring enqueued while there are some and queue `n` has space; whether any was. -/
def State.h2dMany : State → Nat → List (BitVec 256) → Bool × State
  | s, _, [] => (false, s)
  | s, n, e :: es =>
    if s.didx n = s.hidx n ∨ s.qFull n then (false, s)
    else (true, ((((s.qPush n e).setDidx n ((s.didx n + 1) % s.ringN n)).count W_DMA DMA_ENTCNT 1).h2dMany n es).2)

/-- R345: a ring's disable clears ERR. -/
def State.ringClearErr (s : State) (n : Nat) : State := s.modRing n (fun x => { x with err := false })

/-- What DMA_STATE reads as (R352): RUNNING while bus mastering is on and not paused; PAUSED under R330. -/
def State.dmaStateReg (s : State) : Nat :=
  let p := !(s.flag W_HIF HIF_STATE_LINKUP) || !(s.flag W_HIF HIF_STATE_BME) || s.flag W_HIF HIF_STATE_D3
  b2n (s.flag W_DMA DMA_CTL_ENABLE && !p) + 2 * b2n p + s.get W_DMA DMA_STATE_LASTERR * 2 ^ 8

end Sys2Proof.Machine
end

