-- ==== Sys2Proof/Machine/Fault.lean ====
section
/-!
DEFINITION. The fault collector (R377 to R393): the latch of a record, the pulse, escalation's timer, acknowledgement,
clearing and the cause-present bits. The safe-state command to the other blocks is in Machine/SafeState.lean.
-/

namespace Sys2Proof.Machine

/-- FLT_PULSE in µs as it acts (R394). -/
def State.fltPulseUs (s : State) : Nat := min 10000 (max 1 (s.get W_FLT FLT_PULSE_V))

/-- FLT_ESC in µs as it acts (R394). -/
def State.fltEscUs (s : State) : Nat := min 4000000 (max 10 (s.get W_FLT FLT_ESC_V))

/-- R377: the cause-present bit of a record: of its kind, source and address. An injected record has none, except of kind
FAULT_IN (R391). -/
def State.causePresent (s : State) : Bool :=
  let w2 := s.rn W_FLT FLT_REC_W2
  let src := w2 % 256
  let kind := w2 / 256 % 256
  let addr := s.rn W_FLT FLT_REC_W3
  if kind = K_FAULT_IN then s.flt.finLow
  else if s.flt.injected then false
  else if kind = K_CFGPAR then s.par.any (fun e => e.2)
  else if kind = K_ILLEGAL_INSN then (s.eng (src - W_ENG)).st == .except
  else if kind = K_APLL_LOL then s.flag src APLL_STATE_LOL
  else if kind = K_VCO_MARGIN then s.flag src APLL_STATE_MARGFLT
  else if kind = K_BAW_FAIL then !s.flag W_BRG BRG_STATE_BAWOK
  else if kind = K_CLK_DISAGREE then !s.flag W_BRG BRG_STATE_TBLOCK
  else if kind = K_TB_DUP then s.tb.dupbad
  else if kind = K_DRV_FAULT then s.flag src OUT_STATE_DRVBAD
  else if kind = K_DIV_PHASE then s.flag src OUT_STATE_DIVBAD
  else if kind = K_TEMP then s.flag W_PWR PWR_STATE_TEMPBAD
  else if kind = K_SUPPLY then s.flag W_PWR PWR_STATE_SUPBAD
  else if kind = K_AGEING then s.flag W_HLTH HLTH_STATE_AGEFLT
  else if kind = K_GL_LINK then
    s.flag W_GL (if addr = regAddr W_GL GL_PORTA then GL_STATE_LINKBADA else GL_STATE_LINKBADB)
  else if kind = K_PCIE_ERR then s.hif.aer != 0
  else if kind = K_DMA_ERR then (s.ring ((addr - regAddr W_DMA DMA_R_CTL) / 0x20)).err
  else false

/-- The state code of FLT_STATE (R394). -/
def FltState.code : FltState → Nat
  | .idle => 0 | .latched => 1 | .acked => 2 | .safe => 3

/-- FAULT_N driven low: the pulse runs, or PINLVL (R381). -/
def State.faultPin (s : State) : Bool := s.flt.pulse.isSome || s.flag W_FLT FLT_PIN_PINLVL

/-- What FLT_STATE reads as (R394): CAUSEP mirrors the cause-present bit while a record is handled (R387). -/
def State.fltStateReg (s : State) : Nat :=
  let left := match s.flt.esc with
    | none => 0
    | some d => ceilDiv (signedDiff 96 d s.tb.c).toNat usU
  s.flt.st.code + 4 * b2n (s.flt.st != .idle && s.causePresent) + 8 * b2n s.flt.pulse.isSome + 16 * b2n s.faultPin +
    32 * b2n s.flt.finLow + 64 * b2n s.flt.esc.isSome + left % 2 ^ 22 * 2 ^ 10

/-- The 16-byte record as one number (R380). -/
def State.recordNat (s : State) : Nat :=
  s.pair W_FLT FLT_REC_W0 + s.pair W_FLT FLT_REC_W2 * 2 ^ 64

/-- R379: a message is latched at tick L: the record, its sequence, LATCHED, the pulse, the escalation timer, the
snapshot trigger (R208), the event, SUP's event FLTREC (R390) and the entry in RECQ. -/
def State.fltLatch (s : State) (m : FaultMsg) : State :=
  let seq := (s.get W_FLT FLT_STATUS_SEQ + 1) % 256
  let u := s.now % 2 ^ 64
  let w2 := m.src % 256 + m.kind % 256 * 2 ^ 8 + seq * 2 ^ 16 + s.tb.epoch % 256 * 2 ^ 24
  let s1 := (((s.putPair W_FLT FLT_REC_W0 u).wr W_FLT FLT_REC_W2 w2).wr W_FLT FLT_REC_W3 m.addr).wr W_FLT FLT_STATUS
    (1 + seq * 2 ^ 24)
  let s2 := ((s1.count W_FLT FLT_LATCHCNT 1).wr W_FLT FLT_DISCCNT 0).setFlt
    { s1.flt with
      st := .latched
      pulse := some (s.after (s.fltPulseUs * usU))
      esc := if s.flag W_FLT FLT_ESCCTL_ESCEN then some (s.after (s.fltEscUs * usU)) else none
      injected := m.injected }
  let s3 := if s.flag W_SNAP SNAP_CTL_FAULT then s2.setTev { s2.tev with triggers := s2.tev.triggers ++ [(s.tb.c, 4)] }
    else s2
  let s4 := ((s3.sts W_FLT FLT_STS 1).raise 0 8).engPend 0 2 0
  if s.flag W_FLT FLT_CTL_RECQEN then s4.qPutBlock (s.get W_FLT FLT_CTL_RECQ) (BitVec.ofNat 256 s4.recordNat) else s4

/-- R384: a message that reaches the arbiter during handling is discarded and counted, saturating. -/
def State.fltDiscard (s : State) : State :=
  s.wr W_FLT FLT_DISCCNT (min (2 ^ 32 - 1) (s.rn W_FLT FLT_DISCCNT + 1))

/-- R382: an acknowledgement: in time and matching it stops the timer and leads to ACKED; else ACKBAD. -/
def State.fltAck (s : State) (seq : Nat) : State :=
  let inTime : Bool := match s.flt.esc with
    | none => true
    | some d => !s.due d
  if s.flt.st = .latched ∧ inTime ∧ seq = s.get W_FLT FLT_STATUS_SEQ then
    s.setFlt { s.flt with st := .acked, esc := none }
  else if s.flt.st = .acked ∧ seq = s.get W_FLT FLT_STATUS_SEQ then s
  else (s.sts W_FLT FLT_STS 16).raise 0 12

/-- R387: a sequence-matched clear is refused while the cause is present. -/
def State.fltClrRef (s : State) : State := (s.sts W_FLT FLT_STS 8).raise 0 11

/-- R388: the collector returns to IDLE; a pulse in progress runs on. -/
def State.fltToIdle (s : State) : State :=
  (((s.setFlt { s.flt with st := .idle, esc := none }).wr W_FLT FLT_STATUS (s.get W_FLT FLT_STATUS_SEQ * 2 ^ 24)).sts
    W_FLT FLT_STS 4).raise 0 10

/-- R389: the fault FAULT_IN. -/
def State.faultInMsg (s : State) : State := s.fault W_FLT K_FAULT_IN 0

/-- R393: a soft reset returns the collector to IDLE and stops timer and pulse; the record and counts stay. -/
def State.fltSoftReset (s : State) : State :=
  (s.setFlt { s.flt with st := .idle, esc := none, pulse := none }).wr W_FLT FLT_STATUS
    (s.get W_FLT FLT_STATUS_SEQ * 2 ^ 24)

end Sys2Proof.Machine
end

