-- ==== Sys2Proof/Machine/AccRecord.lean ====
section
/-!
DEFINITION. Two records that many blocks write: HIF's of refused accesses (R355) and HLTH's lifetime counts (R413).
-/

namespace Sys2Proof.Machine

/-- The bit of HIF_ACCSTAT, and of group G0, of an outcome (R354); none for OK. -/
def accBit : AccOut → Option Nat
  | .wign => some 0 | .locked => some 1 | .width => some 2 | .align => some 3 | .reach => some 4 | .timeout => some 5
  | .ok => none

/-- HIF_ACCREQ's code of a requester and its MEMBER field. -/
def reqCode : Req → Nat
  | .pcie => 0 | .spi => 1 | .i2c => 2
  | .tunnel m => 3 + m % 8 * 2 ^ 5
  | .eng k => 16 + k
  | .atEntry k => 16 + k
  | .script => 0

/-- R355: an outcome other than OK recorded: its bit with SEQ, the window, address and requester, the count, and the event
or, for TIMEOUT, the fault (R25). The script's outcomes are not recorded (R455); a timeout's fault is still raised. -/
def State.accRecord (s : State) (r : Req) (write : Bool) (a : Nat) (o : AccOut) : State :=
  match accBit o with
  | none => s
  | some b =>
    let s1 := if r = Req.script then s
      else
        let s2 := ((s.sts W_HIF HIF_ACCSTAT (2 ^ b)).put W_HIF HIF_ACCSTAT_WINDOW (bitsOf a 14 8)).wr W_HIF HIF_ACCADDR
          (a % 2 ^ 25)
        let s3 := (s2.wr W_HIF HIF_ACCREQ (reqCode r + b2n write * 2 ^ 8)).count W_HIF HIF_ACCCNT 1
        if b < 5 then s3.raise 0 b else s3
    if b = 5 then s1.fault (bitsOf a 14 8) K_ACC_TIMEOUT (a % 2 ^ 25) else s1

/-! ### Lifetime counts (R413) -/

/-- Record `i` advanced by `n`, saturating. -/
def State.lifeAdd (s : State) (i n : Nat) : State :=
  s.setHlth { s.hlth with life := lupd 0 s.hlth.life i (fun v => min (2 ^ 32 - 1) (v + n)) }

/-- The same while LIFEEN is set (R418; log entry 54). -/
def State.lifeCount (s : State) (i n : Nat) : State := if s.flag W_HLTH HLTH_CTL_LIFEEN then s.lifeAdd i n else s

/-- The bin of a bivouac episode of `m` minutes (R413, records 56 to 63). -/
def episodeBin (m : Nat) : Nat :=
  if m < 1 then 0 else if m < 10 then 1 else if m < 60 then 2 else if m < 240 then 3 else if m < 480 then 4
  else if m < 1440 then 5 else if m < 10080 then 6 else 7

/-- R413: loop `n` enters (`inn`) or leaves BIVOUAC at C: its episode is counted, its time kept for the next hour. -/
def State.bivTrack (s : State) (n : Nat) (inn : Bool) : State :=
  match inn, lget none s.hlth.biv n with
  | true, none => s.setHlth { s.hlth with biv := lput none s.hlth.biv n (some s.tb.c) }
  | false, some c0 =>
    let hour := s.hlth.hourIdx * 3600 * 1000000000 * 65536
    let s1 := s.setHlth { s.hlth with
      biv := lput none s.hlth.biv n none, bivAcc := lupd 0 s.hlth.bivAcc n (fun v => v + (s.tb.c - max c0 hour)) }
    s1.lifeCount (56 + episodeBin ((s.tb.c - c0) / (60 * 1000000000 * 65536))) 1
  | _, _ => s

end Sys2Proof.Machine
end

