-- ==== Sys2Proof/Machine/Fixed.lean ====
section
/-!
DEFINITION. The real functions that rules R83, R102, R103 and R111 name, in fixed point: what a rule defines by a formula is
the formula's value, computed with guard bits; only the rounding of the last bit is left open (log entry 6).
-/

namespace Sys2Proof.Machine

/-- π in units of 2^-64. -/
def piQ : Nat := 57952155664616982739

/-- R83: the natural frequency of bandwidth `b` µHz and damping `zeta`/256, in 2^-32 rad/s:
2πb / sqrt(1 + 2ζ² + sqrt((1 + 2ζ²)² + 1)). -/
def loopWn (b zeta : Nat) : Nat :=
  let a := 2 ^ 64 + 2 * zeta * zeta * 2 ^ 48
  let d := Nat.sqrt ((a + Nat.sqrt (a * a + 2 ^ 128)) * 2 ^ 64)
  (quotFree (2 * piQ * b * 2 ^ 32 : Nat) (10 ^ 6 * d : Nat)).toNat

/-- exp(-num/den) in units of 2^-96: the series at num / (2^20 den), then squared twenty times. -/
def expNeg (num den : Nat) : Nat :=
  let y := num * 2 ^ 96 / (max 1 den * 2 ^ 20)
  let e := 2 ^ 96 - y + y * y / 2 ^ 97 - y * y * y / (6 * 2 ^ 192)
  (List.range 20).foldl (fun v _ => v * v / 2 ^ 96) e

/-- `x` (1 - exp(-num/den)): a first-order average's step towards `x`. -/
def lagPart (x : Int) (num den : Nat) : Int := quotFree (x * (2 ^ 96 - (expNeg num den : Nat))) (2 ^ 96)

/-- ln 2 in units of 2^-96. -/
def ln2Q : Int := 54916777467707473351141471128

/-- ln(a/b) in units of 2^-96, both positive: a power of two taken out, then the series of the inverse hyperbolic tangent. -/
def lnRatio (a b : Nat) : Int :=
  let k : Int := (Nat.log2 a : Int) - Nat.log2 b
  let m : Int := (if 0 ≤ k then a else a * 2 ^ k.natAbs : Nat)
  let n : Int := (if 0 ≤ k then b * 2 ^ k.natAbs else b : Nat)
  let z := (m - n) * 2 ^ 96 / (m + n)
  let sum := (List.range 32).foldl
    (fun (p : Int × Int) (j : Nat) => (p.1 + p.2 / (2 * (j : Int) + 1), p.2 * z / 2 ^ 96 * z / 2 ^ 96)) (0, z)
  k * ln2Q + 2 * sum.1

end Sys2Proof.Machine
end

