-- ==== Sys2Proof/Machine/Osc.lean ====
section
/-!
DEFINITION. The oscillator model (chapter 5): temperature, evaluation, learning samples, the means of ŷ for the drift
guard, and the time-error estimates. The stock programs that learn and steer from it are in Machine/SupProgram.lean.
-/

namespace Sys2Proof.Machine

/-- The word last delivered by loop `d` (DCO), signed, in 2^-48 (R100). -/
def State.dco (s : State) (d : Nat) : Int := toSigned 48 (s.pair (W_DPLL + d) DPLL_DCO_LO)

/-- R64: the feedback phase of loop `d` now, in 2^-48 TB units: a positive word brings the edges ever earlier (R8). It
is the phase that the words delivered so far have accumulated (log entry 21). -/
def State.feedback (s : State) (d : Nat) : Int :=
  (s.dpll d).fb - s.dco d * signedDiff 96 s.tb.c (s.dpll d).fbAt

/-- R64: the same at count `c` of the present period. -/
def State.feedbackAt (s : State) (c d : Nat) : Int :=
  (s.dpll d).fb - s.dco d * signedDiff 96 c (s.dpll d).fbAt

/-! ### The model -/

/-- TSEL as it acts: 3 acts as NONE (2). -/
def State.tsel (s : State) : Nat := min 2 (s.get W_OSC OSC_CFG_TSEL)

/-- θ in 2^-16 °C. -/
def State.theta (s : State) : Int := s.ri W_OSC OSC_THETA

/-- Whether the temperature terms act (R102). -/
def State.tempOn (s : State) : Bool := s.tsel != 2 && s.osc.hasTheta

/-- The temperature terms of a set at temperature `th`, in 2^-88. -/
def OscSet.temp (x : OscSet) (th : Int) : Int := x.k1 * (th - x.t0) * 2 ^ 20 + x.k2 * (th - x.t0) * (th - x.t0)

/-- R101: ŷ at 2^-64 at count `c`, `c` in TB units. -/
def State.yInt (s : State) (c : Nat) : Int :=
  let x := s.osc.inForce
  x.y0 * 2 ^ 16 + quotFree (x.age * ((c : Int) - x.tref * secU)) secU +
    (if s.tempOn then quotFree (x.temp s.theta) (2 ^ 24) else 0)

/-- R101: the delivered value: the nearest unit of 2^-48, a half towards +∞. -/
def yWord (y : Int) : Int := satSigned 48 ((y + 2 ^ 15) / 2 ^ 16)

/-- R117: whether the model counts as learned. -/
def State.learned (s : State) : Bool :=
  s.flag W_OSC OSC_CTL_EVAL && decide (1 ≤ s.osc.inForce.lstate) && !s.mon.xoLost

/-- R116: a write of OSC_GEN copies the shadows into the pending set. -/
def State.oscShadows (s : State) : OscSet :=
  { y0 := toSigned 48 (s.pair W_OSC OSC_Y0_LO), age := s.ri W_OSC OSC_AGE, k1 := s.ri W_OSC OSC_K1,
    k2 := s.ri W_OSC OSC_K2, t0 := s.ri W_OSC OSC_T0, tref := s.rn W_OSC OSC_TREF, sigf := s.rn W_OSC OSC_SIGF,
    siga := s.rn W_OSC OSC_SIGA, unc := [s.rn W_OSC OSC_UNC0, s.rn W_OSC OSC_UNC1, s.rn W_OSC OSC_UNC2],
    lstate := s.get W_OSC OSC_LSTAT_LSTATE, gen := s.get W_OSC OSC_GEN_V }

/-- R116: OSC_GEN has been written: the set replaces one pending since the last evaluation instant, but not one that an
evaluation still to come takes. -/
def State.oscGen (s : State) : State :=
  s.setOsc { s.osc with
    pend := (s.tb.c, s.oscShadows) :: s.osc.pend.filter (fun p => decide (p.1 / msU < s.tb.c / msU)) }

/-- R116, R121: at evaluation instant `i` the newest set granted before its edge comes into force: OSC_MODEL, and OSC_LSTATE
when LSTATE changes. -/
def State.oscTakeSet (s : State) (i : Nat) : State :=
  match s.osc.pend.find? (fun p => decide (p.1 < i * msU)) with
  | none => s
  | some (_, x) =>
    let old := s.osc.inForce.lstate
    let s1 := (((s.setOsc { s.osc with
      inForce := x, pend := s.osc.pend.filter (fun p => decide (i * msU ≤ p.1)) }).put W_OSC OSC_STATE_LSTATE x.lstate).put W_OSC
      OSC_STATE_GENIN x.gen).sts W_OSC OSC_STS 1 |>.raise 12 24
    if x.lstate ≠ old then (s1.sts W_OSC OSC_STS 8).raise 12 27 else s1

/-- R118: one millisecond of the change of the temperature terms since entry, for every loop that has one. -/
def State.estMs (s : State) : State :=
  let x := s.osc.inForce
  s.setOsc { s.osc with
    est := s.osc.est.map (fun e => match e.entry with
      | none => e
      | some (_, th0) =>
        { e with integral := e.integral + (if s.tempOn then x.temp s.theta - x.temp th0 else 0) }) }

/-- R101: the evaluation at millisecond `i` of C. -/
def State.oscEvaluate (s : State) (i : Nat) : State :=
  let s1 := ((s.setOsc { s.osc with evalIdx := i }).oscTakeSet i).estMs
  if s1.flag W_OSC OSC_CTL_EVAL then
    let y := s1.yInt (i * msU)
    (s1.putPair W_OSC OSC_PRED_LO (ofSigned 48 (yWord y))).setOsc
      { s1.osc with ywins := s1.osc.ywins.map (fun w => { w with acc := w.acc.add y }) }
  else s1.putPair W_OSC OSC_PRED_LO 0

/-- R117: at a bin close of window `w` the bin's value is fixed and ŷ_W delivered. -/
def YWin.close (w : YWin) : YWin :=
  let bins := (w.acc :: w.bins).take 100
  let vals := bins.filterMap (fun b => if b.count = 0 then none else some (quotFree b.sum b.count))
  { acc := ⟨0, 0⟩, bins := bins,
    mean := if vals.isEmpty then none else some (quotFree (vals.foldl (· + ·) 0) vals.length) }

def State.yBinClose (s : State) (w : Nat) : State :=
  s.setOsc { s.osc with ywins := s.osc.ywins.modify w YWin.close }

/-! ### Learning samples (R109, R110) -/

/-- The learning loops; none for 4 to 7. -/
def State.ldplla (s : State) : Nat := s.get W_OSC OSC_CFG_LDPLLA
def State.ldpllb (s : State) : Nat := s.get W_OSC OSC_CFG_LDPLLB

/-- R109: whether loop `d` qualifies as the learning loop at this moment. -/
def State.learns (s : State) (d : Nat) : Bool :=
  d ≤ 3 && s.get (W_DPLL + d) DPLL_STATE_LOOPST == 1 && s.flag (W_DPLL + d) DPLL_STATE_PLOCK &&
    s.get (W_DPLL + d) DPLL_SEL_STATE_ST == 3 && s.pair (W_DPLL + d) DPLL_PSREM_LO == 0 &&
    !(s.flag W_OSC OSC_STATE_TSBAD) && !s.mon.xoLost

/-- R109: a loop that stops qualifying does not qualify for the interval in progress. -/
def State.learnCheck (s : State) : State :=
  s.setOsc { s.osc with okA := s.osc.okA && s.learns s.ldplla, okB := s.osc.okB && s.learns s.ldpllb }

/-- A new learning interval begins. -/
def State.learnOpen (s : State) (whole : Bool) : State :=
  s.setOsc { s.osc with
    fbA := s.feedback s.ldplla, fbB := s.feedback s.ldpllb, okA := whole && s.learns s.ldplla,
    okB := whole && s.learns s.ldpllb, start := s.tb.c, thSum := 0, thN := 0 }

/-- LINT in TB units. -/
def State.lint (s : State) : Nat := max 1 (s.get W_OSC OSC_CFG_LINT) * secU

/-- LSAMP has been set: the interval in progress is not whole (log entry 31). -/
def State.learnStart (s : State) : State :=
  (s.setOsc { s.osc with learnIdx := s.tb.c / s.lint }).learnOpen false

/-- R109, R110: the learning sample of the interval that ends now. -/
def State.learnSample (s : State) : State :=
  let x := s.osc
  let d := if x.okA then s.ldplla else s.ldpllb
  let valid := x.okA || x.okB
  let dt := signedDiff 96 s.tb.c x.start
  let fb0 := if x.okA then x.fbA else x.fbB
  let (fr, s0) := if d ≤ 3 then (0, s) else s.takeFree
  let y := if d ≤ 3 then (if dt ≤ 0 then 0 else quotFree (s.feedback d - fb0) dt) else toSigned 48 fr
  let th := if x.thN = 0 then s.theta else quotFree x.thSum x.thN
  let info := s0.rn W_OSC OSC_LS_INFO
  let i1 := putBits (putBits (putBits info 0 16 (info + 1)) 16 3 d) 19 1 (b2n valid)
  let i2 := if x.unread then putBits i1 24 8 (info / 2 ^ 24 + 1) else i1
  let s1 := ((s0.putPair W_OSC OSC_LS_Y_LO (ofSigned 48 y)).wr W_OSC OSC_LS_THETA (ofSigned 32 th)).wr W_OSC OSC_LS_INFO i2
  let s2 := if x.unread then s1.sts W_OSC OSC_STS 16 else s1
  ((s2.setOsc { s2.osc with unread := true }).learnOpen true).engPend 0 1 0

/-- R110: a read of OSC_LS_INFO marks the sample read. -/
def State.lsRead (s : State) : State := s.setOsc { s.osc with unread := false }

/-! ### Temperature (R102, R103) -/

/-- θ takes the raw temperature. -/
def State.thetaTake (s : State) (raw : Int) : State :=
  let th := if s.osc.hasTheta then
      (if s.get W_OSC OSC_TLAG_V = 0 then raw else s.theta + lagPart (raw - s.theta) 1 (100 * s.get W_OSC OSC_TLAG_V))
    else raw
  (s.wr W_OSC OSC_THETA (ofSigned 32 th)).setOsc { s.osc with hasTheta := true }

/-- R103: the valid window 0.010 V to 1.150 V on the 16-bit conversion of 0 to 1.25 V. -/
def tsValid (code : Nat) : Bool := decide (10 * 65536 ≤ code * 1250 ∧ code * 1250 ≤ 1150 * 65536)

/-- RNOM and BETA as they act (R124). -/
def State.rnom (s : State) : Nat := max 100 (s.get W_OSC OSC_TS_RNOM_V)
def State.beta (s : State) : Nat := min 10000 (max 1000 (s.get W_OSC OSC_TS_BETA_V))

/-- The excitation current in µA, 0 while it is off (R103, R124). -/
def State.iexc (s : State) : Nat :=
  let i := s.get W_OSC OSC_CFG_IEXC
  if i = 0 then 2 else if i = 1 then 10 else if i = 2 then 100 else 0

/-- R103: the temperature in 2^-16 °C of conversion code `code`: r = V / I, and 1/tk = 1/298.15 + ln(r/rnom)/beta, within the
arithmetic error of 0.01 K; a reading outside the valid window is given no temperature (log entry 27). -/
def State.tsTemp (s : State) (code : Nat) : Int :=
  let i := s.get W_OSC OSC_CFG_IEXC
  if ¬ tsValid code ∨ s.iexc = 0 then Config.thermistor code i s.rnom s.beta
  else
    let l := lnRatio (code * 1250000) (65536 * s.iexc * s.rnom)
    let den : Int := 2000 * (s.beta * 2 ^ 96) + 596300 * l
    let tk := quotFree (596300 * s.beta * 2 ^ 96 * 65536) den
    tk - quotFree (27315 * 65536) 100 + clampInt (-655) 655 (Config.thermErr code i s.rnom s.beta)

/-- R103: a thermistor reading with conversion code `code`. -/
def State.tsReading (s : State) (code : Nat) : State :=
  let raw := s.tsTemp code
  let s1 := s.wr W_OSC OSC_TRAW (ofSigned 32 raw)
  if ¬ tsValid code then
    let s2 := s1.setOsc { s1.osc with goodRun := 0 }
    if s.flag W_OSC OSC_STATE_TSBAD then s2
    else (((s2.put W_OSC OSC_STATE_TSBAD 1).sts W_OSC OSC_STS 4).raise 12 26).learnCheck
  else if s.flag W_OSC OSC_STATE_TSBAD then
    let g := s.osc.goodRun + 1
    let s2 := s1.setOsc { s1.osc with goodRun := g }
    if 10 ≤ g then (s2.put W_OSC OSC_STATE_TSBAD 0).thetaTake raw
    else if s.osc.hasTheta then s2 else s2.thetaTake raw
  else s1.thetaTake raw

/-- R102: the reading of the input that TSEL selects. -/
def State.tempSample (s : State) (code : Nat) : State :=
  let s1 := if s.tsel = 0 then s.tsReading code
    else if s.tsel = 1 then (s.wr W_OSC OSC_TRAW (s.rn W_HLTH HLTH_TDIE)).thetaTake (s.ri W_HLTH HLTH_TDIE)
    else s
  if s1.tempOn then s1.setOsc { s1.osc with thSum := s1.osc.thSum + s1.theta, thN := s1.osc.thN + 1 } else s1

/-- R102: a change of TSEL: the next valid reading is taken as θ itself. -/
def State.oscTsel (s : State) : State := s.setOsc { s.osc with hasTheta := false }

/-! ### The time-error estimate (R118, R119) -/

/-- `x0 + 3 sqrt((sigf h)^2 + (0.5 siga h^2)^2) + m` in ns, of x0 in 2^-32 ns, h in TB units and m in 2^-88 ms. -/
def teEst (sigf siga x0 h m : Nat) : Nat :=
  let a := sigf * h * 10 ^ 9 * 2 ^ 9 * secU
  let b := siga * h * h * 10 ^ 9
  let d := 2 ^ 65 * secU * secU
  let r := Nat.sqrt (9 * (a * a + b * b) * 2 ^ 64) / d
  let v : Nat := x0 + r + m * 10 ^ 6 / 2 ^ 56
  min 0xffff_fffe (quotFree v (2 ^ 32)).toNat

/-- R118: whether loop `n` has an estimate. -/
def State.teValid (s : State) (n : Nat) : Bool :=
  let st := s.get (W_DPLL + n) DPLL_STATE_LOOPST
  s.learned && decide (3 ≤ st ∧ st ≤ 5) && s.get W_OSC (OSC_BV0_BVQ.up (4 * n)) != 5 &&
    (lget ⟨false, 0, none, 0⟩ s.osc.est n).entry.isSome

/-- What OSC_TEESTn takes. -/
def State.teEstReg (s : State) (n : Nat) : Nat :=
  let e := lget ⟨false, 0, none, 0⟩ s.osc.est n
  let st := s.get (W_DPLL + n) DPLL_STATE_LOOPST
  match e.entry with
  | none => 2 ^ 32 - 1
  | some (c0, _) =>
    if ¬ s.teValid n then 2 ^ 32 - 1
    else teEst s.osc.inForce.sigf s.osc.inForce.siga e.x0 (signedDiff 96 s.tb.c c0).toNat
      (if st = 3 then 0 else e.integral.natAbs)

/-- R118: what the estimate takes from an update of loop `n` in state `st`. -/
def State.estUpdate (s : State) (n st : Nat) : State :=
  let err := toSigned 64 (s.pair (W_DPLL + n) DPLL_ERR_LO)
  let bad := s.pair (W_DPLL + n) DPLL_ERR_LO == 2 ^ 63
  s.setOsc { s.osc with
    est := s.osc.est.modify n (fun e =>
      if st = 1 then { tracked := true, x0 := if bad then e.x0 else err.natAbs, entry := none, integral := 0 }
      else if 3 ≤ st ∧ st ≤ 5 then
        (if e.tracked ∧ e.entry.isNone then { e with entry := some (s.tb.c, s.theta), integral := 0 } else e)
      else { e with entry := none, integral := 0 }) }

/-- R118: an enable of loop `n`: no TRACK update yet. -/
def State.estClear (s : State) (n : Nat) : State :=
  s.setOsc { s.osc with est := lput ⟨false, 0, none, 0⟩ s.osc.est n ⟨false, 0, none, 0⟩ }

/-- What OSC_STATE reads as: LEARNED and XOLOST are live. -/
def State.oscStateReg (s : State) : Nat :=
  putBits (putBits (s.rn W_OSC OSC_STATE) 2 1 (b2n s.learned)) 4 1 (b2n s.mon.xoLost)

/-- What OSC_PRED reads as: 0 while EVAL = 0 (R124). -/
def State.predNow (s : State) : Nat := if s.flag W_OSC OSC_CTL_EVAL then s.pair W_OSC OSC_PRED_LO else 0

/-! ### The commands -/

/-- OSC_EVALUATION (R101). -/
def execOscEvaluation (s : State) : Host.Outcome State Fault Refusal :=
  .next (if s.gridDue msU s.osc.evalIdx then s.oscEvaluate (s.tb.c / msU) else s)

/-- THERMISTOR_SAMPLE (R102): `code` is the conversion of the TSENSE voltage. -/
def execThermistorSample (code : BitVec 16) (s : State) : Host.Outcome State Fault Refusal :=
  .next (if s.gridDue (10 * msU) s.osc.tempIdx then
      (s.setOsc { s.osc with tempIdx := s.tb.c / (10 * msU) }).tempSample code.toNat
    else s)

/-- LEARNING_SAMPLE (R109): while LSAMP = 1. -/
def execLearningSample (s : State) : Host.Outcome State Fault Refusal :=
  .next (if s.flag W_OSC OSC_CTL_LSAMP ∧ s.gridDue s.lint s.osc.learnIdx then
      (s.setOsc { s.osc with learnIdx := s.tb.c / s.lint }).learnSample
    else s)

/-- TEEST_UPDATE (R118, R119). -/
def execTeestUpdate (s : State) : Host.Outcome State Fault Refusal :=
  .next (if s.gridDue secU s.osc.estIdx then
      let s1 := s.setOsc { s.osc with estIdx := s.tb.c / secU }
      let s2 := (List.range 4).foldl (fun t n => t.wr W_OSC (OSC_TEEST0 + 4 * n) (t.teEstReg n)) s1
      s2.wr W_OSC OSC_PROJ (if s2.learned then
          teEst s2.osc.inForce.sigf s2.osc.inForce.siga 0 (max 1 (s2.get W_OSC OSC_PROJH_V) * 3600 * secU) 0
        else 2 ^ 32 - 1)
    else s)

end Sys2Proof.Machine
end

