-- ==== Sys2Proof/Machine/Trims.lean ====
section
/-!
DEFINITION. The knots of chapter 17, of the temperature sets and of the values in force (R402), and what a TDC's knots make
of a raw code (R34, R397).
-/

namespace Sys2Proof.Machine

/-- KIND as it acts: 3 acts as 0 (R417). -/
def calKind (k : Nat) : Nat := if k = 3 then 0 else k

/-- The key of entry `e` of instance `i` at point `p`: TDC knots first, then FRET knots. -/
def trimKey (p kind i e : Nat) : Nat := 2048 * p + (if kind = 1 then 1254 + 17 * i + e else 33 * i + e)

/-- The tap of FRET knot `e`: 0, 48, …, 720, 767 (R398). -/
def knotTap (e : Nat) : Nat := min 767 (48 * e)

/-- The default of a knot: 125 j for TDC knot j, 4 t for the FRET knot of tap t (R416). -/
def trimDefault (k : Nat) : Nat :=
  let r := k % 2048
  if r < 1254 then 125 * (r % 33) else 4 * knotTap ((r - 1254) % 17)

/-- Entries of a kind: 33 TDC knots, 17 FRET knots, 2 ECHO entries (R404). -/
def calEntries (kind : Nat) : Nat := if kind = 0 then 33 else if kind = 1 then 17 else 2

/-- Instances of a kind: 38 TDCs, 40 channels (R395). -/
def calInstances (kind : Nat) : Nat := if kind = 0 then 38 else 40

/-- A knot at point `p`; point 8 holds the values in force. -/
def State.knot (s : State) (p kind i e : Nat) : Nat := sparseGet trimDefault s.cal.trims (trimKey p kind i e)

/-- A knot set. -/
def State.setKnot (s : State) (p kind i e v : Nat) : State :=
  s.setCal { s.cal with trims := sparsePut trimDefault s.cal.trims (trimKey p kind i e) (v % 2 ^ 16) }

/-- All knots of an instance set, from entry `e` on. -/
def State.setKnots (s : State) (p kind i : Nat) : Nat → List Nat → State
  | _, [] => s
  | e, v :: vs => (s.setKnot p kind i e v).setKnots p kind i (e + 1) vs

/-- R34, R397: the time within its TB-clock period that TDC instance `i` gives raw code `code`, in TB units: the correction
table in force interpolates between its knots and delivers a whole number of 0.25 ps (16.384 TB units). -/
def State.tdcFrac (s : State) (i code : Nat) : Nat :=
  let a : Int := (s.knot 8 0 i (code / 64) : Nat)
  let b : Int := (s.knot 8 0 i (code / 64 + 1) : Nat)
  (quotFree (quotFree (a * 64 + (b - a) * (code % 64 : Nat)) 64 * 16384) 1000).toNat

/-- R34, R206: an edge in the present TB-clock period, at raw code `code` of TDC instance `i`: its time on C, and in timebase
time. -/
def State.tdcCount (s : State) (i code : Nat) : Nat := (s.tb.c + s.tdcFrac i code) % 2 ^ 96
def State.tdcStamp (s : State) (i code : Nat) : Nat := s.now + s.tdcFrac i code

end Sys2Proof.Machine
end

