-- ==== Sys2Proof/Machine/Source.lean ====
section
/-!
DEFINITION. The reference sources (chapter 2): activity, phase samples, windows, wander statistics, the qualification
state and what moves it. The checks and verdicts of the stock monitor program are in Machine/Monitor.lean.
-/

namespace Sys2Proof.Machine

/-- The window of source `n` (R376). -/
def wSrc (n : Nat) : Nat := W_SRC + n

/-- The event at offset `e` of source `n` (R51): 0 SRC_LOS, 1 SRC_QUAL, 2 SRC_DISQ, 3 SRC_DRIFT, 4 SRC_JUMP. -/
def State.srcEvent (s : State) (n e : Nat) : State := s.raise (1 + n / 6) (5 * (n % 6) + e)

/-- QSTATE (R46): 0 OFF, 1 LOST, 2 UNQUAL, 3 PEND, 4 QUAL, 5 HELD. -/
def State.qstate (s : State) (n : Nat) : Nat := s.get (wSrc n) SRC_STATE_QSTATE

/-- The MON engine of source `n` (R46): ENG5 to ENG8. -/
def monOf (n : Nat) : Nat := if n ≤ 4 then 5 else if n ≤ 10 then 6 else if n ≤ 15 then 7 else 8

/-- FORCE as it acts: 3 acts as AUTO (R50). -/
def State.srcForce (s : State) (n : Nat) : Nat :=
  let f := s.get (wSrc n) SRC_EN_FORCE
  if f = 3 then 0 else f

/-- KIND as it acts: 3 acts as EXCL. -/
def kindOf (v : Nat) : Nat := if v = 3 then 2 else v

/-- The QUAL sources of a kind in force. -/
def State.qualCount (s : State) (kind : Nat) : Nat :=
  ((List.range 21).filter (fun n => s.qstate n == 4 && (s.src n).kind == kind)).length

/-- R42: CONS_LOW_FREQ or CONS_LOW_TIME when the QUAL sources of a kind fall from three or more to two or fewer. -/
def State.consLow (s : State) (kind before : Nat) : State :=
  if 3 ≤ before ∧ s.qualCount kind ≤ 2 then
    (if kind = 0 then s.raise 4 20 else if kind = 1 then s.raise 4 21 else s)
  else s

/-- R46: the source enters state `q`; its MON engine's event SRCST is pending (R301). A jump pass lapses when the source
leaves QUAL (R71). -/
def State.setQ (s : State) (n q : Nat) : State :=
  if s.qstate n = q then s
  else
    let k := (s.src n).kind
    let before := s.qualCount k
    let s1 := if s.qstate n = 4 then s.modSrc n (fun x => { x with pass := List.replicate 4 false }) else s
    ((s1.put (wSrc n) SRC_STATE_QSTATE q).engPend (monOf n) 3 (BitVec.ofNat 64 n)).consLow k before

/-- SRC_DISQ with its cause (R46). -/
def State.srcDisq (s : State) (n cause : Nat) : State := (s.stsField (wSrc n) SRC_STS_CAUSE 4 cause).srcEvent n 2

/-- R50: what would have moved the source but for FORCE is recorded in SRCn_STS: the bits `m` and the cause, with no event
(log entry 86). -/
def State.srcRecord (s : State) (n m cause : Nat) : State :=
  if s.get (wSrc n) SRC_STS_CAUSE = cause ∧ s.rn (wSrc n) SRC_STS &&& m = m then s
  else s.stsField (wSrc n) SRC_STS_CAUSE m cause

/-- The PEND timer and the hold are cleared. -/
def State.srcClearWait (s : State) (n : Nat) : State :=
  (s.modSrc n (fun x => { x with timer := none, expired := false })).put (wSrc n) SRC_STATE_HOLDCAUSE 0

/-- R46: entry to QUAL: SRC_QUAL, FIRST = 0. -/
def State.toQual (s : State) (n : Nat) : State :=
  (((s.srcClearWait n).setQ n 4).put (wSrc n) SRC_STATE_FIRST 0).sts (wSrc n) SRC_STS 2 |>.srcEvent n 1

/-- R46: to UNQUAL, with timer and hold cleared. -/
def State.toUnqual (s : State) (n : Nat) : State := (s.srcClearWait n).setQ n 2

/-- R36: how far timebase time lies ahead of a clock that runs at the basis of source `n` (R35): of C, less the XO's phase
on it while the basis is the XO. -/
def State.steerAhead (s : State) (n : Nat) : Int :=
  (s.now : Int) - s.tb.c + (if s.flag (wSrc n) SRC_STATE_FBASIS then 0 else s.mon.xo)

/-- The widths of the three windows' bins, of the MTIE bins and the TDEV strides, in TB units (R38, R44, R45). -/
def binU (w : Nat) : Nat := if w = 0 then msU else if w = 1 then 100 * msU else 10 * secU
def mtieU (i : Nat) : Nat := msU * 10 ^ i
def tdevU (i : Nat) : Nat := 10 * msU * 10 ^ i

/-- R35, R37: every window history and wander statistic of the source is cleared. The histories begin with the bin in
progress, or with the next one (`next`). What the consensus judged on the old histories falls with them (R47). -/
def State.srcClearHist (s : State) (n : Nat) (next : Bool) : State :=
  let w := wSrc n
  let inv := 0x8000_0000
  let s1 := s.modSrc n (fun x =>
    { x with wins := (List.range 3).map (fun i => { WinSt.empty with start := s.tb.c / binU i + b2n next }), xw := 0,
             lastX := none, ys := [], mtie := List.replicate 5 MtieSt.empty, tdev := List.replicate 5 TdevSt.empty,
             pdFrom := 0, consFail := 0, gRef := s.steerAhead n })
  let s2 := (List.range 3).foldl (fun t i => (t.wr w (SRC_FOFF0 + 4 * i) inv).wr w (SRC_COFF0 + 4 * i) inv)
    (s1.wr w SRC_PDRIFT inv)
  (List.range 5).foldl (fun t i => (t.wr w (SRC_MTIE0 + 4 * i) (2 ^ 32 - 1)).wr w (SRC_TDEV0 + 4 * i) (2 ^ 32 - 1)) s2

/-- ACT_LIM as it acts. -/
def State.actLim (s : State) (n : Nat) : Nat := max 1 (s.get (wSrc n) SRC_ACT_ACT_LIM)

/-- R46: loss of activity. -/
def State.toLost (s : State) (n : Nat) : State :=
  let q := s.qstate n
  if q < 2 then s
  else
    let s1 := (((s.srcClearWait n).setQ n 1).srcClearHist n false).sts (wSrc n) SRC_STS 1 |>.srcEvent n 0
    if q = 4 then s1.srcDisq n 0 else s1

/-- R46, R50: activity has returned to a LOST source: UNQUAL, or QUAL under FORCE = QUAL. The next sample's index is formed
anew (R36). -/
def State.srcReturn (s : State) (n : Nat) : State :=
  let s1 := (s.srcClearHist n false).modSrc n (fun x => { x with index := none })
  if s.srcForce n = 2 then s1.toQual n else s1.toUnqual n

/-- R37: a bad interval adds ACT_INC; reaching ACT_LIM loses the source. -/
def State.actBad (s : State) (n : Nat) : State :=
  let lim := s.actLim n
  let b := min lim ((s.src n).bucket + s.get (wSrc n) SRC_ACT_ACT_INC)
  let s1 := s.modSrc n (fun x => { x with bucket := b })
  if b = lim then s1.toLost n else s1

/-- R37: a good interval subtracts 1; a LOST source whose bucket reaches 0 returns. -/
def State.actGood (s : State) (n : Nat) : State :=
  let b := (s.src n).bucket - 1
  let s1 := s.modSrc n (fun x => { x with bucket := b })
  if s.qstate n = 1 ∧ b = 0 then s1.srcReturn n else s1

/-- PER in units of 2^-32 ns. -/
def State.srcPer (s : State) (n : Nat) : Nat := s.pair (wSrc n) SRC_PER_LO

/-- R38: window `w` is active for a source of period `per` only if W ≥ 10 × P. -/
def winActive (per w : Nat) : Bool := per != 0 && decide (10 * per ≤ 100 * binU w * 2 ^ 16)

/-- R38: when P > W/100 the window uses single samples. -/
def winSingle (per w : Nat) : Bool := decide (binU w * 2 ^ 16 < per)

/-- The single samples kept: back to the newest one that lies at least W before the newest (R38). -/
def keepSingles (span newest : Nat) : List (Nat × Int) → List (Nat × Int)
  | [] => []
  | p :: ps => if signedDiff 96 newest p.1 ≥ span then [p] else p :: keepSingles span newest ps

/-- A sample put into bin `k` of a list of numbered bins, newest first; bins more than `keep` behind the newest are let
go. -/
def binPut {α : Type} (keep k : Nat) (first : α) (more : α → α) : List (Nat × α) → List (Nat × α)
  | [] => [(k, first)]
  | (j, b) :: rest =>
    if j < k then (k, first) :: ((j, b) :: rest).filter (fun p => decide (k ≤ p.1 + keep))
    else if j = k then (j, more b) :: rest
    else if j ≤ k + keep then (j, b) :: binPut keep k first more rest
    else (j, b) :: rest

/-- Bin `k` of a list of numbered bins, if it holds a sample. -/
def binAt {α : Type} (l : List (Nat × α)) (k : Nat) : Option α := (l.find? (fun p => p.1 == k)).map Prod.snd

/-- A window takes sample `x` measured at count `c` (R38). -/
def WinSt.take (v : WinSt) (per w c : Nat) (x : Int) : WinSt :=
  let k := c / binU w
  if k < v.start then v
  else if winSingle per w then { v with singles := (c, x) :: keepSingles (100 * binU w) c v.singles }
  else { v with bins := binPut 101 k ⟨x, 1⟩ (fun b => b.add x) v.bins }

/-- R44, R45: the statistics at τ_i take sample `x` measured at count `c`. -/
def MtieSt.take (m : MtieSt) (i c : Nat) (xw : Int) : MtieSt :=
  let k := c / mtieU i
  { m with start := m.start.or (some k)
           bins := binPut 100 k (xw, xw) (fun b => (min b.1 xw, max b.2 xw)) m.bins }
def TdevSt.take (m : TdevSt) (i c : Nat) (x : Int) : TdevSt :=
  let k := c / tdevU i
  { m with start := m.start.or (some k), strides := binPut 30 k ⟨x, 1⟩ (fun b => b.add x) m.strides }

/-- The offset of the longest valid window in 2^-12 ppb, if any (R39, R44). -/
def State.yLong (s : State) (n : Nat) : Option Int :=
  let v (i : Nat) : Option Int :=
    let r := s.rn (wSrc n) (SRC_FOFF0 + 4 * i)
    if r = 0x8000_0000 then none else some (toSigned 32 r)
  (v 2).or ((v 1).or (v 0))

/-- The units of the wander phase to a TB unit: an offset of one 2^-12 ppb over one TB unit is one of them, so that x_w of
R44 is exact. -/
def wanderScale : Int := 1000000000 * 4096

/-- R64: the source error of a sample `x` of source `n` against a feedback phase in 2^-48 TB units, in TB units, reduced
modulo the period for SRC0 to SRC17: into -PER/2 inclusive to +PER/2 exclusive, with PER exact in 2^-32 ns. -/
def State.phaseError (s : State) (n : Nat) (x fb : Int) : Int :=
  let e := x - quotFree fb (2 ^ 48)
  let per : Int := s.srcPer n
  if 18 ≤ n ∨ per = 0 then e
  else quotFree ((2 * (e * 2 ^ 16) + per) % (2 * per) - per) (2 ^ 17)

/-- The change that the offsets ŷ in force predict from count `t0` to `t1`, each from its own count on (R44). -/
def yChange : List (Nat × Int) → Nat → Nat → Int
  | [], _, _ => 0
  | (f, y) :: rest, t0, t1 =>
    if signedDiff 96 t1 f ≤ 0 then yChange rest t0 t1
    else if 0 ≤ signedDiff 96 t0 f then y * max 0 (signedDiff 96 t1 t0)
    else y * signedDiff 96 t1 f + yChange rest t0 f

/-- The offsets ŷ that a later sample still needs: those from after count `c`, and the one in force at it. -/
def yKeep (c : Nat) : List (Nat × Int) → List (Nat × Int)
  | [] => []
  | p :: rest => if 0 < signedDiff 96 p.1 c then p :: yKeep c rest else [p]

/-- Whether the source's MON engine computes the wander statistics: it runs the stock image with STATS = 1 (R319). -/
def State.statsOn (s : State) (n : Nat) : Bool :=
  let k := monOf n
  (s.eng k).rom == some 2 && bitOf (lget 0 (s.blk k).bytes 0x10).toNat 0

/-- R36: a new phase sample `x` in TB units, measured at count `c`, for the selectors at count `fc`; `mon` is the monitor's
value of it. PHASE takes `x`; windows and statistics take `mon`. With no valid window ŷ has no value and adds nothing to the
wander phase (log entry 84). -/
def State.srcSample (s : State) (n c fc : Nat) (x mon : Int) : State :=
  let per := s.srcPer n
  let q := s.src n
  let xw := match q.lastX with
    | none => q.xw
    | some x0 => q.xw + (mon - x0) * wanderScale + yChange q.ys q.lastXAt c
  (s.putPair (wSrc n) SRC_PHASE_LO (ofSigned 64 x)).modSrc n (fun v =>
    { v with
      wins := v.wins.mapIdx (fun w z => if winActive per w then z.take per w c mon else z)
      xw := xw, lastX := some mon, lastXAt := c, ys := yKeep c v.ys, samples := v.samples + 1
      newest := (c, x) :: v.newest.take 1
      fbs := (List.range 4).map (s.feedbackAt fc)
      sums := v.sums.mapIdx (fun d b => b.add (s.phaseError n x (s.feedbackAt fc d)))
      mtie := v.mtie.mapIdx (fun i m => if s.statsOn n then m.take i c xw else MtieSt.empty)
      tdev := v.tdev.mapIdx (fun i m => if s.statsOn n then m.take i c mon else TdevSt.empty) })

/-- R37: the interval since the last edge is too short for ACT_TOL, or PER is 0. -/
def State.shortInterval (s : State) (n : Nat) (dt : Int) : Bool :=
  let per := s.srcPer n
  per = 0 || decide (dt * 2 ^ 16 * 256 < (per : Int) * (256 - s.get (wSrc n) SRC_ACT_ACT_TOL))

/-- R37: the next nominal edge time has passed by PER × ACT_TOL/256: the nominal times follow the last edge, and so many of
them were missed already. -/
def State.nominalPassed (s : State) (n : Nat) : Bool :=
  let x := s.src n
  match x.lastEdge with
  | none => false
  | some t0 => decide (((s.srcPer n * ((x.missed + 1) * 256 + s.get (wSrc n) SRC_ACT_ACT_TOL) : Nat) : Int) ≤
      signedDiff 96 s.tb.c t0 * 2 ^ 24)

/-- R37: the activity monitor judges the interval that ends with an edge at count `time`, if there was an edge before it. An
interval in which a nominal edge was missed has been charged for it and counts as neither good nor bad (log entry 87). -/
def State.actEdge (s : State) (n time : Nat) : State :=
  let x := s.src n
  let s1 := s.modSrc n (fun v => { v with missed := 0, lastEdge := some time })
  match x.lastEdge with
  | none => if s.srcPer n = 0 then s1.actBad n else s1
  | some t0 =>
    if s.shortInterval n (signedDiff 96 time t0) then s1.actBad n else if x.missed = 0 then s1.actGood n else s1

/-- R36: the index of an edge at `time` in the basis: the first rounds time / PER, a tie upwards; a later one adds the
rounded ratio of the measured interval `dt`. -/
def edgeIndex (per : Nat) (prev : Option Int) (dt time : Int) : Int :=
  match prev with
  | none => (2 * time * 2 ^ 16 + per) / (2 * per)
  | some i => i + roundFree (dt * 2 ^ 16) per

/-- R35, R266: the time of an edge measured at count `t` in the basis of R35: for SRC20 the upstream member's ring time,
through the latest TIME cell, none before the first; else the count less the XO's phase on it, or the count itself while the
basis is the BAW. -/
def State.edgeTime (s : State) (n t : Nat) : Option Int :=
  if n = 20 then s.gl.time.map (fun g => (g.1 : Int) + g.2.1 + signedDiff 96 t g.2.2)
  else some ((t : Int) - (if s.flag (wSrc n) SRC_STATE_FBASIS then 0 else s.mon.xo))

/-- Whether source `n` sees edges at its pins or port (R31, R32, R55): it is enabled, not virtual, its input buffer is on,
and the port of SRC16 and SRC17 has its recovered clock. -/
def State.srcSees (s : State) (n : Nat) : Bool :=
  s.qstate n != 0 && !(n == 18 || n == 19) && !(decide (n < 16) && decide (4 ≤ s.get (wSrc n) SRC_CFG_FMT)) &&
    !((n == 16 || n == 17) && !s.flag (W_ETH + (n - 16)) ETH_STATE_LINK)

/-- DIV as it acts (R55). -/
def State.srcDiv (s : State) (n : Nat) : Nat := max 1 (s.get (wSrc n) SRC_DIV_DIV)

/-- R36, R37: a divided edge measured at count `t`. -/
def State.srcEdge (s : State) (n t : Nat) : State :=
  let s1 := (s.count (wSrc n) SRC_EDGES 1).actEdge n t
  let per := s.srcPer n
  match s.edgeTime n t with
  | none => s1
  | some b =>
    if per = 0 then s1
    else
      let dt := match (s.src n).lastEdge with | none => 0 | some t0 => signedDiff 96 t t0
      let k := edgeIndex per (s1.src n).index dt b
      let x := quotFree (b * 2 ^ 16 - k * per) (2 ^ 16)
      (s1.modSrc n (fun v => { v with index := some k })).srcSample n t t x x

/-- R245: an edge of the PPS source measured at count `t`, kept with its timebase time; PPSSRC 16 to 31 act as 15. -/
def State.ppsEdge (s : State) (n t : Nat) : State :=
  if n = min 15 (s.get W_UART UART_CFG_PPSSRC) then
    s.setTod { s.tod with
      edges := ((t : Int), ((s.now : Int) + signedDiff 96 t s.tb.c).toNat) ::
        s.tod.edges.filter (fun e => decide ((t : Int) - e.1 < 100 * secU)) }
  else s

/-- R36: the accumulated steering G of a virtual source: how far time has run ahead of its basis since its reference. -/
def State.steerG (s : State) (n : Nat) : Int := s.steerAhead n - (s.src n).gRef

/-- R36: the PTP engine delivers an offset in TB units as a phase sample of its virtual source, tagged with the count `tag`
of the tick of its t2; the selectors compare it where it is delivered (log entry 88). SRCn_EDGES, which no edge of such a
source can count, counts the samples delivered (log entry 89). -/
def State.srcVirtual (s : State) (n tag : Nat) (x : Int) : State :=
  if s.qstate n = 0 then s
  else ((s.count (wSrc n) SRC_EDGES 1).actEdge n s.tb.c).srcSample n tag s.tb.c x (x - s.steerG n)

/-- The oldest bin that a window holds for the bin `k` that closed last (R38). -/
def WinSt.oldest (v : WinSt) (k : Nat) : Nat :=
  ((v.bins.filter (fun p => decide (k ≤ p.1 + 100 ∧ p.1 ≤ k))).getLast?.map Prod.fst).getD k

/-- R38: the offset a window shows, in 2^-12 ppb, once bin `k` has closed; none while invalid. A window of a full history is
taken as invalid too while its newest bin or the one 100 before it holds no sample (log entry 84). -/
def WinSt.offset (v : WinSt) (per w k : Nat) : Option Int :=
  let scale := 1000000000 * 4096
  if winSingle per w then
    match v.singles.head?, v.singles.getLast? with
    | some (c1, x1), some (c0, x0) =>
      let dt := signedDiff 96 c1 c0
      if dt < 10 * binU w then none else some (quotFree (-(x1 - x0) * scale) dt)
    | _, _ => none
  else
    let n := if v.start + 100 ≤ k then 100 else k - v.oldest k
    match binAt v.bins k, binAt v.bins (k - n) with
    | some b1, some b0 =>
      if n < 10 then none
      else some (quotFree (-(b1.sum * b0.count - b0.sum * b1.count) * scale) (b1.count * b0.count * n * binU w))
    | _, _ => none

/-- R39: the phase change over the last W1 once bin `k` has closed, in TB units times the two bins' counts, with that
product; none while the history since count `from_` does not hold W1. -/
def WinSt.change (v : WinSt) (per k from_ : Nat) : Option (Int × Int) :=
  if winSingle per 1 then
    match v.singles.head?, v.singles.getLast? with
    | some (c1, x1), some (c0, x0) =>
      if signedDiff 96 c1 c0 < 100 * binU 1 ∨ c0 < from_ then none else some (x1 - x0, 1)
    | _, _ => none
  else if k < 100 ∨ (k - 100) * binU 1 < from_ then none
  else
    match binAt v.bins k, binAt v.bins (k - 100) with
    | some b1, some b0 => some (b1.sum * b0.count - b0.sum * b1.count, b1.count * b0.count)
    | _, _ => none

/-- R39: PDRIFT in 0.25 ps units, 0x8000_0000 while invalid. -/
def State.pdrift (s : State) (n k : Nat) : Nat :=
  match (lget WinSt.empty (s.src n).wins 1).change (s.srcPer n) k (s.src n).pdFrom, s.yLong n with
  | some (num, den), some y =>
    fit32 (quotFree ((num * (1000000000 * 4096) + y * (10 * secU) * den) * 1000) (den * (1000000000 * 4096) * 16384))
  | _, _ => 0x8000_0000

/-- R38, R44: source `n`'s bin `k` of window `w` has closed: FOFF, and at W1 PDRIFT, are updated, and ŷ of the longest
valid window acts from here on. -/
def State.srcBinClose (s : State) (n w k : Nat) : State :=
  let per := s.srcPer n
  if s.qstate n < 2 then s
  else
    let y := if winActive per w then (lget WinSt.empty (s.src n).wins w).offset per w k else none
    let s1 := s.wr (wSrc n) (SRC_FOFF0 + 4 * w) (match y with | none => 0x8000_0000 | some v => fit32 v)
    let yh := (s1.yLong n).getD 0
    let s2 := s1.modSrc n (fun x =>
      { x with ys := if x.ys.head?.map Prod.snd = some yh then x.ys else ((k + 1) * binU w % 2 ^ 96, yh) :: x.ys })
    if w = 1 then s2.wr (wSrc n) SRC_PDRIFT (s2.pdrift n k) else s2

/-- R44: the widest excursion over bins: the maximum of their maxima less the minimum of their minima; none of no sample
(log entry 84). -/
def excursion : List (Int × Int) → Option Int
  | [] => none
  | b :: bs => some (bs.foldl (fun a p => max a p.2) b.2 - bs.foldl (fun a p => min a p.1) b.1)

/-- Whether a history that began with bin `start` spans the `n` bins up to bin `k`. -/
def spans (start : Option Nat) (k n : Nat) : Bool := match start with | none => false | some a => decide (a + n ≤ k + 1)

/-- R44: the MTIE bin `k` closes. -/
def MtieSt.close (m : MtieSt) (k : Nat) : MtieSt :=
  let last := (m.bins.filter (fun p => decide (k < p.1 + 100 ∧ p.1 ≤ k))).map Prod.snd
  { m with es := if spans m.start k 100 then
      (k, excursion last) :: m.es.filter (fun e => decide (k < e.1 + 1000)) else m.es }

/-- A difference of wander phases in 0.25 ps units, at most 2^32 - 2 (0.25 ps is 16.384 TB units). -/
def quarterPs (v : Int) : Nat := min (2 ^ 32 - 2) (quotFree (v * 1000) (16384 * wanderScale)).toNat

/-- R44: MTIE(τ), all ones until the span holds 20 terms. -/
def MtieSt.value (m : MtieSt) : Nat :=
  let es := m.es.filterMap Prod.snd
  if es.length < 20 then 2 ^ 32 - 1 else quarterPs (es.foldl max 0)

/-- The sum and number of the samples in the ten strides up to number `k`, none of no sample. -/
def TdevSt.mean (m : TdevSt) (k : Nat) : Option (Int × Int) :=
  let b := (m.strides.filter (fun p => decide (k < p.1 + 10 ∧ p.1 ≤ k))).foldl
    (fun (a : Bin) p => ⟨a.sum + p.2.sum, a.count + p.2.count⟩) ⟨0, 0⟩
  if b.count = 0 then none else some (b.sum, b.count)

/-- R45: stride `k` of τ/10 closes: X over the last τ, one and two τ before, give a second difference; squares are kept in
(0.25 ps)². -/
def TdevSt.close (m : TdevSt) (k : Nat) : TdevSt :=
  if ¬ spans m.start k 30 then m
  else
    let d2 : Option Nat := match m.mean k, m.mean (k - 10), m.mean (k - 20) with
      | some (a, p), some (b, q), some (c, r) =>
        let d := quotFree ((a * q * r - 2 * b * p * r + c * p * q) * 1000) (p * q * r * 16384)
        some (d * d).toNat
      | _, _, _ => none
    { m with d2 := (k, d2) :: m.d2.filter (fun e => decide (k < e.1 + 100)) }

/-- R45: TDEV, all ones until the span holds 20 terms. -/
def TdevSt.value (m : TdevSt) : Nat :=
  let d2 := m.d2.filterMap Prod.snd
  if d2.length < 20 then 2 ^ 32 - 1 else min (2 ^ 32 - 2) (sqrtFree (d2.foldl (· + ·) 0) (6 * d2.length))

/-- R44, R45: a statistic at τ is active when τ ≥ P. -/
def statActive (per i : Nat) : Bool := per != 0 && decide (per ≤ mtieU i * 100 * 2 ^ 16)

/-- R35: a source changes its basis: every history restarts, and each window waits for its own next bin boundary. -/
def State.srcBasis (s : State) (n : Nat) : State :=
  if s.qstate n = 0 then s else (s.put (wSrc n) SRC_STATE_FBASIS (b2n s.mon.xoLost)).srcClearHist n true

/-! ### Qualification (R46 to R50) -/

/-- R49: CLRSTAT restarts PDRIFT, MTIE and TDEV: PDRIFT's history runs from here on. -/
def State.srcClrStat (s : State) (n : Nat) : State :=
  let w := wSrc n
  let s1 := s.modSrc n (fun x =>
    { x with mtie := List.replicate 5 MtieSt.empty, tdev := List.replicate 5 TdevSt.empty, pdFrom := s.tb.c })
  (List.range 5).foldl (fun t i => (t.wr w (SRC_MTIE0 + 4 * i) (2 ^ 32 - 1)).wr w (SRC_TDEV0 + 4 * i) (2 ^ 32 - 1))
    (s1.wr w SRC_PDRIFT 0x8000_0000)

/-- R46: the last verdict passed, with HYSTOK, within the last 1 s. -/
def State.freshPass (s : State) (n : Nat) : Bool :=
  match (s.src n).verdict with
  | none => false
  | some v => v.pass && v.hyst && decide (signedDiff 96 s.tb.c v.at_ ≤ secU)

/-- R47: the wait of a source that enters PEND: FIRSTQ, at least 1 ms, the first time, WTR later. -/
def State.startPend (s : State) (n : Nat) : State :=
  let w := wSrc n
  if s.flag w SRC_STATE_FIRST then
    s.modSrc n (fun x => { x with timer := some (s.after (max 1 (s.get w SRC_QCTL_FIRSTQ) * msU)), expired := false })
  else s.modSrc n (fun x => { x with timer := some (s.after (s.get w SRC_WTR_WTR * secU)), expired := false })

/-- R46, R47: a passing verdict with HYSTOK on an UNQUAL source, or on a PEND one without a timer (R50): PEND with the timer
started, or QUAL at once where the wait is zero. -/
def State.toPend (s : State) (n : Nat) : State :=
  if ¬ s.flag (wSrc n) SRC_STATE_FIRST ∧ s.get (wSrc n) SRC_WTR_WTR = 0 then s.toQual n
  else (s.setQ n 3).startPend n

/-- The lowest set bit of a failing mask (R46): the cause of a disqualification. -/
def lowestBit (v : Nat) : Nat := ((List.range 19).find? (fun b => bitOf v b)).getD 0

/-- R114: source `n`, chosen by a learning loop, has drifted: the stock supervisor program will discard bins. -/
def State.driftSeen (s : State) (n : Nat) : State :=
  if [s.ldplla, s.ldpllb].any (fun d => decide (d < 4) && s.get (W_DPLL + d) DPLL_SEL_STATE_CUR == n) then
    s.setSup { s.sup with drift := some s.tb.c }
  else s

/-- R46: a QUAL source fails on the checks `fail`. -/
def State.srcFail (s : State) (n fail : Nat) : State :=
  let c := lowestBit fail
  let s1 := (s.toUnqual n).srcDisq n c
  if 4 ≤ c ∧ c ≤ 6 then ((s1.sts (wSrc n) SRC_STS 8).srcEvent n 3).driftSeen n else s1

/-- R46, R48: a verdict taken from the source's MON engine. An OFF or LOST source ignores it; under FORCE it is recorded
only. -/
def State.srcVerdict (s : State) (n v : Nat) : State :=
  let q := s.qstate n
  if q < 2 then s
  else
    let fail := v % 2 ^ 19
    let hyst := bitOf v 31
    let s1 := (s.wr (wSrc n) SRC_CHK fail).modSrc n (fun x => { x with verdict := some ⟨fail == 0, hyst, s.tb.c⟩ })
    if s.srcForce n ≠ 0 then
      (if fail = 0 then s1
       else s1.srcRecord n (if 4 ≤ lowestBit fail ∧ lowestBit fail ≤ 6 then 8 else 0) (lowestBit fail))
    else if q = 2 then (if fail = 0 ∧ hyst then s1.toPend n else s1)
    else if q = 3 then
      if fail = 0 ∧ hyst then
        (match (s.src n).timer with
         | none => if (s.src n).expired then s1.toQual n else s1.toPend n
         | some _ => s1)
      else s1.toUnqual n
    else if q = 4 then (if fail = 0 then s1 else s1.srcFail n fail)
    else if fail = 0 then s1 else s1.toUnqual n

/-- R49: ACCEPT on a HELD source: QUAL when the last verdict passed, else UNQUAL; after a jump-guard hold also a jump pass
in every selector (R71). -/
def State.srcAccept (s : State) (n : Nat) : State :=
  if s.qstate n ≠ 5 ∨ s.srcForce n ≠ 0 then s
  else
    let s1 := if s.get (wSrc n) SRC_STATE_HOLDCAUSE = 1 then
        s.modSrc n (fun x => { x with pass := List.replicate 4 true })
      else s
    match (s.src n).verdict with
    | some v => if v.pass then s1.toQual n else s1.toUnqual n
    | none => s1.toUnqual n

/-- R46, R49: a hold, cause 1 JUMP or 2 HOST, on a QUAL or PEND source; under FORCE it is only recorded (R50). -/
def State.srcHoldAs (s : State) (n cause : Nat) : State :=
  let q := s.qstate n
  if q = 3 ∨ q = 4 then
    if s.srcForce n = 0 then
      let s1 := ((s.srcClearWait n).setQ n 5).put (wSrc n) SRC_STATE_HOLDCAUSE cause
      if cause = 1 then (s1.sts (wSrc n) SRC_STS 16).srcEvent n 4 else s1
    else if cause = 1 then s.srcRecord n 16 (s.get (wSrc n) SRC_STS_CAUSE) else s
  else s

/-- R49: a write of SRCn_CMD acts in bit order: ACCEPT, HOLD, CLRSTAT. -/
def State.srcCmd (s : State) (n v : Nat) : State :=
  let s1 := if bitOf v 0 then s.srcAccept n else s
  let s2 := if bitOf v 1 then s1.srcHoldAs n 2 else s1
  if bitOf v 2 then s2.srcClrStat n else s2

/-- R50: FORCE has changed to `f` (as it acts). -/
def State.srcForced (s : State) (n f : Nat) : State :=
  let q := s.qstate n
  if f = 1 then
    (if q = 4 then (s.toUnqual n).srcDisq n 0x20 else if q = 3 ∨ q = 5 then s.toUnqual n else s)
  else if f = 2 then (if q = 2 ∨ q = 3 ∨ q = 5 then s.toQual n else s)
  else s.modSrc n (fun x => { x with timer := none, expired := false })

/-- R46: ENABLE = 1 moves the source from OFF to LOST. -/
def State.srcOn (s : State) (n : Nat) : State :=
  let w := wSrc n
  let s1 := (((s.put w SRC_STATE_FBASIS (b2n s.mon.xoLost)).srcClearHist n false).modSrc n (fun x =>
    { x with bucket := s.actLim n, missed := 0, lastEdge := none, index := none, verdict := none, since := s.tb.c,
             pass := List.replicate 4 false, newest := [] })).setQ n 1
  ((s1.put w SRC_STATE_FIRST 1).wr w SRC_EDGES 0).wr w SRC_CHK 0

/-- R46: ENABLE = 0 moves the source to OFF. -/
def State.srcOff (s : State) (n : Nat) : State :=
  let q := s.qstate n
  let s1 := (s.srcClearWait n).setQ n 0
  if q = 4 then s1.srcDisq n 0x21 else s1

/-- R46, R50: SRCn_EN has been written over the value `old`. -/
def State.srcEnWritten (s : State) (n old : Nat) : State :=
  let on := s.flag (wSrc n) SRC_EN_ENABLE
  let wasOn := bitOf old 0
  let f0 := if bitsOf old 4 2 = 3 then 0 else bitsOf old 4 2
  let f := s.srcForce n
  let s1 := if on ∧ ¬ wasOn then s.srcOn n else if wasOn ∧ ¬ on then s.srcOff n else s
  if on ∧ f ≠ f0 then s1.srcForced n f else s1

/-- What SRCn_STATE reads as: NOTHERS and WAITLEFT are live (R55). -/
def State.srcStateReg (s : State) (n : Nat) : Nat :=
  let k := (s.src n).kind
  let others := s.qualCount k - (if s.qstate n = 4 then 1 else 0)
  let left := match (s.src n).timer with
    | none => 0
    | some d => ceilDiv (signedDiff 96 d s.tb.c).toNat secU
  putBits (putBits (s.rn (wSrc n) SRC_STATE) 10 5 others) 16 16 left

/-- What SRCn_CHK reads as: ACT shows the bucket. -/
def State.srcChkReg (s : State) (n : Nat) : Nat :=
  let v := s.rn (wSrc n) SRC_CHK
  if (s.src n).bucket ≠ 0 then v ||| 1 else v

/-! ### The commands -/

/-- SOURCE_EDGE (R34 to R37): an edge on source `n`'s input in the present TB-clock period, at a raw code of its TDC; with
another count of input edges than DIV no divided edge comes of it. The XO's phase is an operand (log entry 88). -/
def execSourceEdge (n : Src) (e : SrcEdge) (s : State) : Host.Outcome State Fault Refusal :=
  let t := s.tdcCount n e.code
  .next (if s.tb.running ∧ s.srcSees n ∧ e.inputs = s.srcDiv n ∧ e.falling = s.flag (wSrc n) SRC_CFG_EDGE then
      ((if s.mon.xoLost then s else s.setMon { s.mon with xo := e.xo }).ppsEdge n t).srcEdge n t
    else s)

/-- MISSED_NOMINAL_EDGE (R37): a nominal edge time of an enabled source has passed by the tolerance. -/
def execMissedNominalEdge (n : Src) (s : State) : Host.Outcome State Fault Refusal :=
  .next (if s.qstate n ≠ 0 ∧ s.nominalPassed n then
      (s.modSrc n (fun x => { x with missed := x.missed + 1 })).actBad n
    else s)

/-- A change of basis comes due at the next W0 bin boundary, unless one is due already (R35). -/
def MonSt.due (x : MonSt) (c : Nat) : MonSt := { x with basisDue := x.basisDue.or (some (c / msU)) }

/-- XO_LOSS (R35): XO_LOS, and the change of basis at the next W0 bin boundary. -/
def execXoLoss (s : State) : Host.Outcome State Fault Refusal :=
  .next (if s.mon.xoLost then s
    else (((s.setMon { s.mon.due s.tb.c with xoLost := true }).raise 4 15).put W_BRG BRG_STATE_XOHELD 1).learnCheck)

/-- XO_RETURN (R35): XO_ACT, and the change of basis at the next W0 bin boundary. -/
def execXoReturn (s : State) : Host.Outcome State Fault Refusal :=
  .next (if s.mon.xoLost then
      ((s.setMon { s.mon.due s.tb.c with xoLost := false }).raise 4 16).put W_BRG BRG_STATE_XOHELD 0
    else s)

/-- BASIS_CHANGE (R35): the W0 bin boundary has come; once for all windows and statistics of every source. An XO that was lost
and came back before the boundary changes no basis, and the histories restart all the same (log entry 90). -/
def execBasisChange (s : State) : Host.Outcome State Fault Refusal :=
  .next (match s.mon.basisDue with
    | none => s
    | some i =>
      if s.gridDue msU i then
        (List.range 21).foldl (fun t n => t.srcBasis n) (s.setMon { s.mon with basisDue := none })
      else s)

/-- BIN_CLOSE (R38): the bins of window `w` close for every source at the same instant; the MON engines' event BINw is
pending (R301). -/
def execBinClose (w : Fin 3) (s : State) : Host.Outcome State Fault Refusal :=
  .next (if s.gridDue (binU w) (lget 0 s.mon.binIdx w) then
      let s1 := s.setMon { s.mon with binIdx := lput 0 s.mon.binIdx w (s.tb.c / binU w) }
      let s2 := (List.range 21).foldl (fun t n => t.srcBinClose n w (s.tb.c / binU w - 1)) (s1.yBinClose w)
      (List.range 4).foldl (fun t m => t.engPend (5 + m) w 0) s2
    else s)

/-- MTIE_BIN_CLOSE (R44) at τ_i, for every source. -/
def execMtieBinClose (i : Fin 5) (s : State) : Host.Outcome State Fault Refusal :=
  .next (if s.gridDue (mtieU i) (lget 0 s.mon.mtieIdx i) then
      let s1 := s.setMon { s.mon with mtieIdx := lput 0 s.mon.mtieIdx i (s.tb.c / mtieU i) }
      (List.range 21).foldl (fun t n =>
        if t.statsOn n ∧ statActive (t.srcPer n) i ∧ 2 ≤ t.qstate n then
          let t1 := t.modSrc n (fun x =>
            { x with mtie := x.mtie.modify i (fun m => m.close (s.tb.c / mtieU i - 1)) })
          t1.wr (wSrc n) (SRC_MTIE0 + 4 * i) (lget MtieSt.empty (t1.src n).mtie i).value
        else t) s1
    else s)

/-- TDEV_STRIDE (R45) at τ_i, for every source. -/
def execTdevStride (i : Fin 5) (s : State) : Host.Outcome State Fault Refusal :=
  .next (if s.gridDue (tdevU i) (lget 0 s.mon.tdevIdx i) then
      let s1 := s.setMon { s.mon with tdevIdx := lput 0 s.mon.tdevIdx i (s.tb.c / tdevU i) }
      (List.range 21).foldl (fun t n =>
        if t.statsOn n ∧ statActive (t.srcPer n) i ∧ 2 ≤ t.qstate n then
          let t1 := t.modSrc n (fun x =>
            { x with tdev := x.tdev.modify i (fun m => m.close (s.tb.c / tdevU i - 1)) })
          t1.wr (wSrc n) (SRC_TDEV0 + 4 * i) (lget TdevSt.empty (t1.src n).tdev i).value
        else t) s1
    else s)

/-- PEND_TIMER_EXPIRY (R47): judged at the expiry, and again at every later passing verdict. -/
def execPendTimerExpiry (n : Src) (s : State) : Host.Outcome State Fault Refusal :=
  .next (match (s.src n).timer with
    | none => s
    | some d =>
      if s.qstate n = 3 ∧ s.due d then
        let s1 := s.modSrc n (fun x => { x with timer := none, expired := true })
        if s.freshPass n then s1.toQual n else s1
      else s)

/-- VERDICT_STALE (R46, R48): no verdict for 1 s, counted from the last verdict, or from the enable before the first (log
entry 86). SRCn_CHK shows it in every active state (R55); it disqualifies a QUAL source, and under FORCE it is recorded
(R50). -/
def execVerdictStale (n : Src) (s : State) : Host.Outcome State Fault Refusal :=
  let since := match (s.src n).verdict with
    | some v => v.at_
    | none => (s.src n).since
  .next (if 2 ≤ s.qstate n ∧ s.due ((since + secU) % 2 ^ 96) then
      let s1 := s.put (wSrc n) SRC_CHK_STALE 1
      if s.srcForce n ≠ 0 then s1.srcRecord n 0 18
      else if s.qstate n = 4 then (s1.toUnqual n).srcDisq n 18 else s1
    else s)

end Sys2Proof.Machine
end

