-- ==== Sys2Proof/Machine/Selector.lean ====
section
/-!
DEFINITION. The selectors (chapter 3): candidates and ranks, the choice, the hitless switch, re-targeting, and the return
from bivouac with its jump guard.
-/

namespace Sys2Proof.Machine

/-- The window of loop `n`. -/
def wDpll (n : Nat) : Nat := W_DPLL + n

/-- No choice (CUR and PREV). -/
def noSrc : Nat := 31

/-- ST of SEL_STATE: 0 NONE, 1 ACQ, 2 PULL, 3 TRACK. -/
def State.selSt (s : State) (n : Nat) : Nat := s.get (wDpll n) DPLL_SEL_STATE_ST
def State.selCur (s : State) (n : Nat) : Nat := s.get (wDpll n) DPLL_SEL_STATE_CUR

/-- The residual O in TB units. -/
def State.selO (s : State) (n : Nat) : Int := toSigned 64 (s.pair (wDpll n) DPLL_SEL_PULL_LO)
def State.setO (s : State) (n : Nat) (o : Int) : State := s.putPair (wDpll n) DPLL_SEL_PULL_LO (ofSigned 64 o)

/-- SEL_STATE written whole; a change makes LPn's event SELCHG pending with the new value (R301). -/
def State.putSel (s : State) (n v : Nat) : State :=
  if s.rn (wDpll n) DPLL_SEL_STATE = v then s
  else ((s.wr (wDpll n) DPLL_SEL_STATE v).engPend (1 + n) 1 (BitVec.ofNat 64 v)).learnCheck

/-- A field of SEL_STATE changed. -/
def State.putSelF (s : State) (n : Nat) (f : Fld) (v : Nat) : State :=
  s.putSel n (putBits (s.rn (wDpll n) DPLL_SEL_STATE) f.lsb f.width v)

/-- The events of R75: 0 SWITCH, 1 RETARGET, 2 PULLDONE, 3 NONE; the status bit has the same number. -/
def State.selEvent (s : State) (n e : Nat) : State := (s.sts (wDpll n) DPLL_SEL_STS (2 ^ e)).raise 5 (8 * n + e)

/-- A 4-bit field k of three packed registers from `off`. -/
def State.nib (s : State) (w off k : Nat) : Nat := bitsOf (s.rn w (off + 4 * (k / 8))) (4 * (k % 8)) 4

/-- R59: the rank the device publishes for SRC16 to SRC20: ESMC, the PTP port's RANK, the upstream member. -/
def State.publishedRank (s : State) (k : Nat) : Nat :=
  if k = 16 then s.get W_SYE SYE_RXQL_RANK0
  else if k = 17 then s.get W_SYE SYE_RXQL_RANK1
  else if k = 18 then s.get W_PTP PTP_PSTATE_RANK
  else if k = 19 then s.get (W_PTP + 1) PTP_PSTATE_RANK
  else s.gl.rank

/-- R58: a rank field that holds 13 acts as 12. -/
def rankActs (r : Nat) : Nat := if r = 13 then 12 else r

/-- R59: the effective rank of source `k` at selector `n`. -/
def State.effRank (s : State) (n k : Nat) : Nat :=
  let w := wDpll n
  if 16 ≤ k ∧ bitOf (s.rn w DPLL_SEL_QLAUTO) (k - 16) then rankActs (s.publishedRank k)
  else rankActs (s.nib w DPLL_SEL_QL0 k)

/-- The priority of source `k` at selector `n`. -/
def State.prio (s : State) (n k : Nat) : Nat := s.nib (wDpll n) DPLL_SEL_PRIO0 k

def State.qlen (s : State) (n : Nat) : Bool := s.flag (wDpll n) DPLL_SEL_CTL_QLEN

/-- R56: whether source `k` is a candidate for selector `n`. -/
def State.candidate (s : State) (n k : Nat) : Bool :=
  s.qstate k == 4 && s.prio n k != 0 &&
    (!s.qlen n || (s.effRank n k != 15 && decide (s.effRank n k ≤ s.get (wDpll n) DPLL_SEL_CTL_QLMIN)))

/-- R57: candidate `a` orders before `b`. -/
def State.before (s : State) (n a b : Nat) : Bool :=
  let ra := if s.qlen n then s.effRank n a else 0
  let rb := if s.qlen n then s.effRank n b else 0
  decide (ra < rb) || (ra == rb && (decide (s.prio n a < s.prio n b) || (s.prio n a == s.prio n b && decide (a < b))))

/-- R57: the best candidate, or none (31). -/
def State.bestCandidate (s : State) (n : Nat) : Nat :=
  ((List.range 21).filter (s.candidate n)).foldl (fun b k => if b = noSrc ∨ s.before n k b then k else b) noSrc

/-- MODE as it acts: 3 acts as AUTO. -/
def State.selMode (s : State) (n : Nat) : Nat :=
  let m := s.get (wDpll n) DPLL_SEL_CTL_MODE
  if m = 3 then 0 else m

/-- R60, R61: the choice that an evaluation finds, 31 for none. -/
def State.choice (s : State) (n : Nat) : Nat :=
  let w := wDpll n
  let m := s.selMode n
  if m = 2 then noSrc
  else if m = 1 then
    let f := s.get w DPLL_SEL_CTL_FSRC
    if f ≤ 20 ∧ s.qstate f = 4 then f else noSrc
  else
    let best := s.bestCandidate n
    let cur := s.selCur n
    if s.flag w DPLL_SEL_CTL_REVERT ∨ cur = noSrc ∨ ¬ s.candidate n cur then best
    else if s.qlen n ∧ best ≠ noSrc ∧ s.effRank n best < s.effRank n cur then best
    else cur

/-- R64: the source error of source `k` at loop `n`, in TB units: its newest sample less the feedback phase at the same
instant, reduced modulo the period for SRC0 to SRC17. -/
def State.srcError (s : State) (n k : Nat) : Int :=
  s.phaseError k (toSigned 64 (s.pair (wSrc k) SRC_PHASE_LO)) (lget 0 (s.src k).fbs n)

/-- Whether a selector's ramp and build-out stay idle: tied mode (R73) or the freeze (R74). -/
def State.selIdle (s : State) (n : Nat) : Bool :=
  (n == 0 && s.flag W_DPLL DPLL_CTL_TIED) || (s.dpll n).frozen

/-- Whether the chosen source `k` has stopped being a candidate (R78); MANUAL asks for QUAL alone (R60). -/
def State.selLost (s : State) (n k : Nat) : Bool :=
  k != noSrc && (if s.selMode n = 1 then s.qstate k != 4 else !s.candidate n k)

/-- The cause of a change of choice from a selector that holds `cur` (R78; log entry 23). -/
def State.selCause (s : State) (n cur : Nat) : Nat :=
  match (s.sel n).trig with
  | .untie => 5
  | .unfreeze => 6
  | t =>
    if s.selSt n = 0 then 4
    else if s.selLost n cur then 0
    else match t with
      | .rank => 2
      | .config => 3
      | _ => 1

/-- The kind's return mode: FOLLOW when true (R68). -/
def State.followMode (s : State) (n k : Nat) : Bool :=
  let kd := kindOf (s.get (wSrc k) SRC_EN_KIND)
  let time := kd = 1 ∨ (kd = 2 ∧ 18 ≤ k)
  s.flag (wDpll n) (if time then DPLL_SEL_CTL_RMODE_TIME else DPLL_SEL_CTL_RMODE_FREQ)

/-- R63: no choice: state NONE, SEL_NONE, the residual discarded, but not while idle (R74). Whether SWCNT and CAUSE take a
choice given up is left open: it counts as a change of choice, with its cause (R78; log entry 23). -/
def State.selNone (s : State) (n cause : Nat) : State :=
  let cur := s.selCur n
  let v := s.rn (wDpll n) DPLL_SEL_STATE
  let v1 := putBits (putBits (putBits (putBits v 0 5 noSrc) 8 2 0) 10 1 0) 16 5 cur
  let s0 := s.putSel n v1
  let s1 := if cur = noSrc then s0 else (s0.count (wDpll n) DPLL_SEL_SWCNT 1).put (wDpll n) DPLL_SEL_STS_CAUSE cause
  ((if s.selIdle n then s1 else s1.setO n 0).modSel n (fun x =>
    { x with retarget := false, follow := noSrc, returning := false, frac := 0 })).selEvent n 3

/-- A change of choice recorded: CUR, PREV, state, the count and the cause. The choice that a selector takes when a freeze or
tied mode ends is recorded so even where it is the same source (R73, R74; log entry 23). -/
def State.selRecord (s : State) (n b st cause : Nat) : State :=
  let v := s.rn (wDpll n) DPLL_SEL_STATE
  let v1 := putBits (putBits (putBits v 0 5 b) 8 2 st) 16 5 (s.selCur n)
  ((((s.putSel n v1).count (wDpll n) DPLL_SEL_SWCNT 1).put (wDpll n) DPLL_SEL_STS_CAUSE cause).modSel n
    (fun x => { x with mark := (s.src b).samples })).modSrc b (fun x => { x with sums := lput ⟨0, 0⟩ x.sums n ⟨0, 0⟩ })

/-- The source that the loop steers on: the chosen one, and the one followed until now while a re-target waits for its
first sample (R67). -/
def State.selSteer (s : State) (n : Nat) : Nat := if (s.sel n).retarget then (s.sel n).follow else s.selCur n

/-- The effective error e_s - O (R64). -/
def State.effError (s : State) (n : Nat) : Int :=
  if 20 < s.selSteer n then 0 else s.srcError n (s.selSteer n) - s.selO n

/-- Whether the chosen source has delivered a sample since it was chosen (R65). -/
def State.freshSample (s : State) (n : Nat) : Bool :=
  s.selCur n != noSrc && decide ((s.sel n).mark < (s.src (s.selCur n)).samples)

/-- Whether the source that the loop steers on has a sample for it: while a re-target waits, the one followed has. -/
def State.steerSample (s : State) (n : Nat) : Bool := (s.sel n).retarget || s.freshSample n

/-- R62: one evaluation of selector `n`, with at most one change of choice. While the selector is idle a change of choice goes
to ACQ with SEL_SWITCH in every state, PULL included (R73, R74; log entry 23). -/
def State.selEval (s : State) (n : Nat) : State :=
  let cur := s.selCur n
  let b := s.choice n
  let cause := s.selCause n cur
  let trig := (s.sel n).trig
  let done (t : State) : State :=
    t.modSel n (fun x => { x with trig := .qstate })
  if b = noSrc then
    done (if cur = noSrc ∧ s.selSt n = 0 then s else s.selNone n cause)
  else if s.selIdle n then
    done (if b = cur then s else (s.selRecord n b 1 cause).selEvent n 0)
  else if s.selSt n = 0 ∨ trig = .unfreeze then
    done (((s.selRecord n b 1 cause).modSel n (fun x => { x with returning := true, retarget := false, follow := noSrc })).selEvent n 0)
  else if trig = .untie then
    done (((s.selRecord n b 1 cause).modSel n (fun x =>
      { x with returning := false, retarget := false, follow := noSrc, eLast := 0 })).selEvent n 0)
  else if b = cur then done s
  else if s.selSt n = 2 then
    done (((s.selRecord n b 2 cause).modSel n (fun x =>
      { x with retarget := true, follow := s.selSteer n })).selEvent n 1)
  else if s.selSt n = 1 then
    done ((s.selRecord n b 1 cause).selEvent n 0)
  else
    let e := s.effError n
    done (((s.selRecord n b 1 cause).modSel n (fun x =>
      { x with eLast := e, returning := false, retarget := false, follow := noSrc })).selEvent n 0)

/-- A trigger of kind `t` (R62): untie and unfreeze are not overridden by a later one. -/
def State.selTrigger (s : State) (n : Nat) (t : SelTrig) : State :=
  s.modSel n (fun x => if x.trig = .untie ∨ x.trig = .unfreeze then x else { x with trig := t })

/-- O set at a first sample: state PULL, TRACK when O = 0, or TRACK with BO where the mode keeps it. -/
def State.selStart (s : State) (n : Nat) (o : Int) (keep : Bool) : State :=
  let s1 := ((s.setO n o).modSel n (fun x => { x with returning := false, retarget := false, follow := noSrc, frac := 0 })).putSelF n
    DPLL_SEL_STATE_BO (b2n keep)
  s1.putSelF n DPLL_SEL_STATE_ST (if keep ∨ o = 0 then 3 else 2)

/-- R66: SWMODE = ABSORB keeps O. -/
def State.swAbsorb (s : State) (n : Nat) : Bool := s.flag (wDpll n) DPLL_SEL_CTL_SWMODE

/-- The slope limit S in 0.1 ns/s as it acts (R100). -/
def State.slope (s : State) (n : Nat) : Nat := min 1000000 (max 1 (s.get (wDpll n) DPLL_SLOPE_V))

/-- UPER in µs as it acts (R96). -/
def State.uper (s : State) (n : Nat) : Nat := max 2 (s.get (wDpll n) DPLL_CFG_UPER)

/-- R66: one update's ramp of O towards zero by S × UPER, never past zero; at zero, TRACK and SEL_PULLDONE, a re-target that
waits for its first sample included (R67). -/
def State.pullRamp (s : State) (n : Nat) : State :=
  if s.selSt n ≠ 2 ∨ s.selIdle n then s
  else
    let o := s.selO n
    let q := s.slope n * s.uper n * 65536 + (s.sel n).frac
    let m := q / 10 ^ 7
    if o.natAbs ≤ m then
      (((s.setO n 0).modSel n (fun x => { x with frac := 0 })).putSelF n DPLL_SEL_STATE_ST 3).selEvent n 2
    else (s.setO n (if 0 < o then o - m else o + m)).modSel n (fun x => { x with frac := q % 10 ^ 7 })

/-- R66: ABSORB in state PULL stops the ramp and keeps O as a build-out. -/
def State.selAbsorb (s : State) (n : Nat) : State :=
  if s.selSt n = 2 then (s.putSelF n DPLL_SEL_STATE_BO 1).putSelF n DPLL_SEL_STATE_ST 3 else s

/-- A write of SEL_CMD (R78). -/
def State.selCmd (s : State) (n v : Nat) : State :=
  let s1 := if bitOf v 0 then s.selTrigger n .config else s
  if bitOf v 1 then s1.selAbsorb n else s1

/-- R71: a pass that is spent. -/
def State.spendPass (s : State) (n k : Nat) : State :=
  s.modSrc k (fun x => { x with pass := lput false x.pass n false })

/-- R71, R50: whether source `k` returns without the guard at selector `n`. -/
def State.hasPass (s : State) (n k : Nat) : Bool := lget false (s.src k).pass n || s.srcForce k == 2

/-- R68 to R70: the first sample of a returning source. Where the guard holds it the selector evaluates again: another
candidate returns in its place, or the selector enters NONE with SEL_NONE (R63). -/
def State.selReturn (s : State) (n : Nat) : State :=
  let k := s.selCur n
  let e := s.srcError n k
  let guard := s.rn (wDpll n) DPLL_SEL_JGUARD
  if ¬ s.followMode n k then s.selStart n e true
  else if guard = 0 ∨ s.hasPass n k ∨ e.natAbs ≤ guard * 65536 then (s.selStart n e false).spendPass n k
  else
    ((s.srcHoldAs k 1).sts (wDpll n) DPLL_SEL_STS 16).selEval n

/-- What SEL_ERANKi reads as: the effective ranks, four bits each (R59). -/
def State.erankReg (s : State) (n i : Nat) : Nat :=
  (List.range (if i = 2 then 5 else 8)).foldl (fun v k => v + s.effRank n (8 * i + k) * 2 ^ (4 * k)) 0

/-! ### The commands -/

/-- SELECTOR_EVALUATION (R62). -/
def execSelectorEvaluation (n : Loop) (s : State) : Host.Outcome State Fault Refusal := .next (s.selEval n)

/-- SWITCH_FIRST_SAMPLE (R65): O = e_b - e_last, so the effective error continues without a step. -/
def execSwitchFirstSample (n : Loop) (s : State) : Host.Outcome State Fault Refusal :=
  .next (if s.selSt n = 1 ∧ ¬ (s.sel n).returning ∧ s.freshSample n ∧ ¬ s.selIdle n then
      s.selStart n (s.srcError n (s.selCur n) - (s.sel n).eLast) (s.swAbsorb n)
    else s)

/-- RETARGET_FIRST_SAMPLE (R67): O = e_c - e_eff, with e_eff of the source followed until now; the ramp runs on, or the new
O is kept where ABSORB came during the wait (R66). A new O of zero ends the pull. -/
def execRetargetFirstSample (n : Loop) (s : State) : Host.Outcome State Fault Refusal :=
  let o := s.srcError n (s.selCur n) - s.effError n
  let keep := s.flag (wDpll n) DPLL_SEL_STATE_BO
  let s1 := s.selStart n o keep
  .next (if (s.sel n).retarget ∧ s.freshSample n ∧ ¬ s.selIdle n then
      if s.selSt n = 2 ∧ o = 0 ∧ ¬ keep then s1.selEvent n 2 else s1
    else s)

/-- RETURN_FIRST_SAMPLE (R68 to R70). -/
def execReturnFirstSample (n : Loop) (s : State) : Host.Outcome State Fault Refusal :=
  .next (if s.selSt n = 1 ∧ (s.sel n).returning ∧ s.freshSample n ∧ ¬ s.selIdle n then s.selReturn n else s)

end Sys2Proof.Machine
end

