-- ==== Sys2Proof/Machine/Synth.lean ====
section
/-!
DEFINITION. Synthesis (chapter 6): the bridge and its blends, the APLLs, and DSYN's phase accumulator.
-/

namespace Sys2Proof.Machine

/-- The window of APLLA (0) or APLLB (1). -/
def wApll (n : Nat) : Nat := W_APLL + n

/-- The safe state is forced (R383). -/
def State.safe (s : State) : Bool := s.flt.st == .safe

def State.apll (s : State) (n : Nat) : ApllSt := lget ApllSt.reset s.aplls n
def State.apllOn (s : State) (n : Nat) : Bool := s.flag (wApll n) APLL_CTL_ENABLE
def State.apllLock (s : State) (n : Nat) : Bool := s.flag (wApll n) APLL_STATE_LOCK

/-- The events of R137: 0 APLL_LOCK, 1 APLL_MARGIN, 2 APLL_BAND; the status bit has the same number. -/
def State.apllEvent (s : State) (n e : Nat) : State := (s.sts (wApll n) APLL_STS (2 ^ e)).raise 6 (4 * n + e)

/-- RDIV as it acts (R140). -/
def State.rdiv (s : State) (n : Nat) : Nat := 2 ^ min 2 (s.get (wApll n) APLL_CFG_RDIV)

/-- M_nom in units of 2^-48 (R127). -/
def State.mNom (s : State) (n : Nat) : Nat :=
  s.get (wApll n) APLL_NINT_V * 2 ^ 48 + s.pair (wApll n) APLL_NFRAC_LO % 2 ^ 48

/-- R127: m_used for word `w`, in units of 2^-48. -/
def State.mUsed (s : State) (n : Nat) (w : Int) : Nat := (roundFree (s.mNom n * (2 ^ 48 + w)) (2 ^ 48)).toNat

/-- Phases of clocks are kept in units of one `clkK`-th of a period of the VCO, of the TB clock or of DSYN, in which every
ratio of a channel and every rate of a clock is a whole number (R127, R133, R143). -/
def clkK : Int := 2 ^ 48 * 2621440

/-- R127: the phase of APLL `n`'s VCO at count `c`, from the ratio in use since its last change. -/
def State.vcoPhase (s : State) (n c : Nat) : Int :=
  (s.apll n).vco + 24 * (4 / s.rdiv n) * s.pair (wApll n) APLL_M_LO * signedDiff 96 c (s.apll n).vcoAt

/-- The ratio in use follows word `w`; the VCO goes on from the phase it has. -/
def State.apllWord (s : State) (n : Nat) (w : Int) : State :=
  if s.apllOn n then
    (s.modApll n (fun x => { x with vco := s.vcoPhase n s.tb.c, vcoAt := s.tb.c })).putPair (wApll n) APLL_M_LO
      (s.mUsed n w % 2 ^ 53)
  else s

/-! ### The bridge -/

/-- A destination of the bridge; one that has received nothing. -/
def DestSt.idle : DestSt := ⟨0, 0, 0, 0⟩
def State.dest (s : State) (d : Nat) : DestSt := lget DestSt.idle s.brg.dests d
def State.modDest (s : State) (d : Nat) (f : DestSt → DestSt) : State :=
  s.setBrg { s.brg with dests := lupd DestSt.idle s.brg.dests d f }

/-- The loop that destination `d` follows in the map in force (R132). -/
def State.destLoop (s : State) (d : Nat) : Nat := bitsOf s.brg.map (2 * d) 2

/-- R81: the basis correction, the BAW offset last measured, in 2^-48 (log entry 28). -/
def State.basisCorr (s : State) : Int := quotFree (s.ri W_BRG BRG_BAWOFF * 2 ^ 48) (4096 * 10 ^ 9)

/-- Δ is kept in 10^-15 of a word unit, since SLEW × UPER is no whole number of units (R134). -/
def deltaUnit : Int := 10 ^ 15

/-- R133: DSYN's accumulator at count `c`: at every tick it adds w × 2^16. -/
def State.dsynAcc (s : State) (c : Nat) : Int :=
  s.brg.acc + (s.dest 6).full * 2 ^ 16 * (signedDiff 96 c s.brg.accAt / tickU)

/-- R133: the rotator's position at count `c`: the nearest of 1,024 per TB-clock period, whole periods counted. -/
def State.dsynPos (s : State) (c : Nat) : Int := roundFree (s.dsynAcc c) (2 ^ 54)

/-- R133: M_nom of a transmit PLL, in 2^-48: ETH0 and ETH1 by their rate, and GL. -/
def State.mTxNom (s : State) (d : Nat) : Nat :=
  if d = 5 then 275 * 2 ^ 42
  else if d = 3 ∨ d = 4 then (if s.flag (W_ETH + (d - 3)) ETH_CFG_RATE then 1375 * 2 ^ 40 else 275 * 2 ^ 42)
  else 0

/-- R133: M_tx of destination `d` for its word, rounded to 2^-48. -/
def State.destRatio (s : State) (d : Nat) : State :=
  s.modDest d (fun x => { x with ratio := (roundFree (s.mTxNom d * (2 ^ 48 + x.full)) (2 ^ 48)).toNat })

/-- Destination `d` takes word `w` (R127, R133, R194). -/
def State.destTake (s : State) (d : Nat) (w : Int) : State :=
  let s0 := if d = 6 then s.setBrg { s.brg with acc := s.dsynAcc s.tb.c, accAt := s.tb.c } else s
  let s1 := (s0.modDest d (fun x => { x with full := w })).destRatio d
  if d = 0 ∨ d = 1 then s1.apllWord d w
  else if d = 2 then s1.tbDeliver w
  else s1

/-- R134: destination `d` receives W + Δ with the basis correction (R81). -/
def State.destDeliver (s : State) (d : Nat) : State :=
  let v := s.dco (s.destLoop d) + quotFree (s.dest d).delta deltaUnit
  (s.modDest d (fun x => { x with last := v })).destTake d (v + s.basisCorr)

/-- R134: |Δ| falls by `m`, never past zero. -/
def towardsZero (x m : Int) : Int := if 0 ≤ x then max 0 (x - m) else min 0 (x + m)

/-- The BLEND bits follow Δ; BRG_SETTLED when the last blend ends (R134). -/
def State.brgBlend (s : State) : State :=
  let v := (List.range 7).foldl (fun a d => a + (if (s.dest d).delta ≠ 0 then 2 ^ d else 0)) 0
  let old := s.get W_BRG BRG_STATE_BLEND
  let s1 := s.put W_BRG BRG_STATE_BLEND v
  if old ≠ 0 ∧ v = 0 then (s1.sts W_BRG BRG_STS 2).raise 6 9 else s1

/-- R134: a map comes into force. Where a destination changes its loop, Δ starts as the word it last received minus the
new loop's word; where every Δ is zero at once, both events are raised together. -/
def State.brgApply (s : State) (m : Nat) : State :=
  let old := s.brg.map
  let moved := (List.range 7).filter (fun d => bitsOf old (2 * d) 2 ≠ bitsOf m (2 * d) 2)
  if moved.isEmpty then s.setBrg { s.brg with map := m }
  else
    let slew0 := s.rn W_BRG BRG_SLEW = 0
    let s1 := moved.foldl (fun (t : State) d =>
      t.modDest d (fun x =>
        { x with delta := if slew0 then 0 else (x.last - t.dco (bitsOf m (2 * d) 2)) * deltaUnit }))
      (s.setBrg { s.brg with map := m })
    let s2 := (s1.sts W_BRG BRG_STS 1).raise 6 8
    if s2.get W_BRG BRG_STATE_BLEND = 0 ∧ (List.range 7).all (fun d => (s2.dest d).delta = 0) then
      (s2.sts W_BRG BRG_STS 2).raise 6 9
    else s2.brgBlend

/-- R134, R135: BRG_MAP has been written: held pending in the safe state. -/
def State.brgMapWritten (s : State) : State :=
  if s.safe then s.put W_BRG BRG_STATE_PENDING 1 else s.brgApply (s.get W_BRG BRG_MAP_V)

/-- R135: the pending map takes effect at the first update instant after the fault state. -/
def State.brgResume (s : State) : State :=
  if s.flag W_BRG BRG_STATE_PENDING ∧ ¬ s.safe then
    (s.put W_BRG BRG_STATE_PENDING 0).brgApply (s.get W_BRG BRG_MAP_V)
  else s

/-- R79 step 4: loop `n`'s word goes to every destination of the loop; at an update instant (`upd`) Δ falls first, held
in the safe state (R135). -/
def State.brgDeliver (s : State) (n uper : Nat) (upd : Bool) : State :=
  let step : Int := s.rn W_BRG BRG_SLEW * uper * 2 ^ 48
  let s1 := (List.range 7).foldl (fun (t : State) d =>
    if t.destLoop d ≠ n then t
    else
      let t1 := if upd && !t.safe then
          t.modDest d (fun x => { x with delta := if step = 0 then 0 else towardsZero x.delta step })
        else t
      t1.destDeliver d) s
  s1.brgBlend

/-! ### Faults of BRG (R126) -/

/-- BAWOFF as the XO monitor measures it: held while XO_IN is lost (R81). -/
def State.bawMeasured (s : State) (off : Int) : State :=
  if s.mon.xoLost then s.put W_BRG BRG_STATE_XOHELD 1
  else (s.wr W_BRG BRG_BAWOFF (ofSigned 32 off)).put W_BRG BRG_STATE_XOHELD 0

/-- 200 ppm in 2^-12 ppb (R126). -/
def bawLimit : Nat := 200000 * 4096

/-! ### The commands -/

/-- BAW_FAIL (R126): the detector's report: the amplitude below its limit, and the offset that has lasted 1 ms. A report
without either ends the condition (log entry 33). -/
def execBawFail (amp : Bool) (off : Int) (s : State) : Host.Outcome State Fault Refusal :=
  let s1 := s.bawMeasured off
  let bad := amp || (!s.mon.xoLost && decide (bawLimit < off.natAbs))
  .next (if bad then
      (if s1.flag W_BRG BRG_STATE_BAWOK then
        (s1.put W_BRG BRG_STATE_BAWOK 0).fault W_BRG K_BAW_FAIL (regAddr W_BRG BRG_STATE)
      else s1)
    else s1.put W_BRG BRG_STATE_BAWOK 1)

/-- CLK_COUNT_CHECK (R126): `diff` counts between the TB clock and the BAW. -/
def execClkCountCheck (diff : Int) (s : State) : Host.Outcome State Fault Refusal :=
  .next (if 1 < diff.natAbs then
      (if s.flag W_BRG BRG_STATE_TBLOCK then
        (s.put W_BRG BRG_STATE_TBLOCK 0).fault W_BRG K_CLK_DISAGREE (regAddr W_BRG BRG_STATE)
      else s)
    else s.put W_BRG BRG_STATE_TBLOCK 1)

/-! ### APLLs -/

/-- R128: whether an enable is refused for range. -/
def State.apllRangeBad (s : State) (n : Nat) : Bool :=
  let m := s.mNom n
  let r := s.rdiv n
  let ni := s.get (wApll n) APLL_NINT_V
  decide (ni < 4 ∨ 21 < ni ∨ m < 4 * r * 2 ^ 48 ∨ 16 * r * 2 ^ 48 < 3 * m)

/-- R129: ENABLE has been set: the VCO starts, with the ratio of R127 in force; a forced BAND is valid, with APLL_BAND. -/
def State.apllOnNow (s : State) (n : Nat) : State :=
  let w := wApll n
  let forced := s.flag w APLL_CFG_BANDMODE
  let st := if forced then 16 + s.get w APLL_CFG_BANDF * 2 ^ 8 else 0
  let s1 := ((s.wr w APLL_STATE st).modApll n (fun _ => ⟨false, false, 0, s.tb.c⟩)).apllWord n (s.dest n).full
  if forced then s1.apllEvent n 2 else s1

/-- R165, R167: while LOCK = 0 no φ is valid, and no excursion of APERR goes on. -/
def State.phiDrop (s : State) (n : Nat) : State :=
  s.setSync { s.sync with phi := lput none s.sync.phi n none, satSince := lput none s.sync.satSince n none }

/-- R139: ENABLE has been cleared: the APLL and its VCO stop. -/
def State.apllOffNow (s : State) (n : Nat) : State :=
  let w := wApll n
  ((((s.put w APLL_STATE_LOCK 0).put w APLL_STATE_LOL 0).put w APLL_STATE_MARGIN 0).put w APLL_STATE_MARGFLT 0).modApll n
    (fun x => { x with locked := false, owed := false }) |>.phiDrop n

/-- BAND_SEARCH_DONE (R129): the search under BANDMODE = AUTO has chosen `band`. -/
def execBandSearchDone (n : Apll) (band : Fin 128) (s : State) : Host.Outcome State Fault Refusal :=
  let w := wApll n
  .next (if s.apllOn n ∧ ¬ s.flag w APLL_CFG_BANDMODE ∧ ¬ s.flag w APLL_STATE_BANDOK then
      ((s.put w APLL_STATE_BAND band).put w APLL_STATE_BANDOK 1).apllEvent n 2
    else s)

/-- APLL_LOCK_ACQUIRED (R129, R131): the first lock of an enable, or a relock. -/
def execApllLockAcquired (n : Apll) (s : State) : Host.Outcome State Fault Refusal :=
  let w := wApll n
  .next (if s.apllOn n ∧ s.flag w APLL_STATE_BANDOK ∧ ¬ s.apllLock n then
      (((s.put w APLL_STATE_LOCK 1).put w APLL_STATE_LOL 0).modApll n (fun x =>
        { x with locked := true, owed := false })).apllEvent n 0
    else s)

/-- VTUNE_SAMPLE (R130): VTUNE in mV; the margins are watched from the first lock on (R129). -/
def execVtuneSample (n : Apll) (mv : BitVec 12) (s : State) : Host.Outcome State Fault Refusal :=
  let w := wApll n
  let v := mv.toNat
  let out1 := decide (v < 250 ∨ 950 < v)
  let out2 := decide (v < 150 ∨ 1050 < v)
  .next (if ¬ s.apllOn n then s
    else
      let s1 := s.wr w APLL_VTUNE v
      if ¬ (s.apll n).locked then s1
      else
        let s2 := if out1 && !s.flag w APLL_STATE_MARGIN then s1.apllEvent n 1 else s1
        let s3 := if out2 && !s.flag w APLL_STATE_MARGFLT then
            (s2.sts w APLL_STS 32).fault w K_VCO_MARGIN (regAddr w APLL_VTUNE)
          else s2
        (s3.put w APLL_STATE_MARGIN (b2n out1)).put w APLL_STATE_MARGFLT (b2n out2))

/-- R386: the message of a loss of lock, owed while the safe state lasts. -/
def State.lolMessage (s : State) (n : Nat) : State :=
  if s.safe then s.modApll n (fun x => { x with owed := true })
  else s.fault (wApll n) K_APLL_LOL (regAddr (wApll n) APLL_STATE)

/-- R386: the safe state has ended: a loss that persists sends its message. -/
def State.lolOwed (s : State) : State :=
  (List.range 2).foldl (fun (t : State) n =>
    if (t.apll n).owed then
      let t1 := t.modApll n (fun x => { x with owed := false })
      if t1.flag (wApll n) APLL_STATE_LOL then t1.lolMessage n else t1
    else t) s

/-- APLL_LOSS_OF_LOCK (R131). -/
def execApllLossOfLock (n : Apll) (s : State) : Host.Outcome State Fault Refusal :=
  let w := wApll n
  .next (if s.apllLock n then
      (((((s.put w APLL_STATE_LOCK 0).put w APLL_STATE_LOL 1).count w APLL_LOLCNT 1).sts w APLL_STS 16).phiDrop n).lolMessage n
    else s)

end Sys2Proof.Machine
end

