-- ==== Sys2Proof/Machine/CalCore.lean ====
section
/-!
DEFINITION. The trims of chapter 17 over the die temperature: interpolation of the knots (R402), and the map from a fret to
its tap (R398).
-/

namespace Sys2Proof.Machine

/-- Temperature point `p` in °C (R402). -/
def State.tpt (s : State) (p : Nat) : Int :=
  toSigned 8 (bitsOf (s.rn W_CAL (if p < 4 then CAL_TPTS0 else CAL_TPTS1)) (8 * (p % 4)) 8)

/-- The filled points. -/
def State.filled (s : State) : List Nat := (List.range 8).filter (fun p => bitOf (s.get W_CAL CAL_TFILL_FILLED) p)

/-- The die temperature in 2^-16 °C (R412). -/
def State.tdie (s : State) : Int := s.ri W_HLTH HLTH_TDIE

/-- R402: the value that the filled points give a knot at temperature `th` (2^-16 °C). -/
def State.interpKnot (s : State) (kind i e : Nat) (th : Int) : Int :=
  let v (p : Nat) : Int := s.knot p kind i e
  match (s.filled.filter (fun p => decide (s.tpt p * 65536 ≤ th))).getLast?,
      (s.filled.filter (fun p => decide (th < s.tpt p * 65536))).head? with
  | none, none => trimDefault (trimKey 0 kind i e)
  | some a, none => v a
  | none, some b => v b
  | some a, some b =>
    v a + quotFree ((th - s.tpt a * 65536) * (v b - v a)) ((s.tpt b - s.tpt a) * 65536)

/-- The values in force of an instance re-formed at the present temperature. -/
def State.reformInst (s : State) (kind i : Nat) : State :=
  s.setKnots 8 kind i 0 ((List.range (calEntries kind)).map (fun e => (s.interpKnot kind i e s.tdie).toNat))

/-- The delay of tap `t`, interpolated linearly between the knots `ks`, as a numerator over 2,256 quarter picoseconds. -/
def tapDelay (ks : List Nat) (t : Nat) : Int :=
  let e := min 15 (t / 48)
  let a : Int := (lget 0 ks e : Nat)
  let b : Int := (lget 0 ks (e + 1) : Nat)
  let len := if e = 15 then 47 else 48
  a * 2256 + (b - a) * (t - 48 * e : Nat) * (2256 / len : Nat)

/-- R398: the tap whose delay lies nearest fret `k` × 1.25 ps, a tie going to the lower tap, with the knots `ks`. -/
def tapOf (ks : List Nat) (k : Nat) : Nat :=
  ((List.range 768).foldl (fun (best : Nat × Nat) t =>
    let d := (tapDelay ks t - 5 * k * 2256).natAbs
    if d < best.2 then (t, d) else best) (0, (tapDelay ks 0 - 5 * k * 2256).natAbs)).1

/-- The tap that the table in force gives fret `k` of channel `n`. -/
def State.fretTap (s : State) (n k : Nat) : Nat := tapOf ((List.range 17).map (s.knot 8 1 n)) k

end Sys2Proof.Machine
end

