-- ==== Sys2Proof/Machine/Dpll.lean ====
section
/-!
DEFINITION. The digital loops (chapter 4): the update cycle, limiters, the step engine, holdover, the lock detector, the
loop states, tied mode and the freeze. The stock loop program is in Machine/LoopProgram.lean.
-/

namespace Sys2Proof.Machine

def State.dpllOn (s : State) (n : Nat) : Bool := s.flag (wDpll n) DPLL_CTL_ENABLE
def State.tied (s : State) (n : Nat) : Bool := n == 0 && s.flag W_DPLL DPLL_CTL_TIED
def State.loopst (s : State) (n : Nat) : Nat := s.get (wDpll n) DPLL_STATE_LOOPST

/-- The events of R97: 0 DPLL_LOCKCHG, 1 DPLL_BIVOUAC, 2 DPLL_STAGE, 3 DPLL_PSTEP; the status bit has the same number. -/
def State.dpllEvent (s : State) (n e : Nat) : State := (s.sts (wDpll n) DPLL_STS (2 ^ e)).raise 5 (8 * n + 4 + e)

/-- Signed register pairs of a loop. -/
def State.psrem (s : State) (n : Nat) : Int := toSigned 48 (s.pair (wDpll n) DPLL_PSREM_LO)
def State.phoff (s : State) (n : Nat) : Int := toSigned 64 (s.pair (wDpll n) DPLL_PHOFF_LO)
def State.dcow (s : State) (n : Nat) : Int := toSigned 48 (s.pair (wDpll n) DPLL_DCOW_LO)
def State.setPsrem (s : State) (n : Nat) (v : Int) : State := s.putPair (wDpll n) DPLL_PSREM_LO (ofSigned 48 v)
def State.setPhoff (s : State) (n : Nat) (v : Int) : State := s.putPair (wDpll n) DPLL_PHOFF_LO (ofSigned 64 v)

/-- How many parts of a word the program's word is kept in, so that a limited slew loses none (R82). -/
def progUnit : Int := 10 ^ 15

/-- The code of an invalid ERR (R100). -/
def errInvalid : Nat := 2 ^ 63

/-! ### Holdover (R92) -/

/-- The loop whose holdover word acts: DPLL3's for DPLL0 in tied mode (R95). -/
def State.hoLoop (s : State) (n : Nat) : Nat := if s.tied n then 3 else n

/-- H(t) now, in word units (R92). -/
def State.holdover (s : State) (n : Nat) : Int :=
  let k := s.hoLoop n
  let w := toSigned 48 (s.pair (wDpll k) DPLL_HOWORD_LO)
  match (s.dpll k).tw with
  | none => w
  | some t0 =>
    satSigned 48 (quotFree (w * 2 ^ 16 * secU + s.ri (wDpll k) DPLL_HORAMP * signedDiff 96 s.tb.c t0) (2 ^ 16 * secU))

/-- HOAGE: seconds since t_w, saturating; 65,535 before the first commit. -/
def State.hoAge (s : State) (n : Nat) : Nat :=
  match (s.dpll (s.hoLoop n)).tw with
  | none => 65535
  | some t0 => min 65535 (signedDiff 96 s.tb.c t0 / secU).toNat

/-! ### Lock flags (R89) -/

/-- Both flags set to the given values; any change raises DPLL_LOCKCHG. -/
def State.setLock (s : State) (n : Nat) (f p : Bool) : State :=
  let w := wDpll n
  if s.flag w DPLL_STATE_FLOCK = f ∧ s.flag w DPLL_STATE_PLOCK = p then s
  else ((((s.put w DPLL_STATE_FLOCK (b2n f)).put w DPLL_STATE_PLOCK (b2n p))).dpllEvent n 0).learnCheck

def State.fltime (s : State) (n : Nat) : Nat := max 1 (s.rn (wDpll n) DPLL_FLTIME) * msU

/-- R89: the windows restart and both flags are cleared. -/
def State.lockRestart (s : State) (n : Nat) : State :=
  (s.setLock n false false).modDpll n (fun x =>
    { x with flEnd := s.after (s.fltime n), flWord := s.dco n, flGood := 0, plSince := none, plBad := 0 })

/-- R89: phase lock after an update with a new sample. -/
def State.plockUpdate (s : State) (n : Nat) : State :=
  let w := wDpll n
  let a := (toSigned 64 (s.pair w DPLL_ERR_LO)).natAbs * 4000
  let thr := s.rn w DPLL_PLTHR * 2 ^ 32
  let x := s.dpll n
  let since := if a ≤ thr then x.plSince.or (some s.tb.c) else none
  let bad := if 2 * thr < a then x.plBad + 1 else 0
  let held := match since with
    | none => false
    | some c0 => decide ((max 1 (s.rn w DPLL_PLTIME) * msU : Nat) ≤ signedDiff 96 s.tb.c c0)
  let p := s.flag w DPLL_STATE_PLOCK
  (s.modDpll n (fun y => { y with plSince := since, plBad := bad })).setLock n (s.flag w DPLL_STATE_FLOCK)
    (if p then decide (bad < 3) else held)

/-- R89: a frequency-lock window has ended. -/
def State.flockWindow (s : State) (n : Nat) : State :=
  let w := wDpll n
  let ch := (s.dco n - (s.dpll n).flWord).natAbs * 4096 * 10 ^ 9
  let thr := s.rn w DPLL_FLTHR * 2 ^ 48
  let good := if ch ≤ thr then (s.dpll n).flGood + 1 else 0
  let f := s.flag w DPLL_STATE_FLOCK
  (s.modDpll n (fun y =>
    { y with flEnd := (y.flEnd + s.fltime n) % 2 ^ 96, flWord := s.dco n, flGood := good })).setLock n
    (if f then decide (ch ≤ 2 * thr) else decide (2 ≤ good)) (s.flag w DPLL_STATE_PLOCK)

/-! ### Loop states (R93) -/

/-- The loop state that the conditions of R93 give (log entry 26). -/
def State.loopState (s : State) (n : Nat) : Nat :=
  if (s.dpll n).frozen then 5
  else if ¬ s.dpllOn n then 0
  else if s.tied n then 6
  else if (s.dpll n).stall then 4
  else if s.selSt n = 0 ∨ s.selMode n = 2 ∨ (s.selSt n = 1 ∧ (s.sel n).returning) then 3
  else if s.selSt n = 1 then 2
  else 1

/-- The cause of an entry into FROZEN, STALL or BIVOUAC (R94, R100). -/
def State.bivCause (s : State) (n st : Nat) : Nat :=
  if st = 5 then 3 else if st = 4 then 2 else if s.selMode n = 2 then 1 else 0

/-- R93, R94: the loop enters the state that its conditions give. -/
def State.enterLoop (s : State) (n : Nat) : State :=
  let w := wDpll n
  let old := s.loopst n
  let st := s.loopState n
  if st = old then s
  else
    let s1 := s.put w DPLL_STATE_LOOPST st
    let s2 := if 3 ≤ st ∧ st ≤ 5 then (s1.dpllEvent n 1).put w DPLL_STS_CAUSE (s.bivCause n st) else s1
    let s3 := if st = 1 ∧ old ≠ 6 then s2.lockRestart n else s2
    (if st = 3 ∨ old = 3 then s3.bivTrack n (st == 3) else s3).learnCheck

/-! ### The active word -/

/-- The active word becomes `v`: the feedback phase reached is kept (R64). -/
def State.setDco (s : State) (n : Nat) (v : Int) : State :=
  (s.modDpll n (fun x => { x with fb := s.feedback n, fbAt := s.tb.c })).putPair (wDpll n) DPLL_DCO_LO
    (ofSigned 48 (satSigned 48 v))

/-- A part of the move in progress that has been made since the last update instant (R91). -/
def State.movePart (s : State) (n : Nat) : Int :=
  quotFree ((s.dpll n).moving * (s.tb.c % (s.uper n * usU) : Nat)) (s.uper n * usU : Nat)

/-- The interrupted period's move counts in Φ as far as it was made. -/
def State.settleMove (s : State) (n : Nat) : State :=
  (s.setPhoff n (s.phoff n + s.movePart n)).modDpll n (fun x => { x with moving := 0, stepFrac := 0 })

/-- R91: a step ends: 0 DONE, 1 ABORT, 2 FREEZE, 3 DISABLE. -/
def State.stepEnd (s : State) (n cause : Nat) : State :=
  (((s.setPsrem n 0).dpllEvent n 3).put (wDpll n) DPLL_STS_PSCAUSE cause).learnCheck

/-- R91: a step in progress is discarded. -/
def State.stepAbort (s : State) (n cause : Nat) : State := if s.psrem n = 0 then s else s.stepEnd n cause

/-! ### The update (R79) -/

/-- FLIM in word units as it acts (R100). -/
def State.flim (s : State) (n : Nat) : Int :=
  (min 1000000 (max 1 (s.rn (wDpll n) DPLL_FLIM)) * 2 ^ 48 / 10 ^ 9 : Nat)

/-- R82: the program's word after the slew limit, in 10^-15 of a unit, and whether the limit acted. -/
def State.slewed (s : State) (n : Nat) : Int × Bool :=
  let x := s.dpll n
  let want := x.target * progUnit
  let lim : Int := s.rn (wDpll n) DPLL_FSLEW * s.uper n * 2 ^ 48
  if lim = 0 then (want, false)
  else if want - x.prog > lim then (x.prog + lim, true)
  else if want - x.prog < -lim then (x.prog - lim, true)
  else (want, false)

/-- R91: the move of the coming period in fs and the fraction kept, in tenths. -/
def State.stepMove (s : State) (n : Nat) : Int × Nat :=
  let rem := s.psrem n
  if rem = 0 ∨ s.selSt n = 2 ∨ (s.dpll n).frozen then (0, (s.dpll n).stepFrac)
  else
    let q := s.slope n * s.uper n + (s.dpll n).stepFrac
    let m := min rem.natAbs (q / 10)
    (if 0 < rem then m else -(m : Int), q % 10)

/-- The feed-forward of a move of `m` fs, in word units (R91). -/
def feedFwd (m : Int) (uper : Nat) : Int := quotFree (m * 2 ^ 48) (10 ^ 9 * uper)

/-- R82: the sum of the program's word `base` and the feed-forward of `m`, within ±`lim`: the word, the move that fits, and
whether the clamp acted. -/
def clampSum (base m lim : Int) (uper : Nat) : Int × Int × Bool :=
  let v := base - feedFwd m uper
  if -lim ≤ v ∧ v ≤ lim then (v, m, false)
  else
    let room : Int := max 0 (if 0 ≤ m then base + lim else lim - base)
    let a := min m.natAbs (room * (10 ^ 9 * uper) / 2 ^ 48).toNat
    let m1 : Int := if 0 ≤ m then a else -(a : Int)
    (clampInt (-lim) lim (base - feedFwd m1 uper), m1, true)

/-- R79 step 1: ERR from the newest sample of the source steered on, in 2^-32 ns; invalid in OFF, BIVOUAC and before the
source's first sample. -/
def State.dpllErr (s : State) (n : Nat) : State :=
  let st := s.loopst n
  if st = 0 ∨ st = 3 ∨ ¬ s.steerSample n then s.putPair (wDpll n) DPLL_ERR_LO errInvalid
  else
    let e := s.effError n * 2 ^ 16 + quotFree (s.phoff n * 2 ^ 32) (10 ^ 6)
    s.putPair (wDpll n) DPLL_ERR_LO (ofSigned 64 (satSigned 64 e))

/-- Whether ERR comes from a sample not seen before (R83, R89). -/
def State.newSample (s : State) (n : Nat) : Bool :=
  let k := s.selSteer n
  s.pair (wDpll n) DPLL_ERR_LO != errInvalid &&
    ((s.dpll n).seenSrc != k || (s.dpll n).seen != (s.src k).samples)

/-- R79 step 2, R80: commits since the last instant, and the count of updates without one. -/
def State.dpllCommits (s : State) (n : Nat) : State :=
  let x := s.dpll n
  if x.granted then s.modDpll n (fun y => { y with granted := false, missRun := 0, stall := false })
  else
    let run := x.missRun + 1
    (s.count (wDpll n) DPLL_MISSCNT 1).modDpll n (fun y =>
      { y with missRun := run
               stall := y.stall || (!s.tied n && decide (max 1 (s.get (wDpll n) DPLL_CFG_STALLN) ≤ run)) })

/-- R79: a word written with COMMIT becomes the program's target at the update instant. -/
def State.dpllCommitted (s : State) (n : Nat) : State :=
  if (s.dpll n).committed then s.modDpll n (fun x => { x with target := s.dcow n, committed := false }) else s

/-- The word `v` in force for the coming period, with the program's target and word, the move `m` of the period (R91) and
the fraction of a femtosecond kept. -/
def State.dpllWordSet (s : State) (n : Nat) (target prog m : Int) (fr : Nat) (v : Int) : State :=
  ((s.modDpll n (fun x =>
    { x with target := target, prog := prog, moving := m, stepFrac := fr, ff := feedFwd m (s.uper n) })).setPsrem n
    (s.psrem n - m)).setDco n v

/-- Steps 2 to 4 of R79 in state `st`: the word of the coming period, the move and its effects on PSREM. -/
def State.dpllWord (s : State) (n st : Nat) : State :=
  let w := wDpll n
  let up := s.uper n
  let mv := s.stepMove n
  if st = 1 ∨ st = 3 then
    let s1 := s.dpllCommitted n
    let p := s1.slewed n
    let v := clampSum (quotFree p.1 progUnit) mv.1 (s.flim n) up
    let s2 := if p.2 then s1.sts w DPLL_STS 128 else s1
    let s3 := if v.2.2 then s2.sts w DPLL_STS 64 else s2
    s3.dpllWordSet n (s3.dpll n).target p.1 v.2.1 mv.2 v.1
  else
    let base := if st = 6 then s.dco 3 else if st = 0 then s.dco n else s.holdover n
    let m := if st = 0 then 0 else mv.1
    s.dpllWordSet n base (base * progUnit) m mv.2 (base - feedFwd m up)

/-- R95: DPLL3's word reaches DPLL0 at DPLL3's update instants, from the setting of TIED to its clearing. -/
def State.tiedFollow (s : State) : State :=
  if s.tied 0 ∧ s.dpllOn 0 ∧ ¬ (s.dpll 0).frozen then (s.setDco 0 (s.dco 3 - (s.dpll 0).ff)).brgDeliver 0 (s.uper 0) false else s

/-- R79: one update of loop `n`. -/
def State.dpllUpdate (s : State) (n : Nat) : State :=
  let w := wDpll n
  let s0 := s.brgResume
  if ¬ s0.dpllOn n ∧ ¬ (s0.dpll n).frozen then s0.brgDeliver n (s0.uper n) true
  else
    let s1 := ((s0.count w DPLL_UPDCNT 1).setPhoff n (s0.phoff n + (s0.dpll n).moving)).modDpll n
      (fun x => { x with moving := 0 })
    let s2 := ((s1.dpllCommits n).enterLoop n).dpllErr n
    let st := s2.loopst n
    let fresh := s2.newSample n
    let s3 := s2.modDpll n (fun x =>
      if fresh then { x with seenSrc := s2.selSteer n, seen := (s2.src (s2.selSteer n)).samples } else x)
    let s4 := s3.dpllWord n st
    let s5 := if s3.psrem n ≠ 0 ∧ s4.psrem n = 0 then s4.stepEnd n 0 else s4
    let s6 := (s5.brgDeliver n (s5.uper n) true)
    let s7 := if n = 3 then s6.tiedFollow else s6
    let s8 := (s7.estUpdate n st).pullRamp n
    let s9 := if fresh then s8.plockUpdate n else s8
    s9.engPend (1 + n) 0 (BitVec.ofNat 64 (s9.rn w DPLL_UPDCNT))

/-! ### What writes do -/

/-- R93: whether writes of DCOW, HOWORD and HORAMP are ignored. -/
def State.dpllFrozen (s : State) (n : Nat) : Bool := (s.dpll n).frozen

/-- R79: LPn has committed a word to the shadow. -/
def State.dcowCommit (s : State) (n : Nat) : State := s.modDpll n (fun x => { x with committed := true, granted := true })

/-- R92: HOWORD has been committed. -/
def State.howordCommit (s : State) (n : Nat) : State := s.modDpll n (fun x => { x with tw := some s.tb.c })

/-- R90: whether a step of `a` fs is refused. -/
def State.pstepRefused (s : State) (n : Nat) (a : Int) : Bool :=
  let r := s.psrem n + a
  decide (r < -(2 : Int) ^ 47 ∨ (2 : Int) ^ 47 ≤ r) || !s.dpllOn n || (s.dpll n).frozen

/-- R90: PSREF for a refused step. -/
def State.pstepRef (s : State) (n : Nat) : State := s.sts (wDpll n) DPLL_STS 16

/-- R90: a step of `a` fs is added to PSREM; a sum of zero ends a step in progress (R91). Where R7 counts phase-step commands
in TB units, the unit taken for a loop's step is the femtosecond of R3's table and of R90 (log entry 91). -/
def State.pstep (s : State) (n : Nat) (a : Int) : State :=
  let r := s.psrem n + a
  if s.psrem n ≠ 0 ∧ r = 0 then s.stepEnd n 0 else (s.setPsrem n r).learnCheck

/-- R96: whether an enable is refused: 0.75 × UPER below the bound of LPn's image at 380 MIPS. -/
def State.budgetBad (s : State) (n : Nat) : Bool := decide (285 * s.uper n < s.get (W_ENG + 1 + n) ENG_BOUND_V)

/-- R99: ENABLE has been set. -/
def State.dpllEnabled (s : State) (n : Nat) : State :=
  let w := wDpll n
  let s1 := ((((s.setPhoff n 0).setPsrem n 0).putPair w DPLL_ERR_LO errInvalid).wr w DPLL_MISSCNT 0).wr w DPLL_UPDCNT 0
  let s2 := (s1.modDpll n (fun x =>
    { x with committed := false, granted := false, target := s.dco n, prog := s.dco n * progUnit, missRun := 0,
             stall := false, ff := 0, moving := 0, stepFrac := 0, seenSrc := 31, seen := 0, enables := x.enables + 1 })).lockRestart n
  (s2.estClear n).enterLoop n

/-- R99: ENABLE has been cleared: a step ends, the word is held. -/
def State.dpllDisabled (s : State) (n : Nat) : State :=
  let s1 := ((s.settleMove n).stepAbort n 3).modDpll n (fun x => { x with stall := false, committed := false })
  ((s1.enterLoop n).putPair (wDpll n) DPLL_ERR_LO errInvalid).estClear n

/-- R94: the freeze: H(t) at once, at every destination (R135). -/
def State.freeze (s : State) (n : Nat) : State :=
  let s1 := ((s.settleMove n).stepAbort n 2).modDpll n (fun x =>
    { x with frozen := true, committed := false, granted := false, ff := 0 })
  let s2 := ((s1.enterLoop n).setDco n (s1.holdover n)).brgDeliver n (s.uper n) false
  s2.putSelF n DPLL_SEL_STATE_FROZEN 1

/-- R94, R74: the freeze ends: transfers go on from the word held, the selector takes its choice as a return. A disabled loop
is OFF again at once, an enabled one enters its state at its next update (R93). -/
def State.unfreeze (s : State) (n : Nat) : State :=
  let s1 := s.modDpll n (fun x =>
    { x with frozen := false, target := s.dco n, prog := s.dco n * progUnit, thaws := x.thaws + 1 })
  let s2 := ((s1.putSelF n DPLL_SEL_STATE_FROZEN 0).selTrigger n .unfreeze).selEval n
  if s2.dpllOn n then s2 else s2.enterLoop n

/-- R95: TIED has been set. -/
def State.tiedSet (s : State) : State := s.putSelF 0 DPLL_SEL_STATE_TIED 1

/-- R95, R73: TIED has been cleared: the shadow takes the active word, the selector takes its choice as a change. -/
def State.tiedCleared (s : State) : State :=
  let v := s.dco 0
  let s1 := (s.putPair W_DPLL DPLL_DCOW_LO (ofSigned 48 v)).modDpll 0 (fun x =>
    { x with committed := false, target := v, prog := v * progUnit })
  ((s1.putSelF 0 DPLL_SEL_STATE_TIED 0).selTrigger 0 .untie).selEval 0

/-- R87: LPn has written LPSTAT over `old`: a change of STAGE raises DPLL_STAGE. -/
def State.lpstatWritten (s : State) (n old : Nat) : State :=
  if s.get (wDpll n) DPLL_LPSTAT_STAGE ≠ old % 8 then s.dpllEvent n 2 else s

/-- What DPLLn_STATE reads as: ALIGNED, PSACT and HOAGE are live (R100). -/
def State.dpllStateReg (s : State) (n : Nat) : Nat :=
  let w := wDpll n
  let step := decide (s.psrem n ≠ 0)
  let al := s.flag w DPLL_STATE_PLOCK && s.selSt n == 3 && !s.flag w DPLL_SEL_STATE_BO && !step
  putBits (putBits (putBits (s.rn w DPLL_STATE) 6 1 (b2n al)) 7 1 (b2n step)) 16 16 (s.hoAge n)

/-! ### The commands -/

/-- DPLL_UPDATE (R79): at an update instant; `baw` is the BAW offset that the XO monitor measured last (R81). -/
def execDpllUpdate (n : Loop) (baw : Int) (s : State) : Host.Outcome State Fault Refusal :=
  let u := s.uper n * usU
  .next (if s.gridDue u (s.dpll n).updIdx then
      ((s.bawMeasured baw).modDpll n (fun x => { x with updIdx := s.tb.c / u })).dpllUpdate n
    else s)

/-- FLOCK_WINDOW_END (R89). -/
def execFlockWindowEnd (n : Loop) (s : State) : Host.Outcome State Fault Refusal :=
  .next (if s.dpllOn n ∧ s.due (s.dpll n).flEnd then s.flockWindow n else s)

end Sys2Proof.Machine
end

