-- ==== Sys2Proof/Machine/Waveform.lean ====
section
/-!
DEFINITION. What the output channels drive (R142 to R147, R153, R158, R175, R178): the clocks and their phases, the divider's
wave, pulses, the SYSREF gate of each channel, the delay, and the levels of both pins. Phases are in units of `clkK`.
-/

namespace Sys2Proof.Machine

/-- The window of channel `n`. -/
def wOut (n : Nat) : Nat := W_OUT + n

/-- OUTST (R164): 0 HIZ, 1 IDLE, 2 STARTING, 3 RUN, 4 STOPPING. -/
def State.outst (s : State) (n : Nat) : Nat := s.get (wOut n) OUT_STATE_OUTST
def State.outRun (s : State) (n : Nat) : Bool := s.outst n == 3

/-- SAFEACT: 0 none, 1 SAFE_HOLD, 2 SAFE_STOP, 3 SAFE_HIZ; the last two gate the pin. -/
def State.safeAct (s : State) (n : Nat) : Nat := s.get (wOut n) OUT_STATE_SAFEACT
def State.gated (s : State) (n : Nat) : Bool := decide (2 ≤ s.safeAct n)

/-! ### The channel clock -/

/-- MODE as it acts: 3 acts as CLOCK. -/
def State.outMode (s : State) (n : Nat) : Nat :=
  let m := s.get (wOut n) OUT_CFG_MODE
  if m = 3 then 0 else m

def State.clksel (s : State) (n : Nat) : Nat := s.get (wOut n) OUT_CFG_CLKSEL
def State.outDiv (s : State) (n : Nat) : Nat := max 1 (s.get (wOut n) OUT_DIV_V)

/-- PREDIV as it acts: 1 for the TB clock and DSYN. -/
def State.prediv (s : State) (n : Nat) : Nat :=
  if 2 ≤ s.clksel n then 1 else min 8 (max 4 (s.get (wOut n) OUT_CFG_PREDIV))

/-- The nominal channel clock in Hz as a fraction (R142). -/
def State.chanClk (s : State) (n : Nat) : Nat × Nat :=
  if 2 ≤ s.clksel n then (10 ^ 9, 1)
  else (2400000000 * s.mNom (s.clksel n), s.rdiv (s.clksel n) * 2 ^ 48 * s.prediv n)

/-- The half-step in TB units as a fraction (R147). -/
def State.halfStep (s : State) (n : Nat) : Nat × Nat :=
  let (a, b) := s.chanClk n
  (b * 65536 * 10 ^ 9, 2 * a)

/-! ### Phases -/

/-- The phase of clock `sel` (0 APLLA, 1 APLLB, 2 TB, 3 DSYN) at count `c`. -/
def State.clkPhase (s : State) (sel c : Nat) : Int :=
  if sel < 2 then s.vcoPhase sel c
  else if sel = 2 then c * (clkK / 65536)
  else c * (clkK / 65536) + s.dsynPos c * (clkK / 1024)

/-- The phase of channel `n`'s clock at count `c`, and now. -/
def State.phaseAt (s : State) (n c : Nat) : Int := s.clkPhase (s.clksel n) c
def State.phaseNow (s : State) (n : Nat) : Int := s.phaseAt n s.tb.c

/-- A half-step of channel `n` (R147) and its output period, as phases. -/
def State.stepPh (s : State) (n : Nat) : Int := clkK / 2 * s.prediv n
def State.periodPh (s : State) (n : Nat) : Int := 2 * s.outDiv n * s.stepPh n

/-- The least number of the grid `a + k u` that is at least `p`. -/
def gridUp (a u p : Int) : Int := a + ceilInt (p - a) u * u

/-! ### The divided clock (R143, R158) -/

/-- R143: how long the output is high in a period. -/
def State.highPh (s : State) (n : Nat) : Int :=
  (if s.flag (wOut n) OUT_CFG_DUTY then s.rn (wOut n) OUT_WIDTH else s.outDiv n : Nat) * s.stepPh n

/-- R143: the divided clock at phase `p` of a divider with a rising edge at `e`. -/
def State.divHigh (s : State) (n : Nat) (e p : Int) : Bool := decide ((p - e) % s.periodPh n < s.highPh n)

/-- R158: the wave that a reset ends, at phase `p` before the restart edge `e`: a high phase is complete, or ends one half-step
before that edge; none begins within two half-steps of it, so that no phase is shorter than one. -/
def State.lastHigh (s : State) (n : Nat) (old e p : Int) : Bool :=
  s.divHigh n old p && decide (p < e - s.stepPh n) && decide (p - (p - old) % s.periodPh n ≤ e - 2 * s.stepPh n)

/-- The divided clock of channel `n` at phase `p`. -/
def State.divLevel (s : State) (n : Nat) (p : Int) : Bool :=
  let x := s.chan n
  match x.start with
  | none => false
  | some e =>
    if e ≤ p then s.divHigh n e p
    else match x.prev with
      | some o => decide (o ≤ p) && s.lastHigh n o e p
      | none => false

/-- The end of the high phase of the divided clock in which phase `p` lies. -/
def State.highEnd (s : State) (n : Nat) (p : Int) : Int :=
  let x := s.chan n
  match x.start with
  | none => p
  | some e =>
    if e ≤ p then p + s.highPh n - (p - e) % s.periodPh n
    else min (e - s.stepPh n) (p + s.highPh n - (p - x.prev.getD e) % s.periodPh n)

/-- The first rising edge of the divider of channel `n` at or after phase `p`. -/
def State.firstEdge (s : State) (n : Nat) (p : Int) : Int :=
  let x := s.chan n
  match x.start with
  | none => p
  | some e =>
    if e ≤ p then gridUp e (s.periodPh n) p
    else match x.prev with
      | some o =>
        let q := gridUp o (s.periodPh n) p
        if q ≤ e - 2 * s.stepPh n then q else e
      | none => e

/-! ### SYSREF (R146, R175) -/

/-- The generator of channel `n` (SYNC_SRMAP). -/
def State.srOf (s : State) (n : Nat) : Nat := bitsOf (s.rn W_SYNC (SYNC_SRMAP0 + 4 * (n / 16))) (2 * (n % 16)) 2

/-- A SYSREF generator not yet started. -/
def SrSt.idle : SrSt := ⟨0, 1, 1, 0, none, false⟩
def State.sr (s : State) (g : Nat) : SrSt := lget SrSt.idle s.sync.srs g
def State.modSr (s : State) (g : Nat) (f : SrSt → SrSt) : State := s.setSync { s.sync with srs := lupd SrSt.idle s.sync.srs g f }

/-- SRST: 0 IDLE, 1 ARMED, 2 RUN, 3 STOPPING. -/
def srOff (g : Nat) : Nat := 0x20 * g
def State.srst (s : State) (g : Nat) : Nat := s.get W_SYNC (SYNC_SR_STATE_SRST.up (srOff g))

/-- R175: whether the pattern admits its period `j`, counted from 0. -/
def SrSt.admits (x : SrSt) (j : Nat) : Bool :=
  if x.kind = 0 ∨ (x.kind = 2 ∧ x.off = 0) then true
  else if x.kind = 2 then decide (j % (x.on + x.off) < x.on)
  else decide (j < x.on)

/-- Periods of channel `n` begun at phase `p` that its generator counts (R175, R177). -/
def State.srCount (s : State) (n : Nat) (p : Int) : Nat :=
  match (s.chan n).sr with
  | none => 0
  | some (b, e) => if e ≤ p then b + ((p - e) / s.periodPh n).toNat + 1 else b

/-- R146: whether channel `n` passes the period in which phase `p` lies. -/
def State.srPass (s : State) (n : Nat) (p : Int) : Bool :=
  let k := s.srCount n p
  k != 0 && (s.sr (s.srOf n)).admits (k - 1) &&
    (match (s.chan n).srLimit with | some l => decide (k ≤ l) | none => true)

/-! ### What the channel drives -/

/-- Phase `p` lies within the newest pulse; in SYSREF mode, within the period that SYNC's reset leaves to complete (R187). -/
def State.inPulse (s : State) (n : Nat) (p : Int) : Bool :=
  match (s.chan n).pulse with
  | some (a, b) => decide (a ≤ p ∧ p < b)
  | none => false

/-- R144: the channel's output at phase `p`, before its delays and a safe gate. -/
def State.outLevel (s : State) (n : Nat) (p : Int) : Bool :=
  if s.outMode n = 1 then s.inPulse n p
  else if s.outMode n = 2 then s.divLevel n p && (s.srPass n p || s.inPulse n p)
  else s.divLevel n p

/-- Whether the channel drives a high phase now; a gate, a stop and a fret move wait for its end (R149, R152, R155). -/
def State.outHigh (s : State) (n : Nat) : Bool :=
  (s.outst n == 3 || s.outst n == 4) && !s.gated n && s.outLevel n (s.phaseNow n)

/-- R147: fret_delay(a) in TB units: 1.25 ps per fret, and what the linearisation leaves (R154; log entry 97). -/
def State.fretDelay (_s : State) (n a : Nat) : Int := quotFree (a * 8192) 100 + clampInt (-32) 32 (Config.fretDev n a)

/-- R147: the channel's output at the pin at count `c`: behind the fixed latency and d = coarse_app × h + fret_delay(a). -/
def State.outDelayed (s : State) (n c : Nat) : Bool :=
  let back : Int := Config.outLatency + s.fretDelay n (s.get (wOut n) OUT_FRETAPP_A)
  s.outLevel n (s.phaseAt n (addSigned 96 c (-back)) - s.get (wOut n) OUT_STATE_COARSEAPP * s.stepPh n)

/-- A pin is low, high, or high-impedance. -/
inductive PinLevel
  | low | high | z
  deriving DecidableEq, Repr

def PinLevel.of (b : Bool) : PinLevel := if b then .high else .low

/-- R153: the N pin of dual CMOS against the P pin at level `p`. -/
def cmosN (pol : Nat) (p : Bool) : PinLevel :=
  match pol with
  | 0 => .of p
  | 1 => .of (!p)
  | 2 => .low
  | _ => .z

/-- R152, R153, R155, R178: the levels of the P and N pins of channel `n` at count `c`. A driver that is off is
high-impedance; an idle or gated one, and a SYSREF channel between admitted periods, drives P low. -/
def State.pins (s : State) (n c : Nat) : PinLevel × PinLevel :=
  let w := wOut n
  if s.outst n = 0 ∨ (s.safeAct n = 3 ∧ ¬ (s.chan n).resume) then (.z, .z)
  else
    let runs := (s.outst n == 3 || s.outst n == 4) && !s.gated n
    let p := runs && s.outDelayed n c
    if s.get w OUT_DRV_FMT ≠ 3 then (.of p, .of (!p))
    else if ¬ runs ∧ s.get w OUT_DRV_CMOSPOL = 1 then (.low, .low)
    else (.of p, cmosN (s.get w OUT_DRV_CMOSPOL) p)

end Sys2Proof.Machine
end

