-- ==== Sys2Proof/Machine/Channels.lean ====
section
/-!
DEFINITION. The output channels (chapter 7): enable and disable, delays and the fret walk, pulses, safe actions, divider
resets and the two detectors. Times within the first microsecond of a start, a stop or a gate are not kept (log entry 35).
-/

namespace Sys2Proof.Machine

/-- R161: event bit `b` of OUTn_STS with OUT_EVT. -/
def State.outEvent (s : State) (n b : Nat) : State :=
  (s.sts (wOut n) OUT_STS (2 ^ b)).raise (if n < 32 then 7 else 8) (n % 32)

/-- The frequency limit of each format in Hz (R153). -/
def fmtLimit (fmt : Nat) : Nat :=
  if fmt = 0 then 1600000000 else if fmt = 1 then 500000000 else if fmt = 2 then 3200000000 else 250000000

/-- R151: whether an enable is refused for range. -/
def State.outRangeBad (s : State) (n : Nat) : Bool :=
  let w := wOut n
  let (a, b) := s.chanClk n
  let div := s.outDiv n
  let width := s.rn w OUT_WIDTH
  decide (fmtLimit (s.get w OUT_DRV_FMT) * b * div < a) ||
    (s.outMode n != 1 && s.flag w OUT_CFG_DUTY && decide (width < 1 ∨ 2 * div - 1 < width)) ||
    (s.outMode n == 1 && width == 0) || (decide (s.clksel n < 2) && !s.apllOn (s.clksel n))

/-! ### Frets (R149, R150) -/

def State.fretA (s : State) (n : Nat) : Nat := s.get (wOut n) OUT_FRETAPP_A
def State.fretT (s : State) (n : Nat) : Nat := s.get (wOut n) OUT_FRETAPP_T

/-- R149: the fret target follows FRET, FCOMP and FCAL. -/
def State.outRetarget (s : State) (n : Nat) : State :=
  let w := wOut n
  let v : Int := s.get w OUT_FRET_V + toSigned 10 (s.get w OUT_FCOMP_V) + toSigned 10 (s.get w OUT_FCAL_V)
  let t := clampInt 0 511 v
  let was := s.flag w OUT_STATE_FCLAMP
  let s1 := (s.put w OUT_FRETAPP_T t.toNat).put w OUT_STATE_FCLAMP (b2n (decide (t ≠ v)))
  if t ≠ v ∧ ¬ was then s1.outEvent n 4 else s1

/-- A jumps to T, and the tap with it (R150). -/
def State.fretJump (s : State) (n : Nat) : State :=
  (s.put (wOut n) OUT_FRETAPP_A (s.fretT n)).modOut n (fun x => { x with tap := s.fretTap n (s.fretT n) })

/-- A moves to the fret `a`: the tap moves by what the table in force gives for the move (R149). -/
def State.fretStep (s : State) (n a : Nat) : State :=
  let d : Int := (s.fretTap n a : Int) - s.fretTap n (s.fretA n)
  (s.put (wOut n) OUT_FRETAPP_A a).modOut n (fun x => { x with tap := (clampInt 0 767 (x.tap + d)).toNat })

/-- R150: while the table changes, the tap moves by one towards the tap of the fret applied. -/
def State.tapMove (s : State) (n : Nat) : State :=
  let want := s.fretTap n (s.fretA n)
  s.modOut n (fun x => { x with tap := if x.tap < want then x.tap + 1 else if want < x.tap then x.tap - 1 else x.tap })

/-- The pending COARSE comes into force (R148). -/
def State.coarseNow (s : State) (n : Nat) : State := s.put (wOut n) OUT_STATE_COARSEAPP (s.get (wOut n) OUT_COARSE_V)

/-- FSTEP in TB units (R150). -/
def State.fstep (s : State) (n : Nat) : Nat := max 1 (s.get (wOut n) OUT_FSTEP_V) * 100 * usU

/-! ### Driver detector (R159) -/

/-- R159: a driver failure on an unmasked channel. -/
def State.drvDetect (s : State) (n : Nat) : State :=
  let w := wOut n
  ((((s.put w OUT_STATE_DRVBAD 1).count w OUT_DRVCNT 1).outEvent n 7).modOut n (fun x => { x with owed := false })).fault w
    K_DRV_FAULT (regAddr w OUT_STATE)

/-- DFN as it acts (R159). -/
def State.dfn (s : State) (n : Nat) : Nat := max 1 (s.get (wOut n) OUT_DFCFG_DFN)

/-- R386: the detector's mask has ended. -/
def State.drvUnmask (s : State) (n : Nat) : State :=
  if (s.chan n).owed ∧ s.outRun n ∧ ¬ s.gated n ∧ ¬ s.flag (wOut n) OUT_STATE_DRVBAD then s.drvDetect n else s

/-! ### Enable, disable, safe actions -/

/-- The safe action as it acts: 0 SAFE_HOLD, 1 SAFE_STOP, 2 SAFE_HIZ. -/
def State.safeSel (s : State) (n : Nat) : Nat :=
  let a := s.get (wOut n) OUT_SAFE_SAFE
  if a = 3 then 0 else a

/-- R155, R157: action `a` in force at the channel. SAFEACT shows SAFE_HOLD while the safe state lasts; a gate stays until
RESUME, whatever a later escalation commands. -/
def State.outSafe (s : State) (n a : Nat) : State :=
  let shown := if a ≠ 0 then a + 1 else if s.gated n then s.safeAct n else b2n s.safe
  ((s.modOut n (fun x => { x with safePend := none })).put (wOut n) OUT_STATE_SAFEACT shown).outEvent n 2

/-- R152: the divider is released: COARSE and A = T come into force, the counter pair reloads (R160), the channel runs, or
starts under its safe action (R156). The release lies two to three periods of its clock later (log entry 97). -/
def State.outStart (s : State) (n : Nat) : State :=
  let w := wOut n
  let (f, s0) := s.takeFree
  let edge := s.phaseNow n + 4 * s.stepPh n + (f : Int) % (2 * s.stepPh n)
  let runs := s.srst (s.srOf n) == 2
  let s1 := ((((s0.coarseNow n).fretJump n).put w OUT_STATE_DIVBAD 0).put w OUT_STATE_OUTST 3).modOut n
    (fun x => { x with fretNext := none, start := some edge, prev := none, pulse := none, resume := false, srLimit := none,
                       sr := if runs then some (0, edge) else none })
  match (s.chan n).safePend.or (if s.safe then (s.chan n).safeCap.or (some (s.safeSel n)) else none) with
  | some a => if a = 0 then ((s1.outEvent n 0).outSafe n 0).drvUnmask n else s1.outSafe n a
  | none => (s1.outEvent n 0).drvUnmask n

/-- R152: ENABLE has been set: the channel waits for the lock of its APLL, or starts. -/
def State.outEnabled (s : State) (n : Nat) : State :=
  let s1 := s.put (wOut n) OUT_STATE_OUTST 2
  if s.clksel n < 2 ∧ ¬ s.apllLock (s.clksel n) then s1 else s1.outStart n

/-- The state of a disabled channel: IDLE or HIZ, as DISST says. -/
def State.outRest (s : State) (n : Nat) : State :=
  s.put (wOut n) OUT_STATE_OUTST (if s.flag (wOut n) OUT_CTL_DISST then 1 else 0)

/-- R152, R156: the channel has stopped; a gate and an action that waits end with it. -/
def State.outFinish (s : State) (n : Nat) : State :=
  (((s.outRest n).put (wOut n) OUT_STATE_SAFEACT 0).modOut n
    (fun x => { x with safePend := none, fretNext := none, start := none, prev := none, pulse := none, sr := none,
                       srLimit := none, resume := false })).outEvent n 1

/-- R152: ENABLE has been cleared: STOPPING until the divider boundary; a channel not yet released has no pulse to end. -/
def State.outDisabled (s : State) (n : Nat) : State :=
  if (s.chan n).start.isNone then s.outFinish n else s.put (wOut n) OUT_STATE_OUTST 4

/-- R152: OUTn_CTL has been written over `old`. -/
def State.outCtlWritten (s : State) (n old : Nat) : State :=
  let on := s.flag (wOut n) OUT_CTL_ENABLE
  let stopping := s.outst n = 4
  if on ∧ ¬ bitOf old 0 then (if stopping then s.outFinish n else s).outEnabled n
  else if ¬ on ∧ bitOf old 0 then s.outDisabled n
  else if ¬ on ∧ ¬ stopping then s.outRest n
  else s

/-- R155, R156: the safe-state command: the action in force at that moment is captured, for a channel enabled later too. -/
def State.outSafeCommand (s : State) (n : Nat) : State :=
  let a := some (s.safeSel n)
  let on := s.flag (wOut n) OUT_CTL_ENABLE
  s.modOut n (fun x => { x with safeCap := a, safePend := if on then a else x.safePend, resume := false })

/-- The fault state has been left: SAFE_HOLD ends. A channel still STARTING keeps its action for its release (R156, R157). -/
def State.outSafeEnd (s : State) (n : Nat) : State :=
  let s1 := s.modOut n (fun x => { x with safeCap := none })
  if s.safeAct n = 1 then s1.put (wOut n) OUT_STATE_SAFEACT 0 else s1

/-- R157: the gate opens; for SAFE_HIZ COARSE comes into force too. -/
def State.outUngate (s : State) (n : Nat) : State :=
  let s1 := if s.safeAct n = 3 then s.coarseNow n else s
  ((((s1.fretJump n).put (wOut n) OUT_STATE_SAFEACT 0).modOut n (fun x => { x with resume := false })).outEvent n 0).drvUnmask n

/-- R157: RESUME: the gate opens at the next divider boundary, so that the first high phase is whole. -/
def State.outResume (s : State) (n : Nat) : State :=
  if s.flt.st = .idle ∧ s.gated n then
    if s.outLevel n (s.phaseNow n) then s.modOut n (fun x => { x with resume := true }) else s.outUngate n
  else s

/-- A divider boundary of channel `n`, or a low output, completes what waits for it: a disable (R152), a RESUME (R157). -/
def State.outTurn (s : State) (n : Nat) : State :=
  let x := s.chan n
  if x.start.isNone then s
  else if s.outst n = 4 ∧ ¬ s.outHigh n then s.outFinish n
  else if x.resume ∧ ¬ s.outLevel n (s.phaseNow n) then s.outUngate n
  else s

def State.outTick (s : State) : State := (List.range 40).foldl State.outTurn s

/-! ### Pulses and resets -/

/-- R145: a generator with instant `t` fires on a PULSE channel: the pulse starts at the first edge of the channel clock at or
after that instant, or after this tick where the instant lies before the last one; one in progress is lengthened. -/
def State.outFire (s : State) (n t : Nat) : State :=
  if s.outRun n ∧ s.outMode n = 1 then
    let d := signedDiff 96 t s.now
    let back := if -(tickU : Int) ≤ d ∧ d ≤ 0 then d else 0
    let at_ := gridUp ((s.chan n).start.getD 0) (2 * s.stepPh n) (s.phaseAt n (addSigned 96 s.tb.c back))
    let stop := at_ + s.rn (wOut n) OUT_WIDTH * s.stepPh n
    match (s.chan n).pulse with
    | some (a, b) =>
      if at_ < b then (s.modOut n (fun x => { x with pulse := some (a, stop) })).outEvent n 5
      else s.modOut n (fun x => { x with pulse := some (at_, stop) })
    | none => s.modOut n (fun x => { x with pulse := some (at_, stop) })
  else s

/-- R145: generator `g` fires its instant `t`: every PULSE channel that names it. -/
def State.outFireAll (s : State) (g t : Nat) : State :=
  (List.range 40).foldl (fun (u : State) n => if u.get (wOut n) OUT_CFG_TEVSEL = g then u.outFire n t else u) s

/-- R158, R177: a divider phase reset with its restart edge at phase `e` reaches a running channel. Where its pattern has begun,
that edge begins the next counted period; where not, the pattern begins at the first edge at or after phase `ts`. -/
def State.outPhaseReset (s : State) (n : Nat) (e ts : Int) : State :=
  let s1 := ((s.coarseNow n).put (wOut n) OUT_STATE_DIVBAD 0).modOut n (fun x => { x with prev := x.start, start := some e })
  let sr := match (s.chan n).sr with
    | none => none
    | some (b, f) => if f < e then some (s.srCount n (e - 2 * s.stepPh n), e) else some (b, s1.firstEdge n ts)
  let s2 := s1.modOut n (fun x => { x with sr := sr })
  if s.gated n then s2.fretJump n else s2

/-- What OUTn_STATE reads as: FMOVE is live. -/
def State.outStateReg (s : State) (n : Nat) : Nat :=
  putBits (s.rn (wOut n) OUT_STATE) 7 1 (b2n (s.fretA n != s.fretT n))

/-! ### The commands -/

/-- OUT_START_ON_LOCK (R152). -/
def execOutStartOnLock (n : Chan) (s : State) : Host.Outcome State Fault Refusal :=
  .next (if s.outst n = 2 ∧ s.clksel n < 2 ∧ s.apllLock (s.clksel n) then s.outStart n else s)

/-- FRET_MOVE (R149, R150): one fret towards the target, after the wait of the last move and in a low phase that no restart
edge ends (R158); with A at its target, one tap towards the table in force. -/
def execFretMove (n : Chan) (s : State) : Host.Outcome State Fault Refusal :=
  let a := s.fretA n
  let t := s.fretT n
  let ready : Bool := match (s.chan n).fretNext with
    | none => true
    | some d => s.due d
  .next (if s.outRun n ∧ ¬ s.gated n ∧ ¬ s.outHigh n ∧ (s.chan n).start.getD 0 ≤ s.phaseNow n ∧ ready then
      let wait (x : State) : State := x.modOut n (fun y => { y with fretNext := some (s.after (s.fstep n)) })
      if a ≠ t then
        let a1 := if a < t then a + 1 else a - 1
        let s1 := wait (s.fretStep n a1)
        if a1 = t then s1.outEvent n 3 else s1
      else if (s.chan n).tap ≠ s.fretTap n a then wait (s.tapMove n)
      else s
    else s)

/-- SAFE_ACTION_APPLY (R155): at a divider boundary, or with the output low; a STARTING channel applies its action at release
(R156). -/
def execSafeActionApply (n : Chan) (s : State) : Host.Outcome State Fault Refusal :=
  .next (match (s.chan n).safePend with
    | some a => if s.outRun n ∧ ¬ s.outHigh n then s.outSafe n a else s
    | none => s)

/-- DRIVER_FAULT_DETECTION (R159, R386): more edges in a row at which a level or the current is bad, or a static output that
has been bad for 1 µs. -/
def execDriverFaultDetection (d : DrvBad) (s : State) : Host.Outcome State Fault Refusal :=
  let n := d.chan
  let bad := (s.chan n).bad + d.edges
  let s1 := s.modOut n (fun x => { x with bad := bad, good := 0 })
  .next (if s.flag (wOut n) OUT_STATE_DRVBAD ∨ (¬ d.static ∧ bad < s.dfn n) then s1
    else if s.outRun n ∧ ¬ s.gated n then s1.drvDetect n
    else s1.modOut n (fun x => { x with owed := true }))

/-- DRVBAD_CLEAR (R159): more good edges in a row. -/
def execDrvbadClear (d : DrvGood) (s : State) : Host.Outcome State Fault Refusal :=
  let n := d.chan
  let good := (s.chan n).good + d.edges
  let s1 := s.modOut n (fun x => { x with bad := 0, good := good })
  .next (if good < s.dfn n then s1
    else (s1.put (wOut n) OUT_STATE_DRVBAD 0).modOut n (fun x => { x with owed := false }))

/-- DIVIDER_TERMINAL_COUNT (R160): `equal` says whether divider and shadow counter, or in PULSE mode the width counters, agree. -/
def execDividerTerminalCount (n : Chan) (equal : Bool) (s : State) : Host.Outcome State Fault Refusal :=
  .next (if s.outRun n ∧ ¬ equal then
      (s.put (wOut n) OUT_STATE_DIVBAD 1).fault (wOut n) K_DIV_PHASE (regAddr (wOut n) OUT_DIV)
    else s)

end Sys2Proof.Machine
end

