-- ==== Sys2Proof/Machine/GlCore.lean ====
section
/-!
DEFINITION. What other blocks need of the Guyline (chapter 11): the ring's state, cells sent, the timing queue of the
anchor and broadcasts. Reception and alignment are in Machine/Guyline.lean.
-/

namespace Sys2Proof.Machine

/-! ### Checks over bytes -/

/-- One bit of a reflected CRC-32 register (polynomial of IEEE 802.3). -/
def crc32Bit (c : Nat) : Nat := if c % 2 = 1 then Nat.xor (c / 2) 0xedb88320 else c / 2

/-- One byte into a CRC-32 register. -/
def crc32Byte (c : Nat) (b : Byte) : Nat := (List.range 8).foldl (fun c _ => crc32Bit c) (Nat.xor c b.toNat)

/-- CRC-32 of IEEE 802.3 over bytes (R256, R311). -/
def crc32 (bs : List Byte) : Nat := Nat.xor (bs.foldl crc32Byte 0xffff_ffff) 0xffff_ffff

/-- One byte into a CRC-8 register, polynomial 0x07, most significant bit first. -/
def crc8Byte (c : Nat) (b : Byte) : Nat :=
  (List.range 8).foldl (fun c _ => if 128 ≤ c then Nat.xor (c * 2 % 256) 7 else c * 2) (Nat.xor c b.toNat)

/-- R256: the HCRC of a header over its bits [55:8], initial value 0; the bytes go in order of their bit numbers (log
entry 41). -/
def hcrc (h : Nat) : Nat := (leBytes 6 (h / 2 ^ 8)).foldl crc8Byte 0

/-! ### The ring as this member sees it -/

def State.glOn (s : State) : Bool := s.flag W_GL GL_CTL_ENABLE
/-- R254: the member ID; member 0 is the anchor. -/
def State.glId (s : State) : Nat := s.get W_GL GL_STATE_ID
def State.glAnchor (s : State) : Bool := s.flag W_GL GL_STATE_ANCHOR
/-- RSTATE (R283): 0 NONE, 1 FORMING, 2 CLOSED, 3 OPEN, 4 ISOLATED. -/
def State.rstate (s : State) : Nat := s.get W_GL GL_STATE_RSTATE
/-- The ring is formed for this member. -/
def State.formed (s : State) : Bool := s.rstate == 2 || s.rstate == 3

/-- R280: an event of GL: the bit of GL_STS and of G15 from 16 on: 0 RING, 1 PORT, 2 ALIGNED, 3 ALIGNJUMP, 4 IDCONF,
5 ABSENT, 6 RFAULT, 7 DROP. -/
def State.glEvent (s : State) (b : Nat) : State := (s.sts W_GL GL_STS (2 ^ b)).raise 15 (16 + b)

/-- The register of port `p` (0 GLA, 1 GLB) and its LINK: 0 DOWN, 1 TRAIN, 2 UP, 3 MEASURING. -/
def glPortReg (p : Nat) : Nat := 4 * p
def State.glLink (s : State) (p : Nat) : Nat := s.get W_GL (GL_PORTA_LINK.up (glPortReg p))
/-- Cells pass through a port that is UP or MEASURING. -/
def State.glUp (s : State) (p : Nat) : Bool := decide (2 ≤ s.glLink p)

/-! ### Sending -/

/-- A payload of 60 bytes with its CRC-32 (R256). -/
def glPayload (bs : List Byte) : List Byte :=
  let p := (bs ++ List.replicate 60 0).take 60
  p ++ leBytes 4 (crc32 p)

/-- The classes of R256. -/
def GL_IDLE : Nat := 0
def GL_TIME : Nat := 1
def GL_SYNCAT : Nat := 2
def GL_FAULT : Nat := 3
def GL_STEP : Nat := 4
def GL_TUNREQ : Nat := 5
def GL_TUNRSP : Nat := 6
def GL_BULK : Nat := 7
def GL_DISC : Nat := 8

/-- The SEQ of this member's next cell of a class (R256). -/
def State.glNextSeq (s : State) (cls : Nat) : State := s.setGl { s.gl with seqs := lupd 0 s.gl.seqs cls (fun v => (v + 1) % 256) }

/-- R256: the header of a cell, without TOKEN and HCRC. -/
def glHeader (cls : Nat) (bcast : Bool) (src dst seq crdst crcnt : Nat) : Nat :=
  0xa5 + cls * 2 ^ 8 + b2n bcast * 2 ^ 13 + src % 8 * 2 ^ 14 + dst % 8 * 2 ^ 17 + seq % 256 * 2 ^ 20 + crdst % 8 * 2 ^ 28 +
    crcnt % 16 * 2 ^ 31

/-- R256: the header word as it leaves: TOKEN and HCRC are put in. -/
def glSeal (h : Nat) (token : Bool) : Word64 :=
  let g := h + b2n token * 2 ^ 12
  BitVec.ofNat 64 (g + hcrc g * 2 ^ 56)

/-- R257, R258, R269: a cell waits for a slot of its kind at port `x.port`; forwarded cells stand before own ones. A port
where no cells pass takes none. -/
def State.glQueue (s : State) (x : GlTx) : State :=
  if s.glUp x.port then
    s.setGl { s.gl with tx :=
      if x.fwd then s.gl.tx.filter (fun y => y.fwd) ++ x :: s.gl.tx.filter (fun y => !y.fwd) else s.gl.tx ++ [x] }
  else s

/-- A cell of this member with the SEQ in force, for port `p`. -/
def State.glEmit (s : State) (p cls : Nat) (bcast : Bool) (dst : Nat) (payload : List Byte) : State :=
  s.glQueue ⟨p, glHeader cls bcast s.glId dst (lget 0 s.gl.seqs cls) 0 0, glPayload payload, false, none⟩

/-- One cell through port `p`. -/
def State.glSend (s : State) (p cls dst : Nat) (payload : List Byte) : State :=
  (s.glEmit p cls false dst payload).glNextSeq cls

/-- R267: a broadcast, both ways round. -/
def State.glBroadcast (s : State) (cls : Nat) (payload : List Byte) : State :=
  ((s.glEmit 0 cls true 0 payload).glEmit 1 cls true 0 payload).glNextSeq cls

/-- R268: two microseconds have passed since the last SYNCAT or STEP. -/
def State.glTimingFree (s : State) : Bool :=
  match s.gl.lastTim with
  | none => true
  | some c => s.due ((c + 2 * usU) % 2 ^ 96)

/-- R268: the anchor originates a SYNCAT or STEP cell, or holds it in the 16-entry timing queue; none where the queue is
full, which GL_TIMEDROP counts. -/
def State.glTiming (s : State) (cls : Nat) (payload : List Byte) : Bool × State :=
  if s.gl.tq.isEmpty ∧ s.glTimingFree then
    (true, (s.setGl { s.gl with lastTim := some s.tb.c }).glBroadcast cls payload)
  else if s.gl.tq.length < 16 then (true, s.setGl { s.gl with tq := s.gl.tq ++ [(cls, payload)] })
  else (false, (s.count W_GL GL_TIMEDROP 1).glEvent 7)

/-- R268: the oldest cell of the timing queue leaves when two microseconds have passed. -/
def State.glDrain (s : State) : State :=
  match s.gl.tq with
  | [] => s
  | (cls, p) :: rest =>
    if s.glTimingFree then (s.setGl { s.gl with tq := rest, lastTim := some s.tb.c }).glBroadcast cls p else s

/-- The users of SYNCAT cells. -/
inductive AtUser
  | sync | sr (g : Nat) | tev (g : Nat) | snap
  deriving DecidableEq, Repr

/-- The payload of a SYNCAT cell: the user in byte 0, its generator in byte 1, the instant in bytes 2 to 13. The spec
gives no layout (log entry 41). -/
def syncAtPayload (u : AtUser) (t : Nat) : List Byte :=
  (match u with | .sync => [0, 0] | .sr g => [1, BitVec.ofNat 8 g] | .tev g => [2, BitVec.ofNat 8 g] | .snap => [3, 0]) ++
    leBytes 12 t

/-- R168, R176: whether a ring broadcast is made: on the anchor of a formed ring. -/
def State.glMayBroadcast (s : State) : Bool := s.glOn && s.glAnchor && s.formed

/-- R279: a record that the collector latches is broadcast, unless it is of kind GL_REMOTE. -/
def State.glForwardFault (s : State) (kind : Nat) (record : Nat) : State :=
  if s.glOn ∧ s.formed ∧ s.flag W_GL GL_CTL_FWDFLT ∧ kind ≠ K_GL_REMOTE then s.glBroadcast GL_FAULT (leBytes 16 record) else s

/-! ### Bulk cells (R269, R270) -/

/-- The ID at `p` hops downstream of the anchor. -/
def State.glAtPos (s : State) (p : Nat) : Nat := if p = 0 then 0 else bitsOf (s.rn W_GL GL_MEMBERS) (3 * p + 5) 3

/-- The position of member `m`, hops downstream of the anchor. -/
def State.glPos (s : State) (m : Nat) : Nat :=
  ((List.range (s.get W_GL GL_STATE_NMEM)).find? (fun p => s.glAtPos p = m)).getD 0

/-- Hops downstream from this member to member `m`. -/
def State.glHops (s : State) (m : Nat) : Nat :=
  let n := max 1 (s.get W_GL GL_STATE_NMEM)
  (s.glPos m + n - s.get W_GL GL_STATE_HOPS) % n

/-- R273: whether `len` hops from hop `h` on downstream are whole. -/
def State.glWhole (s : State) (h len : Nat) : Bool :=
  (List.range len).all (fun i => !bitOf s.gl.broken ((h + i) % max 1 (s.get W_GL GL_STATE_NMEM)))

/-- Whether the path downstream to member `m`, and the one upstream, is whole (R273). -/
def State.glDownOk (s : State) (m : Nat) : Bool := s.glWhole (s.get W_GL GL_STATE_HOPS) (s.glHops m)
def State.glUpOk (s : State) (m : Nat) : Bool :=
  s.glWhole (s.glPos m) (max 1 (s.get W_GL GL_STATE_NMEM) - s.glHops m)

/-- Whether member `m` is in the member table and reachable from here (R273, R277). -/
def State.glReaches (s : State) (m : Nat) : Bool :=
  s.glOn && s.formed && bitOf (s.get W_GL GL_MEMBERS_PRESENT) m && (s.glDownOk m || s.glUpOk m)

/-- R269: the direction of a cell to member `m`: 0 downstream, 1 upstream. -/
def State.glDir (s : State) (m : Nat) : Nat :=
  if s.rstate = 2 then (if 2 * s.glHops m ≤ s.get W_GL GL_STATE_NMEM then 0 else 1)
  else if s.glDownOk m then 0 else 1

/-- R270: credits held for member `m`. -/
def State.glCredit (s : State) (m : Nat) : Nat := lget 0 s.gl.credits m

/-- R270: an entry for queue `q` of member `m` spends a credit and waits for the token of its direction. -/
def State.glInsert (s : State) (m q : Nat) (e : BitVec 256) : State :=
  s.setGl { s.gl with
    credits := lupd 0 s.gl.credits m (fun c => c - 1), ready := s.gl.ready ++ [⟨s.glDir m, m, q, e⟩] }

end Sys2Proof.Machine
end

