-- ==== Sys2Proof/Machine/Sync.lean ====
section
/-!
DEFINITION. The sync engine (chapter 8) but for echo ranging: the APLL grid and its trims, the sync reset and its arms,
and the SYSREF generators.
-/

namespace Sys2Proof.Machine

def State.syncOn (s : State) : Bool := s.flag W_SYNC SYNC_CTL_ENABLE

/-- Events of R185: a bit of SYNC_STS with a bit of G6. -/
def State.syncEvent (s : State) (bit g : Nat) : State := (s.sts W_SYNC SYNC_STS (2 ^ bit)).raise 6 g

/-- `a - b` of timebase times in TB units. -/
def State.tdiff (s : State) (a b : Nat) : Int := if s.tb.ring then signedDiff 96 a b else (a : Int) - b

/-- A timebase instant `d` TB units after `a`. -/
def State.tplus (s : State) (a d : Nat) : Nat := if s.tb.ring then (a + d) % 2 ^ 96 else a + d

def nsU : Nat := 65536

/-! ### The APLL grid (R165 to R167) -/

/-- R165: P in 2^-32 ns. -/
def State.vcoPeriod (s : State) (n : Nat) : Int := roundFree (s.rdiv n * 2 ^ 48 * 10 * 2 ^ 32) (24 * s.mNom n)

/-- R165: the grid phase `raw` (2^-32 ns) measured: φ. -/
def State.syncPhase (s : State) (n : Nat) (raw : Int) : State :=
  let p := s.vcoPeriod n
  if p ≤ 0 then s else s.setSync { s.sync with phi := lput none s.sync.phi n (some (raw % p)) }

/-- φ of APLL `n`, when valid: measured since the APLL has LOCK = 1 (R165). -/
def State.phi (s : State) (n : Nat) : Option Int := if s.apllLock n then lget none s.sync.phi n else none

/-- R165: APERR, when valid: φ - PHTGT in TB units, between -P/2 and +P/2. -/
def State.aperr (s : State) (n : Nat) : Option Int :=
  (s.phi n).map (fun phi =>
    let p := s.vcoPeriod n
    let e := (phi - s.rn W_SYNC (SYNC_PHTGTA + 4 * n) * 2 ^ 16) % p
    quotFree (if p < 2 * e then e - p else e) (2 ^ 16))

/-- What SYNC_APHx and SYNC_APERRx read as (R165, R188). -/
def State.aphReg (s : State) (n : Nat) : Nat :=
  match s.phi n with
  | some phi => (quotFree phi (2 ^ 16)).toNat % 2 ^ 32
  | none => 2 ^ 32 - 1
def State.aperrReg (s : State) (n : Nat) : Nat :=
  match s.aperr n with
  | some e => ofSigned 32 e
  | none => 0x8000_0000

/-- R167: trimming of APLL `n` is on. -/
def State.trimOn (s : State) (n : Nat) : Bool := s.syncOn && bitOf (s.rn W_SYNC SYNC_TRIMCTL) n

/-- TRIMTHR in 0.25 ps and TRIMINT in TB units as they act. -/
def State.trimThr (s : State) : Nat := max 1 (s.get W_SYNC SYNC_TRIMCTL_TRIMTHR)
def State.trimInt (s : State) : Nat := max 1 (s.get W_SYNC SYNC_TRIMCTL_TRIMINT) * msU

/-- R167: an excursion of |APERR| beyond 10 ps begins, goes on or ends. -/
def State.trimWatch (s : State) (n : Nat) : State :=
  let far : Bool := match s.aperr n with
    | none => false
    | some e => s.trimOn n && decide (65536 < 100 * e.natAbs)
  if far then
    s.setSync { s.sync with satSince := lupd none s.sync.satSince n (fun v => v.or (some s.tb.c)) }
  else s.setSync { s.sync with satSince := lput none s.sync.satSince n none, satDone := lput false s.sync.satDone n false }

/-- R167: whether loop `d` also steers the timebase. -/
def State.steersTb (s : State) (d : Nat) : Bool := s.tb.steer == 1 && s.destLoop 2 == d

/-- R167: one trim of APLL `n`, by `-APERR` in femtoseconds. -/
def State.trim (s : State) (n : Nat) : State :=
  let d := s.destLoop n
  match s.aperr n with
  | none => s
  | some e =>
    if e.natAbs * 1000 ≤ s.trimThr * 16384 ∨ s.psrem d ≠ 0 then s
    else
      let a := roundFree (-e * 15625) 1024
      if s.steersTb d then s.syncEvent 4 14
      else if s.pstepRefused d a then (s.pstepRef d).syncEvent 4 14
      else
        let f := if n = 0 then SYNC_TRIMCNT_A else SYNC_TRIMCNT_B
        (s.pstep d a).put W_SYNC f (s.get W_SYNC f + 1)

/-! ### The sync reset (R168 to R171) -/

def State.syncArmed (s : State) : Bool := s.flag W_SYNC SYNC_STATE_ARMED
def State.syncPlaced (s : State) : Bool := s.flag W_SYNC SYNC_STATE_PLACED

/-- ARMED with its trigger, at the instant `t` where it is known. -/
def State.syncSet (s : State) (trig : Nat) (ring : Bool) (t : Option Nat) : State :=
  let v := putBits (putBits (putBits (putBits (s.rn W_SYNC SYNC_STATE) 0 1 1) 1 2 trig) 3 1 (b2n ring)) 4 1 0
  (s.wr W_SYNC SYNC_STATE v).setSync { s.sync with t := t, resetAt := none }

/-- Unarmed. -/
def State.syncClear (s : State) : State :=
  (s.wr W_SYNC SYNC_STATE (putBits (s.rn W_SYNC SYNC_STATE) 0 5 0)).setSync { s.sync with t := none, resetAt := none }

/-- R169: an arm refused as late, or because SYNC is disabled or armed. -/
def State.syncLate (s : State) : State := s.syncEvent 1 11
def State.syncArmRef (s : State) : State := s.syncEvent 10 11

/-- R176: a start refused. -/
def State.srLate (s : State) : State := s.syncEvent 9 19

/-- R176: the start of generator `g` at `t` goes to the ring, where its START asked for it: once T_s is known. -/
def State.srTell (s : State) (g t : Nat) : State :=
  if (s.sr g).rb then
    let r := (s.modSr g (fun x => { x with rb := false })).glTiming GL_SYNCAT (syncAtPayload (.sr g) t)
    if r.1 then r.2 else r.2.srLate
  else s

/-- R176: T of the next sync reset is known: the ring hears of the generators that wait for it. -/
def State.srTellAll (s : State) (t : Nat) : State :=
  (List.range 4).foldl (fun (u : State) g => if u.srst g = 1 ∧ (u.sr g).start = 2 then u.srTell g t else u) s

/-- R168, R169: ARM by the host with TRIG = `trig` and RINGBC = `rb`. -/
def State.syncArm (s : State) (trig : Nat) (rb : Bool) : State :=
  if ¬ s.syncOn ∨ s.syncArmed then s.syncArmRef
  else if trig = 1 then s.syncSet 1 false none
  else if trig ≠ 0 then (s.syncSet 2 false (some (s.tplus s.now usU))).srTellAll (s.tplus s.now usU)
  else
    let t := s.instant W_SYNC SYNC_AT_W0
    let d := s.tdiff t s.now
    if d < 200 * nsU then s.syncLate
    else if rb ∧ s.glMayBroadcast then
      if d < 20 * usU then s.syncLate
      else
        let r := s.glTiming GL_SYNCAT (syncAtPayload .sync t)
        if r.1 then (r.2.syncSet 0 false (some t)).srTellAll t else r.2.syncLate
    else (s.syncSet 0 false (some t)).srTellAll t

/-- R168, R169: a sync-at-time message has reached a member. -/
def State.syncRingArm (s : State) (t : Nat) : State :=
  if ¬ s.flag W_SYNC SYNC_CTL_RINGEN then s
  else if ¬ s.syncOn ∨ s.syncArmed then s.syncArmRef
  else if s.tdiff t s.now < 200 * nsU then s.syncLate
  else s.syncSet 0 true (some t)

/-- Whether the placement of the armed reset is due: T - 200 ns has come. -/
def State.placeDue (s : State) : Bool :=
  match s.sync.t with
  | none => false
  | some t => s.syncArmed && decide (s.tdiff t s.now ≤ 200 * nsU)

/-- R169: DISARM acts until placement begins. -/
def State.syncDisarm (s : State) : State :=
  if s.syncArmed ∧ ¬ s.syncPlaced ∧ ¬ s.placeDue then s.syncClear else s

/-- Timebase instant `t` on C. -/
def State.onC (s : State) (t : Nat) : Nat := addSigned 96 s.tb.c (s.tdiff t s.now)

/-- R170: how far after timebase instant `t` the first VCO edge of APLL `n` lies by its most recent φ, in 2^-32 ns. -/
def State.vcoEdge (s : State) (n t : Nat) : Option Int := (s.phi n).map (fun phi => (phi - t * 2 ^ 16) % s.vcoPeriod n)

/-- R170: the placement: the reset's instant is fixed on the device's own clocks, and the reset edges of the APLLs from their
φ; generators that wait for the next sync reset take its T (R176). -/
def State.syncPlace (s : State) : State :=
  match s.sync.t with
  | none => s
  | some t =>
    let s1 := (s.put W_SYNC SYNC_STATE_PLACED 1).setSync
      { s.sync with resetAt := some (s.onC t), edges := [s.vcoEdge 0 t, s.vcoEdge 1 t] }
    (List.range 4).foldl (fun (u : State) g =>
      if u.srst g = 1 ∧ (u.sr g).start = 2 ∧ (u.sr g).ts.isNone then u.modSr g (fun x => { x with ts := some t }) else u) s1

/-- Channel `n` is in the reset mask. -/
def State.syncMask (s : State) (n : Nat) : Bool := bitOf (s.pair W_SYNC SYNC_CHMASK_LO) n

/-- R170: the phase of the reset edge of channel `n`'s clock: its first rising edge at or after count `c`; for an APLL as φ
places it, where one was valid. -/
def State.resetEdge (s : State) (n c : Nat) : Int :=
  let k := s.clksel n
  let p := s.clkPhase k c
  match (if k < 2 then lget none s.sync.edges k else none) with
  | some d => p + quotFree (d * clkK) (s.vcoPeriod k)
  | none => gridUp 0 clkK p

/-- The phase of channel `n`'s clock at T_s of its generator (R176). -/
def State.tsPhase (s : State) (n : Nat) : Int :=
  match (s.sr (s.srOf n)).ts with
  | some t => s.phaseAt n (s.onC t)
  | none => s.phaseNow n

/-- R170: the reset, its instant at count `c`: masked running channels restart; DONEMASK, LAST, SYNC_DONE; PINMODE = EACH arms
again (R171). -/
def State.syncReset (s : State) (t c : Nat) : State :=
  let reached := (List.range 40).filter (fun n => s.syncMask n && s.outRun n)
  let s1 := reached.foldl (fun (u : State) n => u.outPhaseReset n (s.resetEdge n c) (s.tsPhase n)) s
  let s2 := (s1.putPair W_SYNC SYNC_DONEMASK_LO (reached.foldl (fun v n => v + 2 ^ n) 0)).putInstant W_SYNC SYNC_LAST_W0 t
  let s3 := s2.put W_SYNC SYNC_STATE_RSTCNT (s2.get W_SYNC SYNC_STATE_RSTCNT + 1)
  let again := s.get W_SYNC SYNC_STATE_TRIGARM == 1 && s.flag W_SYNC SYNC_CFG_PINMODE
  (if again then s3.syncSet 1 false none else s3.syncClear).syncEvent 0 10

/-- PINDLY in TB units as it acts. -/
def State.pindly (s : State) : Nat := max 200 (s.get W_SYNC SYNC_CFG_PINDLY) * nsU

/-- Armed on PIN with no edge taken yet. -/
def State.syncPinWait (s : State) : Bool := s.syncArmed && s.get W_SYNC SYNC_STATE_TRIGARM == 1 && s.sync.t.isNone

/-- Generators armed on PIN with no edge taken yet (R176). -/
def State.srPinWait (s : State) (g : Nat) : Bool := s.srst g == 1 && (s.sr g).start == 1 && (s.sr g).ts.isNone

/-- R171: an edge of polarity PINEDGE captured at timebase time `t`. -/
def State.syncPin (s : State) (t : Nat) : State :=
  let s1 := s.count W_SYNC SYNC_PINCNT 1
  let at_ := s.tplus t s.pindly
  let taken := s.syncPinWait || (List.range 4).any s.srPinWait
  let s2 := if s.syncPinWait then (s1.setSync { s1.sync with t := some at_ }).srTellAll at_ else s1
  let s3 := (List.range 4).foldl (fun (u : State) g =>
    if u.srPinWait g then (u.modSr g (fun x => { x with ts := some at_ })).srTell g at_ else u) s2
  if taken then s3 else s3.syncEvent 2 12

/-! ### SYSREF (R174 to R178) -/

/-- The running SYSREF channels of generator `g`. -/
def State.srChans (s : State) (g : Nat) : List Nat :=
  (List.range 40).filter (fun n => s.outRun n && s.outMode n == 2 && s.srOf n == g)

/-- The lowest-numbered of them: the one whose periods PASSED counts (log entry 44). -/
def State.srChan (s : State) (g : Nat) : Option Nat := (s.srChans g).head?

/-- Periods admitted of `k` begun, under a generator's pattern (R175). -/
def SrSt.admitted (x : SrSt) (k : Nat) : Nat :=
  if x.kind = 0 ∨ (x.kind = 2 ∧ x.off = 0) then k
  else if x.kind = 2 then k / (x.on + x.off) * x.on + min (k % (x.on + x.off)) x.on
  else min k x.on

/-- Periods of channel `n` begun so far that its generator counts, and of those how many it may admit (R175, R177). -/
def State.srPeriods (s : State) (n : Nat) : Nat := s.srCount n (s.phaseNow n)
def State.srAllowed (s : State) (n : Nat) : Nat := min (s.srPeriods n) ((s.chan n).srLimit.getD (s.srPeriods n))

/-- What PASSED counts now, saturating. -/
def State.srPassed (s : State) (g : Nat) : Nat :=
  if 2 ≤ s.srst g then
    match s.srChan g with
    | some n => min (2 ^ 24 - 1) ((s.sr g).admitted (s.srAllowed n))
    | none => 0
  else s.get W_SYNC (SYNC_SR_STATE_PASSED.up (srOff g))

/-- What SYNC_SRg_STATE reads as. -/
def State.srStateReg (s : State) (g : Nat) : Nat := s.srst g + 2 ^ 8 * s.srPassed g

def State.putSrst (s : State) (g st passed : Nat) : State := s.wr W_SYNC (SYNC_SR_STATE + srOff g) (st + 2 ^ 8 * passed)

/-- The KIND and counts of a generator as they act (R188). -/
def State.srCapture (s : State) (g start : Nat) (ts : Option Nat) (rb : Bool) : SrSt :=
  let k := s.get W_SYNC (SYNC_SR_CFG_KIND.up (srOff g))
  { start := start, kind := if k = 3 then 1 else k, on := max 1 (s.get W_SYNC (SYNC_SR_COUNT_ON.up (srOff g))),
    off := s.get W_SYNC (SYNC_SR_COUNT_OFF.up (srOff g)), ts := ts, rb := rb }

/-- R176: generator `g` is armed. -/
def State.srArm (s : State) (g start : Nat) (ts : Option Nat) (rb : Bool) : State :=
  (s.putSrst g 1 0).modSr g (fun _ => s.srCapture g start ts rb)

/-- R176: T_s, as far as START fixes it at the grant; for WITHSYNC the T of an armed reset. -/
def State.srTs (s : State) (g st : Nat) : Option Nat :=
  if st = 0 then some (s.instant W_SYNC (SYNC_SR_AT_W0 + srOff g))
  else if st = 3 then some (s.tplus s.now usU)
  else if st = 2 then (if s.syncArmed then s.sync.t else none)
  else none

/-- R176: START by the host. RINGBC on the anchor sends T_s to the ring: at once where it is known, else as soon as it is; a
generator that waits for the sync reset takes T itself at the placement (log entry 43). -/
def State.srStart (s : State) (g : Nat) (rb : Bool) : State :=
  let st := s.get W_SYNC (SYNC_SR_CFG_START.up (srOff g))
  let ts := s.srTs g st
  let held := if st = 2 then none else ts
  let late : Bool := match ts with
    | none => false
    | some t => decide (s.tdiff t s.now < 200 * nsU)
  let tell := rb && s.glMayBroadcast
  if ¬ s.syncOn ∨ s.srst g ≠ 0 ∨ late then s.srLate
  else match ts with
    | some t =>
      if tell then
        let r := s.glTiming GL_SYNCAT (syncAtPayload (.sr g) t)
        if r.1 then r.2.srArm g st held false else r.2.srLate
      else s.srArm g st held false
    | none => s.srArm g st none tell

/-- R176: a member arms its generator `g` from the ring. -/
def State.srRingStart (s : State) (g t : Nat) : State :=
  if ¬ s.flag W_SYNC SYNC_CTL_RINGEN then s
  else if ¬ s.syncOn ∨ s.srst g ≠ 0 ∨ s.tdiff t s.now < 200 * nsU then s.srLate
  else s.srArm g 0 (some t) false

/-- R176: the gate of generator `g` opens: every channel admits from its first divider edge at or after T_s on. -/
def State.srOpen (s : State) (g : Nat) : State :=
  (s.srChans g).foldl (fun (u : State) n =>
    u.modOut n (fun x => { x with sr := some (0, s.firstEdge n (s.tsPhase n)), srLimit := none, pulse := none }))
    (s.putSrst g 2 0)

/-- The gate closes: IDLE with the final count, SR_DONE. -/
def State.srClose (s : State) (g passed : Nat) : State :=
  let s1 := (s.srChans g).foldl (fun (u : State) n => u.modOut n (fun x => { x with sr := none, srLimit := none })) s
  ((s1.putSrst g 0 passed).modSr g (fun x => { x with ts := none, rb := false })).syncEvent (5 + g) (15 + g)

/-- R177: the last counted period of channel `n` that a STOP now leaves: the present one, or the end of its burst. -/
def State.srLast (s : State) (n : Nat) : Nat :=
  let x := s.sr (s.srOf n)
  let k := s.srPeriods n
  if x.kind = 2 ∧ 0 < x.off ∧ k ≠ 0 then (k - 1) / (x.on + x.off) * (x.on + x.off) + x.on else k

/-- R177: STOP: STOPPING until the divider boundary, or the end of the burst in progress. -/
def State.srStop (s : State) (g : Nat) : State :=
  if s.srst g = 1 then s.srClose g 0
  else if s.srst g = 2 then
    (s.srChans g).foldl (fun (u : State) n => u.modOut n (fun x => { x with srLimit := some (s.srLast n) }))
      (s.put W_SYNC (SYNC_SR_STATE_SRST.up (srOff g)) 3)
  else s

/-- Whether every channel of generator `g` has ended the high phase of its last admitted period (R176, R177). -/
def State.srEnded (s : State) (g : Nat) : Bool :=
  (s.srChans g).all (fun n =>
    decide ((s.chan n).srLimit.getD (s.sr g).on ≤ s.srPeriods n) && !s.outLevel n (s.phaseNow n))

/-- R177: the gates that STOP closes, at their divider boundaries. -/
def State.srTick (s : State) : State :=
  (List.range 4).foldl (fun (u : State) g =>
    if (u.sr g).ts.isSome && u.srst g == 3 && u.srEnded g then u.srClose g (u.srPassed g) else u) s

/-- R187: SYNC is reset: generator `g` is IDLE, and a high phase in progress on its channels is completed (log entry 42). -/
def State.srDrop (s : State) (g : Nat) : State :=
  (s.srChans g).foldl (fun (u : State) n =>
    let p := s.phaseNow n
    u.modOut n (fun x =>
      { x with sr := none, srLimit := none, pulse := if s.outLevel n p then some (p, s.highEnd n p) else none })) s

/-- SYNC_CTL has been written over `old`: an enable restarts RSTCNT; a disable disarms and stops (log entry 42). -/
def State.syncCtlWritten (s : State) (old : Nat) : State :=
  if s.syncOn ∧ ¬ bitOf old 0 then s.put W_SYNC SYNC_STATE_RSTCNT 0
  else if ¬ s.syncOn ∧ bitOf old 0 then (List.range 4).foldl State.srStop s.syncClear
  else s

/-- A write of SYNC_CMD, its bits in order (R168, R169). -/
def State.syncCmd (s : State) (v : Nat) : State :=
  let s1 := if bitOf v 0 then s.syncArm (bitsOf v 1 2) (bitOf v 3) else s
  if bitOf v 4 then s1.syncDisarm else s1

/-- A write of SYNC_SRg_CMD, its bits in order (R176, R177). -/
def State.srCmd (s : State) (g v : Nat) : State :=
  let s1 := if bitOf v 0 then s.srStart g (bitOf v 2) else s
  if bitOf v 1 then s1.srStop g else s1

/-! ### The commands -/

/-- SYNC_PLACEMENT (R170). -/
def execSyncPlacement (s : State) : Host.Outcome State Fault Refusal :=
  .next (if s.placeDue ∧ ¬ s.syncPlaced then s.syncPlace else s)

/-- SYNC_RESET (R170): at T. -/
def execSyncReset (s : State) : Host.Outcome State Fault Refusal :=
  .next (match s.sync.t, s.sync.resetAt with
    | some t, some c => if s.syncPlaced ∧ s.due c then s.syncReset t c else s
    | _, _ => s)

/-- SYNC_IN_EDGE (R171): an edge captured in the present tick period, at raw TDC code `code`. -/
def execSyncInEdge (code : Fin 2048) (rising : Bool) (s : State) : Host.Outcome State Fault Refusal :=
  .next (if ¬ s.tb.running ∨ rising = s.flag W_SYNC SYNC_CFG_PINEDGE then s else s.syncPin (s.tdcStamp 30 code))

/-- APLL_PHASE_MEASUREMENT (R165): `raw` is the edge's time past a grid instant, in 2^-32 ns. -/
def execApllPhaseMeasurement (n : Apll) (raw : Int) (s : State) : Host.Outcome State Fault Refusal :=
  .next (if s.apllLock n then (s.syncPhase n raw).trimWatch n else s)

/-- APLL_TRIM (R167): at every TRIMINT. -/
def execApllTrim (n : Apll) (s : State) : Host.Outcome State Fault Refusal :=
  .next (if s.trimOn n ∧ s.gridDue s.trimInt (lget 0 s.sync.trimIdx n) then
      (s.setSync { s.sync with trimIdx := lput 0 s.sync.trimIdx n (s.tb.c / s.trimInt) }).trim n
    else s)

/-- TRIM_SATURATION (R167): once per excursion. -/
def execTrimSaturation (n : Apll) (s : State) : Host.Outcome State Fault Refusal :=
  .next (match lget none s.sync.satSince n with
    | some c =>
      if s.trimOn n ∧ (s.aperr n).isSome ∧ ¬ lget false s.sync.satDone n ∧ s.due ((c + secU) % 2 ^ 96) then
        (s.setSync { s.sync with satDone := lput false s.sync.satDone n true }).syncEvent 3 13
      else s
    | none => s)

/-- SR_GATE_OPEN (R176): at the first divider edge at or after T_s; of a generator without a running channel, at T_s. -/
def execSrGateOpen (g : SrGen) (s : State) : Host.Outcome State Fault Refusal :=
  let come : Bool := (s.srChans g).isEmpty || (s.srChans g).any (fun n => decide (s.firstEdge n (s.tsPhase n) ≤ s.phaseNow n))
  .next (match (s.sr g).ts with
    | some t => if s.srst g = 1 ∧ s.tdiff t s.now ≤ 0 ∧ come then s.srOpen g else s
    | none => s)

/-- SR_PATTERN_END (R176): the ON-th high phase of an NPULSE pattern has ended on every channel. -/
def execSrPatternEnd (g : SrGen) (s : State) : Host.Outcome State Fault Refusal :=
  .next (if s.srst g = 2 ∧ (s.sr g).kind = 1 ∧ s.srEnded g then s.srClose g (s.srPassed g) else s)

end Sys2Proof.Machine
end

