-- ==== Sys2Proof/Machine/Tev.lean ====
section
/-!
DEFINITION. What happens to the timebase at a tick of effect (R195 to R200), the sixteen generators (R201 to R205), the
capture inputs (R206) and the triggers of snapshots (R208 to R210). The distribution of a trigger is in
Machine/Snapshot.lean.
-/

namespace Sys2Proof.Machine

/-! ### Time-stamp records (R223) -/

/-- The 32-byte record, as one number: `data` fills bytes 18 on. -/
def stampRecord (ring : Bool) (time epoch source kind port flags data : Nat) : BitVec 256 :=
  BitVec.ofNat 256 (fmtTime ring time + epoch % 2 ^ 16 * 2 ^ 96 + source * 2 ^ 112 + kind * 2 ^ 120 + port * 2 ^ 128 +
    (b2n ring + flags) % 256 * 2 ^ 136 + data * 2 ^ 144)

/-- A record of this device at timebase time `time`. -/
def State.record (s : State) (time source kind port flags data : Nat) : BitVec 256 :=
  stampRecord s.tb.ring time s.tb.epoch source kind port flags data

/-! ### Generators -/

def GenSt.off : GenSt := ⟨.idle, false, false, 0, 0, 0, -1, -1, false, false, false, 0, none⟩
def State.gen (s : State) (g : Nat) : GenSt := lget GenSt.off s.tev.gens g
def State.modGen (s : State) (g : Nat) (f : GenSt → GenSt) : State := s.setTev { s.tev with gens := lupd GenSt.off s.tev.gens g f }

/-- The registers of generator `g`. -/
def genOff (g : Nat) : Nat := 0x40 * g

/-- R211: a bit of TEV_STS with LASTG, and bit 24 + e of G9: 0 REPLAY, 1 SKIP, 2 REFUSED. -/
def State.tevEvent (s : State) (g e : Nat) : State :=
  ((s.sts W_TEV TEV_STS (2 ^ e)).put W_TEV TEV_STS_LASTG g).raise 9 (24 + e)

/-- The next instant of an armed generator. -/
def State.genInstant (s : State) (g : Nat) : Nat :=
  let x := s.gen g
  if x.periodic then s.tplus x.t0 (x.label * x.per) else x.t0

/-- A trigger at the present tick; what causes it are bits in the order of SNAP_CTL (R208). -/
def State.snapTrigger (s : State) (cause : Nat) : State :=
  s.setTev { s.tev with triggers := s.tev.triggers ++ [(s.tb.c, cause)] }

/-- R204: one pin of generator `g` starts its pulse; a pulse in progress restarts, with OVLAP. -/
def State.pinPulse (s : State) (p width : Nat) : State :=
  let busy : Bool := match lget none s.tev.pins p with
    | none => false
    | some e => !s.due e
  let s1 := s.setTev { s.tev with pins := lput none s.tev.pins p (some (s.after (width * nsU))) }
  if busy then s1.sts W_TEV TEV_STS 16 else s1

/-- R204: generator `g` fires its label, LATE or REPLAY as told. -/
def State.tevFire (s : State) (g : Nat) (late replay : Bool) : State :=
  let x := s.gen g
  let at_ := s.genInstant g
  let o := genOff g
  let s1 := (((s.putInstant W_TEV (TEV_G_LAST_W0 + o) at_).putPair W_TEV (TEV_G_LABEL_LO + o) x.label).count W_TEV
    (TEV_G_COUNT + o) 1).raise 9 g
  let s2 := s1.modGen g (fun y =>
    { y with phase := if y.periodic then .run else .idle, label := y.label + 1, last := y.label, late := late,
             replay := replay, epoch := s.tb.epoch, firedAt := some s.tb.c })
  let width := max 1 (s.get W_TEV (TEV_G_WIDTH_V.up o))
  let s3 := (List.range 8).foldl (fun (t : State) p =>
    if bitOf (t.rn W_TEV TEV_PINEN) p ∧ bitsOf (t.rn W_TEV TEV_PINSEL) (4 * p) 4 = g then t.pinPulse p width else t) s2
  let s4 := s3.outFireAll g at_
  let s5 := if s.flag W_SNAP SNAP_CTL_TEV ∧ s.get W_SNAP SNAP_CTL_TEVSEL = g then s4.snapTrigger 2 else s4
  if x.stamp then
    (s5.setTev { s5.tev with lastRecord := s.tb.c }).qPutBlock (s.get W_TEV TEV_QSEL_STAMPQ)
      (s.record at_ W_TEV 4 g (8 * b2n replay + 16 * b2n late) (x.label % 2 ^ 64))
  else s5

/-- R202, R203: the firing of a generator whose instant has come; a label fired before is a replay, raised once. -/
def State.tevDue (s : State) (g : Nat) : State :=
  let x := s.gen g
  let rep := x.periodic && decide ((x.label : Int) ≤ x.replayTo)
  let s1 := s.tevFire g false rep
  if rep && !x.replayRaised then (s1.modGen g (fun y => { y with replayRaised := true })).tevEvent g 0 else s1

/-- R203: generator `g` after a step that leaves the present time. -/
def State.tevReanchor (s : State) (g : Nat) : State :=
  let x := s.gen g
  if x.phase = .idle then s
  else if ¬ x.periodic then
    if s.tdiff x.t0 s.now < 0 then (s.tevFire g true false).tevEvent g 1 else s
  else
    let k : Nat := (-(s.tdiff x.t0 s.now / (x.per : Int))).toNat
    let s1 := s.modGen g (fun y =>
      if (k : Int) ≤ y.last then { y with label := k, replayTo := max y.replayTo y.last, replayRaised := false }
      else { y with label := k })
    let skipped := ((k : Int) - x.last - 1).toNat
    if skipped = 0 then s1
    else
      let o := TEV_G_SKIPCNT + genOff g
      (s1.wr W_TEV o (min (2 ^ 32 - 1) (s.rn W_TEV o + skipped))).tevEvent g 1

/-- R201: generator `g` armed from its registers for `t0`. -/
def State.tevSet (s : State) (g t0 : Nat) : State :=
  let o := genOff g
  s.modGen g (fun x =>
    { x with phase := .armed, periodic := s.flag W_TEV (TEV_G_CFG_KIND.up o), stamp := s.flag W_TEV (TEV_G_CFG_STAMP.up o),
             t0 := t0, per := max 6553600 (s.pair W_TEV (TEV_G_PER_LO + o)), label := 0, last := -1, replayTo := -1,
             replayRaised := false })

/-- R201: whether an arm for `t` is refused, at least `lead` TB units ahead being asked. -/
def State.tevRefused (s : State) (g t lead : Nat) : Bool :=
  !s.flag W_TEV TEV_CTL_ENABLE || (s.gen g).phase != .idle || decide (s.tdiff t s.now < lead)

/-- R201, R205: ARM by the host. -/
def State.tevArm (s : State) (g : Nat) (rb : Bool) : State :=
  let t := s.instant W_TEV (TEV_G_AT_W0 + genOff g)
  let bc := rb && s.glMayBroadcast
  if s.tevRefused g t (if bc then 20 * usU else 200 * nsU) then s.tevEvent g 2
  else if bc then
    let r := s.glTiming GL_SYNCAT (syncAtPayload (.tev g) t)
    if r.1 then r.2.tevSet g t else r.2.tevEvent g 2
  else s.tevSet g t

/-- R205: a member arms its generator from the ring. -/
def State.tevRingArm (s : State) (g t : Nat) : State :=
  if ¬ s.flag W_TEV TEV_CTL_RINGEN then s
  else if s.tevRefused g t (200 * nsU) then s.tevEvent g 2
  else s.tevSet g t

/-- R201: DISARM. -/
def State.tevDisarm (s : State) (g : Nat) : State := s.modGen g (fun x => { x with phase := .idle })

/-- R201: a write of TEVg_CMD: DISARM goes before ARM. -/
def State.tevCmd (s : State) (g v : Nat) : State :=
  let s1 := if bitOf v 1 then s.tevDisarm g else s
  if bitOf v 0 then s1.tevArm g (bitOf v 2) else s1

/-- R201: TEV_CTL.ENABLE has been cleared. -/
def State.tevDisarmAll (s : State) : State := (List.range 16).foldl State.tevDisarm s

/-- R213: TEV after its reset: everything disarmed, FIFOs empty, pins high-impedance. -/
def State.tevStop (s : State) : State :=
  let t := s.tevDisarmAll
  t.setTev { t.tev with pins := List.replicate 8 none, caps := t.tev.caps.map (fun c => { c with fifo := [] }) }

/-- What TEV_ARMED and TEVg_STATE read as (R215). -/
def State.tevArmedReg (s : State) : Nat :=
  (List.range 16).foldl (fun v g => if (s.gen g).phase = .idle then v else v + 2 ^ g) 0
def State.tevStateReg (s : State) (g : Nat) : Nat :=
  let x := s.gen g
  (match x.phase with | .idle => 0 | .armed => 1 | .run => 2) + 4 * b2n x.late + 8 * b2n x.replay + x.epoch * 2 ^ 16

/-! ### Changes of the timebase -/

/-- R196: the time triples that hold stored instants, as window and offset. -/
def storedInstants : List (Nat × Nat) :=
  (List.range 16).flatMap (fun g => [(W_TEV, TEV_G_AT_W0 + 0x40 * g), (W_TEV, TEV_G_LAST_W0 + 0x40 * g)]) ++
    (List.range 8).map (fun p => (W_TEV, TEV_CAP_LAST_W0 + 0x10 * p)) ++
    [(W_SYNC, SYNC_AT_W0), (W_SYNC, SYNC_LAST_W0)] ++
    (List.range 4).map (fun g => (W_SYNC, SYNC_SR_AT_W0 + 0x20 * g)) ++
    [(W_SNAP, SNAP_RINGAT_W0), (W_SNAP, SNAP_STAMP_W0), (W_SNAP, SNAP_PIN_W0), (W_UART, UART_PPS_W0)]

/-- R196: every stored instant takes the other format, exactly. -/
def State.convertInstants (s : State) (old new : Bool) : State :=
  storedInstants.foldl (fun (t : State) p => t.putTriple p.1 p.2 (fmtTime new (parseTime old (t.triple p.1 p.2)))) s

/-- R196: the format changes, or the change is refused. -/
def State.tbModeEffect (s : State) (ring : Bool) : State :=
  let x := s.tb
  if ring = x.ring then s
  else if ring then
    ((s.setTb { x with
      ring := true, ofs := ofSigned 96 ((x.now : Int) - x.c), rate := ((x.incr : Int) - 2 ^ 48) * 2 ^ 12, cr := x.c
      }).convertInstants false true).sts W_TB TB_STS 4 |>.raise 6 22
  else if 2 ^ 48 * 1000000000 * 65536 ≤ x.now then ((s.put W_TB TB_MODE_MODE 1).sts W_TB TB_STS 8).raise 6 22
  else
    ((s.setTb { x with
      ring := false, t := x.now * 2 ^ 32, incr := (2 ^ 48 + roundFree x.rate (2 ^ 12)).toNat
      }).convertInstants true false).sts W_TB TB_STS 4 |>.raise 6 22

/-- R197, R199: what every step does beside moving time: epoch, LASTSTEP, TB_STEP, the generators (R203); a backward one clears
BACKARM. -/
def State.tbStepped (s : State) (amount : Int) (epoch : Nat) : State :=
  let arm := if amount < 0 then none else s.tb.backarm
  let s1 := (((s.setTb { s.tb with epoch := epoch % 2 ^ 16, backarm := arm }).putTriple W_TB TB_LASTSTEP_W0 (ofSigned 96 amount)).sts W_TB
    TB_STS 1).raise 6 20
  (List.range 16).foldl State.tevReanchor s1

/-- R265: the anchor of a formed ring broadcasts its step. -/
def State.glStep (s : State) (amount : Int) : State :=
  if s.glMayBroadcast then (s.glTiming GL_STEP (leBytes 12 (ofSigned 96 amount) ++ leBytes 2 s.tb.epoch)).2 else s

/-- R197 to R199: a step at its tick of effect. -/
def State.tbStepEffect (s : State) (amount : Int) : State :=
  if amount = 0 then s
  else match s.tb.stepRefusal amount with
    | some cause => ((s.sts W_TB TB_STS 2).put W_TB TB_STS_CAUSE cause).raise 6 21
    | none => ((s.setTb (s.tb.move amount)).tbStepped amount (s.tb.epoch + 1)).glStep amount

/-- The keyed write of TB_BACKEN (R199); none for any other value. -/
def State.tbBacken (s : State) (v : Nat) : Option State :=
  if v = 0xb4c5 then some (s.setTb { s.tb with backarm := some (s.after secU) }) else none

/-- R212: RESYNC. -/
def State.tbResync (s : State) : State := s.setTb { s.tb with dupbad := false }

/-- R213: whether a reset of TB discards a change under way: a step, an increment or a servo word. -/
def TbChange.dropped : TbChange → Bool
  | .step _ => true
  | .incr _ => true
  | .srvw _ _ => true
  | .steer _ => false
  | .mode _ => false

/-- R213: a soft or block reset of TB: BACKARM and the commits under way are dropped. -/
def State.tbSoftReset (s : State) : State :=
  s.setTb { s.tb with backarm := none, changes := s.tb.changes.filter (fun c => !c.dropped) }

/-! ### Captures (R206) -/

/-- EDGE of CAPp_CFG takes this edge: 0 rising, 1 falling, else both. -/
def capTakes (edge : Nat) (falling : Bool) : Bool := edge ≥ 2 || (edge == 1) == falling

def capOff (p : Nat) : Nat := 0x10 * p
/-- A capture pin that has seen no edge. -/
def CapSt.empty : CapSt := ⟨[], none⟩
def State.capSt (s : State) (p : Nat) : CapSt := lget CapSt.empty s.tev.caps p
def State.modCap (s : State) (p : Nat) (f : CapSt → CapSt) : State := s.setTev { s.tev with caps := lupd CapSt.empty s.tev.caps p f }

/-- R206: an edge on an enabled pin, at count `c` and timebase time `t`. -/
def State.capture (s : State) (p c t : Nat) (falling : Bool) : State :=
  let x := s.capSt p
  let close : Bool := match x.lastEdge with
    | none => false
    | some c0 => decide (signedDiff 96 c c0 < 20 * nsU)
  if close ∨ 16 ≤ x.fifo.length then ((s.count W_TEV (TEV_CAP_LOST + 4 * p) 1).sts W_TEV TEV_STS 8).raise 9 27
  else
    let n := (s.get W_TEV (TEV_CAP_INFO_COUNT.up (4 * p)) + 1) % 2 ^ 16
    (((s.putInstant W_TEV (TEV_CAP_LAST_W0 + capOff p) t).wr W_TEV (TEV_CAP_INFO + 4 * p) (s.tb.epoch + n * 2 ^ 16)).raise
      9 (16 + p)).modCap p (fun y =>
        { fifo := y.fifo ++ [s.record t W_TEV 3 p (32 * b2n falling) n], lastEdge := some c })

/-- R3, R206: a record leaves the CAP FIFOs, at least 250 ns after the last record of any producer (log entry 19). -/
def State.capDrain (s : State) : State :=
  if ¬ s.due ((s.tev.lastRecord + 250 * nsU) % 2 ^ 96) then s
  else match (List.range 8).find? (fun p => !(s.capSt p).fifo.isEmpty) with
    | none => s
    | some p =>
      match (s.capSt p).fifo with
      | [] => s
      | r :: rs =>
        let t := s.modCap p (fun y => { y with fifo := rs })
        (t.setTev { t.tev with lastRecord := s.tb.c }).qPutBlock (s.get W_TEV TEV_QSEL_CAPQ) r

/-! ### Snapshot commands -/

def State.snapHeld (s : State) : Bool := s.flag W_SNAP SNAP_INFO_HELD

/-- R209: RELEASE. -/
def State.snapRelease (s : State) : State := s.put W_SNAP SNAP_INFO_HELD 0

/-- R210: a late ring instant. -/
def State.snapLate (s : State) : State := (s.sts W_SNAP SNAP_STS 4).raise 0 30

/-- R210: the instant is waited for, while the RING source is enabled. -/
def State.snapRingAt (s : State) (t : Nat) : State :=
  if s.flag W_SNAP SNAP_CTL_RING then s.setTev { s.tev with ringAt := some t } else s

/-- R210: RINGGO on the anchor of a formed ring; elsewhere it has no effect. -/
def State.snapRinggo (s : State) : State :=
  let t := s.instant W_SNAP SNAP_RINGAT_W0
  if ¬ s.glMayBroadcast then s
  else if s.tdiff t s.now < 20 * usU then s.snapLate
  else
    let r := s.glTiming GL_SYNCAT (syncAtPayload .snap t)
    if r.1 then r.2.snapRingAt t else r.2.snapLate

/-- R210: the message at a member. -/
def State.snapRing (s : State) (t : Nat) : State :=
  if ¬ s.flag W_SNAP SNAP_CTL_RING then s
  else if s.tdiff t s.now < 200 * nsU then s.snapLate
  else s.snapRingAt t

/-- A write of SNAP_CMD, its bits in order. -/
def State.snapCmd (s : State) (v : Nat) : State :=
  let s1 := if bitOf v 0 then s.snapRelease else s
  if bitOf v 1 then s1.snapRinggo else s1

/-! ### The commands -/

/-- TB_INCR_EFFECT (R195). -/
def execTbIncrEffect (s : State) : Host.Outcome State Fault Refusal :=
  .next (if ¬ s.tb.running then s else match takeChange (fun c => match c with | .incr v => some v | _ => none) s.tb.changes with
    | some (v, cs) => (s.setTb { s.tb with changes := cs }).tbIncrEffect v
    | none => s)

/-- TB_STEER_EFFECT (R195). -/
def execTbSteerEffect (s : State) : Host.Outcome State Fault Refusal :=
  .next (if ¬ s.tb.running then s else match takeChange (fun c => match c with | .steer v => some v | _ => none) s.tb.changes with
    | some (v, cs) => (s.setTb { s.tb with changes := cs }).tbSteerEffect v
    | none => s)

/-- TB_MODE_EFFECT (R196). -/
def execTbModeEffect (s : State) : Host.Outcome State Fault Refusal :=
  .next (if ¬ s.tb.running then s else match takeChange (fun c => match c with | .mode v => some v | _ => none) s.tb.changes with
    | some (v, cs) => (s.setTb { s.tb with changes := cs }).tbModeEffect v
    | none => s)

/-- TB_STEP_EFFECT (R197 to R200): steps in the order of their grants. -/
def execTbStepEffect (s : State) : Host.Outcome State Fault Refusal :=
  .next (if ¬ s.tb.running then s else match takeChange (fun c => match c with | .step v => some v | _ => none) s.tb.changes with
    | some (v, cs) => (s.setTb { s.tb with changes := cs }).tbStepEffect v
    | none => s)

/-- BACKARM_EXPIRY (R199). -/
def execBackarmExpiry (s : State) : Host.Outcome State Fault Refusal :=
  .next (match s.tb.backarm with
    | some d => if s.due d then s.setTb { s.tb with backarm := none } else s
    | none => s)

/-- TB_DUP_MISMATCH (R212). -/
def execTbDupMismatch (s : State) : Host.Outcome State Fault Refusal :=
  .next (if s.tb.dupbad then s
    else ((s.setTb { s.tb with dupbad := true }).sts W_TB TB_STS 32).fault W_TB K_TB_DUP (regAddr W_TB TB_TIME_W0))

/-- TIMED_EVENT_FIRING (R202 to R204). -/
def execTimedEventFiring (g : Gen) (s : State) : Host.Outcome State Fault Refusal :=
  .next (if (s.gen g).phase ≠ .idle ∧ (s.gen g).firedAt ≠ some s.tb.c ∧ s.tdiff (s.genInstant g) s.now ≤ 0 then s.tevDue g
    else s)

/-- TEV_PIN_PULSE_END (R204) of TEV pin `p`. -/
def execTevPinPulseEnd (p : Fin 8) (s : State) : Host.Outcome State Fault Refusal :=
  .next (match lget none s.tev.pins p with
    | some e => if s.due e then s.setTev { s.tev with pins := lput none s.tev.pins p none } else s
    | none => s)

/-- CAPTURE (R206): an edge on pin `p` in the present tick period, at raw TDC code `code`. -/
def execCapture (p : Cap) (code : Fin 2048) (falling : Bool) (s : State) : Host.Outcome State Fault Refusal :=
  .next (if s.tb.running ∧ s.flag W_TEV (TEV_CAP_CFG_EN.up (capOff p)) ∧
      capTakes (s.get W_TEV (TEV_CAP_CFG_EDGE.up (capOff p))) falling then
      s.capture p (s.tdcCount (22 + p) code) (s.tdcStamp (22 + p) code) falling
    else s)

/-- SNAP_IN_EDGE (R208): an edge of the polarity of PINEDGE is captured, at raw TDC code `code`, and triggers. -/
def execSnapInEdge (code : Fin 2048) (falling : Bool) (s : State) : Host.Outcome State Fault Refusal :=
  .next (if s.tb.running ∧ s.flag W_SNAP SNAP_CTL_PIN ∧ falling = s.flag W_SNAP SNAP_CTL_PINEDGE then
      (if s.snapHeld then s else s.putInstant W_SNAP SNAP_PIN_W0 (s.tdcStamp 31 code)).snapTrigger 1
    else s)

/-- RING_SNAPSHOT (R210): the instant has come. -/
def execRingSnapshot (s : State) : Host.Outcome State Fault Refusal :=
  .next (match s.tev.ringAt with
    | some t =>
      if s.tdiff t s.now ≤ 0 then
        let s1 := s.setTev { s.tev with ringAt := none }
        if s.flag W_SNAP SNAP_CTL_RING then s1.snapTrigger 16 else s1
      else s
    | none => s)

end Sys2Proof.Machine
end

