-- ==== Sys2Proof/Machine/LoopFilter.lean ====
section
/-!
DEFINITION. The arithmetic of the loop filter of R83, which the stock loop program, the hardware servo (R232) and ring
alignment (R261) share, and blocks of bytes written to memory.
-/

namespace Sys2Proof.Machine

/-- R83: the proportional term -kp e / t in units of 2^-48, of wn in 2^-32 rad/s, ζ in 1/256 and e in 2^-32 ns. -/
def loopP (wn zeta : Nat) (e : Int) : Int := quotFree (-(zeta * wn * e)) (2 ^ 23 * 10 ^ 9)

/-- R83: the change -ki e / t of the integral term in units of 2^-64, over `t` TB units. -/
def loopI (wn t : Nat) (e : Int) : Int := quotFree (-(wn * wn * t * e)) (2 ^ 32 * 10 ^ 9 * secU)

/-- A slope of `s` tenths of ns/s as a fractional frequency in units of 2^-48 (R83). -/
def slopeWord (s : Nat) : Int := (s * 2 ^ 48 / 10 ^ 10 : Nat)

/-- Bytes written to memory: whole 64-bit words where they fill them, else byte by byte (R23). The number bounds the
steps. -/
def State.memPut : Nat → State → Nat → List Byte → State
  | 0, s, _, _ => s
  | n + 1, s, a, bs =>
    match bs with
    | [] => s
    | b :: t =>
      if a % 8 = 0 ∧ 8 ≤ bs.length then State.memPut n (s.memStore a 8 (leNat (bs.take 8))) (a + 8) (bs.drop 8)
      else State.memPut n (s.memStore a 1 b.toNat) (a + 1) t

/-- Bytes written to memory from `a` on. -/
def State.memFill (s : State) (a : Nat) (bs : List Byte) : State := State.memPut bs.length s a bs

/-- `8 * n` bytes read from memory word by word (R23, R24). -/
def State.wordsTake : Nat → State → Nat → List Byte × State
  | 0, s, _ => ([], s)
  | n + 1, s, a =>
    let (v, s1) := s.memLoad a 8
    let r := State.wordsTake n s1 (a + 8)
    (leBytes 8 v ++ r.1, r.2)

/-- `n` bytes read from memory at `a`, out of the words that hold them, each read once (R23). -/
def State.memTake (n : Nat) (s : State) (a : Nat) : List Byte × State :=
  if n = 0 then ([], s)
  else
    let r := State.wordsTake ((a + n + 7) / 8 - a / 8) s (a / 8 * 8)
    ((r.1.drop (a % 8)).take n, r.2)

end Sys2Proof.Machine
end

