-- ==== Sys2Proof/Machine/Net.lean ====
section
/-!
DEFINITION. The Ethernet ports and the PTP engines (chapter 10): classification and forwarding, buffers and records,
one-step insertion, offsets, the hardware servo, step hold and path hold.
-/

namespace Sys2Proof.Machine

def wEth (n : Nat) : Nat := W_ETH + n
def wPtp (n : Nat) : Nat := W_PTP + n

/-- Bit `b` of G(10 + n) with a bit of ETHn_STS or PTPn_STS (R247). -/
def State.ethEvent (s : State) (n bit b : Nat) : State := (s.sts (wEth n) ETH_STS (2 ^ bit)).raise (10 + n) b
def State.ptpEvent (s : State) (n bit b : Nat) : State := (s.sts (wPtp n) PTP_STS (2 ^ bit)).raise (10 + n) b

def State.ethOn (s : State) (n : Nat) : Bool := s.flag (wEth n) ETH_CTL_ENABLE
def State.ethLink (s : State) (n : Nat) : Bool := s.flag (wEth n) ETH_STATE_LINK
def State.ptpOn (s : State) (n : Nat) : Bool := s.flag (wPtp n) PTP_CTL_ENABLE

/-- MODE = INLINE, and FEC as it acts: 0 at 10GBASE-R. -/
def State.inline (s : State) (n : Nat) : Bool := s.get (wEth n) ETH_CFG_MODE == 1
def State.ethFec (s : State) (n : Nat) : Bool := s.flag (wEth n) ETH_CFG_FEC && s.flag (wEth n) ETH_CFG_RATE

/-- R219: forwarding is active, both ways. -/
def State.forwarding (s : State) : Bool :=
  s.inline 0 && s.inline 1 && s.get (wEth 0) ETH_CFG_RATE == s.get (wEth 1) ETH_CFG_RATE && s.ethFec 0 == s.ethFec 1 &&
    s.ethLink 0 && s.ethLink 1

/-- What ETHn_STATE reads as: FWD is live. -/
def State.ethStateReg (s : State) (n : Nat) : Nat := putBits (s.rn (wEth n) ETH_STATE) 3 1 (b2n s.forwarding)

/-! ### Frames (R218) -/

def byteAt (f : List Byte) (i : Nat) : Nat := (lget 0 f i).toNat
def be16At (f : List Byte) (i : Nat) : Nat := beNat ((f.drop i).take 2)

/-- Whether an EtherType marks a tag of IEEE 802.1Q. -/
def isTag (t : Nat) : Bool := t == 0x8100 || t == 0x88a8

/-- The offset of the EtherType that classifies a frame; none with more than one tag. -/
def etherAt (f : List Byte) : Option Nat :=
  if ¬ isTag (be16At f 12) then some 12
  else if isTag (be16At f 16) then none
  else some 16

/-- The classes of R218, a PTP frame with the place of its PTP header and whether it goes over UDP. -/
inductive FrameClass
  | ptp (at_ : Nat) (udp : Bool)
  | esmc
  | other
  deriving DecidableEq, Repr

/-- The port's MAC and the two PTP multicast addresses. -/
def State.ptpMac (s : State) (n : Nat) (d : Nat) : Bool :=
  d == 0x011b19000000 || d == 0x0180c200000e ||
    d == s.rn (wEth n) ETH_MAC_LO + s.get (wEth n) ETH_MAC_HI_V * 2 ^ 32

/-- The port's IPv6 address, first octet most significant. -/
def State.ip6 (s : State) (n : Nat) : Nat :=
  s.rn (wEth n) ETH_IP6_W0 * 2 ^ 96 + s.rn (wEth n) ETH_IP6_W1 * 2 ^ 64 + s.rn (wEth n) ETH_IP6_W2 * 2 ^ 32 +
    s.rn (wEth n) ETH_IP6_W3

/-- UDP to port 319 or 320 with its header at `u`. -/
def udpPtp (f : List Byte) (u : Nat) : Bool := be16At f (u + 2) == 319 || be16At f (u + 2) == 320

/-- A frame's class at port `n`. -/
def State.classify (s : State) (n : Nat) (f : List Byte) : FrameClass :=
  match etherAt f with
  | none => .other
  | some e =>
    let ty := be16At f e
    let p := e + 2
    let vlan := s.flag (wEth n) ETH_VLAN_VLANEN
    let tagOk := !vlan || (e == 16 && be16At f 14 % 4096 == s.get (wEth n) ETH_VLAN_VID)
    if ty = 0x88f7 ∧ s.ptpMac n (beNat (f.take 6)) ∧ tagOk then .ptp p false
    else if ty = 0x0800 ∧ tagOk ∧ byteAt f p / 16 = 4 ∧ byteAt f (p + 9) = 17 ∧ s.rn (wEth n) ETH_IP4 ≠ 0 ∧
        beNat ((f.drop (p + 16)).take 4) = s.rn (wEth n) ETH_IP4 ∧ udpPtp f (p + 4 * (byteAt f p % 16)) then
      .ptp (p + 4 * (byteAt f p % 16) + 8) true
    else if ty = 0x86dd ∧ tagOk ∧ byteAt f p / 16 = 6 ∧ byteAt f (p + 6) = 17 ∧ s.ip6 n ≠ 0 ∧
        beNat ((f.drop (p + 24)).take 16) = s.ip6 n ∧ udpPtp f (p + 40) then
      .ptp (p + 48) true
    else if ty = 0x8809 ∧ e = 12 ∧ byteAt f 14 = 0x0a ∧ beNat (f.take 6) = 0x0180c2000002 then .esmc
    else .other

/-! ### Buffers and records (R223, R225) -/

/-- Where the buffer area of engine `n` begins in memory. -/
def State.ptpBuf (s : State) (n : Nat) : Nat := SRAM + s.get (wPtp n) PTP_BUFBASE_BASE * 2 ^ 15

/-- A record goes to RXQ; one that finds it full is counted in QDROP. It is one of the records of R206's bound. -/
def State.ptpRecord (s : State) (n : Nat) (r : BitVec 256) : State :=
  let q := s.get (wPtp n) PTP_QCFG_RXQ
  let s1 := if ¬ s.qEnabled q ∨ s.qFull q then s.count (wPtp n) PTP_QDROP 1 else s
  (s1.setTev { s1.tev with lastRecord := s.tb.c }).qPutBlock q r

/-- DATA of a PTP record: buffer, messageType, sequenceId little-endian, sourcePortIdentity in message order; the header lies
at `h` of the frame. -/
def ptpData (buf h : Nat) (f : List Byte) : Nat :=
  leNat ([BitVec.ofNat 8 buf, BitVec.ofNat 8 (byteAt f h % 16)] ++ leBytes 2 (be16At f (h + 30)) ++ (f.drop (h + 20)).take 10)

/-- messageType 0 to 3 marks an event message. -/
def isEventMsg (f : List Byte) (h : Nat) : Bool := byteAt f h % 16 ≤ 3

/-- R225: a terminated frame enters the next receive buffer. -/
def State.ptpStore (s : State) (n : Nat) (f : List Byte) : State :=
  (s.memFill (s.ptpBuf n + 256 * (s.ptp n).rxIdx) (leBytes 2 f.length ++ f)).modPtp n
    (fun x => { x with rxIdx := (x.rxIdx + 1) % 64 })

/-- R221: a stamp corrected by a signed latency register. -/
def State.stampAt (s : State) (t : Nat) (corr : Int) : Nat := if s.tb.ring then addSigned 96 t corr else ((t : Int) + corr).toNat

/-- R225, R228: a terminated PTP frame with its header at `h`. -/
def State.ptpRx (s : State) (n h : Nat) (f : List Byte) (t : Nat) : State :=
  let ev := isEventMsg f h
  if ev ∧ 128 ≤ (s.ptp n).rxEv then (s.count (wPtp n) PTP_RATECNT 1).ptpEvent n 6 14
  else
    let k := (s.ptp n).rxIdx
    let s1 := (s.ptpStore n f).ptpRecord n
      (s.record (s.stampAt t (-(s.ri (wEth n) ETH_RXLAT))) (wEth n) 0 n (2 * b2n ev) (ptpData k h f))
    let sync := byteAt f h % 16 == 0
    let s2 := if ev then
        (s1.count (wPtp n) PTP_RXEVCNT 1).modPtp n (fun x =>
          { x with rxEv := x.rxEv + 1, syncAt := if sync then some s.tb.c else x.syncAt })
      else s1
    s2.ptpEvent n 0 8

/-- An ESMC frame goes to the engine of the port. -/
def State.esmcRx (s : State) (n : Nat) (f : List Byte) (t : Nat) : State :=
  let k := (s.ptp n).rxIdx
  (s.ptpStore n f).ptpRecord n (s.record (s.stampAt t (-(s.ri (wEth n) ETH_RXLAT))) (wEth n) 2 n 0 k)

/-- R218: a frame of class Other. -/
def State.ethOther (s : State) (n : Nat) (f : List Byte) : State :=
  if s.inline n ∧ s.forwarding then (s.count (wEth n) ETH_FWDCNT 1).emit (.frame (1 - n) f)
  else s.count (wEth n) ETH_DROPCNT 1

/-- R218: a frame received at port `n`; `t` is the instant of R221 at the balls. -/
def State.ethRx (s : State) (n : Nat) (f : List Byte) (fcsOk : Bool) (t : Nat) : State :=
  let term (go : State → State) : State :=
    if ¬ fcsOk ∨ 254 < f.length then (s.count (wEth n) ETH_DROPCNT 1).ethEvent n 2 2
    else
      let s1 := s.count (wEth n) ETH_RXCNT 1
      if s1.ptpOn n then go s1 else s1
  match s.classify n f with
  | .ptp h _ => term (fun u => u.ptpRx n h f t)
  | .esmc => term (fun u => u.esmcRx n f t)
  | .other => s.ethOther n f

/-- R247: codewords counted; ETH_FEC once in a window of 1 s. -/
def State.ethFecCount (s : State) (n cor unc : Nat) : State :=
  let s1 := (s.count (wEth n) ETH_FECCOR cor).count (wEth n) ETH_FECUNC unc
  let open_ : Bool := match (s.ptp n).fecEnd with
    | none => false
    | some e => !s.due e
  if unc = 0 ∨ open_ then s1
  else (s1.modPtp n (fun x => { x with fecEnd := some (s.after secU) })).ethEvent n 1 1

/-! ### Transmission (R220, R226, R227) -/

/-- The frame in transmit buffer `k`. -/
def State.txFrame (s : State) (n k : Nat) : List Byte × State :=
  let a := s.ptpBuf n + 16384 + 256 * k
  let (len, s1) := s.memLoad a 2
  State.memTake (min 254 len) s1 (a + 2)

/-- The EVENT and ONESTEP flags of a descriptor as record flags. -/
def TxDesc.flags (d : TxDesc) : Nat := 2 * b2n d.event + 4 * b2n d.oneStep

/-- R226: a PTP_TX record; a frame that is not sent is DROPPED. -/
def State.txRecord (s : State) (n : Nat) (d : TxDesc) (f : List Byte) (h t : Nat) (dropped : Bool) : State :=
  (s.ptpRecord n (s.record t (wEth n) 1 n (d.flags + 64 * b2n dropped) (ptpData d.buf h f))).ptpEvent n 1 9

/-- The PTP header of a frame to be sent: after the EtherType, or after IP and UDP. -/
def txHeader (f : List Byte) : Nat × Bool :=
  match etherAt f with
  | none => (14, false)
  | some e =>
    let ty := be16At f e
    if ty = 0x0800 then (e + 2 + 4 * (byteAt f (e + 2) % 16) + 8, true)
    else if ty = 0x86dd then (e + 50, true)
    else (e + 2, false)

/-- Bytes `bs` written into a frame from `i` on. -/
def poke (f : List Byte) (i : Nat) (bs : List Byte) : List Byte := f.take i ++ bs ++ f.drop (i + bs.length)

/-- `n` bytes of `v`, most significant first. -/
def beBytes (n v : Nat) : List Byte := (leBytes n v).reverse

/-- The correctionField raised by `d` in units of 2^-16 ns. -/
def addCorrection (f : List Byte) (h : Nat) (d : Int) : List Byte :=
  poke f (h + 8) (beBytes 8 (ofSigned 64 ((beNat ((f.drop (h + 8)).take 8) : Int) + d)))

/-- The one's-complement sum, modulo 65,535, of the bytes as 16-bit words. -/
def onesSum : List Byte → Nat
  | [] => 0
  | [a] => a.toNat * 256 % 65535
  | a :: b :: t => (a.toNat * 256 + b.toNat + onesSum t) % 65535

/-- Annex E of IEEE 1588 as R227 uses it: the last two octets of the UDP payload make up for the change of the bytes from
the UDP header at `u` on. -/
def fixIp6 (old new : List Byte) (u : Nat) : List Byte :=
  let len := new.length
  let cur := beNat (new.drop (len - 2))
  let d := (onesSum (old.drop u) + 65535 - onesSum (new.drop u)) % 65535
  let sw (v : Nat) : Nat := v % 256 * 256 + v / 256 % 256
  let v := if (len - u) % 2 = 0 then (cur + d) % 65535 else sw ((sw cur + d) % 65535)
  poke new (len - 2) (beBytes 2 v)

/-- R227: the one-step insertion of stamp `t` (TB units). t2 of a Pdelay_Resp is the requestReceiptTimestamp that the port
program wrote (log entry 47). -/
def oneStep (f : List Byte) (t : Nat) : List Byte :=
  let (h, udp) := txHeader f
  let ip4 := be16At f ((etherAt f).getD 12) == 0x0800
  let ns := t / 65536
  let g := if byteAt f h % 16 = 0 then
      addCorrection (poke (poke f (h + 34) (beBytes 6 (ns / 1000000000))) (h + 40) (beBytes 4 (ns % 1000000000))) h
        (t % 65536 : Nat)
    else if byteAt f h % 16 = 3 then
      let t2 := (beNat ((f.drop (h + 34)).take 6) * 1000000000 + beNat ((f.drop (h + 40)).take 4)) * 65536
      addCorrection f h ((t : Int) - t2)
    else f
  if ¬ udp then g
  else if ip4 then (if byteAt f h % 16 = 0 ∨ byteAt f h % 16 = 3 then poke g (h - 2) [0, 0] else g)
  else if g = f then g
  else fixIp6 f g (h - 8)

/-- R251: a PTP frame leaves with the tag of ETHn_VLAN while VLANEN = 1, unless it carries a tag already (log entry 93). -/
def State.txTag (s : State) (n : Nat) (f : List Byte) : List Byte :=
  if ¬ s.flag (wEth n) ETH_VLAN_VLANEN ∨ isTag (be16At f 12) ∨ be16At f 12 = 0x8809 then f
  else f.take 12 ++ beBytes 2 0x8100 ++
    beBytes 2 (s.get (wEth n) ETH_VLAN_PCP * 2 ^ 13 + s.get (wEth n) ETH_VLAN_VID) ++ f.drop 12

/-- R226: a descriptor of TXQ. -/
def State.txDesc (s : State) (e : BitVec 256) : TxDesc :=
  let v := e.toNat
  { buf := v % 32, event := bitOf v 8, oneStep := bitOf v 9,
    launch := if bitOf v 10 then some (parseTime s.tb.ring (bitsOf v 16 96)) else none, epoch := bitsOf v 112 16,
    since := s.tb.c }

/-- R226, R228: the engine takes the oldest descriptor of TXQ. -/
def State.txTake (s : State) (n : Nat) : State :=
  let (e, s1) := s.qPop (s.get (wPtp n) PTP_QCFG_TXQ)
  let d := s1.txDesc e
  if d.event ∧ 128 ≤ (s.ptp n).txEv then
    let (f, s2) := s1.txFrame n d.buf
    s2.txRecord n d f (txHeader f).1 s.now true
  else s1.modPtp n (fun x => { x with txs := x.txs ++ [d], txEv := x.txEv + b2n d.event })

/-- R226: how long a launch time has passed, in TB units; one in another epoch counts as already passed. -/
def State.txPassed (s : State) (d : TxDesc) : Option Int :=
  match d.launch with
  | none => none
  | some t => if d.epoch = s.tb.epoch then some (-(s.tdiff t s.now)) else none

/-- The launch time has come. -/
def State.txReady (s : State) (d : TxDesc) : Bool := decide (0 ≤ (s.txPassed d).getD 0)

/-- The first descriptor that may be sent, and the others. -/
def State.txFirst (s : State) : List TxDesc → Option (TxDesc × List TxDesc)
  | [] => none
  | d :: ds => if s.txReady d then some (d, ds) else (s.txFirst ds).map (fun r => (r.1, d :: r.2))

/-- R220, R227: the frame is sent with its boundary at the balls at instant `t`. -/
def State.txSend (s : State) (n : Nat) (d : TxDesc) (rest : List TxDesc) (t : Nat) : State :=
  let s0 := s.modPtp n (fun x => { x with txs := rest })
  let (f, s1) := s0.txFrame n d.buf
  let stamp := s.stampAt t (s.ri (wEth n) ETH_TXLAT)
  let g := s.txTag n (if d.oneStep then oneStep f stamp else f)
  let s2 := s1.emit (.frame n g)
  if d.event then (s2.count (wPtp n) PTP_TXEVCNT 1).txRecord n d f (txHeader f).1 stamp false else s2

/-- R220: no gap within 2 ms of INLINE operation. -/
def State.txExpired (s : State) (d : TxDesc) : Bool :=
  s.due ((d.since + 2 * msU) % 2 ^ 96) && decide ((2 * msU : Int) ≤ (s.txPassed d).getD (2 * msU))

/-- R220: the first waiting descriptor that has found no gap for 2 ms, and the others. -/
def State.txLate (s : State) : List TxDesc → Option (TxDesc × List TxDesc)
  | [] => none
  | d :: ds => if s.txExpired d then some (d, ds) else (s.txLate ds).map (fun r => (r.1, d :: r.2))

/-- R220: the frame is dropped. -/
def State.txDrop (s : State) (n : Nat) (d : TxDesc) (rest : List TxDesc) : State :=
  let s0 := s.modPtp n (fun x => { x with txs := rest })
  let (f, s1) := s0.txFrame n d.buf
  ((s1.count (wEth n) ETH_TXDROPCNT 1).ethEvent n 3 3).txRecord n d f (txHeader f).1 s.now true

/-! ### Offsets and holds (R230 to R239) -/

def State.pathSt (s : State) (n : Nat) : Nat := s.get (wPtp n) PTP_STATE_PATHST
def State.stepPend (s : State) (n : Nat) : Bool := s.flag (wPtp n) PTP_STATE_STEPPEND
def State.srvEn (s : State) (n : Nat) : Bool := s.flag (wPtp n) PTP_CTL_SRVEN
def State.vsrcEn (s : State) (n : Nat) : Bool := s.flag (wPtp n) PTP_CTL_VSRCEN
/-- portState 9 is SLAVE. -/
def State.slave (s : State) (n : Nat) : Bool := s.get (wPtp n) PTP_PSTATE_PORTST == 9

/-- The servo word written by engine `n`; in the safe state the write is ignored and reported (R195). -/
def State.putSrvw (s : State) (n : Nat) (w : Int) : State :=
  if s.safe then s.accRecord (.eng (9 + n)) true (regAddr W_TB TB_SRVW_LO) .wign
  else (s.putPair W_TB TB_SRVW_LO (ofSigned 48 w)).tbServoWord

/-- I shown in SRVI and the word I + P brought into force (R232). -/
def State.srvWrite (s : State) (n : Nat) : State :=
  let x := s.ptp n
  let i := satSigned 48 (quotFree x.i (2 ^ 16))
  let s1 := s.putPair (wPtp n) PTP_SRVI_LO (ofSigned 48 i)
  if s.srvEn n then s1.putSrvw n (clampInt (-(s.flim 3)) (s.flim 3) (i + x.p)) else s1

/-- The proportional term is zeroed and I held (R233, R235, R237). -/
def State.srvHold (s : State) (n : Nat) : State := (s.modPtp n (fun x => { x with p := 0 })).srvWrite n

/-- R234: the source is held at entry to a hold. -/
def State.ptpSrcHold (s : State) (n : Nat) : State :=
  if s.vsrcEn n ∧ ¬ s.flag (wPtp n) PTP_STATE_SRCHELD then (s.srcHoldAs (18 + n) 2).put (wPtp n) PTP_STATE_SRCHELD 1 else s

/-- R234: at exit from the last hold, ACCEPT. -/
def State.ptpSrcResume (s : State) (n : Nat) : State :=
  if s.flag (wPtp n) PTP_STATE_SRCHELD ∧ ¬ s.stepPend n ∧ s.pathSt n ≠ 1 then
    (s.put (wPtp n) PTP_STATE_SRCHELD 0).srcAccept (18 + n)
  else s

/-- R232: one accepted offset in the hardware servo. -/
def State.servo (s : State) (n : Nat) (o : Int) : State :=
  let x := s.ptp n
  let e := o * 2 ^ 16
  let t := match x.lastAt with
    | none => 0
    | some c => (signedDiff 96 s.tb.c c).toNat
  let b0 := max 1 (s.rn (wPtp n) PTP_SRVBW) * 1000
  let b := if t = 0 then b0 else min b0 (10 ^ 6 * secU / (20 * t))
  let zeta := min 2560 (max 128 (s.get (wPtp n) PTP_SRVZETA_V))
  let wn := loopWn (min (4 * 10 ^ 9) b) zeta
  let sl := slopeWord (min 1000000 (max 1 (s.get (wPtp n) PTP_SRVSLOPE_V)))
  (s.modPtp n (fun y =>
    { y with i := satSigned 64 (y.i + loopI wn t e), p := clampInt (-sl) sl (loopP wn zeta e) })).srvWrite n

/-- SRVSTEP in TB units. -/
def State.srvStep (s : State) (n : Nat) : Nat := max 1 (s.rn (wPtp n) PTP_SRVSTEP) * nsU

/-- R233: an offset beyond the threshold. -/
def State.stepHold (s : State) (n : Nat) (o : Int) : State :=
  let s1 := s.putTriple (wPtp n) PTP_STEPAMT_W0 (ofSigned 96 (-o))
  if s.stepPend n then s1
  else (((s1.ptpSrcHold n).put (wPtp n) PTP_STATE_STEPPEND 1).srvHold n).ptpEvent n 2 10

/-- R239: the mean offset of the second that has ended. -/
def State.meanTake (s : State) (n : Nat) (o : Int) : State :=
  let sec := s.tb.c / secU
  s.modPtp n (fun x =>
    if sec = x.secIdx then { x with sum := x.sum + o, count := x.count + 1 }
    else { x with mean := if x.count = 0 then none else some (quotFree x.sum x.count), sum := o, count := 1, secIdx := sec })

/-- R239: the comparison of the two ports, port 0 less port 1 (log entry 48). -/
def State.xofs (s : State) : State :=
  let mon := (s.flag (wPtp 0) PTP_CTL_MONPORT && !s.slave 0 && s.slave 1) ||
    (s.flag (wPtp 1) PTP_CTL_MONPORT && !s.slave 1 && s.slave 0)
  match mon, (s.ptp 0).mean, (s.ptp 1).mean with
  | true, some a, some b =>
    let d := quotFree (a - b) 65536
    let s1 := s.wr (wPtp 0) PTP_XOFS (fit32 d)
    if s.rn (wPtp 0) PTP_XTOL < d.natAbs then s1.ptpEvent 0 10 17 else s1
  | _, _, _ => s.wr (wPtp 0) PTP_XOFS 0x8000_0000

/-- R231, R233, R237: an accepted offset. -/
def State.ptpAccept (s : State) (n : Nat) (o : Int) : State :=
  if s.srvStep n < o.natAbs then s.stepHold n o
  else if s.pathSt n = 1 then s.put (wPtp n) PTP_STATE_STEPPEND 0
  else
    let s1 := s.put (wPtp n) PTP_STATE_STEPPEND 0
    let s2 := if s1.vsrcEn n then s1.srcVirtual (18 + n) ((s1.ptp n).syncAt.getD s.tb.c) o else s1
    let s3 := s2.ptpSrcResume n
    let s4 := s3.modPtp n (fun x =>
      { x with heldOfs := o, interval := (signedDiff 96 s.tb.c x.sampleAt).toNat, sampleAt := s.tb.c })
    if s4.srvEn n ∧ s4.tb.steer = 1 then s4.servo n o else s4

/-- The offset committed last. -/
def State.ptpOfs (s : State) (n : Nat) : Int := toSigned 64 (s.pair (wPtp n) PTP_OFS_LO)

/-- R230: OFS_HI has been committed. -/
def State.ofsCommit (s : State) (n : Nat) : State :=
  if ¬ s.ptpOn n then s
  else if s.get (wPtp n) PTP_OFSEP_V ≠ s.tb.epoch then (s.count (wPtp n) PTP_EPDROP 1).ptpEvent n 7 15
  else
    let o := s.ptpOfs n
    let s1 := ((s.modPtp n (fun x => { x with ofs := o })).meanTake n o).xofs
    if s.slave n then (s1.ptpAccept n o).modPtp n (fun x => { x with lastAt := some s.tb.c }) else s1

/-! ### What writes do -/

/-- R224: whether ENABLE = 1 is refused; the refusal sets CFGREF. -/
def State.ptpEnableRefused (s : State) (n : Nat) : Bool := s.flag (wPtp n) PTP_CFG_DELAYMECH && s.inline n
def State.ptpCfgRef (s : State) (n : Nat) : State := s.sts (wPtp n) PTP_STS 512

/-- R231: whether SRVEN = 1 is refused; the refusal raises PTP_SRVREF. -/
def State.srvRefused (s : State) (n : Nat) : Bool := s.srvEn (1 - n) || (s.glOn && !s.glAnchor)
def State.srvRef (s : State) (n : Nat) : State := s.ptpEvent n 8 16

/-- PTPn_CTL has been written over `old`: without a servo SRVW is 0 (R194). -/
def State.ptpCtlWritten (s : State) (n old : Nat) : State :=
  if bitOf old 1 ∧ ¬ s.srvEn n then s.putSrvw n 0
  else if ¬ bitOf old 1 ∧ s.srvEn n then s.modPtp n (fun x => { x with lastAt := none })
  else s

/-- A published rank has changed (R62): every selector has a new reason to look. -/
def State.rankChanged (s : State) : State := (List.range 4).foldl (fun t n => t.selTrigger n .rank) s

/-- R229: PTPn_PSTATE has been written over `old`. -/
def State.pstateWritten (s : State) (n old : Nat) : State :=
  if bitsOf old 4 4 = s.get (wPtp n) PTP_PSTATE_RANK then s else s.rankChanged

/-- PATHHOLD as it acts, in TB units. -/
def State.pathHoldU (s : State) (n : Nat) : Nat := max 1 (s.get (wPtp n) PTP_PATH_PATHHOLD) * secU

/-- R237: PATHHOLD. -/
def State.ptpPathHold (s : State) (n : Nat) : State :=
  if s.pathSt n = 1 then s
  else
    (((((s.ptpSrcHold n).put (wPtp n) PTP_STATE_PATHST 1).srvHold n).modPtp n (fun x =>
      { x with pathEnd := some (s.after (s.pathHoldU n)), pathTo := false })).ptpEvent n 3 11)

/-- R238: path hold ends in PATHST `st`. -/
def State.pathLeave (s : State) (n st : Nat) : State :=
  ((s.put (wPtp n) PTP_STATE_PATHST st).modPtp n (fun x => { x with pathEnd := none, pathTo := false })).ptpSrcResume n

/-- R238: PATHACCEPT, PATHREJECT, SRVRESET; R235: PARENTCHG. -/
def State.ptpPathAccept (s : State) (n : Nat) : State := if s.pathSt n = 0 then s else s.pathLeave n 0
def State.ptpPathReject (s : State) (n : Nat) : State := if s.pathSt n = 1 then s.pathLeave n 2 else s
def State.ptpParentChg (s : State) (n : Nat) : State := (s.srvHold n).ptpEvent n 5 13
def State.ptpSrvReset (s : State) (n : Nat) : State := ((s.modPtp n (fun x => { x with i := 0 })).srvWrite n).pathLeave n 0

/-- A write of PTPn_CMD, its bits in order. -/
def State.ptpCmd (s : State) (n v : Nat) : State :=
  let s1 := if bitOf v 0 then s.ptpPathHold n else s
  let s2 := if bitOf v 1 then s1.ptpPathAccept n else s1
  let s3 := if bitOf v 2 then s2.ptpPathReject n else s2
  let s4 := if bitOf v 3 then s3.ptpParentChg n else s3
  if bitOf v 4 then s4.ptpSrvReset n else s4

/-- What PTPn_STATE reads as: SRVON and PATHLEFT are live. -/
def State.ptpStateReg (s : State) (n : Nat) : Nat :=
  let left := match (s.ptp n).pathEnd with
    | none => 0
    | some d => ceilDiv (signedDiff 96 d s.tb.c).toNat secU
  putBits (putBits (s.rn (wPtp n) PTP_STATE) 3 1 (b2n (s.srvEn n && s.tb.steer == 1))) 16 16 left

/-- R250: the engine after its reset: no hold, I = 0, SRVW = 0. -/
def State.ptpStop (s : State) (n : Nat) : State :=
  let s1 := s.modPtp n (fun x => { PtpSt.reset with prog := x.prog })
  if s.srvEn n then s1.putSrvw n 0 else s1

/-- R240: LINK of port `n` has fallen: SRC16 or SRC17 loses activity. -/
def State.ethLinkLost (s : State) (n : Nat) : State :=
  (s.modSrc (16 + n) (fun x => { x with bucket := s.actLim (16 + n) })).toLost (16 + n)

/-- R240, R251: ETHn_CTL has been written over `old`: a port powered up takes the ratio of its rate (R133), one powered down
has no link. -/
def State.ethCtlWritten (s : State) (n : Nat) (old : Nat) : State :=
  if s.ethOn n then (if bitOf old 0 then s else s.destRatio (3 + n))
  else if ¬ bitOf old 0 then s
  else
    let s1 := s.wr (wEth n) ETH_STATE 0
    if s.ethLink n then (s1.ethEvent n 0 0).ethLinkLost n else s1

/-! ### The commands -/

/-- ETH_LINK_CHANGE (R217, R240): what the PCS reports. SRC16 or SRC17 loses activity with LINK. -/
def execEthLinkChange (n : Port) (link hiber fecLock : Bool) (s : State) : Host.Outcome State Fault Refusal :=
  .next (if ¬ s.ethOn n then s
    else
      let was := s.ethLink n
      let s1 := s.wr (wEth n) ETH_STATE (b2n link + 2 * b2n hiber + 4 * b2n (fecLock && s.ethFec n))
      if was = link then s1
      else
        let s2 := s1.ethEvent n 0 0
        if link then s2 else s2.ethLinkLost n)

/-- ETH_FRAME_RX (R218): a frame from its destination address to the end of its payload, whether its FCS holds, the instant
of R221 in timebase time, and the codewords corrected and not corrected since the last report. -/
def execEthFrameRx (n : Port) (frame : List Byte) (fcsOk : Bool) (t cor unc : Nat) (s : State) :
    Host.Outcome State Fault Refusal :=
  .next (if s.ethOn n ∧ s.ethLink n then (s.ethFecCount n cor unc).ethRx n frame fcsOk t else s)

/-- EVENT_RATE_WINDOW (R228). -/
def execEventRateWindow (n : Port) (s : State) : Host.Outcome State Fault Refusal :=
  .next (if s.gridDue secU (s.ptp n).winIdx then
      s.modPtp n (fun x => { x with winIdx := s.tb.c / secU, rxEv := 0, txEv := 0 })
    else s)

/-- PTP_TX_DESCRIPTOR (R226). -/
def execPtpTxDescriptor (n : Port) (s : State) : Host.Outcome State Fault Refusal :=
  let q := s.get (wPtp n) PTP_QCFG_TXQ
  .next (if s.ptpOn n ∧ s.qEnabled q ∧ ¬ s.qEmpty q then s.txTake n else s)

/-- PTP_FRAME_TX (R220): a gap holds the frame; `t` is its instant of R221. -/
def execPtpFrameTx (n : Port) (t : Nat) (s : State) : Host.Outcome State Fault Refusal :=
  .next (match s.txFirst (s.ptp n).txs with
    | some (d, rest) => if s.ptpOn n ∧ s.ethOn n ∧ s.ethLink n then s.txSend n d rest t else s
    | none => s)

/-- ORIGINATED_FRAME_TIMEOUT (R220), in INLINE mode. -/
def execOriginatedFrameTimeout (n : Port) (s : State) : Host.Outcome State Fault Refusal :=
  .next (match s.txLate (s.ptp n).txs with
    | some (d, rest) => if s.inline n then s.txDrop n d rest else s
    | none => s)

/-- HELD_OFFSET_SAMPLE (R234): the last offset before the hold, at the expected interval. -/
def execHeldOffsetSample (n : Port) (s : State) : Host.Outcome State Fault Refusal :=
  let x := s.ptp n
  .next (if s.vsrcEn n ∧ s.slave n ∧ s.flag (wPtp n) PTP_STATE_SRCHELD ∧ s.due ((x.sampleAt + x.interval) % 2 ^ 96) then
      (s.srcVirtual (18 + n) s.tb.c x.heldOfs).modPtp n (fun y => { y with sampleAt := s.tb.c })
    else s)

/-- PATH_HOLD_TIMEOUT (R237): path hold continues. -/
def execPathHoldTimeout (n : Port) (s : State) : Host.Outcome State Fault Refusal :=
  .next (match (s.ptp n).pathEnd with
    | some d =>
      if s.pathSt n = 1 ∧ ¬ (s.ptp n).pathTo ∧ s.due d then
        (s.modPtp n (fun x => { x with pathTo := true })).ptpEvent n 4 12
      else s
    | none => s)

end Sys2Proof.Machine
end

