-- ==== Sys2Proof/Machine/Tod.lean ====
section
/-!
DEFINITION. SyncE quality levels and the GNSS time of day (chapter 10): SYE's codes, its published and transmitted ranks,
and the UART's messages.
-/

namespace Sys2Proof.Machine

/-! ### SYE (R241 to R243) -/

/-- A bit of SYE_STS with bit b of G12 (R247). -/
def State.syeEvent (s : State) (b : Nat) : State := (s.sts W_SYE SYE_STS (2 ^ b)).raise 12 b

/-- The rows of R242 for an option: rank, SSM code, enhanced code where one is given. -/
def ssmRows (opt2 : Bool) : List (Nat × Nat × Option Nat) :=
  if opt2 then
    [(3, 0x1, none), (4, 0x0, none), (5, 0x7, none), (6, 0x4, none), (8, 0xd, none), (9, 0xa, some 0x22), (10, 0xa, none),
     (11, 0xc, none), (12, 0xe, none), (15, 0xf, none)]
  else
    [(0, 0x2, some 0x21), (1, 0x2, some 0x20), (2, 0x2, some 0x23), (3, 0x2, none), (6, 0x4, none), (7, 0x8, none),
     (9, 0xb, some 0x22), (10, 0xb, none), (15, 0xf, none)]

/-- R241: the rank of received codes; none for a code outside the option. An enhanced code counts only for an SSM code
that has enhanced rows (log entry 49). -/
def rankOf (opt2 : Bool) (ssm : Nat) (essm : Option Nat) : Option Nat :=
  let rows := (ssmRows opt2).filter (fun r => r.2.1 = ssm)
  let enh := rows.any (fun r => r.2.2.isSome)
  let want := if enh then essm else none
  (rows.find? (fun r => r.2.2 = want)).map (fun r => r.1)

/-- R242: the row in which a rank is sent: its own, or that of the next worse rank that has one. -/
def rowOf (opt2 : Bool) (rank : Nat) : Nat × Nat × Option Nat :=
  ((ssmRows opt2).find? (fun r => rank ≤ r.1)).getD (15, 0xf, none)

def rxqlField (p : Nat) : Fld := if p = 0 then SYE_RXQL_RANK0 else SYE_RXQL_RANK1

/-- R241: the published rank of SRC(16 + p) becomes `r`. -/
def State.syeRank (s : State) (p r : Nat) : State :=
  if s.get W_SYE (rxqlField p) = r then s else ((s.put W_SYE (rxqlField p) r).syeEvent p).rankChanged

/-- R241: PTp has written SYE_RXSSMp. -/
def State.syeRx (s : State) (p : Nat) : State :=
  let v := s.rn W_SYE (SYE_RXSSM0 + 4 * p)
  if ¬ bitOf (s.rn W_SYE SYE_CTL) p then s
  else
    let s1 := s.setTod { s.tod with esmcEnd := lput none s.tod.esmcEnd p (some (s.after (5 * secU))) }
    match rankOf (s.flag W_SYE SYE_CFG_NET) (v % 16) (if bitOf v 16 then some (bitsOf v 8 8) else none) with
    | some r => s1.syeRank p r
    | none => (s1.syeRank p 14).syeEvent 5

/-- R243: the rank that port `p` sends, by the first row that applies; `own` is the source that the first row of the table
on its own clock names. -/
def State.syeTxRank (s : State) (own : Nat) : Nat :=
  let st := s.loopst 2
  if st = 0 then 15
  else if s.selCur 2 = own then 15
  else if st = 1 ∨ st = 2 then s.effRank 2 (s.selCur 2)
  else s.get W_SYE SYE_CFG_HOQL

/-- The 16 bits of SYE_TXQL for port `p`: rank, SSM, enhanced code (R242, R243). -/
def State.syeTxWord (s : State) (p : Nat) : Nat :=
  if ¬ bitOf (s.rn W_SYE SYE_CTL) (2 + p) then 0xff
  else
    let r := rowOf (s.flag W_SYE SYE_CFG_NET) (s.syeTxRank (16 + p))
    r.1 + r.2.1 * 2 ^ 4 + (if s.flag W_SYE SYE_CFG_ENH then r.2.2.getD 0 else 0) * 2 ^ 8

/-- R243: SYE_TXQL follows; a change raises SYE_TXQL and PTp's event ESMCCHG. -/
def State.syeRefresh (s : State) : State :=
  (List.range 2).foldl (fun (t : State) p =>
    let old := t.rn W_SYE SYE_TXQL
    let w := t.syeTxWord p
    if bitsOf old (16 * p) 16 = w then t
    else ((t.wr W_SYE SYE_TXQL (putBits old (16 * p) 16 w)).syeEvent 4).engPend (9 + p) 1 0) s

/-! ### The UART (R244 to R246) -/

/-- A bit of UART_STS with bit 16 + b of G12: 0 TOD, 1 ERR, 2 SECDIFF, 3 TX. -/
def State.uartEvent (s : State) (b : Nat) : State := (s.sts W_UART UART_STS (2 ^ b)).raise 12 (16 + b)

/-- R244: a message rejected: 0 FRAMING, 1 CHECKSUM, 2 SENTENCE, 3 ASSOC. -/
def State.uartErr (s : State) (cause : Nat) : State :=
  ((s.count W_UART UART_ERRCNT 1).uartEvent 1).put W_UART UART_STS_CAUSE cause

/-- One byte into a CRC-16 register, polynomial 0x1021, not reflected. -/
def crc16Byte (c : Nat) (b : Byte) : Nat :=
  (List.range 8).foldl (fun c _ => if 2 ^ 15 ≤ c then Nat.xor (c * 2 % 2 ^ 16) 0x1021 else c * 2)
    (Nat.xor c (b.toNat * 256))

/-- R244: the CRC-16 of the device's time message. -/
def crc16 (bs : List Byte) : Nat := bs.foldl crc16Byte 0xffff

/-- What a message says: TAI seconds, or why it is rejected; `other` is a sentence that tells no time. -/
inductive TodParse
  | secs (v : Nat)
  | err (cause : Nat)
  | other
  deriving DecidableEq, Repr

/-- R244: the device's own time message. One whose VALID is 0 is rejected (log entry 50). -/
def parseBinary (m : List Byte) : TodParse :=
  if m.length ≠ 16 ∨ byteAt m 0 ≠ 0xc5 ∨ byteAt m 1 ≠ 0x64 ∨ byteAt m 2 ≠ 1 ∨ byteAt m 3 ≠ 10 then .err 2
  else if crc16 ((m.drop 2).take 12) ≠ leNat (m.drop 14) then .err 1
  else if ¬ bitOf (byteAt m 12) 0 then .err 2
  else .secs (leNat ((m.drop 4).take 6))

/-- The value of a decimal digit. -/
def digit (b : Byte) : Option Nat := if 48 ≤ b.toNat ∧ b.toNat ≤ 57 then some (b.toNat - 48) else none

/-- The number that a string of decimal digits spells; none for anything else. -/
def decimal : List Byte → Nat → Option Nat
  | [], v => some v
  | b :: t, v => match digit b with
    | some d => decimal t (10 * v + d)
    | none => none

/-- Exactly `n` digits from position `i`. -/
def digitsAt (f : List Byte) (i n : Nat) : Option Nat :=
  if (f.drop i).length < n then none else decimal ((f.drop i).take n) 0

/-- A hexadecimal digit. -/
def hexDigit (b : Byte) : Option Nat :=
  let v := b.toNat
  if 48 ≤ v ∧ v ≤ 57 then some (v - 48) else if 65 ≤ v ∧ v ≤ 70 then some (v - 55)
  else if 97 ≤ v ∧ v ≤ 102 then some (v - 87) else none

/-- The fields of a sentence, split at its commas. -/
def splitComma : List Byte → List (List Byte)
  | [] => [[]]
  | b :: t =>
    match splitComma t with
    | [] => [[b]]
    | f :: fs => if b.toNat = 44 then [] :: f :: fs else (b :: f) :: fs

/-- Days from 1970-01-01 of a Gregorian date. -/
def civilDays (y m d : Nat) : Nat :=
  let y1 := if m ≤ 2 then y - 1 else y
  let m1 := if m ≤ 2 then m + 9 else m - 3
  365 * y1 + y1 / 4 - y1 / 100 + y1 / 400 + (153 * m1 + 2) / 5 + d - 1 - 719468

/-- UTC seconds of a date and a time field hhmmss, any fraction truncated. -/
def utcSecs (tm : List Byte) (y m d : Nat) : Option Nat :=
  match digitsAt tm 0 2, digitsAt tm 2 2, digitsAt tm 4 2 with
  | some h, some mi, some sec =>
    if 24 ≤ h ∨ 60 ≤ mi ∨ 61 ≤ sec ∨ m < 1 ∨ 12 < m ∨ d < 1 ∨ 31 < d ∨ y < 1970 then none
    else some (civilDays y m d * 86400 + h * 3600 + mi * 60 + sec)
  | _, _, _ => none

/-- R244: UTC seconds of a ZDA or RMC sentence; RMC requires status A. Its two-digit year means 2000 to 2099 (log entry
50). -/
def sentenceSecs (body : List Byte) : TodParse :=
  let fs := splitComma body
  let fld (i : Nat) : List Byte := lget [] fs i
  let kind := ((fld 0).drop 2).map BitVec.toNat
  let out (o : Option Nat) : TodParse := match o with
    | some v => .secs v
    | none => .err 2
  if (fld 0).length ≠ 5 then .other
  else if kind = [90, 68, 65] then
    match decimal (fld 2) 0, decimal (fld 3) 0, digitsAt (fld 4) 0 4 with
    | some d, some m, some y => out (utcSecs (fld 1) y m d)
    | _, _, _ => .err 2
  else if kind = [82, 77, 67] then
    if (fld 2).map BitVec.toNat ≠ [65] then .err 2
    else match digitsAt (fld 9) 0 2, digitsAt (fld 9) 2 2, digitsAt (fld 9) 4 2 with
      | some d, some m, some y => out (utcSecs (fld 1) (2000 + y) m d)
      | _, _, _ => .err 2
  else .other

/-- R244: an NMEA sentence from its dollar sign to the two digits of its checksum. -/
def parseNmea (m : List Byte) (leap : Int) : TodParse :=
  let body := (m.drop 1).takeWhile (fun b => b.toNat ≠ 42)
  let rest := (m.drop 1).drop body.length
  match m.head?, rest with
  | some d, _ :: a :: b :: _ =>
    if d.toNat ≠ 36 then .err 2
    else match hexDigit a, hexDigit b with
      | some x, some y =>
        if 16 * x + y ≠ body.foldl (fun c e => Nat.xor c e.toNat) 0 then .err 1
        else match sentenceSecs body with
          | .secs v => .secs ((v : Int) + leap).toNat
          | r => r
      | _, _ => .err 1
  | _, _ => .err 1

/-- R245: the seconds are associated with the edge at timebase time `t`. -/
def State.todAssociate (s : State) (secs t : Nat) : State :=
  let r := (2 * t + secU) / (2 * secU)
  let diff : Int := (secs : Int) - r
  let s1 := ((s.putInstant W_UART UART_PPS_W0 t).wr W_UART UART_SECDIFF (fit32 diff)).wr W_UART UART_NSERR
    (fit32 ((t : Int) - r * secU))
  let s2 := s1.uartEvent 0
  if diff = 0 then s2 else s2.uartEvent 2

/-- Between 10 ms and 990 ms. -/
def todWindow (d : Int) : Bool := decide (10 * msU ≤ d ∧ d ≤ 990 * msU)

/-- R245: a checked message that says `secs`, its first start bit at count `start`, its last stop bit now. -/
def State.todMessage (s : State) (secs start : Nat) : State :=
  let s1 := s.putPair W_UART UART_TODSEC_LO (secs % 2 ^ 48)
  if s.flag W_UART UART_CFG_TODREF then s1.setTod { s1.tod with msgs := s1.tod.msgs ++ [⟨secs, s.tb.c⟩] }
  else match (s.tod.edges.filter (fun e => todWindow ((start : Int) - e.1))).head? with
    | some e => s1.todAssociate secs e.2
    | none => s1.uartErr 3

/-- R244: a message received whole; BINARY or NMEA by PROTO. -/
def State.uartRx (s : State) (m : List Byte) (framing : Bool) (start : Nat) : State :=
  if framing then s.uartErr 0
  else
    match if s.flag W_UART UART_CFG_PROTO then parseBinary m else parseNmea m (toSigned 16 (s.get W_UART UART_LEAP_V)) with
    | .secs v => s.todMessage v start
    | .err c => s.uartErr c
    | .other => s

/-- The first edge within 10 ms to 990 ms after the held message's stop bit (R245). -/
def State.todNextEdge (s : State) (stop : Nat) : Option (Int × Nat) :=
  (s.tod.edges.reverse.filter (fun e => todWindow (e.1 - stop))).head?

/-- R245: UART_CFG has been written over `old`: no edge of another source than PPSSRC is kept. -/
def State.uartCfgWritten (s : State) (old : Nat) : State :=
  if bitsOf old 5 5 = s.get W_UART UART_CFG_PPSSRC then s else s.setTod { s.tod with edges := [] }

/-- R246: the time message for second `sec`. -/
def State.todBytes (s : State) (sec : Nat) : List Byte :=
  let body : List Byte := [0x01, 10] ++ leBytes 6 (sec % 2 ^ 48) ++ leBytes 2 (s.get W_UART UART_TXINFO_UTCOFS) ++
    leBytes 1 (s.get W_UART UART_TXINFO_FLAGS) ++ [0]
  [0xc5, 0x64] ++ body ++ leBytes 2 (crc16 body)

/-- TXDLY in TB units as it acts. -/
def State.txDly (s : State) : Nat := min 900 (max 10 (s.get W_UART UART_TXDLY_V)) * msU

/-! ### The commands -/

/-- ESMC_TIMEOUT (R241). -/
def execEsmcTimeout (p : Port) (s : State) : Host.Outcome State Fault Refusal :=
  .next (match lget none s.tod.esmcEnd p with
    | some d =>
      if s.due d then
        ((s.setTod { s.tod with esmcEnd := lput none s.tod.esmcEnd p none }).syeRank p 15).syeEvent (2 + p)
      else s
    | none => s)

/-- ESMC_TICK (R243): the event ESMCTICK of each transmitting port's engine. -/
def execEsmcTick (s : State) : Host.Outcome State Fault Refusal :=
  .next (if s.gridDue secU s.tod.esmcIdx then
      let s1 := (s.setTod { s.tod with esmcIdx := s.tb.c / secU }).syeRefresh
      (List.range 2).foldl (fun (t : State) p =>
        if bitOf (t.rn W_SYE SYE_CTL) (2 + p) then t.engPend (9 + p) 0 0 else t) s1
    else s)

/-- UART_MESSAGE (R244): the bytes of a message, whether a framing error occurred in it, and the count C at its first start
bit; the last stop bit is now. -/
def execUartMessage (bytes : List Byte) (framing : Bool) (start : Nat) (s : State) : Host.Outcome State Fault Refusal :=
  .next (if s.flag W_UART UART_CTL_RXEN then s.uartRx bytes framing start else s)

/-- UART_TOD_ASSOCIATION (R245) of the first message whose edge has come. -/
def execUartTodAssociation (s : State) : Host.Outcome State Fault Refusal :=
  .next (match s.tod.msgs.find? (fun m => (s.todNextEdge m.stop).isSome) with
    | some m =>
      (match s.todNextEdge m.stop with
       | some e => (s.setTod { s.tod with msgs := s.tod.msgs.erase m }).todAssociate m.secs e.2
       | none => s)
    | none => s)

/-- TOD_ASSOCIATION_TIMEOUT (R245). -/
def execTodAssociationTimeout (s : State) : Host.Outcome State Fault Refusal :=
  .next (match s.tod.msgs.find? (fun m => s.due ((m.stop + 990 * msU) % 2 ^ 96) && (s.todNextEdge m.stop).isNone) with
    | some m => (s.setTod { s.tod with msgs := s.tod.msgs.erase m }).uartErr 3
    | none => s)

/-- UART_TX_START (R246): TXDLY after a whole second, once for each. -/
def execUartTxStart (s : State) : Host.Outcome State Fault Refusal :=
  let sec := s.now / secU
  .next (if s.flag W_UART UART_CTL_TXEN ∧ s.tb.running ∧ s.txDly ≤ s.now % secU ∧ s.tod.txSec ≠ some sec ∧
      s.tod.txBytes = none then
      s.setTod { s.tod with txSec := some sec, txBytes := some (s.todBytes sec) }
    else s)

/-- UART_TX_END (R246). -/
def execUartTxEnd (s : State) : Host.Outcome State Fault Refusal :=
  .next (match s.tod.txBytes with
    | some b => ((s.setTod { s.tod with txBytes := none }).emit (.todByte b)).uartEvent 3
    | none => s)

end Sys2Proof.Machine
end

