-- ==== Sys2Proof/Machine/Nvs.lean ====
section
/-!
DEFINITION. Non-volatile storage (chapter 18): rows and their check bits, regions, passwords and lockout, the operations
and their turns, the refresh scan, slot rings, calibration banks, the model record and the boot directory.
-/

namespace Sys2Proof.Machine

/-! ### Rows (R419, R420) -/

/-- The bytes of the cells. -/
def nvSize : Nat := 0x4_0000

/-- A byte of the cells. -/
def State.nvByte (s : State) (a : Nat) : Byte := sparseGet memDefault s.nv.cells a

/-- Whether the row at `a` holds a double-bit error. -/
def State.nvBad (s : State) (a : Nat) : Bool := s.nv.bad.any (fun e => e.1 == a && e.2)

/-- A byte as a read returns it: 0xFF in a row with a double-bit error. -/
def State.nvSee (s : State) (a : Nat) : Byte := if s.nvBad (a / 8 * 8) then 0xff else s.nvByte a

/-- `n` bytes as a read returns them. -/
def State.nvSees (s : State) (a n : Nat) : List Byte := (List.range n).map (fun i => s.nvSee (a + i))

/-- R420: what reading a row records: a single-bit error is counted and its row scheduled, a double-bit error gives
NVS_ERRADDR and NV_UNCORR. True where the row is uncorrectable. -/
def State.nvCheck (s : State) (a : Nat) : Bool × State :=
  match s.nv.bad.find? (fun e => e.1 == a) with
  | none => (false, s)
  | some (_, false) => (false, (s.count W_NVS NVS_CORRCNT 1).setNv { s.nv with sched := a :: s.nv.sched.erase a })
  | some (_, true) => (true, ((s.wr W_NVS NVS_ERRADDR a).sts W_NVS NVS_STS 8).raise 15 8)

/-- Rows read in order; true where any is uncorrectable. -/
def State.nvCheckAll : List Nat → State → Bool × State
  | [], s => (false, s)
  | a :: as, s =>
    let (b, s1) := s.nvCheck a
    let r := State.nvCheckAll as s1
    (b || r.1, r.2)

/-- The rows that hold the `n` bytes from `a` on. -/
def rowsOf (a n : Nat) : List Nat :=
  if n = 0 then [] else (List.range ((a + n - 1) / 8 - a / 8 + 1)).map (fun i => (a / 8 + i) * 8)

/-- An internal reader takes `n` bytes. -/
def State.nvTake (s : State) (a n : Nat) : List Byte × State := (s.nvSees a n, (State.nvCheckAll (rowsOf a n) s).2)

/-- Bytes into the cells. -/
def nvFill (l : List Host.Cell) : Nat → List Byte → List Host.Cell
  | _, [] => l
  | a, b :: bs => nvFill (sparsePut memDefault l a b) (a + 1) bs

/-- R422: a row written whole; its check bits are written with it. -/
def State.nvRowWrite (s : State) (r : Nat × List Byte) : State :=
  s.setNv { s.nv with
    cells := nvFill s.nv.cells r.1 r.2, bad := s.nv.bad.filter (fun e => e.1 != r.1), sched := s.nv.sched.erase r.1 }

/-- Rows written in order. -/
def State.nvRowsWrite (s : State) (rows : List (Nat × List Byte)) : State := rows.foldl State.nvRowWrite s

/-- The rows of whole bytes from the row address `a` on: for blocks whose length is a multiple of eight. -/
def rowsFrom : Nat → Nat → List Byte → List (Nat × List Byte)
  | 0, _, _ => []
  | n + 1, a, bs => (a, bs.take 8) :: rowsFrom n (a + 8) (bs.drop 8)

/-! ### Regions and passwords (R419, R424, R425) -/

/-- The region of an NV address. -/
def nvRegion (a : Nat) : Nat :=
  if a < 0x2_4000 then 0 else if a < 0x3_4000 then 1 else if a < 0x3_a000 then 2 else if a < 0x3_f000 then 3 else 4

/-- The factory area (R427). -/
def nvFactory (a : Nat) : Bool := decide (0x3_fc00 ≤ a)

/-- Whether `n` bytes from `a` touch KEYS. -/
def touchesKeys (a n : Nat) : Bool := decide (0 < n ∧ 0x3_f000 < a + n)

def State.nvLocked (s : State) (r : Nat) : Bool := bitOf (s.get W_NVS NVS_STATE_LOCKOUT) r
def State.nvPwd (s : State) (r kind : Nat) : Nat := lget 0 s.nv.pwds (2 * r + kind)

/-- The unlock bits of a kind: 0 read, 1 write. -/
def unlkField (kind : Nat) : Fld := if kind = 0 then NVS_STATE_RUNLK else NVS_STATE_WUNLK

/-- R424: whether a kind of a region is closed: it has a password and no unlock. -/
def State.nvClosed (s : State) (r kind : Nat) : Bool :=
  s.nvPwd r kind != 0 && !bitOf (s.get W_NVS (unlkField kind)) r

/-- An unlock bit set or cleared. -/
def State.nvSetUnlk (s : State) (r kind : Nat) (on : Bool) : State :=
  let v := s.get W_NVS (unlkField kind)
  s.put W_NVS (unlkField kind) (putBits v r 1 (b2n on))

def State.nvAttempts (s : State) (r : Nat) : Nat := bitsOf (s.rn W_NVS NVS_ATTEMPTS) (4 * r) 4
def State.setAttempts (s : State) (r v : Nat) : State :=
  s.wr W_NVS NVS_ATTEMPTS (putBits (s.rn W_NVS NVS_ATTEMPTS) (4 * r) 4 v)

/-- The result codes of NVS_STS (R438). -/
def NV_OK : Nat := 0
def NV_RANGE : Nat := 1
def NV_DENIED : Nat := 2
def NV_LOCKOUT : Nat := 3
def NV_BADPWD : Nat := 4
def NV_ECCERR : Nat := 5
def NV_PWRFAIL : Nat := 6
def NV_SRAMERR : Nat := 7

/-- R425: an UNLOCK: its result and the state it leaves. -/
def State.nvUnlock (s : State) (c : NvCmd) : Nat × State :=
  let r := c.region
  if s.nvPwd r c.kind = 0 then (NV_OK, s)
  else if c.pwd = s.nvPwd r c.kind then (NV_OK, (s.nvSetUnlk r c.kind true).setAttempts r 0)
  else
    let n := s.nvAttempts r + 1
    let s1 := s.setAttempts r n
    if 8 ≤ n then
      (NV_LOCKOUT, ((s1.put W_NVS NVS_STATE_LOCKOUT (putBits (s1.get W_NVS NVS_STATE_LOCKOUT) r 1 1)).sts W_NVS NVS_STS
        2).raise 15 6)
    else (NV_BADPWD, s1)

/-- Why a command is not carried out: its limits (R421), then lockout (R425), then passwords (R424, R427); 0 where it
is. -/
def State.nvRefuse (s : State) (c : NvCmd) : Nat :=
  let a := c.addr
  let r := nvRegion a
  if c.op = 1 ∨ c.op = 2 then
    if c.len < 1 ∨ 64 < c.len then NV_RANGE
    else if s.nvLocked r then NV_LOCKOUT
    else if c.op = 1 then (if s.nvClosed r 0 ∧ ¬ nvFactory a then NV_DENIED else NV_OK)
    else if nvFactory a ∨ s.nvClosed r 1 then NV_DENIED else NV_OK
  else if c.op = 3 ∨ c.op = 4 then
    if a % 64 ≠ 0 ∨ c.len % 64 ≠ 0 ∨ 65536 < c.len ∨ nvSize < a + c.len ∨ c.sram % 8 ≠ 0 ∨
        (c.len ≠ 0 ∧ nvRegion (a + c.len - 1) ≠ r) then NV_RANGE
    else if sramSize < c.sram + c.len then NV_SRAMERR
    else if s.nvLocked r then NV_LOCKOUT
    else if c.op = 3 then (if s.nvClosed r 0 ∧ ¬ nvFactory a then NV_DENIED else NV_OK)
    else if nvFactory (a + c.len - 1) ∨ s.nvClosed r 1 then NV_DENIED else NV_OK
  else if 5 ≤ c.op ∧ c.op ≤ 7 then
    if 4 < c.region then NV_RANGE
    else if s.nvLocked c.region then NV_LOCKOUT
    else if c.op = 7 ∧ s.nvClosed c.region 1 then NV_DENIED
    else NV_OK
  else if c.op = 8 then NV_OK
  else NV_RANGE

/-! ### Slot rings (R431) -/

/-- The address of slot `i` of ring `r`. -/
def slotAddr (r i : Nat) : Nat := 0x3_4000 + 256 * r + 16 * i

/-- A slot's value and sequence, where its CRC and its ring number are right. -/
def slotOf (r : Nat) (bs : List Byte) : Option (Nat × Nat) :=
  if crc16 (bs.take 14) = leNat ((bs.drop 14).take 2) ∧ leNat ((bs.drop 12).take 2) = r then
    some (leNat (bs.take 8), leNat ((bs.drop 8).take 4))
  else none

/-- The valid slot of a ring: its index, value and sequence. -/
def State.slotValid (s : State) (r : Nat) : Option (Nat × Nat × Nat) :=
  (List.range 16).foldl (fun (best : Option (Nat × Nat × Nat)) i =>
    match slotOf r (s.nvSees (slotAddr r i) 16), best with
    | none, b => b
    | some (v, q), none => some (i, v, q)
    | some (v, q), some (j, u, p) => if p < q then some (i, v, q) else some (j, u, p)) none

/-- The value that a ring holds; 0 with no valid slot. -/
def State.slotValue (s : State) (r : Nat) : Nat := match s.slotValid r with | none => 0 | some (_, v, _) => v

/-- The rows of an update of ring `r` with value `v`. -/
def State.slotRows (s : State) (r v : Nat) : List (Nat × List Byte) :=
  let (i, q) := match s.slotValid r with | none => (0, 0) | some (i, _, q) => ((i + 1) % 16, (q + 1) % 2 ^ 32)
  let body := leBytes 8 v ++ leBytes 4 q ++ leBytes 2 r
  rowsFrom 2 (slotAddr r i) (body ++ leBytes 2 (crc16 body))

/-! ### Calibration banks (R432, R433) -/

def bankAddr (b : Nat) : Nat := 0x2_4000 + 0x8000 * b

/-- A bank's sequence, where MAGIC, VERSION, LENGTH and CRC are right. -/
def State.bankSeq (s : State) (b : Nat) : Option Nat :=
  let h := s.nvSees (bankAddr b) 16
  if leNat (h.take 4) = 0x5445_5343 ∧ leNat ((h.drop 4).take 2) = 0x100 ∧ leNat ((h.drop 8).take 4) = 31364 then
    (if crc32 (s.nvSees (bankAddr b) 0x7a80) = leNat (s.nvSees (bankAddr b + 0x7a80) 4) then some (leNat ((h.drop 12).take
      4)) else none)
  else none

/-- R433: whether sequence `a` is newer than `b`. -/
def seqNewer (a b : Nat) : Bool :=
  let d := (a + 2 ^ 32 - b % 2 ^ 32) % 2 ^ 32
  decide (1 ≤ d ∧ d < 2 ^ 31)

/-- The newer of two copies, of their sequences. -/
def newerOf (a b : Option Nat) : Option Nat :=
  match a, b with
  | none, none => none
  | some _, none => some 0
  | none, some _ => some 1
  | some x, some y => some (if seqNewer y x then 1 else 0)

/-- The bank in force at boot: the newer valid one. -/
def State.bankPick (s : State) : Option Nat := newerOf (s.bankSeq 0) (s.bankSeq 1)

/-- The bytes of a set: TDC knots, FRET knots, four of zero. -/
def State.setBytesOf (s : State) (p : Nat) : List Byte :=
  ((List.range 38).flatMap (fun i => (List.range 33).flatMap (fun j => leBytes 2 (s.knot p 0 i j)))) ++
    ((List.range 40).flatMap (fun n => (List.range 17).flatMap (fun k => leBytes 2 (s.knot p 1 n k)))) ++ leBytes 4 0

/-- A bank with sequence `q` as the present trims give it. -/
def State.bankBytes (s : State) (q : Nat) : List Byte :=
  let body := leBytes 4 0x5445_5343 ++ leBytes 2 0x100 ++ leBytes 2 0 ++ leBytes 4 31364 ++ leBytes 4 q ++
    leBytes 4 (s.rn W_CAL CAL_TPTS0) ++ leBytes 4 (s.rn W_CAL CAL_TPTS1) ++ leBytes 1 (s.get W_CAL CAL_TFILL_FILLED) ++
    leBytes 7 0 ++ leBytes 8 (s.pair W_CAL CAL_TDCOK_LO) ++ leBytes 8 (s.pair W_CAL CAL_LINOK_LO) ++ leBytes 16 0 ++
    s.cal.echo.flatMap (fun e => leBytes 4 e.1 ++ leBytes 4 (e.2 % 2 ^ 32)) ++
    (List.range 8).flatMap s.setBytesOf
  body ++ leBytes 4 (crc32 body)

/-- R433: the bank a commit writes, the older or an invalid one, and its sequence. -/
def State.commitBank (s : State) : Nat × Nat :=
  let a := s.bankSeq 0
  let b := s.bankSeq 1
  match newerOf a b with
  | none => (0, 0)
  | some 0 => (1, (a.getD 0 + 1) % 2 ^ 32)
  | some _ => (0, (b.getD 0 + 1) % 2 ^ 32)

/-- The rows of a commit; the last holds the CRC. -/
def State.commitRows (s : State) : List (Nat × List Byte) :=
  let (b, q) := s.commitBank
  rowsFrom 3921 (bankAddr b) (s.bankBytes q ++ s.nvSees (bankAddr b + 31364) 4)

/-! ### Copies with MAGIC, SEQ and CRC (R434, R435) -/

/-- The sequence of a copy of `n` bytes and a CRC-32, where MAGIC and CRC are right. -/
def State.copySeq (s : State) (magic a n : Nat) : Option Nat :=
  let h := s.nvSees a 8
  if leNat (h.take 4) = magic then
    (if crc32 (s.nvSees a n) = leNat (s.nvSees (a + n) 4) then some (leNat (h.drop 4)) else none)
  else none

/-- The address of the valid model record (R434). -/
def State.modelCopy (s : State) : Option Nat :=
  (newerOf (s.copySeq 0x4d43_534f 0x3_8000 0x3c) (s.copySeq 0x4d43_534f 0x3_8100 0x3c)).map (fun i => 0x3_8000 + 0x100 * i)

/-- The address of the valid boot directory (R435); a region in lockout is not read (R425). -/
def State.dirCopy (s : State) : Option Nat :=
  if s.nvLocked 0 then none
  else (newerOf (s.copySeq 0x5249_4442 0 0x90) (s.copySeq 0x5249_4442 0x100 0x90)).map (fun i => 0x100 * i)

/-- SETTINGS of the valid directory; zero where no copy is valid (R453). -/
def State.bootSettings (s : State) : Nat := match s.dirCopy with | none => 0 | some a => leNat (s.nvSees (a + 8) 4)

/-- An entry of the valid directory: start, length, target, flags; none for an empty slot, one beyond BOOT or without a
valid copy. -/
def State.bootEntry (s : State) (i : Nat) : Option (Nat × Nat × Nat × Nat) :=
  match s.dirCopy with
  | none => none
  | some a =>
    let e := s.nvSees (a + 0x10 + 8 * i) 8
    let start := 64 * leNat (e.take 2)
    let len := leNat ((e.drop 2).take 4)
    if i < 16 ∧ len ≠ 0 ∧ start + len ≤ 0x2_4000 then
      some (start, len, leNat ((e.drop 6).take 1), leNat ((e.drop 7).take 1))
    else none

/-- The rows of a write of the model record, to the copy that is not the valid one (R434); `bs` holds bytes 8 to 0x3B. -/
def State.modelRows (s : State) (bs : List Byte) : List (Nat × List Byte) :=
  let a := s.copySeq 0x4d43_534f 0x3_8000 0x3c
  let b := s.copySeq 0x4d43_534f 0x3_8100 0x3c
  let (at_, q) := match newerOf a b with
    | none => (0x3_8000, 0)
    | some 0 => (0x3_8100, (a.getD 0 + 1) % 2 ^ 32)
    | some _ => (0x3_8000, (b.getD 0 + 1) % 2 ^ 32)
  let body := leBytes 4 0x4d43_534f ++ leBytes 4 q ++ bs
  rowsFrom 8 at_ (body ++ leBytes 4 (crc32 body))

/-! ### Operations (R421 to R423, R429) -/

/-- PWRHOLD: no row write begins (R423). -/
def State.pwrHold (s : State) : Bool := s.flag W_NVS NVS_STATE_PWRHOLD

/-- R422: where byte `i` of a READ or WRITE at `a` lies. -/
def pageAddr (a i : Nat) : Nat := a / 64 * 64 + (a + i) % 64

/-- R422: the rows a READ or WRITE touches, ascending from the row of `a`, wrapping within the page. -/
def pageRows (a n : Nat) : List Nat :=
  (List.range (min 8 ((a % 8 + n + 7) / 8))).map (fun i => a / 64 * 64 + (a / 8 * 8 + 8 * i) % 64)

/-- A byte of a requester's read: key slot 0 reads as zero (R427). -/
def State.nvReqByte (s : State) (a : Nat) : Byte :=
  if 0x3_f000 ≤ a ∧ a < 0x3_f020 then 0 else s.nvSee a

/-- R422: row `r` of a WRITE as it will stand: the bytes the write covers, over those it keeps. -/
def State.mergeRow (s : State) (a : Nat) (buf : List Byte) (r : Nat) : Nat × List Byte :=
  (r, (List.range 8).map (fun j =>
    match (List.range buf.length).find? (fun i => pageAddr a i == r + j) with
    | some i => lget 0 buf i
    | none => s.nvSee (r + j)))

/-- NVS_BUF as bytes, and bytes written to it from byte 0 on. -/
def State.nvBuf (s : State) : List Byte := (List.range 16).flatMap (fun j => leBytes 4 (s.rn W_NVS (NVS_BUF0 + 4 * j)))
def State.setNvBuf (s : State) (bs : List Byte) : State :=
  let all := bs ++ s.nvBuf.drop bs.length
  (List.range 16).foldl (fun t j => t.wr W_NVS (NVS_BUF0 + 4 * j) (leNat ((all.drop (4 * j)).take 4))) s

/-- A command begins: its result so far and the rows it has to write. A partly covered row is read first. -/
def State.nvCmdBegin (s : State) (c : NvCmd) : State × List (Nat × List Byte) × Nat :=
  let no := s.nvRefuse c
  if no ≠ 0 then (s, [], no)
  else if (c.op = 2 ∨ c.op = 4 ∨ c.op = 7) ∧ s.pwrHold then (s, [], NV_PWRFAIL)
  else if c.op = 1 then
    let (bad, s1) := State.nvCheckAll (pageRows c.addr c.len) s
    (s1.setNvBuf ((List.range c.len).map (fun i => s.nvReqByte (pageAddr c.addr i))), [],
      if bad then NV_ECCERR else NV_OK)
  else if c.op = 2 then
    let rows := pageRows c.addr c.len
    let buf := c.buf.take c.len
    let part := rows.filter (fun r =>
      !(List.range 8).all (fun j => (List.range buf.length).any (fun i => pageAddr c.addr i == r + j)))
    let (bad, s1) := State.nvCheckAll part s
    (s1, rows.map (s.mergeRow c.addr buf), if bad then NV_ECCERR else NV_OK)
  else if c.op = 3 then
    let (bad, s1) := State.nvCheckAll (rowsOf c.addr c.len) s
    (s1.memFill (SRAM + c.sram) ((List.range c.len).map (fun i => s.nvReqByte (c.addr + i))), [],
      if bad then NV_ECCERR else NV_OK)
  else if c.op = 4 then
    let (bs, s1) := State.memTake c.len s (SRAM + c.sram)
    (s1, rowsFrom (c.len / 8) c.addr bs, NV_OK)
  else if c.op = 5 then
    let (r, s1) := s.nvUnlock c
    (s1, [], r)
  else if c.op = 6 then ((s.nvSetUnlk c.region 0 false).nvSetUnlk c.region 1 false, [], NV_OK)
  else if c.op = 7 then (s, [], NV_OK)
  else ((s.setNv { s.nv with scanAt := some 0, rewrote := false }).put W_NVS NVS_STATE_SCANRUN 1, [], NV_OK)

/-- Whether a user is internal (R429). -/
def NvUser.internal : NvUser → Bool
  | .cmd _ => false
  | _ => true

/-- R429: an operation begins. Internal operations ignore passwords and are refused during lockout. -/
def State.nvBegin (s : State) (u : NvUser) : State :=
  let start (t : State) (rows : List (Nat × List Byte)) (r : Nat) : State :=
    (t.setNv { t.nv with job := some ⟨u, rows, r⟩ }).put W_NVS NVS_STATE_INTERNAL (b2n u.internal)
  let write (region : Nat) (rows : List (Nat × List Byte)) : State :=
    if s.nvLocked region then start s [] NV_LOCKOUT
    else if s.pwrHold then start s [] NV_PWRFAIL
    else start s rows NV_OK
  match u with
  | .cmd c =>
    let (t, rows, r) := s.nvCmdBegin c
    start t rows r
  | .slotPut ring v => write 2 (s.slotRows ring v)
  | .slotGet ring =>
    if s.nvLocked 2 then start s [] NV_LOCKOUT
    else start ((State.nvCheckAll (rowsOf (slotAddr ring 0) 256) s).2.putPair W_NVS NVS_SLOTVAL_LO (s.slotValue ring)) []
      NV_OK
  | .commit => write 1 s.commitRows
  | .loader => start s [] (if s.nvLocked 0 then NV_LOCKOUT else NV_OK)
  | .model bs => write 2 (s.modelRows bs)

/-- An operation is granted: it begins, or waits for those before it. -/
def State.nvSubmit (s : State) (u : NvUser) : State :=
  if s.nv.job.isNone ∧ s.nv.wait.isEmpty then s.nvBegin u else s.setNv { s.nv with wait := s.nv.wait ++ [u] }

/-- R433: NVS_BANKSTATE after bank `b` with sequence `q` has come into force. -/
def State.bankInForce (s : State) (b q : Nat) : State :=
  ((s.put W_NVS NVS_BANKSTATE_CUR b).put W_NVS NVS_BANKSTATE_FACTORY 0).put W_NVS NVS_BANKSTATE_SEQLO (q % 2 ^ 16)

/-- An internal operation that waits begins when the cells are free; a requester's command waits for its own start. -/
def State.nvNext (s : State) : State :=
  match s.nv.wait with
  | [] => s
  | u :: us => if u.internal then (s.setNv { s.nv with wait := us }).nvBegin u else s

/-- An operation has ended: DONE, RESULT and NV_DONE for a command (R421), the new password of a SETPWD (R426); then the
next takes its turn. -/
def State.nvFinish (s : State) (u : NvUser) (result : Nat) : State :=
  let s1 := (s.setNv { s.nv with job := none }).put W_NVS NVS_STATE_INTERNAL 0
  let s2 := match u with
    | .cmd c =>
      let s3 := if c.op = 7 ∧ result = 0 then
          s1.setNv { s1.nv with pwds := lput 0 s1.nv.pwds (2 * c.region + c.kind) c.pwdNew }
        else s1
      (((s3.put W_NVS NVS_STATE_BUSY 0).sts W_NVS NVS_STS 1).put W_NVS NVS_STS_RESULT result).raise 15 5
    | _ => s1
  s2.nvNext

/-- R426: the password of an accepted SETPWD takes its new value. -/
def State.nvSetPwd (s : State) (u : NvUser) : State :=
  match u with
  | .cmd c => if c.op = 7 then s.setNv { s.nv with pwds := lput 0 s.nv.pwds (2 * c.region + c.kind) c.pwdNew } else s
  | _ => s

/-- R423: the operation in progress ends at a row boundary: how many rows are complete by then is not stated, nor whether a
SETPWD left the old password or the new one (R426). A commit and a loader's reading stay for their own ends to report. -/
def State.nvCut (s : State) : State :=
  match s.nv.job with
  | none => s
  | some j =>
    let (fr, s1) := s.takeFree
    let s0 := if j.result = 0 ∧ fr % 2 = 1 then s1.nvSetPwd j.user else s1
    let s2 := s0.nvRowsWrite (j.rows.take (fr % (j.rows.length + 1)))
    if j.user = .commit ∨ j.user = .loader then s2.setNv { s2.nv with job := some { j with rows := [], result := NV_PWRFAIL } }
    else s2.nvFinish j.user NV_PWRFAIL

/-- R437: a soft or block reset: the operation in progress ends at its row boundary with PWRFAIL, those that wait are
gone, unlocks are withdrawn; the scan starts over at row 0 (R430). -/
def State.nvReset (s : State) : State :=
  let s1 := (s.setNv { s.nv with wait := [] }).nvCut
  let s2 := s1.setNv { s1.nv with job := none, scanAt := s1.nv.scanAt.map (fun _ => 0), rewrote := false }
  (((s2.put W_NVS NVS_STATE_RUNLK 0).put W_NVS NVS_STATE_WUNLK 0).put W_NVS NVS_STATE_INTERNAL 0).put W_NVS NVS_STATE_BUSY 0

/-! ### Register writes -/

/-- Whether a requester's command is running or waiting. -/
def State.nvBusy (s : State) : Bool := s.flag W_NVS NVS_STATE_BUSY

/-- R426: whether a write of NVS_CMD gives LOCKED: group 3 is locked and the command sets a password or touches KEYS. -/
def State.nvCmdLocked (s : State) (v : Nat) : Bool :=
  let op := v % 16
  let a := s.get W_NVS NVS_ADDR_V
  let n := s.get W_NVS NVS_LEN_V
  s.flag W_GUARD GUARD_LOCK_NVKEY &&
    (op == 7 || (op == 2 && decide (nvRegion a = 4)) || (op == 4 && touchesKeys a n))

/-- R421: the command of a write of NVS_CMD, with what stands in the registers; `pwd` and `new` are the passwords the
requester has staged. -/
def State.nvCmdOf (s : State) (v pwd new : Nat) : NvCmd :=
  { op := v % 16, addr := s.get W_NVS NVS_ADDR_V, len := s.get W_NVS NVS_LEN_V, sram := s.get W_NVS NVS_SRAM_V,
    region := bitsOf v 4 3, kind := bitsOf v 7 1, pwd := pwd, pwdNew := new, buf := s.nvBuf }

/-- A requester's command is granted (R421, R429). -/
def State.nvCommand (s : State) (c : NvCmd) : State := (s.put W_NVS NVS_STATE_BUSY 1).nvSubmit (.cmd c)

/-- R431: SUP has written NVS_SLOTCMD. -/
def State.nvSlotCmd (s : State) (v : Nat) : State :=
  s.nvSubmit (if bitOf v 8 then .slotGet (v % 64) else .slotPut (v % 64) (s.pair W_NVS NVS_SLOTVAL_LO))

/-- What NVS_BANKSTATE reads as: the validity of both banks is live (R433). -/
def State.bankStateReg (s : State) : Nat :=
  putBits (putBits (s.rn W_NVS NVS_BANKSTATE) 0 1 (b2n (s.bankSeq 0).isSome)) 1 1 (b2n (s.bankSeq 1).isSome)

/-! ### The commands -/

/-- NV_OPERATION_DONE (R421): the operation in progress writes its remaining rows and ends. A commit ends with its
CALSEQ step, a loader's reading with its check. -/
def execNvOperationDone (s : State) : Host.Outcome State Fault Refusal :=
  .next (match s.nv.job with
    | none => s
    | some j => if j.user = .commit ∨ j.user = .loader then s else (s.nvRowsWrite j.rows).nvFinish j.user j.result)

/-- NV_WAITING_COMMAND_START (R429). -/
def execNvWaitingCommandStart (s : State) : Host.Outcome State Fault Refusal :=
  .next (match s.nv.wait with
    | [] => s
    | u :: us => if s.nv.job.isNone ∧ ¬ u.internal then (s.setNv { s.nv with wait := us }).nvBegin u else s)

/-- R430: a row is rewritten with its own content. -/
def State.nvRewrite (s : State) (a : Nat) : State :=
  let s1 := (s.nvRowWrite (a, (List.range 8).map (fun i => s.nvByte (a + i)))).count W_NVS NVS_REFCNT 1
  s1.setNv { s1.nv with rewrote := true }

/-- NV_REFRESH_ROW (R430): the scan, begun by SCANNOW or by SCANEN, reads its next row between other operations.
`cond` is what the cells show of the row: 0 good, 1 a margin that falls short, 2 a single-bit error, 3 a double-bit one. -/
def execNvRefreshRow (cond : Fin 4) (s : State) : Host.Outcome State Fault Refusal :=
  .next (if s.nv.job.isSome ∨ s.pwrHold ∨ (s.nv.scanAt.isNone ∧ ¬ s.flag W_NVS NVS_CTL_SCANEN) then s
    else
      let i := s.nv.scanAt.getD 0
      let a := 8 * i
      let s0 := if cond.val < 2 then s
        else s.setNv { s.nv with bad := (a, cond.val == 3) :: s.nv.bad.filter (fun e => e.1 != a) }
      let (bad, s1) := s0.nvCheck a
      let s2 := if ¬ bad ∧ (cond.val = 1 ∨ s1.nv.sched.contains a) then s1.nvRewrite a else s1
      if i + 1 < nvSize / 8 then
        (s2.setNv { s2.nv with scanAt := some (i + 1) }).put W_NVS NVS_STATE_SCANRUN 1
      else
        let s3 := (s2.setNv { s2.nv with scanAt := none, rewrote := false }).put W_NVS NVS_STATE_SCANRUN 0
        if s2.nv.rewrote then (s3.sts W_NVS NVS_STS 4).raise 15 7 else s3)

end Sys2Proof.Machine
end

