-- ==== Sys2Proof/Machine/Cal.lean ====
section
/-!
DEFINITION. Calibration (chapter 17) but for CALSEQ: the plausibility checks and rejections (R400, R401), stores into the
temperature sets (R403), the trim window (R404), TDC linearisation (R397) and re-forming of the fret tables and
FCAL (R399).
-/

namespace Sys2Proof.Machine

/-! ### Rejection (R400) -/

/-- An event of CAL (R415): the bit of CAL_STS and of G15 from 10 on: 0 REJECT, 1 STEP, 2 SEQDONE, 3 TSET. -/
def State.calEvent (s : State) (b : Nat) : State := (s.sts W_CAL CAL_STS (2 ^ b)).raise 15 (10 + b)

/-- R400: a result that fails check `check` with value `v`. -/
def State.calReject (s : State) (step inst check : Nat) (v : Int) (result : List Nat) : State :=
  let s1 := (s.wr W_CAL CAL_LASTREJ (step + inst * 2 ^ 8 + check * 2 ^ 16)).wr W_CAL CAL_LASTREJVAL (ofSigned 32 v)
  ((s1.setCal { s1.cal with rej := result }).calEvent 0).lifeCount 11 1

/-- The first element of a list that a check fails, with its value in the check's units. -/
def firstFail (l : List Int) (bad : Int → Bool) : Option Int := l.find? bad

/-- Differences of neighbours. -/
def stepsOf : List Nat → List Int
  | a :: b :: t => ((b : Int) - a) :: stepsOf (b :: t)
  | _ => []

/-! ### Temperature sets (R403) -/

/-- R403: the point nearest `th`, a tie going to the lower. -/
def State.nearPoint (s : State) (th : Int) : Nat :=
  (List.range 8).foldl (fun best p =>
    if (th - s.tpt p * 65536).natAbs < (th - s.tpt best * 65536).natAbs then p else best) 0

/-- Every knot set of a kind at point `p` takes its interpolated value there. -/
def State.fillPoint (s : State) (p kind : Nat) : State :=
  (List.range (calInstances kind)).foldl (fun (t : State) i =>
    t.setKnots p kind i 0 ((List.range (calEntries kind)).map (fun e => (s.interpKnot kind i e (s.tpt p * 65536)).toNat))) s

/-- R403: an accepted result measured at the present temperature is stored. -/
def State.calStore (s : State) (kind i : Nat) (ks : List Nat) : State :=
  let th := s.tdie
  let p := s.nearPoint th
  let few := decide (s.filled.length < 2)
  let at_ := s.tpt p * 65536
  let vals := (List.range ks.length).map (fun e =>
    (((lget 0 ks e : Nat) : Int) + (if few then 0 else s.interpKnot kind i e at_ - s.interpKnot kind i e th)).toNat)
  let s1 := if s.filled.contains p then s else (s.fillPoint p 0).fillPoint p 1
  let s2 := s1.setKnots p kind i 0 vals
  (s2.put W_CAL CAL_TFILL_FILLED (putBits (s2.get W_CAL CAL_TFILL_FILLED) p 1 1)).calEvent 3

/-! ### TDC instances (R395, R397) -/

/-- Whether a TDC instance is in service; 21 and 32 to 37 have no disabled state. -/
def State.tdcOn (s : State) (i : Nat) : Bool :=
  if i < 21 then s.flag (W_SRC + i) SRC_EN_ENABLE
  else if 22 ≤ i ∧ i < 30 then s.flag W_TEV (TEV_CAP_CFG_EN.up (capOff (i - 22)))
  else if i = 30 then s.flag W_SYNC SYNC_CTL_ENABLE
  else if i = 31 then s.flag W_SNAP SNAP_CTL_PIN
  else true

/-- A knot set as a list. -/
def State.knots (s : State) (p kind i : Nat) : List Nat := (List.range (calEntries kind)).map (s.knot p kind i)

/-- R395, R34: the values in force of a TDC move towards the knots `want` by at most one LSB each. -/
def State.tdcCreep (s : State) (i : Nat) (want : List Int) : State :=
  s.setKnots 8 0 i 0 ((List.range 33).map (fun e =>
    let v := s.knot 8 0 i e
    if (v : Int) < lget 0 want e then v + 1 else if lget 0 want e < v then v - 1 else v))

/-- R402: the knots that the filled points give a TDC at the present temperature. -/
def State.tdcInterp (s : State) (i : Nat) : List Int := (List.range 33).map (fun e => s.interpKnot 0 i e s.tdie)

/-- R402: the values in force re-formed under the rates of R395: fret tables, whose taps then follow FSTEP (R150), and
TDCs out of service at once. -/
def State.calReform (s : State) : State :=
  let s1 := (List.range 40).foldl (fun (t : State) n => t.reformInst 1 n) s
  let s2 := (List.range 38).foldl (fun (t : State) i => if t.tdcOn i then t else t.reformInst 0 i) s1
  s2.setCal { s2.cal with formT := s.tdie, formAt := s.tb.c }

/-- R397: the knots that code counts give, in 0.25 ps. -/
def tdcKnots (counts : List Nat) (n : Nat) : List Nat :=
  (List.range 33).map (fun j => (quotFree (4000 * (counts.take (64 * j)).foldl (· + ·) 0 : Nat) n).toNat)

/-- Checks 1 to 4 of R401: the first that fails, with the first failing value. -/
def State.tdcFails (s : State) (counts ks : List Nat) (n : Nat) : Option (Nat × Int) :=
  let width (c : Nat) : Int := ((c * 2048 * 16 / n : Nat) : Int)
  let lo := s.get W_CAL CAL_LIMTDC_WMIN
  let hi := s.get W_CAL CAL_LIMTDC_WMAX
  let span : Int := ((lget 0 ks 32 : Nat) : Int) - (lget 0 ks 0 : Nat) - 4000
  match counts.find? (fun c => decide (c * 2048 * 16 < lo * n)) with
  | some c => some (1, width c)
  | none =>
    match counts.find? (fun c => decide (hi * n < c * 2048 * 16)) with
    | some c => some (2, width c)
    | none =>
      if s.get W_CAL CAL_LIMTDC_SPANTOL * 4000 < span.natAbs * 1000 then some (3, (span.natAbs * 1000 / 4000 : Nat))
      else
        match (stepsOf ks).findIdx? (fun d => decide (d ≤ 0)) with
        | some j => some (4, (lget 0 ks (j + 1) : Nat))
        | none => none

def State.setTdcOk (s : State) (i : Nat) : State :=
  s.putPair W_CAL CAL_TDCOK_LO (putBits (s.pair W_CAL CAL_TDCOK_LO) i 1 1)
def State.setLinOk (s : State) (n : Nat) : State :=
  s.putPair W_CAL CAL_LINOK_LO (putBits (s.pair W_CAL CAL_LINOK_LO) n 1 1)
def State.linOk (s : State) (n : Nat) : Bool := bitOf (s.pair W_CAL CAL_LINOK_LO) n

/-! ### The mask registers of CALSEQ (R406) -/

def State.seqTdc (s : State) : Nat := s.pair W_CAL CAL_SEQTDC_LO
def State.seqOut (s : State) : Nat := s.pair W_CAL CAL_SEQOUT_LO
def State.seqSt (s : State) : Nat := s.get W_CAL CAL_STATE_SEQST
def State.inServ (s : State) : Bool := s.flag W_CAL CAL_STATE_INSERV

/-- R406: an instance leaves the sequence: its mask bit is cleared, RESULT will read REFUSED. -/
def State.seqDropT (s : State) (i : Nat) : State :=
  (s.putPair W_CAL CAL_SEQTDC_LO (putBits s.seqTdc i 1 0)).setCal
    { s.cal with todoT := putBits s.cal.todoT i 1 0, refused := true }
def State.seqDropO (s : State) (n : Nat) : State :=
  (s.putPair W_CAL CAL_SEQOUT_LO (putBits s.seqOut n 1 0)).setCal
    { s.cal with todoO := putBits s.cal.todoO n 1 0, refused := true }

/-- An instance of CALSEQ's step is done. -/
def State.seqDoneT (s : State) (i : Nat) : State := s.setCal { s.cal with todoT := putBits s.cal.todoT i 1 0 }
def State.seqDoneO (s : State) (n : Nat) : State := s.setCal { s.cal with todoO := putBits s.cal.todoO n 1 0 }

/-- TDCINT and FRETINT in TB units as they act (R410, R417). -/
def State.tdcInt (s : State) : Nat :=
  max 1 (s.get W_CAL CAL_INT_TDCINT) * secU / 2 ^ s.get W_HLTH HLTH_STATE_AGESHIFT
def State.fretInt (s : State) : Nat :=
  max 1 (s.get W_CAL CAL_INT_FRETINT) * (100 * msU) / 2 ^ s.get W_HLTH HLTH_STATE_AGESHIFT

/-- Whether `u` TB units have passed since the instant kept; true before the first. -/
def State.since (s : State) (at_ : Option Nat) (u : Nat) : Bool :=
  match at_ with
  | none => true
  | some c0 => decide ((u : Int) ≤ signedDiff 96 s.tb.c c0)

/-- R397, R400: a completed collection is checked and applied. `hold`: a result of CALSEQ is stored by its step 5. -/
def State.tdcResult (s : State) (i : Nat) (counts : List Nat) (n : Nat) (fore hold : Bool) : State :=
  let ks := tdcKnots counts n
  let s0 := s.setCal { s.cal with tdcAt := lput none s.cal.tdcAt i (some s.tb.c) }
  match s.tdcFails counts ks n with
  | some (c, v) =>
    let s1 := s0.calReject 1 i c v ks
    if hold then s1.seqDropT i else s1
  | none =>
    let s1 := s0.setTdcOk i
    let s2 := if hold then (s1.setCal { s1.cal with results := s1.cal.results ++ [⟨0, i, ks⟩] }).seqDoneT i
      else s1.calStore 0 i ks
    if fore then s2.setKnots 8 0 i 0 ks
    else s2.tdcCreep i (if hold then ks.map (fun (k : Nat) => (k : Int)) else s2.tdcInterp i)

/-- TDC_LINEARISATION (R397): instance `i` completes a collection of 2^24 hits in the foreground form of CALSEQ, of 2^22
in background form, with these counts of the raw codes. -/
def execTdcLinearisation (i : Fin 38) (counts : List Nat) (s : State) : Host.Outcome State Fault Refusal :=
  let n := counts.foldl (· + ·) 0
  let todo := s.seqSt == 1 && bitOf s.cal.todoT i
  .next (if counts.length ≠ 2048 then s
    else if todo ∧ ¬ s.inServ then
      if s.tdcOn i then s.seqDropT i
      else if n = 2 ^ 24 then s.tdcResult i counts n true true
      else s
    else if n ≠ 2 ^ 22 then s
    else if todo then s.tdcResult i counts n false true
    else if s.flag W_CAL CAL_CTL_BGEN ∧ s.flag W_CAL CAL_CTL_TDCEN ∧ s.since (lget none s.cal.tdcAt i) s.tdcInt then
      s.tdcResult i counts n false false
    else s)

/-! ### Frets (R398, R399) -/

/-- Checks 16 to 18 of R401 on the delays of the taps, in 0.01 ps, and the knots. -/
def State.fretFails (s : State) (delays ks : List Nat) : Option (Nat × Int) :=
  let steps := stepsOf delays
  match steps.find? (fun d => decide (d < (s.get W_CAL CAL_LIMFRET_TAPMIN : Int))) with
  | some d => some (16, d)
  | none =>
    match steps.find? (fun d => decide ((s.get W_CAL CAL_LIMFRET_TAPMAX : Int) < d)) with
    | some d => some (17, d)
    | none =>
      let span : Int := ((lget 0 ks 16 : Nat) : Int) - (lget 0 ks 0 : Nat)
      if span < s.get W_CAL CAL_LIMFRET_SPANMIN * 20 then some (18, span / 20) else none

/-- The 17 knots of measured taps: 0.25 ps from 0.01 ps. -/
def fretKnots (delays : List Nat) : List Nat :=
  (List.range 17).map (fun e => (roundFree (lget 0 delays (knotTap e) : Nat) 25).toNat)

/-- FRET_TABLE_REFORM (R399): the die temperature has moved 0.5 K, at most once per 100 ms; a channel that a foreground
step of CALSEQ works on pauses (R396). -/
def execFretTableReform (s : State) : Host.Outcome State Fault Refusal :=
  .next (if s.flag W_CAL CAL_CTL_BGEN ∧ s.flag W_CAL CAL_CTL_FDRIFTEN ∧ 32768 ≤ (s.tdie - s.cal.formT).natAbs ∧
        s.since (some s.cal.formAt) (100 * msU) then
      let s1 := (List.range 40).foldl (fun (t : State) n =>
        if s.seqSt = 2 ∧ ¬ s.inServ ∧ bitOf s.cal.todoO n then t else t.reformInst 1 n) s
      s1.setCal { s1.cal with formT := s.tdie, formAt := s.tb.c }
    else s)

/-- `num / den` rounded to the nearest integer, a half away from zero (R182, R399). -/
def roundAway (num den : Int) : Int :=
  let q : Int := ((2 * num.natAbs + den.natAbs) / (2 * den.natAbs) : Nat)
  if num < 0 then -q else q

/-- Whether a channel is under echo compensation (R399). -/
def State.echoComp (s : State) (n : Nat) : Bool :=
  s.flag W_SYNC (SYNC_ECFG_EN.up (0x10 * n)) && s.flag W_SYNC SYNC_ECTL_APPLY

def State.fcal (s : State) (n : Nat) : Int := toSigned 10 (s.get (wOut n) OUT_FCAL_V)
def State.setFcal (s : State) (n : Nat) (v : Int) : State := (s.put (wOut n) OUT_FCAL_V (ofSigned 10 v)).outRetarget n

/-- R399: the value that FCAL of channel `n` takes at a launch offset `lam` (0.25 ps): 0 in dual CMOS format, a walk back to
0 under echo compensation, otherwise the drift from LAMREF where it is off by more than 0.75 frets. -/
def State.fcalWant (s : State) (n : Nat) (lam : Int) : Int :=
  let f := s.fcal n
  let d := toSigned 32 (lget (0, 0) s.cal.echo n).2 - lam
  if s.get (wOut n) OUT_DRV_FMT = 3 then 0
  else if s.echoComp n then (if f = 0 then 0 else if 0 < f then f - 1 else f + 1)
  else if (d - 5 * f).natAbs * 4 ≤ 15 then f
  else clampInt (-512) 511 (roundAway d 5)

/-- Check 19 of R401 on a measured FCAL. -/
def State.fcalFails (s : State) (n : Nat) (lam : Int) : Bool :=
  s.get (wOut n) OUT_DRV_FMT != 3 && !s.echoComp n &&
    decide (s.get W_CAL CAL_LIMFRET_DRIFTMAX < (s.fcalWant n lam - s.fcal n).natAbs)

/-- R399, R400: one evaluation of FCAL of channel `n`. -/
def State.fcalEval (s : State) (n : Nat) (lam : Int) : State :=
  let v := s.fcalWant n lam
  if s.fcalFails n lam then s.calReject 3 n 19 (v - s.fcal n) [ofSigned 32 v]
  else if v = s.fcal n then s
  else s.setFcal n v

/-- R179: the sampler can see the channel: it runs ungated, and its APLL has LOCK. -/
def State.rangeRuns (s : State) (n : Nat) : Bool :=
  s.syncOn && s.outRun n && !s.gated n && (decide (2 ≤ s.clksel n) || s.apllLock (s.clksel n))

/-- R179, R180: format, linearisation and search window refuse the channel. -/
def State.rangeRefused (s : State) (n : Nat) : Bool :=
  let (a, b) := s.chanClk n
  s.get (wOut n) OUT_DRV_FMT == 3 || !s.linOk n ||
    (!s.flag W_SYNC (SYNC_ECFG_ISO.up (0x10 * n)) && s.get W_SYNC (SYNC_ENOM_ENOM.up (0x10 * n)) == 0 &&
      decide (s.outDiv n * b * 10 ^ 9 < 30 * a))

/-- FCAL_UPDATE (R399): every FRETINT, under the conditions of R179 but ECHOEN and EN. -/
def execFcalUpdate (n : Chan) (lam : Int) (s : State) : Host.Outcome State Fault Refusal :=
  .next (if s.flag W_CAL CAL_CTL_BGEN ∧ s.flag W_CAL CAL_CTL_FDRIFTEN ∧ s.rangeRuns n ∧ ¬ s.rangeRefused n ∧
        s.since (lget none s.cal.fcalAt n) s.fretInt then
      (s.setCal { s.cal with fcalAt := lput none s.cal.fcalAt n (some s.tb.c) }).fcalEval n lam
    else s)

/-! ### The trim window (R402, R404) -/

/-- R402: whether the points of TPTS0–1 would be strictly ascending with `v` in register `j`. -/
def State.tptsBad (s : State) (j v : Nat) : Bool :=
  let a := if j = 0 then v else s.rn W_CAL CAL_TPTS0
  let b := if j = 1 then v else s.rn W_CAL CAL_TPTS1
  let pts := ((List.range 4).map (fun k => toSigned 8 (bitsOf a (8 * k) 8))) ++
    ((List.range 4).map (fun k => toSigned 8 (bitsOf b (8 * k) 8)))
  (List.range 7).any (fun k => decide (lget 0 pts (k + 1) ≤ lget 0 pts k))

/-- What CAL_TIDX selects: point, kind, instance, entry. -/
def State.tidx (s : State) : Nat × Nat × Nat × Nat :=
  (s.get W_CAL CAL_TIDX_POINT, calKind (s.get W_CAL CAL_TIDX_KIND), s.get W_CAL CAL_TIDX_INSTANCE, s.get W_CAL
    CAL_TIDX_ENTRY)

/-- The entry that CAL_TIDX selects; zero beyond the last of its kind (R404). -/
def State.tdata (s : State) : Nat :=
  let (p, kind, i, e) := s.tidx
  if p = 9 then lget 0 s.cal.rej e
  else if calEntries kind ≤ e ∨ calInstances kind ≤ i ∨ 9 < p then 0
  else if kind = 2 then
    let x := lget (0, 0) s.cal.echo i
    if e = 0 then x.1 else x.2
  else s.knot p kind i e

/-- R404: a write of CAL_TDATA is refused at points 8 and 9. -/
def State.tdataRefused (s : State) : Bool := let p := s.tidx.1; p == 8 || p == 9

/-- R404: an access moves ENTRY on. -/
def State.tdataNext (s : State) : State := s.put W_CAL CAL_TIDX_ENTRY (s.get W_CAL CAL_TIDX_ENTRY + 1)

/-- R404: a host-written entry; a knot comes into force under the rates of R395. -/
def State.tdataWrite (s : State) (v : Nat) : State :=
  let (p, kind, i, e) := s.tidx
  if calEntries kind ≤ e ∨ calInstances kind ≤ i ∨ 7 < p then s
  else if kind = 2 then
    s.setCal { s.cal with echo := lupd (0, 0) s.cal.echo i (fun x => if e = 0 then (v, x.2) else (x.1, v)) }
  else
    let s1 := s.setKnot p kind i e v
    if kind = 1 ∨ ¬ s1.tdcOn i then s1.reformInst kind i else s1

end Sys2Proof.Machine
end

