-- ==== Sys2Proof/Machine/Echo.lean ====
section
/-!
DEFINITION. Echo ranging and compensation (R179 to R183): how a result is classified, accepted and applied.
-/

namespace Sys2Proof.Machine

/-- RSTAT of SYNC_ERESn (R188). -/
inductive RStat
  | ok | weak | open_ | short | range | jumpwait | refused
  deriving DecidableEq, Repr

def RStat.code : RStat → Nat
  | .ok => 1 | .weak => 2 | .open_ => 3 | .short => 4 | .range => 5 | .jumpwait => 6 | .refused => 7

/-- The events of R185: 0 UPDATE, 1 WEAK, 2 OPEN, 3 SHORT, 4 RANGE, 5 JUMP, 6 CLAMP, 7 REFUSED. -/
def State.echoEvent (s : State) (n b : Nat) : State := (s.stsField W_SYNC SYNC_ESTS_LASTCH (2 ^ b) n).raise 8 (8 + b)

/-- An echo channel that has measured nothing. -/
def EchoSt.reset : EchoSt := ⟨0, 0, 0, false, none⟩
def State.echoSt (s : State) (n : Nat) : EchoSt := lget EchoSt.reset s.sync.echo n
def State.modEcho (s : State) (n : Nat) (f : EchoSt → EchoSt) : State :=
  s.setSync { s.sync with echo := lupd EchoSt.reset s.sync.echo n f }

/-- JUMPTHR and a difference of two τ, both in 1/1000 TB unit. -/
def State.tauFar (s : State) (a b : Nat) : Bool :=
  decide (s.get W_SYNC SYNC_ECTL_JUMPTHR * 16384 < ((a : Int) - b).natAbs * 1000)

/-- AVG in TB units as it acts (R188). -/
def State.echoAvg (s : State) : Nat := secU / 4 * 2 ^ min 6 (s.get W_SYNC SYNC_ECTL_AVG)

/-- R180: whether the sampler's search finds a reflection of one-way delay `t`: the round trip lies within P_out/4 of 2 × ENOM.
An isolated edge, by ISO, in PULSE mode or on a slow channel without a hint, is searched for over the whole range (log entry
56). -/
def State.echoInWindow (s : State) (n t : Nat) : Bool :=
  let enom := s.get W_SYNC (SYNC_ENOM_ENOM.up (0x10 * n))
  let (a, b) := s.chanClk n
  s.flag W_SYNC (SYNC_ECFG_ISO.up (0x10 * n)) || s.outMode n == 1 || enom == 0 ||
    decide ((2 * t * 1000 - 2 * enom * 65536 : Int).natAbs * 4 * a ≤ s.outDiv n * b * 65536 * 10 ^ 12)

/-- R181 before the jump rule: τ in TB units if a reflection was found, Γ in 2^-16. -/
def echoClass (tau : Option Nat) (gam : Int) : RStat :=
  match tau with
  | none => .range
  | some t =>
    if gam.natAbs * 100 < 3 * 65536 then .weak
    else if 3 * 65536 ≤ gam * 4 then .open_
    else if gam * 4 ≤ -(3 * 65536) then .short
    else if t * 10 < 65536 ∨ 45 * 65536 < t * 10 then .range
    else .ok

/-- R181: the jump rule for a result in range: whether τ enters compensation, and the state it leaves. -/
def State.echoJump (s : State) (n t : Nat) : Bool × State :=
  let acc := s.rn W_SYNC (SYNC_ETAU + 0x10 * n)
  if acc = 2 ^ 32 - 1 ∨ ¬ s.tauFar t acc then (true, s.modEcho n (fun x => { x with run := 0 }))
  else
    let x := s.echoSt n
    let lo := min x.lo t
    let hi := max x.hi t
    let goOn := decide (x.run ≠ 0) && !s.tauFar hi lo
    let s1 := if x.run = 0 then s.echoEvent n 5 else s
    let s2 := s1.modEcho n (fun y => if goOn then { y with lo := lo, hi := hi, run := y.run + 1 }
      else { y with lo := t, hi := t, run := 1 })
    (decide (max 1 (s.get W_SYNC SYNC_ECTL_JUMPN) ≤ (s2.echoSt n).run), s2)

/-- Checks 32 to 34 of R401: the first that fails, with the value in the check's units. -/
def State.echoFails (s : State) (t : Nat) (lam : Int) : Option (Nat × Int) :=
  if t * 1000 < s.get W_CAL CAL_LIMECHO_TAUMIN * 327680 then some (32, (t * 1000 / 327680 : Nat))
  else if s.get W_CAL CAL_LIMECHO_TAUMAX * 327680 < t * 1000 then some (33, (t * 1000 / 327680 : Nat))
  else if s.get W_CAL CAL_LIMECHO_LAMMAX * 4 < lam.natAbs then some (34, lam / 4)
  else none

/-- R182: the compensation of channel `n` from τ (TB units) and λ (0.25 ps), in exact fractions. -/
def State.echoApply (s : State) (n t : Nat) (lam : Int) : State :=
  let (a, b) := s.halfStep n
  let eref : Int := s.rn W_SYNC (SYNC_EREF0 + 4 * s.get W_SYNC (SYNC_ECFG_GROUP.up (0x10 * n)))
  let cb : Int := s.get W_SYNC (SYNC_ECFG_CBULK.up (0x10 * n))
  let num := ((eref - t) * 1000 * b - lam * 16384 * b - cb * a * 1000) * 100
  let den : Int := 1000 * b * 8192
  let f := toSigned 10 (s.get (wOut n) OUT_FCOMP_V)
  let r := roundAway num den
  let s1 := if s.get W_SYNC SYNC_ECTL_FHYST * den < (num - f * den).natAbs * 256 then
      ((s.put (wOut n) OUT_FCOMP_V (ofSigned 10 (clampInt (-512) 511 r))).echoEvent n 0).outRetarget n
    else s
  if -512 ≤ r ∧ r ≤ 511 then s1 else s1.echoEvent n 6

/-- An accepted τ (R181, R404), and its compensation where R182 and R183 allow it. -/
def State.echoAccept (s : State) (n t : Nat) (lam : Int) : State :=
  let s1 := (s.wr W_SYNC (SYNC_ETAU + 0x10 * n) t).setCal { s.cal with echo := lupd (0, 0) s.cal.echo n (fun x => (t, x.2)) }
  if s.flag W_SYNC SYNC_ECTL_APPLY ∧ s.flag W_SYNC (SYNC_ECFG_EN.up (0x10 * n)) ∧ s.flt.st = .idle then
    s1.echoApply n t lam
  else s1

/-- The result registers of channel `n`. -/
def State.echoShow (s : State) (n : Nat) (lam gam : Int) (r : RStat) : State :=
  s.wr W_SYNC (SYNC_ERES + 0x10 * n) (ofSigned 16 lam + ofSigned 8 (quotFree gam 512) * 2 ^ 16 + r.code * 2 ^ 24)

/-- An OK result in CALSEQ's step 4: two consecutive ones that agree within JUMPTHR become the accepted τ (R405). -/
def State.echoSeq (s : State) (n t : Nat) (lam : Int) : State :=
  match lget none s.cal.first n with
  | some u => if s.tauFar t u then s.setCal { s.cal with first := lput none s.cal.first n (some t) }
    else (s.echoAccept n t lam).seqDoneO n
  | none => s.setCal { s.cal with first := lput none s.cal.first n (some t) }

/-- In CALSEQ's step 4 a result that is not OK breaks the run of two (R405). -/
def State.seqBreak (s : State) (n : Nat) (seq : Bool) : State :=
  if seq then s.setCal { s.cal with first := lput none s.cal.first n none } else s

/-- R181 for a channel that is ranged; `seq`: by CALSEQ's step 4. -/
def State.echoResult (s : State) (n : Nat) (tau : Option Nat) (lam gam : Int) (seq : Bool) : State :=
  let cls := echoClass tau gam
  let bad (b : Nat) : State :=
    (((s.echoShow n lam gam cls).modEcho n (fun x => { x with run := 0 })).echoEvent n b).seqBreak n seq
  match cls, tau with
  | .weak, _ => bad 1
  | .open_, _ => bad 2
  | .short, _ => bad 3
  | .ok, some t =>
    let (take, s1) := s.echoJump n t
    let s2 := s1.echoShow n lam gam (if take then .ok else .jumpwait)
    if ¬ take then s2.seqBreak n seq
    else
      match (if seq ∨ s.flag W_CAL CAL_CTL_ECHOCHK then s.echoFails t lam else none) with
      | some (c, v) =>
        let s3 := s2.calReject 4 n c v [t, ofSigned 32 lam]
        if seq then s3.seqDropO n else s3
      | none => if seq then s2.echoSeq n t lam else s2.echoAccept n t lam
  | _, _ => bad 4

/-- ECHO_RESULT (R179 to R182): the sampler's result for channel `n`, every AVG: τ in TB units where a reflection was found, λ in
0.25 ps, Γ in 2^-16. -/
def execEchoResult (n : Chan) (tau : Option Nat) (lam gam : Int) (s : State) : Host.Outcome State Fault Refusal :=
  let seq := s.seqSt == 4 && bitOf s.cal.todoO n
  .next (if ¬ s.rangeRuns n ∨
        ¬ (seq ∨ (s.flag W_SYNC SYNC_ECTL_ECHOEN ∧ s.flag W_SYNC (SYNC_ECFG_EN.up (0x10 * n)))) then s
    else if s.rangeRefused n then
      if (s.echoSt n).refused then s
      else ((s.put W_SYNC (SYNC_ERES_RSTAT.up (0x10 * n)) 7).modEcho n (fun x => { x with refused := true })).echoEvent n 7
    else if ¬ s.since (s.echoSt n).at_ s.echoAvg then s
    else
      (s.modEcho n (fun x => { x with refused := false, at_ := some s.tb.c })).echoResult n (tau.filter (s.echoInWindow n)) lam gam
        seq)

end Sys2Proof.Machine
end

