-- ==== Sys2Proof/Machine/CalSeq.lean ====
section
/-!
DEFINITION. CALSEQ (R405 to R408), the reset of CAL (R416), and the boot's loading of a calibration bank (R428, R433).
-/

namespace Sys2Proof.Machine

/-! ### CALSEQ -/

/-- The bits of a mask. -/
def bitsIn (m n : Nat) : List Nat := (List.range n).filter (bitOf m)

/-- R406: a refusal after START sets WIGN and raises ACC_WIGN once, for the requester of START. -/
def State.seqWign (s : State) : State :=
  if s.cal.wign then s
  else (s.setCal { s.cal with wign := true }).accRecord s.cal.starter true (regAddr W_CAL CAL_SEQCMD) .wign

/-- Whether START, as written in `v`, is refused: a sequence runs (R406). -/
def State.seqStartRefused (s : State) (v : Nat) : Bool := bitOf v 0 && s.seqSt != 0

/-- The masked TDC instances that the full variant refuses at its start. -/
def State.seqEnabledT (s : State) : List Nat := (bitsIn s.seqTdc 38).filter s.tdcOn

/-- R406: whether the write of START gives WIGN though the sequence starts: a masked instance is refused at once. -/
def State.seqStartWign (s : State) (v : Nat) : Bool := bitOf v 0 && s.seqSt == 0 && !bitOf v 1 && !s.seqEnabledT.isEmpty

/-- A step begins. -/
def State.seqStep (s : State) (st : Nat) : State :=
  (s.put W_CAL CAL_STATE_SEQST st).setCal { s.cal with stepAt := s.tb.c }

/-- R405: START by requester `r` with options `v`. -/
def State.seqStart (s : State) (r : Req) (v : Nat) : State :=
  let s1 := (s.put W_CAL CAL_STATE_INSERV (b2n (bitOf v 1))).seqStep 1
  let s2 := (s1.setCal { s1.cal with
    echoWait := bitOf v 4 && !bitOf v 1, noCommit := bitOf v 5, todoT := s.seqTdc, todoO := 0, results := [],
    refused := false, starter := r, wign := s.seqStartWign v }).lifeCount 10 1
  if bitOf v 1 then s2 else s.seqEnabledT.foldl State.seqDropT s2

/-- The sequence ends: RESULT, SEQST = IDLE, CAL_SEQDONE. -/
def State.seqEnd (s : State) (result : Nat) : State :=
  let s1 := (s.put W_CAL CAL_STATE_SEQST 0).setCal
    { s.cal with todoT := 0, todoO := 0, results := [], first := List.replicate 40 none }
  (s1.calEvent 2).put W_CAL CAL_STS_RESULT result

/-- RESULT of a sequence that has run to its end: REFUSED where anything was refused. -/
def State.seqResult (s : State) : Nat := if s.cal.refused then 2 else 0

/-- Step 2 begins: the full variant refuses channels that are enabled. -/
def State.seqBegin2 (s : State) : State :=
  let s1 := s.seqStep 2
  let s2 := s1.setCal { s1.cal with todoO := s.seqOut }
  let on := (bitsIn s.seqOut 40).filter (fun n => s.flag (wOut n) OUT_CTL_ENABLE)
  if s.inServ ∨ on.isEmpty then s2 else (on.foldl State.seqDropO s2).seqWign

/-- Step 4 begins: a channel that does not meet R179 is refused. -/
def State.seqBegin4 (s : State) : State :=
  let s1 := s.seqStep 4
  let s2 := s1.setCal { s1.cal with todoO := s.seqOut, first := List.replicate 40 none }
  let off := (bitsIn s.seqOut 40).filter (fun n => !s.rangeRuns n || s.rangeRefused n)
  if off.isEmpty then s2 else (off.foldl State.seqDropO s2).seqWign

/-- The FRET result of one channel in the full variant: an enabled channel is abandoned, a failing result rejected. -/
def State.seqFret (s : State) (n : Nat) (delays : List Nat) (lam : Int) : State :=
  let ks := fretKnots delays
  if s.flag (wOut n) OUT_CTL_ENABLE then s.seqDropO n
  else
    match s.fretFails delays ks with
    | some (c, v) => (s.calReject 2 n c v ks).seqDropO n
    | none =>
      let s1 := (s.setLinOk n).setKnots 8 1 n 0 ks
      (s1.setCal { s1.cal with
        results := s1.cal.results ++ [⟨1, n, ks⟩]
        echo := lupd (0, 0) s1.cal.echo n (fun x => (x.1, ofSigned 32 lam)) }).seqDoneO n

/-- Step 2 of the in-service variant on one channel (R405): its table re-formed and, where the sampler sees the channel
(R399), one evaluation of FCAL; a rejected one leaves the sequence (R406). -/
def State.seqDrift (s : State) (n : Nat) (lam : Int) : State :=
  let s1 := s.reformInst 1 n
  if s1.rangeRuns n ∧ ¬ s1.rangeRefused n then
    let s2 := s1.fcalEval n lam
    if s1.fcalFails n lam then s2.seqDropO n else s2.seqDoneO n
  else s1.seqDoneO n

/-- The FRET step with the results of its channels: tap delays in 0.01 ps and λ in 0.25 ps. -/
def State.seqFrets (s : State) (fret : List (Nat × List Nat × Int)) : State :=
  (bitsIn s.cal.todoO 40).foldl (fun (t : State) n =>
    match fret.find? (fun f => f.1 == n) with
    | none => t
    | some f =>
      if t.inServ then t.seqDrift n f.2.2 else t.seqFret n f.2.1 f.2.2) s

/-- R405: step 3 or 4 follows step 2. -/
def State.seqAfter2 (s : State) : State := if s.cal.echoWait then s.seqStep 3 else s.seqBegin4

/-- Step 5: every result held is stored (R403). -/
def State.seqStores (s : State) : State :=
  let s1 := s.cal.results.foldl (fun (t : State) r => t.calStore r.kind r.inst r.knots) s
  s1.setCal { s1.cal with results := [] }

/-- Step 6 has ended (R408): the bank written is in force, or NVFAIL. -/
def State.seqCommitted (s : State) (j : NvJob) : State :=
  let (b, q) := s.commitBank
  let s1 := (s.nvRowsWrite j.rows).nvFinish .commit j.result
  if j.result = 0 then (((s1.bankInForce b q).lifeCount 13 1).calEvent 1).seqEnd s1.seqResult
  else (s1.calEvent 1).seqEnd 3

/-- R405: CONT ends ECHOWAIT. -/
def State.seqCont (s : State) : State := if s.seqSt = 3 then (s.calEvent 1).seqBegin4 else s

/-- R407: ABORT: nothing is committed. -/
def State.seqAbort (s : State) : State :=
  if s.seqSt = 0 then s
  else
    let s1 := s.setNv { s.nv with wait := s.nv.wait.filter (fun u => !(u == .commit)) }
    let s2 : State := match s1.nv.job with
      | none => s1
      | some j => if j.user = .commit then
          (let t := s1.nvCut
           t.nvFinish .commit NV_PWRFAIL)
        else s1
    s2.seqEnd 1

/-- A write of CAL_SEQCMD, its bits acting in order (log entry 42). -/
def State.seqCmd (s : State) (r : Req) (v : Nat) : State :=
  let s1 := if bitOf v 0 ∧ s.seqSt = 0 then s.seqStart r v else s
  let s2 := if bitOf v 2 then s1.seqCont else s1
  if bitOf v 3 then s2.seqAbort else s2

/-- What CAL_STATE reads as: SEQLEFT counts down the step's bound (R405). -/
def State.calStateReg (s : State) : Nat :=
  let bound : Nat := match s.seqSt with
    | 1 => 20 | 2 => if s.inServ then 2 else 48 | 4 => 16 | 5 => 1 | 6 => 2 | _ => 0
  let gone := (signedDiff 96 s.tb.c s.cal.stepAt).toNat
  putBits (s.rn W_CAL CAL_STATE) 16 16 (if bound = 0 then 0 else ceilDiv (bound * secU - gone) secU)

/-- CALSEQ_STEP_DONE (R405): the step in progress completes; `fret` holds what the sampler measured in step 2. -/
def execCalseqStepDone (fret : List (Nat × List Nat × Int)) (s : State) : Host.Outcome State Fault Refusal :=
  .next (match s.seqSt with
    | 1 =>
      let s1 := if s.inServ then s else ((bitsIn s.cal.todoT 38).filter s.tdcOn).foldl State.seqDropT s
      if s1.cal.todoT ≠ 0 then s else (s1.calEvent 1).seqBegin2
    | 2 =>
      let s1 := s.seqFrets fret
      if s1.cal.todoO ≠ 0 then s else (s1.calEvent 1).seqAfter2
    | 4 => (((bitsIn s.cal.todoO 40).foldl State.seqDropO s).calEvent 1).seqStep 5
    | 5 =>
      let s1 := s.seqStores.calEvent 1
      if s1.cal.noCommit then s1.seqEnd s1.seqResult else (s1.seqStep 6).nvSubmit .commit
    | 6 => (match s.nv.job with
      | some j => if j.user = .commit then s.seqCommitted j else s
      | none => s)
    | _ => s)

/-! ### Reset and boot (R407, R416, R428, R433) -/

/-- The trims return to their defaults, CALSEQ is aborted; FCAL becomes 0 (R416). The registers of CAL take their reset
values beside this. -/
def State.calDefaults (s : State) : State :=
  let s1 := s.seqAbort
  let s2 := s1.setCal CalSt.reset
  (List.range 40).foldl (fun (t : State) n => if t.fcal n = 0 then t else t.setFcal n 0) s2

/-- Every value in force takes its interpolation (at boot, nothing runs yet). -/
def State.reformAll (s : State) : State :=
  let s1 := (List.range 38).foldl (fun (t : State) i => t.reformInst 0 i) s
  let s2 := (List.range 40).foldl (fun (t : State) n => t.reformInst 1 n) s1
  s2.setCal { s2.cal with formT := s.tdie, formAt := s.tb.c }

/-- The knots of points 0–7 that differ from their defaults, from `f` of point and byte offset within its set. -/
def trimsOf (f : Nat → Nat → Nat) : List (Nat × Nat) :=
  (List.range (8 * 2048)).filterMap (fun k =>
    let r := k % 2048
    if 1934 ≤ r then none
    else
      let v := f (k / 2048) (2 * r)
      if v = trimDefault k then none else some (k, v))

/-- R433: bank `b` is loaded. -/
def State.loadBank (s : State) (b : Nat) : State :=
  let (bs, s1) := s.nvTake (bankAddr b) 31364
  let le (a n : Nat) : Nat := leNat ((bs.drop a).take n)
  let s2 := (((((s1.wr W_CAL CAL_TPTS0 (le 0x10 4)).wr W_CAL CAL_TPTS1 (le 0x14 4)).wr W_CAL CAL_TFILL (le 0x18 1)).putPair
    W_CAL CAL_TDCOK_LO (le 0x20 8)).putPair W_CAL CAL_LINOK_LO (le 0x28 8)).bankInForce b (le 0xc 4)
  (s2.setCal { s2.cal with
    trims := trimsOf (fun p o => le (0x180 + 3872 * p + o) 2)
    echo := (List.range 40).map (fun n => (le (0x40 + 8 * n) 4, le (0x44 + 8 * n) 4)) }).reformAll

/-- R427, R428: whether the factory bank may be used. -/
def State.factoryOk (s : State) : Bool :=
  let h := s.nvSees 0x3_fc80 6
  leNat (h.take 4) == 0x4b42_4346 && leNat (h.drop 4) == 0x100 &&
    crc32 (s.nvSees 0x3_fc80 0x150) == leNat (s.nvSees (0x3_fc80 + 0x150) 4)

/-- R428: the factory bank, expanded into the point nearest its TPOINT. -/
def State.loadFactory (s : State) : State :=
  let (bs, s1) := s.nvTake 0x3_fc80 340
  let le (a n : Nat) : Nat := leNat ((bs.drop a).take n)
  let p := s1.nearPoint (toSigned 8 (le 6 1) * 65536)
  let s2 := (((s1.wr W_CAL CAL_TFILL (2 ^ p)).putPair W_CAL CAL_TDCOK_LO (le 8 8)).putPair W_CAL CAL_LINOK_LO (le 16
    8)).put W_NVS NVS_BANKSTATE_FACTORY 1
  let s3 := (List.range 38).foldl (fun (t : State) i =>
    let span : Int := le (0x18 + 4 * i) 2
    let bow := toSigned 8 (le (0x1a + 4 * i) 1)
    t.setKnots p 0 i 0 ((List.range 33).map (fun j =>
      ofSigned 16 (roundFree (span * j * 32 + bow * 4 * j * (32 - j : Nat)) 1024)))) s2
  let s4 := (List.range 40).foldl (fun (t : State) n =>
    let span : Int := le (0xb0 + 4 * n) 2
    let base : Int := le (0xb2 + 4 * n) 1
    let bow := toSigned 8 (le (0xb3 + 4 * n) 1)
    t.setKnots p 1 n 0 ((List.range 17).map (fun e =>
      let k := knotTap e
      ofSigned 16 (base + roundFree (span * k * 767 + bow * 4 * k * (767 - k : Nat)) 588289)))) s3
  (s4.setCal { s4.cal with echo := List.replicate 40 (2 ^ 32 - 1, 0) }).reformAll

/-- R433: at boot the newer valid bank is loaded; with neither, NV_CALNONE is raised and the factory bank is loaded. -/
def State.bootBank (s : State) : State :=
  match (if s.nvLocked 1 then none else s.bankPick) with
  | some b => s.loadBank b
  | none =>
    let s1 := (s.sts W_NVS NVS_STS 16).raise 15 9
    if s1.factoryOk then s1.loadFactory else s1

end Sys2Proof.Machine
end

