-- ==== Sys2Proof/Machine/Hlth.lean ====
section
/-!
DEFINITION. Ageing, the plan, temperatures and lifetime records (chapter 17), and the VCORE offset and the temperature
fault (R444, R445).
-/

namespace Sys2Proof.Machine

/-- An event of HLTH (R415): 0 AGE, 1 REPLAN, 2 AGECOND. -/
def State.hlthEvent (s : State) (b : Nat) : State :=
  (s.sts W_HLTH HLTH_STS (2 ^ b)).raise 15 (if b = 2 then 24 else 14 + b)

/-- An event of PWR (R462): 0 RAIL, 1 VSTSTEP, 2 TWARN. -/
def State.pwrEvent (s : State) (b : Nat) : State := (s.sts W_PWR PWR_STS (2 ^ b)).raise 0 (16 + b)

/-! ### Ageing (R409 to R411) -/

/-- R411: condition `c` (1 SUPPLY, 2 VCOA, 3 VCOB, 4 WEAROUT) is present: AGEFLT, AGECOND, the fault; the same condition
raises no second fault. -/
def State.ageing (s : State) (c : Nat) : State :=
  if s.get W_HLTH HLTH_STATE_AGECOND = c then s
  else (((s.put W_HLTH HLTH_STATE_AGECOND c).put W_HLTH HLTH_STATE_AGEFLT 1).hlthEvent 2).fault W_HLTH K_AGEING
    (regAddr W_HLTH HLTH_STATE)

/-- The D of pair `i` in ppm. -/
def State.ageD (s : State) (i : Nat) : Nat := bitsOf (s.rn W_HLTH (HLTH_AGE0 + 4 * (i / 2))) (16 * (i % 2)) 16

/-- R409: one pair read as ratio `r` (2^-30): check 48, D = 1 - r / r_0 in ppm, saturating. -/
def State.agePair (s : State) (i r : Nat) : State :=
  let prev := lget none s.hlth.ratio i
  let s1 := s.setHlth { s.hlth with
    ratio := lput none s.hlth.ratio i (some r), r0 := lupd none s.hlth.r0 i (fun v => v.or (some r)) }
  let bad : Bool := match prev with
    | none => false
    | some p => decide (p < 20 * ((r : Int) - p).natAbs)
  if bad then s1.calReject 5 i 48 (quotFree (((r : Int) - prev.getD 0).natAbs * 100) (prev.getD 1)) [r % 2 ^ 32]
  else
    let r0 : Int := (lget none s1.hlth.r0 i).getD r
    let d := clampInt 0 65535 (if r0 = 0 then 0 else quotFree ((r0 - r) * 10 ^ 6) r0)
    let off := HLTH_AGE0 + 4 * (i / 2)
    s1.wr W_HLTH off (putBits (s1.rn W_HLTH off) (16 * (i % 2)) 16 d.toNat)

/-- R409: a reading of every pair. -/
def State.ageReading (s : State) (ratios : List Nat) : State :=
  let s1 := (List.range 24).foldl (fun (t : State) i => t.agePair i (lget 0 ratios i)) s
  let s2 := (s1.setHlth { s1.hlth with ageAt := some s.tb.c, ageNow := false }).hlthEvent 0
  if (List.range 24).any (fun i => decide (s2.get W_CAL CAL_LIMAGE_DMAX * 10 ≤ s2.ageD i)) then s2.ageing 4 else s2

/-- AGEINT in TB units as it acts (R410, R418). -/
def State.ageInt (s : State) : Nat :=
  max 1 (s.get W_HLTH HLTH_AGEINT_V) * 60 * secU / 2 ^ s.get W_HLTH HLTH_STATE_AGESHIFT

/-- AGE_READING (R409): every AGEINT, or for AGENOW, with the ratio of each pair in 2^-30. -/
def execAgeReading (ratios : List Nat) (s : State) : Host.Outcome State Fault Refusal :=
  .next (if s.hlth.ageNow ∨ (s.flag W_HLTH HLTH_CTL_AGEEN ∧ s.since s.hlth.ageAt s.ageInt) then s.ageReading ratios else s)

/-- A band of the plan written as BANDF with BANDMODE FORCED, while the APLL is disabled (R410). -/
def State.bandApply (s : State) (x : Nat) : State :=
  if lget false s.hlth.bands x ∧ ¬ s.apllOn x then
    let v := s.get W_HLTH (if x = 0 then HLTH_PLAN_BANDA else HLTH_PLAN_BANDB)
    (((s.put (wApll x) APLL_CFG_BANDF v).put (wApll x) APLL_CFG_BANDMODE 1).setHlth
      { s.hlth with bands := lput false s.hlth.bands x false }).hlthEvent 1
  else s

/-- R410, R411: SUP has written HLTH_PLAN: each field is applied within its limit. Whether no band keeps an APLL's
projected VTUNE in its window, where the plan names none, is not stated in registers (log entry 55). -/
def State.planWritten (s : State) : State :=
  let lim := s.get W_CAL CAL_LIMAGE_VSTMAX
  let v := s.get W_HLTH HLTH_PLAN_VST
  let plan := max s.sys.vstPlan (min v lim)
  let sh := s.get W_HLTH HLTH_PLAN_SHIFT
  let did := decide (plan ≠ s.sys.vstPlan) || sh != s.get W_HLTH HLTH_STATE_AGESHIFT
  let s1 := (s.put W_HLTH HLTH_STATE_AGESHIFT sh).setSys
    { s.sys with vstPlan := plan, vstFirst := s.sys.vstFirst && decide (s.get W_PWR PWR_STATE_VSTOFS < plan) }
  let s2 := if did then s1.hlthEvent 1 else s1
  let s3 := if lim < v then s2.ageing 1 else s2
  let av := s.flag W_HLTH HLTH_PLAN_BANDAV
  let bv := s.flag W_HLTH HLTH_PLAN_BANDBV
  let s4 := ((s3.setHlth { s3.hlth with bands := [av, bv] }).bandApply 0).bandApply 1
  let (fa, s5) := s4.takeFree
  let (fb, s6) := s5.takeFree
  let s7 := if ¬ av ∧ fa % 2 = 1 then s6.ageing 2 else s6
  if ¬ bv ∧ fb % 2 = 1 then s7.ageing 3 else s7

/-- A write of HLTH_CMD. -/
def State.hlthCmd (s : State) (v : Nat) : State :=
  let s1 := if bitOf v 0 then s.put W_HLTH HLTH_STATE_AGEFLT 0 else s
  if bitOf v 1 then s1.setHlth { s1.hlth with ageNow := true } else s1

/-- VCORE_OFFSET_STEP (R410, R444): one 5 mV step towards the plan: per millisecond in the first approach, per hour
after it. -/
def execVcoreOffsetStep (s : State) : Host.Outcome State Fault Refusal :=
  let v := s.get W_PWR PWR_STATE_VSTOFS
  .next (if v < s.sys.vstPlan ∧ s.since s.sys.vstAt (if s.sys.vstFirst then msU else 3600 * secU) then
      let s1 := ((s.put W_PWR PWR_STATE_VSTOFS (v + 1)).put W_HLTH HLTH_STATE_VSTOFS (v + 1)).pwrEvent 1
      s1.setSys { s1.sys with vstAt := some s.tb.c, vstFirst := s.sys.vstFirst && decide (v + 1 < s.sys.vstPlan) }
    else s)

/-! ### Temperatures (R412, R445) -/

/-- The limits TWARN, TFLT and TLOW in 2^-16 °C as they act (R464). -/
def State.tlim (s : State) (f : Fld) : Int :=
  let v := s.get W_PWR f
  (((if f = PWR_TLIM_TFLT then min 204 v else v : Nat) : Int) - 64) * 65536

/-- R445: the warning, the fault and its cause-present bit after a reading. -/
def State.tempJudge (s : State) (t : Int) : State :=
  let hi := s.tlim PWR_TLIM_TFLT
  let lo := s.tlim PWR_TLIM_TLOW
  let out := decide (hi < t ∨ t < lo)
  let warn := decide (s.tlim PWR_TLIM_TWARN < t)
  let s1 := if warn ∧ ¬ s.flag W_PWR PWR_STATE_TWARN then (s.put W_PWR PWR_STATE_TWARN 1).pwrEvent 2
    else s.put W_PWR PWR_STATE_TWARN (b2n warn)
  let s2 := if out ∧ s.hlth.beyond ∧ ¬ s.flag W_PWR PWR_STATE_TEMPBAD then
      (s1.put W_PWR PWR_STATE_TEMPBAD 1).fault W_HLTH K_TEMP (regAddr W_HLTH HLTH_TDIE)
    else if t ≤ hi - 2 * 65536 ∧ lo + 2 * 65536 ≤ t then s1.put W_PWR PWR_STATE_TEMPBAD 0
    else s1
  s2.setHlth { s2.hlth with beyond := out }

/-- DIE_TEMP_READING (R412): the eight sensors, in 2^-16 °C, at a multiple of 10 ms of C, or, from the release of
power-on reset until C runs, every 10 ms on the internal oscillator. -/
def execDieTempReading (temps : List Int) (s : State) : Host.Outcome State Fault Refusal :=
  let u := 10 * msU
  let ready := if s.tb.running then s.gridDue u s.hlth.tempIdx else s.sys.phase == .released
  .next (if temps.length ≠ 8 ∨ ¬ ready then s
    else
      let t := quotFree (temps.foldl (· + ·) 0) 8
      let s1 := (List.range 8).foldl (fun (x : State) i => x.wr W_HLTH (HLTH_TEMP0 + 4 * i) (ofSigned 32 (lget 0 temps i))) s
      let s2 := (s1.wr W_HLTH HLTH_TDIE (ofSigned 32 t)).setHlth { s1.hlth with tempIdx := s.tb.c / u }
      let top := ((t + 64 * 65536) / 256).toNat
      let s3 := if s.flag W_HLTH HLTH_CTL_LIFEEN then
          s2.setHlth { s2.hlth with life := lupd 0 s2.hlth.life 12 (fun v => max v (min (2 ^ 32 - 1) top)) }
        else s2
      s3.tempJudge t)

/-! ### Lifetime records (R413) -/

/-- The junction-temperature bin of `t` (2^-16 °C): records 32 to 47. -/
def tempBin (t : Int) : Nat :=
  if t < -30 * 65536 then 0 else if 110 * 65536 ≤ t then 15 else ((t + 40 * 65536) / (10 * 65536)).toNat

/-- The VIN bin of `mv`: records 48 to 55. -/
def vinBin (mv : Nat) : Nat :=
  if mv < 6000 then 0 else if mv < 9000 then 1 else if mv < 13000 then 2 else if mv < 18000 then 3
  else if mv < 25000 then 4 else if mv < 34000 then 5 else if mv < 42000 then 6 else 7

/-- R413: the whole minutes in BIVOUAC of loop `n` since the last hour; the rest of a minute is kept. -/
def State.bivMinutes (s : State) (n : Nat) : State :=
  let minU := 60 * secU
  let from_ := s.hlth.hourIdx * 3600 * secU
  let on := match lget none s.hlth.biv n with
    | none => 0
    | some c0 => s.tb.c - max c0 from_
  let all := lget 0 s.hlth.bivAcc n + on
  (s.lifeAdd (6 + n) (all / minU)).setHlth
    { (s.lifeAdd (6 + n) (all / minU)).hlth with bivAcc := lput 0 s.hlth.bivAcc n (all % minU) }

/-- LIFETIME_HOUR (R413): each hour of C, with VIN in mV: powered time, the temperature and VIN bins, bivouac time. -/
def execLifetimeHour (vin : BitVec 16) (s : State) : Host.Outcome State Fault Refusal :=
  let u := 3600 * secU
  .next (if ¬ s.gridDue u s.hlth.hourIdx then s
    else
      let s1 := if s.flag W_HLTH HLTH_CTL_LIFEEN then
          let s2 := ((s.lifeAdd 0 1).lifeAdd (32 + tempBin s.tdie) 1).lifeAdd (48 + vinBin vin.toNat) 1
          (List.range 4).foldl State.bivMinutes s2
        else s
      s1.setHlth { s1.hlth with hourIdx := s.tb.c / u })

/-- The record that HLTH_LIFEIDX selects, and the index moved on by an access (R413). -/
def State.lifeData (s : State) : Nat := lget 0 s.hlth.life (s.get W_HLTH HLTH_LIFEIDX_INDEX)
def State.lifeNext (s : State) : State := s.put W_HLTH HLTH_LIFEIDX_INDEX (s.get W_HLTH HLTH_LIFEIDX_INDEX + 1)

/-- R414: SUP restores a record. -/
def State.lifeWrite (s : State) (v : Nat) : State :=
  s.setHlth { s.hlth with life := lput 0 s.hlth.life (s.get W_HLTH HLTH_LIFEIDX_INDEX) v }

/-- R409, R427: the factory ratios, where their CRC is good; otherwise the first readings after boot. -/
def State.loadRatios (s : State) : State :=
  let (bs, s1) := s.nvTake 0x3_fc10 96
  let ok := crc32 bs == leNat (s.nvSees 0x3_fc70 4)
  s1.setHlth { s1.hlth with
    r0 := if ok then (List.range 24).map (fun i => some (leNat ((bs.drop (4 * i)).take 4))) else List.replicate 24 none
    ratio := List.replicate 24 none }

/-- R416: a soft or block reset of HLTH keeps the readings and the plan in force: AGEFLT and AGECOND are cleared with the
registers. -/
def State.hlthKeep (old s : State) : State :=
  let s1 := ((s.put W_HLTH HLTH_STATE_AGESHIFT (old.get W_HLTH HLTH_STATE_AGESHIFT)).put W_HLTH HLTH_STATE_VSTOFS
    (old.get W_HLTH HLTH_STATE_VSTOFS)).wr W_HLTH HLTH_TDIE (old.rn W_HLTH HLTH_TDIE)
  let s2 := (List.range 8).foldl (fun (t : State) i => t.wr W_HLTH (HLTH_TEMP0 + 4 * i) (old.rn W_HLTH (HLTH_TEMP0 + 4 * i)))
    s1
  (List.range 12).foldl (fun (t : State) i => t.wr W_HLTH (HLTH_AGE0 + 4 * i) (old.rn W_HLTH (HLTH_AGE0 + 4 * i))) s2

end Sys2Proof.Machine
end

