-- ==== Sys2Proof/Machine/Sha.lean ====
section
/-!
DEFINITION. HMAC-SHA-256, which the loader checks an image with (R309, R310). The spec names the function and gives none of
its constants: they are formed here from what defines them, the roots of the first primes (log entry 85).
-/

namespace Sys2Proof.Machine

/-- The `k`-th root of `n` rounded down, of at most `i` bits below the part `r` already found. -/
def rootBits (k n : Nat) : Nat → Nat → Nat
  | 0, r => r
  | i + 1, r => rootBits k n i (if (r + 2 ^ i) ^ k ≤ n then r + 2 ^ i else r)

/-- The first 32 bits behind the point of the `k`-th root of `p`. -/
def rootFrac (k p : Nat) : Word := BitVec.ofNat 32 (rootBits k (p * 2 ^ (32 * k)) 36 0)

/-- The 64 primes below 312. -/
def shaPrimes : List Nat :=
  (List.range 312).filter (fun p => decide (2 ≤ p) && (List.range p).all (fun d => decide (d < 2 ∨ p % d ≠ 0)))

/-- What the compression works on: the chaining value, and the eight words of a round. -/
structure ShaWords where
  a : Word
  b : Word
  c : Word
  d : Word
  e : Word
  f : Word
  g : Word
  h : Word
  deriving DecidableEq, Repr

/-- Words as a list, first to last, and back. -/
def ShaWords.toList (v : ShaWords) : List Word := [v.a, v.b, v.c, v.d, v.e, v.f, v.g, v.h]
def ShaWords.ofList (l : List Word) : ShaWords :=
  ⟨lget 0 l 0, lget 0 l 1, lget 0 l 2, lget 0 l 3, lget 0 l 4, lget 0 l 5, lget 0 l 6, lget 0 l 7⟩

/-- A word turned right by each of the distances, all combined. -/
def turns (x : Word) (l : List Nat) : Word := l.foldl (fun acc k => acc ^^^ x.rotateRight k) 0

/-- One word more of the message schedule `w`. -/
def shaExtend (w : List Word) : List Word :=
  let t := w.length
  let old := lget 0 w (t - 15)
  let new := lget 0 w (t - 2)
  w ++ [lget 0 w (t - 16) + (turns old [7, 18] ^^^ old >>> 3) + lget 0 w (t - 7) + (turns new [17, 19] ^^^ new >>> 10)]

/-- One round, with the sum of its constant and its schedule word. -/
def ShaWords.turn (v : ShaWords) (x : Word) : ShaWords :=
  let t := v.h + turns v.e [6, 11, 25] + (v.g ^^^ (v.e &&& (v.f ^^^ v.g))) + x
  let u := turns v.a [2, 13, 22] + ((v.a &&& v.b) ||| (v.c &&& (v.a ||| v.b)))
  { a := t + u, b := v.a, c := v.b, d := v.c, e := v.d + t, f := v.e, g := v.f, h := v.g }

/-- The chaining value `v` after the 64 bytes `bs`. -/
def ShaWords.absorb (v : ShaWords) (bs : List Byte) : ShaWords :=
  let first := (List.range 16).map (fun i => BitVec.ofNat 32 (beNat ((bs.drop (4 * i)).take 4)))
  let w := (List.range 48).foldl (fun acc _ => shaExtend acc) first
  let r := (List.range 64).foldl (fun (x : ShaWords) t => x.turn (rootFrac 3 (lget 0 shaPrimes t) + lget 0 w t)) v
  .ofList (List.zipWith (· + ·) v.toList r.toList)

/-- SHA-256 of bytes. -/
def sha256 (bs : List Byte) : List Byte :=
  let n := bs.length
  let m := bs ++ (0x80 :: List.replicate ((119 - n % 64) % 64) 0) ++ (leBytes 8 (8 * n)).reverse
  let start := ShaWords.ofList (shaPrimes.map (rootFrac 2))
  let v := (List.range (m.length / 64)).foldl (fun (x : ShaWords) i => x.absorb ((m.drop (64 * i)).take 64)) start
  v.toList.flatMap (fun x => (leBytes 4 x.toNat).reverse)

/-- HMAC-SHA-256 of bytes under a key of 32 bytes. -/
def hmac256 (key bs : List Byte) : List Byte :=
  let pad (x : Byte) : List Byte := (key ++ List.replicate 32 0).map (fun b => b ^^^ x)
  sha256 (pad 0x5c ++ sha256 (pad 0x36 ++ bs))

end Sys2Proof.Machine
end

