-- ==== Sys2Proof/Machine/Loader.lean ====
section
/-!
DEFINITION. The loader and the engines' control (chapter 13): instruction encodings as the loader checks them (R286,
R287), the path rules and bounds (R311, R312), queue rules (R313), images and stock images (R309, R318, R467), the load
itself (R315, R316), HALT, RUN and RESTART (R317).
-/

namespace Sys2Proof.Machine

/-! ### Encodings (R286, R287) -/

/-- What the loader needs of an instruction word: its cost with a local data address (R306) and what it does to the path
or to ports and queues. -/
inductive LInsn
  | plain (cost : Nat)
  | mem (near : Bool)
  | fwd (always : Bool) (off : Nat)
  | loop (count len : Nat)
  | call (target : Nat)
  | ret | done
  | pin (port : Nat)
  | pout (port : Nat)
  | qput (q : Nat) (w : Bool)
  | qget (q : Nat)
  | send (w : Bool)
  | armAt
  | snap
  | raise
  deriving DecidableEq, Repr

/-- A legal ALU function of opcode 0x01 with its zero fields (R288). -/
def aluLegal (w : Nat) : Bool :=
  let f := bitsOf w 0 5
  let hi := bitsOf w 5 6
  let rd := bitsOf w 21 5
  let rb := bitsOf w 11 5
  if f = 20 then rb == 0
  else hi == 0 && (decide (f ≤ 15) || (f == 16 && rd == 0) || (decide (17 ≤ f ∧ f ≤ 19) && rb == 0))

/-- The instruction a word encodes; none for an illegal encoding. -/
def lInsn (w : Nat) : Option LInsn :=
  let op := bitsOf w 26 6
  let rd := bitsOf w 21 5
  let ra := bitsOf w 16 5
  let ok (b : Bool) (i : LInsn) : Option LInsn := if b then some i else none
  if w = 0 ∨ w = 0xffff_ffff then none
  else if op = 0x01 then ok (aluLegal w) (.plain (if bitsOf w 0 5 = 14 ∨ bitsOf w 0 5 = 15 then 2 else 1))
  else if (0x02 ≤ op ∧ op ≤ 0x05) ∨ op = 0x07 then ok (op ≠ 0x07 || rd == 0) (.plain 1)
  else if op = 0x06 then ok (bitsOf w 8 8 == 0 && bitsOf w 6 2 != 3) (.plain 1)
  else if op = 0x08 ∨ op = 0x09 then ok (ra == 0) (.plain 1)
  else if 0x0a ≤ op ∧ op ≤ 0x0c then ok (bitsOf w 6 5 == 0) (.plain 2)
  else if op = 0x0d then ok (bitsOf w 0 11 == 0) (.plain 40)
  else if op = 0x0e then ok (bitsOf w 0 16 == 0) (.plain 40)
  else if (0x10 ≤ op ∧ op ≤ 0x16) ∨ (0x18 ≤ op ∧ op ≤ 0x1b) then some (.mem (ra == 0))
  else if op = 0x20 then ok (bitsOf w 22 4 ≤ 12 && bitsOf w 16 6 == 0 && bitsOf w 0 16 != 0)
    (.fwd (bitsOf w 22 4 == 0) (bitsOf w 0 16))
  else if op = 0x21 then ok (bitsOf w 0 14 != 0) (.loop (bitsOf w 14 12 + 1) (bitsOf w 0 14))
  else if op = 0x22 then ok (bitsOf w 16 10 == 0) (.call (bitsOf w 0 16))
  else if op = 0x23 then ok (bitsOf w 0 26 == 0) .ret
  else if op = 0x24 then ok (bitsOf w 0 26 == 0) .done
  else if op = 0x25 then ok (bitsOf w 0 26 == 0) (.plain 1)
  else if op = 0x28 then some (.pin (bitsOf w 8 8))
  else if op = 0x29 then some (.pout (bitsOf w 8 8))
  else if op = 0x2a then ok (bitsOf w 0 14 == 0 && rd % 4 == 0) (.qput (bitsOf w 15 6) (bitOf w 14))
  else if op = 0x2b then ok (bitsOf w 0 15 == 0 && rd % 4 == 0) (.qget (bitsOf w 15 6))
  else if op = 0x2c then ok (bitsOf w 0 11 == 0 && rd % 4 == 0) (.send (bitOf w 11))
  else if op = 0x30 then ok (bitsOf w 0 15 == 0 && rd == 0) .armAt
  else if op = 0x31 then ok (bitsOf w 0 15 == 0 && ra == 0) (.plain 4)
  else if op = 0x32 then ok (bitsOf w 0 26 == 0) .snap
  else if op = 0x33 then
    ok (bitsOf w 16 6 == 0 && (bitsOf w 22 4 ≤ 10 || bitsOf w 22 4 == 15)) .raise
  else if op = 0x38 then ok (bitsOf w 0 11 == 0 && ra == 0) (.plain 1)
  else if op = 0x39 then ok (bitsOf w 0 11 == 0 && rd == 0) (.plain 1)
  else none

/-- The little-endian words of instruction bytes. -/
def codeWords : Nat → List Byte → List Nat
  | 0, _ => []
  | n + 1, bs => leNat (bs.take 4) :: codeWords n (bs.drop 4)

/-! ### Paths and bounds (R311, R312) -/

/-- Near windows of an engine (R307). -/
def nearWin (k p : Nat) : Bool :=
  match profileOf k with
  | 0 => decide (p ≤ 0x0f) || p == W_ENG
  | 1 => p == 0x0c || p == 0x0f || p == 0x28 + (k - 1) || p == W_ENG + k
  | 2 => p == 0x0c || p == 0x0f || decide (0x10 ≤ p ∧ p ≤ 0x24) || p == W_ENG + k
  | _ => p == 0x0c || p == 0x54 + (k - 9) || p == 0x56 + (k - 9) || p == 0x58 || p == W_ENG + k

/-- The cost of an instruction for engine `k` (R306). -/
def lCost (k : Nat) : LInsn → Nat
  | .plain c => c
  | .mem near => if near ∨ profileOf k = 1 then 1 else 24
  | .fwd _ _ => 1
  | .loop _ _ => 1
  | .call _ => 1
  | .ret => 1
  | .done => 4
  | .pin p => if nearWin k p then 8 else 760
  | .pout p => if nearWin k p then 8 else 760
  | .qput _ _ => 12
  | .qget _ => 12
  | .send _ => 12
  | .armAt => 4
  | .snap => 4
  | .raise => 4

/-- Where a trace stands: the loops open (last index, weight before, call depth), the calls (return index, target), and
what every path must have seen (R313). -/
structure LPath where
  loops : List (Nat × Nat × Nat)
  calls : List (Nat × Nat)
  weight : Nat
  seen : Bool
  deriving DecidableEq, Repr

/-- The failures of R310 that a trace can find: reason and instruction index. -/
abbrev LFail := Nat × Nat
def L_FLOW : Nat := 6
def L_CALL : Nat := 7
def L_QUEUE : Nat := 9

/-- Loops whose body ends at `pc` at this depth are closed; the weight returns to what it was. -/
def closeLoops (pc depth : Nat) : List (Nat × Nat × Nat) → Nat → List (Nat × Nat × Nat) × Nat
  | [], w => ([], w)
  | (l, w0, d) :: t, w => if l ≤ pc ∧ d = depth then closeLoops pc depth t w0 else ((l, w0, d) :: t, w)

/-- Whether moving from `pc` to `t` enters a loop body from outside (R311). -/
def entersBody (code : List LInsn) (pc t : Nat) : Bool :=
  (List.range (t - pc - 1)).any (fun i =>
    let j := pc + 1 + i
    match lget .ret code j with
    | .loop _ len => decide (j < t ∧ t ≤ j + len)
    | _ => false)

/-- Which pass a trace makes: path rules, call rules, or the bound with a queue that every path must QGET (R313). -/
inductive LPass
  | flow | call | bound (queue : Option Nat)
  deriving DecidableEq, Repr

/-- The larger of two results; a failure wins. -/
def worst (a b : Except LFail Nat) : Except LFail Nat :=
  match a, b with
  | .ok x, .ok y => .ok (max x y)
  | .error e, _ => .error e
  | _, .error e => .error e

/-- R311, R312: every path from index `pc` on: the largest sum of costs to its DONE, or the first failure of the pass.
The number bounds the length of a path. -/
def lTrace (k : Nat) (code : List LInsn) (pass : LPass) : Nat → Nat → LPath → Except LFail Nat
  | 0, pc, _ => .error (L_FLOW, pc)
  | n + 1, pc, p =>
    let flowBad (b : Bool) (r : Except LFail Nat) : Except LFail Nat := if b then .error (L_FLOW, pc) else r
    match code[pc]? with
    | none => .error (L_FLOW, pc)
    | some i =>
      let depth := p.calls.length
      let here := lCost k i * p.weight
      let add (r : Except LFail Nat) : Except LFail Nat := match r with | .ok v => .ok (v + here) | .error e => .error e
      let on (q : LPath) (at_ : Nat) : Except LFail Nat :=
        let (ls, w) := closeLoops pc depth q.loops q.weight
        lTrace k code pass n at_ { q with loops := ls, weight := w }
      let next : Except LFail Nat := on p (pc + 1)
      let callBad : Except LFail Nat := if pass = .call then .error (L_CALL, pc) else .ok 0
      match i with
      | .fwd always off =>
        let t := pc + off
        let (ls, w) := closeLoops (t - 1) depth p.loops p.weight
        let stay := entersBody code pc t
        flowBad (stay || decide (code.length ≤ t))
          (let taken := lTrace k code pass n t { p with loops := ls, weight := w }
           add (if always then taken else worst taken next))
      | .loop count len =>
        let last := pc + len
        let inner := match p.loops with
          | (l, _, d) :: _ => d == depth && decide (l < last)
          | [] => false
        flowBad (inner || decide (4 ≤ p.loops.length) || decide (code.length ≤ last))
          (add (lTrace k code pass n (pc + 1)
            { p with loops := (last, p.weight, depth) :: p.loops, weight := p.weight * count }))
      | .call t =>
        if code.length ≤ t ∨ 8 ≤ depth ∨ p.calls.any (fun c => c.2 == t) then callBad
        else add (lTrace k code pass n t { p with calls := (pc + 1, t) :: p.calls })
      | .ret =>
        match p.calls with
        | [] => .error (L_FLOW, pc)
        | (r, _) :: cs =>
          -- a loop of the caller whose body ends with the CALL closes at the return
          let (ls, w) := closeLoops (r - 1) (depth - 1) p.loops p.weight
          flowBad (p.loops.any (fun f => f.2.2 == depth))
            (add (lTrace k code pass n r { p with calls := cs, loops := ls, weight := w }))
      | .done =>
        match pass with
        | .bound (some q) => if p.seen then .ok here else .error (L_QUEUE, q)
        | _ => .ok here
      | .armAt =>
        flowBad (match code[pc + 1]? with | some (.pout _) => false | some .snap => false | some .raise => false | _ => true)
          (match code[pc + 1]? with
           | some c =>
             -- the captured instruction costs 4 (R306)
             let w := (closeLoops pc depth p.loops p.weight).2
             match next with
             | .ok v => .ok (v + here + 4 * w - lCost k c * w)
             | .error e => .error e
           | none => .error (L_FLOW, pc))
      | .qget q =>
        add (on { p with seen := p.seen || pass == .bound (some q) } (pc + 1))
      | _ => add next

/-- Every path from an entry, under a pass. -/
def lRun (k : Nat) (code : List LInsn) (pass : LPass) (entry : Nat) : Except LFail Nat :=
  lTrace k code pass ((code.length + 2) ^ 9) entry ⟨[], [], 1, false⟩

/-! ### Images (R309) -/

/-- Queue table entries; none where one is not well formed. -/
def qTable : Nat → List Byte → Option (List QBind)
  | 0, _ => some []
  | n + 1, bs =>
    let b (i : Nat) : Nat := (lget 0 bs i).toNat
    let cons := b 1 % 2 = 1
    let ok := b 0 < 64 ∧ b 1 < 4 ∧ b 3 = 0 ∧ (if cons then 8 ≤ b 2 ∧ b 2 ≤ 15 else b 2 = 0xff)
    if ok then
      match qTable n (bs.drop 4) with
      | some t => some (⟨b 0, b 1 % 2 == 1, b 1 / 2 == 1, b 2⟩ :: t)
      | none => none
    else none

/-- Handler table entries: event and entry index. -/
def hTable : Nat → List Byte → Option (List (Nat × Nat))
  | 0, _ => some []
  | n + 1, bs =>
    let ev := leNat (bs.take 1)
    if leNat ((bs.drop 1).take 1) = 0 ∧ (ev ≤ 58 ∨ ev = 63) then
      match hTable n (bs.drop 4) with
      | some t => if t.any (fun h => h.1 == ev) then none else some ((ev, leNat ((bs.drop 2).take 2)) :: t)
      | none => none
    else none

/-- The parts of an image: FORMAT of R310, without the profile; the whole length, whether it has an HMAC. -/
structure LParts where
  hmac : Bool
  total : Nat
  ilen : Nat
  body : Nat
  img : Image
  deriving DecidableEq, Repr

/-- R309: an image's header and tables. -/
def lParts (k : Nat) (bs : List Byte) : Option LParts :=
  let le (a n : Nat) : Nat := leNat ((bs.drop a).take n)
  let nh := le 0x10 1
  let nq := le 0x11 1
  let ilen := le 8 4
  let dlen := le 0xc 4
  let hmac := bitOf (le 7 1) 0
  let total := le 0x1c 4
  let code := 64 + 4 * nh + 4 * nq
  let crcAt := code + ilen + dlen
  if le 0 4 = 0x4954_4442 ∧ le 4 2 = 0x100 ∧ le 6 1 = profileOf k ∧ le 7 1 < 2 ∧ ilen % 4 = 0 ∧ ilen ≤ engMemSize k ∧
      dlen ≤ engMemSize k ∧ 1 ≤ nh ∧ nh ≤ 60 ∧ nq ≤ 8 ∧ le 0x12 2 = 0 ∧ ((bs.drop 0x20).take 32).all (fun b => b == 0) ∧
      total = crcAt + 4 + (if hmac then 32 else 0) ∧ total ≤ bs.length then
    match hTable nh (bs.drop 64), qTable nq (bs.drop (64 + 4 * nh)) with
    | some hs, some qs =>
      some ⟨hmac, total, ilen, crcAt, ⟨profileOf k, (bs.drop code).take ilen, (bs.drop (code + ilen)).take dlen, hs, [], qs,
        le 0x14 4, le 0x18 4, 0, false, none⟩⟩
    | _, _ => none
  else none

/-- The code's instructions; none with the index of the first illegal word (ENCODING). -/
def lCode : List Nat → Nat → Except LFail (List LInsn)
  | [], _ => .ok []
  | w :: ws, i =>
    match lInsn w with
    | none => .error (5, i)
    | some x => match lCode ws (i + 1) with
      | .ok t => .ok (x :: t)
      | .error e => .error e

/-- The results of a pass over every handler. -/
def lPassAll (k : Nat) (code : List LInsn) (pass : LPass) (hs : List (Nat × Nat)) : Except LFail (List (Nat × Nat)) :=
  hs.foldl (fun (r : Except LFail (List (Nat × Nat))) h =>
    match r, lRun k code pass h.2 with
    | .error e, _ => .error e
    | _, .error e => .error e
    | .ok l, .ok v => .ok (l ++ [(h.1, v)])) (.ok [])

/-- PROFILE of R310: windows, W = 1 and SEND (R307); the index of the first that is not allowed. -/
def lProfileBad (k : Nat) (code : List LInsn) : Option Nat :=
  code.findIdx? (fun i =>
    match i with
    | .pin p => !mayPin k p
    | .pout p => !mayPout k p
    | .qput _ w => w && !(profileOf k == 0 || profileOf k == 3)
    | .send _ => profileOf k != 0
    | _ => false)

/-- Whether an image waits anywhere (R313). -/
def lWaits (code : List LInsn) : Bool :=
  code.any (fun i => match i with | .qput _ w => w | .send w => w | _ => false)

/-- Whether another engine's image consumes queue `q`. -/
def State.otherConsumes (s : State) (k q : Nat) : Bool :=
  (List.range 11).any (fun j => j != k && (s.eng j).queues.any (fun b => b.queue == q && b.consume))

/-- QUEUE of R310: the rules of R313; the first queue that fails one. -/
def State.lQueueBad (s : State) (k : Nat) (code : List LInsn) (img : Image) : Option Nat :=
  let waits := lWaits code
  let prod (q : Nat) : Bool := img.queues.any (fun b => b.queue == q && b.produce)
  let cons (q : Nat) : Bool := img.queues.any (fun b => b.queue == q && b.consume)
  let bad1 := code.findSome? (fun i =>
    match i with
    | .qput q w =>
      if ¬ prod q then some q
      else if w ∧ s.qCons q ≠ 1 ∧ s.qCons q ≠ 3 ∧
          ¬ (s.qCons q = 2 ∧ s.qConsId q ≠ k ∧ ¬ (s.eng (s.qConsId q)).waiting) then some q
      else none
    | .qget q => if cons q then none else some q
    | _ => none)
  let bad2 := img.queues.findSome? (fun b =>
    if ¬ b.consume then none
    else if ¬ img.hands.any (fun h => h.1 == b.event) then some b.queue
    else if s.otherConsumes k b.queue ∨ s.qCons b.queue = 1 ∨ s.qCons b.queue = 3 ∨
        (s.qCons b.queue = 2 ∧ s.qConsId b.queue ≠ k) then some b.queue
    else if s.qMode b.queue = .stall ∧ (profileOf k = 1 ∨ waits) then some b.queue
    else none)
  let bad3 := img.queues.findSome? (fun b =>
    if ¬ b.consume then none
    else
      match img.hands.find? (fun h => h.1 == b.event) with
      | none => none
      | some h => match lRun k code (.bound (some b.queue)) h.2 with
        | .error (9, q) => some q
        | _ => none)
  (bad1.or bad2).or bad3

/-- The limit of a handler's bound (R312). -/
def State.boundLimit (s : State) (k : Nat) : Nat := if profileOf k = 1 then 285 * s.uper (k - 1) else 190000

/-- R310: the checks of an image for engine `k`, in order: the accepted image, or reason and detail. -/
def State.lCheck (s : State) (k : Nat) (bs : List Byte) : Except LFail Image :=
  match lParts k bs with
  | none => .error (2, 0)
  | some p =>
    let key := s.nvSees 0x3_f000 32
    let mac := (bs.drop (p.body + 4)).take 32
    if crc32 (bs.take p.body) ≠ leNat ((bs.drop p.body).take 4) then .error (3, 0)
    else if (s.flag (W_ENG) ENG_LDRPOLICY_HMACREQ ∧ ¬ p.hmac) ∨
        (p.hmac ∧ (key.all (fun b => b == 0) ∨ hmac256 key (bs.take (p.body + 4)) ≠ mac)) then .error (4, 0)
    else
      match lCode (codeWords (p.ilen / 4) p.img.code) 0 with
      | .error e => .error e
      | .ok code =>
        match lPassAll k code .flow p.img.hands with
        | .error e => .error e
        | .ok _ =>
          match lPassAll k code .call p.img.hands with
          | .error e => .error e
          | .ok _ =>
            match lProfileBad k code with
            | some i => .error (8, i)
            | none =>
              match s.lQueueBad k code p.img with
              | some q => .error (9, q)
              | none =>
                match lPassAll k code (.bound none) p.img.hands with
                | .error e => .error e
                | .ok hb =>
                  match hb.find? (fun h => decide (s.boundLimit k < h.2)) with
                  | some h => .error (10, h.1)
                  | none =>
                    .ok { p.img with
                      hbounds := hb
                      bound := hb.foldl (fun m h => max m h.2) 0
                      waiting := lWaits code }

/-! ### Stock images (R318, R319, R467) -/

/-- The bounds of a stock image's handlers: event ranges (R467). -/
def romHandlers (rom : Nat) : List (Nat × Nat) :=
  let rng (a b v : Nat) : List (Nat × Nat) := (List.range (b + 1 - a)).map (fun i => (a + i, v))
  match rom with
  | 0 => [(63, 150000), (0, 40000), (1, 6000), (2, 2000)] ++ rng 8 15 12000 ++ rng 16 47 30000 ++ rng 48 58 4000
  | 1 => [(63, 80), (0, 460), (1, 60)] ++ rng 16 47 40
  | 2 => [(63, 20000), (0, 30000), (1, 60000), (2, 120000), (3, 2000)] ++ rng 16 47 10000
  | _ => [(63, 10000), (0, 8000), (1, 8000)] ++ rng 8 15 60000 ++ rng 16 47 20000 ++ rng 48 58 4000

/-- IMGID of a stock image (R318). -/
def romId (rom : Nat) : Nat :=
  match rom with | 0 => 0x5355 | 1 => 0x4c50 | 2 => 0x4d4f | _ => 0x5054

/-- An entry of the loop image's stage table: BW, ZETA, FLAGS, LOCKTHR, EXIT, DWELL (R88). -/
def stageBytes (bw fl thr ex dw : Nat) : List Byte :=
  leBytes 4 bw ++ leBytes 2 256 ++ leBytes 2 fl ++ leBytes 2 thr ++ leBytes 2 ex ++ leBytes 4 dw

/-- R88: the loop image's default parameter block. -/
def lpDefaults : List Byte :=
  leBytes 2 0x100 ++ leBytes 2 0xc0 ++ leBytes 4 0 ++ leBytes 1 4 ++ leBytes 1 1 ++ leBytes 1 0xff ++ leBytes 1 3 ++
    leBytes 4 300 ++ leBytes 4 60000 ++ leBytes 12 0 ++ stageBytes 100000000 0 20 30 20 ++
    stageBytes 10000000 1 40 300 500 ++ stageBytes 1000000 1 200 3000 5000 ++ stageBytes 100000 3 0 0 0 ++
    List.replicate 64 0 ++ List.replicate 32 0

/-- R319: the default parameter block of the other stock images. -/
def stockDefaults (rom : Nat) : List Byte :=
  if rom = 1 then lpDefaults
  else
    let head := leBytes 2 0x100 ++ leBytes 2 0x40 ++ List.replicate 12 0
    let rest : List Byte := match rom with
      | 0 => leBytes 4 1000 ++ leBytes 1 0xf ++ leBytes 3 0 ++ leBytes 4 86400
      | 2 => leBytes 1 1
      | _ => leBytes 1 (256 - 4) ++ leBytes 1 (256 - 3) ++ leBytes 1 3 ++ leBytes 1 128 ++ leBytes 1 128 ++ leBytes 3 0 ++
        leBytes 4 300
    (head ++ rest ++ List.replicate 64 0).take 64

/-- The queues a stock image binds: a port program consumes its engine's RXQ and produces its TXQ (log entry 7). -/
def stockQueues (k : Nat) : List QBind :=
  if k < 9 then [] else [⟨8 + 4 * (k - 9), true, false, 8⟩, ⟨9 + 4 * (k - 9), false, true, 0xff⟩]

/-- R318: the stock image of ROM number `rom` for engine `k`. Its instructions are not given (log entry 7). -/
def stockImage (k rom : Nat) : Image :=
  { profile := profileOf k, code := [], data := stockDefaults rom, hands := (romHandlers rom).map (fun h => (h.1, 0)),
    hbounds := romHandlers rom, queues := stockQueues k, imgId := romId rom, imgVer := 0x100,
    bound := (romHandlers rom).foldl (fun m h => max m h.2) 0, waiting := false, rom := some rom }

/-- R310 for a stock image: PROFILE, AUTH while ROMOK = 0, QUEUE and BOUND. -/
def State.romCheck (s : State) (k rom : Nat) : Except LFail Image :=
  let img := stockImage k rom
  if rom ≠ profileOf k then .error (2, 0)
  else if s.flag W_ENG ENG_LDRPOLICY_HMACREQ ∧ ¬ s.flag W_ENG ENG_LDRPOLICY_ROMOK then .error (4, 0)
  else
    match s.lQueueBad k [] { img with queues := [] } with
    | some q => .error (9, q)
    | none =>
      match img.queues.find? (fun b => b.consume && (s.otherConsumes k b.queue || s.qCons b.queue == 1 ||
          s.qCons b.queue == 3 || (s.qCons b.queue == 2 && s.qConsId b.queue != k))) with
      | some b => .error (9, b.queue)
      | none =>
        match img.hbounds.find? (fun h => decide (s.boundLimit k < h.2)) with
        | some h => .error (10, h.1)
        | none => .ok img

/-! ### Loading (R315, R316) -/

/-- The loader's registers: LPHASE and TARGET. -/
def State.ldrShow (s : State) : State :=
  let c := match s.ldr.phase with | .idle => 0 | .check => 1 | .wait => 2 | .copy => 3
  s.wr W_ENG ENG_LDRSTATE (c + s.ldr.target % 16 * 2 ^ 4)

/-- R322: an engine event with its cause. -/
def State.engEvent (s : State) (k bit g cause : Nat) : State :=
  (s.stsField (W_ENG + k) ENG_STS_CAUSE (2 ^ bit) cause).raise 15 g

/-- R315: a refusal or failure: REJECT and REASON, ENG_REJECT, the target's status and detail. -/
def State.ldrReject (s : State) (target reason detail : Nat) : State :=
  let s1 := ((s.sts W_ENG ENG_LDRSTS 2).put W_ENG ENG_LDRSTS_REASON reason).put W_ENG ENG_LDRSTS_TARGET target
  if target ≤ 10 then
    (s1.engEvent target 1 1 (0x10 + reason)).wr (W_ENG + target) ENG_LDETAIL (detail % 2 ^ 16 + reason * 2 ^ 16)
  else s1.raise 15 1

/-- The loader returns to IDLE; a reading of the cells ends. -/
def State.ldrIdle (s : State) : State :=
  let s1 : State := match s.nv.job with
    | some j => if j.user = .loader then s.nvFinish .loader 0 else s
    | none => s
  let s2 := s1.setNv { s1.nv with wait := s1.nv.wait.filter (fun u => !(u == .loader)) }
  (s2.setLdr { s2.ldr with phase := .idle, img := none }).ldrShow

/-- A load begins: CHECK; a boot slot is read through NVS (R429). -/
def State.ldrStart (s : State) (target : Nat) (keep : Bool) (src addr : Nat) : State :=
  let s1 := (s.setLdr ⟨.check, target, keep, src, addr, none⟩).ldrShow
  if src = 1 then s1.nvSubmit .loader else s1

/-- A write of ENG0_LDRCMD (R315). -/
def State.ldrCommand (s : State) (v : Nat) : State :=
  let t := bitsOf v 4 4
  if ¬ bitOf v 0 then s
  else if s.ldr.phase ≠ .idle then s.ldrReject t 1 0
  else if 10 < t then s.ldrReject t 2 0
  else
    let src := bitsOf v 2 2
    s.ldrStart t (bitOf v 1) (if src = 3 then 0 else src) (s.rn W_ENG ENG_LDRADDR)

/-- What the loader reads: the image's bytes, with the state the reading leaves; none where the source holds no readable
image (R315). -/
def State.ldrRead (s : State) : Option (List Byte) × State :=
  if s.ldr.src = 1 then
    match s.bootEntry s.ldr.addr with
    | none => (none, s)
    | some (start, len, _, _) =>
      let (bad, s1) := State.nvCheckAll (rowsOf start len) s
      let ok : Bool := match s.nv.job with | some j => j.result == 0 | none => false
      (if bad || !ok then none else some (s.nvSees start len), s1)
  else
    let a := s.ldr.addr
    if a % 8 ≠ 0 ∨ sramSize < a + 64 then (none, s)
    else
      let (h, s0) := s.memLoad (SRAM + a + 0x18) 8
      let total := h / 2 ^ 32
      if sramSize < a + total then (none, s0)
      else
        let (bs, s1) := State.memTake (max 64 total) s0 (SRAM + a)
        (some bs, s1)

/-- R316 steps 1 and 2: the verdict on the image in check. -/
def State.ldrVerdict (s : State) : Except LFail Image × State :=
  if s.ldr.src = 2 then (if 3 < s.ldr.addr then .error (11, 0) else s.romCheck s.ldr.target s.ldr.addr, s)
  else
    match s.ldrRead with
    | (none, s1) => (.error (11, 0), s1)
    | (some bs, s1) => (s.lCheck s.ldr.target bs, s1)

/-! ### The boot's loads (R453) -/

/-- The source of a boot: SYS_BOOTSRC, or the straps. -/
def State.bootSource (s : State) : Nat :=
  if s.flag W_SYS SYS_BOOTSRC_OVR then s.get W_SYS SYS_BOOTSRC_SRC else s.get W_SYS SYS_STATE_STRAPS

/-- SYS_BOOTFAIL with its cause: 1 DIR, 2 SLOT, 3 SCRIPT (R453, R463). -/
def State.bootFail (s : State) (cause : Nat) : State := (s.stsField W_SYS SYS_STS_CAUSE 2 cause).raise 0 20

/-- The lowest-numbered boot slot marked for engine `k`. -/
def State.bootSlot (s : State) (k : Nat) : Option Nat :=
  (List.range 16).find? (fun i => match s.bootEntry i with | some (_, _, t, f) => t == k && bitOf f 0 | none => false)

/-- R456 step 7 ends: BOOTST = DONE, SYS_BOOTDONE; the end of a soft reset. Without a SUP image nothing holds the other
engines' START (R453). -/
def State.bootDone (s : State) : State :=
  let s1 := (((s.put W_SYS SYS_STATE_BOOTST 1).sts W_SYS SYS_STS 1).raise 0 19).setSys
    { s.sys with phase := .done, slot := none, supStart := s.sys.supStart && (s.eng 0).st != .empty }
  if s.sys.soft then ((s1.setSys { s1.sys with soft := false }).sts W_SYS SYS_STS 4).raise 0 23 else s1

/-- An engine that the boot source leaves without an image is EMPTY (R324). -/
def State.engEmpty (s : State) (k : Nat) : State :=
  if (s.eng k).st = .empty then s
  else
    let w := W_ENG + k
    (((s.modEng k (fun _ => Eng.reset k)).wr w ENG_IMGID 0).wr w ENG_IMGVER 0).wr w ENG_BOUND 0

/-- R453: the loads still to come, the first of which begins; an engine without a source is left EMPTY. -/
def State.bootNext : List Nat → State → State
  | [], s => (s.setSys { s.sys with toLoad := [] }).bootDone
  | k :: ks, s =>
    let src := s.get W_SYS SYS_STATE_SRCUSED
    let s1 := s.setSys { s.sys with toLoad := ks, slot := none }
    if src = 1 then s1.ldrStart k false 2 (profileOf k)
    else if src = 2 then State.bootNext ks (s1.engEmpty k)
    else
      match s.bootSlot k with
      | some i => (s1.setSys { s1.sys with slot := some i }).ldrStart k false 1 i
      | none => if src = 0 then s1.ldrStart k false 2 (profileOf k) else State.bootNext ks (s1.engEmpty k)

/-- A load of the boot has failed: a failing slot is recorded; under NV the stock image follows (R453). -/
def State.bootLoadFailed (s : State) (k : Nat) : State :=
  match s.sys.slot with
  | some i =>
    let s1 := ((s.bootFail 2).put W_SYS SYS_BOOTINFO_FAILSLOT i).setSys { s.sys with slot := none }
    if s.get W_SYS SYS_STATE_SRCUSED = 0 then s1.ldrStart k false 2 (profileOf k) else State.bootNext s.sys.toLoad (s1.engEmpty k)
  | none => State.bootNext s.sys.toLoad (s.engEmpty k)

/-! ### The target (R316, R317) -/

/-- Bytes into memory by list, without the check bits' read (a copy writes whole words). -/
def memCopy (l : List Host.Cell) : Nat → List Byte → List Host.Cell
  | _, [] => l
  | a, b :: bs => memCopy (sparsePut memDefault l a b) (a + 1) bs

/-- Steps 4 and 5 of R316 for RESTART and for a load: registers, stacks and unfired at-time entries cleared, START
pending, EST = IDLE. -/
def State.engStart (s : State) (k : Nat) : State :=
  s.modEng k (fun x =>
    { x with
      w := List.replicate 32 0, loops := [], calls := [], ats := [], atPrefix := none, st := .idle, haltReq := false,
      byReset := false, wait := .none, pc := 0
      pend := if x.pend.any (fun p => p.1 == 63) then x.pend else x.pend ++ [(63, 0)] })

/-- The consumer fields of the queues that an image binds, and of those it no longer binds (R316, R336). -/
def State.bindQueues (s : State) (k : Nat) (qs : List QBind) : State :=
  let old := (s.eng k).queues.filter (fun b => b.consume)
  let s1 := old.foldl (fun (t : State) b =>
    (t.put W_DMA (DMA_QCFG_CONS.up (qOff b.queue)) 0).put W_DMA (DMA_QCFG_CONSID.up (qOff b.queue)) 0) s
  (qs.filter (fun b => b.consume)).foldl (fun (t : State) b =>
    (t.put W_DMA (DMA_QCFG_CONS.up (qOff b.queue)) 2).put W_DMA (DMA_QCFG_CONSID.up (qOff b.queue)) k) s1

/-- The memories with an image's code and, unless the data memory is kept, its data copied in, zeros after them (R316 step 4). -/
def imageMem (mem : List Host.Cell) (k : Nat) (img : Image) (keep : Bool) : List Host.Cell :=
  let m1 := memCopy (sparseClear mem (engImem k) (engImem k + engMemSize k)) (engImem k) img.code
  if keep then m1 else memCopy (sparseClear m1 (engDmem k) (engDmem k + engMemSize k)) (engDmem k) img.data

/-- R316 step 4: the image is copied: instructions (a stock image's stay in ROM), and data unless KEEPDATA. -/
def State.engCopy (s : State) (k : Nat) (img : Image) (keep : Bool) : State :=
  let lo := engImem k
  let hi := if keep then engDmem k else engDmem k + engMemSize k
  let s1 := (s.setMem (imageMem s.mem k img keep)).setEcc (s.ecc.filter (fun e => !(decide (lo ≤ e.1 ∧ e.1 < hi))))
  let s2 := if keep then s1
    else
      let t := s1.modBlk k (fun _ => ⟨[], 0⟩)
      if profileOf k = 1 then t.modLp (k - 1) (fun _ => LpSt.reset) else if k = 0 then t.setSup SupSt.reset else t
  ((s2.bindQueues k img.queues).modEng k (fun x =>
    { x with hands := img.hands, hbounds := img.hbounds, queues := img.queues, waiting := img.waiting, rom := img.rom,
             profile := img.profile })).engStart k

/-- Whether a load of engine `k` is in progress. -/
def State.loading (s : State) (k : Nat) : Bool := s.ldr.phase != .idle && s.ldr.target == k

/-- R317: a write of ENGk_CMD, its bits acting in order; RUN resumes what a command has halted, not a reset (R324). -/
def State.engCommand (s : State) (k v : Nat) : State :=
  let x := s.eng k
  if x.st = .empty ∨ s.loading k then s
  else
    let s1 := if bitOf v 0 then
        (match x.st with
        | .idle => s.engHaltNow k
        | .busy => s.modEng k (fun y => { y with haltReq := true })
        | .waitq => s.modEng k (fun y => { y with haltReq := true })
        | _ => s)
      else s
    let s2 := if bitOf v 1 ∧ (s1.eng k).st = .halted ∧ ¬ (s1.eng k).byReset then
        s1.modEng k (fun y => { y with st := .idle })
      else s1
    if bitOf v 2 then
      (match x.wait with
      | .queue q => (s2.qUnhold q k).engStart k
      | _ => s2.engStart k)
    else s2

/-- What ENGk_STATE reads as (R325). -/
def State.engStateReg (s : State) (k : Nat) : Nat :=
  let x := s.eng k
  let c := match x.st with
    | .empty => 0 | .idle => 1 | .busy => 2 | .waitq => 3 | .held => 4 | .halted => 5 | .except => 6
  c + 8 * b2n x.waiting + 16 * x.profile + 2 ^ 8 * (x.evt % 64) + 2 ^ 16 * x.ats.length

/-- The event of a queue that an image consumes is pending while the queue holds an entry (R301, R302). -/
def State.queueLevel (s : State) (b : QBind) : Bool := b.consume && s.qEnabled b.queue && !s.qEmpty b.queue

/-- The queue events of engine `k` that are pending. -/
def State.queueEvents (s : State) (k : Nat) : List Nat :=
  ((s.eng k).queues.filter s.queueLevel).map (fun b => b.event)

/-- What ENGk_PEND shows: bit e for each pending event. -/
def State.engPendReg (s : State) (k : Nat) : Nat :=
  (List.range 64).foldl (fun v e =>
    if (s.eng k).pend.any (fun p => p.1 == e) ∨ (s.queueEvents k).contains e then v + 2 ^ e else v) 0

/-- R324: a block or soft reset of engine `k`: HALTED with cause RESET; memories and image record stay. -/
def State.engReset (s : State) (k : Nat) : State :=
  if (s.eng k).st = .empty then s
  else
    let s1 : State := match (s.eng k).wait with
      | .queue q => s.qUnhold q k
      | _ => s
    ((s1.engStart k).modEng k (fun x => { x with st := .halted, byReset := true, pend := [] })).put (W_ENG + k) ENG_STS_CAUSE 6

/-! ### The commands -/

/-- LOAD_CHECK_COMPLETE (R310, R315, R316): the loader ends its checks. -/
def execLoadCheckComplete (s : State) : Host.Outcome State Fault Refusal :=
  let ready : Bool := s.ldr.src != 1 || (match s.nv.job with | some j => j.user == .loader | none => false)
  .next (if s.ldr.phase ≠ .check ∨ ¬ ready then s
    else
      match s.ldrVerdict with
      | (.ok img, s1) =>
        let s2 := s1.ldrIdle
        (s2.setLdr { s1.ldr with phase := .wait, img := some img }).ldrShow
      | (.error (r, d), s1) =>
        let s2 := (s1.ldrReject s.ldr.target r d).ldrIdle
        if s.sys.phase = .loading then s2.bootLoadFailed s.ldr.target else s2)

/-- LOAD_TARGET_HOLD (R316): at the target's DONE, or at once while it runs no handler; SUP itself at once. -/
def execLoadTargetHold (s : State) : Host.Outcome State Fault Refusal :=
  let k := s.ldr.target
  let st := (s.eng k).st
  .next (if s.ldr.phase ≠ .wait ∨ (k ≠ 0 ∧ (st = .busy ∨ st = .waitq)) ∨ st = .waitq then s
    else ((s.modEng k (fun x => { x with st := .held })).setLdr { s.ldr with phase := .copy }).ldrShow)

/-- LOAD_COPY_COMPLETE (R316 steps 4 and 5). In a boot, the next engine's load follows, and after the last one BOOTST =
DONE (R456). -/
def execLoadCopyComplete (s : State) : Host.Outcome State Fault Refusal :=
  let k := s.ldr.target
  .next (match s.ldr.phase, s.ldr.img with
    | .copy, some img =>
      let w := W_ENG + k
      let s1 := (((s.engCopy k img s.ldr.keep).wr w ENG_IMGID img.imgId).wr w ENG_IMGVER img.imgVer).wr w ENG_BOUND
        (img.bound % 2 ^ 24)
      let s2 := ((s1.sts w ENG_STS 1).raise 15 0).sts W_ENG ENG_LDRSTS 1
      let s3 := (s2.put W_ENG ENG_LDRSTS_TARGET k).ldrIdle
      if s.sys.phase = .loading then
        let s4 := match s.sys.slot with
          | some _ => s3.put W_SYS SYS_BOOTINFO_FROMNV (putBits (s3.get W_SYS SYS_BOOTINFO_FROMNV) k 1 1)
          | none => s3
        State.bootNext s.sys.toLoad s4
      else s3
    | _, _ => s)

end Sys2Proof.Machine
end

