-- ==== Sys2Proof/Machine/GlRing.lean ====
section
/-!
DEFINITION. The ring (chapter 11) short of tunnelled accesses: formation and breaks, hop delays and ring time, bulk
tokens and credits, and what the cells of the timing and bulk classes do. The tunnel and the receiver are in
Machine/Guyline.lean.
-/

namespace Sys2Proof.Machine

/-! ### Ports and the ring's state -/

/-- Port `p`'s state beside its register. -/
def State.glPort (s : State) (p : Nat) : GlPort := lget GlPort.reset s.gl.ports p
def State.modPort (s : State) (p : Nat) (f : GlPort → GlPort) : State := s.setGl { s.gl with ports := lupd GlPort.reset s.gl.ports p f }

/-- LINK of port `p` becomes `v`; a change raises GL_PORT (R280). -/
def State.setLink (s : State) (p v : Nat) : State :=
  if s.glLink p = v then s else (s.put W_GL (GL_PORTA_LINK.up (glPortReg p)) v).glEvent 1

/-- LINKBADA or LINKBADB. -/
def linkBadFld (p : Nat) : Fld := if p = 0 then GL_STATE_LINKBADA else GL_STATE_LINKBADB

/-- RSTATE becomes `v`; every change raises GL_RING (R273). -/
def State.setRstate (s : State) (v : Nat) : State :=
  if s.rstate = v then s else (s.put W_GL GL_STATE_RSTATE v).glEvent 0

/-- o as GL_OFS reports it; none reads as its invalid code (R283). -/
def State.putOfs (s : State) (o : Option Int) : State :=
  s.putPair W_GL GL_OFS_LO (match o with | some v => ofSigned 64 (satSigned 64 v) | none => 2 ^ 63)

/-- The member is no longer joined (R264, R273, R275). -/
def State.glUnjoin (s : State) : State :=
  let s1 := ((s.put W_GL GL_STATE_JOINED 0).put W_GL GL_STATE_ALIGNED 0).put W_GL GL_STATE_ALIGNHOLD 0
  (s1.putOfs none).setGl { s1.gl with jumpRun := 0, okSince := none, lastAt := none, absSum := 0, absN := 0 }

/-- R273: the state that the broken hops leave this member in: whole, or reaching the anchor one way, or not. -/
def State.glReachState (s : State) : Nat :=
  let n := s.get W_GL GL_STATE_NMEM
  let k := s.get W_GL GL_STATE_HOPS
  let b := s.gl.broken
  if b = 0 then 2
  else if (List.range k).all (fun h => !bitOf b h) ∨
      ((List.range n).filter (fun h => decide (k ≤ h))).all (fun h => !bitOf b h) then 3
  else 4

/-- R273, R275: hop `h` of a ring once formed is broken or carries time again (log entry 61). -/
def State.glHop (s : State) (h : Nat) (bad : Bool) : State :=
  if s.rstate < 2 then s
  else
    let s1 := (s.setGl { s.gl with broken := putBits s.gl.broken h 1 (b2n bad) })
    let st := s1.glReachState
    let s2 := if st = 4 ∧ s.rstate ≠ 4 then s1.glUnjoin else s1
    s2.setRstate st

/-- The hop behind port `p` of this member. -/
def State.glHopOf (s : State) (p : Nat) : Nat :=
  let n := max 1 (s.get W_GL GL_STATE_NMEM)
  let k := s.get W_GL GL_STATE_HOPS
  if p = 0 then k else (k + n - 1) % n

/-- The member that a cell leaving through port `q` reaches next. -/
def State.glNext (s : State) (q : Nat) : Nat :=
  let n := max 1 (s.get W_GL GL_STATE_NMEM)
  let k := s.get W_GL GL_STATE_HOPS
  s.glAtPos (if q = 0 then (k + 1) % n else (k + n - 1) % n)

/-- What the news of a hop says of it: it carries time, it is broken, or nothing (log entry 61). -/
def NEWS_GOOD : Nat := 0
def NEWS_BAD : Nat := 1
def NEWS_MASK : Nat := 2

/-- The news of hop `h`, broadcast in a DISC cell with the hops that this member knows to be broken and its position (log
entry 61). -/
def State.glNews (s : State) (h code : Nat) : State :=
  if s.rstate < 2 then s
  else s.glBroadcast GL_DISC
    [2, BitVec.ofNat 8 h, BitVec.ofNat 8 code, BitVec.ofNat 8 s.gl.broken, BitVec.ofNat 8 (s.get W_GL GL_STATE_HOPS)]

/-- Hop number `i` from the member at position `pos` on, away from hop `h`, of a ring of `n`. -/
def hopAway (n h pos i : Nat) : Nat := if pos = h then (pos + 2 * n - 1 - i) % n else (pos + i) % n

/-- R275, log entry 61: the hops broken here after news of hop `h` from the member at position `pos` with mask `mask`: from
that member on, away from hop `h`, up to and with its first broken hop, its word counts. -/
def mergeBroken (n h pos mask : Nat) : Nat → Nat → Nat → Nat
  | _, 0, b => b
  | i, left + 1, b =>
    let x := hopAway n h pos i
    let b1 := putBits b x 1 (b2n (bitOf mask x))
    if bitOf mask x then b1 else mergeBroken n h pos mask (i + 1) left b1

/-- News of hop `h` received (R273, R275). -/
def State.glNewsRx (s : State) (h code mask pos : Nat) : State :=
  let n := max 1 (s.get W_GL GL_STATE_NMEM)
  let b := mergeBroken n h (pos % n) mask 0 (n - 1) s.gl.broken
  let s1 := if s.rstate < 2 then s else s.setGl { s.gl with broken := b }
  s1.glHop h (if code = NEWS_MASK then bitOf b h else code == NEWS_BAD)

/-! ### What the stock supervisor does for the ring -/

/-- SUP runs its stock image. -/
def State.stockSup (s : State) : Bool :=
  let x := s.eng 0
  x.rom == some 0 && !(x.st == .empty || x.st == .halted || x.st == .except)

/-- A write of TB_MODE and of TB_STEER, which waits for its tick (R195, R196). -/
def State.tbModeWrite (s : State) (v : Nat) : State := (s.wr W_TB TB_MODE (v % 2)).tbGrant (.mode (v % 2 = 1))
def State.tbSteerWrite (s : State) (v : Nat) : State := (s.wr W_TB TB_STEER (v % 4)).tbGrant (.steer (v % 4))

/-- The port through which this member looks to the anchor: GLB, to upstream, but GLA where an open ring is broken on that
path (R262, R272; log entry 61). -/
def State.glTimePort (s : State) : Nat :=
  let whole := if s.glAnchor then s.glWhole (s.glHopOf 1) 1 else s.glWhole 0 (s.get W_GL GL_STATE_HOPS)
  if s.rstate = 3 ∧ ¬ whole then 0 else 1

/-- R272 step 5: the stock supervisor puts the timebase into ring format, and a member's steering on RING, once the hop to
upstream is past MEASURING. -/
def State.supRing (s : State) : State :=
  if s.stockSup ∧ s.formed ∧ s.glLink s.glTimePort = 2 then
    let s1 := if s.flag W_TB TB_MODE_MODE then s else s.tbModeWrite 1
    if s.glAnchor ∨ s1.get W_TB TB_STEER_STEER = 2 then s1 else s1.tbSteerWrite 2
  else s

/-! ### Formation (R272) -/

/-- The bytes of member IDs. -/
def idBytes (l : List Nat) : List Byte := l.map (fun i => BitVec.ofNat 8 i)

/-- FORM on the anchor: FORMING, and DISC cells both ways. -/
def State.glForm (s : State) : State :=
  if ¬ s.glOn ∨ ¬ s.glAnchor then s
  else
    let s1 := (s.setRstate 1).setGl { s.gl with discDn := [], discUp := [], okSince := some s.tb.c }
    let p := [0, 1] ++ idBytes [s.glId]
    (s1.glSend 0 GL_DISC 0 p).glSend 1 GL_DISC 0 p

/-- The member table in force: `ids` in the order of positions, the broken hops, RSTATE. -/
def State.glTable (s : State) (ids : List Nat) (broken st : Nat) : State :=
  let n := ids.length
  let present := ids.foldl (fun v i => if bitOf v i then v else v + 2 ^ i) 0
  let members := (List.range n).foldl (fun v p => if p = 0 then v else v + lget 0 ids p * 2 ^ (3 * p + 5)) present
  let cred := max 1 (s.get W_GL GL_CFG_CRED)
  let s1 := ((s.wr W_GL GL_MEMBERS members).put W_GL GL_STATE_NMEM n).put W_GL GL_STATE_HOPS (ids.idxOf s.glId)
  let s2 := s1.setGl { s1.gl with
    broken := broken
    credits := List.replicate 8 cred
    owed := List.replicate 8 0
    ports := (List.range 2).map (fun p =>
      { (s.glPort p) with everUp := s.glUp p, bad := [], downAt := if s.glUp p then none else some s.tb.c, est := none })
    okSince := none }
  let s3 := if (s2.rstate = 2 ∨ s2.rstate = 3) ∧ s2.flag W_GL GL_STATE_JOINED then s2 else s2.glUnjoin
  s3.setRstate st

/-- Step 4: the table is broadcast, the tokens are created. -/
def State.glFormed (s : State) (ids : List Nat) (broken st : Nat) : State :=
  if ids.eraseDups.length < ids.length then (s.setRstate 0).glEvent 4
  else
    let s1 := (s.glTable ids broken st).glBroadcast GL_DISC
      ([1, BitVec.ofNat 8 st, BitVec.ofNat 8 ids.length, BitVec.ofNat 8 broken] ++ idBytes ids)
    (s1.setGl { s1.gl with tokens := [some (s.tb.c, 0), some (s.tb.c, 0)], tokSeen := [s.tb.c, s.tb.c] }).supRing

/-- Step 3 without a return: what was reported downstream and upstream makes the table of an open ring. -/
def State.glFormedOpen (s : State) : State :=
  let dn := s.gl.discDn
  let up := s.gl.discUp
  s.glFormed ([s.glId] ++ dn ++ up.reverse) (2 ^ dn.length) 3

/-- The IDs in a payload from byte `i`, `n` of them. -/
def idsAt (pl : List Byte) (i n : Nat) : List Nat := ((pl.drop i).take n).map (fun b => b.toNat % 8)

/-- A DISC cell received at port `p`: 0 discovery, 1 table, 2 news of a hop, 3 a report to the anchor (log entry 41). -/
def State.glDisc (s : State) (p : Nat) (pl : List Byte) : State :=
  let b (i : Nat) : Nat := (lget 0 pl i).toNat
  match b 0 with
  | 0 =>
    let ids := idsAt pl 2 (b 1)
    if s.glAnchor ∧ s.rstate = 1 then s.glFormed (if p = 1 then ids else [s.glId] ++ (ids.drop 1).reverse) 0 2
    else if s.glAnchor ∧ (s.formed ∨ 1 < ids.count 0) then s
    else
      let s1 := if p = 1 then s.put W_GL GL_STATE_HOPS (b 1) else s
      let all := ids ++ [s.glId]
      if 8 < all.length then s1
      else if s1.glUp (1 - p) then s1.glSend (1 - p) GL_DISC 0 ([0, BitVec.ofNat 8 all.length] ++ idBytes all)
      else s1.glSend p GL_DISC 0 ([3, BitVec.ofNat 8 (1 - p), BitVec.ofNat 8 (all.length - 1)] ++ idBytes (all.drop 1))
  | 1 =>
    let ids := idsAt pl 4 (b 2)
    if s.glAnchor ∨ ¬ ids.contains s.glId then s else (s.glTable ids (b 3) (b 1 % 8)).supRing
  | 2 => s.glNewsRx (b 1 % 8) (b 2) (b 3) (b 4)
  | _ =>
    let ids := idsAt pl 3 (b 2)
    if ¬ s.glAnchor ∨ s.rstate ≠ 1 then s
    else if b 1 = 0 then s.setGl { s.gl with discDn := ids }
    else s.setGl { s.gl with discUp := ids }

/-- R272, R319: the stock supervisor of the anchor, with AUTOFORM set, writes FORM once both ports are UP. -/
def State.supForm (s : State) : State :=
  if s.stockSup ∧ bitOf (lget 0 (s.blk 0).bytes 0x14).toNat 0 ∧ s.glAnchor ∧ s.rstate = 0 ∧ s.glUp 0 ∧ s.glUp 1 then
    s.glForm
  else s

/-! ### Ports (R272 to R274) -/

/-- R273: port `p` goes DOWN. -/
def State.glDown (s : State) (p : Nat) : State :=
  if s.glLink p < 2 then s.setLink p 0
  else
    let s1 := (s.setLink p 0).modPort p (fun x => { x with downAt := some s.tb.c, measEnd := none, bad := [], est := none })
    let s2 := if p = 0 then s1.setGl { s1.gl with ds := [], t1 := none, initAt := none }
      else s1.setGl { s1.gl with time := none }
    let s3 := (s2.setGl { s2.gl with tx := s2.gl.tx.filter (fun x => x.port != p) }).wr W_GL (GL_HOPA + 4 * p) (2 ^ 32 - 1)
    let h := s3.glHopOf p
    (s3.glHop h true).glNews h NEWS_BAD

/-- Both ports lose their links (R282). -/
def State.glDropAll (s : State) : State :=
  let s1 := ((s.setLink 0 0).setLink 1 0).setRstate 0
  let s2 := ((s1.glUnjoin).put W_GL GL_STATE_LINKBADA 0).put W_GL GL_STATE_LINKBADB 0
  s2.setGl { GlSt.reset with tun := s.gl.tun, tunWait := s.gl.tunWait, tag := s.gl.tag }

/-- GL_CTL has been written over `old`: ENABLE powers the ports, which train, or drops them. -/
def State.glCtlWritten (s : State) (old : Nat) : State :=
  if s.glOn ∧ ¬ bitOf old 0 then (s.setLink 0 1).setLink 1 1
  else if ¬ s.glOn ∧ bitOf old 0 then s.glDropAll
  else s

/-- GL_PORT_UP (R272). -/
def execGlPortUp (p : Port) (s : State) : Host.Outcome State Fault Refusal :=
  .next (if ¬ s.glOn ∨ s.glUp p then s
    else
      let s1 := (s.setLink p 3).modPort p (fun x =>
        { x with downAt := none, everUp := true, bad := [], measEnd := some (s.after secU) })
      let s2 := s1.put W_GL (linkBadFld p) 0
      let s3 := if p.val = 0 then s2.setGl { s2.gl with ds := [], t1 := none, initAt := none } else s2
      s3.supForm)

/-- GL_MEASURING_END (R272, R275). -/
def execGlMeasuringEnd (p : Port) (s : State) : Host.Outcome State Fault Refusal :=
  let ready : Bool := match (s.glPort p).measEnd with
    | none => false
    | some d => s.due d
  .next (if s.glLink p = 3 ∧ ready then
      let s1 := (s.setLink p 2).modPort p (fun x => { x with measEnd := none })
      let h := s1.glHopOf p
      let s2 :=
        if ¬ bitOf s1.gl.broken h then s1
        else if s1.glNext p = 0 ∧ ¬ s1.glAnchor then s1.glNews h NEWS_MASK
        else (s1.glHop h false).glNews h NEWS_GOOD
      (s2.supForm).supRing
    else s)

/-- GL_PORT_DOWN (R273). -/
def execGlPortDown (p : Port) (s : State) : Host.Outcome State Fault Refusal := .next (if s.glOn then s.glDown p else s)

/-- LINKFLT in TB units as it acts. -/
def State.linkFlt (s : State) : Nat := max 1 (s.get W_GL GL_CFG_LINKFLT) * 10 * msU

/-- GL_LINK_FAULT (R274). -/
def execGlLinkFault (p : Port) (s : State) : Host.Outcome State Fault Refusal :=
  let x := s.glPort p
  let long : Bool := match x.downAt with
    | none => false
    | some c => decide ((s.linkFlt : Int) ≤ signedDiff 96 s.tb.c c)
  .next (if s.glOn ∧ 2 ≤ s.rstate ∧ s.glLink p < 2 ∧ x.everUp ∧ long ∧ ¬ s.flag W_GL (linkBadFld p) then
      ((s.put W_GL (linkBadFld p) 1).sts W_GL GL_STS (2 ^ 11)).fault W_GL K_GL_LINK (regAddr W_GL (GL_PORTA + glPortReg p))
    else s)

/-- GL_FORM's part beside the register: R272, and REJOIN's: R264. -/
def State.glCmd (s : State) (v : Nat) : State :=
  let s1 := if bitOf v 0 then s.glForm else s
  if bitOf v 1 ∧ s1.flag W_GL GL_STATE_ALIGNHOLD then s1.glUnjoin else s1

/-- DISC_RETURN_DEADLINE (R272): 50 µs after FORM without a return. -/
def execDiscReturnDeadline (s : State) : Host.Outcome State Fault Refusal :=
  let ready : Bool := match s.gl.okSince with
    | none => false
    | some c => s.due ((c + 50 * usU) % 2 ^ 96)
  .next (if s.glOn ∧ s.glAnchor ∧ s.rstate = 1 ∧ ready then s.glFormedOpen else s)

/-! ### Hop delay and ring time (R259 to R266) -/

/-- The code for none in GL_HOPx and GL_LANEx. -/
def glNone : Nat := 2 ^ 32 - 1

/-- The local timebase time at which C read `c`. -/
def State.nowAt (s : State) (c : Nat) : Nat := ({ s.tb with c := c }).now

/-- The payload of a TIME cell that leaves at count `dep` (R259). -/
def State.glTimePayload (s : State) (init : Bool) (echo dep : Nat) : List Byte :=
  let lane := s.rn W_GL (if init then GL_LANEA else GL_LANEB)
  let path := s.formed && (s.glAnchor || s.flag W_GL GL_STATE_JOINED)
  let fl := b2n init + 2 * b2n (s.flag W_GL GL_STATE_ALIGNED) + 4 * b2n path + 8 * b2n (lane != glNone)
  leBytes 12 dep ++ leBytes 12 echo ++ leBytes 12 (s.nowAt dep % 2 ^ 96) ++ leBytes 2 s.tb.epoch ++
    [BitVec.ofNat 8 fl, BitVec.ofNat 8 (s.syeTxRank 20 + s.get W_GL GL_STATE_HOPS * 2 ^ 4)] ++
    leBytes 4 (if init then s.rn W_GL GL_HOPA else 0) ++ leBytes 4 lane ++ leBytes 4 (s.rn W_GL GL_CLOS)

/-- A TIME cell waits for the next timing slot of port `p`, before any other cell; its payload is formed as it leaves
(R259). -/
def State.glTimeTx (s : State) (p : Nat) (init : Bool) (echo : Nat) : State :=
  (s.setGl { s.gl with tx :=
    ⟨p, glHeader GL_TIME false s.glId 0 (lget 0 s.gl.seqs GL_TIME) 0 0, [], true, some (init, echo)⟩ :: s.gl.tx }).glNextSeq
    GL_TIME

/-- GL_TIME_INITIATION (R259): every 1 ms on an UP GLA. -/
def execGlTimeInitiation (s : State) : Host.Outcome State Fault Refusal :=
  let ready : Bool := match s.gl.initAt with
    | none => true
    | some c => s.due ((c + msU) % 2 ^ 96)
  .next (if s.glOn ∧ s.glUp 0 ∧ ready then (s.setGl { s.gl with initAt := some s.tb.c }).glTimeTx 0 true 0 else s)

/-- A number in a payload. -/
def numAt (pl : List Byte) (i n : Nat) : Nat := leNat ((pl.drop i).take n)

/-- R259: one exchange at GLA: the one-way delay enters the mean of the last 1,000. -/
def State.glExchange (s : State) (pl : List Byte) (t4 : Nat) : State :=
  match s.gl.t1 with
  | none => s
  | some t1 =>
    let rt := signedDiff 96 t4 t1 - signedDiff 96 (numAt pl 0 12) (numAt pl 12 12)
    let la := s.rn W_GL GL_LANEA
    let lb := numAt pl 44 4
    let d := if la = glNone ∨ lb = glNone then quotFree rt 2 else quotFree (rt + la - lb) 2
    let ds := (d :: s.gl.ds).take 1000
    let s1 := s.setGl { s.gl with ds := ds, t1 := none }
    if ds.length = 1000 then s1.wr W_GL GL_HOPA (fit32 (quotFree (ds.foldl (· + ·) 0) 1000)) else s1

/-- The bandwidth of alignment in µHz and its slope limit in tenths of ns/s, as they act (R261). -/
def State.glBw (s : State) : Nat := min 5000 (max 1 (s.get W_GL GL_SERVO_GLBW)) * 10000
def State.glSlope (s : State) : Nat := max 1 (s.get W_GL GL_SERVO_GLSLOPE) * 10

/-- R263: |o| enters the mean over 100 ms; a mean judged at its end keeps or starts the good time, or ends alignment. -/
def State.glMean (s : State) (o : Int) : State :=
  let u := 100 * msU
  let i := s.tb.c / u
  let g := s.gl
  if i = g.absIdx ∨ g.absN = 0 then
    s.setGl { g with absIdx := i, absSum := g.absSum + o.natAbs, absN := g.absN + 1 }
  else
    let m := quotFree (g.absSum * 1000) g.absN
    let thr : Int := max 1 (s.get W_GL GL_THR_ALIGNTHR) * 16384
    let s1 := s.setGl { g with
      absIdx := i, absSum := o.natAbs, absN := 1
      okSince := if m ≤ thr then g.okSince.or (some (g.absIdx * u)) else none }
    if 2 * thr < m then s1.put W_GL GL_STATE_ALIGNED 0 else s1

/-- R261, R264: a joined member's sample. -/
def State.glSample (s : State) (o : Int) : State :=
  let g := s.gl
  let run := if max 1 (s.get W_GL GL_THR_GLJUMP) * 65536 < o.natAbs then g.jumpRun + 1 else 0
  let s1 := ((s.putOfs (some o)).setGl { g with jumpRun := run }).glMean o
  let rateI (i : Int) : Int := quotFree i (2 ^ 4)
  if s.flag W_GL GL_STATE_ALIGNHOLD then s1
  else if 3 ≤ run then ((s1.put W_GL GL_STATE_ALIGNHOLD 1).tbAlign 0 (rateI g.i)).glEvent 3
  else
    let wn := loopWn s.glBw 256
    let e := -o * 2 ^ 16
    let i := match g.lastAt with
      | none => g.i
      | some c => g.i + loopI wn (signedDiff 96 s.tb.c c).toNat e
    let lim := slopeWord s.glSlope
    let p := clampInt (-lim) lim (loopP wn 256 e)
    (s1.setGl { s1.gl with i := i, lastAt := some s.tb.c }).tbAlign 0 (rateI i + p * 2 ^ 12)

/-- R264: the first alignment, a step of the offset to the anchor's time under the anchor's epoch. -/
def State.glFirst (s : State) (o : Int) (epoch : Nat) : State :=
  let s1 := ((s.tbAlign o s.tb.rate).tbStepped o epoch).put W_GL GL_STATE_JOINED 1
  (s1.putOfs (some o)).setGl { s1.gl with
    i := s.tb.rate * 2 ^ 4, lastAt := some s.tb.c, jumpRun := 0, absSum := 0, absN := 0, okSince := none
    ports := s1.gl.ports.map (fun x => { x with est := none }) }

/-- R262: the alignment offset once a cell has given `est` at a port: with the estimate of both ports in a closed ring, else
that estimate alone. -/
def State.glOffset (s : State) (est : Int) : Int :=
  match (s.glPort 1).est, (s.glPort 0).est with
  | some dn, some up =>
    if s.rstate = 2 then
      let k : Int := s.get W_GL GL_STATE_HOPS
      let n : Int := s.get W_GL GL_STATE_NMEM
      quotFree (dn + up - (2 * k - n) * s.ri W_GL GL_CLOS) 2
    else est
  | _, _ => est

/-- R261 to R264: a TIME cell of the anchor's path has given `est` at port `p`; in an open ring only the port on the path
to the anchor counts. -/
def State.glAlign (s : State) (p : Nat) (est : Int) (epoch : Nat) : State :=
  if ¬ s.tb.ring ∨ s.tb.steer ≠ 2 ∨ (s.rstate = 3 ∧ p ≠ s.glTimePort) then s
  else if ¬ s.flag W_GL GL_STATE_JOINED then s.glFirst est epoch
  else if epoch ≠ s.tb.epoch then s
  else
    let s1 := s.modPort p (fun x => { x with est := some est })
    s1.glSample (s1.glOffset est)

/-- R262: the anchor's closure residual, shared out to the members. -/
def State.glClosure (s : State) (r : Int) : State :=
  s.wr W_GL GL_CLOS (if s.rstate = 2 then fit32 (quotFree r (max 1 (s.get W_GL GL_STATE_NMEM) : Nat)) else 0)

/-- R266: the rank that SRC20 publishes. -/
def State.glRank (s : State) (r : Nat) : State :=
  if s.gl.rank = r then s else (s.setGl { s.gl with rank := r }).rankChanged

/-- R259 to R266: a TIME cell received at port `p`, at count `arr`. -/
def State.glTimeRx (s : State) (p : Nat) (pl : List Byte) (arr : Nat) : State :=
  let fl := numAt pl 38 1
  let init := bitOf fl 0
  let rtime := numAt pl 24 12
  let epoch := numAt pl 36 2
  let rk := numAt pl 39 1 % 16
  if (p = 1) ≠ init then s
  else
    let s1 := if p = 0 then s.glExchange pl arr
      else
        let t := (s.wr W_GL GL_HOPB (numAt pl 40 4)).glTimeTx 1 false arr
        let d := numAt pl 40 4
        ((t.setGl { t.gl with
          rankAt := some s.tb.c, time := if d = glNone then none else some (rtime, d, arr) }).glRank rk)
    let d := s1.rn W_GL (if p = 0 then GL_HOPA else GL_HOPB)
    if d = glNone ∨ ¬ bitOf fl 2 ∨ ¬ s1.formed ∨ s1.glLink p ≠ 2 then s1
    else
      let o := signedDiff 96 ((rtime + d) % 2 ^ 96) (s.nowAt arr % 2 ^ 96)
      if s1.glAnchor then (if p = 1 then s1.glClosure o else s1)
      else
        let s2 := if p = 1 then s1.wr W_GL GL_CLOS (if s1.rstate = 2 then numAt pl 48 4 else 0) else s1
        s2.glAlign p o epoch

/-- GL_ALIGNED_CHECK (R263). -/
def execGlAlignedCheck (s : State) : Host.Outcome State Fault Refusal :=
  let long : Bool := match s.gl.okSince with
    | none => false
    | some c => decide ((secU : Int) ≤ signedDiff 96 s.tb.c c)
  .next (if s.flag W_GL GL_STATE_JOINED ∧ ¬ s.flag W_GL GL_STATE_ALIGNED ∧ long then
      (s.put W_GL GL_STATE_ALIGNED 1).glEvent 2
    else s)

/-- GL_LANE_RANGING_RESULT (R260): the sampler's result for the transmit lane of port `p`: the delay in TB units where a
reflection was found, Γ in 2^-16. -/
def execGlLaneRangingResult (p : Port) (tau : Option Nat) (gam : Int) (s : State) : Host.Outcome State Fault Refusal :=
  .next (if ¬ s.glOn ∨ ¬ s.flag W_GL GL_CTL_LRANGE then s
    else
      let r := echoClass tau gam
      let reg := glPortReg p
      let s1 := (s.put W_GL (GL_PORTA_LRSTAT.up reg) r.code).put W_GL (GL_PORTA_GAMMA.up reg)
        (ofSigned 8 (clampInt (-128) 127 (quotFree (gam * 128) 65536)))
      s1.wr W_GL (GL_LANEA + 4 * p) (if r = .ok then tau.getD 0 % 2 ^ 32 else glNone))

/-- SRC20_RANK_TIMEOUT (R266). -/
def execSrc20RankTimeout (s : State) : Host.Outcome State Fault Refusal :=
  .next (match s.gl.rankAt with
    | none => s
    | some c => if s.due ((c + 10 * msU) % 2 ^ 96) then
        (s.setGl { s.gl with rankAt := none }).glRank 15
      else s)

/-! ### Timing-class messages (R265, R267, R279) -/

/-- R265: a member adds the anchor's step and takes its epoch. -/
def State.glStepRx (s : State) (pl : List Byte) : State :=
  if s.glAnchor ∨ ¬ s.formed ∨ ¬ s.tb.ring then s
  else
    let a := toSigned 96 (numAt pl 0 12)
    let s1 := (s.setTb (s.tb.move a)).tbStepped a (numAt pl 12 2)
    s1.setGl { s1.gl with ports := s1.gl.ports.map (fun x => { x with est := none }) }

/-- R168, R176, R205, R210: a sync-at-time message at its user. -/
def State.glSyncAt (s : State) (pl : List Byte) : State :=
  let t := numAt pl 2 12
  let g := numAt pl 1 1
  match numAt pl 0 1 with
  | 0 => s.syncRingArm t
  | 1 => s.srRingStart (g % 4) t
  | 2 => s.tevRingArm (g % 16) t
  | 3 => s.snapRing t
  | _ => s

/-- R279: a forwarded record. -/
def State.glFaultRx (s : State) (src : Nat) (pl : List Byte) : State :=
  let v := numAt pl 0 16
  let s1 := (s.putPair W_GL GL_RFLT_W0 (v % 2 ^ 64)).putPair W_GL GL_RFLT_W2 (v / 2 ^ 64)
  let s2 := ((s1.put W_GL GL_RFMEM_MEMBER src).put W_GL GL_RFMEM_COUNT (s.get W_GL GL_RFMEM_COUNT + 1)).glEvent 6
  if s.flag W_GL GL_CTL_RFLTIN then s2.fault W_GL K_GL_REMOTE src else s2

/-! ### Bulk (R269, R270) -/

/-- The token held in direction `d` (0 downstream, which leaves through GLA; 1 upstream). -/
def State.glTokenOf (s : State) (d : Nat) : Option (Nat × Nat) := lget none s.gl.tokens d
def State.setToken (s : State) (d : Nat) (v : Option (Nat × Nat)) : State :=
  s.setGl { s.gl with tokens := lput none s.gl.tokens d v }

/-- The token of direction `d` arrives. -/
def State.glTokenIn (s : State) (d : Nat) : State :=
  (s.setToken d (some (s.tb.c, 0))).setGl { (s.setToken d (some (s.tb.c, 0))).gl with
    tokSeen := lput 0 s.gl.tokSeen d s.tb.c }

/-- BURST as it acts. -/
def State.glBurst (s : State) : Nat := max 1 (s.get W_GL GL_CFG_BURST)

/-- The oldest entry waiting for direction `d`. -/
def State.glReady (s : State) (d : Nat) : Option BulkCell := s.gl.ready.find? (fun b => s.glDir b.member == d)

/-- R269: whether the token of direction `d` passes with the next cell: BURST cells inserted, or none ready. -/
def State.glTokenLeaves (s : State) (d : Nat) : Bool :=
  match s.glTokenOf d with
  | none => false
  | some (_, k) => decide (s.glBurst ≤ k) || (s.glReady d).isNone

/-- The kinds of slot (R257): slot 0 of a frame of eight is a timing slot, slot 4 a control slot, the others bulk slots. -/
inductive SlotKind
  | timing | control | bulk
  deriving DecidableEq, Repr

def slotKind (n : Nat) : SlotKind := if n % 8 = 0 then .timing else if n % 8 = 4 then .control else .bulk

/-- The slots that a class takes (R256); an IDLE cell takes any. -/
def slotTakes (k : SlotKind) (cls : Nat) : Bool :=
  cls == GL_IDLE || (match k with
    | .timing => decide (GL_TIME ≤ cls ∧ cls ≤ GL_STEP)
    | .control => cls == GL_TUNREQ || cls == GL_TUNRSP || cls == GL_DISC
    | .bulk => cls == GL_BULK)

/-- The fields of a header (R256). -/
def hCls (h : Nat) : Nat := bitsOf h 8 4
def hToken (h : Nat) : Bool := bitOf h 12
def hBcast (h : Nat) : Bool := bitOf h 13
def hSrc (h : Nat) : Nat := bitsOf h 14 3
def hDst (h : Nat) : Nat := bitsOf h 17 3
def hSeq (h : Nat) : Nat := bitsOf h 20 8
def hCrdst (h : Nat) : Nat := bitsOf h 28 3
def hCrcnt (h : Nat) : Nat := bitsOf h 31 4

/-- R269: the next entry for direction `d` becomes a BULK cell where this member holds its token. -/
def State.glInsertBulk (s : State) (d : Nat) : State :=
  match s.glTokenOf d, s.glReady d with
  | some (c, k), some b =>
    (((s.setGl { s.gl with ready := s.gl.ready.erase b }).setToken d (some (c, k + 1))).glEmit d GL_BULK false b.member
      ([BitVec.ofNat 8 b.queue, 0, 0, 0] ++ leBytes 32 b.entry.toNat)).glNextSeq GL_BULK
  | _, _ => s

/-- The departure count of a TIME cell of port `p` (R259): the stamp point's TDC code and what R221 adds to the parallel-clock
edge are free (log entry 62). -/
def State.glDeparture (s : State) (p : Nat) : Nat × State :=
  let (f, t) := s.takeFree
  ((t.tdcCount (34 + p) (f % 2048) + f / 2048) % 2 ^ 96, t)

/-- Cell `x` leaves, with the token of its direction or without. -/
def State.glLeave (s : State) (x : GlTx) (token : Bool) : State :=
  match x.time with
  | none => s.emit (.glCell x.port (glSeal x.header token) x.payload)
  | some (init, echo) =>
    let (dep, s1) := s.glDeparture x.port
    let s2 := if init then s1.setGl { s1.gl with t1 := some dep } else s1
    s2.emit (.glCell x.port (glSeal x.header token) (glPayload (s2.glTimePayload init echo dep)))

/-- An IDLE cell fills a slot (R257): with the token, or empty; the model does not list an empty one (log entry 41). -/
def State.glIdleCell (s : State) (p : Nat) (token : Bool) : State :=
  let t := if token then
      s.glLeave ⟨p, glHeader GL_IDLE false s.glId (s.glNext p) (lget 0 s.gl.seqs GL_IDLE) 0 0, glPayload [], false, none⟩ true
    else s
  t.glNextSeq GL_IDLE

/-- The oldest cell waiting at port `p` that a slot of kind `k` takes, an IDLE cell or one of another class. -/
def State.glWaiting (s : State) (k : SlotKind) (p : Nat) (idle : Bool) : Option GlTx :=
  s.gl.tx.find? (fun x => x.port == p && slotTakes k (hCls x.header) && (hCls x.header == GL_IDLE) == idle)

/-- One slot of kind `k` at port `p`: the oldest cell of its kind; in a bulk slot then an entry of this member; else an IDLE
cell. The token leaves with it where it must (R257, R258, R269). -/
def State.glSlot (s : State) (k : SlotKind) (p : Nat) : State :=
  let token := s.glTokenLeaves p
  let s1 := if token then s.setToken p none else s
  let s2 := if k = .bulk ∧ (s1.glWaiting k p false).isNone then s1.glInsertBulk p else s1
  match (s2.glWaiting k p false).or (s2.glWaiting k p true) with
  | some x => (s2.setGl { s2.gl with tx := s2.gl.tx.erase x }).glLeave x token
  | none => s2.glIdleCell p token

/-- A token whose port is DOWN turns round, at an end of an open ring (log entry 62). -/
def State.glTurn (s : State) (p : Nat) : State :=
  if (s.glTokenOf p).isSome ∧ (s.glTokenOf (1 - p)).isNone then (s.setToken p none).glTokenIn (1 - p) else s

/-- The number of the cell slot of this instant: a cell lasts 57.6 ns (R256). -/
def State.glSlotNow (s : State) : Nat := s.tb.c * 5 / 18874368

/-- Both ports' slots, once a new one begins (R257). -/
def State.glSlots (s : State) : State :=
  let n := s.glSlotNow
  if n = s.gl.slotAt then s
  else
    (List.range 2).foldl (fun (t : State) p => if t.glUp p then t.glSlot (slotKind n) p else t.glTurn p)
      (s.setGl { s.gl with slotAt := n })

/-- R270: a received entry that its queue takes: enqueued, or dropped and counted, under that queue's mode; its credit is
then owed to its sender. A full STALL queue holds it. -/
def State.glDeliver (s : State) (b : BulkCell) : State :=
  let q := b.queue
  if s.qEnabled q ∧ s.qMode q = .stall ∧ s.qFull q then s
  else
    let s1 := s.setGl { s.gl with rx := s.gl.rx.erase b, owed := lupd 0 s.gl.owed b.member (fun v => v + 1) }
    if s.qEnabled q then (s1.qPutEngine q b.entry false).2 else s1.qDrop q 1

/-- Every entry received that can leave. -/
def State.glDeliverAll (s : State) : State := s.gl.rx.foldl State.glDeliver s

/-- R270: credits go back in a header, here that of an IDLE cell, 15 at most. -/
def State.glReturnCredits (s : State) : State :=
  (List.range 8).foldl (fun (t : State) m =>
    let k := min 15 (lget 0 t.gl.owed m)
    if k = 0 ∨ ¬ t.glReaches m ∨ ¬ t.glUp (t.glDir m) then t
    else
      ((t.setGl { t.gl with owed := lupd 0 t.gl.owed m (fun v => v - k) }).glQueue
        ⟨t.glDir m, glHeader GL_IDLE false t.glId m (lget 0 t.gl.seqs GL_IDLE) m k, glPayload [], false, none⟩).glNextSeq
        GL_IDLE) s

/-- What the Guyline does as time passes: the timing queue, receive buffers, credits, cell slots. -/
def State.glIdle (s : State) : State :=
  if s.glOn then (((s.glDrain).glDeliverAll).glReturnCredits).glSlots else s

/-- GL_TOKEN_REGEN (R269). -/
def execGlTokenRegen (s : State) : Host.Outcome State Fault Refusal :=
  .next ((List.range 2).foldl (fun (t : State) d =>
    if t.glOn ∧ t.glAnchor ∧ t.formed ∧ (t.glTokenOf d).isNone ∧ t.due ((lget 0 t.gl.tokSeen d + msU) % 2 ^ 96) then
      ((t.glTokenIn d).count W_GL GL_TOKREGEN 1).glEvent 7
    else t) s)

/-- GL_TOKEN_HOLD_END (R269): TOKMAX has passed since the token of direction `d` arrived: it inserts no more, and the token
passes with the next cell. -/
def execGlTokenHoldEnd (d : Port) (s : State) : Host.Outcome State Fault Refusal :=
  .next (match s.glTokenOf d with
    | none => s
    | some (c, k) =>
      if s.due ((c + max 1 (s.get W_GL GL_CFG_TOKMAX) * usU) % 2 ^ 96) then s.setToken d (some (c, k + 2 ^ 16)) else s)

end Sys2Proof.Machine
end

