-- ==== Sys2Proof/Machine/Reset.lean ====
section
/-!
DEFINITION. Resets (R447 to R452): what the registers of a block become, the block reset of each block, the soft reset's
instant, and the reset of the whole device.
-/

namespace Sys2Proof.Machine

/-! ### Guard groups (R370) -/

/-- The guard group of the register at offset `off` of window `w`: its bit of GUARD_LOCK. -/
def guardGroup (w off : Nat) : Option Nat :=
  if W_OUT ≤ w ∧ w < W_ETH then (if off = OUT_SAFE then some 0 else none)
  else if w = W_FLT then (if off = FLT_PULSE ∨ off = FLT_ESC ∨ off = FLT_ESCCTL then some 1 else none)
  else if w = W_PWR then (if off = PWR_TRIM then some 2 else none)
  else if w = W_NVS then (if off = NVS_PWDNEW_LO ∨ off = NVS_PWDNEW_HI then some 3 else none)
  else if w = W_ENG then (if off = ENG_LDRPOLICY then some 4 else none)
  else if w = W_SYS then (if off = SYS_BOOTSRC then some 5 else none)
  else if w = W_GL then (if off = GL_GANG then some 6 else none)
  else if w = W_CAL then
    (if off = CAL_LIMTDC ∨ off = CAL_LIMFRET ∨ off = CAL_LIMECHO ∨ off = CAL_LIMAGE then some 7 else none)
  else none

/-- Whether a guard lock covers the register. -/
def State.guarded (s : State) (w off : Nat) : Bool :=
  match guardGroup w off with
  | some g => bitOf (s.rn W_GUARD GUARD_LOCK) g
  | none => false

/-! ### Registers (R371, R448) -/

/-- Whether a register keeps its value through a soft or block reset: locked (R371), or part of a held snapshot (R213). -/
def State.keepsReg (s : State) (w off : Nat) : Bool :=
  s.guarded w off ||
    (s.snapHeld && ((w == W_SNAP && decide (SNAP_STAMP_W0 ≤ off ∧ off ≤ SNAP_INFO)) ||
      (w == W_SNAP && decide (SNAP_PIN_W0 ≤ off)) ||
      (match regRow w off with | some r => r.cls == .snp | none => false)))

/-- The registers of window `w` but those in `keep` take their reset values; staged halves and latches of the window go
with them, and its parity is good again (R368). -/
def State.resetRegs (s : State) (w : Nat) (keep : List Nat) : State :=
  let lo := regAddr w 0
  let gone (a : Nat) : Bool :=
    decide (lo ≤ a ∧ a < lo + 0x4000) && !(keep.contains (a - lo)) && !(s.keepsReg w (a - lo))
  ((s.setRegs (s.regs.filter (fun e => !gone e.1))).setPar (s.par.filter (fun e => !gone e.1))).setAcc { s.acc with
    staged := s.acc.staged.filter (fun e => !gone e.2.1)
    latches := s.acc.latches.filter (fun e => !gone e.2.1) }

/-! ### Blocks -/

/-- R54: a source. -/
def State.resetSrc (s : State) (n : Nat) : State :=
  let s1 := if s.qstate n = 0 then s else s.srcOff n
  (s1.resetRegs (wSrc n) []).modSrc n (fun _ => SrcSt.reset n)

/-- R77, R99: a loop with its selector; every destination of the loop runs at its nominal frequency. A freeze lasts as long as
the safe state (R94, R135). -/
def State.resetDpll (s : State) (n : Nat) : State :=
  let fb := s.feedback n
  let s1 := (s.resetRegs (wDpll n) []).modDpll n (fun x =>
    { DpllSt.reset with fb := fb, fbAt := s.tb.c, frozen := x.frozen })
  let s2 := ((s1.modSel n (fun _ => SelSt.reset)).estClear n).bivTrack n false
  let s3 := if (s2.dpll n).frozen then s2.enterLoop n else s2
  ((s3.brgDeliver n (s3.uper n) false)).learnCheck

/-- R139: the bridge: its reset map, no blend; what it measures goes on. -/
def State.resetBrg (s : State) : State :=
  let s1 := s.resetRegs W_BRG [BRG_STATE, BRG_BAWOFF]
  let s2 := ((s1.put W_BRG BRG_STATE_BLEND 0).put W_BRG BRG_STATE_PENDING 0).setBrg
    { BrgSt.reset with dests := s.brg.dests.map (fun d => { d with delta := 0 }), acc := s.dsynAcc s.tb.c, accAt := s.tb.c }
  (List.range 4).foldl (fun (t : State) n => t.brgDeliver n (t.uper n) false) s2

/-- R139: an APLL is left disabled; LOLCNT counts since power-on (R140). -/
def State.resetApll (s : State) (n : Nat) : State :=
  ((s.resetRegs (wApll n) [APLL_LOLCNT]).modApll n (fun _ => ApllSt.reset)).phiDrop n

/-- R163: a channel: HIZ; DRVCNT counts since power-on (R164). -/
def State.resetOut (s : State) (n : Nat) : State :=
  (s.resetRegs (wOut n) [OUT_DRVCNT]).modOut n (fun x => { OutSt.reset with safeCap := x.safeCap })

/-- R187: the sync engine: disarmed, its generators IDLE at the next divider boundaries. -/
def State.resetSync (s : State) : State :=
  let s1 := (List.range 4).foldl State.srDrop s
  (s1.resetRegs W_SYNC []).setSync SyncSt.reset

/-- R213: the timebase: time and rate stay. -/
def State.resetTb (s : State) : State :=
  let offs := (List.range 32).map (fun i => 4 * i)
  (s.tbSoftReset.resetRegs W_TB (offs.filter (fun o => o != TB_STS && o != TB_STEP_W0 && o != TB_STEP_W1))).setAcc
    { s.acc with
      staged := s.acc.staged.filter (fun e => decide (e.2.1 / 0x4000 ≠ W_TB))
      held := s.acc.held.filter (fun e => decide (e.2.1 / 0x4000 ≠ W_TB)) }

/-- R213: the generators and captures. -/
def State.resetTev (s : State) : State := s.tevStop.resetRegs W_TEV []

/-- R250: a PTP engine: SRVW becomes 0. -/
def State.resetPtp (s : State) (n : Nat) : State :=
  ((s.resetRegs (wPtp n) []).modPtp n (fun x => { PtpSt.reset with prog := x.prog })).putPair W_TB TB_SRVW_LO 0 |>.tbServoWord

/-- R250: ports, SYE, UART. -/
def State.resetEth (s : State) (n : Nat) : State :=
  let s1 := s.resetRegs (wEth n) []
  if s.ethLink n then s1.ethLinkLost n else s1
def State.resetSye (s : State) : State :=
  (s.resetRegs W_SYE []).setTod { s.tod with esmcEnd := [none, none] } |>.rankChanged
def State.resetUart (s : State) : State :=
  (s.resetRegs W_UART []).setTod { TodSt.reset with esmcEnd := s.tod.esmcEnd, esmcIdx := s.tod.esmcIdx }

/-- R350: rings and queues are disabled as by R339 and R345. -/
def State.resetDma (s : State) : State :=
  let s1 := (List.range 64).foldl (fun (t : State) n =>
    ((if t.qEnabled n then t.qDisable n else t).modRing n (fun _ => ⟨false, 0, 0, none⟩))) s
  s1.resetRegs W_DMA []

/-- EVT: no map, no route, nothing pending. -/
def State.resetEvt (s : State) : State := (s.resetRegs W_EVT []).msixRefresh false

/-- R123: the oscillator model. -/
def State.resetOsc (s : State) : State :=
  (s.resetRegs W_OSC []).setOsc
    { OscSt.reset with evalIdx := s.osc.evalIdx, tempIdx := s.osc.tempIdx, learnIdx := s.osc.learnIdx, estIdx := s.osc.estIdx }

/-- R282: GL: both links drop, RSTATE becomes NONE; the ID and the timebase stay. -/
def State.resetGl (s : State) : State :=
  let id := s.glId
  let s1 := (s.glDropAll.resetRegs W_GL []).put W_GL GL_STATE_ID id
  s1.put W_GL GL_STATE_ANCHOR (b2n (id == 0))

/-- R407, R416: CAL without a reload; HLTH keeps readings and plan. -/
def State.resetCal (s : State) : State := s.calDefaults.resetRegs W_CAL []
def State.resetHlth (s : State) : State := State.hlthKeep s (s.resetRegs W_HLTH [])

/-- R437: NVS: lockouts and attempt counts stay; power is still failing where it was. -/
def State.resetNvs (s : State) : State :=
  let s1 := s.nvReset
  let s2 := s1.resetRegs W_NVS [NVS_ATTEMPTS, NVS_BANKSTATE]
  ((s2.put W_NVS NVS_STATE_LOCKOUT (s1.get W_NVS NVS_STATE_LOCKOUT)).put W_NVS NVS_STATE_PWRHOLD
    (s1.get W_NVS NVS_STATE_PWRHOLD)).put W_NVS NVS_STATE_SCANRUN (b2n s1.nv.scanAt.isSome)

/-- R324: an engine: registers, stacks, at-time entries and pending events cleared; HALTED with cause RESET. -/
def State.resetEng (s : State) (k : Nat) : State :=
  let loader := if k = 0 then [ENG_LDRADDR, ENG_LDRSTATE, ENG_LDRSTS] else []
  (s.resetRegs (W_ENG + k) ([ENG_IMGID, ENG_IMGVER, ENG_BOUND] ++ loader)).engReset k

/-- R450: the block reset of the block of window `w`. -/
def State.blockReset (s : State) (w : Nat) : State :=
  match winBlock w with
  | some (.src n) => s.resetSrc n
  | some (.dpll n) => s.resetDpll n
  | some .brg => s.resetBrg
  | some (.apll n) => s.resetApll n
  | some (.out n) => s.resetOut n
  | some .sync => s.resetSync
  | some .tb => s.resetTb
  | some .tev => s.resetTev
  | some .snap => (s.resetRegs W_SNAP []).setTev { s.tev with triggers := [], ringAt := none }
  | some (.ptp n) => s.resetPtp n
  | some (.eth n) => s.resetEth n
  | some .sye => s.resetSye
  | some .uart => s.resetUart
  | some .dma => s.resetDma
  | some .evt => s.resetEvt
  | some .osc => s.resetOsc
  | some .gl => s.resetGl
  | some .cal => s.resetCal
  | some .hlth => s.resetHlth
  | some .nvs => s.resetNvs
  | some (.eng k) => s.resetEng k
  | _ => s

/-- R450: whether a write of SYS_BLKRST is ignored. -/
def State.blkrstIgnored (s : State) (v : Nat) : Bool :=
  let w := v % 2 ^ 8
  bitsOf v 16 16 != 0xb10c || s.get W_SYS SYS_STATE_BOOTST == 0 ||
    (match winBlock w with
    | none => true
    | some b => b == .sys || b == .guard || b == .flt || b == .pwr || b == .hif)

/-- R449, R451: whether a write of SYS_SOFTRST is ignored. -/
def State.softrstIgnored (s : State) (v : Nat) : Bool := v % 2 ^ 16 != 0x5e7a || s.get W_SYS SYS_STATE_BOOTST == 0

/-! ### Start-up, step 4 (R453, R456) -/

/-- The window numbers of the blocks that a soft reset resets through their block resets. -/
def softWindows : List Nat :=
  [W_SNAP, W_TEV, W_SYNC, W_TB, W_OSC, W_BRG, W_GL, W_SYE, W_UART, W_CAL, W_HLTH, W_NVS, W_DMA, W_EVT] ++
    (List.range 21).map wSrc ++ (List.range 2).map wApll ++ (List.range 4).map wDpll ++ (List.range 40).map wOut ++
    (List.range 2).map wEth ++ (List.range 2).map wPtp

/-- The engines of a soft reset (R324): their loader too. -/
def State.softEngines (s : State) : State :=
  let s1 := (List.range 11).foldl (fun (t : State) k => t.resetEng k) s
  let s2 := s1.resetRegs W_ENG [ENG_IMGID, ENG_IMGVER, ENG_BOUND, ENG_STS]
  s2.setLdr ⟨.idle, 0, false, 0, 0, none⟩

/-- R456 step 4: the bank, the ageing ratios, the boot directory and the settings; a boot under NV or NVONLY without a
valid directory raises SYS_BOOTFAIL. -/
def State.bootStep4 (s : State) : State :=
  let s1 := (s.bootBank).loadRatios
  let src := s1.bootSource
  let s2 := (s1.put W_SYS SYS_STATE_SRCUSED src).setSys { s1.sys with phase := .released, slot := none, toLoad := [] }
  if s2.dirCopy.isNone ∧ (src = 0 ∨ src = 3) then s2.bootFail 1 else s2

/-- R427, R456 step 4: the rail trims from the factory area, where their CRC is good. -/
def State.loadTrims (s : State) : State :=
  let (bs, s1) := s.nvTake 0x3_fc08 4
  if crc32 bs = leNat (s1.nvSees 0x3_fc0c 4) then s1.wr W_PWR PWR_TRIM (leNat bs) else s1

/-- R449: the instant of a soft reset; start-up goes on from step 4, the clocks running. A locked PWR_TRIM keeps its value
(R371). -/
def State.softReset (s : State) : State :=
  let s1 := softWindows.foldl State.blockReset s
  let s2 := (s1.softEngines.fltSoftReset).resetRegs W_FLT
    [FLT_STATUS, FLT_REC_W0, FLT_REC_W1, FLT_REC_W2, FLT_REC_W3, FLT_DISCCNT, FLT_LATCHCNT]
  let s3 := ((s2.resetRegs W_HIF [HIF_STATE, HIF_PCIESTS]).resetRegs W_SYS [SYS_BOOTSRC, SYS_STATE]).setHif
    { s2.hif with spi := none, spiBuf := [], spiLast := 0 }
  let s4 := ((s3.put W_SYS SYS_STATE_BOOTST 0).put W_SYS SYS_STATE_LASTRST 2).put W_SYS SYS_STATE_EARLY 0
  let s5 := if s4.guarded W_PWR PWR_TRIM then s4 else s4.loadTrims
  ((s5.setSys { s5.sys with soft := true }).lifeAdd 3 1).bootStep4

/-! ### The whole device (R447, R448) -/

/-- Power-on reset, thermal reset or RESET_N asserted: everything returns to its reset state but the cells and passwords
of NVS, what has left the device, the commands that wait, and the levels of pins. -/
def State.hardReset (s : State) (sys : SysSt) : State :=
  let c := s.nvCut
  { State.reset with
    pending := c.pending
    out := c.out
    freeCtr := c.freeCtr
    nv := { NvSt.reset with cells := c.nv.cells, bad := c.nv.bad, pwds := c.nv.pwds }
    flt := { State.reset.flt with finLow := c.flt.finLow }
    hif := { State.reset.hif with perst := c.hif.perst }
    sys := sys }

/-- R452, R456 step 3 and 4: the release: straps latched, LASTRST, the lifetime count of the reset (R413), then the boot
data. -/
def State.release (s : State) (id boot : Nat) : State :=
  let cause := s.sys.cause
  let s1 := ((s.put W_SYS SYS_STATE_STRAPS boot).put W_SYS SYS_STATE_ID id).put W_SYS SYS_STATE_LASTRST cause
  let s2 := ((s1.put W_GL GL_STATE_ID id).put W_GL GL_STATE_ANCHOR (b2n (id == 0))).put W_HIF HIF_STATE_I2CADDR (0x58 + id)
  let s3 := (s2.put W_PWR PWR_STATE_VINOK 1).lifeAdd (if cause = 1 then 2 else 1) 1
  let s4 := s3.loadTrims.bootStep4
  s4.put W_HIF HIF_STATE_GANGBAR (b2n (bitOf s4.bootSettings 1))

end Sys2Proof.Machine
end

