-- ==== Sys2Proof/Machine/SafeState.lean ====
section
/-!
DEFINITION. The safe state and the collector's own commands (R379 to R391): a message at the arbiter, the end of the
pulse, escalation, leaving the fault state, the FAULT_IN_N pin and injection.
-/

namespace Sys2Proof.Machine

/-- R383: the forced block resets that FLT_ESCCTL selects. -/
def State.forcedResets (s : State) : State :=
  let v := s.rn W_FLT FLT_ESCCTL
  let s1 := if bitOf v 8 then
      (List.range 11).foldl (fun (t : State) k => if (t.eng k).st = .except then t.resetEng k else t) s
    else s
  let s2 := if bitOf v 9 then s1.resetGl else s1
  let s3 := if bitOf v 10 then s2.resetApll 0 else s2
  if bitOf v 11 then s3.resetApll 1 else s3

/-- R383: the collector enters SAFE and the safe-state command reaches every block. -/
def State.enterSafe (s : State) : State :=
  let s1 := (((s.setFlt { s.flt with st := .safe, esc := none }).sts W_FLT FLT_STS 2).raise 0 9).lifeCount 5 1
  let s2 := (List.range 4).foldl State.freeze s1
  ((List.range 40).foldl State.outSafeCommand s2).forcedResets

/-- R388: SAFE ends: loops transfer again, selectors return, owed messages are sent. The pending map waits for the next
update instant (R135), gated channels for RESUME. -/
def State.leaveSafe (s : State) : State :=
  let s1 := (List.range 4).foldl (fun (t : State) n => if (t.dpll n).frozen then t.unfreeze n else t) s
  s1.lolOwed

/-- R387, R388: a write of FLT_STATUS whose SEQ matches. -/
def State.fltClear (s : State) : State :=
  if s.flt.st = .idle then s
  else if s.causePresent then s.fltClrRef
  else
    let s1 := s.fltToIdle
    let s2 := if s.flt.st = .safe then s1.leaveSafe else s1
    (List.range 40).foldl State.outSafeEnd s2

/-- R378, R379, R384: message `m` reaches the arbiter. -/
def State.fltArbiter (s : State) (m : FaultMsg) : State :=
  if s.flt.st = .idle then
    let s1 := s.fltLatch m
    (s1.glForwardFault m.kind s1.recordNat).lifeCount 4 1
  else s.fltDiscard

/-! ### The commands -/

/-- FAULT_MESSAGE (R378, R379, R384): the `i`-th message in flight reaches the arbiter, and L is this tick. -/
def execFaultMessage (i : Nat) (s : State) : Host.Outcome State Fault Refusal :=
  .next (match s.flt.msgs[i]? with
    | none => s
    | some m => if s.tb.running then (s.setFlt { s.flt with msgs := s.flt.msgs.eraseIdx i }).fltArbiter m else s)

/-- FAULT_PULSE_END (R381): from now on FAULT_N follows PINLVL. -/
def execFaultPulseEnd (s : State) : Host.Outcome State Fault Refusal :=
  .next (match s.flt.pulse with
    | none => s
    | some d => if s.due d then s.setFlt { s.flt with pulse := none } else s)

/-- ESCALATION_EXPIRY (R382, R383). -/
def execEscalationExpiry (s : State) : Host.Outcome State Fault Refusal :=
  .next (match s.flt.esc with
    | none => s
    | some d => if s.due d ∧ s.flt.st = .latched then s.enterSafe else s)

/-- FAULT_IN_FALL (R389): the filtered pin falls. -/
def execFaultInFall (s : State) : Host.Outcome State Fault Refusal :=
  .next (if s.flt.finLow then s
    else
      let s1 := s.setFlt { s.flt with finLow := true }
      if s.flag W_FLT FLT_ESCCTL_FINEN then s1.faultInMsg else s1)

/-- FAULT_IN_RISE (R389): the filtered pin rises. -/
def execFaultInRise (s : State) : Host.Outcome State Fault Refusal := .next (s.setFlt { s.flt with finLow := false })

/-- FAULT_INJECTION (R391): with INJEN = 1 the collector takes the oldest entry of INJQ, whose block consumer it is. -/
def execFaultInjection (s : State) : Host.Outcome State Fault Refusal :=
  let q := s.get W_FLT FLT_CTL_INJQ
  .next (if s.flag W_FLT FLT_CTL_INJEN ∧ s.qEnabled q ∧ ¬ s.qEmpty q ∧ s.qCons q = 3 ∧ s.qConsId q = W_FLT then
      let (e, s1) := s.qPop q
      let kind := bitsOf e.toNat 8 8
      if faultKinds.contains kind then
        s1.setFlt { s1.flt with msgs := s1.flt.msgs ++ [⟨W_FLT, kind, bitsOf e.toNat 32 32, true⟩] }
      else s1.fltDiscard
    else s)

end Sys2Proof.Machine
end

