-- ==== Sys2Proof/Machine/Live.lean ====
section
/-!
DEFINITION. What every register reads as: its stored word, or, for the registers that show a measurement or a state held
elsewhere, that state (the classes RO and CMD of R356, and the register maps of chapters 2 to 19).
-/

namespace Sys2Proof.Machine

/-- One 32-bit part of a number. -/
def part (v i : Nat) : Nat := v / 2 ^ (32 * i) % 2 ^ 32

/-- The CMD registers whose reads return the last value written: DPLLn_PSTEP_HI, DPLLn_LPSTAT, OSC_GEN, OSC_BVn,
TB_STEP_W2, PTPn_OFS_HI, SYE_RXSSMp and FLT_ACK; every other one reads as zero (R356). -/
def keepsLast (w off : Nat) : Bool :=
  match winBlock w with
  | some (.dpll _) => off == DPLL_PSTEP_HI || off == DPLL_LPSTAT
  | some .osc => off == OSC_GEN || (OSC_BV0 ≤ off && off ≤ OSC_BV3)
  | some .tb => off == TB_STEP_W2
  | some (.ptp _) => off == PTP_OFS_HI
  | some .sye => off == SYE_RXSSM0 || off == SYE_RXSSM1
  | some .flt => off == FLT_ACK
  | _ => false

/-- EVT_SUM: the groups that hold a pending source, and INT_N (R346, R347). -/
def State.evtSum (s : State) : Nat :=
  let groups := (List.range 16).foldl (fun v g => if s.rn W_EVT (EVT_PEND + 4 * g) = 0 then v else v + 2 ^ g) 0
  groups + 2 ^ 16 * b2n ((List.range 512).any (fun n => s.evPending n && bitOf (s.evMap n) 7))

/-- EVT_VACT: the active vectors (R347). -/
def State.evtVact (s : State) : Nat := (List.range 64).foldl (fun v i => if s.vecActive i then v + 2 ^ i else v) 0

/-- The live registers of a loop and its selector (R78, R95, R100). -/
def State.liveDpll (s : State) (n off : Nat) : Option Nat :=
  if off = DPLL_STATE then some (s.dpllStateReg n)
  else if off = DPLL_SEL_ERANK0 then some (s.erankReg n 0)
  else if off = DPLL_SEL_ERANK1 then some (s.erankReg n 1)
  else if off = DPLL_SEL_ERANK2 then some (s.erankReg n 2)
  else if off = DPLL_HOWORD_LO ∨ off = DPLL_HOWORD_HI ∨ off = DPLL_HORAMP then some (s.rn (wDpll (s.hoLoop n)) off)
  else none

/-- The live registers of the sync engine (R166, R188). -/
def State.liveSync (s : State) (off : Nat) : Option Nat :=
  if off = SYNC_APHA then some (s.aphReg 0) else if off = SYNC_APHB then some (s.aphReg 1)
  else if off = SYNC_APERRA then some (s.aperrReg 0) else if off = SYNC_APERRB then some (s.aperrReg 1)
  else if SYNC_SR_STATE ≤ off ∧ off ≤ SYNC_SR_STATE + 0x60 ∧ (off - SYNC_SR_STATE) % 0x20 = 0 then
    some (s.srStateReg ((off - SYNC_SR_STATE) / 0x20))
  else none

/-- The live registers of TEV (R215). -/
def State.liveTev (s : State) (off : Nat) : Option Nat :=
  if off = TEV_ARMED then some s.tevArmedReg
  else if TEV_G_STATE ≤ off ∧ (off - TEV_G_STATE) % 0x40 = 0 ∧ (off - TEV_G_STATE) / 0x40 < 16 then
    some (s.tevStateReg ((off - TEV_G_STATE) / 0x40))
  else none

/-- The live registers of DMA and EVT (R352, R353). -/
def State.liveDma (s : State) (off : Nat) : Option Nat :=
  if off = DMA_STATE then some s.dmaStateReg
  else if DMA_QSTATE ≤ off ∧ (off - DMA_QSTATE) % 0x10 = 0 ∧ (off - DMA_QSTATE) / 0x10 < 64 then
    some (s.qStateReg ((off - DMA_QSTATE) / 0x10))
  else none
def State.liveEvt (s : State) (off : Nat) : Option Nat :=
  if off = EVT_SUM then some s.evtSum
  else if off = EVT_VACT_LO then some (part s.evtVact 0)
  else if off = EVT_VACT_HI then some (part s.evtVact 1)
  else none

/-- The live registers of an engine (R325). -/
def State.liveEng (s : State) (k off : Nat) : Option Nat :=
  if off = ENG_STATE then some (s.engStateReg k)
  else if off = ENG_PEND_LO then some (part (s.engPendReg k) 0)
  else if off = ENG_PEND_HI then some (part (s.engPendReg k) 1)
  else none

/-- The live registers of OSC (R124); an estimate that has become invalid reads so at once (R118, R119). -/
def State.liveOsc (s : State) (off : Nat) : Option Nat :=
  if off = OSC_STATE then some s.oscStateReg
  else if off = OSC_PRED_LO then some (part s.predNow 0)
  else if off = OSC_PRED_HI then some (part s.predNow 1)
  else if OSC_TEEST0 ≤ off ∧ off ≤ OSC_TEEST0 + 12 ∧ ¬ s.teValid ((off - OSC_TEEST0) / 4) then some (2 ^ 32 - 1)
  else if off = OSC_PROJ ∧ ¬ s.learned then some (2 ^ 32 - 1)
  else none

/-- What the register at offset `off` of window `w` shows when it is not its stored word. -/
def State.live (s : State) (w off : Nat) : Option Nat :=
  match winBlock w with
  | some .tb => s.tbLive off
  | some (.src n) => if off = SRC_STATE then some (s.srcStateReg n) else if off = SRC_CHK then some (s.srcChkReg n) else none
  | some (.dpll n) => s.liveDpll n off
  | some .osc => s.liveOsc off
  | some (.out n) => if off = OUT_STATE then some (s.outStateReg n) else none
  | some .sync => s.liveSync off
  | some .tev => s.liveTev off
  | some (.eth n) => if off = ETH_STATE then some (s.ethStateReg n) else none
  | some (.ptp n) => if off = PTP_STATE then some (s.ptpStateReg n) else none
  | some .dma => s.liveDma off
  | some .evt => s.liveEvt off
  | some .hif =>
    if off = HIF_STATE then some (putBits (s.rn W_HIF HIF_STATE) 8 1 (b2n (s.hif.aer != 0))) else none
  | some .flt => if off = FLT_STATE then some s.fltStateReg else none
  | some .cal =>
    if off = CAL_STATE then some s.calStateReg else if off = CAL_TDATA then some s.tdata else none
  | some .hlth => if off = HLTH_LIFEDATA then some s.lifeData else none
  | some .nvs => if off = NVS_BANKSTATE then some s.bankStateReg else none
  | some (.eng k) => s.liveEng k off
  | some .sys => if off = SYS_STATE then some (putBits (s.rn W_SYS SYS_STATE) 11 1 (b2n (s.par.any (fun e => e.2)))) else none
  | _ => none

/-- The register as a read shows it, latches aside (R356). -/
def State.view (s : State) (w off : Nat) : Nat :=
  match s.live w off with
  | some v => v % 2 ^ 32
  | none =>
    match regRow w off with
    | none => 0
    | some r => if r.cls == .cmd && !keepsLast w off then 0 else s.rn w off

end Sys2Proof.Machine
end

