-- ==== Sys2Proof/Machine/Snapshot.lean ====
section
/-!
DEFINITION. The common snapshot (R208, R209): every block latches its SNP registers from the registers they copy.
-/

namespace Sys2Proof.Machine

/-- The SNP registers of a block, each with the register it copies (R53, R76, R98, R122, R138, R162, R186, R212, R249,
R281, R323, R350, R393, R416, R437). -/
def snapPairs : Block → List (Nat × Nat)
  | .src _ => [(SRC_SNAP_STATE, SRC_STATE), (SRC_SNAP_FOFF0, SRC_FOFF0), (SRC_SNAP_FOFF1, SRC_FOFF1),
      (SRC_SNAP_COFF1, SRC_COFF1), (SRC_SNAP_PHASE_LO, SRC_PHASE_LO), (SRC_SNAP_PHASE_HI, SRC_PHASE_HI)]
  | .dpll _ => [(DPLL_SEL_SNAP_STATE, DPLL_SEL_STATE), (DPLL_SEL_SNAP_PULL_LO, DPLL_SEL_PULL_LO),
      (DPLL_SEL_SNAP_PULL_HI, DPLL_SEL_PULL_HI), (DPLL_SNAP_STATE, DPLL_STATE), (DPLL_SNAP_DCO_LO, DPLL_DCO_LO),
      (DPLL_SNAP_DCO_HI, DPLL_DCO_HI), (DPLL_SNAP_ERR_LO, DPLL_ERR_LO), (DPLL_SNAP_ERR_HI, DPLL_ERR_HI),
      (DPLL_SNAP_PHOFF_LO, DPLL_PHOFF_LO), (DPLL_SNAP_PHOFF_HI, DPLL_PHOFF_HI)]
  | .osc => [(OSC_SNAP_STATE, OSC_STATE), (OSC_SNAP_PRED_LO, OSC_PRED_LO), (OSC_SNAP_PRED_HI, OSC_PRED_HI),
      (OSC_SNAP_THETA, OSC_THETA)]
  | .apll _ => [(APLL_SNAP_STATE, APLL_STATE), (APLL_SNAP_M_LO, APLL_M_LO), (APLL_SNAP_M_HI, APLL_M_HI),
      (APLL_SNAP_VTUNE, APLL_VTUNE)]
  | .brg => [(BRG_SNAP_MAP, BRG_MAP), (BRG_SNAP_STATE, BRG_STATE)]
  | .out _ => [(OUT_SNAP_STATE, OUT_STATE), (OUT_SNAP_FRETAPP, OUT_FRETAPP)]
  | .sync => [(SYNC_SNAP_STATE, SYNC_STATE), (SYNC_SNAP_APERRA, SYNC_APERRA), (SYNC_SNAP_APERRB, SYNC_APERRB)]
  | .tb => [(TB_SNAP_EPOCH, TB_EPOCH), (TB_SNAP_COUNT_W0, TB_COUNT_W0), (TB_SNAP_COUNT_W1, TB_COUNT_W1),
      (TB_SNAP_COUNT_W2, TB_COUNT_W2)]
  | .tev => [(TEV_SNAP_ARMED, TEV_ARMED)]
  | .eth _ => [(ETH_SNAP_STATE, ETH_STATE)]
  | .ptp _ => [(PTP_SNAP_STATE, PTP_STATE)]
  | .sye => [(SYE_SNAP_RXQL, SYE_RXQL), (SYE_SNAP_TXQL, SYE_TXQL)]
  | .gl => [(GL_SNAP_STATE, GL_STATE), (GL_SNAP_OFS_LO, GL_OFS_LO), (GL_SNAP_OFS_HI, GL_OFS_HI)]
  | .eng _ => [(ENG_SNAP_STATE, ENG_STATE)]
  | .hif => [(HIF_SNAP_STATE, HIF_STATE)]
  | .dma => [(DMA_SNAP_STATE, DMA_STATE)]
  | .evt => [(EVT_SNAP_SUM, EVT_SUM)]
  | .flt => [(FLT_SNAP_STATE, FLT_STATE)]
  | .cal => [(CAL_SNAP_STATE, CAL_STATE)]
  | .hlth => [(HLTH_SNAP_STATE, HLTH_STATE), (HLTH_SNAP_TDIE, HLTH_TDIE)]
  | .nvs => [(NVS_SNAP_STATE, NVS_STATE)]
  | .sys => [(SYS_SNAP_STATE, SYS_STATE)]
  | .pwr => [(PWR_SNAP_STATE, PWR_STATE)]
  | .snap => []
  | .guard => []
  | .uart => []

/-- R53: the newest phase sample of source `n` taken no later than this tick. -/
def State.phaseSnap (s : State) (n : Nat) : Int :=
  match (s.src n).newest.find? (fun p => decide (0 ≤ signedDiff 96 s.tb.c p.1)) with
  | some p => p.2
  | none => toSigned 64 (s.pair (wSrc n) SRC_PHASE_LO)

/-- The block of window `w` latches its SNP registers: copies of the registers they name, of a source the newest sample that
its TDC has not taken after the tick, and of a PTP engine the last offset committed (R249). -/
def State.snapBlock (s : State) (w : Nat) : State :=
  match winBlock w with
  | none => s
  | some b =>
    let t := (snapPairs b).foldl (fun (t : State) p => t.wr w p.1 (s.view w p.2)) s
    match b with
    | .src n => t.putPair w SRC_SNAP_PHASE_LO (ofSigned 64 (s.phaseSnap n))
    | .ptp n => t.putPair w PTP_SNAP_OFS_LO (ofSigned 64 (s.ptp n).ofs)
    | _ => t

/-- R208: every block latches. -/
def State.snapLatchAll (s : State) : State := (List.range 0x67).foldl State.snapBlock s

/-- R208, R209: one snapshot of the causes `c`, bits in the order of SNAP_CTL. -/
def State.snapshot (s : State) (c : Nat) : State :=
  let s1 := ((s.snapLatchAll).putInstant W_SNAP SNAP_STAMP_W0 s.now).wr W_SNAP SNAP_EPOCH s.tb.epoch
  let s2 := (s1.put W_SNAP SNAP_INFO_SEQ (s.get W_SNAP SNAP_INFO_SEQ + 1)).put W_SNAP SNAP_INFO_CAUSE c
  let held := s.flag W_SNAP SNAP_HOLD_HOLD || (s.flag W_SNAP SNAP_HOLD_FLTHOLD && bitOf c 2)
  ((s2.put W_SNAP SNAP_INFO_HELD (b2n held)).sts W_SNAP SNAP_STS 1).raise 0 28

/-- R209: the triggers of one tick while HELD. -/
def State.snapMiss (s : State) : State := ((s.count W_SNAP SNAP_MISSED 1).sts W_SNAP SNAP_STS 2).raise 0 29

/-- SNAPSHOT_TRIGGER (R208, R209): the triggers of the oldest tick are distributed together, and E is this tick. -/
def execSnapshotTrigger (s : State) : Host.Outcome State Fault Refusal :=
  .next (match s.tev.triggers with
    | [] => s
    | (c, _) :: _ =>
      let mine := s.tev.triggers.filter (fun t => t.1 == c)
      let s1 := s.setTev { s.tev with triggers := s.tev.triggers.filter (fun t => t.1 != c) }
      if s.snapHeld then s1.snapMiss else s1.snapshot (mine.foldl (fun v t => v ||| t.2) 0))

end Sys2Proof.Machine
end

