-- ==== Sys2Proof/Machine/RegRules.lean ====
section
/-!
DEFINITION. The rules that decide a register access (chapter 15): enables that hold CFG registers, single writers, staged
and committed registers, the latches of reads, and the values that a chapter refuses with WIGN.
-/

namespace Sys2Proof.Machine

/-- The requester whose rights and stagings an access uses: an at-time entry acts for the engine that armed it (log entry
65). -/
def ownerOf : Req → Req
  | .atEntry k => .eng k
  | r => r

/-! ### CFG registers (R357) -/

/-- Whether the block is enabled in the sense of its CFG register at offset `off`. -/
def State.cfgHeld (s : State) (w off : Nat) : Bool :=
  match winBlock w with
  | some (.src _) => s.flag w SRC_EN_ENABLE
  | some (.dpll _) => s.flag w DPLL_CTL_ENABLE
  | some .osc => s.flag w OSC_CTL_EVAL || s.flag w OSC_CTL_LSAMP
  | some (.apll _) => s.flag w APLL_CTL_ENABLE
  | some (.out _) => s.flag w OUT_CTL_ENABLE
  | some .sync => s.flag w SYNC_CTL_ENABLE
  | some (.eth _) => s.flag w ETH_CTL_ENABLE
  | some (.ptp _) => s.flag w PTP_CTL_ENABLE
  | some .sye => s.rn w SYE_CTL % 16 != 0
  | some .uart => s.rn w UART_CTL % 4 != 0
  | some .gl => s.flag w GL_CTL_ENABLE
  | some .dma => if off < DMA_R_BASE_LO then s.qEnabled ((off - DMA_QCTL) / 0x10)
      else s.ringEnabled ((off - DMA_R_BASE_LO) / 0x20)
  | _ => false

/-! ### Single writers (R364) -/

/-- Whether requester `r` may write the register: the single-writer rules of R48, R100, R124, R164, R195, R229, R241, R252,
R410, R414 and R431. -/
def mayWrite (r : Req) (w off : Nat) : Bool :=
  let by_ (k : Nat) : Bool := ownerOf r == .eng k
  match winBlock w with
  | some (.src n) => off != SRC_VERDICT || by_ (monOf n)
  | some (.dpll n) => !(off == DPLL_DCOW_LO || off == DPLL_DCOW_HI || off == DPLL_LPSTAT) || by_ (1 + n)
  | some .osc => !(OSC_BV0 ≤ off && off ≤ OSC_BV3) || by_ (1 + (off - OSC_BV0) / 4)
  | some (.out _) => !(off == OUT_FCOMP || off == OUT_FCAL)
  | some .tb => !(off == TB_SRVW_LO || off == TB_SRVW_HI) || by_ 9 || by_ 10
  | some (.ptp n) =>
    if off == PTP_PSTATE then by_ 0
    else !(off == PTP_OFSEP || off == PTP_OFS_LO || off == PTP_OFS_HI || off == PTP_MPD_LO || off == PTP_MPD_HI ||
      off == PTP_PATHDELTA) || by_ (9 + n)
  | some .sye => !(off == SYE_RXSSM0 || off == SYE_RXSSM1) || by_ (9 + (off - SYE_RXSSM0) / 4)
  | some .hlth => !(off == HLTH_PLAN || off == HLTH_LIFEDATA) || by_ 0
  | some .nvs => !(off == NVS_SLOTCMD || off == NVS_SLOTVAL_LO || off == NVS_SLOTVAL_HI) || by_ 0
  | _ => true

/-! ### Staged and committing registers (R364, R466) -/

/-- The registers staged per requester. -/
def stagedReg (w off : Nat) : Bool :=
  match winBlock w with
  | some .tb => off == TB_INCR_LO || off == TB_SRVW_LO || off == TB_STEP_W0 || off == TB_STEP_W1
  | some (.dpll _) => off == DPLL_DCOW_LO || off == DPLL_HOWORD_LO || off == DPLL_PSTEP_LO
  | some (.ptp _) => off == PTP_OFSEP || off == PTP_OFS_LO || off == PTP_MPD_LO || off == PTP_MPD_HI
  | some .nvs => off == NVS_PWD_LO || off == NVS_PWD_HI || off == NVS_PWDNEW_LO || off == NVS_PWDNEW_HI
  | _ => false

/-- The registers of class RUN whose write commits a pair. -/
def committingReg (w off : Nat) : Bool :=
  match winBlock w with
  | some .tb => off == TB_INCR_HI || off == TB_SRVW_HI
  | some (.dpll _) => off == DPLL_DCOW_HI || off == DPLL_HOWORD_HI
  | _ => false

/-- What requester `r` has staged for the register, else its last committed value. -/
def State.stagedVal (s : State) (r : Req) (w off : Nat) : Nat :=
  match s.acc.staged.find? (fun e => e.1 == ownerOf r && e.2.1 == regAddr w off) with
  | some e => e.2.2.toNat
  | none => s.rn w off

/-- Requester `r` stages `v`. -/
def State.stage (s : State) (r : Req) (w off v : Nat) : State :=
  s.setAcc { s.acc with
    staged := (ownerOf r, regAddr w off, BitVec.ofNat 32 v) ::
      s.acc.staged.filter (fun e => !(e.1 == ownerOf r && e.2.1 == regAddr w off)) }

/-! ### Latches of reads (R193, R375) -/

/-- Offset `off` begins one of `n` pairs or triples from `lo`, `d` bytes apart. -/
def inRow (off lo n d : Nat) : Bool := decide (lo ≤ off) && (off - lo) % d == 0 && decide ((off - lo) / d < n)

/-- The first registers of the pairs of a block whose read latches the next register (R193). -/
def pairHeads : Block → List Nat
  | .src _ => [SRC_PER_LO, SRC_PHASE_LO, SRC_SNAP_PHASE_LO]
  | .dpll _ => [DPLL_DCOW_LO, DPLL_DCO_LO, DPLL_HOWORD_LO, DPLL_PSTEP_LO, DPLL_PSREM_LO, DPLL_PHOFF_LO, DPLL_ERR_LO,
      DPLL_SNAP_DCO_LO, DPLL_SNAP_ERR_LO, DPLL_SNAP_PHOFF_LO, DPLL_SEL_PULL_LO, DPLL_SEL_SNAP_PULL_LO]
  | .osc => [OSC_Y0_LO, OSC_PRED_LO, OSC_LS_Y_LO, OSC_SNAP_PRED_LO]
  | .apll _ => [APLL_NFRAC_LO, APLL_M_LO, APLL_SNAP_M_LO]
  | .tb => [TB_INCR_LO, TB_SRVW_LO, TB_RATE_LO, TB_INCRNOW_LO]
  | .ptp _ => [PTP_OFS_LO, PTP_MPD_LO, PTP_SRVI_LO, PTP_SNAP_OFS_LO]
  | .uart => [UART_TODSEC_LO]
  | .gl => [GL_OFS_LO, GL_SNAP_OFS_LO]
  | .sync => [SYNC_CHMASK_LO, SYNC_DONEMASK_LO]
  | .eth _ => [ETH_MAC_LO]
  | .eng _ => [ENG_PEND_LO]
  | .dma => [DMA_ERRADDR_LO]
  | .evt => [EVT_VACT_LO]
  | .cal => [CAL_SEQTDC_LO, CAL_SEQOUT_LO, CAL_LINOK_LO, CAL_TDCOK_LO]
  | .nvs => [NVS_PWD_LO, NVS_PWDNEW_LO, NVS_SLOTVAL_LO]
  | _ => []

/-- The first registers of the time triples of a block. -/
def tripleHeads : Block → List Nat
  | .sync => [SYNC_AT_W0, SYNC_LAST_W0]
  | .tb => [TB_STEP_W0, TB_TIME_W0, TB_COUNT_W0, TB_OFS_W0, TB_LASTSTEP_W0, TB_SNAP_COUNT_W0]
  | .snap => [SNAP_RINGAT_W0, SNAP_STAMP_W0, SNAP_PIN_W0]
  | .ptp _ => [PTP_STEPAMT_W0]
  | .uart => [UART_PPS_W0]
  | _ => []

/-- The registers that a read at offset `off` latches for the same requester. -/
def latchesOf (w off : Nat) : List Nat :=
  match winBlock w with
  | none => []
  | some b =>
    let pair := (pairHeads b).contains off ||
      (b == .tev && (inRow off TEV_G_PER_LO 16 0x40 || inRow off TEV_G_LABEL_LO 16 0x40)) ||
      (b == .dma && (inRow off DMA_R_BASE_LO 64 0x20 || inRow off DMA_R_WB_LO 64 0x20))
    let triple := (tripleHeads b).contains off || (b == .sync && inRow off SYNC_SR_AT_W0 4 0x20) ||
      (b == .tev && (inRow off TEV_CAP_LAST_W0 8 0x10 || inRow off TEV_G_AT_W0 16 0x40 || inRow off TEV_G_LAST_W0 16 0x40))
    if b == .osc && off == OSC_LS_INFO then [OSC_LS_Y_LO, OSC_LS_Y_HI, OSC_LS_THETA]
    else if b == .tb && off == TB_TIME_W0 then [TB_TIME_W1, TB_TIME_W2, TB_EPOCH]
    else if triple then [off + 4, off + 8]
    else if pair then [off + 4]
    else []

/-- What requester `r` has latched of the register, if anything. -/
def State.latched (s : State) (r : Req) (w off : Nat) : Option Nat :=
  (s.acc.latches.find? (fun e => e.1 == r && e.2.1 == regAddr w off)).map (fun e => e.2.2.toNat)

/-- Requester `r` latches the present values of registers `offs`. -/
def State.latch (s : State) (r : Req) (w : Nat) (offs : List Nat) : State :=
  let mine (e : Req × Nat × Word) : Bool := e.1 == r && offs.any (fun o => e.2.1 == regAddr w o)
  if offs.isEmpty then s
  else s.setAcc { s.acc with
    latches := offs.map (fun o => (r, regAddr w o, BitVec.ofNat 32 (s.view w o))) ++ s.acc.latches.filter (fun e => !mine e) }

/-! ### Parity (R368) -/

/-- R368: a check of a CFG or RUN register: the first that finds a mismatch reports it (R462). -/
def State.parCheck (s : State) (w off : Nat) : State :=
  let a := regAddr w off
  if s.par.any (fun e => e.1 == a && !e.2) then
    let s1 := s.setPar (s.par.map (fun e => if e.1 = a then (a, true) else e))
    (((s1.wr W_SYS SYS_PARADDR a).sts W_SYS SYS_STS 16).raise 0 21).fault w K_CFGPAR a
  else s

/-! ### Values refused with WIGN -/

/-- A guarded enable of a chapter: bit 0 goes from 0 to 1. -/
def rises (old v : Nat) : Bool := !bitOf old 0 && bitOf v 0

/-- R90, R93, R96: refusals of a loop. -/
def State.dpllRefuses (s : State) (r : Req) (n off old v : Nat) : Option State :=
  if off = DPLL_CTL then
    if rises old v && s.budgetBad n then some (s.sts (wDpll n) DPLL_STS 32) else none
  else if s.dpllFrozen n && (off == DPLL_DCOW_HI || off == DPLL_HOWORD_LO || off == DPLL_HOWORD_HI || off == DPLL_HORAMP) then
    some s
  else if off = DPLL_PSTEP_HI then
    let a := toSigned 48 (s.stagedVal r (wDpll n) DPLL_PSTEP_LO + v % 2 ^ 16 * 2 ^ 32)
    if s.pstepRefused n a then some (s.pstepRef n) else none
  else none

/-- R314, R336, R339 to R341: refusals of DMA. -/
def State.dmaRefuses (s : State) (off old v : Nat) : Option State :=
  if DMA_R_BASE_LO ≤ off then
    let n := (off - DMA_R_BASE_LO) / 0x20
    if off = DMA_R_CTL + ringOff n then
      (if rises old v && s.ringEnableRefused n then some (s.qEvent n 5) else none)
    else if off = DMA_R_HIDX + ringOff n then
      (if s.ringN n ≤ bitsOf v DMA_R_HIDX_V.lsb DMA_R_HIDX_V.width then some (s.sts W_DMA (DMA_QSTS + qOff n) 16) else none)
    else none
  else if DMA_QCTL ≤ off then
    let n := (off - DMA_QCTL) / 0x10
    if off = DMA_QCTL + qOff n then
      if qModeOf (bitsOf v 1 2) == .stall && s.qStallRefused n then some s
      else if rises old v && s.qEnableRefused n then some (s.qEvent n 5)
      else if bitOf old 0 && !bitOf v 0 && s.ringEnabled n then some s
      else none
    else if off = DMA_QCFG + qOff n then
      (if bitsOf v DMA_QCFG_CONS.lsb DMA_QCFG_CONS.width = 2 then some s else none)
    else none
  else none

/-- The WIGN refusals that depend on the value: none, or what the refusal itself does. -/
def State.refuses (s : State) (r : Req) (w off old v : Nat) : Option State :=
  match winBlock w with
  | some (.dpll n) => s.dpllRefuses r n off old v
  | some (.apll n) => if off = APLL_CTL ∧ rises old v ∧ s.apllRangeBad n then some (s.sts w APLL_STS 8) else none
  | some (.out n) => if off = OUT_CTL ∧ rises old v ∧ s.outRangeBad n then some (s.outEvent n 6) else none
  | some .tb =>
    if (off = TB_SRVW_LO ∨ off = TB_SRVW_HI) ∧ s.safe then some s
    else if off = TB_BACKEN ∧ (s.tbBacken v).isNone then some s
    else none
  | some (.ptp n) =>
    if off = PTP_CTL ∧ rises old v ∧ s.ptpEnableRefused n then some (s.ptpCfgRef n) else none
  | some .dma => s.dmaRefuses off old v
  | some .gl => if off = GL_GANG ∧ bitOf v 0 ∧ ¬ s.formed then some s else none
  | some .cal =>
    if off = CAL_TPTS0 ∧ s.tptsBad 0 v then some s
    else if off = CAL_TPTS1 ∧ s.tptsBad 1 v then some s
    else if off = CAL_TDATA ∧ s.tdataRefused then some s.tdataNext
    else if off = CAL_SEQCMD ∧ s.seqStartRefused v then some s
    else none
  | some .nvs => if off = NVS_CMD ∧ s.nvBusy then some s else none
  | some .sys =>
    if off = SYS_SOFTRST ∧ s.softrstIgnored v then some s
    else if off = SYS_BLKRST ∧ s.blkrstIgnored v then some s
    else none
  | _ => none

end Sys2Proof.Machine
end

