-- ==== Sys2Proof/Machine/Effects.lean ====
section
/-!
DEFINITION. What a write that is taken does beside storing its value: the commands of the CMD registers, the commits of
staged pairs and triples, and the enables (the register maps of chapters 2 to 19).
-/

namespace Sys2Proof.Machine

/-! ### CMD registers -/

/-- R90: a write of DPLLn_PSTEP_HI that is taken. -/
def State.pstepWrite (s : State) (r : Req) (n v : Nat) : State :=
  let w := wDpll n
  let lo := s.stagedVal r w DPLL_PSTEP_LO
  ((s.wr w DPLL_PSTEP_LO lo).wr w DPLL_PSTEP_HI v).pstep n (toSigned 48 (lo + v % 2 ^ 16 * 2 ^ 32))

/-- R197: a write of TB_STEP_W2. -/
def State.tbStepWrite (s : State) (r : Req) (v : Nat) : State :=
  let a := s.stagedVal r W_TB TB_STEP_W0 + s.stagedVal r W_TB TB_STEP_W1 * 2 ^ 32 + v % 2 ^ 32 * 2 ^ 64
  (s.putTriple W_TB TB_STEP_W0 a).tbGrant (.step (toSigned 96 a))

/-- R230: a write of PTPn_OFS_HI commits what PTn has staged. -/
def State.ptpOfsWrite (s : State) (r : Req) (n v : Nat) : State :=
  let w := wPtp n
  let take (off : Nat) (t : State) : State := t.wr w off (s.stagedVal r w off)
  ((take PTP_OFSEP (take PTP_MPD_LO (take PTP_MPD_HI (take PTP_OFS_LO s)))).wr w PTP_OFS_HI v).ofsCommit n

/-- R421: a write of NVS_CMD by requester `r`. -/
def State.nvCmdWrite (s : State) (r : Req) (v : Nat) : State :=
  let p (lo hi : Nat) : Nat := s.stagedVal r W_NVS lo + s.stagedVal r W_NVS hi * 2 ^ 32
  s.nvCommand (s.nvCmdOf v (p NVS_PWD_LO NVS_PWD_HI) (p NVS_PWDNEW_LO NVS_PWDNEW_HI))

/-- R346: EVT_ACKg. -/
def State.evtAck (s : State) (g v : Nat) : State :=
  let off := EVT_PEND + 4 * g
  (s.wr W_EVT off (Nat.xor (s.rn W_EVT off) (s.rn W_EVT off &&& v))).msixRefresh true

/-- A command register of a block on the TB clock takes effect only while that clock runs (R19). -/
def tbCrossing (w off : Nat) : Bool :=
  (w == W_TEV && inRow off TEV_G_CMD 16 0x40) || (w == W_SYNC && (off == SYNC_CMD || inRow off SYNC_SR_CMD 4 0x20)) ||
    (w == W_FLT && off == FLT_ACK) || (w == W_SNAP && off == SNAP_CMD) || (w == W_TB && (off == TB_CMD || off == TB_BACKEN))

/-- R19: a write granted before the TB clock takes crossings is held for it. -/
def State.hold (s : State) (r : Req) (w off v : Nat) : State :=
  s.setAcc { s.acc with held := s.acc.held ++ [(r, regAddr w off, BitVec.ofNat 32 v)] }

/-- What a command register does with value `v` of requester `r`; of a held write of TEV_CTL or SYNC_CTL, the disable. -/
def State.cmdAct (s : State) (r : Req) (w off v : Nat) : State :=
  match winBlock w with
  | some (.src n) => if off = SRC_CMD then s.srcCmd n v else if off = SRC_VERDICT then s.srcVerdict n v else s
  | some (.dpll n) =>
    if off = DPLL_PSTEP_HI then s.pstepWrite r n v
    else if off = DPLL_CMD then (if bitOf v 0 then s.stepAbort n 1 else s)
    else if off = DPLL_LPSTAT then (s.wr w off v).lpstatWritten n (s.rn w off)
    else if off = DPLL_SEL_CMD then s.selCmd n v
    else s
  | some .osc => if off = OSC_GEN then (s.wr w off v).oscGen else s.wr w off v
  | some (.out n) => if bitOf v 0 then s.outResume n else s
  | some .sync =>
    if off = SYNC_CTL then (if bitOf v 0 then s else s.syncCtlWritten 1)
    else if off = SYNC_CMD then s.syncCmd v
    else s.srCmd ((off - SYNC_SR_CMD) / 0x20) v
  | some .tb =>
    if off = TB_STEP_W2 then s.tbStepWrite r v
    else if off = TB_CMD then (if bitOf v 0 then s.tbResync else s)
    else (s.tbBacken v).getD s
  | some .tev =>
    if off = TEV_CTL then (if bitOf v 0 then s else s.tevDisarmAll) else s.tevCmd ((off - TEV_G_CMD) / 0x40) v
  | some .snap => s.snapCmd v
  | some (.ptp n) => if off = PTP_OFS_HI then s.ptpOfsWrite r n v else s.ptpCmd n v
  | some .sye => (s.wr w off v).syeRx ((off - SYE_RXSSM0) / 4)
  | some .gl => s.glCmd v
  | some (.eng k) => if off = ENG_CMD then s.engCommand k v else s.ldrCommand v
  | some .evt => s.evtAck ((off - EVT_ACK) / 4) v
  | some .flt => (s.wr w off v).fltAck (v % 256)
  | some .cal => s.seqCmd r v
  | some .hlth => s.hlthCmd v
  | some .nvs => if off = NVS_CMD then s.nvCmdWrite r v else if off = NVS_SLOTCMD then s.nvSlotCmd v else s
  | some .sys => if off = SYS_SOFTRST then s.softReset else s.blockReset (v % 256)
  | _ => s

/-- R19: a command for a block on the TB clock is held until that clock runs. -/
def State.cmdEffect (s : State) (r : Req) (w off v : Nat) : State :=
  if tbCrossing w off ∧ ¬ s.tbClocked then (if keepsLast w off then s.wr w off v else s).hold r w off v
  else s.cmdAct r w off v

/-! ### CFG and RUN registers -/

/-- The selector after a write of its configuration (R62, R74). -/
def State.selWritten (s : State) (n off old : Nat) : State :=
  if off = DPLL_SEL_CTL then
    s.selTrigger n (if old % 4 = 2 ∧ s.rn (wDpll n) DPLL_SEL_CTL % 4 ≠ 2 then .unfreeze else .config)
  else if off = DPLL_SEL_JGUARD then s
  else s.selTrigger n .config

/-- A commit of the pair that ends at `off`: the half before it as requester `r` staged it (R466). -/
def State.commitPair (s : State) (r : Req) (w off : Nat) : State := s.wr w (off - 4) (s.stagedVal r w (off - 4))

/-- A loop's CFG or RUN register has been written over `old`. -/
def State.dpllWritten (s : State) (r : Req) (n off old : Nat) : State :=
  let w := wDpll n
  if off = DPLL_CTL then
    let now := s.rn w DPLL_CTL
    let s1 := if rises old now then s.dpllEnabled n else if rises now old then s.dpllDisabled n else s
    if n ≠ 0 then s1
    else if bitOf now 1 ∧ ¬ bitOf old 1 then s1.tiedSet
    else if bitOf old 1 ∧ ¬ bitOf now 1 then s1.tiedCleared
    else s1
  else if off = DPLL_CFG then s.modDpll n (fun x => { x with updIdx := s.tb.c / (s.uper n * usU) })
  else if off = DPLL_DCOW_HI then (s.commitPair r w off).dcowCommit n
  else if off = DPLL_HOWORD_HI then (s.commitPair r w off).howordCommit n
  else if DPLL_SEL_CTL ≤ off then s.selWritten n off old
  else s

/-- A queue's or ring's register has been written over `old`. -/
def State.dmaWritten (s : State) (off old : Nat) : State :=
  if DMA_R_BASE_LO ≤ off then
    let n := (off - DMA_R_BASE_LO) / 0x20
    if off ≠ DMA_R_CTL + ringOff n then s
    else
      let now := s.rn W_DMA off
      if rises old now then
        ((s.wr W_DMA (DMA_R_HIDX + ringOff n) 0).setDidx n 0).modRing n (fun _ => ⟨false, 0, 0, none⟩)
      else if rises now old then s.ringClearErr n
      else s
  else if DMA_QCTL ≤ off then
    let n := (off - DMA_QCTL) / 0x10
    if off ≠ DMA_QCTL + qOff n then s
    else
      let now := s.rn W_DMA off
      if rises now old then s.qDisable n
      else if qModeOf (bitsOf old 1 2) = .stall ∧ qModeOf (bitsOf now 1 2) ≠ .stall then s.qReleaseAll n (s.queue n).held
      else s
  else s

/-- PTPn_CTL has been written over `old`: at its enable the engine takes its TXQ as block consumer (R336). -/
def State.ptpEnWritten (s : State) (n old : Nat) : State :=
  let w := wPtp n
  let now := s.rn w PTP_CTL
  let s1 := if rises old now then
      let q := qOff (s.get w PTP_QCFG_TXQ)
      (s.put W_DMA (DMA_QCFG_CONS.up q) 3).put W_DMA (DMA_QCFG_CONSID.up q) w
    else s
  s1.ptpCtlWritten n old

/-- What a write of a CFG or RUN register by requester `r` does once the value is stored; `old` is the value before it. -/
def State.written (s : State) (r : Req) (w off old : Nat) : State :=
  let now := s.rn w off
  match winBlock w with
  | some (.src n) => if off = SRC_EN then s.srcEnWritten n old else s
  | some (.dpll n) => s.dpllWritten r n off old
  | some .osc =>
    if off = OSC_CTL then (if bitOf now 1 ∧ ¬ bitOf old 1 then s.learnStart else s)
    else if off = OSC_CFG then (if bitsOf old OSC_CFG_TSEL.lsb OSC_CFG_TSEL.width ≠ s.get w OSC_CFG_TSEL then s.oscTsel else s)
    else s
  | some (.apll n) =>
    if off ≠ APLL_CTL then s
    else if rises old now then s.apllOnNow n
    else if rises now old then (s.apllOffNow n).bandApply n
    else s
  | some .brg => if off = BRG_MAP then s.brgMapWritten else s
  | some (.out n) =>
    if off = OUT_CTL then s.outCtlWritten n old
    else if off = OUT_FRET then s.outRetarget n
    else if off = OUT_DRV ∧ now % 4 = 3 ∧ s.fcal n ≠ 0 then s.setFcal n 0
    else s
  | some .sync =>
    if off ≠ SYNC_CTL then s else if s.tbClocked then s.syncCtlWritten old else s.hold r w off now
  | some .tb =>
    if off = TB_MODE then s.tbGrant (.mode (bitOf now 0))
    else if off = TB_STEER then s.tbGrant (.steer (now % 4))
    else if off = TB_INCR_HI then
      let t := s.commitPair r w off
      t.tbGrant (.incr (t.pair w TB_INCR_LO))
    else if off = TB_SRVW_HI then (s.commitPair r w off).tbServoWord
    else s
  | some .tev =>
    if off ≠ TEV_CTL then s
    else if ¬ s.tbClocked then s.hold r w off now
    else if bitOf old 0 ∧ ¬ bitOf now 0 then s.tevDisarmAll
    else s
  | some (.ptp n) =>
    if off = PTP_CTL then s.ptpEnWritten n old else if off = PTP_PSTATE then s.pstateWritten n old else s
  | some (.eth n) => if off = ETH_CTL then s.ethCtlWritten n old else s
  | some .uart => if off = UART_CFG then s.uartCfgWritten old else s
  | some .gl => if off = GL_CTL then s.glCtlWritten old else s
  | some .dma => s.dmaWritten off old
  | some .evt => if EVT_MAP ≤ off ∧ off < EVT_RT then s.msixRefresh false else s
  | some .flt =>
    if off = FLT_ESCCTL ∧ bitOf now 1 ∧ ¬ bitOf old 1 ∧ s.flt.finLow then s.faultInMsg else s
  | some .cal =>
    if off = CAL_TPTS0 ∨ off = CAL_TPTS1 ∨ off = CAL_TFILL then s.calReform
    else if off = CAL_TDATA then (s.tdataWrite now).tdataNext
    else s
  | some .hlth =>
    if off = HLTH_PLAN then s.planWritten else if off = HLTH_LIFEDATA then (s.lifeWrite now).lifeNext else s
  | _ => s

end Sys2Proof.Machine
end

