-- ==== Sys2Proof/Machine/Access.lean ====
section
/-!
DEFINITION. One register access from any requester (chapter 15): the seven outcomes in the order of R354, the classes,
aliases, guard locks, and the reads with their latches; the engine memories of BAR0 (R308).
-/

namespace Sys2Proof.Machine

/-- R360, R387: a plain write of an STS register. Neither a clear nor an ignored one records an outcome. -/
def State.stsWrite (s : State) (w off v : Nat) : State :=
  let old := s.rn w off
  if old / 2 ^ 24 ≠ v / 2 ^ 24 then s
  else if w = W_FLT ∧ off = FLT_STATUS then s.fltClear
  else s.wr w off (old / 2 ^ 24 * 2 ^ 24)

/-- The four ways a register is addressed (R363). -/
inductive Form
  | plain | set | clr | tgl
  deriving DecidableEq, Repr

/-- The form of an offset of 0x0000 to 0x3FFF. -/
def formOf (off : Nat) : Form :=
  match off / 0x1000 with
  | 0 => .plain
  | 1 => .set
  | 2 => .clr
  | _ => .tgl

/-- R363, R366: the value that a form leaves in a register that holds `old`; alias writes change no RSV bit. -/
def aliasValue (f : Form) (old v rsv : Nat) : Nat :=
  let m := v &&& (Nat.xor (2 ^ 32 - 1) rsv)
  match f with
  | .plain => v
  | .set => old ||| m
  | .clr => Nat.xor old (old &&& m)
  | .tgl => Nat.xor old m

/-- The RSV bits of a register: those of its row, TIED of DPLL1 to DPLL3 (R95), and FMT, TERM and LVL of SRC16 to SRC20
(R55). -/
def rsvOf (w off : Nat) (r : RegRow) : Nat :=
  if W_DPLL < w ∧ w < W_OUT ∧ off = DPLL_CTL then r.rsv ||| 2
  else if wSrc 16 ≤ w ∧ w ≤ wSrc 20 ∧ off = SRC_CFG then r.rsv ||| 0x3f
  else r.rsv

/-- R370, R426: whether the write gives LOCKED. -/
def State.writeLocked (s : State) (w off : Nat) (f : Form) (v : Nat) : Bool :=
  s.guarded w off || (w == W_NVS && off == NVS_CMD && f == .plain && s.nvCmdLocked v)

/-- R369: a write of GUARD_LOCK sets the bits written as 1. -/
def State.guardWrite (s : State) (f : Form) (v : Nat) : AccOut × State :=
  if f = .plain ∨ f = .set then (.ok, s.wr W_GUARD GUARD_LOCK (s.rn W_GUARD GUARD_LOCK ||| v % 256)) else (.wign, s)

/-- R231: whether the write of a PTP engine's control register is ignored because it asks for a servo that is refused; it
raises PTP_SRVREF and records no outcome (log entry 66). -/
def State.srvIgnored (s : State) (w off old v : Nat) : Bool :=
  match winBlock w with
  | some (.ptp n) => off == PTP_CTL && bitOf v 1 && !bitOf old 1 && s.srvRefused n
  | _ => false

/-- A CFG or RUN register takes the value `v`, with what that does. -/
def State.runTake (s : State) (r : Req) (w off old v : Nat) : State :=
  if stagedReg w off then s.stage r w off v
  else if s.srvIgnored w off old v then s.srvRef (w - W_PTP)
  else (s.wr w off v).written r w off old

/-- A write of a CFG or RUN register (R356 to R359, R363, R364, R466). -/
def State.runWrite (s : State) (r : Req) (w off : Nat) (row : RegRow) (f : Form) (v : Nat) : AccOut × State :=
  let old := s.view w off
  let x := aliasValue f old v (rsvOf w off row)
  if f ≠ .plain ∧ (stagedReg w off ∨ committingReg w off) then (.wign, s)
  else if ¬ mayWrite r w off then (.wign, s)
  else if row.cls = .cfg ∧ s.cfgHeld w off then (.wign, s)
  else
    match s.refuses r w off old x with
    | some t => (.wign, t)
    | none => (.ok, s.runTake r w off old x)

/-- A write of a CMD register (R356, R364). -/
def State.cmdWrite (s : State) (r : Req) (w off : Nat) (f : Form) (v : Nat) : AccOut × State :=
  if f ≠ .plain ∨ ¬ mayWrite r w off then (.wign, s)
  else
    match s.refuses r w off (s.view w off) v with
    | some t => (.wign, t)
    | none =>
      if stagedReg w off then (.ok, s.stage r w off v)
      else
        let pre : AccOut := if w = W_CAL ∧ off = CAL_SEQCMD ∧ s.seqStartWign v then .wign else .ok
        (pre, s.cmdEffect r w off v)

/-- The answer of a register window to a write (R354, R465): LOCKED, then WIGN, then the write itself. -/
def State.regWrite (s : State) (r : Req) (w off : Nat) (f : Form) (v : Nat) : AccOut × State :=
  match regRow w off with
  | none => (.ok, s)
  | some row =>
    if s.writeLocked w off f v then (.locked, s)
    else if w = W_GUARD then s.guardWrite f v
    else
      match row.cls with
      | .cfg => s.runWrite r w off row f v
      | .run => s.runWrite r w off row f v
      | .cmd => s.cmdWrite r w off f v
      | .sts => if f = .plain then (.ok, s.stsWrite w off v) else (.wign, s)
      | .ro => (.wign, s)
      | .snp => (.wign, s)

/-- What a block or memory of BAR0 does with a write of one word (R308, R367, R376). -/
def State.blockWrite (s : State) (r : Req) (a v : Nat) : AccOut × State :=
  if 0x20_0000 ≤ a then
    match memEngine a with
    | none => (.ok, s)
    | some k => if a < engDmem k then (.wign, s) else (.ok, s.memStore a 4 v)
  else s.regWrite r (a / 0x4000) (a % 0x1000) (formOf (a % 0x4000)) v

/-- The supplies have no stated reading: each read of PWR_VIN and PWR_RAILr shows a free value (log entry 67). -/
def State.pwrSample (s : State) (w off : Nat) : State :=
  if w = W_PWR ∧ PWR_VIN ≤ off ∧ off ≤ PWR_RAIL4 then
    let (x, t) := s.takeFree
    t.wr w off (x % 2 ^ 16)
  else s

/-- What a read does beside returning a value: its latches, and the accesses that count (R110, R404, R413). -/
def State.readEffect (s : State) (r : Req) (w off : Nat) : State :=
  let s1 := if w = W_OSC ∧ off = OSC_LS_Y_LO ∧ (s.latched r w off).isSome then s else s.latch r w (latchesOf w off)
  if w = W_OSC ∧ off = OSC_LS_INFO then s1.lsRead
  else if w = W_CAL ∧ off = CAL_TDATA then s1.tdataNext
  else if w = W_HLTH ∧ off = HLTH_LIFEDATA then s1.lifeNext
  else s1

/-- The answer of a register window to a read (R356, R365, R368, R375). -/
def State.regRead (s : State) (r : Req) (w off : Nat) : Nat × State :=
  match regRow w off with
  | none => (0, s)
  | some row =>
    let s1 := s.pwrSample w off
    let s2 := if row.cls = .cfg ∨ row.cls = .run then s1.parCheck w off else s1
    let v := match s2.latched r w off with
      | some x => x
      | none => s2.view w off
    (v, s2.readEffect r w off)

/-- A word of an engine's instruction memory: a stock image's lies in ROM (log entry 7). -/
def State.imemWord (s : State) (k off : Nat) : Nat × State :=
  match (s.eng k).rom with
  | some rom => (leNat ((List.range 4).map (fun i => Config.romByte rom (off + i))), s)
  | none => s.memLoad (engImem k + off) 4

/-- What a block or memory of BAR0 answers to a read of one word. -/
def State.blockRead (s : State) (r : Req) (a : Nat) : Nat × State :=
  if 0x20_0000 ≤ a then
    match memEngine a with
    | none => (0, s)
    | some k => if a < engDmem k then s.imemWord k (a - engImem k) else s.memLoad a 4
  else s.regRead r (a / 0x4000) (a % 0x1000)

/-! ### The access -/

/-- R326: whether the door reaches the address. -/
def inReach (r : Req) (write : Bool) (a : Nat) : Bool :=
  match r with
  | .i2c => decide (a < 0x40_0000) && (([W_SYS, W_FLT, W_HLTH, W_PWR].contains (a / 0x4000)) || (!write && a / 0x4000 == W_NVS))
  | _ => true

/-- R374: byte enables that are not contiguous. -/
def beBroken (be : BitVec 4) : Bool := [5, 9, 11, 13, 10].contains be.toNat

/-- The byte lanes of a value that are addressed (R373). -/
def beLanes (be : BitVec 4) (v : Nat) : Nat :=
  (List.range 4).foldl (fun x i => if be.getLsbD i then x + bitsOf v (8 * i) 8 * 2 ^ (8 * i) else x) 0

/-- What is decided before the block is asked (R465). -/
def early (r : Req) (write : Bool) (a : Nat) (be : BitVec 4) : Option AccOut :=
  if ¬ inReach r write a then some .reach
  else if a % 4 ≠ 0 ∨ (¬ write ∧ beBroken be) then some .align
  else if write ∧ be ≠ 15 then some .width
  else none

/-- All ones: what a read with a failing outcome returns (R354). -/
def ones : Word := BitVec.allOnes 32

/-- One write access by requester `r` and its outcome, recorded (R354, R355). -/
def State.coreWrite (s : State) (r : Req) (a : Nat) (be : BitVec 4) (v : Nat) : AccOut × State :=
  match early r true a be with
  | some o => (o, s.accRecord r true a o)
  | none =>
    let (o, t) := s.blockWrite r (a % 0x40_0000) v
    (o, t.accRecord r true a o)

/-- One read access by requester `r`: its outcome and value. -/
def State.coreRead (s : State) (r : Req) (a : Nat) (be : BitVec 4) : AccOut × Word × State :=
  match early r false a be with
  | some o => (o, ones, s.accRecord r false a o)
  | none =>
    let (v, t) := s.blockRead r (a % 0x40_0000)
    (.ok, BitVec.ofNat 32 (beLanes be v), t)

/-- R25: an access that the block does not answer: TIMEOUT; a write is abandoned and may still be carried out. -/
def State.timeoutAccess (s : State) (r : Req) (a : Nat) (v : Option Word) : AccOut × Word × State :=
  let write := v.isSome
  match early r write a 15 with
  | some o => (o, ones, s.accRecord r write a o)
  | none =>
    let s1 : State := match v with
      | some x => s.setAcc { s.acc with abandoned := s.acc.abandoned ++ [⟨r, a, x⟩] }
      | none => s
    (.timeout, ones, s1.accRecord r write a .timeout)

end Sys2Proof.Machine
end

