-- ==== Sys2Proof/Machine/Boot.lean ====
section
/-!
DEFINITION. Start-up from step 5 on (R453, R455, R456): the EARLYOUT script and the first load; and the register access
that every requester makes, which carries a soft reset on to its start-up.
-/

namespace Sys2Proof.Machine

/-- R455: an entry of the script may not address an ENG window or a memory window. -/
def scriptAddrBad (a : Nat) : Bool :=
  let w := a / 0x4000
  decide (0x80 ≤ w) || (decide (0x5c ≤ w) && decide (w < 0x67))

/-- R455: the entries in order; some index where one stops the script. -/
def State.scriptRun : List (Nat × Nat) → Nat → State → Option Nat × State
  | [], _, s => (none, s)
  | (a, v) :: es, i, s =>
    if scriptAddrBad a then (some i, s)
    else
      let (o, t) := s.coreWrite .script a 15 v
      if o = .ok then State.scriptRun es (i + 1) t else (some i, t)

/-- The entries of a script's bytes; none where MAGIC, COUNT or CRC fail (R455). -/
def scriptOf (bs : List Byte) : Option (List (Nat × Nat)) :=
  let n := leNat ((bs.drop 4).take 4)
  if leNat (bs.take 4) ≠ 0x5452_4353 ∨ n < 1 ∨ 1024 < n ∨ bs.length < 12 + 8 * n then none
  else if crc32 (bs.take (8 + 8 * n)) ≠ leNat ((bs.drop (8 + 8 * n)).take 4) then none
  else some ((List.range n).map (fun i => (leNat ((bs.drop (8 + 8 * i)).take 4), leNat ((bs.drop (12 + 8 * i)).take 4))))

/-- R455: the script has failed at entry `i`. -/
def State.scriptFail (s : State) (i : Nat) : State := (s.bootFail 3).put W_SYS SYS_BOOTINFO_SCRIPTIDX i

/-- R455: the script of slot EOSLOT. A script that fails its checks has no entry index that the spec states: a free value
(log entry 69). -/
def State.bootScript (s : State) : State :=
  let (bs, s1) : List Byte × State := match s.bootEntry (bitsOf s.bootSettings 4 4) with
    | some (start, len, _, _) => s.nvTake start len
    | none => ([], s)
  match scriptOf bs with
  | none =>
    let (i, t) := s1.takeFree
    t.scriptFail i
  | some es =>
    match State.scriptRun es 0 s1 with
    | (some i, t) => t.scriptFail i
    | (none, t) => ((t.put W_SYS SYS_STATE_EARLY 1).sts W_SYS SYS_STS 32).raise 0 31

/-- R456 steps 5 to 7: the script, then the loads; SUP's START holds that of the other engines. -/
def State.bootStep5 (s : State) : State :=
  let s1 := if bitOf s.bootSettings 0 then s.bootScript else s
  State.bootNext (List.range 11) (s1.setSys { s1.sys with phase := .loading, supStart := true })

/-- R449: after the instant of a soft reset start-up goes on without a wait. -/
def State.softResume (s : State) : State := if s.sys.soft ∧ s.sys.phase = .released then s.bootStep5 else s

/-- One write access by requester `r`, and what a soft reset does after it. -/
def State.busWrite (s : State) (r : Req) (a : Nat) (be : BitVec 4) (v : Nat) : AccOut × State :=
  let (o, t) := s.coreWrite r a be v
  (o, t.softResume)

/-- One read access by requester `r`. -/
def State.busRead (s : State) (r : Req) (a : Nat) (be : BitVec 4) : AccOut × Word × State := s.coreRead r a be

/-- A write at a door: its outcome is the answer. -/
def State.doorWrite (s : State) (r : Req) (a : Nat) (be : BitVec 4) (v : Nat) : State :=
  let (o, t) := s.busWrite r a be v
  t.emit (.answer r a o (BitVec.ofNat 32 v))

/-- A read at a door. -/
def State.doorRead (s : State) (r : Req) (a : Nat) (be : BitVec 4) : State :=
  let (o, v, t) := s.busRead r a be
  t.emit (.answer r a o v)

end Sys2Proof.Machine
end

