-- ==== Sys2Proof/Machine/Power.lean ====
section
/-!
DEFINITION. Power, reset and start-up (chapter 19): the supply's thresholds, RESET_N, thermal reset, and the steps of
start-up that the clocks and rails bring.
-/

namespace Sys2Proof.Machine

/-- The supply's registers, from the conditions of R443 that are present: 0 VINLOW, 1 VINHIGH, 2 + r rail r; 8 a VINLOW that
has been armed by time and not yet been detected. -/
def State.supplyRegs (s : State) : State :=
  let c := s.sys.conds
  let vin := b2n (c.contains 0 || c.contains 8) + 2 * b2n (c.contains 1)
  let rails := (List.range 5).foldl (fun v r => if c.contains (2 + r) then v + 2 ^ r else v) 0
  ((s.put W_PWR PWR_STATE_VINCOND vin).put W_PWR PWR_STATE_RAILBAD rails).put W_PWR PWR_STATE_SUPBAD (b2n (!c.isEmpty))

/-- Whether the device has been released from reset (R456 step 3). -/
def State.released (s : State) : Bool := s.sys.phase == .released || s.sys.phase == .loading || s.sys.phase == .done

/-- VIN_ON (R456 step 1): VIN rises through VINON. -/
def execVinOn (s : State) : Host.Outcome State Fault Refusal :=
  .next (if s.sys.vinOn then s
    else s.setSys { s.sys with vinOn := true, phase := if s.sys.phase = .off ∧ ¬ s.sys.thermal then .rails else s.sys.phase })

/-- POR_RELEASE (R456 steps 2 to 4): the rails are good. With RESET_N low start-up holds at step 3. -/
def execPorRelease (id : Fin 8) (boot : Fin 4) (s : State) : Host.Outcome State Fault Refusal :=
  .next (if s.sys.phase = .rails ∧ ¬ s.sys.thermal then
      (if s.sys.rstLow then s.setSys { s.sys with phase := .held } else s.release id boot)
    else s)

/-- RESET_N_ASSERT (R447): the pin has been low for 1 µs. Before step 3 it changes nothing yet. -/
def execResetNAssert (s : State) : Host.Outcome State Fault Refusal :=
  .next (if s.sys.rstLow then s
    else if s.released then
      s.hardReset { SysSt.reset with vinOn := s.sys.vinOn, rstLow := true, phase := .held, cause := 1 }
    else s.setSys { s.sys with rstLow := true })

/-- RESET_N_RELEASE (R447, R452): start-up resumes at step 3. -/
def execResetNRelease (id : Fin 8) (boot : Fin 4) (s : State) : Host.Outcome State Fault Refusal :=
  .next (if ¬ s.sys.rstLow then s
    else
      let t := s.setSys { s.sys with rstLow := false }
      if t.sys.phase = .held then t.release id boot else t)

/-- TB_PLL_LOCK (R190, R456 steps 5 and 6): the TB clock runs, C and time start at 0. -/
def execTbPllLock (s : State) : Host.Outcome State Fault Refusal :=
  .next (if s.sys.phase = .released ∧ ¬ s.tb.running then
      (s.setTb { s.tb with running := true, c := 0, t := 0, tickIdx := 0 }).bootStep5
    else s)

/-- SUPPLY_DETECTION (R443): condition `cond` has lasted 10 µs; VINLOW only where VIN has been above it. -/
def execSupplyDetection (cond : Fin 7) (s : State) : Host.Outcome State Fault Refusal :=
  .next (if ¬ s.released ∨ s.sys.conds.contains cond ∨ (cond.val = 0 ∧ ¬ s.sys.armed) then s
    else
      ((s.setSys { s.sys with conds := s.sys.conds ++ [cond.val] }).supplyRegs.fault W_PWR K_SUPPLY
        (regAddr W_PWR PWR_STATE)).pwrEvent 0)

/-- SUPPLY_CONDITION_END (R443): condition `cond` has ended; 7 the fall below VINFAIL. That VIN lies above VINLOW arms
VINLOW. -/
def execSupplyConditionEnd (cond : Fin 8) (s : State) : Host.Outcome State Fault Refusal :=
  .next (if cond.val = 7 then (s.put W_PWR PWR_STATE_VINFAIL 0).put W_NVS NVS_STATE_PWRHOLD 0
    else (s.setSys { s.sys with
      conds := s.sys.conds.filter (fun c => c != cond.val && !(cond.val == 0 && c == 8)), armed := s.sys.armed || cond.val == 0 }).supplyRegs)

/-- VINLOW_ARM_TIMEOUT (R443): VIN has not risen above VINLOW within 50 ms of the release: the condition is present from
now on. -/
def execVinlowArmTimeout (s : State) : Host.Outcome State Fault Refusal :=
  .next (if s.released ∧ ¬ s.sys.armed then
      (s.setSys { s.sys with armed := true, conds := s.sys.conds ++ [8] }).supplyRegs
    else s)

/-- VIN_FAIL (R423, R443, R457): VIN falls through VINFAIL: NVS begins no further row. PWR judges it from the release of
power-on reset. -/
def execVinFail (s : State) : Host.Outcome State Fault Refusal :=
  .next (if s.released then ((s.put W_PWR PWR_STATE_VINFAIL 1).put W_NVS NVS_STATE_PWRHOLD 1).nvCut else s)

/-- VIN_OFF (R447, R457): VIN falls through VINOFF: power-on reset. -/
def execVinOff (s : State) : Host.Outcome State Fault Refusal :=
  .next (s.hardReset { SysSt.reset with rstLow := s.sys.rstLow })

/-- THERMAL_RESET (R445): the die is too hot: as a power-on reset. -/
def execThermalReset (s : State) : Host.Outcome State Fault Refusal :=
  .next (s.hardReset { SysSt.reset with vinOn := s.sys.vinOn, rstLow := s.sys.rstLow, thermal := true, cause := 3 })

/-- THERMAL_RESET_RELEASE (R445): start-up resumes at step 1. -/
def execThermalResetRelease (s : State) : Host.Outcome State Fault Refusal :=
  .next (if s.sys.thermal then
      s.setSys { s.sys with thermal := false, phase := if s.sys.vinOn then .rails else .off }
    else s)

/-- SOFT_RESET (R449): a write of SYS_SOFTRST with its key. -/
def execSoftReset (r : Req) (v : Word) (s : State) : Host.Outcome State Fault Refusal :=
  .next (s.doorWrite r (regAddr W_SYS SYS_SOFTRST) 15 (putBits v.toNat 0 16 0x5e7a))

/-- BLOCK_RESET (R450): a write of SYS_BLKRST with its key. -/
def execBlockReset (r : Req) (v : Word) (s : State) : Host.Outcome State Fault Refusal :=
  .next (s.doorWrite r (regAddr W_SYS SYS_BLKRST) 15 (putBits v.toNat 16 16 0xb10c))

end Sys2Proof.Machine
end

