-- ==== Sys2Proof/Machine/Stock.lean ====
section
/-!
DEFINITION. The stock images (R318, R319): their parameter blocks, which take effect only through GEN (R88), and the
writes their programs make.
-/

namespace Sys2Proof.Machine

/-- A write that engine `k`'s program makes. -/
def State.engWrite (s : State) (k w off v : Nat) : State := (s.busWrite (.eng k) (regAddr w off) 15 v).2

/-- A little-endian field of a block. -/
def blkNat (bs : List Byte) (off n : Nat) : Nat := leNat ((bs.drop off).take n)

/-- The fields of stage `j` of the loop image's block (R88). -/
def stBw (bs : List Byte) (j : Nat) : Nat := blkNat bs (0x20 + 16 * j) 4
def stZeta (bs : List Byte) (j : Nat) : Nat := blkNat bs (0x24 + 16 * j) 2
def stFlags (bs : List Byte) (j : Nat) : Nat := blkNat bs (0x26 + 16 * j) 2
def stThr (bs : List Byte) (j : Nat) : Nat := blkNat bs (0x28 + 16 * j) 2
def stExit (bs : List Byte) (j : Nat) : Nat := blkNat bs (0x2a + 16 * j) 2
def stDwell (bs : List Byte) (j : Nat) : Nat := blkNat bs (0x2c + 16 * j) 4

/-- NSTAGE as it acts, and the last stage in use. -/
def nStage (bs : List Byte) : Nat := max 1 (blkNat bs 8 1)
def lastStage (bs : List Byte) : Nat := nStage bs - 1

/-- R88: why a loop block is rejected, 0 where it is valid. -/
def lpBlockBad (bs : List Byte) : Nat :=
  let used := List.range (nStage bs)
  if blkNat bs 0 2 ≠ 0x100 then 1
  else if 8 < nStage bs then 2
  else if used.any (fun j => decide (stBw bs j < 50 ∨ 4000000000 < stBw bs j)) then 3
  else if used.any (fun j => decide (stZeta bs j < 128 ∨ 2560 < stZeta bs j)) then 4
  else if used.any (fun j => decide (0 < j ∧ stBw bs (j - 1) ≤ stBw bs j)) then 5
  else 0

/-- R88, R319: why a block of image `rom` is rejected. No range of a field of the other images' blocks is stated (log
entry 72). -/
def stockBad (rom : Nat) (bs : List Byte) : Nat :=
  if rom = 1 then lpBlockBad bs
  else if blkNat bs 0 2 ≠ 0x100 then 1
  else if blkNat bs 2 2 ≠ 0x40 then 2
  else 0

/-- Words of a block, and where TAKEN and REJECT lie in it. -/
def blkWords (rom : Nat) : Nat := if rom = 1 then 24 else 8
def takenOff (rom : Nat) : Nat := if rom = 1 then 0xa0 else 8
def rejectOff (rom : Nat) : Nat := if rom = 1 then 0xa4 else 0xc

/-- A field of LPSTAT written by the loop program of loop `n`, where it changes. -/
def State.lpStat (s : State) (n lsb width v : Nat) : State :=
  let old := s.rn (wDpll n) DPLL_LPSTAT
  let new := putBits old lsb width v
  if new = old then s else s.engWrite (1 + n) (wDpll n) DPLL_LPSTAT new

/-- REJECT, and BLKREJ for the loop image (R88). -/
def State.blkReject (s : State) (k rom reason : Nat) : State :=
  let s1 := s.memStore (engDmem k + rejectOff rom) 4 reason
  if rom = 1 then s1.lpStat (k - 1) 10 1 (if reason = 0 then 0 else 1) else s1

/-- A valid block `bs` is taken (R88). -/
def State.blkTake (s : State) (k rom : Nat) (bs : List Byte) : State :=
  let g := blkNat bs 4 4
  ((s.memStore (engDmem k + takenOff rom) 4 g).blkReject k rom 0).modBlk k (fun _ => ⟨bs, g⟩)

/-- R319: START takes the block it finds, or puts the defaults in its place. -/
def State.blkStart (s : State) (k rom : Nat) : State :=
  let (bs, s1) := State.wordsTake (blkWords rom) s (engDmem k)
  let r := stockBad rom bs
  if r = 0 then s1.blkTake k rom bs
  else
    let d := stockDefaults rom
    ((s1.memFill (engDmem k) d).blkReject k rom r).modBlk k (fun _ => ⟨d, 0⟩)

/-- R88, R319: the program judges the block once GEN has changed. -/
def State.blkJudge (s : State) (k rom : Nat) : State :=
  let (v, s1) := s.memLoad (engDmem k) 8
  let g := v / 2 ^ 32
  if g = (s.blk k).judged then s1
  else
    let (bs, s2) := State.wordsTake (blkWords rom) s1 (engDmem k)
    let r := stockBad rom bs
    if r = 0 then s2.blkTake k rom bs
    else (s2.blkReject k rom r).modBlk k (fun b => { b with judged := g })

end Sys2Proof.Machine
end

