-- ==== Sys2Proof/Machine/LoopProgram.lean ====
section
/-!
DEFINITION. The stock loop program: the filter and the schedule (R83 to R88), the holdover word (R92), and the word in
bivouac (R104 to R108).
-/

namespace Sys2Proof.Machine

/-- The block in force of loop `n`'s program. -/
def State.lpBlk (s : State) (n : Nat) : List Byte := (s.blk (1 + n)).bytes

/-- A register of loop `n` written by its program. -/
def State.lpWrite (s : State) (n off v : Nat) : State := s.engWrite (1 + n) (wDpll n) off v

/-- A word committed to DCOW (R79). -/
def State.lpCommit (s : State) (n : Nat) (w : Int) : State :=
  let v := satSigned 48 w
  let u := ofSigned 48 v
  ((s.lpWrite n DPLL_DCOW_LO (u % 2 ^ 32)).lpWrite n DPLL_DCOW_HI (u / 2 ^ 32)).modLp n (fun x => { x with word := v })

/-- A word committed to HOWORD (R92). -/
def State.lpHoword (s : State) (n : Nat) (w : Int) : State :=
  let u := ofSigned 48 (satSigned 48 w)
  (s.lpWrite n DPLL_HOWORD_LO (u % 2 ^ 32)).lpWrite n DPLL_HOWORD_HI (u / 2 ^ 32)

/-- HOWORD itself. -/
def State.howord (s : State) (n : Nat) : Int := toSigned 48 (s.pair (wDpll n) DPLL_HOWORD_LO)

/-- Stage `j` begins; a stage beyond the last one in use acts as the last (R87; log entry 73). -/
def State.lpStage (s : State) (n j : Nat) : State :=
  let k := min j (lastStage (s.lpBlk n))
  (s.modLp n (fun x => { x with stage := k, stageAt := s.tb.c, under := none })).lpStat n 0 3 k

/-- Whether the stage is never left (R87), and whether it has FINAL set. A stage that a newly taken block no longer uses is
kept, and is never left, as the last one is: the spec does not say what becomes of it (log entry 73). -/
def State.lpStays (s : State) (n : Nat) : Bool :=
  bitOf (stFlags (s.lpBlk n) (s.lp n).stage) 1 || decide (lastStage (s.lpBlk n) ≤ (s.lp n).stage)
def State.lpFinal (s : State) (n : Nat) : Bool := bitOf (stFlags (s.lpBlk n) (s.lp n).stage) 1

/-- R86: the seed of the integral, in 2^-64: FOFF0, FOFF1 or the holdover word. -/
def State.lpSeed (s : State) (n : Nat) : Int :=
  let f (i : Nat) : Option Int :=
    let r := s.rn (wSrc (s.selCur n)) (SRC_FOFF0 + 4 * i)
    if r = 0x8000_0000 then none else some (quotFree (toSigned 32 r * 2 ^ 52) (10 ^ 9))
  ((f 0).or (f 1)).getD (s.howord n * 2 ^ 16)

/-- New phase samples of the source steered on since the last filter step (R83). -/
def State.lpSamples (s : State) (n : Nat) : Bin := lget ⟨0, 0⟩ (s.src (s.selSteer n)).sums n

/-- R83: the mean loop error of the new samples, in 2^-32 ns. -/
def State.lpError (s : State) (n : Nat) : Int :=
  let b := s.lpSamples n
  quotFree (b.sum * 2 ^ 16) b.count - s.selO n * 2 ^ 16 + quotFree (s.phoff n * 2 ^ 32) (10 ^ 6)

/-- R85: the bandwidth of `bw` µHz within 50 µHz and f/20, and whether the clamp acts. -/
def State.lpBw (s : State) (n bw : Nat) : Nat × Bool :=
  let up := quotFree (10 ^ 12) (20 * s.uper n)
  let per := s.srcPer (s.selSteer n)
  let lim := if per = 0 then up else min up (quotFree (10 ^ 15 * 2 ^ 32) (20 * per))
  let b := max 50 (min bw lim.toNat)
  (b, b != bw)

/-- R87: the schedule at a filter step: the exit conditions, and the next stage. -/
def State.lpSchedule (s : State) (n : Nat) : State :=
  let bs := s.lpBlk n
  let x := s.lp n
  let a := (toSigned 64 (s.pair (wDpll n) DPLL_ERR_LO)).natAbs * 4000
  let hold (t : State) : State :=
    let ok := decide (a ≤ stThr bs (t.lp n).stage * 2 ^ 32)
    t.modLp n (fun y => { y with under := if ok then y.under.or (some s.tb.c) else none })
  let s1 := hold s
  let j := x.stage
  let held (since : Nat) (ms : Nat) : Bool := decide ((ms * msU : Nat) ≤ signedDiff 96 s.tb.c since)
  let leave : Bool := match (s1.lp n).under with
    | none => false
    | some u => !s.lpStays n && held x.stageAt (stDwell bs j) && held u (stExit bs j)
  if leave then hold (s1.lpStage n (j + 1)) else s1

/-- R83: the new samples' mean error gives the next word. The time since the last step is not stated for the first one; a
stage beyond those in use filters with its own entry (log entry 73). -/
def State.lpFilter (s : State) (n : Nat) : State :=
  let bs := s.lpBlk n
  let e := s.lpError n
  let s1 := (s.modSrc (s.selSteer n) (fun x => { x with sums := lput ⟨0, 0⟩ x.sums n ⟨0, 0⟩ })).lpSchedule n
  let x := s1.lp n
  let (t, s2) : Nat × State := match x.stepAt with
    | some c0 => ((signedDiff 96 s.tb.c c0).toNat, s1)
    | none => s1.takeFree
  let (b, cl) := s.lpBw n (stBw bs x.stage)
  let zeta := stZeta bs x.stage
  let wn := loopWn b zeta
  let i := x.i + loopI wn t e
  let p0 := loopP wn zeta e
  let lim := slopeWord (s.slope n)
  let p := if bitOf (stFlags bs x.stage) 0 then clampInt (-lim) lim p0 else p0
  ((s2.modLp n (fun y => { y with i := i, stepAt := some s.tb.c, valid := true })).lpStat n 8 1 (b2n cl)).lpCommit n
    (quotFree i (2 ^ 16) + p)

/-- R86, R87: what the first filter step after an enable or a return from bivouac starts with. -/
def State.lpOwed (s : State) (n : Nat) : State :=
  let owes := (s.lp n).owes
  let s1 := s.modLp n (fun x => { x with owes := 0 })
  if owes = 1 ∨ owes = 2 then
    let s2 := s1.lpStage n (if owes = 1 then 0 else blkNat (s.lpBlk n) 9 1)
    if bitOf (blkNat (s.lpBlk n) 0xb 1) 0 then (s2.modLp n (fun x => { x with i := s.lpSeed n })).lpStat n 9 1 1 else s2
  else s1

/-- R83, R87: an update in TRACK or STALL. -/
def State.lpTrack (s : State) (n : Nat) : State :=
  let x := s.lp n
  let cur := s.selCur n
  let sw := blkNat (s.lpBlk n) 0xa 1
  let s1 := s.modLp n (fun y => { y with cur := cur })
  let s2 := if cur ≠ x.cur ∧ x.cur ≠ noSrc ∧ cur ≠ noSrc ∧ x.owes = 0 ∧ sw ≠ 0xff then s1.lpStage n sw else s1
  if s.pair (wDpll n) DPLL_ERR_LO = errInvalid ∨ (s.lpSamples n).count = 0 then s2.lpCommit n x.word
  else (s2.lpOwed n).lpFilter n

/-! ### Bivouac (R104 to R108) -/

/-- The codes of BVQ (R124). -/
def BivCase.code : BivCase → Nat
  | .none => 0 | .freerun => 1 | .anchor => 2 | .model => 3 | .full => 4 | .xolost => 5

/-- BVQ written where it changes. -/
def State.lpBvq (s : State) (n : Nat) (b : BivCase) : State :=
  if s.rn W_OSC (OSC_BV0 + 4 * n) = b.code then s else s.engWrite (1 + n) W_OSC (OSC_BV0 + 4 * n) b.code

/-- ŷ as the loop programs take it (R101). -/
def State.yhat (s : State) : Int := toSigned 48 s.predNow

/-- R104: the case, tested in the order written. -/
def State.lpCase (s : State) (n : Nat) : BivCase :=
  let anchorOk := s.flag W_OSC OSC_BVCTL_ANCHOR && decide (s.hoAge n ≤ s.get W_OSC OSC_BVCTL_ANCHMAX)
  if s.learned then (if anchorOk then .full else .model) else if s.hoAge n < 65535 then .anchor else .freerun

/-- R105: the change of ŷ from the set in force at the last update to the present one, both at the instant of the last
evaluation and the present θ. -/
def State.lpTrend (s : State) (n : Nat) : Int :=
  let y (x : OscSet) : Int := yWord ((s.setOsc { s.osc with inForce := x }).yInt (s.osc.evalIdx * msU))
  if s.flag W_OSC OSC_CTL_EVAL then y s.osc.inForce - y (s.lp n).set else 0

/-- BIVOUAC_WORD (R104 to R106): one update in BIVOUAC; `gen` says that GENIN has changed. -/
def State.lpBivouac (s : State) (n : Nat) (gen : Bool) : State :=
  let x := s.lp n
  if s.mon.xoLost then ((s.lpBvq n .xolost).modLp n (fun y => { y with biv := .xolost })).lpCommit n x.word
  else
    let again := x.biv == .none || x.biv == .xolost || ((x.biv == .anchor || x.biv == .freerun) && s.learned)
    let b := if again then s.lpCase n else x.biv
    let d := if again then s.holdover n + s.yhat else if gen ∧ b = .full then x.d + s.lpTrend n else x.d
    let w : Int := match b with
      | .full => d - s.yhat
      | .model => -s.yhat
      | .anchor => s.holdover n
      | _ => 0
    ((s.lpBvq n b).modLp n (fun y => { y with biv := b, d := d })).lpCommit n w

/-! ### Holdover learning (R92) -/

/-- Whether the loop has settled for HOWORD (R92): TRACK, selector state TRACK, PLOCK, a FINAL stage. -/
def State.lpSettled (s : State) (n : Nat) : Bool :=
  s.loopst n == 1 && s.selSt n == 3 && s.flag (wDpll n) DPLL_STATE_PLOCK && s.lpFinal n

/-- HOLEARN of the block in force. -/
def State.hoLearn (s : State) (n : Nat) : Bool := bitOf (blkNat (s.lpBlk n) 0xb 1) 1

/-- R92 at an update in state `st`: HOWORD is seeded at the first FLOCK after an enable, and since when the loop has settled is
kept. That the seed, too, asks for HOLEARN, and waits in BIVOUAC (R107) and FROZEN, is a choice (log entry 71). -/
def State.lpLearn (s : State) (n st : Nat) : State :=
  if ¬ s.hoLearn n ∨ st = 3 ∨ st = 5 then s.modLp n (fun x => { x with finalAt := none })
  else
    let x := s.lp n
    let s1 := if ¬ x.hoSeeded ∧ s.flag (wDpll n) DPLL_STATE_FLOCK then
        (s.lpHoword n (quotFree x.i (2 ^ 16))).modLp n (fun y => { y with hoSeeded := true })
      else s
    s1.modLp n (fun y => { y with finalAt := if s.lpSettled n then x.finalAt.or (some s.tb.c) else none })

/-- R92 at a supervisor tick: once the loop has settled for HOMIN, HOWORD takes the first-order average of the active word
with time constant HOTAU. The average goes on from HOWORD where another has written it (log entry 71). -/
def State.lpHoTick (s : State) (n : Nat) : State :=
  let e := s.eng (1 + n)
  let runs := e.rom == some 1 && (e.st == .idle || e.st == .busy || e.st == .waitq)
  match (s.lp n).finalAt with
  | none => s
  | some c0 =>
    if ¬ runs ∨ ¬ s.hoLearn n ∨ ¬ s.lpSettled n ∨
        signedDiff 96 s.tb.c c0 < (blkNat (s.lpBlk n) 0x10 4 * msU : Nat) then s
    else
      let h := s.howord n
      let a0 := (s.lp n).hoAvg
      let a := if quotFree a0 (2 ^ 48) = h then a0 else h * 2 ^ 48
      let a1 := a + lagPart (s.dco n * 2 ^ 48 - a) 1 (1000 * max 1 (blkNat (s.lpBlk n) 0xc 4))
      (s.lpHoword n (quotFree a1 (2 ^ 48))).modLp n (fun y => { y with hoAvg := a1 })

/-! ### The handlers -/

/-- UPDATE of the stock loop program: R107, the restart after a freeze (R94), then what the loop state asks for. -/
def State.lpUpdate (s : State) (n : Nat) : State :=
  let x := s.lp n
  let st := s.loopst n
  let gen := s.get W_OSC OSC_STATE_GENIN
  let s1 := if gen = x.gen then s else s.lpWrite n DPLL_HORAMP (ofSigned 32 (-s.osc.inForce.age))
  let en := (s.dpll n).enables
  let s2 := if en = x.enables then s1
    else (s1.modLp n (fun y =>
      { y with enables := en, owes := 1, word := s.dco n, stepAt := none, hoSeeded := false, finalAt := none })).lpStat n 9 1 0
  let h := s.holdover n
  let th := (s.dpll n).thaws
  let s3 := if x.thaws ≠ th ∧ st ≠ 5 then
      (s2.modLp n (fun y =>
        { y with thaws := th, i := h * 2 ^ 16, word := h, stepAt := none, owes := if s.selSt n = 0 then 0 else 3 })).lpStage n
        (blkNat (s.lpBlk n) 9 1)
    else s2
  let s4 := if st ≠ 3 ∧ x.biv ≠ .none then
      (s3.lpBvq n .none).modLp n (fun y =>
        { y with biv := .none, d := 0, stepAt := none, owes := if y.owes = 0 then 2 else y.owes })
    else s3
  let s5 := if st = 3 then s4.lpBivouac n (gen != x.gen)
    else if st = 6 then
      (s4.modLp n (fun y => { y with i := s.dco n * 2 ^ 16, stepAt := none })).lpCommit n (s.dco n)
    else if st = 2 then s4.lpCommit n (s4.lp n).word
    else if st = 1 ∨ st = 4 then s4.lpTrack n
    else s4
  let s6 := (s5.modLp n (fun y => { y with gen := gen, set := s.osc.inForce })).lpLearn n st
  s6.lpStat n 4 2 (if st = 3 then 2 else if st = 1 ∨ st = 0 then b2n (s6.lpStays n && st == 1) else 3)

/-- START of the stock loop program (R318, R319): from its record, or at RETSTAGE from the active word. The GENIN it last
followed stands, so that the first update writes HORAMP for a model that came into force before START (R107). -/
def State.lpStart (s : State) (n : Nat) : State :=
  let s1 := s.blkStart (1 + n) 1
  let x := s.lp n
  let i := if x.valid then x.i else s.dco n * 2 ^ 16
  (s1.modLp n (fun y =>
    { y with
      valid := true, i := i, word := s.dco n, stepAt := none, cur := s.selCur n, owes := 0
      thaws := (s.dpll n).thaws, enables := (s.dpll n).enables, biv := .none, d := 0, set := s.osc.inForce
      finalAt := none, hoSeeded := s.dpllOn n && s.flag (wDpll n) DPLL_STATE_FLOCK })).lpStage n
    (if x.valid then x.stage else blkNat (s1.lpBlk n) 9 1)

/-- The stock loop program's handlers; those of SELCHG and of routed inputs have no effect of their own that the spec
states. -/
def State.lpRun (s : State) (n ev : Nat) : State :=
  if ev = 63 then s.lpStart n else if ev = 0 then (s.blkJudge (1 + n) 1).lpUpdate n else s

end Sys2Proof.Machine
end

