-- ==== Sys2Proof/Machine/Monitor.lean ====
section
/-!
DEFINITION. The stock monitor program: consensus and the drift guard (R40 to R42), which MON0 evaluates for all sources,
and the verdicts (R46 to R48).
-/

namespace Sys2Proof.Machine

/-- An element put into a list in rising order. -/
def insertInt (x : Int) : List Int → List Int
  | [] => [x]
  | y :: ys => if x ≤ y then x :: y :: ys else y :: insertInt x ys

/-- R40: the median; of an even count the mean of the two middle values. None of no value. -/
def median (l : List Int) : Option Int :=
  let t := l.foldr insertInt []
  let n := t.length
  if n = 0 then none
  else if n % 2 = 1 then t[n / 2]?
  else some (quotFree (t.getD (n / 2 - 1) 0 + t.getD (n / 2) 0) 2)

/-- The window offset of source `n`, none while invalid (R38). -/
def State.foff (s : State) (n w : Nat) : Option Int :=
  let r := s.rn (wSrc n) (SRC_FOFF0 + 4 * w)
  if r = 0x8000_0000 then none else some (toSigned 32 r)

/-- R50, R42: changes of KIND apply at the evaluation. -/
def State.applyKinds (s : State) : State :=
  let b0 := s.qualCount 0
  let b1 := s.qualCount 1
  let t := (List.range 21).foldl (fun (t : State) n =>
    t.modSrc n (fun x => { x with kind := kindOf (s.get (wSrc n) SRC_EN_KIND) })) s
  (t.consLow 0 b0).consLow 1 b1

/-- The outcome of a source's consensus check on one window. -/
structure Cons where
  value : Option Int
  basis : Nat
  beyond : Bool
  margin : Bool
  deriving DecidableEq, Repr

/-- The limit exceeded, and exceeded with the HYST margin (R55). -/
def State.limits (s : State) (n : Nat) (v lim : Nat) : Bool × Bool :=
  (decide (lim < v), decide (lim * (256 - s.get (wSrc n) SRC_QCTL_HYST) < v * 256))

/-- R42: the mean of ŷ over window `w`, in 2^-12 ppb. -/
def State.yMean (s : State) (w : Nat) : Option Int :=
  (lget ⟨⟨0, 0⟩, [], none⟩ s.osc.ywins w).mean.map (fun y => quotFree (y * 10 ^ 9) (2 ^ 52))

/-- R40, R42: the check of source `n` on window `w`, from the state at the start of the evaluation. Where no other QUAL source of
the kind has a valid window, R40 gives no offset: COFF is invalid and the check passes (DESIGN CHOICE, log entry 84). -/
def State.consOf (s : State) (n w : Nat) : Cons :=
  let k := (s.src n).kind
  let qual := (List.range 21).filter (fun j => j != n && s.qstate j == 4 && (s.src j).kind == k)
  let tol := s.rn (wSrc n) (SRC_CTOL0 + 4 * w)
  let guard := k == 2 || decide (qual.length < 2)
  match s.foff n w with
  | none => ⟨none, if guard then (if s.learned then 1 else 2) else 0, false, false⟩
  | some y =>
    if guard then
      match s.learned, s.yMean w with
      | false, _ => ⟨none, 2, false, false⟩
      | true, none => ⟨none, 1, false, false⟩
      | true, some yh =>
        let (a, b) := s.limits n (y + yh).natAbs (tol + lget 0 s.osc.inForce.unc w)
        ⟨some (y + yh), 1, a, b⟩
    else
      match median (qual.filterMap (fun j => s.foff j w)) with
      | none => ⟨none, 0, false, false⟩
      | some m =>
        let (a, b) := s.limits n (y - m).natAbs tol
        ⟨some (y - m), 0, a, b⟩

/-- R41: whether source `n`, over its limit against the median, gives way to another QUAL source of its kind with a larger
offset, or to a higher-numbered one with the same. -/
def State.consYields (s : State) (n w : Nat) : Bool :=
  let c (j : Nat) : Nat := ((s.consOf j w).value.getD 0).natAbs
  s.qstate n == 4 && (List.range 21).any (fun j =>
    j != n && s.qstate j == 4 && (s.src j).kind == (s.src n).kind && (s.consOf j w).basis == 0 && (s.consOf j w).beyond &&
      decide (c n < c j ∨ (c n = c j ∧ n < j)))

/-- The result of source `n`'s check shown: COFF, BASIS and the failing windows (bits 0 to 2, the margin in 3 to 5). -/
def State.consShow (s before : State) (n w : Nat) : State :=
  let r := before.consOf n w
  let wn := wSrc n
  if before.qstate n < 2 then s
  else if r.basis = 2 then
    let s1 := (List.range 3).foldl (fun (t : State) i => t.wr wn (SRC_COFF0 + 4 * i) 0x8000_0000) s
    (s1.put wn SRC_STATE_BASIS 2).modSrc n (fun x => { x with consFail := 0 })
  else
    let fails := r.beyond && !(r.basis == 0 && before.consYields n w)
    let s1 := s.wr wn (SRC_COFF0 + 4 * w) (match r.value with | none => 0x8000_0000 | some v => fit32 v)
    (s1.put wn SRC_STATE_BASIS r.basis).modSrc n (fun x =>
      { x with consFail := putBits (putBits x.consFail w 1 (b2n fails)) (3 + w) 1 (b2n r.margin) })

/-- CONSENSUS_EVALUATION (R40, R41): MON0, from the window values of one bin close of `w`. -/
def State.consensus (s : State) (w : Nat) : State :=
  let s0 := s.applyKinds
  (List.range 21).foldl (fun t n => t.consShow s0 n w) s0

/-- One check of a verdict: its bit, and whether it fails or exceeds its margin. -/
def checkBits (l : List (Nat × Bool × Bool)) : Nat × Bool :=
  (l.foldl (fun v c => if c.2.1 then v + 2 ^ c.1 else v) 0, l.all (fun c => !c.2.1 && !c.2.2))

/-- R46 to R48: the verdict of source `n`: failing checks in the order of SRCn_CHK, and HYSTOK. -/
def State.verdict (s : State) (n : Nat) : Nat :=
  let w := wSrc n
  let win (i : Nat) : Nat × Bool × Bool :=
    (1 + i, match s.foff n i with | none => (false, false) | some y => s.limits n y.natAbs (s.rn w (SRC_FTOL0 + 4 * i)))
  let con (i : Nat) : Nat × Bool × Bool := (4 + i, bitOf (s.src n).consFail i, bitOf (s.src n).consFail (3 + i))
  let off (b lim : Nat) (v : Option Nat) : Nat × Bool × Bool :=
    (b, match v with | some x => if lim = 0 then (false, false) else s.limits n x lim | none => (false, false))
  let stat (b lim reg i : Nat) : Nat × Bool × Bool :=
    let v := s.rn w (reg + 4 * i)
    off (b + i) (s.rn w (lim + 4 * i)) (if v = 2 ^ 32 - 1 then none else some v)
  let pd := s.rn w SRC_PDRIFT
  let (f, ok) := checkBits ([(0, decide ((s.src n).bucket ≠ 0), false), win 0, win 1, win 2, con 0, con 1, con 2,
      off 7 (s.rn w SRC_PDTOL) (if pd = 0x8000_0000 then none else some (toSigned 32 pd).natAbs)] ++
    (List.range 5).map (stat 8 SRC_MTIELIM0 SRC_MTIE0) ++ (List.range 5).map (stat 13 SRC_TDEVLIM0 SRC_TDEV0))
  f + 2 ^ 31 * b2n ok

/-- Whether the verdict differs from the last one (R48). -/
def State.verdictNew (s : State) (n : Nat) : Bool :=
  match (s.src n).verdict with
  | none => true
  | some v => s.verdict n != s.rn (wSrc n) SRC_CHK % 2 ^ 18 + 2 ^ 31 * b2n v.hyst

/-- R48: the verdicts that MON engine `k` writes at a bin close of window `w`. -/
def State.monVerdicts (s : State) (k w : Nat) : State :=
  (List.range 21).foldl (fun (t : State) n =>
    if monOf n = k ∧ 2 ≤ t.qstate n ∧ (w = 1 ∨ (w = 0 ∧ t.verdictNew n)) then
      t.engWrite k (wSrc n) SRC_VERDICT (t.verdict n)
    else t) s

/-- The stock monitor program's handlers. -/
def State.monRun (s : State) (k ev : Nat) : State :=
  if ev = 63 then s.blkStart k 2
  else
    let s1 := s.blkJudge k 2
    if 3 ≤ ev then s1
    else (if k = 5 then s1.consensus ev else s1).monVerdicts k ev

end Sys2Proof.Machine
end

