-- ==== Sys2Proof/Machine/PortProgram.lean ====
section
/-!
DEFINITION. The stock port program (R229, R230, R236, R238, R241, R243): what it reads from the records of its RXQ, the
offsets and delays it forms and commits, the path watch, and the ESMC PDUs it sends. It runs on engine 9 + n for port n.
-/

namespace Sys2Proof.Machine

def State.prog (s : State) (n : Nat) : PtProg := (s.ptp n).prog
def State.modProg (s : State) (n : Nat) (f : PtProg → PtProg) : State := s.modPtp n (fun x => { x with prog := f x.prog })

/-- A write that the port program of port `n` makes. -/
def State.ptWrite (s : State) (n w off v : Nat) : State := s.engWrite (9 + n) w off v

/-! ### Messages (IEEE 1588-2019; log entry 94) -/

/-- The correctionField of the message at `h`, in TB units; the timestamp in its body; its sequenceId; twoStepFlag. -/
def msgCorr (f : List Byte) (h : Nat) : Int := toSigned 64 (beNat ((f.drop (h + 8)).take 8))
def msgTime (f : List Byte) (h : Nat) : Int :=
  ((beNat ((f.drop (h + 34)).take 6) * 10 ^ 9 + beNat ((f.drop (h + 40)).take 4)) * 65536 : Nat)
def msgSeq (f : List Byte) (h : Nat) : Nat := be16At f (h + 30)
def msgTwoStep (f : List Byte) (h : Nat) : Bool := bitOf (byteAt f (h + 6)) 1

/-! ### The path watch (R236) -/

/-- PATHGUARD in TB units; 0 turns detection off. -/
def State.pathGuard (s : State) (n : Nat) : Nat := s.get (wPtp n) PTP_PATH_PATHGUARD * nsU

/-- MPDREF as the program keeps it: the mean of the delays accepted, at most 16. -/
def PtProg.ref (x : PtProg) : Int := quotFree x.refs.sum x.refs.length

/-- R236: the program enters path hold: PATHDELTA, then PATHHOLD. -/
def State.ptHold (s : State) (n : Nat) (delta : Int) : State :=
  ((s.modProg n (fun x => { x with suspect := 0 })).ptWrite n (wPtp n) PTP_PATHDELTA (fit32 delta)).ptWrite n (wPtp n) PTP_CMD 1

/-- R236: a delay accepted into MPDREF. -/
def State.ptAcceptDelay (s : State) (n : Nat) (mpd : Int) : State :=
  let s1 := s.modProg n (fun x =>
    let r := x.refs ++ [mpd]
    { x with refs := r.drop (r.length - 16), suspect := 0 })
  s1.ptWrite n (wPtp n) PTP_MPDREF (fit32 (s1.prog n).ref)

/-- R230, R236: a new mean path delay whose stamps carry epoch `epoch`. After a path hold or rejection has ended, MPDREF
begins anew (log entry 95). -/
def State.ptDelay (s : State) (n : Nat) (mpd : Int) (epoch : Nat) : State :=
  let st := s.pathSt n
  let anew := (s.prog n).pathSeen ≠ 0 ∧ st = 0
  let s1 := s.modProg n (fun x =>
    { x with mpd := some (mpd, epoch), pathSeen := st, refs := if anew then [] else x.refs,
             suspect := if anew then 0 else x.suspect })
  let x := s1.prog n
  let g := s.pathGuard n
  if st ≠ 0 then s1
  else if g ≠ 0 ∧ x.refs ≠ [] ∧ g < (mpd - x.ref).natAbs then
    if max 1 (s.get (wPtp n) PTP_PATH_MPDN) ≤ x.suspect + 1 then s1.ptHold n (mpd - x.ref)
    else s1.modProg n (fun y => { y with suspect := y.suspect + 1 })
  else s1.ptAcceptDelay n mpd

/-- R236: the port's frequency reference, in TB units per second: its SyncE source where it is QUAL, else OSC_PRED with
LEARNED, else none; true marks SyncE. -/
def State.ptFreq (s : State) (n : Nat) : Option (Bool × Int) :=
  if s.qstate (16 + n) = 4 then
    (if s.rn (wSrc (16 + n)) SRC_FOFF0 = 2 ^ 31 then none else some (true, 16 * s.ri (wSrc (16 + n)) SRC_FOFF0))
  else if s.learned then some (false, quotFree (toSigned 48 s.predNow * 10 ^ 9) (2 ^ 32))
  else none

/-- R236: whether the reference's change explains a step of the mean offset. -/
def explains (a b : Option (Bool × Int)) (step : Int) : Bool :=
  match a, b with
  | some (k, x), some (l, y) => k == l && decide (step.natAbs ≤ 2 * (y - x).natAbs)
  | _, _ => false

/-- R236: an offset enters its 1 s window; a window that ends is compared with the one before. While a time step is pending
(R233) none is compared (log entry 95). -/
def State.ptWindow (s : State) (n : Nat) (o : Int) : State :=
  let x := s.prog n
  let i := s.tb.c / secU
  if i = x.winIdx then s.modProg n (fun y => { y with win := y.win.add o })
  else
    let whole := x.win.count ≠ 0 ∧ i = x.winIdx + 1 ∧ ¬ s.stepPend n
    let mean : Option Int := if whole then some (quotFree x.win.sum x.win.count) else none
    let f := s.ptFreq n
    let s1 := s.modProg n (fun y =>
      { y with win := ⟨o, 1⟩, winIdx := i, winLast := mean, freqLast := if whole then f else none })
    match x.winLast, mean with
    | some a, some b =>
      if s.pathGuard n ≠ 0 ∧ s.pathSt n = 0 ∧ s.pathGuard n < (b - a).natAbs ∧ ¬ explains x.freqLast f (b - a) then
        s1.ptHold n ((x.mpd.getD (0, 0)).1 - x.ref)
      else s1
    | _, _ => s1

/-! ### Offsets (R230) -/

/-- R230: the commit of an offset whose t2 carries epoch `epoch`. -/
def State.ptCommit (s : State) (n epoch : Nat) (mpd o : Int) : State :=
  let w := wPtp n
  let m := ofSigned 64 mpd
  let v := ofSigned 64 o
  ((((s.ptWrite n w PTP_OFSEP epoch).ptWrite n w PTP_MPD_LO (m % 2 ^ 32)).ptWrite n w PTP_MPD_HI (m / 2 ^ 32)).ptWrite n w
    PTP_OFS_LO (v % 2 ^ 32)).ptWrite n w PTP_OFS_HI (v / 2 ^ 32)

/-- R230, R236, R238: the offset of the newest Sync, with MPDREF in place of the delay while REJECTED; a measurement of mixed
epochs is discarded, and none is committed while the suspicion is open. -/
def State.ptOffset (s : State) (n : Nat) : State :=
  match (s.prog n).t1, (s.prog n).t2, (s.prog n).mpd with
  | some a, some b, some (d, e) =>
    if b.epoch ≠ some e then s
    else
      let mpd := if s.pathSt n = 2 then s.ri (wPtp n) PTP_MPDREF else d
      let o := b.time - a.time - mpd - s.ri (wPtp n) PTP_ASYM
      let s1 := s.ptWindow n o
      if (s1.prog n).suspect ≠ 0 then s1 else s1.ptCommit n e mpd o
  | _, _, _ => s

/-- t1 and t2 of a Sync are complete. -/
def State.ptSync (s : State) (n : Nat) (t1 : Int) (t2 : PtpStamp) : State :=
  (s.modProg n (fun x => { x with sync := none, t1 := some ⟨t2.seq, t1, none, t2.count⟩, t2 := some t2 })).ptOffset n

/-- R230: end-to-end: t4 has arrived; `t4` has its correction removed. -/
def State.ptDelayResp (s : State) (n seq : Nat) (t4 : Int) : State :=
  match (s.prog n).t1, (s.prog n).t2, (s.prog n).t3 with
  | some a, some b, some c =>
    match b.epoch, c.epoch with
    | some e, some e' =>
      if c.seq ≠ seq then s
      else
        let s1 := s.modProg n (fun x => { x with t3 := none })
        if e = e' then s1.ptDelay n (quotFree ((b.time - a.time) + (t4 - c.time)) 2) e else s1
    | _, _ => s
  | _, _, _ => s

/-- Peer-to-peer: the delay from t1, t4 less the responder's turnaround, once both are known. -/
def State.ptPeer (s : State) (n : Nat) (t4 : PtpStamp) (turn : Int) : State :=
  match (s.prog n).t3 with
  | some t1 =>
    if t1.seq ≠ t4.seq then s
    else
      let s1 := s.modProg n (fun x => { x with t3 := none, turn := none })
      match t1.epoch, t4.epoch with
      | some e, some e' => if e = e' then s1.ptDelay n (quotFree (t4.time - t1.time - turn) 2) e else s1
      | _, _ => s1
  | none => s

/-- Whether the program measures: as SLAVE, or by MONPORT (R239). -/
def State.ptMeasures (s : State) (n : Nat) : Bool := s.slave n || s.flag (wPtp n) PTP_CTL_MONPORT

/-- A received message with its header at `h` of frame `f`; `t` is its stamp. A message of another domain is no concern of the
port (R224). -/
def State.ptMessage (s : State) (n : Nat) (f : List Byte) (h : Nat) (t : PtpStamp) : State :=
  let ty := byteAt f h % 16
  let c := msgCorr f h
  let p2p := s.flag (wPtp n) PTP_CFG_DELAYMECH
  if byteAt f (h + 4) ≠ s.get (wPtp n) PTP_CFG_DOMAIN then s
  else if ty = 11 then s.modProg n (fun x => { x with parent := some (byteAt f (h + 48), s.tb.c) })
  else if ¬ s.ptMeasures n then s
  else if ty = 0 then
    let t2 := { t with time := t.time - c }
    if msgTwoStep f h then s.modProg n (fun x => { x with sync := some t2 }) else s.ptSync n (msgTime f h) t2
  else if ty = 8 then
    match (s.prog n).sync with
    | some t2 => if t2.seq = t.seq then s.ptSync n (msgTime f h + c) t2 else s
    | none => s
  else if ty = 9 ∧ ¬ p2p then s.ptDelayResp n t.seq (msgTime f h - c)
  else if ty = 3 ∧ p2p then
    if msgTwoStep f h then s.modProg n (fun x => { x with turn := some { t with time := t.time - c + msgTime f h } })
    else s.ptPeer n t c
  else if ty = 10 ∧ p2p then
    match (s.prog n).turn with
    | some t4 => if t4.seq = t.seq then s.ptPeer n t4 (msgTime f h + c) else s
    | none => s
  else s

/-! ### ESMC (R241, R243) -/

/-- R241: the PDU of G.8264 in a frame: its SSM code, and the enhanced code where the extended QL TLV is there, as a write of
SYE_RXSSM. -/
def esmcWord (f : List Byte) : Nat :=
  let ext := byteAt f 28 == 2 && be16At f 29 == 20
  byteAt f 27 % 16 + (if ext then byteAt f 31 * 2 ^ 8 + 2 ^ 16 else 0)

/-- R243: the PDU that port `n` sends; `event` tells an event PDU from an information PDU. -/
def State.esmcFrame (s : State) (n : Nat) (event : Bool) : List Byte :=
  let q := bitsOf (s.rn W_SYE SYE_TXQL) (16 * n) 16
  let mac := beBytes 2 (s.get (wEth n) ETH_MAC_HI_V) ++ beBytes 4 (s.rn (wEth n) ETH_MAC_LO)
  let ext : List Byte := if s.flag W_SYE SYE_CFG_ENH then
      beBytes 1 2 ++ beBytes 2 20 ++ beBytes 1 (bitsOf q 8 8) ++ mac.take 3 ++ beBytes 2 0xfffe ++ mac.drop 3 ++
        beBytes 1 0 ++ beBytes 1 1 ++ beBytes 6 0
    else []
  let f := beBytes 6 0x0180c2000002 ++ mac ++ beBytes 2 0x8809 ++ beBytes 1 0x0a ++ beBytes 3 0x0019a7 ++ beBytes 2 1 ++
    beBytes 1 (0x10 + 8 * b2n event) ++ beBytes 3 0 ++ beBytes 1 1 ++ beBytes 2 4 ++ beBytes 1 (bitsOf q 4 4) ++ ext
  f ++ List.replicate (60 - f.length) 0

/-- R226, R243: a frame put into the next transmit buffer, and its descriptor into TXQ. -/
def State.ptSend (s : State) (n : Nat) (f : List Byte) : State :=
  let b := (s.prog n).txBuf
  let s1 := (s.memFill (s.ptpBuf n + 16384 + 256 * b) (leBytes 2 f.length ++ f)).modProg n (fun x =>
    { x with txBuf := (b + 1) % 32 })
  (s1.qPutEngine (9 + 4 * n) (BitVec.ofNat 256 b) false).2

/-- ESMCTICK and ESMCCHG (R243): a port with TXEN sends its PDU. -/
def State.ptEsmc (s : State) (n : Nat) (event : Bool) : State :=
  if bitOf (s.rn W_SYE SYE_CTL) (2 + n) then s.ptSend n (s.esmcFrame n event) else s

/-! ### Records (R223) -/

/-- One record of RXQ: a message received, a stamp of a message sent, or an ESMC PDU. -/
def State.ptTake (s : State) (n : Nat) (e : BitVec 256) : State :=
  let v := e.toNat
  let stamp (seq : Nat) : PtpStamp :=
    ⟨seq, (parseTime (bitOf v 136) (bitsOf v 0 96) : Nat), some (bitsOf v 96 16), s.tb.c⟩
  let kind := bitsOf v 120 8
  let load (a : Nat) : List Byte × State :=
    let (len, s1) := s.memLoad a 2
    State.memTake (min 254 len) s1 (a + 2)
  if kind = 0 then
    let (f, s1) := load (s.ptpBuf n + 256 * bitsOf v 144 8)
    s1.ptMessage n f (txHeader f).1 (stamp (msgSeq f (txHeader f).1))
  else if kind = 1 then
    if (bitsOf v 152 8 = 1 ∨ bitsOf v 152 8 = 2) ∧ ¬ bitOf v 142 then
      s.modProg n (fun x => { x with t3 := some (stamp (bitsOf v 160 16)) })
    else s
  else if kind = 2 then
    let (f, s1) := load (s.ptpBuf n + 256 * bitsOf v 144 8)
    s1.ptWrite n W_SYE (SYE_RXSSM0 + 4 * n) (esmcWord f)
  else s

/-- The handlers of the stock port program. -/
def State.ptRun (s : State) (k ev : Nat) : State :=
  let n := k - 9
  let q := 8 + 4 * n
  if ev = 63 then (s.blkStart k 3).modProg n (fun _ => PtProg.fresh)
  else
    let s1 := s.blkJudge k 3
    if ev = 0 then s1.ptEsmc n false
    else if ev = 1 then s1.ptEsmc n true
    else if ev = 8 ∧ s1.qEnabled q ∧ ¬ s1.qEmpty q then
      let (e, s2) := s1.qPop q
      s2.ptTake n e
    else s1

end Sys2Proof.Machine
end

