-- ==== Sys2Proof/Machine/SupProgram.lean ====
section
/-!
DEFINITION. The stock supervisor program: learning the oscillator model (R111 to R115), the lifetime records (R414), the
ageing plan (R410), path decisions (R238), the clocks of the ports (R229), and its START (R454); and the one entry by which a stock image's handler runs.
-/

namespace Sys2Proof.Machine

/-- FLAGS and SAVEINT of the block in force (R319). -/
def State.supFlag (s : State) (b : Nat) : Bool := bitOf (blkNat (s.blk 0).bytes 0x14 1) b
def State.saveInt (s : State) : Nat := blkNat (s.blk 0).bytes 0x18 4

def State.supWrite (s : State) (w off v : Nat) : State := s.engWrite 0 w off v

/-! ### The model (R111 to R116) -/

/-- C in seconds. -/
def State.secNow (s : State) : Nat := s.tb.c / secU

/-- The model record's fields from Y0 to TSEL and the zeros (R434). -/
def State.modelBytes (s : State) : List Byte :=
  let x := s.oscShadows
  leBytes 8 (ofSigned 64 x.y0) ++ leBytes 4 (ofSigned 32 x.age) ++ leBytes 4 (ofSigned 32 x.k1) ++
    leBytes 4 (ofSigned 32 x.k2) ++ leBytes 4 (ofSigned 32 x.t0) ++ leBytes 4 x.sigf ++ leBytes 4 x.siga ++
    x.unc.flatMap (leBytes 4) ++ leBytes 1 x.lstate ++ leBytes 1 (s.get W_OSC OSC_CFG_TSEL) ++ List.replicate 6 0

/-- R115: the model is saved. -/
def State.modelSave (s : State) : State :=
  (s.nvSubmit (.model s.modelBytes)).setSup { s.sup with savedAt := s.tb.c }

/-- R111: whether the model is being fitted: LEARN and LSAMP. -/
def State.learning (s : State) : Bool := s.supFlag 2 && s.flag W_OSC OSC_CTL_LSAMP

/-! #### The fit (R111). Residuals and basis values are in units of 2^-88. -/

/-- The residual of a bin or sample against set `x`; the temperature terms count while `temp` (R102). -/
def OscSet.residual (x : OscSet) (temp : Bool) (b : FitBin) : Int :=
  b.y * 2 ^ 40 - (x.y0 * 2 ^ 40 + x.age * ((b.at_ : Int) - x.tref) * 2 ^ 24 + (if temp then x.temp b.th else 0))

/-- The factors of Y0, AGE, K1 and K2 in ŷ of a bin. -/
def OscSet.basis (x : OscSet) (b : FitBin) : List Int :=
  [2 ^ 40, ((b.at_ : Int) - x.tref) * 2 ^ 24, (b.th - x.t0) * 2 ^ 20, (b.th - x.t0) * (b.th - x.t0)]

/-- The coefficients fitted, in the order of `basis`, put into a set. -/
def OscSet.coeffs (x : OscSet) : List Int := [x.y0, x.age, x.k1, x.k2]
def OscSet.withCoeffs (x : OscSet) (c : List Int) : OscSet :=
  { x with y0 := satSigned 48 (lget 0 c 0), age := satSigned 32 (lget 0 c 1), k1 := satSigned 32 (lget 0 c 2)
           k2 := satSigned 32 (lget 0 c 3) }

/-- The determinant of a square matrix of size `n`, expanded along its first column. -/
def detOf : Nat → List (List Int) → Int
  | 0, _ => 1
  | n + 1, rows =>
    ((List.range rows.length).map (fun i =>
      let m := ((rows.take i) ++ (rows.drop (i + 1))).map (fun r => r.drop 1)
      (if i % 2 = 0 then 1 else -1) * lget 0 (lget [] rows i) 0 * detOf n m)).sum

/-- R111: the forgetting weight of a bin `age` seconds old, in 2^-32: exp(-age / LMEM days). -/
def State.fitWeight (s : State) (age : Nat) : Int := expNeg age (max 1 (s.get W_OSC OSC_LCTL_LMEM) * 86400) / 2 ^ 64

/-- The weighted bins as weight, basis of the fitted coefficients, and what these have to account for. -/
def State.fitRows (s : State) (x : OscSet) (on : List Bool) (bins : List FitBin) : List (Int × List Int × Int) :=
  let now := match bins.getLast? with | some b => b.at_ | none => 0
  let pick (l : List Int) (v : Bool) : List Int := ((l.zip on).filter (fun p => p.2 == v)).map (fun p => p.1)
  bins.map (fun b =>
    let held := ((pick x.coeffs false).zip (pick (x.basis b) false)).map (fun p => p.1 * p.2)
    (s.fitWeight (now - b.at_), pick (x.basis b) true, b.y * 2 ^ 40 - held.sum))

/-- The normal equations: Σ w φ_j φ_k, and Σ w φ_j y. -/
def normalMatrix (rows : List (Int × List Int × Int)) (p : Nat) : List (List Int) :=
  (List.range p).map (fun j => (List.range p).map (fun k =>
    (rows.map (fun r => r.1 * lget 0 r.2.1 j * lget 0 r.2.1 k)).sum))
def normalRight (rows : List (Int × List Int × Int)) (p : Nat) : List Int :=
  (List.range p).map (fun j => (rows.map (fun r => r.1 * lget 0 r.2.1 j * r.2.2)).sum)

/-- The solution of the normal equations by Cramer's rule; none where they are singular. -/
def solveNormal (m : List (List Int)) (rhs : List Int) (p : Nat) : Option (List Int) :=
  let d := detOf p m
  if d ≤ 0 then none
  else some ((List.range p).map (fun j => roundFree (detOf p ((m.zip rhs).map (fun r => r.1.set j r.2))) d))

/-- The fitted coefficients put back among those kept. -/
def mergeFit : List Int → List Bool → List Int → List Int
  | c :: cs, false :: on, fit => c :: mergeFit cs on fit
  | _ :: cs, true :: on, f :: fit => f :: mergeFit cs on fit
  | cs, _, _ => cs

/-- R111: the rms of residuals over the last 24 h, in 2^-56. -/
def sigfOf (rs : List Int) : Nat := sqrtFree (rs.map (fun r => r * r)).sum.toNat (max 1 rs.length * 2 ^ 64)

/-- The means of the residuals over windows of `u` seconds, by the window's number on C. -/
def windowMeans (u : Nat) : List (Nat × Int) → List Bin
  | [] => []
  | [p] => [⟨p.2, 1⟩]
  | p :: q :: t =>
    match windowMeans u (q :: t) with
    | [] => [⟨p.2, 1⟩]
    | b :: bs => if p.1 / u = q.1 / u then b.add p.2 :: bs else ⟨p.2, 1⟩ :: b :: bs

/-- R111: three times the rms of the residuals averaged over windows, in 2^-12 ppb. -/
def uncOf (bs : List Bin) : Nat :=
  let ms := bs.map (fun b => quotFree b.sum b.count)
  min (2 ^ 32 - 1) (sqrtFree (9 * (ms.map (fun m => m * m)).sum.toNat * (10 ^ 18 * 2 ^ 24)) (max 1 ms.length * 2 ^ 176))

/-- R111: SIGA, the standard error of AGE, where AGE is fitted: s² times the diagonal element of the inverse. -/
def State.sigaOf (s : State) (x : OscSet) (on : List Bool) (bins : List FitBin) : Nat :=
  let p := (on.filter id).length
  let rows := s.fitRows x on bins
  let m := normalMatrix rows p
  let d := detOf p m
  let cof := detOf (p - 1) (((m.take 1) ++ (m.drop 2)).map (fun r => r.take 1 ++ r.drop 2))
  let sse := (bins.map (fun b =>
    s.fitWeight ((match bins.getLast? with | some l => l.at_ | none => 0) - b.at_) * x.residual s.tempOn b *
      x.residual s.tempOn b)).sum
  if ¬ lget false on 1 ∨ bins.length ≤ p ∨ d ≤ 0 then x.siga
  else min (2 ^ 32 - 1) (sqrtFree (sse * cof).toNat ((bins.length - p) * d.toNat))

/-- R111: the set fitted to `bins` (oldest first) with the coefficients marked in `on`, the others kept; T0 is the mean of θ;
TREF stays (log entry 74). -/
def State.fitted (s : State) (bins : List FitBin) (on : List Bool) : OscSet :=
  let x0 := { s.oscShadows with t0 := satSigned 32 (quotFree (bins.map FitBin.th).sum (max 1 bins.length)) }
  let p := (on.filter id).length
  let rows := s.fitRows x0 on bins
  let x1 := match solveNormal (normalMatrix rows p) (normalRight rows p) p with
    | none => x0
    | some c => x0.withCoeffs (mergeFit x0.coeffs on c)
  let day (b : FitBin) : Bool := decide (s.tb.c / secU ≤ b.at_ + 86400)
  let res (l : List FitBin) : List (Nat × Int) := (l.filter day).map (fun b => (b.at_, x1.residual s.tempOn b))
  let smp := res s.sup.samples
  { x1 with
    sigf := min (2 ^ 32 - 1) (sigfOf ((res bins).map (fun r => r.2)))
    siga := s.sigaOf x1 on bins
    unc := [uncOf (smp.map (fun r => ⟨r.2, 1⟩)), uncOf (windowMeans 10 smp), uncOf (windowMeans 1000 (res bins))] }

/-- R111 step 4: the set's registers and LSTATE are written, then GEN. -/
def State.modelWrite (s : State) (x : OscSet) (lstate : Nat) : State :=
  let y := ofSigned 48 x.y0
  let s1 := [(OSC_Y0_LO, y % 2 ^ 32), (OSC_Y0_HI, y / 2 ^ 32), (OSC_AGE, ofSigned 32 x.age), (OSC_K1, ofSigned 32 x.k1),
    (OSC_K2, ofSigned 32 x.k2), (OSC_T0, ofSigned 32 x.t0), (OSC_SIGF, x.sigf), (OSC_SIGA, x.siga),
    (OSC_UNC0, lget 0 x.unc 0), (OSC_UNC1, lget 0 x.unc 1), (OSC_UNC2, lget 0 x.unc 2), (OSC_LSTAT, lstate)].foldl
      (fun (t : State) r => t.supWrite W_OSC r.1 r.2) s
  s1.supWrite W_OSC OSC_GEN ((s1.get W_OSC OSC_GEN_V + 1) % 2 ^ 16)

/-- The span of θ over bins, in 2^-16 °C. -/
def thSpan : List FitBin → Int
  | [] => 0
  | b :: bs => (bs.foldl (fun m x => max m x.th) b.th) - (bs.foldl (fun m x => min m x.th) b.th)

/-- The valid bins' span in seconds since the start or the last restart, up to `at_`. -/
def SupSt.span (x : SupSt) (at_ : Nat) : Nat := match x.since with | none => 0 | some a => at_ - a

/-- R112, R115: LSTATE after a fitted bin that ends at `at_`: never lower, and the saved level after 36 bins of a restored
model. -/
def SupSt.level (x : SupSt) (at_ cur : Nat) : Nat :=
  let l := if 7 * 86400 ≤ x.span at_ then 3 else if 86400 ≤ x.span at_ then 2 else if 36 ≤ x.count then 1 else 0
  max cur (if x.restored ∧ 36 ≤ x.count then max l x.saved else l)

/-- R111, R115: the coefficients that a fit determines: in the first 36 bins of a restored model, Y0 alone. -/
def State.fitOn (s : State) (at_ : Nat) : List Bool :=
  let x := s.sup
  let free := !(x.restored && decide (x.count ≤ 36))
  let th := if s.tempOn then thSpan x.bins else 0
  [true, free && decide (86400 ≤ x.span at_), free && decide (2 * 65536 ≤ th), free && decide (10 * 65536 ≤ th)]

/-- R111: a fit after the bins in memory have changed, at the end `at_` of the last one. -/
def State.modelFit (s : State) (at_ : Nat) : State :=
  let old := s.get W_OSC OSC_LSTAT_LSTATE
  let new := s.sup.level at_ old
  let s1 := s.modelWrite (s.fitted s.sup.bins (s.fitOn at_)) new
  if new = old then s1 else s1.modelSave

/-- R112: learning starts: the counts begin anew and LSTATE is NONE. -/
def State.learnBegin (s : State) : State :=
  if s.learning = s.sup.on then s
  else if ¬ s.learning then s.setSup { s.sup with on := false }
  else
    let s1 := s.setSup { s.sup with
      on := true, ySum := 0, thSum := 0, valid := 0, total := 0, samples := [], bins := [], rejected := [], count := 0
      since := none }
    if s.get W_OSC OSC_LSTAT_LSTATE = 0 then s1 else (s1.modelWrite s1.oscShadows 0).modelSave

/-- OSC_JUMP (R113): learning restarts from the last JUMPN rejected bins: Y0 and SIGF come from them, AGE, K1 and K2 stay. -/
def State.modelRestart (s : State) (bins : List FitBin) : State :=
  let s1 := s.setSup { s.sup with
    bins := bins, rejected := [], count := bins.length, since := bins.head?.map FitBin.at_, restored := false }
  let s2 := (s1.sts W_OSC OSC_STS 2).raise 12 25
  let s3 := s2.modelWrite (s2.fitted bins [true, false, false, false]) 1
  if s.get W_OSC OSC_LSTAT_LSTATE = 1 then s3 else s3.modelSave

/-- R113: whether a bin's residual against the model exceeds both 5 × SIGF and REJMIN. The first bin has no fit to be
measured against (log entry 74). -/
def State.binRejected (s : State) (b : FitBin) : Bool :=
  let x := s.oscShadows
  let r := (x.residual s.tempOn b).natAbs
  decide (s.sup.count ≠ 0) && decide (5 * x.sigf * 2 ^ 32 < r) &&
    decide (s.get W_OSC OSC_LCTL_REJMIN * 2 ^ 76 < r * 10 ^ 9)

/-- MODEL_BIN_FIT (R111 to R113): a bin of 100 sample intervals has ended. -/
def State.modelBin (s : State) : State :=
  let x := s.sup
  let s0 := s.setSup { x with ySum := 0, thSum := 0, valid := 0, total := 0 }
  if x.valid < 90 then s0
  else
    let b : FitBin := ⟨s.secNow, quotFree x.ySum x.valid, quotFree x.thSum x.valid⟩
    if s.binRejected b then
      let n := max 1 (s.get W_OSC OSC_LCTL_JUMPN)
      let r := x.rejected ++ [b]
      if n ≤ r.length then s0.modelRestart (r.drop (r.length - n)) else s0.setSup { s0.sup with rejected := r }
    else
      (s0.setSup { s0.sup with
        bins := x.bins ++ [b], rejected := [], count := x.count + 1, since := x.since.or (some b.at_) }).modelFit b.at_

/-- LSAMP (R110, R111): a learning sample is read and enters the bin in progress. -/
def State.supSample (s : State) : State :=
  if ¬ s.learning then s
  else
    let (_, v, s1) := s.busRead (.eng 0) (regAddr W_OSC OSC_LS_INFO) 15
    let ok := bitOf v.toNat 19
    let x := s1.sup
    let y := toSigned 48 (s1.pair W_OSC OSC_LS_Y_LO)
    let th := s1.ri W_OSC OSC_LS_THETA
    let kept := x.samples.filter (fun b => decide (s1.secNow ≤ b.at_ + 86400))
    let s2 := s1.setSup { x with
      ySum := if ok then x.ySum + y else x.ySum
      thSum := if ok then x.thSum + th else x.thSum
      samples := if ok then ⟨s1.secNow, y, th⟩ :: kept else kept
      valid := x.valid + b2n ok, total := x.total + 1 }
    if s2.sup.total < 100 then s2 else s2.modelBin

/-- R114: after a drift of a learning loop's source the bins of the last 1,000 s are discarded and the rest refitted. -/
def State.supDrift (s : State) : State :=
  match s.sup.drift with
  | none => s
  | some c =>
    let s1 := s.setSup { s.sup with drift := none }
    let keep := s.sup.bins.filter (fun b => decide (b.at_ + 1000 < c / secU))
    if ¬ s.learning ∨ keep.isEmpty ∨ keep.length = s.sup.bins.length then s1
    else
      (s1.setSup { s1.sup with bins := keep, count := s.sup.count - (s.sup.bins.length - keep.length) }).modelFit
        (match keep.getLast? with | some b => b.at_ | none => 0)

/-- R115: at boot the coefficients return, with LSTATE = NONE; without a valid record LSTATE is NONE too (R112). -/
def State.modelRestore (s : State) : State :=
  match s.modelCopy with
  | none => if s.get W_OSC OSC_LSTAT_LSTATE = 0 then s else s.modelWrite s.oscShadows 0
  | some a =>
    let bs := s.nvSees a 64
    let f (off : Nat) : Nat := blkNat bs off 4
    let s1 := (s.supWrite W_OSC OSC_Y0_LO (f 8)).supWrite W_OSC OSC_Y0_HI (f 0xc % 2 ^ 16)
    let s2 := [(OSC_AGE, 0x10), (OSC_K1, 0x14), (OSC_K2, 0x18), (OSC_T0, 0x1c), (OSC_SIGF, 0x20), (OSC_SIGA, 0x24),
      (OSC_UNC0, 0x28), (OSC_UNC1, 0x2c), (OSC_UNC2, 0x30)].foldl (fun (t : State) r => t.supWrite W_OSC r.1 (f r.2)) s1
    ((s2.supWrite W_OSC OSC_LSTAT 0).supWrite W_OSC OSC_GEN ((s2.get W_OSC OSC_GEN_V + 1) % 2 ^ 16)).setSup
      { s2.sup with restored := true, saved := blkNat bs 0x34 1 % 4 }

/-! ### Lifetime records (R413, R414) -/

/-- The counts since the record was last restored or committed (log entry 54). -/
def State.lifeNewer (s : State) (i : Nat) : Nat := lget 0 s.hlth.life i - lget 0 s.hlth.slots i

/-- Record `i` restored: its ring's value and what was counted since; the highest temperature is the higher one. -/
def State.lifeRestore (s : State) (i : Nat) : State :=
  let v := if i = 12 then max (s.slotValue i) (lget 0 s.hlth.life i) else min (2 ^ 32 - 1) (s.slotValue i + s.lifeNewer i)
  let s1 := (s.supWrite W_HLTH HLTH_LIFEIDX i).supWrite W_HLTH HLTH_LIFEDATA v
  s1.setHlth { s1.hlth with slots := lput 0 s1.hlth.slots i (s.slotValue i) }

/-- Record `i` committed to its slot ring (R431). -/
def State.lifeCommit (s : State) (i : Nat) : State :=
  let v := lget 0 s.hlth.life i
  let s1 := ((s.supWrite W_NVS NVS_SLOTVAL_LO v).supWrite W_NVS NVS_SLOTVAL_HI 0).supWrite W_NVS NVS_SLOTCMD i
  s1.setHlth { s1.hlth with slots := lput 0 s1.hlth.slots i v, slotAt := lput none s1.hlth.slotAt i (some s.tb.c) }

/-- R414: whether record `i` is committed once per hour. -/
def lifeHourly (i : Nat) : Bool := i == 0 || decide (32 ≤ i)

/-- R414: the commits due at a tick: the hourly records at each new hour of C, the others when they have changed and their
last commit is 10 s old. -/
def State.lifeCommits (s : State) : State :=
  let h := s.tb.c / (3600 * secU)
  let hour := decide (h ≠ s.hlth.slotHour)
  let s1 := (List.range 64).foldl (fun (t : State) i =>
    if 14 ≤ i ∧ i < 32 then t
    else if lifeHourly i then (if hour then t.lifeCommit i else t)
    else if lget 0 t.hlth.life i ≠ lget 0 t.hlth.slots i ∧ t.since (lget none t.hlth.slotAt i) (10 * secU) then
      t.lifeCommit i
    else t) s
  s1.setHlth { s1.hlth with slotHour := h }

/-! ### The plan and path decisions (R410, R238) -/

/-- The ring reserved for the plan: one of those without a record (R431, R444; log entry 58). -/
def planRingNo : Nat := 14 + Config.planRing % 18

/-- R410: the plan after a reading. The bands come from a trend of VTUNE that no register holds: free values (log entry
58). -/
def State.supPlan (s : State) : State :=
  if s.hlth.ageAt = s.sup.planAt ∨ s.hlth.ageAt.isNone then s
  else
    let most (l : List Nat) : Nat := l.foldl (fun m i => max m (s.ageD i)) 0
    let vst := max (s.get W_HLTH HLTH_PLAN_VST) (min 255 (ceilDiv (most (List.range 8)) 1000))
    let d := most ((List.range 8).map (· + 12))
    let sh := if d < 2000 then 0 else if d < 5000 then 1 else if d < 10000 then 2 else 3
    let (f, s1) := s.takeFree
    let v := vst + sh * 2 ^ 8 + f % 2 ^ 16 * 2 ^ 10
    let s2 := s1.setSup { s1.sup with planAt := s.hlth.ageAt }
    ((((s2.supWrite W_HLTH HLTH_PLAN v).supWrite W_NVS NVS_SLOTVAL_LO v).supWrite W_NVS NVS_SLOTVAL_HI 0).supWrite W_NVS
      NVS_SLOTCMD planRingNo)

/-- R238: whether a second qualified time source exists: the other PTP port or a REF pin of kind TIME. -/
def State.otherTime (s : State) (n : Nat) : Bool :=
  s.qstate (19 - n) == 4 || (List.range 16).any (fun k => s.qstate k == 4 && (s.src k).kind == 1)

/-- R238: the offsets of a second time source of port `n`: of the other PTP port while it is qualified, and of qualified REF
pins of kind TIME, as the phase of their edges against time. -/
def State.otherOffsets (s : State) (n : Nat) : List Int :=
  (if s.qstate (19 - n) = 4 then [(s.ptp (1 - n)).ofs] else []) ++
    ((List.range 16).filter (fun k => s.qstate k == 4 && (s.src k).kind == 1)).map (fun k =>
      s.phaseError k (toSigned 64 (s.pair (wSrc k) SRC_PHASE_LO)) 0)

/-- R238: the decision at PTP_PATH_TIMEOUT: accept where a second source agrees with the new offsets within PATHGUARD, or where
there is none; reject where it agrees with the old ones. Where it agrees with neither the decision is free (log entry 75). -/
def State.supPath (s : State) (n : Nat) : State :=
  if s.pathSt n = 1 ∧ (s.ptp n).pathTo then
    let o := (s.ptp n).ofs
    let old := o + ((s.ptp n).prog.mpd.getD (0, 0)).1 - s.ri (wPtp n) PTP_MPDREF
    let agrees (v : Int) : Bool := (s.otherOffsets n).any (fun x => decide ((x - v).natAbs ≤ s.pathGuard n))
    let (f, s1) := s.takeFree
    if ¬ s.otherTime n ∨ agrees o then s.supWrite (wPtp n) PTP_CMD 2
    else if agrees old then s.supWrite (wPtp n) PTP_CMD 4
    else s1.supWrite (wPtp n) PTP_CMD (if f % 2 = 1 then 4 else 2)
  else s

/-! ### The clocks of the ports (R229) -/

/-- R229: the rank that a parent's clockClass gives. -/
def classRank (c : Nat) : Nat :=
  match c with
  | 6 => 1 | 7 => 3 | 135 => 6 | 140 => 7 | 150 => 8 | 160 => 10 | 165 => 12 | 255 => 15
  | _ => 14

/-- The announce receipt timeout of port `n` in TB units, from the block of its engine (R319). -/
def State.annTimeout (s : State) (n : Nat) : Nat :=
  let bs := (s.blk (9 + n)).bytes
  let l := toSigned 8 (blkNat bs 0x11 1)
  let u := if 0 ≤ l then secU * 2 ^ l.toNat else secU / 2 ^ l.natAbs
  max 1 (blkNat bs 0x12 1) * u

/-- R229: PSTATE of port `n` after a change of the parent's clockClass or an announce receipt timeout. The state that the BMCA
of the profile decides on is free (log entry 96). -/
def State.supPort (s : State) (n : Nat) : State :=
  match (s.ptp n).prog.parent with
  | none => s
  | some (c, at_) =>
    let lost := s.due ((at_ + s.annTimeout n) % 2 ^ 96)
    if ¬ s.ptpOn n ∨ lget none s.sup.ann n = some (c, lost) then s
    else
      let (f, s1) := s.takeFree
      (s1.setSup { s1.sup with ann := lput none s1.sup.ann n (some (c, lost)) }).supWrite (wPtp n) PTP_PSTATE
        (1 + f % 9 + (if lost then 15 else classRank c) * 2 ^ 4 + c * 2 ^ 8)

/-- R229: the clockClass that the device announces as a master: the parent's in TRACK, 135 or 165 in bivouac by the holdover
budget, 248 in free-run; before the first lock of a loop that is enabled it stays. -/
def State.supClass (s : State) : State :=
  let st := s.loopst 3
  let parent := if s.slave 1 ∧ ¬ s.slave 0 then s.get (wPtp 1) PTP_PSTATE_PCLASS else s.get (wPtp 0) PTP_PSTATE_PCLASS
  let c := if st = 1 then parent
    else if st = 3 then
      (if s.get W_OSC OSC_BV3_BVQ = 1 then 248
       else if s.teEstReg 3 ≤ blkNat (s.blk 0).bytes 0x10 4 then 135 else 165)
    else if st = 0 ∨ st = 4 then 248
    else s.sup.annClass
  s.setSup { s.sup with annClass := c }

/-! ### The handlers -/

/-- The routes of the stock images, which the spec does not name: free values (R348; log entry 76). -/
def State.supRoutes (s : State) : State :=
  (List.range 11).foldl (fun (t : State) k =>
    if (t.eng k).rom.isNone then t
    else (List.range 16).foldl (fun (u : State) j =>
      let (f, v) := u.takeFree
      v.supWrite W_EVT (EVT_RT + 0x40 * k + 4 * j) (f &&& 0x81ff81ff)) t) s

/-- START of the stock supervisor program (R454). -/
def State.supStart (s : State) : State :=
  let s1 := ((s.blkStart 0 0).setSup SupSt.reset).supRoutes
  let s2 := (List.range 64).foldl (fun (t : State) i => if 14 ≤ i ∧ i < 32 then t else t.lifeRestore i) s1
  let s3 := s2.supWrite W_HLTH HLTH_CTL (s2.rn W_HLTH HLTH_CTL ||| 3)
  let s4 := (s3.supWrite W_HLTH HLTH_PLAN (s3.slotValue planRingNo % 2 ^ 26)).modelRestore
  let s5 := s4.supWrite W_OSC OSC_CTL (s4.rn W_OSC OSC_CTL ||| (if s4.supFlag 2 then 3 else 1))
  let s6 := s5.supWrite W_CAL CAL_CTL (s5.rn W_CAL CAL_CTL ||| 1)
  let s7 := if s6.supFlag 0 then s6.supWrite W_GL GL_CTL (s6.rn W_GL GL_CTL ||| 1) else s6
  s7.setSup { s7.sup with savedAt := s.tb.c, planAt := s.hlth.ageAt }

/-- TICK of the stock supervisor program. -/
def State.supTickRun (s : State) : State :=
  let s1 := (if s.supFlag 3 then s.supPlan else s).lifeCommits
  let s2 := (((if s1.supFlag 1 then (s1.supPath 0).supPath 1 else s1).supPort 0).supPort 1).supClass
  if s2.learning ∧ s2.since (some s2.sup.savedAt) (s2.saveInt * secU) then s2.modelSave else s2

/-- The stock supervisor program's handlers. -/
def State.supRun (s : State) (ev : Nat) : State :=
  if ev = 63 then s.supStart
  else
    let s1 := (s.blkJudge 0 0).learnBegin.supDrift
    if ev = 0 then s1.supTickRun else if ev = 1 then s1.supSample else s1

/-- The handler of event `ev` runs on engine `k`: a stock image's effects are made at its entry (R467; log entry 7). The PTP
messages that a port program builds arrive as commands (log entry 77). -/
def State.stockRun (s : State) (k ev : Nat) : State :=
  match (s.eng k).rom with
  | none => s
  | some 0 => s.supRun ev
  | some 1 => s.lpRun (k - 1) ev
  | some 2 => s.monRun k ev
  | some _ => s.ptRun k ev

end Sys2Proof.Machine
end

