-- ==== Sys2Proof/Machine/Engine.lean ====
section
/-!
DEFINITION. Handlers and the instructions that reach beyond their engine: events taken (R301 to R304), the handler bound
(R306), ports (R295), queues and the ring (R296, R297), at-time entries (R299), snapshots and raised events (R300).
-/

namespace Sys2Proof.Machine

/-! ### Taking events (R301 to R304) -/

/-- Whether the loader keeps engine `k` from taking an event: SUP runs the loader (R316), and a target waits for its copy. -/
def State.engHeld (s : State) (k : Nat) : Bool :=
  (k == 0 && s.ldr.phase != .idle) ||
    (s.ldr.target == k && (s.ldr.phase == .wait || s.ldr.phase == .copy))

/-- The pending edge event `e` of engine `k`. -/
def State.pendingOf (s : State) (k e : Nat) : Option Word64 :=
  ((s.eng k).pend.find? (fun p => p.1 == e)).map (fun p => p.2)

/-- Event `e` as it can be taken: a pending edge, or the level of a bound queue that holds an entry, whose number is the
argument (R301, R302). -/
def State.takable (s : State) (k e : Nat) : Option (Nat × Word64) :=
  match s.pendingOf k e with
  | some a => some (e, a)
  | none => ((s.eng k).queues.find? (fun b => b.event == e && s.queueLevel b)).map (fun b => (e, BitVec.ofNat 64 b.queue))

/-- The normal numbers in the order in which R303 looks at them. -/
def normalOrder (last : Nat) : List Nat :=
  (List.range 55).map (fun i => 8 + (last - 8 + 1 + i) % 55)

/-- R303: the next event of engine `k`: START, the lowest urgent number, then the normal ones round robin. -/
def State.nextEvent (s : State) (k : Nat) : Option (Nat × Word64) :=
  match s.pendingOf k 63 with
  | some a => if k ≠ 0 ∧ s.sys.supStart then none else some (63, a)
  | none => (List.range 8 ++ normalOrder (s.eng k).lastNormal).findSome? (fun e => s.takable k e)

/-- R304: handler `e` of engine `k` begins at index `entry`. -/
def Eng.enter (x : Eng) (e : Nat) (arg : Word64) (entry now : Nat) : Eng :=
  { x with
    pc := entry, flags := Flags.zero, evt := e, evarg := arg, loops := [], calls := [], atPrefix := none, st := .busy,
    overran := false, runAt := now }

/-- An event is taken from its pending bit; a normal one moves the round robin on. -/
def Eng.take (x : Eng) (e : Nat) : Eng :=
  { x with
    pend := x.pend.filter (fun p => p.1 != e)
    lastNormal := if 8 ≤ e ∧ e ≤ 62 then e else x.lastNormal }

/-- R302, R322: an event without a handler is discarded when it is taken, and counted. -/
def State.evDiscard (s : State) (k : Nat) : State :=
  ((s.count (W_ENG + k) ENG_EVDISC 1).sts (W_ENG + k) ENG_STS 0x40).raise 15 4

/-- The handler of event `e` in the image of engine `k`. -/
def State.handlerOf (s : State) (k e : Nat) : Option Nat :=
  ((s.eng k).hands.find? (fun h => h.1 == e)).map (fun h => h.2)

/-- HANDLER_ENTRY (R303, R304): a free engine takes its next event; a stock handler's effects are made here (log entry 7). -/
def execHandlerEntry (k : EngId) (s : State) : Host.Outcome State Fault Refusal :=
  .next (if (s.eng k).st ≠ .idle ∨ s.engHeld k then s
    else
      match s.nextEvent k with
      | none => s
      | some (e, arg) =>
        let t := s.modEng k (fun x => x.take e)
        match t.handlerOf k e with
        | none => t.evDiscard k
        | some entry => ((t.modEng k (fun x => x.enter e arg entry t.tb.c)).count (W_ENG + k) ENG_HCOUNT 1).stockRun k e)

/-- SUP_TICK (R301): each 1 ms of C, with the count of ticks (log entry 78). It is also the supervisor tick at which the stock
loop programs commit HOWORD (R92). -/
def execSupTick (s : State) : Host.Outcome State Fault Refusal :=
  .next (if s.gridDue msU s.tb.tickIdx then
      (List.range 4).foldl State.lpHoTick
        ((s.setTb { s.tb with tickIdx := s.tb.c / msU }).engPend 0 0 (BitVec.ofNat 64 (s.tb.c / msU)))
    else s)

/-- R306: the running time has passed the handler's bound, in units of 1/380 µs. -/
def State.overBound (s : State) (k : Nat) : Bool :=
  match (s.eng k).hbounds.find? (fun h => h.1 == (s.eng k).evt) with
  | none => false
  | some h => decide (((h.2 * usU : Nat) : Int) < signedDiff 96 s.tb.c (s.eng k).runAt * 380)

/-- HANDLER_OVERRUN (R306): once per run. -/
def execHandlerOverrun (k : EngId) (s : State) : Host.Outcome State Fault Refusal :=
  .next (if (s.eng k).st = EngSt.busy ∧ ¬ (s.eng k).overran ∧ s.overBound k then
      (((s.modEng k (fun y => { y with overran := true })).count (W_ENG + k) ENG_OVRCNT 1).sts (W_ENG + k) ENG_STS
        0x10).fault (W_ENG + k) K_HANDLER_OVERRUN (engImem k + 4 * (s.handlerOf k (s.eng k).evt).getD 0)
    else s)

/-! ### At-time entries (R299) -/

/-- An outcome is reported by the instruction in progress, which ends. A handler that the instruction itself has ended
stays ended (log entry 78). -/
def State.insnEnd (s : State) (k : Nat) (f : Eng → Eng) : State :=
  s.modEng k (fun x => if x.st = .busy then (f x).next else x)

/-- The difference `a - b` of two 64-bit times. -/
def diff64 (a b : Nat) : Int := toSigned 64 ((a % 2 ^ 64 + 2 ^ 64 - b % 2 ^ 64) % 2 ^ 64)

/-- R299: the instruction after AT is captured, or nothing is armed. -/
def State.armEntry (s : State) (k : Nat) (base : Bool) (target : Nat) (act : AtAction) : State :=
  let d := diff64 target (if base then s.tb.c else s.now)
  let done (p : PStat) (l : List AtEntry) : State :=
    s.insnEnd k (fun x => { x with atPrefix := none, ats := x.ats ++ l }.report p)
  if 2 ^ 60 < d then done .atrange []
  else if 8 ≤ (s.eng k).ats.length then done .atfull []
  else if 0 < d then done .ok [⟨base, target, false, act⟩]
  else done .late [⟨true, (s.tb.c + tickU) % 2 ^ 64, true, act⟩]

/-- An instruction that AT may capture: it is armed, or carried out at once. -/
def State.orArm (s : State) (k : Nat) (act : AtAction) (f : State → State) : State :=
  match (s.eng k).atPrefix with
  | some (base, target) => s.armEntry k base target act
  | none => f s

/-- R299: whether an entry fires at the present tick. -/
def State.atDue (s : State) (e : AtEntry) : Bool := decide (0 ≤ diff64 (if e.baseC then s.tb.c else s.now) e.target)

/-! ### Ports (R295) -/

/-- The outcome of a port access as PSTAT codes it (R285). -/
def portStat : AccOut → PStat
  | .wign => .wign
  | .locked => .locked
  | .align => .align
  | .timeout => .timeout
  | _ => .ok

/-- R295: an offset that is not a multiple of 4 or leaves the window is an unaligned access. -/
def offBad (off : Nat) : Bool := off % 4 != 0 || decide (0x4000 ≤ off)

/-- The BAR0 address of a port access, as it is recorded. -/
def portAddr (p off : Nat) : Nat := regAddr p (off % 0x4000)

/-- One write through a port. -/
def State.portWrite (s : State) (r : Req) (p off : Nat) (v : Word64) : AccOut × State :=
  if offBad off then (.align, s.accRecord r true (portAddr p off) .align)
  else s.busWrite r (portAddr p off) 15 (v.toNat % 2 ^ 32)

/-- One read through a port. -/
def State.portRead (s : State) (r : Req) (p off : Nat) : AccOut × Word × State :=
  if offBad off then (.align, ones, s.accRecord r false (portAddr p off) .align) else s.busRead r (portAddr p off) 15

/-- PIN (R295). A read that fails returns all ones (R354). -/
def execPin (k : EngId) (rd ra : Reg) (port off8 : BitVec 8) (s : State) : Host.Outcome State Fault Refusal :=
  .next (s.insn k false (fun t =>
    if ¬ mayPin k port.toNat then t.engExcept k .profile
    else
      let (o, v, t1) := t.portRead (.eng k) port.toNat (portOffset (t.eng k) ra off8)
      t1.insnEnd k (fun x => (x.setW rd (v.zeroExtend 64)).report (portStat o))))

/-- POUT (R295). -/
def execPout (k : EngId) (rs ra : Reg) (port off8 : BitVec 8) (s : State) : Host.Outcome State Fault Refusal :=
  .next (s.insn k true (fun t =>
    let x := t.eng k
    let off := portOffset x ra off8
    if ¬ mayPout k port.toNat then t.engExcept k .profile
    else t.orArm k (.pout port.toNat off ((x.rw rs).setWidth 32)) (fun u =>
      let (o, u1) := u.portWrite (.eng k) port.toNat off (x.rw rs)
      u1.insnEnd k (fun y => y.report (portStat o)))))

/-- R25 for a port access of engine `k` (rd is the register that a PIN names): the block does not answer. -/
def State.portTimeout (s : State) (k : Nat) (a : Nat) (v : Option Word) (rd : Nat) : State :=
  s.insn k v.isSome (fun t =>
    if ¬ (if v.isSome then mayPout k (a / 0x4000) else mayPin k (a / 0x4000)) then t.engExcept k .profile
    else if (t.eng k).atPrefix.isSome then t
    else
      let (o, x, t1) := t.timeoutAccess (.eng k) a v
      t1.insnEnd k (fun y => (if v.isSome then y else y.setW rd (x.zeroExtend 64)).report (portStat o)))

/-! ### Queues and the ring (R296, R297) -/

/-- R287: a register group begins at a multiple of 4. -/
def groupBad (rg : Nat) : Bool := rg % 4 != 0

/-- Whether W = 1 is allowed to a QPUT of engine `k` (R307). -/
def mayWait (k : Nat) : Bool := profileOf k == 0 || profileOf k == 3

/-- Whether the image of engine `k` binds queue `q` as producer, or as consumer. -/
def Eng.produces (x : Eng) (q : Nat) : Bool := x.queues.any (fun b => b.queue == q && b.produce)
def Eng.consumes (x : Eng) (q : Nat) : Bool := x.queues.any (fun b => b.queue == q && b.consume)

/-- QPUT of entry `e` (R296). -/
def State.qput (s : State) (k q : Nat) (e : BitVec 256) (wait : Bool) : State :=
  if ¬ (s.eng k).produces q then s.insnEnd k (fun x => x.report .noqueue)
  else
    match s.qPutEngine q e wait with
    | (some p, t) => t.insnEnd k (fun x => x.report p)
    | (none, t) => t.qHold q k e

/-- QPUT (R296). -/
def execQput (k : EngId) (rg : Reg) (q : Queue) (w : Bool) (s : State) : Host.Outcome State Fault Refusal :=
  .next (s.insn k false (fun t =>
    if groupBad rg then t.engExcept k .illegal
    else if w ∧ ¬ mayWait k then t.engExcept k .profile
    else t.qput k q ((t.eng k).entry rg) w))

/-- QGET (R296): it never waits. -/
def execQget (k : EngId) (rg : Reg) (q : Queue) (w : Bool) (s : State) : Host.Outcome State Fault Refusal :=
  .next (s.insn k false (fun t =>
    if groupBad rg ∨ w then t.engExcept k .illegal
    else if ¬ t.qEnabled q ∨ ¬ (t.eng k).consumes q then t.insnEnd k (fun x => x.report .noqueue)
    else if t.qEmpty q then t.insnEnd k (fun x => x.report .empty)
    else
      let (e, t1) := t.qPop q
      t1.insnEnd k (fun x => (x.setEntry rg e).report .ok)))

/-- SEND (R297): to the own member as QPUT; else one credit and one BULK cell. -/
def execSend (k : EngId) (rg : Reg) (m : Fin 8) (q : Queue) (w : Bool) (s : State) : Host.Outcome State Fault Refusal :=
  .next (s.insn k false (fun t =>
    let e := (t.eng k).entry rg
    if groupBad rg then t.engExcept k .illegal
    else if profileOf k ≠ 0 then t.engExcept k .profile
    else if m.val = t.glId then t.qput k q e w
    else if ¬ t.glReaches m then t.insnEnd k (fun x => x.report .absent)
    else if 0 < t.glCredit m then (t.glInsert m q e).insnEnd k (fun x => x.report .ok)
    else if w then t.modEng k (fun x => { x with st := .waitq, wait := .send m q e, waitAt := t.tb.c })
    else t.insnEnd k (fun x => x.report .nocred)))

/-- QPUT_WAIT_END (R28, R296): the queue has space for the producer held longest. -/
def execQputWaitEnd (k : EngId) (s : State) : Host.Outcome State Fault Refusal :=
  .next (match (s.eng k).wait with
    | .queue q =>
      (match (s.queue q).held with
      | [] => s
      | h :: _ =>
        if h.eng ≠ k.val ∨ s.qFull q then s
        else
          let t := ((s.qUnhold q k).qPush q h.entry).engRelease k .ok
          if t.qFull q ∧ ¬ (t.queue q).held.isEmpty then t.qStartDrain q else t)
    | _ => s)

/-- SEND_WAIT_END (R297): a credit arrives, or the member becomes unreachable. -/
def execSendWaitEnd (k : EngId) (s : State) : Host.Outcome State Fault Refusal :=
  .next (match (s.eng k).wait with
    | .send m q e =>
      if ¬ s.glReaches m then s.engRelease k .absent
      else if 0 < s.glCredit m then (s.glInsert m q e).engRelease k .ok
      else s
    | _ => s)

/-! ### Snapshots and raised events (R300) -/

/-- The snapshot trigger of an instruction, when its source is enabled. -/
def State.instrSnap (s : State) : State := if s.flag W_SNAP SNAP_CTL_INSTR then s.snapTrigger 8 else s

/-- An event raised by engine `k` at engine `target`, or at 15 its own code recorded. -/
def State.raiseAct (s : State) (k target code : Nat) : State :=
  if target = 15 then ((s.wr (W_ENG + k) ENG_RAISECODE code).sts (W_ENG + k) ENG_STS 0x20).raise 15 3
  else s.engPend target (48 + k) (BitVec.ofNat 64 (code + k * 2 ^ 16))

/-- SNAP (R300). -/
def execSnap (k : EngId) (s : State) : Host.Outcome State Fault Refusal :=
  .next (s.insn k true (fun t => t.orArm k .snap (fun u => u.instrSnap.alu k id)))

/-- RAISE (R300): targets 11 to 14 are illegal. -/
def execRaise (k : EngId) (target : BitVec 4) (code : BitVec 16) (s : State) : Host.Outcome State Fault Refusal :=
  .next (s.insn k true (fun t =>
    if 11 ≤ target.toNat ∧ target.toNat ≤ 14 then t.engExcept k .illegal
    else t.orArm k (.raise target.toNat code.toNat) (fun u => (u.raiseAct k target.toNat code.toNat).alu k id)))

/-- What an entry of engine `k` does at its firing (R299); a POUT acts with its engine's rights (log entry 65). -/
def State.atAct (s : State) (k : Nat) : AtAction → State
  | .pout p off v => (s.portWrite (.atEntry k) p off (v.zeroExtend 64)).2
  | .snap => s.instrSnap
  | .raise target code => s.raiseAct k target code

/-- AT_ENTRY_FIRING (R299): the first entry of engine `k`, in the order of arming, that is due. -/
def execAtEntryFiring (k : EngId) (s : State) : Host.Outcome State Fault Refusal :=
  .next (if ¬ s.tb.running then s
    else
      match (s.eng k).ats.find? (fun e => s.atDue e) with
      | none => s
      | some e => (s.modEng k (fun x => { x with ats := x.ats.erase e })).atAct k e.act)

end Sys2Proof.Machine
end

