-- ==== Sys2Proof/Machine/Guyline.lean ====
section
/-!
DEFINITION. Cells received and tunnelled accesses (chapter 11): the checks of a cell, what its class does, forwarding
(R256 to R258, R267), and the gang window (R276 to R278, R328). The payload layouts of TUNREQ and TUNRSP are the model's
(log entry 41).
-/

namespace Sys2Proof.Machine

/-! ### Answers at the doors -/

/-- The status codes of SPI frames (R333). -/
def spiStatus : AccOut → Nat
  | .ok => 0 | .wign => 1 | .locked => 2 | .width => 3 | .align => 4 | .reach => 5 | .timeout => 6

/-- An access ends at its requester: a marker and a datum on SPI (R333), the status of the last write (R334), else the
answer itself. -/
def State.complete (s : State) (r : Req) (write : Bool) (a : Nat) (o : AccOut) (v : Word) : State :=
  if r = .spi then
    if write then s.setHif { s.hif with spiLast := spiStatus o }
    else if s.hif.spi.isNone then s
    else (s.emit (.spi (BitVec.ofNat 32 (0x5a5a_0000 + spiStatus o)))).emit (.spi v)
  else s.emit (.answer r a o v)

/-- A read or write of this device's own registers and engine memories, to its end. -/
def State.ownAccess (s : State) (r : Req) (a : Nat) (be : BitVec 4) (w : Option Word) : State :=
  match w with
  | some v =>
    let (o, t) := s.busWrite r a be v.toNat
    t.complete r true a o v
  | none =>
    let (o, v, t) := s.busRead r a be
    t.complete r false a o v

/-! ### Tunnelled accesses (R276, R277) -/

/-- A word in a payload. -/
def wordAt (pl : List Byte) (i : Nat) : Word := BitVec.ofNat 32 (numAt pl i 4)

/-- A TUNREQ: tag, type, the 22-bit address, the data of a write. -/
def tunReq (x : TunAcc) : List Byte :=
  [BitVec.ofNat 8 x.tag, BitVec.ofNat 8 (b2n x.val.isSome)] ++ leBytes 4 (x.addr % 2 ^ 22) ++
    leBytes 4 (x.val.getD 0).toNat

/-- A TUNRSP: tag, status, data; the statuses of R276 as PSTAT orders them, WIDTH after TIMEOUT. -/
def tunCode : AccOut → Nat
  | .ok => 0 | .wign => 1 | .locked => 2 | .align => 3 | .timeout => 4 | .width => 5 | .reach => 6
def tunOutcome (c : Nat) : AccOut :=
  match c with
  | 1 => .wign | 2 => .locked | 3 => .align | 4 => .timeout | 5 => .width | _ => .ok
def tunRsp (tag : Nat) (o : AccOut) (v : Word) : List Byte :=
  [BitVec.ofNat 8 tag, BitVec.ofNat 8 (tunCode o)] ++ leBytes 4 v.toNat

/-- One unicast cell to member `m`. -/
def State.glTo (s : State) (m cls : Nat) (pl : List Byte) : State := s.glSend (s.glDir m) cls m pl

/-- R277: an access to a member that is absent or cannot be reached. -/
def State.glAbsent (s : State) (r : Req) (m a : Nat) (w : Option Word) : State :=
  ((s.glEvent 5).put W_GL GL_STS_ABSMEM m).complete r w.isSome a .ok (w.getD ones)

/-- Accesses outstanding to member `m`. -/
def State.tunCount (s : State) (m : Nat) : Nat := (s.gl.tun.filter (fun x => x.member == m)).length

/-- An access is issued: it takes a tag, its 200 µs begin. -/
def State.tunIssue (s : State) (x : TunAcc) : State :=
  if ¬ s.glReaches x.member then s.glAbsent x.req x.member x.addr x.val
  else
    let y : TunAcc := { x with tag := s.gl.tag, due := s.after (200 * usU) }
    (s.setGl { s.gl with tun := s.gl.tun ++ [y], tag := (s.gl.tag + 1) % 256 }).glTo x.member GL_TUNREQ (tunReq y)

/-- R276: an access to another member, issued or waiting behind four outstanding ones. -/
def State.tunnel (s : State) (r : Req) (m a : Nat) (be : BitVec 4) (w : Option Word) : State :=
  let x : TunAcc := ⟨m, r, a, be, w, 0, 0⟩
  if s.glReaches m ∧ (4 ≤ s.tunCount m ∨ s.gl.tunWait.any (fun y => y.member == m)) then
    s.setGl { s.gl with tunWait := s.gl.tunWait ++ [x] }
  else s.tunIssue x

/-- Where a gang address leads (R328): nowhere, to this device, to a reachable member, or to an absent one. -/
inductive GangTo
  | nowhere | own | member (m : Nat) | absent (m : Nat)
  deriving DecidableEq, Repr

/-- R328, R332: the member that address `a` of door `r` names. -/
def State.gangTo (s : State) (r : Req) (a : Nat) : GangTo :=
  let m := a / 0x40_0000
  if 7 < m then .nowhere
  else if r = .pcie ∧ ¬ s.flag W_HIF HIF_STATE_GANGBAR then (if m = 0 then .own else .nowhere)
  else if ¬ s.flag W_GL GL_GANG_GANG then (if m = 0 then .own else .absent m)
  else if m = s.glId then .own
  else if s.glReaches m then .member m
  else .absent m

/-- An access at the PCIe or SPI door, wherever it leads; width and alignment are checked here (R276, R465). -/
def State.hostAccess (s : State) (r : Req) (a : Nat) (be : BitVec 4) (w : Option Word) : State :=
  match s.gangTo r a with
  | .nowhere => s
  | .own => s.ownAccess r a be w
  | g =>
    match early r w.isSome a be with
    | some o => (s.accRecord r w.isSome a o).complete r w.isSome a o (w.getD ones)
    | none =>
      match g with
      | .member m => s.tunnel r m a be w
      | .absent m => s.glAbsent r m a w
      | _ => s

/-- TUNNELLED_ACCESS (R276, R277). -/
def execTunnelledAccess (r : Req) (a : Nat) (w : Option Word) (s : State) : Host.Outcome State Fault Refusal :=
  .next (if r = .pcie ∨ r = .spi then s.hostAccess r a 15 w else s)

/-- TUNNEL_ISSUE (R276): the first waiting access whose member has fewer than four outstanding. -/
def execTunnelIssue (s : State) : Host.Outcome State Fault Refusal :=
  .next (match s.gl.tunWait.find? (fun x => decide (s.tunCount x.member < 4)) with
    | none => s
    | some x => (s.setGl { s.gl with tunWait := s.gl.tunWait.erase x }).tunIssue x)

/-- TUNNEL_TIMEOUT (R277): 200 µs have passed without a TUNRSP. -/
def execTunnelTimeout (s : State) : Host.Outcome State Fault Refusal :=
  .next (match s.gl.tun.find? (fun x => s.due x.due) with
    | none => s
    | some x =>
      ((s.setGl { s.gl with tun := s.gl.tun.erase x }).accRecord x.req x.val.isSome x.addr .timeout).complete x.req
        x.val.isSome x.addr .timeout (x.val.getD ones))

/-- A TUNREQ of member `src` is carried out under this member's own rules, and answered (R276). -/
def State.tunServe (s : State) (src : Nat) (pl : List Byte) : State :=
  let tag := numAt pl 0 1
  let a := numAt pl 2 4 % 2 ^ 22
  if numAt pl 1 1 % 2 = 1 then
    let (o, t) := s.busWrite (.tunnel src) a 15 (numAt pl 6 4)
    t.glTo src GL_TUNRSP (tunRsp tag o (wordAt pl 6))
  else
    let (o, v, t) := s.busRead (.tunnel src) a 15
    t.glTo src GL_TUNRSP (tunRsp tag o v)

/-- A TUNRSP of member `src` ends the access with its tag; a late answer is discarded (R276, R277). A read returns the byte
lanes that were addressed (R29, R373). -/
def State.tunDone (s : State) (src : Nat) (pl : List Byte) : State :=
  match s.gl.tun.find? (fun x => x.member == src && x.tag == numAt pl 0 1) with
  | none => s
  | some x =>
    let o := tunOutcome (numAt pl 1 1)
    ((s.setGl { s.gl with tun := s.gl.tun.erase x }).accRecord x.req x.val.isSome x.addr o).complete x.req x.val.isSome
      x.addr o (if x.val.isSome then x.val.getD 0 else if o = .ok ∨ o = .wign ∨ o = .locked then
        BitVec.ofNat 32 (beLanes x.be (wordAt pl 2).toNat)
      else ones)

/-! ### Cells (R256 to R258, R267) -/

/-- R256, R258: whether a receiver keeps the cell. -/
def cellGood (h : Nat) (pl : List Byte) : Bool :=
  h % 256 == 0xa5 && bitsOf h 56 8 == hcrc h && decide (hCls h ≤ 8) && crc32 (pl.take 60) == numAt pl 60 4

/-- R258: a cell discarded at port `p` is counted. -/
def State.glCrcErr (s : State) (p : Nat) : State :=
  let f := if p = 0 then GL_CRCERR_A else GL_CRCERR_B
  s.put W_GL f (s.get W_GL f + 1)

/-- Whether less than `u` TB units have passed since C read `c`. -/
def State.within (s : State) (c u : Nat) : Bool := decide (signedDiff 96 s.tb.c c < (u : Int))

/-- R273: an invalid cell at port `p`; the sixteenth within 1 ms takes the port DOWN. -/
def State.glBad (s : State) (p : Nat) : State :=
  let l := s.tb.c :: (s.glPort p).bad.filter (fun c => s.within c msU)
  let s1 := (s.glCrcErr p).modPort p (fun x => { x with bad := l })
  if s.glUp p ∧ 16 ≤ l.length then s1.glDown p else s1

/-- The cell waits to go on through port `q`, with the credits `crdst` and `crcnt` (R258). -/
def State.glForward (s : State) (q h : Nat) (credits : Bool) (pl : List Byte) : State :=
  s.glQueue ⟨q, glHeader (hCls h) (hBcast h) (hSrc h) (hDst h) (hSeq h) (if credits then hCrdst h else 0)
    (if credits then hCrcnt h else 0), pl.take 64, true, none⟩

/-- The bound of R267 on the delivery of a broadcast, 12 µs: for so long its other copy can be under way. -/
def copyU : Nat := 12 * usU

/-- Member and class of a header. -/
def hKey (h : Nat) : Nat := hSrc h * 16 + hCls h

/-- R267: whether a broadcast is the first copy of its member, class and SEQ. -/
def State.glFresh (s : State) (h : Nat) : Bool :=
  !s.gl.seen.any (fun x => x.1 == hKey h && x.2.1 == hSeq h && s.within x.2.2 copyU)

/-- A broadcast acted on. -/
def State.glSaw (s : State) (h : Nat) : State :=
  s.setGl { s.gl with seen := (hKey h, hSeq h, s.tb.c) :: s.gl.seen.filter (fun x => s.within x.2.2 copyU) }

/-- What a cell of port `p` meant for this member does (R256). Timing messages act in a formed ring. -/
def State.glCellAct (s : State) (p h : Nat) (pl : List Byte) (arr : Nat) : State :=
  match hCls h with
  | 1 => s.glTimeRx p pl arr
  | 2 => if s.formed then s.glSyncAt pl else s
  | 3 => if s.formed then s.glFaultRx (hSrc h) pl else s
  | 4 => s.glStepRx pl
  | 5 => s.tunServe (hSrc h) pl
  | 6 => s.tunDone (hSrc h) pl
  | 7 => (s.setGl { s.gl with
      rx := s.gl.rx ++ [⟨p, hSrc h, numAt pl 0 1 % 64, BitVec.ofNat 256 (numAt pl 4 32)⟩] }).glDeliverAll
  | 8 => s.glDisc p pl
  | _ => s

/-- Cells that every receiver acts on and none forwards: TIME, and the discovery that each member sends on with its ID. -/
def hopLocal (h : Nat) (pl : List Byte) : Bool := hCls h == GL_TIME || (hCls h == GL_DISC && !hBcast h && numAt pl 0 1 == 0)

/-- Whether a header's credits are for another member, and so go on (R270). -/
def State.glOthers (s : State) (h : Nat) : Bool := decide (0 < hCrcnt h) && hCrdst h != s.glId

/-- R256, R270: a header's credits are this member's; or go on in an IDLE cell where the cell itself ends here. -/
def State.glCredits (s : State) (q h : Nat) (ends : Bool) : State :=
  if s.glOthers h then
    (if ends then s.glQueue ⟨q, glHeader GL_IDLE false (hSrc h) (hCrdst h) (hSeq h) (hCrdst h) (hCrcnt h), glPayload [], true, none⟩
    else s)
  else s.setGl { s.gl with credits := lupd 0 s.gl.credits (hSrc h) (fun c => c + hCrcnt h) }

/-- A broadcast: acted on once, and sent on unless the next member is its originator (R267). -/
def State.glBcastRx (s : State) (p h : Nat) (pl : List Byte) (arr : Nat) : State :=
  if hSrc h = s.glId then s
  else
    let s1 := if s.glFresh h then (s.glSaw h).glCellAct p h pl arr else s
    if s1.glNext (1 - p) = hSrc h then s1 else s1.glForward (1 - p) h (s1.glOthers h) pl

/-- A valid cell received at port `p`. -/
def State.glCell (s : State) (p h : Nat) (pl : List Byte) (arr : Nat) : State :=
  let s1 := if hToken h then s.glTokenIn (1 - p) else s
  let passes := !hopLocal h pl && !hBcast h && hDst h != s.glId && hCls h != GL_IDLE
  let s2 := s1.glCredits (1 - p) h (!passes && !hBcast h)
  if hopLocal h pl then s2.glCellAct p h pl arr
  else if hBcast h then s2.glBcastRx p h pl arr
  else if passes then s2.glForward (1 - p) h (s2.glOthers h) pl
  else s2.glCellAct p h pl arr

/-- GL_CELL_RX (R258): a cell at port `p`, whose arrival count is `arr`. Where the port is not yet UP, cells are judged and the
failing ones counted (R272). -/
def execGlCellRx (p : Port) (header : Word64) (payload : List Byte) (arr : Nat) (s : State) :
    Host.Outcome State Fault Refusal :=
  .next (if ¬ s.glOn ∨ s.glLink p = 0 then s
    else if ¬ cellGood header.toNat payload then s.glBad p
    else if s.glUp p then s.glCell p header.toNat payload arr
    else s)

/-- GL_FORM (R272): a write of GL_CMD with FORM. -/
def execGlForm (r : Req) (v : Word) (s : State) : Host.Outcome State Fault Refusal :=
  .next (s.doorWrite r (regAddr W_GL GL_CMD) 15 (putBits v.toNat 0 1 1))

/-- GL_REJOIN (R264): a write of GL_CMD with REJOIN. -/
def execGlRejoin (r : Req) (v : Word) (s : State) : Host.Outcome State Fault Refusal :=
  .next (s.doorWrite r (regAddr W_GL GL_CMD) 15 (putBits v.toNat 1 1 1))

/-- GANG_ENABLE (R278): a write of GL_GANG with GANG = 1. -/
def execGangEnable (r : Req) (v : Word) (s : State) : Host.Outcome State Fault Refusal :=
  .next (s.doorWrite r (regAddr W_GL GL_GANG) 15 (putBits v.toNat 0 1 1))

end Sys2Proof.Machine
end

