-- ==== Sys2Proof/Machine/HostIf.lean ====
section
/-!
DEFINITION. The host interface (chapter 14): the PCIe endpoint, the SPI and I²C targets, queues and rings as the host and
the DMA block move them, MSI-X; and the accesses and scrubs of chapters 1 and 15 that no register row names.
-/

namespace Sys2Proof.Machine

/-! ### PCIe (R327 to R331) -/

/-- R374: one DW of a BAR0 request; a DW without byte enables is no access, and its read returns zero. -/
def State.bar0Dw (s : State) (write : Bool) (a : Nat) (be : BitVec 4) (v : Word) : State :=
  if be = 0 then (if write then s else s.complete .pcie false a .ok 0)
  else s.hostAccess .pcie a be (if write then some v else none)

/-- R374: the DWs of a request in ascending address order, each under its own rules. -/
def State.bar0 : State → Bool → Nat → List (BitVec 4 × Word) → State
  | s, _, _, [] => s
  | s, write, a, (be, v) :: ds => (s.bar0Dw write a be v).bar0 write (a + 4) ds

/-- PCIE_BAR0_REQUEST (R373, R374). -/
def execPcieBar0Request (write : Bool) (a : Nat) (dws : List (BitVec 4 × Word)) (s : State) :
    Host.Outcome State Fault Refusal :=
  .next (s.bar0 write (a / 4 * 4) dws)

/-- R329, R23: the enabled bytes of one DW written to shared SRAM at offset `a`. -/
def State.bar2Dw (s : State) (a : Nat) (be : BitVec 4) (v : Word) : State :=
  if be = 15 then s.memStore (SRAM + a) 4 v.toNat
  else (List.range 4).foldl (fun (t : State) i =>
    if be.getLsbD i then t.memStore (SRAM + a + i) 1 (bitsOf v.toNat (8 * i) 8) else t) s

/-- The DWs of a BAR2 write; two full DWs of one 64-bit word are written as that word (R23). -/
def State.bar2Write : State → Nat → List (BitVec 4 × Word) → State
  | s, _, [] => s
  | s, a, [(be, v)] => if a < sramSize then s.bar2Dw a be v else s
  | s, a, (be, v) :: (be2, v2) :: ds =>
    if sramSize ≤ a then s
    else if a % 8 = 0 ∧ be = 15 ∧ be2 = 15 then
      (s.memStore (SRAM + a) 8 (v.toNat + v2.toNat * 2 ^ 32)).bar2Write (a + 8) ds
    else (s.bar2Dw a be v).bar2Write (a + 4) ((be2, v2) :: ds)

/-- The bytes of a BAR2 read's DWs, lanes not enabled as zero. -/
def bar2Lanes : List Byte → List (BitVec 4 × Word) → List Byte
  | _, [] => []
  | bs, (be, _) :: ds => leBytes 4 (beLanes be (leNat (bs.take 4))) ++ bar2Lanes (bs.drop 4) ds

/-- What a BAR2 read returns; each 64-bit word of shared SRAM is read once (R23), and none where no byte is enabled. -/
def State.bar2Read (s : State) (a : Nat) (dws : List (BitVec 4 × Word)) : List Byte × State :=
  let ds := dws.take ((sramSize - a) / 4)
  let (bs, t) := if ds.all (fun d => d.1 == 0) then ([], s) else State.memTake (4 * ds.length) s (SRAM + a)
  (bar2Lanes bs ds, t)

/-- PCIE_BAR2_ACCESS (R329): shared SRAM, in every size. -/
def execPcieBar2Access (write : Bool) (a : Nat) (dws : List (BitVec 4 × Word)) (s : State) :
    Host.Outcome State Fault Refusal :=
  .next (if write then s.bar2Write (a / 4 * 4) dws
    else
      let (bs, t) := s.bar2Read (a / 4 * 4) dws
      t.emit (.memAnswer (SRAM + a / 4 * 4) bs))

/-- The link as HIF_STATE shows it. -/
def State.setLinkState (s : State) (up : Bool) (speed width : Nat) (bme d3 : Bool) : State :=
  let was := s.flag W_HIF HIF_STATE_LINKUP
  let s1 := (((((s.put W_HIF HIF_STATE_LINKUP (b2n up)).put W_HIF HIF_STATE_SPEED speed).put W_HIF HIF_STATE_WIDTH
    width).put W_HIF HIF_STATE_BME (b2n bme)).put W_HIF HIF_STATE_D3 (b2n d3))
  if was = up then s1 else (s1.sts W_HIF HIF_PCIESTS 1).raise 0 5

/-- PCIE_LINK_CHANGE (R330, R349); while PERST_N is asserted there is no link. -/
def execPcieLinkChange (up : Bool) (speed : Fin 4) (width : Fin 4) (bme d3 : Bool) (s : State) :
    Host.Outcome State Fault Refusal :=
  .next (if s.hif.perst then s else s.setLinkState up speed width bme d3)

/-- R331: every ring's control register takes its reset value, which disables the ring (R345). -/
def State.ringsOff (s : State) : State :=
  (List.range 64).foldl (fun (t : State) n => (t.wr W_DMA (DMA_R_CTL + ringOff n) 0).ringClearErr n) s

/-- PERST_ASSERT (R331): the configuration space, the link, MSI-X, DMA_CTL and the rings' controls are reset. -/
def execPerstAssert (s : State) : Host.Outcome State Fault Refusal :=
  .next (
    let s1 := (s.setLinkState false 0 0 false false).setHif { s.hif with
      perst := true, aer := 0, vecMask := List.replicate 64 true, funcMask := false, pba := List.replicate 64 false }
    (s1.wr W_DMA DMA_CTL 0).ringsOff)

/-- PERST_RELEASE (R331). -/
def execPerstRelease (s : State) : Host.Outcome State Fault Refusal := .next (s.setHif { s.hif with perst := false })

/-- PCIE_AER_ERROR (R331): the endpoint sets a bit of the AER uncorrectable status; masked while PERST_N is asserted. -/
def execPcieAerError (bit : Fin 32) (s : State) : Host.Outcome State Fault Refusal :=
  .next (if s.hif.perst ∨ bitOf s.hif.aer bit then s
    else (s.setHif { s.hif with aer := s.hif.aer + 2 ^ bit.val }).fault W_HIF K_PCIE_ERR (regAddr W_HIF HIF_STATE))

/-- AER_STATUS_CLEAR (R331): the host clears AER status bits. -/
def execAerStatusClear (mask : Word) (s : State) : Host.Outcome State Fault Refusal :=
  .next (s.setHif { s.hif with aer := Nat.xor s.hif.aer (s.hif.aer &&& mask.toNat) })

/-! ### SPI (R332 to R334) -/

def State.spiOn (s : State) : Bool := s.flag W_HIF HIF_CTL_SPIEN

/-- SPI_ADDRESS_FRAME (R332). -/
def execSpiAddressFrame (f : Word) (s : State) : Host.Outcome State Fault Refusal :=
  let v := f.toNat
  .next (if s.spiOn then
      s.setHif { s.hif with spi := some ⟨bitOf v 31, bitOf v 30, bitOf v 29, bitsOf v 25 4 != 0, v % 2 ^ 25⟩ }
    else s)

/-- R332: INC adds 4 after each data frame. -/
def SpiTxn.step (t : SpiTxn) : SpiTxn := if t.inc then { t with addr := (t.addr + 4) % 2 ^ 25 } else t

/-- SPI_WRITE_FRAME (R334): the frame returned shows the buffer before this datum. -/
def execSpiWriteFrame (v : Word) (s : State) : Host.Outcome State Fault Refusal :=
  .next (match s.hif.spi with
    | none => s
    | some t =>
      if ¬ s.spiOn ∨ t.rnw then s
      else
        let n := s.hif.spiBuf.length
        let s1 := s.emit (.spi (BitVec.ofNat 32 (0x5a5a_0000 + s.hif.spiLast * 2 ^ 8 + n)))
        let s2 := s1.setHif { s1.hif with spi := some t.step }
        if n < 8 then s2.setHif { s2.hif with spiBuf := s.hif.spiBuf ++ [⟨t.sram, t.badHigh, t.addr, v⟩] }
        else (s2.sts W_HIF HIF_PCIESTS 2).raise 0 6)

/-- An SPI access to another member whose answer has not come yet. -/
def State.spiWaits (s : State) : Bool := (s.gl.tun ++ s.gl.tunWait).any (fun x => x.req == .spi)

/-- R332: an SPI access that ends before it is made: its high address bits, or shared SRAM beyond its end, give REACH; an
unaligned address ALIGN (log entry 79). -/
def spiEarly (sram badHigh : Bool) (a : Nat) : Option AccOut :=
  if badHigh ∨ (sram ∧ sramSize ≤ a / 4 * 4) then some .reach
  else if sram ∧ a % 4 ≠ 0 then some .align
  else none

/-- One SPI access. -/
def State.spiAccess (s : State) (sram badHigh : Bool) (a : Nat) (w : Option Word) : State :=
  match spiEarly sram badHigh a with
  | some o => (s.accRecord .spi w.isSome a o).complete .spi w.isSome a o (w.getD ones)
  | none =>
    if ¬ sram then s.hostAccess .spi a 15 w
    else
      match w with
      | some v => (s.memStore (SRAM + a) 4 v.toNat).complete .spi true a .ok v
      | none =>
        let (v, t) := s.memLoad (SRAM + a) 4
        t.complete .spi false a .ok (BitVec.ofNat 32 v)

/-- SPI_BUFFERED_WRITE (R334): the oldest write of the buffer, once the one before it has ended. -/
def execSpiBufferedWrite (s : State) : Host.Outcome State Fault Refusal :=
  .next (match s.hif.spiBuf with
    | [] => s
    | x :: xs =>
      if s.spiWaits then s
      else (s.setHif { s.hif with spiBuf := xs }).spiAccess x.sram x.badHigh x.addr (some x.val))

/-- SPI_READ_ACCESS (R333, R334): a read waits until the write buffer is empty. -/
def execSpiReadAccess (s : State) : Host.Outcome State Fault Refusal :=
  .next (match s.hif.spi with
    | none => s
    | some t =>
      if ¬ s.spiOn ∨ ¬ t.rnw ∨ ¬ s.hif.spiBuf.isEmpty ∨ s.spiWaits then s
      else (s.setHif { s.hif with spi := some t.step }).spiAccess t.sram t.badHigh t.addr none)

/-- SPI_CS_RISE (R332): a partial frame is discarded and sets WIDTH; that of an address has no address to record: a free
value (log entry 79). -/
def execSpiCsRise (part : Bool) (s : State) : Host.Outcome State Fault Refusal :=
  .next (if ¬ s.spiOn then s
    else
      let s1 := s.setHif { s.hif with spi := none }
      if ¬ part then s1
      else
        match s.hif.spi with
        | some t => s1.accRecord .spi (!t.rnw) t.addr .width
        | none =>
          let (x, s2) := s1.takeFree
          s2.accRecord .spi (bitOf x 25) (x % 2 ^ 25) .width)

/-! ### I²C (R335) -/

def State.i2cOn (s : State) : Bool := s.flag W_HIF HIF_CTL_I2CEN

/-- Four data bytes per register, big-endian; a register that ends early gives WIDTH. -/
def State.i2cWrites : State → Nat → List Byte → State
  | s, a, b0 :: b1 :: b2 :: b3 :: bs =>
    (s.ownAccess .i2c a 15 (some (BitVec.ofNat 32 (leNat [b3, b2, b1, b0])))).i2cWrites ((a + 4) % 2 ^ 32) bs
  | s, _, [] => s
  | s, a, _ => s.ownAccess .i2c a 0 (some 0)

/-- I2C_WRITE (R335). -/
def execI2cWrite (a : Word) (bytes : List Byte) (s : State) : Host.Outcome State Fault Refusal :=
  .next (if s.i2cOn then s.i2cWrites a.toNat bytes else s)

/-- `n` registers read one after the other. -/
def State.i2cReads : Nat → State → Nat → State
  | 0, s, _ => s
  | n + 1, s, a => State.i2cReads n (s.ownAccess .i2c a 15 none) ((a + 4) % 2 ^ 32)

/-- I2C_READ (R335): of `n` registers. -/
def execI2cRead (a : Word) (n : Nat) (s : State) : Host.Outcome State Fault Refusal :=
  .next (if s.i2cOn then State.i2cReads n s a.toNat else s)

/-! ### Queues and rings (R336 to R345) -/

/-- QUEUE_ENABLE (R336): a write of DMA_QCTLn with ENABLE = 1. -/
def execQueueEnable (r : Req) (n : Queue) (v : Word) (s : State) : Host.Outcome State Fault Refusal :=
  .next (s.doorWrite r (regAddr W_DMA (DMA_QCTL + qOff n)) 15 (putBits v.toNat 0 1 1))

/-- QUEUE_DISABLE (R339): with ENABLE = 0. -/
def execQueueDisable (r : Req) (n : Queue) (v : Word) (s : State) : Host.Outcome State Fault Refusal :=
  .next (s.doorWrite r (regAddr W_DMA (DMA_QCTL + qOff n)) 15 (putBits v.toNat 0 1 0))

/-- QUEUE_MODE_WRITE (R337): a write of DMA_QCTLn. -/
def execQueueModeWrite (r : Req) (n : Queue) (v : Word) (s : State) : Host.Outcome State Fault Refusal :=
  .next (s.doorWrite r (regAddr W_DMA (DMA_QCTL + qOff n)) 15 v.toNat)

/-- QUEUE_DEADLINE (R338). -/
def execQueueDeadline (n : Queue) (s : State) : Host.Outcome State Fault Refusal :=
  .next (match (s.queue n).drain with
    | none => s
    | some d =>
      if s.due d ∧ ¬ (s.queue n).fired then
        ((s.modQueue n (fun x => { x with fired := true })).count W_DMA DMA_QDLCNT 1).qEvent n 2
      else s)

/-- RING_ENABLE (R341): a write of DMA_RnCTL with ENABLE = 1. -/
def execRingEnable (r : Req) (n : Queue) (v : Word) (s : State) : Host.Outcome State Fault Refusal :=
  .next (s.doorWrite r (regAddr W_DMA (DMA_R_CTL + ringOff n)) 15 (putBits v.toNat 0 1 1))

/-- RING_DISABLE (R345): with ENABLE = 0. -/
def execRingDisable (r : Req) (n : Queue) (v : Word) (s : State) : Host.Outcome State Fault Refusal :=
  .next (s.doorWrite r (regAddr W_DMA (DMA_R_CTL + ringOff n)) 15 (putBits v.toNat 0 1 0))

/-- RING_HIDX_WRITE (R340). -/
def execRingHidxWrite (r : Req) (n : Queue) (v : Word) (s : State) : Host.Outcome State Fault Refusal :=
  .next (s.doorWrite r (regAddr W_DMA (DMA_R_HIDX + ringOff n)) 15 v.toNat)

/-- Whether ring `n` moves elements in direction `h2d` (R330, R342, R345). -/
def State.ringMoves (s : State) (n : Nat) (h2d : Bool) : Bool :=
  s.ringEnabled n && !(s.ring n).err && !s.dmaPaused && s.ringH2D n == h2d

/-- DMA_D2H_MOVE (R342 to R344): a batch of up to `count` entries. -/
def execDmaD2hMove (n : Queue) (count : Nat) (s : State) : Host.Outcome State Fault Refusal :=
  .next (if s.ringMoves n false then
      let (moved, t) := s.d2hMany n count
      if moved then (t.writeBack n).qDataCount n else t
    else s)

/-- DMA_H2D_MOVE (R342 to R344): elements that host memory holds from DIDX on. With THR and TIME both 0 no Q_DATA is raised
(log entry 79). -/
def execDmaH2dMove (n : Queue) (elems : List (BitVec 256)) (s : State) : Host.Outcome State Fault Refusal :=
  .next (if s.ringMoves n true then
      let (moved, t) := s.h2dMany n elems
      if ¬ moved then t
      else
        let t1 := t.writeBack n
        let quiet := t1.rGet n DMA_R_CTL_THR = 0 ∧ t1.rGet n DMA_R_CTL_TIME = 0
        if t1.didx n = t1.hidx n ∧ ¬ quiet then t1.qData n else t1
    else s)

/-- QDATA_AGE_EXPIRY (R344): the oldest element since the last Q_DATA is TIME µs old. -/
def execQdataAgeExpiry (n : Queue) (s : State) : Host.Outcome State Fault Refusal :=
  .next (match (s.ring n).oldest with
    | none => s
    | some c =>
      let t := s.rGet n DMA_R_CTL_TIME
      if t ≠ 0 ∧ s.due ((c + t * usU) % 2 ^ 96) then s.qData n else s)

/-- DMA_RING_ERROR (R345): the bus fails at address `bus`. -/
def execDmaRingError (n : Queue) (bus : Word64) (s : State) : Host.Outcome State Fault Refusal :=
  .next (if s.ringEnabled n ∧ ¬ (s.ring n).err then
      let s1 := (s.modRing n (fun x => { x with err := true })).sts W_DMA (DMA_QSTS + qOff n) 8
      let s2 := (s1.putPair W_DMA DMA_ERRADDR_LO bus.toNat).put W_DMA DMA_STATE_LASTERR n
      s2.fault W_DMA K_DMA_ERR (regAddr W_DMA (DMA_R_CTL + ringOff n))
    else s)

/-! ### Events (R346, R347) -/

/-- EVT_ACK_WRITE (R346). -/
def execEvtAckWrite (r : Req) (g : Fin 16) (v : Word) (s : State) : Host.Outcome State Fault Refusal :=
  .next (s.doorWrite r (regAddr W_EVT (EVT_ACK + 4 * g)) 15 v.toNat)

/-- R347: one message for a vector that is no longer masked and whose PBA bit is set. -/
def State.msixRelease (s : State) (v : Nat) : State :=
  if s.hif.funcMask || lget true s.hif.vecMask v || !lget false s.hif.pba v then s
  else
    let s1 := s.setHif { s.hif with pba := lput false s.hif.pba v false }
    if s1.msixOut then s1.emit (.msix v) else s1

/-- MSIX_UNMASK (R347): one vector's mask is removed, or the function's. -/
def execMsixUnmask (vec : Option (Fin 64)) (s : State) : Host.Outcome State Fault Refusal :=
  .next (match vec with
    | some v => (s.setHif { s.hif with vecMask := lput true s.hif.vecMask v false }).msixRelease v
    | none => (List.range 64).foldl State.msixRelease (s.setHif { s.hif with funcMask := false }))

/-! ### Accesses without a row of their own (R25, R356, R375) -/

/-- LATCHING_READ (R375): a read with its latches. -/
def execLatchingRead (r : Req) (a : Nat) (be : BitVec 4) (s : State) : Host.Outcome State Fault Refusal :=
  .next (s.doorRead r a be)

/-- Whether a block answers at the address at all, and so may fail to (R465). -/
def blockAnswers (a : Nat) : Bool := decide (a % 0x40_0000 < 0x20_0000) && (winBlock (a % 0x40_0000 / 0x4000)).isSome

/-- A buffered SPI write that its block did not answer is done with (R25, R333). -/
def State.spiWriteGone (s : State) (a : Nat) (v : Word) : State :=
  match s.hif.spiBuf with
  | x :: xs => if ¬ x.sram ∧ x.addr = a ∧ x.val = v then s.setHif { s.hif with spiBuf := xs } else s
  | [] => s

/-- An SPI read that its block did not answer counts as a step of its transaction (R25, R333). -/
def State.spiReadGone (s : State) (a : Nat) : State :=
  match s.hif.spi with
  | some t => if t.rnw ∧ t.addr = a then s.setHif { s.hif with spi := some t.step } else s
  | none => s

/-- An at-time entry of engine `k` whose POUT its block did not answer is done with (R25, R299). -/
def State.atGone (s : State) (k a : Nat) (v : Word) : State :=
  match (s.eng k).ats.find? (fun e => s.atDue e && e.act == .pout (a / 0x4000) (a % 0x4000) v) with
  | some e => s.modEng k (fun x => { x with ats := x.ats.erase e })
  | none => s

/-- R25: the access that a block did not answer waits no longer: an SPI write has left its buffer, an SPI read's transaction
goes on, an at-time entry has fired. -/
def State.accessGone (s : State) (r : Req) (a : Nat) (w : Option Word) : State :=
  match r with
  | .spi => if w.isSome then s.spiWriteGone a (w.getD 0) else s.spiReadGone a
  | .atEntry k => if w.isSome then s.atGone k a (w.getD 0) else s
  | _ => s

/-- BLOCK_TIMEOUT (R25, R465): the block does not answer. `x` is the register that an engine's PIN names, or the tag of a
tunnelled access. -/
def execBlockTimeout (r : Req) (a : Nat) (w : Option Word) (x : Nat) (s : State) : Host.Outcome State Fault Refusal :=
  .next (if ¬ blockAnswers a then s
    else
      match r with
      | .eng k => s.portTimeout k a w (x % 32)
      | .tunnel m =>
        let (o, v, t) := s.timeoutAccess r a w
        t.glTo (m % 8) GL_TUNRSP (tunRsp x o v)
      | _ =>
        let (o, v, t) := (s.accessGone r a w).timeoutAccess r a w
        t.complete r w.isSome a o (w.getD v))

/-- LATE_BLOCK_ANSWER (R25): the block takes up the `i`-th abandoned write; its answer is discarded. -/
def execLateBlockAnswer (i : Nat) (s : State) : Host.Outcome State Fault Refusal :=
  .next (match s.acc.abandoned[i]? with
    | none => s
    | some x =>
      ((s.setAcc { s.acc with abandoned := s.acc.abandoned.eraseIdx i }).blockWrite x.req (x.addr % 0x40_0000)
        x.val.toNat).2.softResume)

/-- HELD_CROSSING_EFFECT (R19): the oldest command held for the TB clock, at the second tick after that clock's first. -/
def execHeldCrossingEffect (s : State) : Host.Outcome State Fault Refusal :=
  .next (match s.acc.held with
    | [] => s
    | (r, a, v) :: rest =>
      if s.tbClocked then (s.setAcc { s.acc with held := rest }).cmdAct r (a / 0x4000) (a % 0x4000) v.toNat else s)

/-! ### Scrubbers (R23, R368) -/

/-- The number of ones among the `n` low bits. -/
def ones01 (n v : Nat) : Nat := ((List.range n).filter (fun i => bitOf v i)).length

/-- Stored bits of a register change by themselves: bits 0 to 31 its data, bit 32 its parity. An odd number of changes
turns the parity check over (R368). -/
def State.parUpset (s : State) (a u : Nat) : State :=
  let v := (sparseGet regReset s.regs a).toNat
  let s1 := s.setRegs (sparsePut regReset s.regs a (BitVec.ofNat 32 (Nat.xor v (u % 2 ^ 32))))
  if ones01 33 u % 2 = 0 then s1
  else if s.par.any (fun e => e.1 == a) then s1.setPar (s.par.filter (fun e => e.1 != a))
  else s1.setPar (s.par ++ [(a, false)])

/-- PARITY_SCRUB (R368, R462): the scrubber visits a CFG or RUN register, some of whose bits (`upset`) have changed. -/
def execParityScrub (a : Nat) (upset : BitVec 33) (s : State) : Host.Outcome State Fault Refusal :=
  let w := a / 0x4000
  let off := a % 0x4000
  let held : Bool := match regRow w off with
    | none => false
    | some row => row.cls == .cfg || row.cls == .run
  .next (if held && decide (off < 0x1000) then (s.parUpset a upset.toNat).parCheck w off else s)

/-- Whether `a` lies in shared SRAM or an engine's memory. -/
def inMemory (a : Nat) : Bool := decide (SRAM ≤ a ∧ a < SRAM + sramSize) || (memEngine a).isSome

/-- A word gains a single-bit (1) or double-bit (2) error; two single ones make a double one (R23). -/
def State.eccUpset (s : State) (a n : Nat) : State :=
  let had := s.ecc.any (fun e => e.1 == a)
  if n = 0 then s else s.setEcc ((a, n == 2 || had) :: s.ecc.filter (fun e => e.1 != a))

/-- SRAM_SCRUB (R23): the scrubber reads a word, which holds a new error of `upset` bits. -/
def execSramScrub (a : Nat) (upset : Fin 3) (s : State) : Host.Outcome State Fault Refusal :=
  .next (if inMemory a then ((s.eccUpset (a / 8 * 8) upset).eccCheck (a / 8 * 8)).2 else s)

end Sys2Proof.Machine
end

