-- ==== Sys2Proof/Machine/Writes.lean ====
section
/-!
DEFINITION. The rows that are one register access: each is the write of the register its rule names, with the field that
makes it that command set as the row says, at the requester's door. What the write does is in Machine/Effects.lean.
-/

namespace Sys2Proof.Machine

/-- A write of the register at offset `off` of window `w`. -/
def State.wrReg (s : State) (r : Req) (w off : Nat) (v : Word) : State := s.doorWrite r (regAddr w off) 15 v.toNat

/-- A write of the register that holds field `f` of window `w`, that field being `x`. -/
def State.wrFld (s : State) (r : Req) (w : Nat) (f : Fld) (x : Nat) (v : Word) : State :=
  s.doorWrite r (regAddr w f.off) 15 (putBits v.toNat f.lsb f.width x)

/-- A write of NVS_CMD with operation `op` (R421). -/
def State.wrNv (s : State) (r : Req) (op : Nat) (v : Word) : State := s.wrFld r W_NVS NVS_CMD_OP op v

/-- Rows whose check bits are found wrong, true for a double-bit error (R420). -/
def State.nvUpset (s : State) (l : List (Nat × Bool)) : State :=
  let kept := s.nv.bad.filter (fun e => !(l.any (fun x => x.1 / 8 * 8 == e.1)))
  s.setNv { s.nv with bad := l.map (fun e => (e.1 / 8 * 8, e.2)) ++ kept }

/-- The address of a register's alias `i` (1 SET, 2 CLR, 3 TGL); only block windows have aliases (R363, R376). -/
def aliasAddr (a i : Nat) : Nat :=
  if a % 0x40_0000 < 0x20_0000 then a / 0x4000 * 0x4000 + a % 0x1000 + 0x1000 * i else a

/-- REGISTER_WRITE (R354, R356). -/
def execRegisterWrite (r : Req) (a : Nat) (be : BitVec 4) (v : Word) (s : State) : Host.Outcome State Fault Refusal :=
  .next (s.doorWrite r a be v.toNat)

/-- STAGED_WRITE (R466). -/
def execStagedWrite (r : Req) (a : Nat) (v : Word) (s : State) : Host.Outcome State Fault Refusal :=
  .next (s.doorWrite r a 15 v.toNat)

/-- SET_ALIAS_WRITE (R363). -/
def execSetAliasWrite (r : Req) (a : Nat) (v : Word) (s : State) : Host.Outcome State Fault Refusal :=
  .next (s.doorWrite r (aliasAddr a 1) 15 v.toNat)

/-- CLR_ALIAS_WRITE (R363). -/
def execClrAliasWrite (r : Req) (a : Nat) (v : Word) (s : State) : Host.Outcome State Fault Refusal :=
  .next (s.doorWrite r (aliasAddr a 2) 15 v.toNat)

/-- TGL_ALIAS_WRITE (R363). -/
def execTglAliasWrite (r : Req) (a : Nat) (v : Word) (s : State) : Host.Outcome State Fault Refusal :=
  .next (s.doorWrite r (aliasAddr a 3) 15 v.toNat)

/-- STS_SEQ_CLEAR (R360). -/
def execStsSeqClear (r : Req) (a : Nat) (v : Word) (s : State) : Host.Outcome State Fault Refusal :=
  .next (s.doorWrite r a 15 v.toNat)

/-- GUARD_LOCK_WRITE (R369). -/
def execGuardLockWrite (r : Req) (v : Word) (s : State) : Host.Outcome State Fault Refusal :=
  .next (s.wrReg r W_GUARD GUARD_LOCK v)

/-- LOADER_LOAD (R315). -/
def execLoaderLoad (r : Req) (v : Word) (s : State) : Host.Outcome State Fault Refusal :=
  .next (s.wrFld r W_ENG ENG_LDRCMD_LOAD 1 v)

/-- ENGINE_HALT (R317). -/
def execEngineHalt (r : Req) (k : EngId) (v : Word) (s : State) : Host.Outcome State Fault Refusal :=
  .next (s.wrFld r (W_ENG + k) ENG_CMD_HALT 1 v)

/-- ENGINE_RUN (R317). -/
def execEngineRun (r : Req) (k : EngId) (v : Word) (s : State) : Host.Outcome State Fault Refusal :=
  .next (s.wrFld r (W_ENG + k) ENG_CMD_RUN 1 v)

/-- ENGINE_RESTART (R317). -/
def execEngineRestart (r : Req) (k : EngId) (v : Word) (s : State) : Host.Outcome State Fault Refusal :=
  .next (s.wrFld r (W_ENG + k) ENG_CMD_RESTART 1 v)

/-- FLT_ACK_WRITE (R382). -/
def execFltAckWrite (r : Req) (v : Word) (s : State) : Host.Outcome State Fault Refusal :=
  .next (s.wrReg r W_FLT FLT_ACK v)

/-- FAULT_CLEAR (R387). -/
def execFaultClear (r : Req) (v : Word) (s : State) : Host.Outcome State Fault Refusal :=
  .next (s.wrReg r W_FLT FLT_STATUS v)

/-- SRC_ENABLE (R46). -/
def execSrcEnable (r : Req) (n : Src) (v : Word) (s : State) : Host.Outcome State Fault Refusal :=
  .next (s.wrFld r (wSrc n) SRC_EN_ENABLE 1 v)

/-- SRC_DISABLE (R46). -/
def execSrcDisable (r : Req) (n : Src) (v : Word) (s : State) : Host.Outcome State Fault Refusal :=
  .next (s.wrFld r (wSrc n) SRC_EN_ENABLE 0 v)

/-- SRC_FORCE_WRITE (R50). -/
def execSrcForceWrite (r : Req) (n : Src) (v : Word) (s : State) : Host.Outcome State Fault Refusal :=
  .next (s.wrReg r (wSrc n) SRC_EN v)

/-- SRC_VERDICT_WRITE (R46). -/
def execSrcVerdictWrite (r : Req) (n : Src) (v : Word) (s : State) : Host.Outcome State Fault Refusal :=
  .next (s.wrReg r (wSrc n) SRC_VERDICT v)

/-- SRC_ACCEPT (R49). -/
def execSrcAccept (r : Req) (n : Src) (v : Word) (s : State) : Host.Outcome State Fault Refusal :=
  .next (s.wrFld r (wSrc n) SRC_CMD_ACCEPT 1 v)

/-- SRC_HOLD (R49). -/
def execSrcHold (r : Req) (n : Src) (v : Word) (s : State) : Host.Outcome State Fault Refusal :=
  .next (s.wrFld r (wSrc n) SRC_CMD_HOLD 1 v)

/-- SRC_CLRSTAT (R49). -/
def execSrcClrstat (r : Req) (n : Src) (v : Word) (s : State) : Host.Outcome State Fault Refusal :=
  .next (s.wrFld r (wSrc n) SRC_CMD_CLRSTAT 1 v)

/-- SEL_REEVAL (R62). -/
def execSelReeval (r : Req) (n : Loop) (v : Word) (s : State) : Host.Outcome State Fault Refusal :=
  .next (s.wrFld r (wDpll n) DPLL_SEL_CMD_REEVAL 1 v)

/-- SEL_ABSORB (R66). -/
def execSelAbsorb (r : Req) (n : Loop) (v : Word) (s : State) : Host.Outcome State Fault Refusal :=
  .next (s.wrFld r (wDpll n) DPLL_SEL_CMD_ABSORB 1 v)

/-- DCOW_COMMIT (R79). -/
def execDcowCommit (r : Req) (n : Loop) (v : Word) (s : State) : Host.Outcome State Fault Refusal :=
  .next (s.wrReg r (wDpll n) DPLL_DCOW_HI v)

/-- HOWORD_COMMIT (R92). -/
def execHowordCommit (r : Req) (n : Loop) (v : Word) (s : State) : Host.Outcome State Fault Refusal :=
  .next (s.wrReg r (wDpll n) DPLL_HOWORD_HI v)

/-- PHASE_STEP_COMMAND (R90). -/
def execPhaseStepCommand (r : Req) (n : Loop) (v : Word) (s : State) : Host.Outcome State Fault Refusal :=
  .next (s.wrReg r (wDpll n) DPLL_PSTEP_HI v)

/-- PSABORT (R91). -/
def execPsabort (r : Req) (n : Loop) (v : Word) (s : State) : Host.Outcome State Fault Refusal :=
  .next (s.wrFld r (wDpll n) DPLL_CMD_PSABORT 1 v)

/-- DPLL_ENABLE (R96). -/
def execDpllEnable (r : Req) (n : Loop) (v : Word) (s : State) : Host.Outcome State Fault Refusal :=
  .next (s.wrFld r (wDpll n) DPLL_CTL_ENABLE 1 v)

/-- DPLL_DISABLE (R99). -/
def execDpllDisable (r : Req) (n : Loop) (v : Word) (s : State) : Host.Outcome State Fault Refusal :=
  .next (s.wrFld r (wDpll n) DPLL_CTL_ENABLE 0 v)

/-- TIED_SET (R95). -/
def execTiedSet (r : Req) (v : Word) (s : State) : Host.Outcome State Fault Refusal :=
  .next (s.wrFld r (wDpll 0) DPLL_CTL_TIED 1 v)

/-- TIED_CLEAR (R95). -/
def execTiedClear (r : Req) (v : Word) (s : State) : Host.Outcome State Fault Refusal :=
  .next (s.wrFld r (wDpll 0) DPLL_CTL_TIED 0 v)

/-- LPSTAT_WRITE (R87). -/
def execLpstatWrite (r : Req) (n : Loop) (v : Word) (s : State) : Host.Outcome State Fault Refusal :=
  .next (s.wrReg r (wDpll n) DPLL_LPSTAT v)

/-- OSC_GEN_COMMIT (R116). -/
def execOscGenCommit (r : Req) (v : Word) (s : State) : Host.Outcome State Fault Refusal :=
  .next (s.wrReg r W_OSC OSC_GEN v)

/-- LS_INFO_READ (R110). -/
def execLsInfoRead (r : Req) (s : State) : Host.Outcome State Fault Refusal :=
  .next (s.doorRead r (regAddr W_OSC OSC_LS_INFO) 15)

/-- APLL_ENABLE (R128). -/
def execApllEnable (r : Req) (n : Apll) (v : Word) (s : State) : Host.Outcome State Fault Refusal :=
  .next (s.wrFld r (wApll n) APLL_CTL_ENABLE 1 v)

/-- APLL_DISABLE (R139). -/
def execApllDisable (r : Req) (n : Apll) (v : Word) (s : State) : Host.Outcome State Fault Refusal :=
  .next (s.wrFld r (wApll n) APLL_CTL_ENABLE 0 v)

/-- BRG_MAP_WRITE (R134). -/
def execBrgMapWrite (r : Req) (v : Word) (s : State) : Host.Outcome State Fault Refusal :=
  .next (s.wrReg r W_BRG BRG_MAP v)

/-- OUT_ENABLE (R152). -/
def execOutEnable (r : Req) (n : Chan) (v : Word) (s : State) : Host.Outcome State Fault Refusal :=
  .next (s.wrFld r (wOut n) OUT_CTL_ENABLE 1 v)

/-- OUT_DISABLE (R152). -/
def execOutDisable (r : Req) (n : Chan) (v : Word) (s : State) : Host.Outcome State Fault Refusal :=
  .next (s.wrFld r (wOut n) OUT_CTL_ENABLE 0 v)

/-- OUT_RESUME (R157). -/
def execOutResume (r : Req) (n : Chan) (v : Word) (s : State) : Host.Outcome State Fault Refusal :=
  .next (s.wrFld r (wOut n) OUT_CMD_RESUME 1 v)

/-- SYNC_ARM (R168). -/
def execSyncArm (r : Req) (v : Word) (s : State) : Host.Outcome State Fault Refusal :=
  .next (s.wrFld r W_SYNC SYNC_CMD_ARM 1 v)

/-- SYNC_DISARM (R169). -/
def execSyncDisarm (r : Req) (v : Word) (s : State) : Host.Outcome State Fault Refusal :=
  .next (s.wrFld r W_SYNC SYNC_CMD_DISARM 1 v)

/-- SR_START (R176). -/
def execSrStart (r : Req) (g : SrGen) (v : Word) (s : State) : Host.Outcome State Fault Refusal :=
  .next (s.wrFld r W_SYNC (SYNC_SR_CMD_START.up (0x20 * g)) 1 v)

/-- SR_STOP (R177). -/
def execSrStop (r : Req) (g : SrGen) (v : Word) (s : State) : Host.Outcome State Fault Refusal :=
  .next (s.wrFld r W_SYNC (SYNC_SR_CMD_STOP.up (0x20 * g)) 1 v)

/-- TB_INCR_COMMIT (R195). -/
def execTbIncrCommit (r : Req) (v : Word) (s : State) : Host.Outcome State Fault Refusal :=
  .next (s.wrReg r W_TB TB_INCR_HI v)

/-- TB_SRVW_COMMIT (R195). -/
def execTbSrvwCommit (r : Req) (v : Word) (s : State) : Host.Outcome State Fault Refusal :=
  .next (s.wrReg r W_TB TB_SRVW_HI v)

/-- TB_STEER_WRITE (R195). -/
def execTbSteerWrite (r : Req) (v : Word) (s : State) : Host.Outcome State Fault Refusal :=
  .next (s.wrReg r W_TB TB_STEER v)

/-- TB_MODE_WRITE (R196). -/
def execTbModeWrite (r : Req) (v : Word) (s : State) : Host.Outcome State Fault Refusal :=
  .next (s.wrReg r W_TB TB_MODE v)

/-- TB_STEP_COMMAND (R197). -/
def execTbStepCommand (r : Req) (v : Word) (s : State) : Host.Outcome State Fault Refusal :=
  .next (s.wrReg r W_TB TB_STEP_W2 v)

/-- TB_BACKEN_WRITE (R199). -/
def execTbBackenWrite (r : Req) (v : Word) (s : State) : Host.Outcome State Fault Refusal :=
  .next (s.wrReg r W_TB TB_BACKEN v)

/-- TB_RESYNC (R212). -/
def execTbResync (r : Req) (v : Word) (s : State) : Host.Outcome State Fault Refusal :=
  .next (s.wrFld r W_TB TB_CMD_RESYNC 1 v)

/-- TEV_ARM (R201). -/
def execTevArm (r : Req) (g : Gen) (v : Word) (s : State) : Host.Outcome State Fault Refusal :=
  .next (s.wrFld r W_TEV (TEV_G_CMD_ARM.up (0x40 * g)) 1 v)

/-- TEV_DISARM (R201). -/
def execTevDisarm (r : Req) (g : Gen) (v : Word) (s : State) : Host.Outcome State Fault Refusal :=
  .next (s.wrFld r W_TEV (TEV_G_CMD_DISARM.up (0x40 * g)) 1 v)

/-- TEV_DISABLE (R201). -/
def execTevDisable (r : Req) (v : Word) (s : State) : Host.Outcome State Fault Refusal :=
  .next (s.wrFld r W_TEV TEV_CTL_ENABLE 0 v)

/-- SNAP_RELEASE (R209). -/
def execSnapRelease (r : Req) (v : Word) (s : State) : Host.Outcome State Fault Refusal :=
  .next (s.wrFld r W_SNAP SNAP_CMD_RELEASE 1 v)

/-- SNAP_RINGGO (R210). -/
def execSnapRinggo (r : Req) (v : Word) (s : State) : Host.Outcome State Fault Refusal :=
  .next (s.wrFld r W_SNAP SNAP_CMD_RINGGO 1 v)

/-- PTP_ENABLE (R224). -/
def execPtpEnable (r : Req) (n : Port) (v : Word) (s : State) : Host.Outcome State Fault Refusal :=
  .next (s.wrFld r (wPtp n) PTP_CTL_ENABLE 1 v)

/-- PTP_SRVEN_WRITE (R231). -/
def execPtpSrvenWrite (r : Req) (n : Port) (v : Word) (s : State) : Host.Outcome State Fault Refusal :=
  .next (s.wrReg r (wPtp n) PTP_CTL v)

/-- PTP_PSTATE_WRITE (R229). -/
def execPtpPstateWrite (r : Req) (n : Port) (v : Word) (s : State) : Host.Outcome State Fault Refusal :=
  .next (s.wrReg r (wPtp n) PTP_PSTATE v)

/-- PTP_OFFSET_COMMIT (R230). -/
def execPtpOffsetCommit (r : Req) (n : Port) (v : Word) (s : State) : Host.Outcome State Fault Refusal :=
  .next (s.wrReg r (wPtp n) PTP_OFS_HI v)

/-- PTP_PATHHOLD (R237). -/
def execPtpPathhold (r : Req) (n : Port) (v : Word) (s : State) : Host.Outcome State Fault Refusal :=
  .next (s.wrFld r (wPtp n) PTP_CMD_PATHHOLD 1 v)

/-- PTP_PATHACCEPT (R238). -/
def execPtpPathaccept (r : Req) (n : Port) (v : Word) (s : State) : Host.Outcome State Fault Refusal :=
  .next (s.wrFld r (wPtp n) PTP_CMD_PATHACCEPT 1 v)

/-- PTP_PATHREJECT (R238). -/
def execPtpPathreject (r : Req) (n : Port) (v : Word) (s : State) : Host.Outcome State Fault Refusal :=
  .next (s.wrFld r (wPtp n) PTP_CMD_PATHREJECT 1 v)

/-- PTP_PARENTCHG (R235). -/
def execPtpParentchg (r : Req) (n : Port) (v : Word) (s : State) : Host.Outcome State Fault Refusal :=
  .next (s.wrFld r (wPtp n) PTP_CMD_PARENTCHG 1 v)

/-- PTP_SRVRESET (R238). -/
def execPtpSrvreset (r : Req) (n : Port) (v : Word) (s : State) : Host.Outcome State Fault Refusal :=
  .next (s.wrFld r (wPtp n) PTP_CMD_SRVRESET 1 v)

/-- SYE_RXSSM_WRITE (R241). -/
def execSyeRxssmWrite (r : Req) (p : Port) (v : Word) (s : State) : Host.Outcome State Fault Refusal :=
  .next (s.wrReg r W_SYE (SYE_RXSSM0 + 4 * p) v)

/-- CALSEQ_START (R405). -/
def execCalseqStart (r : Req) (v : Word) (s : State) : Host.Outcome State Fault Refusal :=
  .next (s.wrFld r W_CAL CAL_SEQCMD_START 1 v)

/-- CALSEQ_CONT (R405). -/
def execCalseqCont (r : Req) (v : Word) (s : State) : Host.Outcome State Fault Refusal :=
  .next (s.wrFld r W_CAL CAL_SEQCMD_CONT 1 v)

/-- CALSEQ_ABORT (R407). -/
def execCalseqAbort (r : Req) (v : Word) (s : State) : Host.Outcome State Fault Refusal :=
  .next (s.wrFld r W_CAL CAL_SEQCMD_ABORT 1 v)

/-- CAL_TPTS_WRITE (R402). -/
def execCalTptsWrite (r : Req) (j : Fin 2) (v : Word) (s : State) : Host.Outcome State Fault Refusal :=
  .next (s.wrReg r W_CAL (CAL_TPTS0 + 4 * j) v)

/-- CAL_TDATA_ACCESS (R404). -/
def execCalTdataAccess (r : Req) (w : Option Word) (s : State) : Host.Outcome State Fault Refusal :=
  .next (match w with
    | some v => s.wrReg r W_CAL CAL_TDATA v
    | none => s.doorRead r (regAddr W_CAL CAL_TDATA) 15)

/-- HLTH_PLAN_WRITE (R410). -/
def execHlthPlanWrite (r : Req) (v : Word) (s : State) : Host.Outcome State Fault Refusal :=
  .next (s.wrReg r W_HLTH HLTH_PLAN v)

/-- HLTH_AGEACK (R411). -/
def execHlthAgeack (r : Req) (v : Word) (s : State) : Host.Outcome State Fault Refusal :=
  .next (s.wrFld r W_HLTH HLTH_CMD_AGEACK 1 v)

/-- HLTH_AGENOW (R418). -/
def execHlthAgenow (r : Req) (v : Word) (s : State) : Host.Outcome State Fault Refusal :=
  .next (s.wrFld r W_HLTH HLTH_CMD_AGENOW 1 v)

/-- LIFEDATA_ACCESS (R413). -/
def execLifedataAccess (r : Req) (w : Option Word) (s : State) : Host.Outcome State Fault Refusal :=
  .next (match w with
    | some v => s.wrReg r W_HLTH HLTH_LIFEDATA v
    | none => s.doorRead r (regAddr W_HLTH HLTH_LIFEDATA) 15)

/-- NV_READ (R421). -/
def execNvRead (r : Req) (v : Word) (upset : List (Nat × Bool)) (s : State) : Host.Outcome State Fault Refusal :=
  .next ((s.nvUpset upset).wrNv r 1 v)

/-- NV_COPYOUT (R421). -/
def execNvCopyout (r : Req) (v : Word) (upset : List (Nat × Bool)) (s : State) : Host.Outcome State Fault Refusal :=
  .next ((s.nvUpset upset).wrNv r 3 v)

/-- NV_WRITE (R422). -/
def execNvWrite (r : Req) (v : Word) (s : State) : Host.Outcome State Fault Refusal :=
  .next (s.wrNv r 2 v)

/-- NV_COPYIN (R421). -/
def execNvCopyin (r : Req) (v : Word) (s : State) : Host.Outcome State Fault Refusal :=
  .next (s.wrNv r 4 v)

/-- NV_UNLOCK (R424). -/
def execNvUnlock (r : Req) (v : Word) (s : State) : Host.Outcome State Fault Refusal :=
  .next (s.wrNv r 5 v)

/-- NV_RELOCK (R421). -/
def execNvRelock (r : Req) (v : Word) (s : State) : Host.Outcome State Fault Refusal :=
  .next (s.wrNv r 6 v)

/-- NV_SETPWD (R426). -/
def execNvSetpwd (r : Req) (v : Word) (s : State) : Host.Outcome State Fault Refusal :=
  .next (s.wrNv r 7 v)

/-- NV_SCANNOW (R430). -/
def execNvScannow (r : Req) (v : Word) (s : State) : Host.Outcome State Fault Refusal :=
  .next (s.wrNv r 8 v)

/-- NV_SLOT_UPDATE (R431). -/
def execNvSlotUpdate (r : Req) (v : Word) (s : State) : Host.Outcome State Fault Refusal :=
  .next (s.wrFld r W_NVS NVS_SLOTCMD_FETCH 0 v)

/-- NV_SLOT_FETCH (R431). -/
def execNvSlotFetch (r : Req) (v : Word) (s : State) : Host.Outcome State Fault Refusal :=
  .next (s.wrFld r W_NVS NVS_SLOTCMD_FETCH 1 v)

end Sys2Proof.Machine
end

