-- ==== Sys2Proof/Machine/Dispatch.lean ====
section
/-!
DEFINITION. The meaning of every command: one arm per constructor of Instr, each a call of that command's own meaning.
-/

namespace Sys2Proof.Machine

/-- The effect of a command on everything but the queue of waiting commands. -/
def exec (i : Instr) (s : State) : Host.Outcome State Fault Refusal :=
  match i with
  | .registerWrite r a be v => Sys2Proof.Machine.execRegisterWrite r a be v s
  | .latchingRead r a be => Sys2Proof.Machine.execLatchingRead r a be s
  | .stagedWrite r a v => Sys2Proof.Machine.execStagedWrite r a v s
  | .setAliasWrite r a v => Sys2Proof.Machine.execSetAliasWrite r a v s
  | .clrAliasWrite r a v => Sys2Proof.Machine.execClrAliasWrite r a v s
  | .tglAliasWrite r a v => Sys2Proof.Machine.execTglAliasWrite r a v s
  | .stsSeqClear r a v => Sys2Proof.Machine.execStsSeqClear r a v s
  | .guardLockWrite r v => Sys2Proof.Machine.execGuardLockWrite r v s
  | .blockTimeout r a w x => Sys2Proof.Machine.execBlockTimeout r a w x s
  | .lateBlockAnswer n => Sys2Proof.Machine.execLateBlockAnswer n s
  | .heldCrossingEffect => Sys2Proof.Machine.execHeldCrossingEffect s
  | .parityScrub a upset => Sys2Proof.Machine.execParityScrub a upset s
  | .sramScrub a upset => Sys2Proof.Machine.execSramScrub a upset s
  | .handlerEntry k => Sys2Proof.Machine.execHandlerEntry k s
  | .supTick => Sys2Proof.Machine.execSupTick s
  | .handlerOverrun k => Sys2Proof.Machine.execHandlerOverrun k s
  | .qputWaitEnd k => Sys2Proof.Machine.execQputWaitEnd k s
  | .sendWaitEnd k => Sys2Proof.Machine.execSendWaitEnd k s
  | .atEntryFiring k => Sys2Proof.Machine.execAtEntryFiring k s
  | .add k rd ra rb => Sys2Proof.Machine.execAdd k rd ra rb s
  | .sub k rd ra rb => Sys2Proof.Machine.execSub k rd ra rb s
  | .and k rd ra rb => Sys2Proof.Machine.execAnd k rd ra rb s
  | .or k rd ra rb => Sys2Proof.Machine.execOr k rd ra rb s
  | .xor k rd ra rb => Sys2Proof.Machine.execXor k rd ra rb s
  | .shl k rd ra rb => Sys2Proof.Machine.execShl k rd ra rb s
  | .shr k rd ra rb => Sys2Proof.Machine.execShr k rd ra rb s
  | .sar k rd ra rb => Sys2Proof.Machine.execSar k rd ra rb s
  | .adds k rd ra rb => Sys2Proof.Machine.execAdds k rd ra rb s
  | .subs k rd ra rb => Sys2Proof.Machine.execSubs k rd ra rb s
  | .min k rd ra rb => Sys2Proof.Machine.execMin k rd ra rb s
  | .max k rd ra rb => Sys2Proof.Machine.execMax k rd ra rb s
  | .minu k rd ra rb => Sys2Proof.Machine.execMinu k rd ra rb s
  | .maxu k rd ra rb => Sys2Proof.Machine.execMaxu k rd ra rb s
  | .mul k rd ra rb => Sys2Proof.Machine.execMul k rd ra rb s
  | .mulhs k rd ra rb => Sys2Proof.Machine.execMulhs k rd ra rb s
  | .cmp k ra rb => Sys2Proof.Machine.execCmp k ra rb s
  | .abs k rd ra => Sys2Proof.Machine.execAbs k rd ra s
  | .negs k rd ra => Sys2Proof.Machine.execNegs k rd ra s
  | .clz k rd ra => Sys2Proof.Machine.execClz k rd ra s
  | .sxt k rd ra b => Sys2Proof.Machine.execSxt k rd ra b s
  | .addi k rd ra imm => Sys2Proof.Machine.execAddi k rd ra imm s
  | .andi k rd ra imm => Sys2Proof.Machine.execAndi k rd ra imm s
  | .ori k rd ra imm => Sys2Proof.Machine.execOri k rd ra imm s
  | .xori k rd ra imm => Sys2Proof.Machine.execXori k rd ra imm s
  | .shli k rd ra sh => Sys2Proof.Machine.execShli k rd ra sh s
  | .shri k rd ra sh => Sys2Proof.Machine.execShri k rd ra sh s
  | .sari k rd ra sh => Sys2Proof.Machine.execSari k rd ra sh s
  | .cmpi k ra imm => Sys2Proof.Machine.execCmpi k ra imm s
  | .ldk k rd imm => Sys2Proof.Machine.execLdk k rd imm s
  | .shin k rd imm => Sys2Proof.Machine.execShin k rd imm s
  | .mulq k rd ra rb sh => Sys2Proof.Machine.execMulq k rd ra rb sh s
  | .macq k rd ra rb sh => Sys2Proof.Machine.execMacq k rd ra rb sh s
  | .msuq k rd ra rb sh => Sys2Proof.Machine.execMsuq k rd ra rb sh s
  | .divs k rd ra rb => Sys2Proof.Machine.execDivs k rd ra rb s
  | .sqrtu k rd ra => Sys2Proof.Machine.execSqrtu k rd ra s
  | .ld8u k rd ra imm => Sys2Proof.Machine.execLd8u k rd ra imm s
  | .ld8s k rd ra imm => Sys2Proof.Machine.execLd8s k rd ra imm s
  | .ld16u k rd ra imm => Sys2Proof.Machine.execLd16u k rd ra imm s
  | .ld16s k rd ra imm => Sys2Proof.Machine.execLd16s k rd ra imm s
  | .ld32u k rd ra imm => Sys2Proof.Machine.execLd32u k rd ra imm s
  | .ld32s k rd ra imm => Sys2Proof.Machine.execLd32s k rd ra imm s
  | .ld64 k rd ra imm => Sys2Proof.Machine.execLd64 k rd ra imm s
  | .st8 k rs ra imm => Sys2Proof.Machine.execSt8 k rs ra imm s
  | .st16 k rs ra imm => Sys2Proof.Machine.execSt16 k rs ra imm s
  | .st32 k rs ra imm => Sys2Proof.Machine.execSt32 k rs ra imm s
  | .st64 k rs ra imm => Sys2Proof.Machine.execSt64 k rs ra imm s
  | .fwd k cond off => Sys2Proof.Machine.execFwd k cond off s
  | .loop k count len => Sys2Proof.Machine.execLoop k count len s
  | .call k target => Sys2Proof.Machine.execCall k target s
  | .ret k => Sys2Proof.Machine.execRet k s
  | .done k => Sys2Proof.Machine.execDone k s
  | .nop k => Sys2Proof.Machine.execNop k s
  | .pin k rd ra port off8 => Sys2Proof.Machine.execPin k rd ra port off8 s
  | .pout k rs ra port off8 => Sys2Proof.Machine.execPout k rs ra port off8 s
  | .qput k rg q w => Sys2Proof.Machine.execQput k rg q w s
  | .qget k rg q w => Sys2Proof.Machine.execQget k rg q w s
  | .send k rg m q w => Sys2Proof.Machine.execSend k rg m q w s
  | .armAt k ra baseC => Sys2Proof.Machine.execArmAt k ra baseC s
  | .tnow k rd baseC => Sys2Proof.Machine.execTnow k rd baseC s
  | .snap k => Sys2Proof.Machine.execSnap k s
  | .raise k target code => Sys2Proof.Machine.execRaise k target code s
  | .mfs k rd sreg => Sys2Proof.Machine.execMfs k rd sreg s
  | .mts k ra sreg => Sys2Proof.Machine.execMts k ra sreg s
  | .loaderLoad r v => Sys2Proof.Machine.execLoaderLoad r v s
  | .loadCheckComplete => Sys2Proof.Machine.execLoadCheckComplete s
  | .loadTargetHold => Sys2Proof.Machine.execLoadTargetHold s
  | .loadCopyComplete => Sys2Proof.Machine.execLoadCopyComplete s
  | .engineHalt r k v => Sys2Proof.Machine.execEngineHalt r k v s
  | .engineRun r k v => Sys2Proof.Machine.execEngineRun r k v s
  | .engineRestart r k v => Sys2Proof.Machine.execEngineRestart r k v s
  | .pcieBar0Request write a dws => Sys2Proof.Machine.execPcieBar0Request write a dws s
  | .pcieBar2Access write a dws => Sys2Proof.Machine.execPcieBar2Access write a dws s
  | .pcieLinkChange up speed width bme d3 => Sys2Proof.Machine.execPcieLinkChange up speed width bme d3 s
  | .perstAssert => Sys2Proof.Machine.execPerstAssert s
  | .pcieAerError bit => Sys2Proof.Machine.execPcieAerError bit s
  | .spiAddressFrame f => Sys2Proof.Machine.execSpiAddressFrame f s
  | .spiWriteFrame v => Sys2Proof.Machine.execSpiWriteFrame v s
  | .spiBufferedWrite => Sys2Proof.Machine.execSpiBufferedWrite s
  | .spiReadAccess => Sys2Proof.Machine.execSpiReadAccess s
  | .spiCsRise part => Sys2Proof.Machine.execSpiCsRise part s
  | .i2cWrite a bytes => Sys2Proof.Machine.execI2cWrite a bytes s
  | .i2cRead a n => Sys2Proof.Machine.execI2cRead a n s
  | .queueEnable r n v => Sys2Proof.Machine.execQueueEnable r n v s
  | .queueDisable r n v => Sys2Proof.Machine.execQueueDisable r n v s
  | .queueModeWrite r n v => Sys2Proof.Machine.execQueueModeWrite r n v s
  | .queueDeadline n => Sys2Proof.Machine.execQueueDeadline n s
  | .ringEnable r n v => Sys2Proof.Machine.execRingEnable r n v s
  | .ringDisable r n v => Sys2Proof.Machine.execRingDisable r n v s
  | .ringHidxWrite r n v => Sys2Proof.Machine.execRingHidxWrite r n v s
  | .dmaD2hMove n count => Sys2Proof.Machine.execDmaD2hMove n count s
  | .dmaH2dMove n elems => Sys2Proof.Machine.execDmaH2dMove n elems s
  | .qdataAgeExpiry n => Sys2Proof.Machine.execQdataAgeExpiry n s
  | .dmaRingError n bus => Sys2Proof.Machine.execDmaRingError n bus s
  | .evtAckWrite r g v => Sys2Proof.Machine.execEvtAckWrite r g v s
  | .msixUnmask vec => Sys2Proof.Machine.execMsixUnmask vec s
  | .faultMessage n => Sys2Proof.Machine.execFaultMessage n s
  | .faultPulseEnd => Sys2Proof.Machine.execFaultPulseEnd s
  | .escalationExpiry => Sys2Proof.Machine.execEscalationExpiry s
  | .fltAckWrite r v => Sys2Proof.Machine.execFltAckWrite r v s
  | .faultClear r v => Sys2Proof.Machine.execFaultClear r v s
  | .faultInFall => Sys2Proof.Machine.execFaultInFall s
  | .faultInRise => Sys2Proof.Machine.execFaultInRise s
  | .faultInjection => Sys2Proof.Machine.execFaultInjection s
  | .aerStatusClear mask => Sys2Proof.Machine.execAerStatusClear mask s
  | .perstRelease => Sys2Proof.Machine.execPerstRelease s
  | .sourceEdge n e => Sys2Proof.Machine.execSourceEdge n e s
  | .missedNominalEdge n => Sys2Proof.Machine.execMissedNominalEdge n s
  | .xoLoss => Sys2Proof.Machine.execXoLoss s
  | .xoReturn => Sys2Proof.Machine.execXoReturn s
  | .basisChange => Sys2Proof.Machine.execBasisChange s
  | .binClose w => Sys2Proof.Machine.execBinClose w s
  | .mtieBinClose n => Sys2Proof.Machine.execMtieBinClose n s
  | .tdevStride n => Sys2Proof.Machine.execTdevStride n s
  | .srcEnable r n v => Sys2Proof.Machine.execSrcEnable r n v s
  | .srcDisable r n v => Sys2Proof.Machine.execSrcDisable r n v s
  | .srcForceWrite r n v => Sys2Proof.Machine.execSrcForceWrite r n v s
  | .srcVerdictWrite r n v => Sys2Proof.Machine.execSrcVerdictWrite r n v s
  | .pendTimerExpiry n => Sys2Proof.Machine.execPendTimerExpiry n s
  | .verdictStale n => Sys2Proof.Machine.execVerdictStale n s
  | .srcAccept r n v => Sys2Proof.Machine.execSrcAccept r n v s
  | .srcHold r n v => Sys2Proof.Machine.execSrcHold r n v s
  | .srcClrstat r n v => Sys2Proof.Machine.execSrcClrstat r n v s
  | .selectorEvaluation n => Sys2Proof.Machine.execSelectorEvaluation n s
  | .selReeval r n v => Sys2Proof.Machine.execSelReeval r n v s
  | .selAbsorb r n v => Sys2Proof.Machine.execSelAbsorb r n v s
  | .switchFirstSample n => Sys2Proof.Machine.execSwitchFirstSample n s
  | .retargetFirstSample n => Sys2Proof.Machine.execRetargetFirstSample n s
  | .returnFirstSample n => Sys2Proof.Machine.execReturnFirstSample n s
  | .dpllUpdate n baw => Sys2Proof.Machine.execDpllUpdate n baw s
  | .dcowCommit r n v => Sys2Proof.Machine.execDcowCommit r n v s
  | .howordCommit r n v => Sys2Proof.Machine.execHowordCommit r n v s
  | .phaseStepCommand r n v => Sys2Proof.Machine.execPhaseStepCommand r n v s
  | .psabort r n v => Sys2Proof.Machine.execPsabort r n v s
  | .dpllEnable r n v => Sys2Proof.Machine.execDpllEnable r n v s
  | .dpllDisable r n v => Sys2Proof.Machine.execDpllDisable r n v s
  | .tiedSet r v => Sys2Proof.Machine.execTiedSet r v s
  | .tiedClear r v => Sys2Proof.Machine.execTiedClear r v s
  | .lpstatWrite r n v => Sys2Proof.Machine.execLpstatWrite r n v s
  | .flockWindowEnd n => Sys2Proof.Machine.execFlockWindowEnd n s
  | .oscEvaluation => Sys2Proof.Machine.execOscEvaluation s
  | .thermistorSample code => Sys2Proof.Machine.execThermistorSample code s
  | .learningSample => Sys2Proof.Machine.execLearningSample s
  | .oscGenCommit r v => Sys2Proof.Machine.execOscGenCommit r v s
  | .lsInfoRead r => Sys2Proof.Machine.execLsInfoRead r s
  | .teestUpdate => Sys2Proof.Machine.execTeestUpdate s
  | .bawFail amp off => Sys2Proof.Machine.execBawFail amp off s
  | .clkCountCheck diff => Sys2Proof.Machine.execClkCountCheck diff s
  | .apllEnable r n v => Sys2Proof.Machine.execApllEnable r n v s
  | .apllDisable r n v => Sys2Proof.Machine.execApllDisable r n v s
  | .bandSearchDone n band => Sys2Proof.Machine.execBandSearchDone n band s
  | .apllLockAcquired n => Sys2Proof.Machine.execApllLockAcquired n s
  | .vtuneSample n mv => Sys2Proof.Machine.execVtuneSample n mv s
  | .apllLossOfLock n => Sys2Proof.Machine.execApllLossOfLock n s
  | .brgMapWrite r v => Sys2Proof.Machine.execBrgMapWrite r v s
  | .outEnable r n v => Sys2Proof.Machine.execOutEnable r n v s
  | .outStartOnLock n => Sys2Proof.Machine.execOutStartOnLock n s
  | .outDisable r n v => Sys2Proof.Machine.execOutDisable r n v s
  | .fretMove n => Sys2Proof.Machine.execFretMove n s
  | .outResume r n v => Sys2Proof.Machine.execOutResume r n v s
  | .safeActionApply n => Sys2Proof.Machine.execSafeActionApply n s
  | .driverFaultDetection d => Sys2Proof.Machine.execDriverFaultDetection d s
  | .dividerTerminalCount n equal => Sys2Proof.Machine.execDividerTerminalCount n equal s
  | .syncArm r v => Sys2Proof.Machine.execSyncArm r v s
  | .syncDisarm r v => Sys2Proof.Machine.execSyncDisarm r v s
  | .syncPlacement => Sys2Proof.Machine.execSyncPlacement s
  | .syncReset => Sys2Proof.Machine.execSyncReset s
  | .syncInEdge code rising => Sys2Proof.Machine.execSyncInEdge code rising s
  | .apllTrim n => Sys2Proof.Machine.execApllTrim n s
  | .trimSaturation n => Sys2Proof.Machine.execTrimSaturation n s
  | .srStart r g v => Sys2Proof.Machine.execSrStart r g v s
  | .srStop r g v => Sys2Proof.Machine.execSrStop r g v s
  | .srGateOpen g => Sys2Proof.Machine.execSrGateOpen g s
  | .srPatternEnd g => Sys2Proof.Machine.execSrPatternEnd g s
  | .echoResult n tau lam gam => Sys2Proof.Machine.execEchoResult n tau lam gam s
  | .tbIncrCommit r v => Sys2Proof.Machine.execTbIncrCommit r v s
  | .tbIncrEffect => Sys2Proof.Machine.execTbIncrEffect s
  | .tbSrvwCommit r v => Sys2Proof.Machine.execTbSrvwCommit r v s
  | .tbSteerWrite r v => Sys2Proof.Machine.execTbSteerWrite r v s
  | .tbSteerEffect => Sys2Proof.Machine.execTbSteerEffect s
  | .tbModeWrite r v => Sys2Proof.Machine.execTbModeWrite r v s
  | .tbModeEffect => Sys2Proof.Machine.execTbModeEffect s
  | .tbStepCommand r v => Sys2Proof.Machine.execTbStepCommand r v s
  | .tbStepEffect => Sys2Proof.Machine.execTbStepEffect s
  | .tbBackenWrite r v => Sys2Proof.Machine.execTbBackenWrite r v s
  | .backarmExpiry => Sys2Proof.Machine.execBackarmExpiry s
  | .tbResync r v => Sys2Proof.Machine.execTbResync r v s
  | .tbDupMismatch => Sys2Proof.Machine.execTbDupMismatch s
  | .tevArm r g v => Sys2Proof.Machine.execTevArm r g v s
  | .tevDisarm r g v => Sys2Proof.Machine.execTevDisarm r g v s
  | .tevDisable r v => Sys2Proof.Machine.execTevDisable r v s
  | .timedEventFiring g => Sys2Proof.Machine.execTimedEventFiring g s
  | .tevPinPulseEnd p => Sys2Proof.Machine.execTevPinPulseEnd p s
  | .capture p code falling => Sys2Proof.Machine.execCapture p code falling s
  | .snapInEdge code falling => Sys2Proof.Machine.execSnapInEdge code falling s
  | .snapshotTrigger => Sys2Proof.Machine.execSnapshotTrigger s
  | .snapRelease r v => Sys2Proof.Machine.execSnapRelease r v s
  | .snapRinggo r v => Sys2Proof.Machine.execSnapRinggo r v s
  | .ringSnapshot => Sys2Proof.Machine.execRingSnapshot s
  | .ethLinkChange n link hiber fecLock => Sys2Proof.Machine.execEthLinkChange n link hiber fecLock s
  | .ethFrameRx n frame fcsOk t cor unc => Sys2Proof.Machine.execEthFrameRx n frame fcsOk t cor unc s
  | .eventRateWindow n => Sys2Proof.Machine.execEventRateWindow n s
  | .ptpTxDescriptor n => Sys2Proof.Machine.execPtpTxDescriptor n s
  | .ptpFrameTx n t => Sys2Proof.Machine.execPtpFrameTx n t s
  | .originatedFrameTimeout n => Sys2Proof.Machine.execOriginatedFrameTimeout n s
  | .ptpEnable r n v => Sys2Proof.Machine.execPtpEnable r n v s
  | .ptpSrvenWrite r n v => Sys2Proof.Machine.execPtpSrvenWrite r n v s
  | .ptpPstateWrite r n v => Sys2Proof.Machine.execPtpPstateWrite r n v s
  | .ptpOffsetCommit r n v => Sys2Proof.Machine.execPtpOffsetCommit r n v s
  | .ptpPathhold r n v => Sys2Proof.Machine.execPtpPathhold r n v s
  | .ptpPathaccept r n v => Sys2Proof.Machine.execPtpPathaccept r n v s
  | .ptpPathreject r n v => Sys2Proof.Machine.execPtpPathreject r n v s
  | .ptpParentchg r n v => Sys2Proof.Machine.execPtpParentchg r n v s
  | .ptpSrvreset r n v => Sys2Proof.Machine.execPtpSrvreset r n v s
  | .pathHoldTimeout n => Sys2Proof.Machine.execPathHoldTimeout n s
  | .syeRxssmWrite r p v => Sys2Proof.Machine.execSyeRxssmWrite r p v s
  | .esmcTimeout p => Sys2Proof.Machine.execEsmcTimeout p s
  | .esmcTick => Sys2Proof.Machine.execEsmcTick s
  | .uartMessage bytes framing start => Sys2Proof.Machine.execUartMessage bytes framing start s
  | .uartTodAssociation => Sys2Proof.Machine.execUartTodAssociation s
  | .uartTxStart => Sys2Proof.Machine.execUartTxStart s
  | .uartTxEnd => Sys2Proof.Machine.execUartTxEnd s
  | .glCellRx p header payload arr => Sys2Proof.Machine.execGlCellRx p header payload arr s
  | .glTimeInitiation => Sys2Proof.Machine.execGlTimeInitiation s
  | .glAlignedCheck => Sys2Proof.Machine.execGlAlignedCheck s
  | .glLaneRangingResult p tau gam => Sys2Proof.Machine.execGlLaneRangingResult p tau gam s
  | .glTokenRegen => Sys2Proof.Machine.execGlTokenRegen s
  | .glTokenHoldEnd d => Sys2Proof.Machine.execGlTokenHoldEnd d s
  | .glPortUp p => Sys2Proof.Machine.execGlPortUp p s
  | .glMeasuringEnd p => Sys2Proof.Machine.execGlMeasuringEnd p s
  | .glPortDown p => Sys2Proof.Machine.execGlPortDown p s
  | .glLinkFault p => Sys2Proof.Machine.execGlLinkFault p s
  | .glForm r v => Sys2Proof.Machine.execGlForm r v s
  | .glRejoin r v => Sys2Proof.Machine.execGlRejoin r v s
  | .src20RankTimeout => Sys2Proof.Machine.execSrc20RankTimeout s
  | .tunnelledAccess r a w => Sys2Proof.Machine.execTunnelledAccess r a w s
  | .tunnelIssue => Sys2Proof.Machine.execTunnelIssue s
  | .tunnelTimeout => Sys2Proof.Machine.execTunnelTimeout s
  | .gangEnable r v => Sys2Proof.Machine.execGangEnable r v s
  | .tdcLinearisation n counts => Sys2Proof.Machine.execTdcLinearisation n counts s
  | .fretTableReform => Sys2Proof.Machine.execFretTableReform s
  | .fcalUpdate n lam => Sys2Proof.Machine.execFcalUpdate n lam s
  | .calseqStart r v => Sys2Proof.Machine.execCalseqStart r v s
  | .calseqCont r v => Sys2Proof.Machine.execCalseqCont r v s
  | .calseqAbort r v => Sys2Proof.Machine.execCalseqAbort r v s
  | .calseqStepDone fret => Sys2Proof.Machine.execCalseqStepDone fret s
  | .calTptsWrite r j v => Sys2Proof.Machine.execCalTptsWrite r j v s
  | .calTdataAccess r w => Sys2Proof.Machine.execCalTdataAccess r w s
  | .ageReading ratios => Sys2Proof.Machine.execAgeReading ratios s
  | .hlthPlanWrite r v => Sys2Proof.Machine.execHlthPlanWrite r v s
  | .hlthAgeack r v => Sys2Proof.Machine.execHlthAgeack r v s
  | .hlthAgenow r v => Sys2Proof.Machine.execHlthAgenow r v s
  | .vcoreOffsetStep => Sys2Proof.Machine.execVcoreOffsetStep s
  | .dieTempReading temps => Sys2Proof.Machine.execDieTempReading temps s
  | .lifedataAccess r w => Sys2Proof.Machine.execLifedataAccess r w s
  | .nvRead r v upset => Sys2Proof.Machine.execNvRead r v upset s
  | .nvWrite r v => Sys2Proof.Machine.execNvWrite r v s
  | .nvCopyout r v upset => Sys2Proof.Machine.execNvCopyout r v upset s
  | .nvCopyin r v => Sys2Proof.Machine.execNvCopyin r v s
  | .nvUnlock r v => Sys2Proof.Machine.execNvUnlock r v s
  | .nvRelock r v => Sys2Proof.Machine.execNvRelock r v s
  | .nvSetpwd r v => Sys2Proof.Machine.execNvSetpwd r v s
  | .nvScannow r v => Sys2Proof.Machine.execNvScannow r v s
  | .nvOperationDone => Sys2Proof.Machine.execNvOperationDone s
  | .nvWaitingCommandStart => Sys2Proof.Machine.execNvWaitingCommandStart s
  | .nvRefreshRow cond => Sys2Proof.Machine.execNvRefreshRow cond s
  | .nvSlotUpdate r v => Sys2Proof.Machine.execNvSlotUpdate r v s
  | .nvSlotFetch r v => Sys2Proof.Machine.execNvSlotFetch r v s
  | .vinOn => Sys2Proof.Machine.execVinOn s
  | .porRelease id boot => Sys2Proof.Machine.execPorRelease id boot s
  | .tbPllLock => Sys2Proof.Machine.execTbPllLock s
  | .supplyDetection cond => Sys2Proof.Machine.execSupplyDetection cond s
  | .vinlowArmTimeout => Sys2Proof.Machine.execVinlowArmTimeout s
  | .vinFail => Sys2Proof.Machine.execVinFail s
  | .vinOff => Sys2Proof.Machine.execVinOff s
  | .thermalReset => Sys2Proof.Machine.execThermalReset s
  | .thermalResetRelease => Sys2Proof.Machine.execThermalResetRelease s
  | .resetNAssert => Sys2Proof.Machine.execResetNAssert s
  | .resetNRelease id boot => Sys2Proof.Machine.execResetNRelease id boot s
  | .softReset r v => Sys2Proof.Machine.execSoftReset r v s
  | .blockReset r v => Sys2Proof.Machine.execBlockReset r v s
  | .apllPhaseMeasurement n raw => Sys2Proof.Machine.execApllPhaseMeasurement n raw s
  | .supplyConditionEnd cond => Sys2Proof.Machine.execSupplyConditionEnd cond s
  | .drvbadClear d => Sys2Proof.Machine.execDrvbadClear d s
  | .heldOffsetSample n => Sys2Proof.Machine.execHeldOffsetSample n s
  | .todAssociationTimeout => Sys2Proof.Machine.execTodAssociationTimeout s
  | .discReturnDeadline => Sys2Proof.Machine.execDiscReturnDeadline s
  | .lifetimeHour vin => Sys2Proof.Machine.execLifetimeHour vin s

end Sys2Proof.Machine
end

