-- ==== Sys2Proof/Machine/Step.lean ====
section
/-!
DEFINITION. The step: the command at the front of the queue is carried out; on an empty queue the block's clock moves on
(log entry 81).
-/

namespace Sys2Proof.Machine

/-- With no command waiting: one tick of the TB clock where it runs (R190), and what goes on beside commands: a servo word
comes into force (R195), a disable, a RESUME and a STOP reach a divider boundary (R152, R157, R177), captures leave their
FIFOs (R206), the Guyline sends, delivers and returns credits (R257, R268 to R270), ranks are published (R240). -/
def State.idle (s : State) : State :=
  if s.tb.running then ((((((s.setTb s.tb.tick).tbServoTick).outTick).srTick).capDrain).glIdle).syeRefresh else s

/-- One step: the command at the front of the queue, with the queue's rest; or, on an empty queue, a tick. -/
def step (s : State) : Host.Outcome State Fault Refusal :=
  match s.pending with
  | [] => .next s.idle
  | c :: cs => exec c (s.setPending cs)

/-- `s` with the command that the word spells put at the front of the queue; unchanged where it spells none. -/
def State.withFetchWord (s : State) (nbits w : Nat) : State :=
  match decodeTableWord nbits w with
  | some c => s.setPending (c :: s.pending)
  | none => s

end Sys2Proof.Machine
end

