-- ==== Sys2Proof/Safety.lean ====
section
/-!
DEFINITION. What holds of the state whatever the commands: the register bank and the memories are in their canonical
form, so that equal contents are equal data; every group of blocks keeps its size; C counts whole ticks; and no engine
nests or arms beyond what it has room for. Then the terms the statements use.
-/

namespace Sys2Proof.Machine

/-- The number of queues and rings (R336, R340), sources (R32), selectors and loops, APLLs, channels, PTP engines and
engines the device has (R11). -/
def State.Sized (s : State) : Prop :=
  s.queues.length = 64 ∧ s.rings.length = 64 ∧ s.srcs.length = 21 ∧ s.sels.length = 4 ∧ s.dplls.length = 4 ∧
    s.aplls.length = 2 ∧ s.outs.length = 40 ∧ s.ptps.length = 2 ∧ s.engs.length = 11 ∧ s.lps.length = 4 ∧
    s.blks.length = 11

/-- An engine has 32 registers (R284), at most four loops (R293) and eight calls (R294) open, at most eight at-time entries
(R299). -/
def Eng.Ok (x : Eng) : Prop := x.w.length = 32 ∧ x.loops.length ≤ 4 ∧ x.calls.length ≤ 8 ∧ x.ats.length ≤ 8

/-- C is a count of whole ticks of 1 ns within 96 bits, standalone time within its seconds field (R190, R191). -/
def TbSt.Ok (x : TbSt) : Prop := x.c % tickU = 0 ∧ x.c < 2 ^ 96 ∧ x.t < stdWrap

/-- The invariant. -/
def State.Inv (s : State) : Prop :=
  sparseWf regReset s.regs = true ∧ Memory.wf s.mem = true ∧ s.Sized ∧ s.tb.Ok ∧ ∀ x ∈ s.engs, x.Ok

/-! ### Engines -/

/-- Engine `k` carries out an instruction: a handler runs on it, its index lies in instruction memory, and no AT waits
for the instruction after it (R299, R305). -/
def State.Executing (s : State) (k : Nat) : Prop :=
  (s.eng k).st = .busy ∧ (s.eng k).pc < imemWords k ∧ (s.eng k).atPrefix = none

/-- `t` is `s` in all but engine `k`. -/
def State.OnlyEngine (s : State) (k : Nat) (t : State) : Prop := t = { s with engs := t.engs } ∧ ∀ j, j ≠ k → t.eng j = s.eng j

/-- `y` is `x` with `v` in register `rd` (a write to w0 is discarded, R284) and the flags `f`; beside them only the program
counter and the loops may differ. -/
def Eng.Wrote (x y : Eng) (rd : Nat) (v : Word64) (f : Flags) : Prop :=
  (∀ r, r < 32 → y.rw r = if r = rd ∧ r ≠ 0 then v else x.rw r) ∧
    y = { x with w := y.w, flags := f, pc := y.pc, loops := y.loops }

/-- Command `i` completes, writing `v` to register `rd` of engine `k` and leaving the flags `f`, and nothing else. -/
def State.Result (s : State) (i : Instr) (k rd : Nat) (v : Word64) (f : Flags) : Prop :=
  ∃ t, exec i s = .next t ∧ s.OnlyEngine k t ∧ (s.eng k).Wrote (t.eng k) rd v f

/-- R305: command `i` raises an exception of cause `c` at engine `k`: nothing else of the engine and no memory changes, the
cause is recorded, the fault carries the instruction's address. -/
def State.Excepts (s : State) (i : Instr) (k : Nat) (c : Exc) : Prop :=
  ∃ t, exec i s = .next t ∧ t.eng k = { s.eng k with st := .except, atPrefix := none } ∧
    (∀ j, j ≠ k → t.eng j = s.eng j) ∧ t.mem = s.mem ∧
    t.rn (W_ENG + k) ENG_EXC = (s.eng k).pc % 2 ^ 16 + c.code * 2 ^ 16 ∧
    t.get (W_ENG + k) ENG_STS_CAUSE = c.code ∧ t.flag (W_ENG + k) ENG_STS_EXC = true ∧
    t.flt = { s.flt with msgs := s.flt.msgs ++ [⟨W_ENG + k, K_ILLEGAL_INSN, engImem k + 4 * (s.eng k).pc, false⟩] }

end Sys2Proof.Machine

namespace Sys2Proof

/-- The engine that carries the command out as an instruction of its image (R287). -/
def Instr.engine : Instr → Option EngId
  | .add k _ _ _ | .sub k _ _ _ | .and k _ _ _ | .or k _ _ _ | .xor k _ _ _ | .shl k _ _ _ | .shr k _ _ _
  | .sar k _ _ _ | .adds k _ _ _ | .subs k _ _ _ | .min k _ _ _ | .max k _ _ _ | .minu k _ _ _ | .maxu k _ _ _
  | .mul k _ _ _ | .mulhs k _ _ _ | .cmp k _ _ | .abs k _ _ | .negs k _ _ | .clz k _ _ | .sxt k _ _ _
  | .addi k _ _ _ | .andi k _ _ _ | .ori k _ _ _ | .xori k _ _ _ | .shli k _ _ _ | .shri k _ _ _ | .sari k _ _ _
  | .cmpi k _ _ | .ldk k _ _ | .shin k _ _ | .mulq k _ _ _ _ | .macq k _ _ _ _ | .msuq k _ _ _ _ | .divs k _ _ _
  | .sqrtu k _ _ | .ld8u k _ _ _ | .ld8s k _ _ _ | .ld16u k _ _ _ | .ld16s k _ _ _ | .ld32u k _ _ _
  | .ld32s k _ _ _ | .ld64 k _ _ _ | .st8 k _ _ _ | .st16 k _ _ _ | .st32 k _ _ _ | .st64 k _ _ _ | .fwd k _ _
  | .loop k _ _ | .call k _ | .ret k | .done k | .nop k | .pin k _ _ _ _ | .pout k _ _ _ _ | .qput k _ _ _
  | .qget k _ _ _ | .send k _ _ _ _ | .armAt k _ _ | .tnow k _ _ | .snap k | .raise k _ _ | .mfs k _ _
  | .mts k _ _ => some k
  | _ => none

/-- The instructions that may follow AT (R299). -/
def Instr.capturable : Instr → Bool
  | .pout .. | .snap .. | .raise .. => true
  | _ => false

/-- The base register, offset and width in bytes of a load or store (R291). -/
def Instr.access : Instr → Option (Reg × BitVec 16 × Nat)
  | .ld8u _ _ ra i | .ld8s _ _ ra i | .st8 _ _ ra i => some (ra, i, 1)
  | .ld16u _ _ ra i | .ld16s _ _ ra i | .st16 _ _ ra i => some (ra, i, 2)
  | .ld32u _ _ ra i | .ld32s _ _ ra i | .st32 _ _ ra i => some (ra, i, 4)
  | .ld64 _ _ ra i | .st64 _ _ ra i => some (ra, i, 8)
  | _ => none

end Sys2Proof

namespace Sys2Proof.Machine

/-! ### Commands and register accesses -/

/-- Command `i` completes in a next state of which `P` holds. -/
def State.To (s : State) (i : Instr) (P : State → Prop) : Prop := ∃ t, exec i s = .next t ∧ P t

/-- The device works: the invariant holds, crossings reach the TB clock, which has ticked twice (R19), no soft reset is being
completed (R449). -/
def State.Ready (s : State) : Prop := s.Inv ∧ s.sys.soft = false ∧ s.tbClocked = true

/-- What leaves the device last is an access's answer. -/
def State.Answered (t : State) (r : Req) (a : Nat) (o : AccOut) (v : Word) : Prop := t.out.getLast? = some (.answer r a o v)

/-- R354, R355: the access that command `i` makes ends with the outcome `o`, one of those that are not OK, and value `v`: it
is recorded, an event is raised (for TIMEOUT a fault), and nothing else happens: memory and the registers of every window but
HIF, EVT and the engines' (which may count a merged event) stay. -/
def State.Denied (s : State) (i : Instr) (r : Req) (write : Bool) (a : Nat) (v : Word) (o : AccOut) : Prop :=
  ∃ b, accBit o = some b ∧ s.To i fun t =>
    t.Answered r a o v ∧ t.mem = s.mem ∧
    (∀ w off, w < W_ENG → w ≠ W_HIF → w ≠ W_EVT → off < 0x4000 → t.rn w off = s.rn w off) ∧
    bitOf (t.rn W_HIF HIF_ACCSTAT) b = true ∧
    bitsOf (t.rn W_HIF HIF_ACCSTAT) 24 8 = (bitsOf (s.rn W_HIF HIF_ACCSTAT) 24 8 + 1) % 256 ∧
    t.get W_HIF HIF_ACCSTAT_WINDOW = bitsOf a 14 8 ∧
    t.rn W_HIF HIF_ACCADDR = a % 2 ^ 25 ∧ t.rn W_HIF HIF_ACCREQ = reqCode r + b2n write * 2 ^ 8 ∧
    t.rn W_HIF HIF_ACCCNT = (s.rn W_HIF HIF_ACCCNT + 1) % 2 ^ 32 ∧
    (b < 5 → t.evPending (evNo 0 b) = true ∧ t.flt = s.flt) ∧
    (b = 5 → t.flt.msgs = s.flt.msgs ++ [⟨bitsOf a 14 8, K_ACC_TIMEOUT, a % 2 ^ 25, false⟩])

/-- R354 to R370, R465: the plain write of `v` to the register at `off` of window `w` by requester `r` is neither out of reach,
nor locked, nor ignored. -/
def State.Takes (s : State) (r : Req) (w off v : Nat) : Prop :=
  inReach r true (regAddr w off) = true ∧ s.writeLocked w off .plain v = false ∧ mayWrite r w off = true ∧
    (∀ row, regRow w off = some row → row.cls = .cfg → s.cfgHeld w off = false) ∧
    s.refuses r w off (s.view w off) v = none

/-- A CFG or RUN register whose write has no effect but its value (R356 to R358): not an enable, a commit or a command of its
block. -/
def plainReg (w off : Nat) : Bool :=
  (match regRow w off with
    | some row => row.cls == .cfg || row.cls == .run
    | none => false) &&
  (match winBlock w with
    | some (.src _) => off != SRC_EN
    | some (.apll _) => off != APLL_CTL
    | some (.out _) => off != OUT_CTL && off != OUT_FRET && off != OUT_DRV
    | some .sync => off != SYNC_CTL
    | some .tev => off != TEV_CTL
    | some (.eth _) => true
    | some .sye => true
    | some .uart => true
    | some .hif => true
    | some .pwr => true
    | some .snap => true
    | _ => false)

/-! ### Keeping the invariant -/

/-- `t` comes of `s` by what commands do: the queue of waiting commands is as it was, and the invariant is kept. -/
def State.Keeps (s t : State) : Prop := t.pending = s.pending ∧ (s.Inv → t.Inv)

end Sys2Proof.Machine
end

