-- ==== Sys2Proof/Certificates/Slice0/Obligations.lean ====
section
/-!
DEFINITION. The statements for the provers. The model's own choices that a statement rests on are named in its docstring
with their log entry.
-/

open Sys2Proof Sys2Proof.Machine

/-- The step is `exec` of the front command, with the queue's rest. That commands wait in a queue is the model's form, not the
spec's (log entry 80). -/
def Obligations.StepRunsFront : Prop :=
  ∀ (c : Instr) (cs : List Instr) (s : State), step (s.setPending (c :: cs)) = exec c (s.setPending cs)

/-- No command ends in a fault or a refusal: whatever the spec refuses is recorded and answered (R354, R355) or halts an engine
(R305). -/
def Obligations.ExecAnswers : Prop :=
  ∀ (c : Instr) (s : State), ∃ t, exec c s = .next t ∧ t.pending = s.pending

/-- The invariant holds at the state the model starts from (the choice of that state: log entry 4). -/
def Obligations.ResetInv : Prop :=
  State.reset.Inv

/-- The invariant of `State.Inv` is kept by every step from every state that meets it. -/
def Obligations.StepKeepsInv : Prop :=
  ∀ s t : State, s.Inv → step s = .next t → t.Inv

/-- Right after power-on reset is asserted (R456 step 1). Values that the spec leaves open at reset are the model's (log entries 2 and 4). -/
def Obligations.ResetValues : Prop :=
  (∀ w off, State.reset.rd w off = regReset (regAddr w off)) ∧ (∀ a, State.reset.byte a = 0) ∧
  State.reset.pending = [] ∧ State.reset.tb.running = false ∧ State.reset.tb.c = 0 ∧ State.reset.tb.t = 0 ∧
  (∀ k, k < 11 → (State.reset.eng k).st = .empty ∧ (State.reset.eng k).pend = []) ∧
  State.reset.rn W_GUARD GUARD_LOCK = 0 ∧
  (∀ n, n < 21 → State.reset.flag (wSrc n) SRC_EN_ENABLE = false) ∧
  (∀ n, n < 4 → State.reset.flag (wDpll n) DPLL_CTL_ENABLE = false) ∧
  (∀ n, n < 40 → State.reset.flag (wOut n) OUT_CTL_ENABLE = false) ∧
  (∀ n, n < 64 → State.reset.qEnabled n = false ∧ State.reset.ringEnabled n = false)

/-- R190: a tick. That an empty queue lets one tick pass is the model's choice (log entries 11 and 81). -/
def Obligations.IdleTick : Prop :=
  ∀ s : State, s.pending = [] →
    (s.tb.running = false → step s = .next s) ∧
    (s.tb.running = true → ∃ t, step s = .next t ∧ t.pending = [] ∧ t.tb.c = (s.tb.c + 65536) % 2 ^ 96 ∧
      t.tb.running = true ∧ (s.tb.ring = false → t.tb.t = (s.tb.t + s.tb.incr) % stdWrap))

/-- Results with Z and N (R288). -/
def Obligations.EngLogicResults : Prop :=
  ∀ (s : State) (k : EngId), s.Inv → s.Executing k → ∀ (rd ra rb : Reg) (imm : BitVec 16) (n : BitVec 6),
    let x := s.eng k
    let a := x.rw ra
    let b := x.rw rb
    let R := fun (i : Instr) (v : Word64) => s.Result i k rd v { x.flags with z := v == 0, n := v.msb }
    R (.and k rd ra rb) (a &&& b) ∧ R (.or k rd ra rb) (a ||| b) ∧ R (.xor k rd ra rb) (a ^^^ b) ∧
    R (.shl k rd ra rb) (a <<< (b.toNat % 64)) ∧ R (.shr k rd ra rb) (a >>> (b.toNat % 64)) ∧
    R (.sar k rd ra rb) (a.sshiftRight (b.toNat % 64)) ∧
    R (.min k rd ra rb) (if b.slt a then b else a) ∧ R (.max k rd ra rb) (if a.slt b then b else a) ∧
    R (.minu k rd ra rb) (if b.ult a then b else a) ∧ R (.maxu k rd ra rb) (if a.ult b then b else a) ∧
    R (.mul k rd ra rb) (BitVec.ofNat 64 (a.toNat * b.toNat)) ∧
    R (.mulhs k rd ra rb) ((a.signExtend 128 * b.signExtend 128).extractLsb' 64 64) ∧
    R (.andi k rd ra imm) (a &&& imm.setWidth 64) ∧ R (.ori k rd ra imm) (a ||| imm.setWidth 64) ∧
    R (.xori k rd ra imm) (a ^^^ imm.setWidth 64) ∧
    R (.shli k rd ra n) (a <<< n.toNat) ∧ R (.shri k rd ra n) (a >>> n.toNat) ∧ R (.sari k rd ra n) (a.sshiftRight n.toNat) ∧
    R (.sxt k rd ra n) ((a.setWidth (n.toNat + 1)).signExtend 64)

/-- Results with Z, N, C and V (R288). CMP and CMPI write no register: their result is stated as a write to w0. -/
def Obligations.EngSumResults : Prop :=
  ∀ (s : State) (k : EngId), s.Inv → s.Executing k → ∀ (rd ra rb : Reg) (imm : BitVec 16),
    let x := s.eng k
    let a := x.rw ra
    let b := x.rw rb
    let c := imm.signExtend 64
    let sum := fun (p q : Word64) => { x.flags with
      z := p + q == 0, n := (p + q).msb, c := BitVec.carry 64 p q false, v := BitVec.saddOverflow p q }
    let dif := fun (p q : Word64) => { x.flags with
      z := p == q, n := (p - q).msb, c := !p.ult q, v := BitVec.ssubOverflow p q }
    s.Result (.add k rd ra rb) k rd (a + b) (sum a b) ∧ s.Result (.addi k rd ra imm) k rd (a + c) (sum a c) ∧
    s.Result (.sub k rd ra rb) k rd (a - b) (dif a b) ∧
    s.Result (.cmp k ra rb) k 0 0 (dif a b) ∧ s.Result (.cmpi k ra imm) k 0 0 (dif a c)

/-- Results with Z, N and the sticky SAT (R288 to R290). The scaled product is floor(P / 2^sh + 1/2). -/
def Obligations.EngSaturatedResults : Prop :=
  ∀ (s : State) (k : EngId), s.Inv → s.Executing k → ∀ (rd ra rb : Reg) (sh : BitVec 6),
    let x := s.eng k
    let a : Int := (x.rw ra).toInt
    let b : Int := (x.rw rb).toInt
    let d : Int := (x.rw rd).toInt
    let q : Int := (2 * (a * b) + 2 ^ sh.toNat) / 2 ^ (sh.toNat + 1)
    let S := fun (i : Instr) (e : Int) =>
      let v := BitVec.ofInt 64 (max (-2 ^ 63) (min (2 ^ 63 - 1) e))
      s.Result i k rd v { x.flags with z := v == 0, n := v.msb, sat := x.flags.sat || decide (e < -2 ^ 63 ∨ 2 ^ 63 - 1 < e) }
    S (.adds k rd ra rb) (a + b) ∧ S (.subs k rd ra rb) (a - b) ∧ S (.abs k rd ra) |a| ∧ S (.negs k rd ra) (-a) ∧
    S (.mulq k rd ra rb sh) q ∧ S (.macq k rd ra rb sh) (d + q) ∧ S (.msuq k rd ra rb sh) (d - q) ∧
    (b ≠ 0 → S (.divs k rd ra rb) (a.tdiv b)) ∧
    (b = 0 →
      let v : Word64 := if 0 < a then BitVec.ofInt 64 (2 ^ 63 - 1) else if a < 0 then BitVec.ofInt 64 (-2 ^ 63) else 0
      s.Result (.divs k rd ra rb) k rd v { x.flags with z := v == 0, n := v.msb, sat := true }) ∧
    (let v : Word64 := BitVec.ofNat 64 (Nat.sqrt (x.rw ra).toNat)
     s.Result (.sqrtu k rd ra) k rd v { x.flags with z := v == 0, n := v.msb })

/-- The moves (R285, R288). -/
def Obligations.EngMoveResults : Prop :=
  ∀ (s : State) (k : EngId), s.Inv → s.Executing k → ∀ (rd ra : Reg) (imm : BitVec 16) (n : BitVec 5),
    let x := s.eng k
    let a := x.rw ra
    let M := fun (i : Instr) (v : Word64) => s.Result i k rd v x.flags
    s.Result (.clz k rd ra) k rd (BitVec.ofNat 64 (64 - a.toNat.size)) { x.flags with z := a.msb } ∧
    M (.ldk k rd imm) (imm.signExtend 64) ∧
    M (.shin k rd imm) ((x.rw rd).extractLsb' 0 48 ++ imm) ∧
    M (.mfs k rd 1) (BitVec.ofNat 64 x.pstat) ∧ M (.mfs k rd 2) (BitVec.ofNat 64 x.evt) ∧ M (.mfs k rd 3) x.evarg ∧
    M (.mfs k rd 4) (BitVec.ofNat 64 x.epoch) ∧
    M (.mfs k rd 5) (BitVec.ofNat 64 (k + 16 * s.get W_GL GL_STATE_ID + 256 * x.profile)) ∧ M (.mfs k rd 6) (BitVec.ofNat 64 (8 - x.ats.length)) ∧
    (7 ≤ n.toNat → M (.mfs k rd n) 0) ∧
    (∃ v : Word64, M (.mfs k rd 0) v ∧ v.toNat < 64 ∧ v.getLsbD 0 = x.flags.z ∧ v.getLsbD 1 = x.flags.n ∧
      v.getLsbD 2 = x.flags.c ∧ v.getLsbD 3 = x.flags.v ∧ v.getLsbD 4 = x.flags.sat ∧ v.getLsbD 5 = x.flags.pf) ∧
    s.Result (.mts k ra 0) k 0 0 ⟨a.getLsbD 0, a.getLsbD 1, a.getLsbD 2, a.getLsbD 3, a.getLsbD 4, a.getLsbD 5⟩ ∧
    (n ≠ 0 → s.Result (.mts k ra n) k 0 0 x.flags) ∧
    s.Result (.nop k) k 0 0 x.flags

/-- Loads (R291): the flags stay; memory stays. -/
def Obligations.EngLoads : Prop :=
  ∀ (s : State) (k : EngId), s.Inv → s.Executing k → ∀ (rd ra : Reg) (imm : BitVec 16) (key : Nat),
    let x := s.eng k
    let a := dataAddr x ra imm
    let le := fun (n : Nat) => leNat (s.bytes key n)
    let L := fun (i : Instr) (v : Word64) => s.Result i k rd v x.flags
    dataKey k x.profile a = some key →
    ((∀ e ∈ s.ecc, e.1 ≠ key / 8 * 8) →
      L (.ld8u k rd ra imm) (BitVec.ofNat 64 (le 1)) ∧ L (.ld8s k rd ra imm) ((BitVec.ofNat 8 (le 1)).signExtend 64) ∧
      (a % 2 = 0 → L (.ld16u k rd ra imm) (BitVec.ofNat 64 (le 2)) ∧
        L (.ld16s k rd ra imm) ((BitVec.ofNat 16 (le 2)).signExtend 64)) ∧
      (a % 4 = 0 → L (.ld32u k rd ra imm) (BitVec.ofNat 64 (le 4)) ∧
        L (.ld32s k rd ra imm) ((BitVec.ofNat 32 (le 4)).signExtend 64)) ∧
      (a % 8 = 0 → L (.ld64 k rd ra imm) (BitVec.ofNat 64 (le 8)))) ∧
    (∀ e, s.ecc.find? (fun e => e.1 == key / 8 * 8) = some (e, true) → a % 8 = 0 → rd.val ≠ 0 →
      ∃ t, exec (.ld64 k rd ra imm) s = .next t ∧ (t.eng k).rw rd = BitVec.allOnes 64 ∧ (t.eng k).st = .busy ∧
        t.mem = s.mem ∧ t.flt.msgs = s.flt.msgs ++ [⟨eccSource (key / 8 * 8), K_ECC_UNCORR, key / 8 * 8, false⟩])

/-- Stores (R291). The address stored to is `dataKey` of `ra + imm`, as for the loads. -/
def Obligations.EngStores : Prop :=
  ∀ (s : State) (k : EngId), s.Inv → s.Executing k → ∀ (rs ra : Reg) (imm : BitVec 16) (key : Nat),
    let x := s.eng k
    let a := dataAddr x ra imm
    let S := fun (i : Instr) (n : Nat) => ∃ t, exec i s = .next t ∧
      (∀ j, j < n → t.byte (key + j) = (x.rw rs).extractLsb' (8 * j) 8) ∧
      (∀ c, c < key ∨ key + n ≤ c → t.byte c = s.byte c) ∧
      (∀ j, j ≠ k.val → t.eng j = s.eng j) ∧ x.Wrote (t.eng k) 0 0 x.flags ∧
      t = { s with mem := t.mem, ecc := t.ecc, engs := t.engs }
    dataKey k x.profile a = some key → (∀ e ∈ s.ecc, e.1 ≠ key / 8 * 8) →
    S (.st8 k rs ra imm) 1 ∧ (a % 2 = 0 → S (.st16 k rs ra imm) 2) ∧ (a % 4 = 0 → S (.st32 k rs ra imm) 4) ∧
    (a % 8 = 0 → S (.st64 k rs ra imm) 8)

/-- Where the instructions raise exceptions (R305). -/
def Obligations.EngExceptions : Prop :=
  ∀ (s : State) (k : EngId), s.Inv → (s.eng k).st = .busy →
    let x := s.eng k
    (imemWords k ≤ x.pc → ∀ i : Instr, i.engine = some k → s.Excepts i k .fetch) ∧
    (x.pc < imemWords k → x.atPrefix.isSome = true → ∀ i : Instr, i.engine = some k → i.capturable = false →
      s.Excepts i k .illegal) ∧
    (s.Executing k →
      (∀ (i : Instr) (ra : Reg) (imm : BitVec 16) (n : Nat), i.engine = some k → i.access = some (ra, imm, n) →
        (dataKey k x.profile (dataAddr x ra imm) = none → s.Excepts i k .memrange) ∧
        (∀ key, dataKey k x.profile (dataAddr x ra imm) = some key → dataAddr x ra imm % n ≠ 0 →
          s.Excepts i k .memalign)) ∧
      (∀ (c : BitVec 4) (off : BitVec 16), 13 ≤ c.toNat ∨ off = 0 → s.Excepts (.fwd k c off) k .illegal) ∧
      (∀ (n : Nat) (len : BitVec 14), 4 ≤ x.loops.length → s.Excepts (.loop k n len) k .illegal) ∧
      (∀ target : BitVec 16, 8 ≤ x.calls.length → s.Excepts (.call k target) k .illegal) ∧
      (x.calls = [] → s.Excepts (.ret k) k .illegal) ∧
      (∀ (t : BitVec 4) (code : BitVec 16), 11 ≤ t.toNat → t.toNat ≤ 14 → s.Excepts (.raise k t code) k .illegal) ∧
      (∀ (r ra : Reg) (p off8 : BitVec 8), (mayPin k p.toNat = false → s.Excepts (.pin k r ra p off8) k .profile) ∧
        (mayPout k p.toNat = false → s.Excepts (.pout k r ra p off8) k .profile)))

/-- Control flow (R292 to R294, R300). `F c h`: condition `c` holds exactly when `h`. -/
def Obligations.EngControlFlow : Prop :=
  ∀ (s : State) (k : EngId), s.Inv → s.Executing k →
    let x := s.eng k
    let G := fun (i : Instr) (y : Eng) => ∃ t, exec i s = .next t ∧ s.OnlyEngine k t ∧ t.eng k = y
    (∀ off : BitVec 16, off ≠ 0 →
      let F := fun (c : BitVec 4) (h : Bool) => G (.fwd k c off) (if h then
          { x with pc := x.pc + off.toNat,
                   loops := x.loops.dropWhile (fun f => f.last < x.pc + off.toNat && f.depth == x.calls.length) }
        else x.next)
      F 0 true ∧ F 1 x.flags.z ∧ F 2 (!x.flags.z) ∧ F 3 (x.flags.n != x.flags.v) ∧ F 4 (x.flags.n == x.flags.v) ∧
      F 5 (!x.flags.c) ∧ F 6 x.flags.c ∧ F 7 (!x.flags.z && x.flags.n == x.flags.v) ∧
      F 8 (x.flags.z || x.flags.n != x.flags.v) ∧ F 9 x.flags.pf ∧ F 10 (!x.flags.pf) ∧ F 11 x.flags.sat ∧
      F 12 (!x.flags.sat)) ∧
    (∀ (n : Nat) (len : BitVec 14), x.loops.length < 4 → len ≠ 0 → 1 ≤ n → n ≤ 4096 →
      G (.loop k n len) { x with
        pc := x.pc + 1, loops := ⟨x.pc + 1, x.pc + len.toNat, n - 1, x.calls.length⟩ :: x.loops }) ∧
    (x.loops = [] → G (.nop k) { x with pc := x.pc + 1 }) ∧
    (∀ (f : LoopFrame) (fs : List LoopFrame), x.loops = f :: fs → f.depth = x.calls.length →
      (f.last = x.pc → 0 < f.left → G (.nop k) { x with pc := f.first, loops := { f with left := f.left - 1 } :: fs }) ∧
      (f.last = x.pc → f.left = 0 → fs = [] → G (.nop k) { x with pc := x.pc + 1, loops := [] }) ∧
      (f.last ≠ x.pc → G (.nop k) { x with pc := x.pc + 1 })) ∧
    (∀ target : BitVec 16, x.calls.length < 8 →
      G (.call k target) { x with pc := target.toNat, calls := (x.pc + 1) :: x.calls }) ∧
    (∀ (p : Nat) (ps : List Nat), x.calls = (p + 1) :: ps → x.loops = [] →
      G (.ret k) { x with pc := p + 1, calls := ps }) ∧
    (x.haltReq = false → ∃ t, exec (.done k) s = .next t ∧
      t.eng k = { x with st := .idle, loops := [], calls := [] } ∧ (∀ j, j ≠ k.val → t.eng j = s.eng j) ∧
      t = { s with engs := t.engs, sys := { s.sys with supStart := t.sys.supStart } }) ∧
    (x.haltReq = true → ∃ t, exec (.done k) s = .next t ∧ (t.eng k).st = .halted ∧ (t.eng k).loops = [] ∧
      (t.eng k).calls = [] ∧ t.flag (W_ENG + k) ENG_STS_HALT = true ∧ t.mem = s.mem)

/-- Time (R298, R299). `A i act`: what becomes of instruction `i` after AT. -/
def Obligations.EngTime : Prop :=
  ∀ (s : State) (k : EngId), s.Inv → (s.eng k).st = .busy → (s.eng k).pc < imemWords k →
    let x := s.eng k
    ((x.atPrefix = none) →
      (∀ (rd : Reg) (c : Bool), ∃ t, exec (.tnow k rd c) s = .next t ∧ s.OnlyEngine k t ∧
        (t.eng k).epoch = s.tb.epoch ∧
        x.Wrote { t.eng k with epoch := x.epoch } rd (BitVec.ofNat 64 (if c then s.tb.c else s.now)) x.flags) ∧
      (∀ (ra : Reg) (c : Bool), ∃ t, exec (.armAt k ra c) s = .next t ∧ s.OnlyEngine k t ∧
        (t.eng k).atPrefix = some (c, (x.rw ra).toNat) ∧
        x.Wrote { t.eng k with atPrefix := none } 0 0 x.flags)) ∧
    (∀ (c : Bool) (target : Nat), x.atPrefix = some (c, target) →
      let d : Int := (BitVec.ofNat 64 target - BitVec.ofNat 64 (if c then s.tb.c else s.now)).toInt
      let A := fun (i : Instr) (act : AtAction) =>
        let E := fun (l : List AtEntry) (p : PStat) => ∃ t, exec i s = .next t ∧ s.OnlyEngine k t ∧
          (t.eng k).ats = x.ats ++ l ∧ (t.eng k).pstat = p.code ∧ (t.eng k).flags = { x.flags with pf := p.pf } ∧
          (t.eng k).atPrefix = none ∧ (t.eng k).w = x.w
        (1 ≤ d → d ≤ 2 ^ 60 → x.ats.length < 8 → E [⟨c, target, false, act⟩] .ok) ∧
        (d ≤ 0 → x.ats.length < 8 → E [⟨true, (s.tb.c + 65536) % 2 ^ 64, true, act⟩] .late) ∧
        (2 ^ 60 < d → E [] .atrange) ∧ (d ≤ 2 ^ 60 → 8 ≤ x.ats.length → E [] .atfull)
      A (.snap k) .snap ∧
      (∀ (t : BitVec 4) (code : BitVec 16), t.toNat ≤ 10 ∨ t.toNat = 15 →
        A (.raise k t code) (.raise t.toNat code.toNat)) ∧
      (∀ (rs ra : Reg) (p off8 : BitVec 8), mayPout k p.toNat = true →
        A (.pout k rs ra p off8) (.pout p.toNat (portOffset x ra off8) ((x.rw rs).setWidth 32))))

/-- Ports (R295): the register access is that of any requester (`busRead`, `busWrite`). -/
def Obligations.EngPorts : Prop :=
  ∀ (s : State) (k : EngId), s.Inv → s.Executing k → ∀ (r ra : Reg) (p off8 : BitVec 8),
    let x := s.eng k
    let off := ((x.rw ra).toNat + 4 * off8.toNat) % 2 ^ 64
    off % 4 = 0 → off < 0x4000 →
    (mayPin k p.toNat = true →
      let q := s.busRead (.eng k) (regAddr p.toNat off) 15
      (q.2.2.eng k).st = .busy →
      ∃ t, exec (.pin k r ra p off8) s = .next t ∧ (r.val ≠ 0 → (t.eng k).rw r = q.2.1.zeroExtend 64) ∧
        (t.eng k).pstat = (portStat q.1).code ∧ (t.eng k).flags.pf = decide (q.1 ≠ .ok) ∧ t.mem = q.2.2.mem ∧
        t.regs = q.2.2.regs) ∧
    (mayPout k p.toNat = true →
      let q := s.busWrite (.eng k) (regAddr p.toNat off) 15 ((x.rw r).toNat % 2 ^ 32)
      (q.2.eng k).st = .busy → q.1 ≠ .width → q.1 ≠ .reach →
      ∃ t, exec (.pout k r ra p off8) s = .next t ∧ (t.eng k).pstat = (portStat q.1).code ∧
        (t.eng k).flags.pf = decide (q.1 ≠ .ok) ∧ t.mem = q.2.mem ∧ t.regs = q.2.regs)

/-- Queues (R296, R337). The entry of a QGET lies in words without an ECC error. -/
def Obligations.EngQueues : Prop :=
  ∀ (s : State) (k : EngId), s.Inv → s.Executing k → ∀ (rg : Reg) (q : Queue), rg.val % 4 = 0 →
    let x := s.eng k
    let u := s.queue q
    let P := fun (i : Instr) (p : PStat) => ∃ t, exec i s = .next t ∧ (t.eng k).pstat = p.code ∧
      (t.eng k).flags.pf = p.pf ∧ (t.eng k).w = x.w ∧ t.mem = s.mem ∧ (t.queue q).fill = u.fill
    (x.produces q = true → s.qEnabled q = true →
      (s.qFull q = false → ∃ t, exec (.qput k rg q false) s = .next t ∧ (t.eng k).pstat = 0 ∧
        (t.eng k).flags.pf = false ∧ (t.queue q).fill = u.fill + 1 ∧ (t.queue q).head = u.head ∧
        (∀ j, j < 32 → t.byte (s.qBase q + 32 * ((u.head + u.fill) % s.qSlots q) + j) = (x.entry rg).extractLsb' (8 * j) 8)) ∧
      (s.qFull q = true →
        (s.qMode q = .dropNew → P (.qput k rg q false) .dropped) ∧
        (s.qMode q = .stall → P (.qput k rg q false) .full) ∧
        (s.qMode q = .stall → mayWait k = true → ∃ t, exec (.qput k rg q true) s = .next t ∧ (t.eng k).st = .waitq ∧
          (t.eng k).wait = .queue q ∧ (t.queue q).held = u.held ++ [⟨k, x.entry rg⟩] ∧ (t.queue q).fill = u.fill))) ∧
    (x.produces q = false ∨ s.qEnabled q = false → P (.qput k rg q false) .noqueue) ∧
    (x.consumes q = false ∨ s.qEnabled q = false → P (.qget k rg q false) .noqueue) ∧
    (x.consumes q = true → s.qEnabled q = true →
      (u.fill = 0 → P (.qget k rg q false) .empty) ∧
      (0 < u.fill → s.ecc = [] →
        let a := s.qBase q + 32 * u.head
        ∃ t, exec (.qget k rg q false) s = .next t ∧ (t.eng k).pstat = 0 ∧ (t.eng k).flags.pf = false ∧
          (t.queue q).fill = u.fill - 1 ∧ (t.queue q).head = (u.head + 1) % s.qSlots q ∧
          (∀ j : Nat, j < 4 → rg.val + j ≠ 0 → (t.eng k).rw (rg + j) = BitVec.ofNat 64 (leNat (s.bytes (a + 8 * j) 8))) ∧
          t.mem = s.mem))

/-- SEND and the ends of waits (R296, R297). -/
def Obligations.EngSend : Prop :=
  ∀ (s : State) (k : EngId), s.Inv →
    let x := s.eng k
    (∀ (rg : Reg) (m : Fin 8) (q : Queue) (w : Bool), k.val = 0 → rg.val % 4 = 0 → m.val ≠ s.glId → s.Executing k →
      (s.glReaches m = false → ∃ t, exec (.send k rg m q w) s = .next t ∧ (t.eng k).pstat = 10 ∧ t.gl = s.gl) ∧
      (s.glReaches m = true → 0 < s.glCredit m → ∃ t, exec (.send k rg m q w) s = .next t ∧ (t.eng k).pstat = 0 ∧
        t.gl = (s.glInsert m q (x.entry rg)).gl ∧ t.out = (s.glInsert m q (x.entry rg)).out) ∧
      (s.glReaches m = true → s.glCredit m = 0 → ∃ t, exec (.send k rg m q w) s = .next t ∧ t.gl = s.gl ∧
        if w then (t.eng k).st = .waitq ∧ (t.eng k).wait = .send m q (x.entry rg) else (t.eng k).pstat = 9)) ∧
    (∀ (m q : Nat) (e : BitVec 256), x.wait = .send m q e →
      (s.glReaches m = false → ∃ t, exec (.sendWaitEnd k) s = .next t ∧ (t.eng k).st = .busy ∧ (t.eng k).pstat = 10) ∧
      (s.glReaches m = true → 0 < s.glCredit m → ∃ t, exec (.sendWaitEnd k) s = .next t ∧ (t.eng k).st = .busy ∧
        (t.eng k).pstat = 0)) ∧
    (∀ (q : Queue) (h : HeldProducer) (hs : List HeldProducer), x.wait = .queue q → (s.queue q).held = h :: hs →
      h.eng = k.val → s.qFull q = false →
      ∃ t, exec (.qputWaitEnd k) s = .next t ∧ (t.eng k).st = .busy ∧ (t.eng k).wait = .none ∧ (t.eng k).pstat = 0 ∧
        (t.queue q).fill = (s.queue q).fill + 1 ∧ (t.queue q).held = (h :: hs).filter (fun z => z.eng != k.val))

/-- Events (R300 to R306). -/
def Obligations.EngEvents : Prop :=
  ∀ (s : State) (k : EngId), s.Inv →
    let x := s.eng k
    (∀ (e : Nat) (arg : Word64) (entry : Nat), x.st = .idle → s.engHeld k = false → x.rom = none →
      s.pendingOf k e = some arg → s.handlerOf k e = some entry →
      (e = 63 ∧ (k.val = 0 ∨ s.sys.supStart = false)) ∨
        (e < 8 ∧ s.pendingOf k 63 = none ∧ (∀ j, j < e → s.pendingOf k j = none ∧ (s.queueEvents k).contains j = false)) →
      ∃ t, exec (.handlerEntry k) s = .next t ∧ s.OnlyEngine k { t with regs := s.regs, par := s.par } ∧
        (t.eng k).st = .busy ∧ (t.eng k).pc = entry ∧ (t.eng k).flags = ⟨false, false, false, false, false, false⟩ ∧
        (t.eng k).evt = e ∧ (t.eng k).evarg = arg ∧ (t.eng k).loops = [] ∧ (t.eng k).calls = [] ∧
        (t.eng k).w = x.w ∧ (t.eng k).pend = x.pend.filter (fun p => p.1 != e) ∧
        t.rn (W_ENG + k) ENG_HCOUNT = (s.rn (W_ENG + k) ENG_HCOUNT + 1) % 2 ^ 32) ∧
    (x.st = .idle → s.engHeld k = false → k.val ≠ 0 → s.sys.supStart = false → s.pendingOf k 63 ≠ none →
      s.handlerOf k 63 = none → ∃ t, exec (.handlerEntry k) s = .next t ∧ (t.eng k).st = .idle ∧
        t.rn (W_ENG + k) ENG_EVDISC = (s.rn (W_ENG + k) ENG_EVDISC + 1) % 2 ^ 32) ∧
    (s.tb.running = true → s.tb.tickIdx < s.tb.c / 65536000000 → (∀ p ∈ (s.eng 0).pend, p.1 ≠ 0) →
      ∃ t, exec .supTick s = .next t ∧ s.OnlyEngine 0 { t with tb := s.tb } ∧
        t.tb = { s.tb with tickIdx := s.tb.c / 65536000000 } ∧
        t.eng 0 = { s.eng 0 with pend := (s.eng 0).pend ++ [(0, BitVec.ofNat 64 (s.tb.c / 65536000000))] }) ∧
    (∀ (j : EngId) (code : BitVec 16), s.Executing k → (∀ p ∈ (s.eng j).pend, p.1 ≠ 48 + k.val) →
      ∃ t, exec (.raise k (BitVec.ofNat 4 j.val) code) s = .next t ∧
        (t.eng j).pend = (s.eng j).pend ++ [(48 + k.val, BitVec.ofNat 64 (code.toNat + k.val * 65536))] ∧
        (t.eng k).w = x.w ∧ t.mem = s.mem ∧ t.regs = s.regs) ∧
    (x.st = .busy → x.overran = false → s.overBound k = true →
      ∃ t, exec (.handlerOverrun k) s = .next t ∧ (t.eng k) = { x with overran := true } ∧
        t.flag (W_ENG + k) ENG_STS_OVERRUN = true ∧
        t.flt.msgs = s.flt.msgs ++ [⟨W_ENG + k, K_HANDLER_OVERRUN, engImem k + 4 * (s.handlerOf k x.evt).getD 0, false⟩]) ∧
    (∀ e, s.tb.running = true → x.ats.find? (fun e => s.atDue e) = some e → e.act = .snap →
      ∃ t, exec (.atEntryFiring k) s = .next t ∧ (t.eng k) = { x with ats := x.ats.erase e } ∧
        t.tev.triggers = if s.flag W_SNAP SNAP_CTL_INSTR then s.tev.triggers ++ [(s.tb.c, 8)] else s.tev.triggers) ∧
    (s.Executing k → ∃ t, exec (.snap k) s = .next t ∧
      t.tev.triggers = (if s.flag W_SNAP SNAP_CTL_INSTR then s.tev.triggers ++ [(s.tb.c, 8)] else s.tev.triggers) ∧
      t.regs = s.regs ∧ t.mem = s.mem ∧ x.Wrote (t.eng k) 0 0 x.flags)

/-- The outcomes of R354 in their order, TIMEOUT excepted, each with what R355 records. -/
def Obligations.AccessRefusals : Prop :=
  ∀ (s : State) (r : Req) (a w off : Nat) (be : BitVec 4) (v : Word), s.Inv → s.sys.soft = false → r ≠ .script →
    let W := Instr.registerWrite r a be v
    (inReach r true a = false → s.Denied W r true a v .reach) ∧
    (inReach r false a = false → s.Denied (.latchingRead r a be) r false a ones .reach) ∧
    (inReach r true a = true →
      (a % 4 ≠ 0 → s.Denied W r true a v .align) ∧
      (a % 4 = 0 → be ≠ 15 → s.Denied W r true a v .width) ∧
      (∀ row, regRow w off = some row → a = regAddr w off → be = 15 →
        (s.guarded w off = true → s.Denied W r true a v .locked) ∧
        (s.guarded w off = false → w ≠ W_GUARD → ¬ (w = W_NVS ∧ off = NVS_CMD) →
          (row.cls = .ro ∨ row.cls = .snp ∨ (row.cls ≠ .sts ∧ mayWrite r w off = false) ∨
            (row.cls = .cfg ∧ s.cfgHeld w off = true) → s.Denied W r true a v .wign) ∧
          (row.cls ≠ .cfg ∧ row.cls ≠ .run ∨ stagedReg w off = true ∨ committingReg w off = true →
            ∀ j, j = 1 ∨ j = 2 ∨ j = 3 → s.Denied (.registerWrite r (aliasAddr a j) 15 v) r true (aliasAddr a j) v .wign))))

/-- R363: m is the value written without the RSV bits of the register. -/
def Obligations.RegisterWrites : Prop :=
  ∀ (s : State) (r : Req) (w off : Nat) (v : Word) (row : RegRow), s.Inv → s.sys.soft = false → plainReg w off = true →
    regRow w off = some row → s.Takes r w off v.toNat →
    let old := s.rd w off
    let m := v &&& ~~~ BitVec.ofNat 32 (rsvOf w off row)
    let W := fun (i : Instr) (a : Nat) (x : Word) => s.To i fun t =>
      t.rd w off = x ∧ (∀ w' o', o' < 0x4000 → (w', o') ≠ (w, off) → t.rd w' o' = s.rd w' o') ∧ t.Answered r a .ok v ∧
      t = { s with regs := t.regs, par := t.par, out := t.out }
    let a := regAddr w off
    W (.registerWrite r a 15 v) a v ∧
    W (.setAliasWrite r a v) (a + 0x1000) (old ||| m) ∧
    W (.clrAliasWrite r a v) (a + 0x2000) (old &&& ~~~ m) ∧
    W (.tglAliasWrite r a v) (a + 0x3000) (old ^^^ m)

/-- Reads (R356, R375). PWR is left out here: its supply readings are free values (log entry 67). -/
def Obligations.RegisterReads : Prop :=
  ∀ (s : State) (r : Req) (w off : Nat) (row : RegRow), regRow w off = some row → inReach r false (regAddr w off) = true →
    s.par = [] → w ≠ W_PWR →
    s.To (.latchingRead r (regAddr w off) 15) fun t =>
      t.Answered r (regAddr w off) .ok (BitVec.ofNat 32 ((s.latched r w off).getD (s.view w off))) ∧
      (w ≠ W_OSC → ∀ o ∈ latchesOf w off, t.latched r w o = some (s.view w o)) ∧
      (w ≠ W_OSC → w ≠ W_CAL → w ≠ W_HLTH → t = { s with acc := t.acc, out := t.out })

/-- R466, R360 and R369. -/
def Obligations.StagedAndSticky : Prop :=
  ∀ (s : State) (r : Req) (w off : Nat) (v : Word), s.Inv → s.sys.soft = false →
    let a := regAddr w off
    (stagedReg w off = true → s.Takes r w off v.toNat → s.To (.stagedWrite r a v) fun t =>
      t.Answered r a .ok v ∧ t = { s with acc := t.acc, out := t.out } ∧ t.stagedVal r w off = v.toNat ∧
      ∀ r' w' o', o' < 0x4000 → (ownerOf r', w', o') ≠ (ownerOf r, w, off) → t.stagedVal r' w' o' = s.stagedVal r' w' o') ∧
    (∀ row, regRow w off = some row → row.cls = .sts → (w, off) ≠ (W_FLT, FLT_STATUS) → inReach r true a = true →
      s.To (.stsSeqClear r a v) fun t =>
        t.Answered r a .ok v ∧ t = { s with regs := t.regs, par := t.par, out := t.out } ∧
        t.rn w off = (if s.rn w off / 2 ^ 24 = v.toNat / 2 ^ 24 then s.rn w off / 2 ^ 24 * 2 ^ 24 else s.rn w off) ∧
        ∀ w' o', o' < 0x4000 → (w', o') ≠ (w, off) → t.rn w' o' = s.rn w' o') ∧
    (r ≠ .i2c → s.To (.guardLockWrite r v) fun t =>
      t.Answered r (regAddr W_GUARD GUARD_LOCK) .ok v ∧ t = { s with regs := t.regs, par := t.par, out := t.out } ∧
      (∀ b, bitOf (t.rn W_GUARD GUARD_LOCK) b = (bitOf (s.rn W_GUARD GUARD_LOCK) b || (decide (b < 8) && v.getLsbD b))) ∧
      ∀ w' o', o' < 0x4000 → (w', o') ≠ (W_GUARD, GUARD_LOCK) → t.rn w' o' = s.rn w' o') ∧
    (r ≠ .script → inReach r true (regAddr W_GUARD GUARD_LOCK) = true →
      s.Denied (.clrAliasWrite r (regAddr W_GUARD GUARD_LOCK) v) r true (regAddr W_GUARD GUARD_LOCK + 0x2000) v .wign ∧
      s.Denied (.tglAliasWrite r (regAddr W_GUARD GUARD_LOCK) v) r true (regAddr W_GUARD GUARD_LOCK + 0x3000) v .wign)

/-- R25 and R19. The held command shown is a generator's DISARM. -/
def Obligations.Timeouts : Prop :=
  ∀ (s : State) (r q : Req) (a w off x i : Nat) (v : Word) (g : Gen) (rest : List (Req × Nat × Word)), s.Ready →
    (r = .pcie ∨ r = .i2c → blockAnswers a = true → a % 4 = 0 → inReach r true a = true →
      s.Denied (.blockTimeout r a (some v) x) r true a v .timeout ∧
      s.Denied (.blockTimeout r a none x) r false a ones .timeout ∧
      s.To (.blockTimeout r a (some v) x) (fun t => t.acc.abandoned = s.acc.abandoned ++ [⟨r, a, v⟩])) ∧
    (plainReg w off = true → s.Takes q w off v.toNat → s.acc.abandoned[i]? = some ⟨q, regAddr w off, v⟩ →
      s.To (.lateBlockAnswer i) fun t => t.rd w off = v ∧ t.acc.abandoned = s.acc.abandoned.eraseIdx i ∧
        ∀ w' o', o' < 0x4000 → (w', o') ≠ (w, off) → t.rd w' o' = s.rd w' o') ∧
    (s.acc.held = (q, regAddr W_TEV (TEV_G_CMD + 0x40 * g), 2) :: rest →
      s.To .heldCrossingEffect fun t => t.acc.held = rest ∧ (∀ y, t.tev.gens[g.val]? = some y → y.phase = .idle))

/-- R368, R462 and R23. -/
def Obligations.Scrubbers : Prop :=
  ∀ (s : State) (w off a : Nat) (u : BitVec 33) (row : RegRow), s.Inv →
    (regRow w off = some row → row.cls = .cfg ∨ row.cls = .run → s.par = [] →
      s.To (.parityScrub (regAddr w off) u) fun t =>
        t.rd w off = s.rd w off ^^^ u.setWidth 32 ∧
        (ones01 33 u.toNat % 2 = 0 → t = { s with regs := t.regs }) ∧
        (ones01 33 u.toNat % 2 = 1 → t.par = [(regAddr w off, true)] ∧ t.rn W_SYS SYS_PARADDR = regAddr w off ∧
          bitOf (t.rn W_SYS SYS_STS) 4 = true ∧ t.evPending (evNo 0 21) = true ∧
          t.flt.msgs = s.flt.msgs ++ [⟨w, K_CFGPAR, regAddr w off, false⟩])) ∧
    (inMemory a = true → (∀ e ∈ s.ecc, e.1 ≠ a / 8 * 8) →
      s.To (.sramScrub a 1) (fun t => t.mem = s.mem ∧ t.ecc = s.ecc ∧ t.flt = s.flt ∧
        t.rn W_SYS SYS_ECCCNT = (s.rn W_SYS SYS_ECCCNT + 1) % 2 ^ 32 ∧ t.rn W_SYS SYS_ECCADDR = a / 8 * 8 ∧
        bitOf (t.rn W_SYS SYS_STS) 3 = true ∧ t.evPending (evNo 0 22) = true) ∧
      s.To (.sramScrub a 2) (fun t => t.mem = s.mem ∧ t.regs = s.regs ∧ t.ecc = (a / 8 * 8, true) :: s.ecc ∧
        t.flt.msgs = s.flt.msgs ++ [⟨eccSource (a / 8 * 8), K_ECC_UNCORR, a / 8 * 8, false⟩]))

/-- The verdict rows of R46 with the waits of R47. QSTATE: 0 OFF, 1 LOST, 2 UNQUAL, 3 PEND, 4 QUAL, 5 HELD. -/
def Obligations.SourceVerdicts : Prop :=
  ∀ (s : State) (n : Src) (v : Word), s.Ready → s.srcForce n = 0 →
    let q := s.qstate n
    let w := wSrc n
    let fail := v.toNat % 2 ^ 19
    let pass := decide (fail = 0) && v.msb
    let first := s.flag w SRC_STATE_FIRST
    let wait := if first then max 1 (s.get w SRC_QCTL_FIRSTQ) * msU else s.get w SRC_WTR_WTR * secU
    let V := fun P => s.To (.srcVerdictWrite (.eng (monOf n)) n v) P
    (q < 2 → V fun t => t.qstate n = q ∧ t.rn w SRC_CHK = s.rn w SRC_CHK ∧ t.srcs = s.srcs) ∧
    (2 ≤ q → V fun t => t.rn w SRC_CHK = fail ∧ (t.src n).verdict = some ⟨decide (fail = 0), v.msb, s.tb.c⟩) ∧
    (q = 2 → pass = false → V fun t => t.qstate n = 2) ∧
    (q = 2 → pass = true → (first = true ∨ s.get w SRC_WTR_WTR ≠ 0) →
      V fun t => t.qstate n = 3 ∧ (t.src n).timer = some ((s.tb.c + wait) % 2 ^ 96)) ∧
    (q = 2 → pass = true → first = false → s.get w SRC_WTR_WTR = 0 →
      V fun t => t.qstate n = 4 ∧ t.evPending (evNo (1 + n / 6) (5 * (n % 6) + 1)) = true) ∧
    (q = 3 → pass = false → V fun t => t.qstate n = 2 ∧ (t.src n).timer = none) ∧
    (q = 3 → pass = true → (s.src n).timer = none → (s.src n).expired = true → V fun t => t.qstate n = 4) ∧
    (q = 4 → fail = 0 → V fun t => t.qstate n = 4) ∧
    (q = 4 → fail ≠ 0 → V fun t => t.qstate n = 2 ∧ t.evPending (evNo (1 + n / 6) (5 * (n % 6) + 2)) = true ∧
      v.getLsbD (t.get w SRC_STS_CAUSE) = true ∧ ∀ b, b < t.get w SRC_STS_CAUSE → v.getLsbD b = false) ∧
    (q = 5 → V fun t => t.qstate n = if fail = 0 then 5 else 2)

/-- R46, R49 and R50. -/
def Obligations.SourceCommands : Prop :=
  ∀ (s : State) (r : Req) (n : Src) (v : Word), s.Ready → r ≠ .i2c →
    let w := wSrc n
    let q := s.qstate n
    let f := s.srcForce n
    let ev := fun (t : State) e => t.evPending (evNo (1 + n / 6) (5 * (n % 6) + e))
    let f' := if bitsOf v.toNat 4 2 = 3 then 0 else bitsOf v.toNat 4 2
    let passed := (s.src n).verdict.any (fun x => x.pass)
    let Q := fun (a h : Bool) =>
      let q1 := if a = true ∧ q = 5 ∧ f = 0 then (if passed then 4 else 2) else q
      if h = true ∧ (q1 = 3 ∨ q1 = 4) ∧ f = 0 then 5 else q1
    (q = 0 → s.flag w SRC_EN_ENABLE = false → s.To (.srcEnable r n v) fun t =>
      t.qstate n = 1 ∧ t.flag w SRC_EN_ENABLE = true ∧ t.get w SRC_STATE_FIRST = 1 ∧ t.rn w SRC_EDGES = 0 ∧
        t.rn w SRC_CHK = 0 ∧ (t.src n).bucket = max 1 (s.get w SRC_ACT_ACT_LIM) ∧ ev t 0 = ev s 0) ∧
    (s.flag w SRC_EN_ENABLE = true → s.To (.srcDisable r n v) fun t =>
      t.qstate n = 0 ∧ t.flag w SRC_EN_ENABLE = false ∧ (t.src n).timer = none ∧
        (q = 4 → ev t 2 = true ∧ t.get w SRC_STS_CAUSE = 0x21)) ∧
    (s.flag w SRC_EN_ENABLE = true → v.getLsbD 0 = true → f' ≠ f → s.To (.srcForceWrite r n v) fun t =>
      t.srcForce n = f' ∧
      (f' = 1 → t.qstate n = (if 2 ≤ q ∧ q ≤ 5 then 2 else q) ∧ (q = 4 → ev t 2 = true ∧ t.get w SRC_STS_CAUSE = 0x20)) ∧
      (f' = 2 → t.qstate n = (if q = 2 ∨ q = 3 ∨ q = 5 then 4 else q) ∧
        (q = 2 ∨ q = 3 ∨ q = 5 → ev t 1 = true ∧ t.get w SRC_STATE_FIRST = 0)) ∧
      (f' = 0 → t.qstate n = q ∧ (t.src n).timer = none)) ∧
    s.To (.srcAccept r n v) (fun t => t.qstate n = Q true (v.getLsbD 1)) ∧
    s.To (.srcHold r n v) (fun t => t.qstate n = Q (v.getLsbD 0) true ∧
      (v.getLsbD 0 = false → f = 0 → q = 3 ∨ q = 4 → t.get w SRC_STATE_HOLDCAUSE = 2)) ∧
    s.To (.srcClrstat r n v) (fun t => t.qstate n = Q (v.getLsbD 0) (v.getLsbD 1) ∧ t.rn w SRC_PDRIFT = 0x8000_0000 ∧
      ∀ i, i < 5 → t.rn w (SRC_MTIE0 + 4 * i) = 2 ^ 32 - 1 ∧ t.rn w (SRC_TDEV0 + 4 * i) = 2 ^ 32 - 1)

/-- R46, R47, R50. Before the first verdict the second runs from the enable, and what a forced source records is the model's choice
(log entry 86). -/
def Obligations.SourceTimers : Prop :=
  ∀ (s : State) (n : Src) (d : Nat) (v : Verdict), s.Ready →
    let w := wSrc n
    let since := match (s.src n).verdict with | some v => v.at_ | none => (s.src n).since
    (s.qstate n = 3 → (s.src n).timer = some d → s.due d = true →
      s.To (.pendTimerExpiry n) fun t => (t.src n).timer = none ∧
        ((s.src n).verdict = some v → v.pass = true → v.hyst = true → signedDiff 96 s.tb.c v.at_ ≤ secU →
          t.qstate n = 4 ∧ t.get w SRC_STATE_FIRST = 0 ∧ t.evPending (evNo (1 + n / 6) (5 * (n % 6) + 1)) = true) ∧
        ((s.src n).verdict = none → t.qstate n = 3 ∧ (t.src n).expired = true) ∧
        ((s.src n).verdict = some v → ¬ (v.pass = true ∧ v.hyst = true ∧ signedDiff 96 s.tb.c v.at_ ≤ secU) →
          t.qstate n = 3 ∧ (t.src n).expired = true)) ∧
    ((s.src n).timer = some d → s.due d = false → s.To (.pendTimerExpiry n) (· = s)) ∧
    (2 ≤ s.qstate n → s.due ((since + secU) % 2 ^ 96) = true → s.To (.verdictStale n) fun t =>
      t.get w SRC_CHK_STALE = 1 ∧
      (s.srcForce n = 0 → s.qstate n = 4 → t.qstate n = 2 ∧ t.get w SRC_STS_CAUSE = 18 ∧
        t.evPending (evNo (1 + n / 6) (5 * (n % 6) + 2)) = true) ∧
      (s.srcForce n = 0 → s.qstate n ≠ 4 → t.qstate n = s.qstate n) ∧
      (s.srcForce n ≠ 0 → t.qstate n = s.qstate n ∧ t.get w SRC_STS_CAUSE = 18)) ∧
    (s.due ((since + secU) % 2 ^ 96) = false → s.To (.verdictStale n) (· = s))

/-- R34 to R37: SOURCE_EDGE, MISSED_NOMINAL_EDGE, XO_LOSS, XO_RETURN and BASIS_CHANGE complete with their own effects. The XO's
phase as an operand is the model's form (log entry 88). -/
def Obligations.SourceActivity : Prop :=
  ∀ (s : State) (n : Src), s.Ready →
    let w := wSrc n
    let q := s.qstate n
    let lim := max 1 (s.get w SRC_ACT_ACT_LIM)
    let b := min lim ((s.src n).bucket + s.get w SRC_ACT_ACT_INC)
    let ev := fun (t : State) e => t.evPending (evNo (1 + n / 6) (5 * (n % 6) + e))
    (∀ t0 : Nat, q ≠ 0 → (s.src n).lastEdge = some t0 →
      ((s.srcPer n * (((s.src n).missed + 1) * 256 + s.get w SRC_ACT_ACT_TOL) : Nat) : Int) ≤
        signedDiff 96 s.tb.c t0 * 2 ^ 24 →
      s.To (.missedNominalEdge n) fun t =>
        (t.src n).bucket = b ∧ (t.src n).missed = (s.src n).missed + 1 ∧ t.qstate n = (if b = lim then 1 else q) ∧
          (b = lim → 2 ≤ q → ev t 0 = true ∧ (q = 4 → ev t 2 = true ∧ t.get w SRC_STS_CAUSE = 0))) ∧
    (∀ (code : Fin 2048) (xo : Int),
      let c := s.tdcCount n code
      let x : Int := (c : Int) - (if s.flag w SRC_STATE_FBASIS then 0 else if s.mon.xoLost then s.mon.xo else xo)
      let E := s.To (.sourceEdge n ⟨max 1 (s.get w SRC_DIV_DIV), s.flag w SRC_CFG_EDGE, code, xo⟩)
      q ≠ 0 → n.val ≠ 18 → n.val ≠ 19 → (16 ≤ n.val ∨ s.get w SRC_CFG_FMT < 4) →
      (n.val = 16 ∨ n.val = 17 → s.flag (W_ETH + (n - 16)) ETH_STATE_LINK = true) →
      E (fun t => t.rn w SRC_EDGES = (s.rn w SRC_EDGES + 1) % 2 ^ 32 ∧ (t.src n).lastEdge = some c) ∧
      (0 < s.srcPer n → (s.src n).lastEdge = none → (s.src n).index = none → n.val ≠ 20 → E fun t =>
        t.qstate n = q ∧ (t.src n).samples = (s.src n).samples + 1 ∧
          t.pair w SRC_PHASE_LO = ofSigned 64 (quotFree
            (x * 2 ^ 16 - (2 * x * 2 ^ 16 + s.srcPer n) / (2 * s.srcPer n) * s.srcPer n) (2 ^ 16))) ∧
      (∀ t0, 0 < s.srcPer n → (s.src n).lastEdge = some t0 → s.shortInterval n (signedDiff 96 c t0) = false →
        (s.src n).missed = 0 → E fun t => (t.src n).bucket = (s.src n).bucket - 1 ∧
          (q = 1 → (s.src n).bucket ≤ 1 → s.srcForce n ≠ 2 → t.qstate n = 2))) ∧
    (s.mon.xoLost = false → s.To .xoLoss fun t => t.mon.xoLost = true ∧
      t.mon.basisDue = s.mon.basisDue.or (some (s.tb.c / msU)) ∧
      t.evPending (evNo 4 15) = true ∧ t.get W_BRG BRG_STATE_XOHELD = 1) ∧
    (s.mon.xoLost = true → s.To .xoReturn fun t => t.mon.xoLost = false ∧
      t.mon.basisDue = s.mon.basisDue.or (some (s.tb.c / msU)) ∧
      t.evPending (evNo 4 16) = true ∧ t.get W_BRG BRG_STATE_XOHELD = 0) ∧
    (∀ i, s.mon.basisDue = some i → i < s.tb.c / msU → s.To .basisChange fun t => t.mon.basisDue = none ∧ t.qstate n = q ∧
      (q ≠ 0 → t.get w SRC_STATE_FBASIS = b2n s.mon.xoLost ∧ t.rn w SRC_PDRIFT = 0x8000_0000))

/-- R38, R44 and R45, by the count C. The wander statistics are computed where the stock monitor runs with STATS = 1; what a bin
without a sample makes of an offset is the model's choice (log entry 84). -/
def Obligations.SourceBins : Prop :=
  ∀ (s : State) (n : Src) (w : Fin 3) (i : Fin 5), s.Ready →
    (s.tb.c / binU w ≤ lget 0 s.mon.binIdx w → s.To (.binClose w) (· = s)) ∧
    (lget 0 s.mon.binIdx w < s.tb.c / binU w → s.To (.binClose w) fun t =>
      t.mon.binIdx = lput 0 s.mon.binIdx w (s.tb.c / binU w) ∧
      (2 ≤ s.qstate n → (t.src n).wins = (s.src n).wins ∧ ∀ v, (s.src n).wins[w.val]? = some v →
        t.rn (wSrc n) (SRC_FOFF0 + 4 * w) =
          match (if winActive (s.srcPer n) w then v.offset (s.srcPer n) w (s.tb.c / binU w - 1) else none) with
          | none => 0x8000_0000
          | some y => fit32 y) ∧
      (∀ m, m < 4 → (t.eng (5 + m)).pend.any (fun e => e.1 == w.val) = true)) ∧
    (lget 0 s.mon.mtieIdx i < s.tb.c / mtieU i → s.To (.mtieBinClose i) fun t =>
      t.mon.mtieIdx = lput 0 s.mon.mtieIdx i (s.tb.c / mtieU i) ∧
      (s.statsOn n = true → statActive (s.srcPer n) i = true → 2 ≤ s.qstate n → ∀ m, (s.src n).mtie[i.val]? = some m →
        let k := s.tb.c / mtieU i - 1
        (t.src n).mtie[i.val]? = some (m.close k) ∧
          t.rn (wSrc n) (SRC_MTIE0 + 4 * i) = (m.close k).value % 2 ^ 32)) ∧
    (lget 0 s.mon.tdevIdx i < s.tb.c / tdevU i → s.To (.tdevStride i) fun t =>
      t.mon.tdevIdx = lput 0 s.mon.tdevIdx i (s.tb.c / tdevU i) ∧
      (s.statsOn n = true → statActive (s.srcPer n) i = true → 2 ≤ s.qstate n → ∀ m, (s.src n).tdev[i.val]? = some m →
        let k := s.tb.c / tdevU i - 1
        (t.src n).tdev[i.val]? = some (m.close k) ∧
          t.rn (wSrc n) (SRC_TDEV0 + 4 * i) = (m.close k).value % 2 ^ 32))

/-- R57 to R67, of a selector that is neither tied nor frozen and is not waiting to leave either. ST: 0 NONE, 1 ACQ, 2 PULL, 3 TRACK;
31 is no choice. -/
def Obligations.SelectorChoices : Prop :=
  ∀ (s : State) (n : Loop) (k : Nat), s.Ready → s.selIdle n = false → (s.sel n).trig ≠ .untie → (s.sel n).trig ≠ .unfreeze →
    let w := wDpll n
    let cur := s.selCur n
    let E := fun P => s.To (.selectorEvaluation n) P
    let best := s.selMode n = 0 ∧ s.flag w DPLL_SEL_CTL_REVERT = true ∧ k < 21 ∧ s.candidate n k = true ∧
      ∀ j, j < 21 → j ≠ k → s.candidate n j = true → s.before n k j = true ∧ s.before n j k = false
    let manual := s.selMode n = 1 ∧ k = s.get w DPLL_SEL_CTL_FSRC ∧ k ≤ 20 ∧ s.qstate k = 4
    let empty := (s.selMode n = 2) ∨ (s.selMode n = 1 ∧ s.qstate (s.get w DPLL_SEL_CTL_FSRC) ≠ 4) ∨
      (s.selMode n = 0 ∧ ∀ j, j < 21 → s.candidate n j = false)
    let moved := fun (t : State) st e => t.selCur n = k ∧ t.selSt n = st ∧ t.get w DPLL_SEL_STATE_PREV = cur ∧
      t.rn w DPLL_SEL_SWCNT = (s.rn w DPLL_SEL_SWCNT + 1) % 2 ^ 32 ∧ t.selO n = s.selO n ∧
      t.evPending (evNo 5 (8 * n + e)) = true
    (best ∨ manual →
      (s.selSt n = 0 → E fun t => moved t 1 0 ∧ (t.sel n).returning = true ∧ t.get w DPLL_SEL_STS_CAUSE = 4) ∧
      (s.selSt n ≠ 0 → k = cur → E fun t => t.regs = s.regs) ∧
      (s.selSt n = 1 → k ≠ cur → E fun t => moved t 1 0 ∧ (t.sel n).eLast = (s.sel n).eLast) ∧
      (s.selSt n = 2 → k ≠ cur → E fun t => moved t 2 1 ∧ (t.sel n).retarget = true) ∧
      (s.selSt n = 3 → k ≠ cur → E fun t => moved t 1 0 ∧ (t.sel n).eLast = s.effError n ∧ (t.sel n).returning = false)) ∧
    (empty → ¬ (cur = 31 ∧ s.selSt n = 0) → E fun t => t.selCur n = 31 ∧ t.selSt n = 0 ∧ t.selO n = 0 ∧
      t.get w DPLL_SEL_STATE_PREV = cur ∧ t.evPending (evNo 5 (8 * n + 3)) = true)

/-- R65 to R71. O as PULL holds it: 64 bits, signed, in TB units. -/
def Obligations.SelectorSamples : Prop :=
  ∀ (s : State) (n : Loop) (r : Req) (v : Word), s.Ready →
    let w := wDpll n
    let k := s.selCur n
    let e := s.srcError n k
    let f := (s.sel n).follow
    let starts := fun (t : State) (o : Int) (keep : Bool) => t.pair w DPLL_SEL_PULL_LO = ofSigned 64 o ∧ t.selCur n = k ∧
      t.selSt n = (if keep = true ∨ o = 0 then 3 else 2) ∧ t.flag w DPLL_SEL_STATE_BO = keep
    (s.selIdle n = false → s.freshSample n = true →
      (s.selSt n = 1 → (s.sel n).returning = false →
        s.To (.switchFirstSample n) fun t => starts t (e - (s.sel n).eLast) (s.flag w DPLL_SEL_CTL_SWMODE)) ∧
      (s.selSt n = 2 → (s.sel n).retarget = true → f ≤ 20 →
        s.To (.retargetFirstSample n) fun t => starts t (e - (s.srcError n f - s.selO n)) (s.flag w DPLL_SEL_STATE_BO) ∧
          (e = s.srcError n f - s.selO n → s.flag w DPLL_SEL_STATE_BO = false → t.evPending (evNo 5 (8 * n + 2)) = true)) ∧
      (s.selSt n = 1 → (s.sel n).returning = true →
        (s.followMode n k = false → s.To (.returnFirstSample n) fun t => starts t e true) ∧
        (s.followMode n k = true → (s.rn w DPLL_SEL_JGUARD = 0 ∨ e.natAbs ≤ s.rn w DPLL_SEL_JGUARD * 65536) →
          s.To (.returnFirstSample n) fun t => starts t e false) ∧
        (s.followMode n k = true → 0 < s.rn w DPLL_SEL_JGUARD → s.rn w DPLL_SEL_JGUARD * 65536 < e.natAbs → k < 21 →
          s.hasPass n k = false → s.srcForce k = 0 → s.qstate k = 4 →
          s.To (.returnFirstSample n) fun t => t.qstate k = 5 ∧ t.get (wSrc k) SRC_STATE_HOLDCAUSE = 1 ∧ t.selCur n ≠ k ∧
            t.evPending (evNo (1 + k / 6) (5 * (k % 6) + 4)) = true))) ∧
    (r ≠ .i2c →
      s.To (.selAbsorb r n v) (fun t => t.selCur n = k ∧ t.selO n = s.selO n ∧
        t.selSt n = (if s.selSt n = 2 then 3 else s.selSt n) ∧ (s.selSt n = 2 → t.flag w DPLL_SEL_STATE_BO = true)) ∧
      ((s.sel n).trig ≠ .untie → (s.sel n).trig ≠ .unfreeze →
        s.To (.selReeval r n v) fun t => (t.sel n).trig = .config ∧ t.selCur n = k))

/-- R79 to R99, of a loop that is not frozen. -/
def Obligations.LoopCommands : Prop :=
  ∀ (s : State) (r : Req) (n : Loop) (v : Word), s.Ready → r ≠ .i2c → (s.dpll n).frozen = false →
    let w := wDpll n
    let lo := s.stagedVal r w DPLL_PSTEP_LO
    let a := toSigned 48 (lo + v.toNat % 2 ^ 16 * 2 ^ 32)
    let sum := s.psrem n + a
    let on := s.flag w DPLL_CTL_ENABLE
    let tiedNow := s.flag W_DPLL DPLL_CTL_TIED
    s.To (.dcowCommit (.eng (1 + n)) n v) (fun t => (t.dpll n).committed = true ∧ (t.dpll n).granted = true ∧
      t.pair w DPLL_DCOW_LO = s.stagedVal (.eng (1 + n)) w DPLL_DCOW_LO + v.toNat * 2 ^ 32 ∧ t.dco n = s.dco n) ∧
    s.To (.howordCommit r n v) (fun t => (t.dpll n).tw = some s.tb.c ∧
      t.pair w DPLL_HOWORD_LO = s.stagedVal r w DPLL_HOWORD_LO + v.toNat * 2 ^ 32) ∧
    (on = true → -2 ^ 47 ≤ sum → sum < 2 ^ 47 → s.To (.phaseStepCommand r n v) fun t => t.psrem n = sum) ∧
    (on = false ∨ sum < -2 ^ 47 ∨ 2 ^ 47 ≤ sum → s.To (.phaseStepCommand r n v) fun t => t.psrem n = s.psrem n ∧
      bitOf (t.rn w DPLL_STS) 4 = true ∧ t.Answered r (regAddr w DPLL_PSTEP_HI) .wign v) ∧
    s.To (.psabort r n v) (fun t => t.psrem n = 0 ∧
      (s.psrem n ≠ 0 → t.get w DPLL_STS_PSCAUSE = 1 ∧ t.evPending (evNo 5 (8 * n + 7)) = true)) ∧
    s.To (.lpstatWrite (.eng (1 + n)) n v) (fun t => t.rn w DPLL_LPSTAT = v.toNat ∧
      (v.toNat % 8 ≠ s.rn w DPLL_LPSTAT % 8 → t.evPending (evNo 5 (8 * n + 6)) = true)) ∧
    (on = false → 285 * s.uper n < s.get (W_ENG + 1 + n) ENG_BOUND_V → s.To (.dpllEnable r n v) fun t =>
      t.flag w DPLL_CTL_ENABLE = false ∧ bitOf (t.rn w DPLL_STS) 5 = true) ∧
    (on = false → s.get (W_ENG + 1 + n) ENG_BOUND_V ≤ 285 * s.uper n → (n.val = 0 → v.getLsbD 1 = false ∧ tiedNow = false) →
      s.To (.dpllEnable r n v) fun t => t.flag w DPLL_CTL_ENABLE = true ∧ t.phoff n = 0 ∧ t.psrem n = 0 ∧
        t.pair w DPLL_ERR_LO = errInvalid ∧ t.rn w DPLL_MISSCNT = 0 ∧ t.rn w DPLL_UPDCNT = 0 ∧
        t.flag w DPLL_STATE_FLOCK = false ∧ t.flag w DPLL_STATE_PLOCK = false ∧ t.dco n = s.dco n ∧
        (s.selMode n ≠ 2 → s.selSt n = 3 → t.loopst n = 1) ∧ (s.selSt n = 0 → t.loopst n = 3)) ∧
    (on = true → (n.val = 0 → v.getLsbD 1 = tiedNow) → s.To (.dpllDisable r n v) fun t =>
      t.flag w DPLL_CTL_ENABLE = false ∧ t.loopst n = 0 ∧ t.psrem n = 0 ∧ t.pair w DPLL_ERR_LO = errInvalid ∧
        t.dco n = s.dco n) ∧
    ((s.dpll 0).frozen = false → s.flag W_DPLL DPLL_CTL_ENABLE = v.getLsbD 0 →
      (tiedNow = false → s.To (.tiedSet r v) fun t => t.flag W_DPLL DPLL_CTL_TIED = true ∧
        t.get W_DPLL DPLL_SEL_STATE_TIED = 1 ∧ t.dco 0 = s.dco 0) ∧
      (tiedNow = true → s.To (.tiedClear r v) fun t => t.flag W_DPLL DPLL_CTL_TIED = false ∧
        t.get W_DPLL DPLL_SEL_STATE_TIED = 0 ∧ t.dcow 0 = s.dco 0 ∧ t.dco 0 = s.dco 0))

/-- R79 to R91. -/
def Obligations.LoopUpdates : Prop :=
  ∀ (s : State) (n : Loop) (baw : Int), s.Ready →
    let w := wDpll n
    let u := s.uper n * usU
    let x := s.dpll n
    let U := fun P => s.To (.dpllUpdate n baw) P
    let ch := (s.dco n - x.flWord).natAbs * 4096 * 10 ^ 9
    let thr := s.rn w DPLL_FLTHR * 2 ^ 48
    (s.tb.c / u ≤ x.updIdx → U (· = s)) ∧
    (x.updIdx < s.tb.c / u → s.dpllOn n = false → x.frozen = false → U fun t => t.rn w DPLL_UPDCNT = s.rn w DPLL_UPDCNT ∧
      t.dco n = s.dco n ∧ (t.dpll n).updIdx = s.tb.c / u) ∧
    (x.updIdx < s.tb.c / u → s.dpllOn n = true → U fun t =>
      t.rn w DPLL_UPDCNT = (s.rn w DPLL_UPDCNT + 1) % 2 ^ 32 ∧ (t.dpll n).updIdx = s.tb.c / u ∧
      t.pair w DPLL_PHOFF_LO = ofSigned 64 (s.phoff n + x.moving) ∧
      ((t.eng (1 + n)).pend.any (fun e => e.1 == 0) = true) ∧
      (x.granted = true → (t.dpll n).missRun = 0 ∧ (t.dpll n).stall = false ∧ t.rn w DPLL_MISSCNT = s.rn w DPLL_MISSCNT) ∧
      (x.granted = false → (t.dpll n).missRun = x.missRun + 1 ∧
        t.rn w DPLL_MISSCNT = (s.rn w DPLL_MISSCNT + 1) % 2 ^ 32) ∧
      (x.frozen = false → s.tied n = false → s.selMode n ≠ 2 → s.selSt n = 3 → x.granted = true → x.committed = true →
        s.psrem n = 0 → s.rn w DPLL_FSLEW = 0 → -s.flim n ≤ s.dcow n → s.dcow n ≤ s.flim n →
        t.loopst n = 1 ∧ t.dco n = s.dcow n)) ∧
    (s.dpllOn n = true → s.due x.flEnd = true → s.To (.flockWindowEnd n) fun t =>
      (t.dpll n).flEnd = (x.flEnd + s.fltime n) % 2 ^ 96 ∧
      t.flag w DPLL_STATE_PLOCK = s.flag w DPLL_STATE_PLOCK ∧
      (s.flag w DPLL_STATE_FLOCK = false → ch ≤ thr → 1 ≤ x.flGood →
        t.flag w DPLL_STATE_FLOCK = true ∧ t.evPending (evNo 5 (8 * n + 4)) = true) ∧
      (s.flag w DPLL_STATE_FLOCK = true → 2 * thr < ch →
        t.flag w DPLL_STATE_FLOCK = false ∧ t.evPending (evNo 5 (8 * n + 4)) = true))

/-- R101 to R119. The arithmetic error within the bound of R103 is a free value (log entry 27). -/
def Obligations.OscillatorModel : Prop :=
  ∀ (s : State) (r : Req) (v : Word) (code : BitVec 16), s.Ready →
    let x := s.osc.inForce
    let i := s.tb.c / msU
    (r ≠ .i2c → s.To (.oscGenCommit r v) fun t => t.rn W_OSC OSC_GEN = v.toNat ∧ t.osc.inForce = x ∧
      ∃ y, t.osc.pend.head? = some (s.tb.c, y) ∧ y.y0 = toSigned 48 (s.pair W_OSC OSC_Y0_LO) ∧ y.age = s.ri W_OSC OSC_AGE ∧
        y.k1 = s.ri W_OSC OSC_K1 ∧ y.k2 = s.ri W_OSC OSC_K2 ∧ y.t0 = s.ri W_OSC OSC_T0 ∧ y.tref = s.rn W_OSC OSC_TREF) ∧
    (s.osc.evalIdx < i →
      (∀ c y l, s.osc.pend = (c, y) :: l → c < i * msU → s.To .oscEvaluation fun t => t.osc.inForce = y ∧
        t.evPending (evNo 12 24) = true ∧ ∀ p ∈ t.osc.pend, i * msU ≤ p.1) ∧
      (s.flag W_OSC OSC_CTL_EVAL = false → s.To .oscEvaluation fun t => t.pair W_OSC OSC_PRED_LO = 0) ∧
      (s.flag W_OSC OSC_CTL_EVAL = true → s.osc.pend = [] → s.tempOn = false → s.To .oscEvaluation fun t =>
        t.pair W_OSC OSC_PRED_LO = ofSigned 48 (satSigned 48
          ((x.y0 * 2 ^ 16 + quotFree (x.age * (((i * msU : Nat) : Int) - x.tref * secU)) secU + 2 ^ 15) / 2 ^ 16)))) ∧
    (s.osc.tempIdx < s.tb.c / (10 * msU) → s.tsel = 0 →
      (tsValid code.toNat = false → s.To (.thermistorSample code) fun t => t.get W_OSC OSC_STATE_TSBAD = 1 ∧
        t.rn W_OSC OSC_THETA = s.rn W_OSC OSC_THETA ∧
        (s.flag W_OSC OSC_STATE_TSBAD = false → t.evPending (evNo 12 26) = true)) ∧
      (tsValid code.toNat = true → s.flag W_OSC OSC_STATE_TSBAD = false → s.get W_OSC OSC_TLAG_V = 0 →
        s.To (.thermistorSample code) fun t => t.osc.hasTheta = true ∧ t.rn W_OSC OSC_THETA =
          ofSigned 32 (s.tsTemp code.toNat))) ∧
    (s.flag W_OSC OSC_CTL_LSAMP = true → s.osc.learnIdx < s.tb.c / s.lint → s.To .learningSample fun t =>
      bitsOf (t.rn W_OSC OSC_LS_INFO) 0 16 = (s.rn W_OSC OSC_LS_INFO + 1) % 2 ^ 16 ∧
      bitOf (t.rn W_OSC OSC_LS_INFO) 19 = (s.osc.okA || s.osc.okB) ∧ t.osc.unread = true ∧
      ((t.eng 0).pend.any (fun e => e.1 == 1) = true) ∧ t.osc.start = s.tb.c ∧
      (s.osc.unread = true → bitOf (t.rn W_OSC OSC_STS) 4 = true ∧
        bitsOf (t.rn W_OSC OSC_LS_INFO) 24 8 = (s.rn W_OSC OSC_LS_INFO / 2 ^ 24 + 1) % 2 ^ 8)) ∧
    (r ≠ .i2c → s.To (.lsInfoRead r) fun t => t.osc.unread = false ∧
      t.Answered r (regAddr W_OSC OSC_LS_INFO) .ok
        (BitVec.ofNat 32 ((s.latched r W_OSC OSC_LS_INFO).getD (s.rn W_OSC OSC_LS_INFO))) ∧
      ∀ o ∈ [OSC_LS_Y_LO, OSC_LS_Y_HI, OSC_LS_THETA], t.latched r W_OSC o = some (s.rn W_OSC o)) ∧
    (s.osc.estIdx < s.tb.c / secU → s.learned = false → s.To .teestUpdate fun t =>
      t.rn W_OSC OSC_PROJ = 2 ^ 32 - 1 ∧ ∀ k, k < 4 → t.rn W_OSC (OSC_TEEST0 + 4 * k) = 2 ^ 32 - 1)

/-- R126 and R134. -/
def Obligations.BridgeChecks : Prop :=
  ∀ (s : State) (r : Req) (v : Word) (amp : Bool) (off diff : Int), s.Ready →
    let bad := amp = true ∨ (s.mon.xoLost = false ∧ 200000 * 4096 < off.natAbs)
    let ok := s.flag W_BRG BRG_STATE_BAWOK
    let tl := s.flag W_BRG BRG_STATE_TBLOCK
    s.To (.bawFail amp off) (fun t =>
      (s.mon.xoLost = false → t.rn W_BRG BRG_BAWOFF = ofSigned 32 off) ∧
      (bad → t.flag W_BRG BRG_STATE_BAWOK = false ∧
        t.flt.msgs = s.flt.msgs ++ (if ok then [⟨W_BRG, K_BAW_FAIL, regAddr W_BRG BRG_STATE, false⟩] else [])) ∧
      (¬ bad → t.flag W_BRG BRG_STATE_BAWOK = true ∧ t.flt = s.flt)) ∧
    s.To (.clkCountCheck diff) (fun t =>
      (1 < diff.natAbs → t.flag W_BRG BRG_STATE_TBLOCK = false ∧
        t.flt.msgs = s.flt.msgs ++ (if tl then [⟨W_BRG, K_CLK_DISAGREE, regAddr W_BRG BRG_STATE, false⟩] else [])) ∧
      (diff.natAbs ≤ 1 → t.flag W_BRG BRG_STATE_TBLOCK = true ∧ t.flt = s.flt)) ∧
    (r ≠ .i2c → s.To (.brgMapWrite r v) fun t =>
      (s.safe = true → t.flag W_BRG BRG_STATE_PENDING = true ∧ t.brg = s.brg) ∧
      (s.safe = false → t.brg.map = t.get W_BRG BRG_MAP_V) ∧
      (s.safe = false → s.rn W_BRG BRG_SLEW ≠ 0 → ∀ d, d < 7 → bitsOf s.brg.map (2 * d) 2 ≠ bitsOf v.toNat (2 * d) 2 →
        (t.dest d).delta = ((s.dest d).last - s.dco (bitsOf v.toNat (2 * d) 2)) * 10 ^ 15 ∧
        t.evPending (evNo 6 8) = true))

/-- R128 to R139. -/
def Obligations.SynthesiserCommands : Prop :=
  ∀ (s : State) (r : Req) (n : Apll) (v : Word) (band : Fin 128) (mv : BitVec 12), s.Ready →
    let w := wApll n
    let on := s.apllOn n
    let forced := s.flag w APLL_CFG_BANDMODE
    (r ≠ .i2c → on = false → s.apllRangeBad n = true → s.To (.apllEnable r n v) fun t => t.apllOn n = false ∧
      bitOf (t.rn w APLL_STS) 3 = true ∧
      t.Answered r (regAddr w APLL_CTL) .wign (BitVec.ofNat 32 (putBits v.toNat 0 1 1))) ∧
    (r ≠ .i2c → on = false → s.apllRangeBad n = false → s.To (.apllEnable r n v) fun t => t.apllOn n = true ∧
      t.apllLock n = false ∧ (t.apll n).locked = false ∧ t.flag w APLL_STATE_BANDOK = forced ∧
      (forced = true → t.get w APLL_STATE_BAND = s.get w APLL_CFG_BANDF ∧ t.evPending (evNo 6 (4 * n + 2)) = true)) ∧
    (r ≠ .i2c → on = true → s.To (.apllDisable r n v) fun t => t.apllOn n = false ∧ t.apllLock n = false ∧
      t.flag w APLL_STATE_LOL = false ∧ t.flag w APLL_STATE_MARGIN = false ∧ t.flag w APLL_STATE_MARGFLT = false) ∧
    (on = true → forced = false → s.flag w APLL_STATE_BANDOK = false → s.To (.bandSearchDone n band) fun t =>
      t.get w APLL_STATE_BAND = band ∧ t.flag w APLL_STATE_BANDOK = true ∧ t.evPending (evNo 6 (4 * n + 2)) = true) ∧
    (on = true → s.flag w APLL_STATE_BANDOK = true → s.apllLock n = false → s.To (.apllLockAcquired n) fun t =>
      t.apllLock n = true ∧ t.flag w APLL_STATE_LOL = false ∧ (t.apll n).locked = true ∧
      t.evPending (evNo 6 (4 * n)) = true) ∧
    (on = true → s.To (.vtuneSample n mv) fun t => t.rn w APLL_VTUNE = mv.toNat ∧
      ((s.apll n).locked = true →
        t.flag w APLL_STATE_MARGIN = decide (mv.toNat < 250 ∨ 950 < mv.toNat) ∧
        t.flag w APLL_STATE_MARGFLT = decide (mv.toNat < 150 ∨ 1050 < mv.toNat) ∧
        (t.flag w APLL_STATE_MARGFLT = true → s.flag w APLL_STATE_MARGFLT = false →
          t.flt.msgs = s.flt.msgs ++ [⟨w, K_VCO_MARGIN, regAddr w APLL_VTUNE, false⟩]))) ∧
    (s.apllLock n = true → s.To (.apllLossOfLock n) fun t => t.apllLock n = false ∧ t.flag w APLL_STATE_LOL = true ∧
      t.rn w APLL_LOLCNT = (s.rn w APLL_LOLCNT + 1) % 2 ^ 32 ∧
      (s.safe = false → t.flt.msgs = s.flt.msgs ++ [⟨w, K_APLL_LOL, regAddr w APLL_STATE, false⟩]) ∧
      (s.safe = true → (t.apll n).owed = true ∧ t.flt = s.flt))

/-- R151 to R157. OUTST: 0 HIZ, 1 IDLE, 2 STARTING, 3 RUN, 4 STOPPING; SAFEACT: 0 none, 1 HOLD, 2 STOP, 3 HIZ. `outTurn` is what
an idle tick does to a channel (log entry 81). -/
def Obligations.ChannelControl : Prop :=
  ∀ (s : State) (r : Req) (n : Chan) (v : Word), s.Ready → r ≠ .i2c →
    let w := wOut n
    let on := s.flag w OUT_CTL_ENABLE
    let waits := s.clksel n < 2 ∧ s.apllLock (s.clksel n) = false
    let ev := fun (t : State) => t.evPending (evNo (if n.val < 32 then 7 else 8) (n % 32)) = true
    let started := fun (t : State) => t.outst n = 3 ∧ t.fretA n = s.fretT n ∧
      t.get w OUT_STATE_COARSEAPP = s.get w OUT_COARSE_V % 2 ^ 10 ∧ t.flag w OUT_STATE_DIVBAD = false ∧ ev t
    (on = false → s.outRangeBad n = true → s.To (.outEnable r n v) fun t => t.flag w OUT_CTL_ENABLE = false ∧ ev t ∧
      t.outst n = s.outst n ∧ bitOf (t.rn w OUT_STS) 6 = true ∧
      t.Answered r (regAddr w OUT_CTL) .wign (BitVec.ofNat 32 (putBits v.toNat 0 1 1))) ∧
    (on = false → s.outRangeBad n = false → s.To (.outEnable r n v) fun t => t.flag w OUT_CTL_ENABLE = true ∧
      (waits → t.outst n = 2) ∧ (¬ waits → started t) ∧
      (¬ waits → s.safe = true → s.gated n = false → (s.chan n).safePend = none →
        ((s.chan n).safeCap = none → t.safeAct n = s.safeSel n + 1) ∧
        (∀ a, (s.chan n).safeCap = some a → t.safeAct n = a + 1))) ∧
    (s.outst n = 2 → s.clksel n < 2 →
      (s.apllLock (s.clksel n) = true → s.To (.outStartOnLock n) started) ∧
      (s.apllLock (s.clksel n) = false → s.To (.outStartOnLock n) (· = s))) ∧
    (on = true → s.To (.outDisable r n v) fun t => t.flag w OUT_CTL_ENABLE = false ∧
      ((s.chan n).start ≠ none → t.outst n = 4 ∧ t.safeAct n = s.safeAct n) ∧
      ((s.chan n).start = none → t.outst n = (if t.flag w OUT_CTL_DISST then 1 else 0) ∧ t.safeAct n = 0 ∧ ev t)) ∧
    ((s.chan n).start ≠ none → s.outst n = 4 →
      (s.outHigh n = false → (s.outTurn n).outst n = (if s.flag w OUT_CTL_DISST then 1 else 0) ∧ (s.outTurn n).safeAct n = 0 ∧
        ((s.outTurn n).chan n).start = none ∧ ev (s.outTurn n)) ∧
      (s.outHigh n = true → (s.chan n).resume = false → s.outTurn n = s)) ∧
    (∀ a, (s.chan n).safePend = some a → a < 3 →
      (s.outRun n = true → s.outHigh n = false → s.To (.safeActionApply n) fun t => (t.chan n).safePend = none ∧
        t.outst n = 3 ∧ ev t ∧ (0 < a → t.safeAct n = a + 1) ∧ (a = 0 → s.gated n = false → t.safeAct n = b2n s.safe) ∧
        (a = 0 → s.gated n = true → t.safeAct n = s.safeAct n)) ∧
      (s.outRun n = false ∨ s.outHigh n = true → s.To (.safeActionApply n) (· = s))) ∧
    (s.flt.st = .idle → s.gated n = true →
      (s.outLevel n (s.phaseNow n) = false → s.To (.outResume r n v) fun t =>
        t.safeAct n = 0 ∧ t.fretA n = s.fretT n ∧ ev t) ∧
      (s.outLevel n (s.phaseNow n) = true → s.To (.outResume r n v) fun t =>
        t.regs = s.regs ∧ (t.chan n).resume = true ∧ t.safeAct n = s.safeAct n)) ∧
    ((s.chan n).start ≠ none → s.outst n ≠ 4 → (s.chan n).resume = true → s.outLevel n (s.phaseNow n) = false →
      (s.outTurn n).safeAct n = 0 ∧ (s.outTurn n).fretA n = s.fretT n ∧ ev (s.outTurn n)) ∧
    (s.flt.st ≠ .idle ∨ s.gated n = false → s.To (.outResume r n v) fun t => t.regs = s.regs ∧ t.outs = s.outs)

/-- R149, R159 and R160. -/
def Obligations.ChannelWatch : Prop :=
  ∀ (s : State) (n : Chan), s.Ready →
    let w := wOut n
    let a := s.fretA n
    let g := s.fretT n
    let live := s.outRun n = true ∧ s.gated n = false
    (live → s.outHigh n = false → (s.chan n).start.getD 0 ≤ s.phaseNow n → (s.chan n).fretNext = none → a ≠ g → s.To (.fretMove n) fun t =>
      t.fretA n = (if a < g then a + 1 else a - 1) ∧ t.fretT n = g ∧
      (t.chan n).fretNext = some ((s.tb.c + s.fstep n) % 2 ^ 96) ∧
      (a + 1 = g ∨ g + 1 = a → bitOf (t.rn w OUT_STS) 3 = true)) ∧
    (∀ d, (s.chan n).fretNext = some d → s.due d = false → s.To (.fretMove n) (· = s)) ∧
    (∀ (edges : Nat) (static : Bool),
      let dfn := max 1 (s.get w OUT_DFCFG_DFN)
      let D := s.To (.driverFaultDetection ⟨n, edges, static⟩)
      (s.flag w OUT_STATE_DRVBAD = false → (static = true ∨ dfn ≤ (s.chan n).bad + edges) →
        (live → D fun t => t.flag w OUT_STATE_DRVBAD = true ∧ t.rn w OUT_DRVCNT = (s.rn w OUT_DRVCNT + 1) % 2 ^ 32 ∧
          t.outst n = 3 ∧ t.flt.msgs = s.flt.msgs ++ [⟨w, K_DRV_FAULT, regAddr w OUT_STATE, false⟩]) ∧
        (¬ live → D fun t => (t.chan n).owed = true ∧ t.regs = s.regs ∧ t.flt = s.flt)) ∧
      (s.flag w OUT_STATE_DRVBAD = true ∨ (static = false ∧ (s.chan n).bad + edges < dfn) → D fun t =>
        (t.chan n).bad = (s.chan n).bad + edges ∧ (t.chan n).good = 0 ∧ t.regs = s.regs ∧ t.flt = s.flt) ∧
      (dfn ≤ (s.chan n).good + edges → s.To (.drvbadClear ⟨n, edges⟩) fun t => t.flag w OUT_STATE_DRVBAD = false ∧
        (t.chan n).owed = false ∧ (t.chan n).bad = 0 ∧ t.outst n = s.outst n) ∧
      ((s.chan n).good + edges < dfn → s.To (.drvbadClear ⟨n, edges⟩) fun t =>
        (t.chan n).good = (s.chan n).good + edges ∧ (t.chan n).bad = 0 ∧ t.regs = s.regs)) ∧
    (s.outRun n = true → s.To (.dividerTerminalCount n false) fun t =>
      t.flag w OUT_STATE_DIVBAD = true ∧ t.outst n = 3 ∧
      t.flt.msgs = s.flt.msgs ++ [⟨w, K_DIV_PHASE, regAddr w OUT_DIV, false⟩]) ∧
    s.To (.dividerTerminalCount n true) (· = s)

/-- R168 to R171. The case of an anchor that also broadcasts its arm is stated by its outcomes. -/
def Obligations.SyncArms : Prop :=
  ∀ (s : State) (r : Req) (v : Word) (t0 : Nat) (code : Fin 2048), s.Ready → r ≠ .i2c →
    let trig := bitsOf v.toNat 1 2
    let rb := v.getLsbD 3 && s.glMayBroadcast
    let at0 := s.instant W_SYNC SYNC_AT_W0
    let free := s.syncOn = true ∧ s.syncArmed = false
    let A := fun P => v.getLsbD 4 = false → s.To (.syncArm r v) P
    let armed := fun (t : State) g (u : Option Nat) => t.syncArmed = true ∧ t.get W_SYNC SYNC_STATE_TRIGARM = g ∧
      t.syncPlaced = false ∧ t.sync.t = u
    let late := fun (t : State) => t.syncArmed = false ∧ bitOf (t.rn W_SYNC SYNC_STS) 1 = true ∧
      t.evPending (evNo 6 11) = true
    (¬ free → A fun t => t.rn W_SYNC SYNC_STATE = s.rn W_SYNC SYNC_STATE ∧ t.sync = s.sync ∧
      bitOf (t.rn W_SYNC SYNC_STS) 10 = true ∧ t.evPending (evNo 6 11) = true) ∧
    (free → trig = 0 → s.tdiff at0 s.now < 200 * 65536 → A late) ∧
    (free → trig = 0 → 200 * 65536 ≤ s.tdiff at0 s.now → rb = false → A fun t => armed t 0 (some at0)) ∧
    (free → trig = 0 → 200 * 65536 ≤ s.tdiff at0 s.now → rb = true → A fun t => armed t 0 (some at0) ∨ late t) ∧
    (free → trig = 1 → A fun t => armed t 1 none) ∧
    (free → 2 ≤ trig → A fun t => armed t 2 (some (s.tplus s.now usU))) ∧
    (v.getLsbD 0 = false → s.To (.syncDisarm r v) fun t =>
      (s.syncArmed = true → s.syncPlaced = false → s.placeDue = false → t.syncArmed = false ∧ t.sync.t = none) ∧
      (s.syncPlaced = true ∨ s.placeDue = true → t.regs = s.regs ∧ t.sync = s.sync)) ∧
    (s.sync.t = some t0 → s.placeDue = true → s.syncPlaced = false → s.To .syncPlacement fun t =>
      t.syncPlaced = true ∧ t.syncArmed = true ∧ t.sync.t = some t0 ∧
      t.sync.resetAt = some (addSigned 96 s.tb.c (s.tdiff t0 s.now)) ∧
      ∀ n, n < 2 → lget none t.sync.edges n = (s.phi n).map (fun phi => (phi - t0 * 2 ^ 16) % s.vcoPeriod n)) ∧
    (s.placeDue = false → s.To .syncPlacement (· = s)) ∧
    (∀ c0, s.sync.resetAt = some c0 → s.sync.t = some t0 → s.syncPlaced = true → s.due c0 = true → s.To .syncReset fun t =>
      t.get W_SYNC SYNC_STATE_RSTCNT = (s.get W_SYNC SYNC_STATE_RSTCNT + 1) % 2 ^ 16 ∧
      t.triple W_SYNC SYNC_LAST_W0 = fmtTime s.tb.ring t0 % 2 ^ 96 ∧ t.evPending (evNo 6 10) = true ∧
      (∀ n, n < 40 → bitOf (t.pair W_SYNC SYNC_DONEMASK_LO) n = (s.syncMask n && s.outRun n)) ∧
      (∀ n, n < 40 → s.syncMask n = true → s.outRun n = true → (t.chan n).start = some (s.resetEdge n c0) ∧
        t.flag (wOut n) OUT_STATE_DIVBAD = false ∧ t.get (wOut n) OUT_STATE_COARSEAPP = s.get (wOut n) OUT_COARSE_V % 2 ^ 10) ∧
      (∀ n, n < 40 → s.syncMask n = false ∨ s.outRun n = false → t.chan n = s.chan n) ∧
      (s.get W_SYNC SYNC_STATE_TRIGARM ≠ 1 → t.syncArmed = false) ∧
      (s.get W_SYNC SYNC_STATE_TRIGARM = 1 → s.flag W_SYNC SYNC_CFG_PINMODE = true → armed t 1 none)) ∧
    s.To (.syncInEdge code (!s.flag W_SYNC SYNC_CFG_PINEDGE)) (fun t =>
      t.rn W_SYNC SYNC_PINCNT = (s.rn W_SYNC SYNC_PINCNT + 1) % 2 ^ 32 ∧
      (s.syncPinWait = true → t.sync.t = some (s.tplus (s.tdcStamp 30 code) s.pindly)) ∧
      (s.syncPinWait = false → (∀ g, g < 4 → s.srPinWait g = false) → t.evPending (evNo 6 12) = true ∧ t.sync = s.sync)) ∧
    s.To (.syncInEdge code (s.flag W_SYNC SYNC_CFG_PINEDGE)) (· = s)

/-- R174 to R177, of a START that is not also broadcast. SRST: 0 IDLE, 1 ARMED, 2 RUN, 3 STOPPING. `srTick` is what an idle tick does
(log entry 81); that PASSED is the lowest channel's count is the model's choice (log entry 44). -/
def Obligations.SysrefGenerators : Prop :=
  ∀ (s : State) (r : Req) (g : SrGen) (v : Word), s.Ready → r ≠ .i2c →
    let x := s.sr g
    let st := s.get W_SYNC (SYNC_SR_CFG_START.up (srOff g))
    let at0 := s.instant W_SYNC (SYNC_SR_AT_W0 + srOff g)
    let free := s.syncOn = true ∧ s.srst g = 0
    let alone := v.getLsbD 2 = false ∨ s.glMayBroadcast = false
    let done := fun (t : State) => t.evPending (evNo 6 (15 + g)) = true ∧ t.srst g = 0
    let passed := fun (t : State) => t.get W_SYNC (SYNC_SR_STATE_PASSED.up (srOff g))
    let A := fun P => v.getLsbD 1 = false → s.To (.srStart r g v) P
    let armed := fun (t : State) (u : Option Nat) => t.srst g = 1 ∧ (t.sr g).start = st ∧ (t.sr g).ts = u ∧
      (t.sr g).on = max 1 (s.get W_SYNC (SYNC_SR_COUNT_ON.up (srOff g))) ∧
      (t.sr g).off = s.get W_SYNC (SYNC_SR_COUNT_OFF.up (srOff g))
    (¬ free → A fun t => t.srst g = s.srst g ∧ t.sync = s.sync ∧ bitOf (t.rn W_SYNC SYNC_STS) 9 = true ∧
      t.evPending (evNo 6 19) = true) ∧
    (free → st = 0 → s.tdiff at0 s.now < 200 * 65536 → A fun t => t.srst g = 0 ∧ t.evPending (evNo 6 19) = true) ∧
    (free → st = 0 → 200 * 65536 ≤ s.tdiff at0 s.now → alone → A fun t => armed t (some at0)) ∧
    (free → st = 1 → A fun t => armed t none) ∧
    (free → st = 2 → s.syncArmed = false ∨ s.sync.t = none → A fun t => armed t none) ∧
    (∀ t0, free → st = 2 → s.syncArmed = true → s.sync.t = some t0 →
      (s.tdiff t0 s.now < 200 * 65536 → A fun t => t.srst g = 0 ∧ t.evPending (evNo 6 19) = true) ∧
      (200 * 65536 ≤ s.tdiff t0 s.now → alone → A fun t => armed t none)) ∧
    (free → st = 3 → alone → A fun t => armed t (some (s.tplus s.now 65536000))) ∧
    (v.getLsbD 0 = false →
      (s.srst g = 1 → s.To (.srStop r g v) fun t => done t ∧ (t.sr g).ts = none ∧ passed t = 0) ∧
      (s.srst g = 2 → s.To (.srStop r g v) fun t => t.srst g = 3 ∧ (t.sr g).ts = x.ts ∧
        ∀ n ∈ s.srChans g, (t.chan n).srLimit = some (s.srLast n)) ∧
      (s.srst g = 0 ∨ s.srst g = 3 → s.To (.srStop r g v) fun t => t.srst g = s.srst g ∧ t.sync = s.sync)) ∧
    (s.srst g = 3 → x.ts ≠ none → s.srEnded g = true → done s.srTick) ∧
    (∀ t0, x.ts = some t0 → s.srst g = 1 →
      (s.tdiff t0 s.now ≤ 0 →
        (s.srChans g = [] ∨ ∃ n ∈ s.srChans g, s.firstEdge n (s.tsPhase n) ≤ s.phaseNow n) →
        s.To (.srGateOpen g) fun t => t.srst g = 2 ∧ t.sr g = x ∧
          ∀ n ∈ s.srChans g, (t.chan n).sr = some (0, s.firstEdge n (s.tsPhase n))) ∧
      (0 < s.tdiff t0 s.now → s.To (.srGateOpen g) (· = s))) ∧
    (s.srst g = 2 → x.kind = 1 → s.srEnded g = true → s.To (.srPatternEnd g) fun t => done t ∧ passed t = s.srPassed g ∧
      (∀ n, s.srChan g = some n → (s.chan n).srLimit = none → x.on < 2 ^ 24 → passed t = x.on)) ∧
    (s.srst g = 2 → x.kind = 1 → s.srEnded g = false → s.To (.srPatternEnd g) (· = s))

/-- R165 to R182. -/
def Obligations.TrimsAndEcho : Prop :=
  ∀ (s : State) (n : Apll) (raw e : Int) (k : Chan) (tau : Nat) (lam gam : Int), s.Ready →
    let d := s.destLoop n
    let a := roundFree (-e * 15625) 1024
    let cnt := if n.val = 0 then SYNC_TRIMCNT_A else SYNC_TRIMCNT_B
    let ranged := s.rangeRuns k = true ∧ s.rangeRefused k = false ∧ s.seqSt ≠ 4 ∧ s.flag W_SYNC SYNC_ECTL_ECHOEN = true ∧
      s.flag W_SYNC (SYNC_ECFG_EN.up (0x10 * k)) = true ∧ s.since (s.echoSt k).at_ s.echoAvg = true
    let found := s.echoInWindow k tau = true
    let rstat := fun (t : State) => t.get W_SYNC (SYNC_ERES_RSTAT.up (0x10 * k))
    let etau := SYNC_ETAU + 0x10 * k
    (s.apllLock n = true → 0 < s.vcoPeriod n → s.To (.apllPhaseMeasurement n raw) fun t =>
      t.view W_SYNC (SYNC_APHA + 4 * n) = (quotFree (raw % s.vcoPeriod n) (2 ^ 16)).toNat % 2 ^ 32 ∧
      t.aperr n = some (
        let e := (raw % s.vcoPeriod n - s.rn W_SYNC (SYNC_PHTGTA + 4 * n) * 2 ^ 16) % s.vcoPeriod n
        quotFree (if s.vcoPeriod n < 2 * e then e - s.vcoPeriod n else e) (2 ^ 16))) ∧
    (s.apllLock n = false → s.To (.apllPhaseMeasurement n raw) (· = s) ∧
      s.view W_SYNC (SYNC_APHA + 4 * n) = 2 ^ 32 - 1 ∧ s.view W_SYNC (SYNC_APERRA + 4 * n) = 0x8000_0000) ∧
    (s.trimOn n = true → lget 0 s.sync.trimIdx n < s.tb.c / s.trimInt → s.aperr n = some e →
      (e.natAbs * 1000 ≤ s.trimThr * 16384 → s.To (.apllTrim n) fun t => t.regs = s.regs) ∧
      (s.trimThr * 16384 < e.natAbs * 1000 → s.psrem d = 0 →
        (s.steersTb d = true → s.To (.apllTrim n) fun t => t.psrem d = 0 ∧ t.evPending (evNo 6 14) = true) ∧
        (s.steersTb d = false → s.pstepRefused d a = false → s.To (.apllTrim n) fun t => t.psrem d = a ∧
          t.get W_SYNC cnt = (s.get W_SYNC cnt + 1) % 2 ^ 16))) ∧
    (∀ c0, lget none s.sync.satSince n = some c0 → s.trimOn n = true → lget false s.sync.satDone n = false →
      (s.aperr n).isSome = true → s.due ((c0 + secU) % 2 ^ 96) = true → s.To (.trimSaturation n) fun t => t.evPending (evNo 6 13) = true ∧
        lget false t.sync.satDone n = true) ∧
    (ranged → s.To (.echoResult k none lam gam) fun t => rstat t = 5 ∧ t.rn W_SYNC etau = s.rn W_SYNC etau) ∧
    (ranged → ¬ found → s.To (.echoResult k (some tau) lam gam) fun t => rstat t = 5 ∧ t.rn W_SYNC etau = s.rn W_SYNC etau) ∧
    (ranged → found → gam.natAbs * 100 < 3 * 65536 → s.To (.echoResult k (some tau) lam gam) fun t => rstat t = 2 ∧
      t.rn W_SYNC etau = s.rn W_SYNC etau) ∧
    (ranged → found → 3 * 65536 ≤ gam.natAbs * 100 → gam.natAbs * 4 < 3 * 65536 → 65536 ≤ tau * 10 → tau * 10 ≤ 45 * 65536 →
      s.rn W_SYNC etau = 2 ^ 32 - 1 → s.flag W_CAL CAL_CTL_ECHOCHK = false →
      s.To (.echoResult k (some tau) lam gam) fun t => rstat t = 1 ∧ t.rn W_SYNC etau = tau)

/-- The grants of R195 to R197 (log entry 12), and R212. -/
def Obligations.TimebaseWrites : Prop :=
  ∀ (s : State) (r : Req) (v : Word) (p : Port), s.Ready → r ≠ .i2c →
    let st := fun o => s.stagedVal r W_TB o
    let e := 9 + p.val
    let granted := fun (t : State) (c : TbChange) => t.tb = { s.tb with changes := s.tb.changes ++ [c] }
    s.To (.tbIncrCommit r v) (fun t => granted t (.incr (st TB_INCR_LO + v.toNat * 2 ^ 32)) ∧
      t.pair W_TB TB_INCR_LO = st TB_INCR_LO + v.toNat * 2 ^ 32) ∧
    s.To (.tbSteerWrite r v) (fun t => granted t (.steer (v.toNat % 4)) ∧ t.rn W_TB TB_STEER = v.toNat) ∧
    s.To (.tbModeWrite r v) (fun t => granted t (.mode (v.getLsbD 0)) ∧ t.rn W_TB TB_MODE = v.toNat) ∧
    s.To (.tbStepCommand r v) (fun t => granted t
      (.step (toSigned 96 (st TB_STEP_W0 + st TB_STEP_W1 * 2 ^ 32 + v.toNat * 2 ^ 64)))) ∧
    (s.safe = false → s.To (.tbSrvwCommit (.eng e) v) fun t =>
      t.pair W_TB TB_SRVW_LO = s.stagedVal (.eng e) W_TB TB_SRVW_LO + v.toNat * 2 ^ 32 ∧
      granted t (.srvw (toSigned 48 (t.pair W_TB TB_SRVW_LO)) s.tb.c)) ∧
    s.To (.tbResync r v) (fun t => t.tb = { s.tb with dupbad := false }) ∧
    (s.tb.dupbad = false → s.To .tbDupMismatch fun t => t.tb = { s.tb with dupbad := true } ∧
      t.flt.msgs = s.flt.msgs ++ [⟨W_TB, K_TB_DUP, regAddr W_TB TB_TIME_W0, false⟩]) ∧
    (s.tb.dupbad = true → s.To .tbDupMismatch (· = s))

/-- R194 to R196, for the change granted first, while the TB clock runs. The count C stays. -/
def Obligations.TimebaseRates : Prop :=
  ∀ (s : State) (v : Nat) (cs : List TbChange), s.Ready →
    let x := s.tb
    let off := (v : Int) - 2 ^ 48
    let loads := v = 0 ∨ x.steer = 1 ∨ (x.ring = true ∧ x.steer = 2)
    (x.changes = .incr v :: cs → s.To .tbIncrEffect fun t => t.tb.changes = cs ∧ t.tb.c = x.c ∧ t.tb.steer = x.steer ∧
      (x.steer ≠ 1 → x.ring = false →
        (t.tb.incr : Int) = max (2 ^ 48 - (2 ^ 35 - 1)) (min (2 ^ 48 + (2 ^ 35 - 1)) v) ∧ t.tb.t = x.t) ∧
      (x.steer ≠ 1 → x.steer ≠ 2 → x.ring = true →
        t.tb.rate = max (-(2 ^ 47 - 1)) (min (2 ^ 47 - 1) (off * 2 ^ 12)) ∧ t.tb.cr = x.c ∧
        t.tb.ofs = ofSigned 96 ((x.ofs : Int) + x.rateTerm)) ∧
      (x.steer = 1 ∨ (x.ring = true ∧ x.steer = 2) → t.tb = { x with changes := cs })) ∧
    (x.changes = .steer v :: cs → s.To .tbSteerEffect fun t => t.tb.changes = cs ∧ t.tb.c = x.c ∧ t.tb.steer = v ∧
      (v = x.steer → t.tb = { x with changes := cs }) ∧
      (v = 1 → x.steer ≠ 1 → t.tb.incr = x.incrInForce.toNat ∧ t.tb.servoWait = true) ∧
      (v = 2 → x.ring = true → t.tb = { x with changes := cs, steer := 2 }) ∧
      (v = 2 → x.ring = false → x.steer = 0 → t.tb = { x with changes := cs, steer := 2 }) ∧
      (v ≠ 1 → x.steer ≠ v → (v = 2 → x.ring = false) → loads → (x.incrInForce - 2 ^ 48).natAbs < 2 ^ 35 →
        t.tb.incr = x.incrInForce.toNat ∧ t.pair W_TB TB_INCR_LO = x.incrInForce.toNat)) ∧
    (x.changes = .mode x.ring :: cs → s.To .tbModeEffect fun t => t = s.setTb { x with changes := cs }) ∧
    (x.changes = .mode true :: cs → x.ring = false → s.To .tbModeEffect fun t =>
      t.tb.ring = true ∧ t.now = s.now ∧ t.tb.c = x.c ∧ t.tb.rate = ((x.incr : Int) - 2 ^ 48) * 2 ^ 12 ∧
      t.tb.epoch = x.epoch ∧ t.evPending (evNo 6 22) = true) ∧
    (x.changes = .mode false :: cs → x.ring = true → s.To .tbModeEffect fun t => t.tb.c = x.c ∧ t.tb.epoch = x.epoch ∧
      t.evPending (evNo 6 22) = true ∧
      (s.now < 2 ^ 48 * 10 ^ 9 * 65536 → t.tb.ring = false ∧ t.now = s.now) ∧
      (2 ^ 48 * 10 ^ 9 * 65536 ≤ s.now → t.tb.ring = true ∧ t.now = s.now ∧ t.flag W_TB TB_MODE_MODE = true))

/-- R199 whole; with it the steps of R197 and the refusals BACKWARD and RINGSTEER of R198. -/
def Obligations.TimebaseSteps : Prop :=
  ∀ (s : State) (r : Req) (v : Word) (a : Int) (cs : List TbChange), s.Ready → r ≠ .i2c → r ≠ .script →
    let x := s.tb
    let fits := x.ring = false ∧ 0 ≤ (x.t : Int) + a * 2 ^ 32 ∧ (x.t : Int) + a * 2 ^ 32 < stdWrap
    let E := fun P => x.changes = .step a :: cs → s.To .tbStepEffect P
    let refused := fun (t : State) (c : Nat) => t.tb = { x with changes := cs } ∧ t.get W_TB TB_STS_CAUSE = c ∧
      t.evPending (evNo 6 21) = true
    (v = 0xb4c5 → s.To (.tbBackenWrite r v) fun t => t.tb = { x with backarm := some ((x.c + secU) % 2 ^ 96) } ∧
      t.Answered r (regAddr W_TB TB_BACKEN) .ok v) ∧
    (v ≠ 0xb4c5 → s.Denied (.tbBackenWrite r v) r true (regAddr W_TB TB_BACKEN) v .wign ∧
      s.To (.tbBackenWrite r v) fun t => t.tb = x) ∧
    (∀ d, x.backarm = some d →
      (s.due d = true → s.To .backarmExpiry fun t => t = s.setTb { x with backarm := none }) ∧
      (s.due d = false → s.To .backarmExpiry (· = s))) ∧
    (a < 0 → x.backarm.isSome = true → x.steer ≠ 2 → fits → E fun t => t.tb.backarm = none) ∧
    (a < 0 → x.backarm.isSome = true → x.steer ≠ 2 → x.ring = true → E fun t => t.tb.backarm = none) ∧
    (a ≠ 0 → x.steer ≠ 2 → (a < 0 → x.backarm.isSome = true) → fits → E fun t =>
      (t.tb.t : Int) = (x.t : Int) + a * 2 ^ 32 ∧ t.tb.c = x.c ∧ t.tb.incr = x.incr ∧
      t.tb.epoch = (x.epoch + 1) % 2 ^ 16 ∧ t.triple W_TB TB_LASTSTEP_W0 = ofSigned 96 a ∧
      t.evPending (evNo 6 20) = true) ∧
    (a < 0 → x.backarm = none → E fun t => refused t 1) ∧
    (0 < a → x.steer = 2 → x.ring = true → E fun t => refused t 3) ∧
    (a = 0 → E fun t => t.tb = { x with changes := cs } ∧ t.regs = s.regs)

/-- R201 to R206, of an ARM that is not also broadcast and a generator that no step has sent back. -/
def Obligations.TimedEvents : Prop :=
  ∀ (s : State) (r : Req) (g : Gen) (v : Word) (p : Cap) (code : Fin 2048) (falling : Bool), s.Ready → r ≠ .i2c →
    let x := s.gen g
    let count := s.tdcCount (22 + p) code
    let o := genOff g
    let at0 := s.instant W_TEV (TEV_G_AT_W0 + o)
    let refused := s.flag W_TEV TEV_CTL_ENABLE = false ∨ x.phase ≠ .idle ∨ s.tdiff at0 s.now < 200 * 65536
    let A := fun P => v.getLsbD 1 = false → (v.getLsbD 2 = false ∨ s.glMayBroadcast = false) → s.To (.tevArm r g v) P
    let due := x.phase ≠ .idle ∧ x.firedAt ≠ some s.tb.c ∧ s.tdiff (s.genInstant g) s.now ≤ 0
    let takes := s.flag W_TEV (TEV_CAP_CFG_EN.up (capOff p)) = true ∧
      capTakes (s.get W_TEV (TEV_CAP_CFG_EDGE.up (capOff p))) falling = true
    let lost := (∃ c, (s.capSt p).lastEdge = some c ∧ signedDiff 96 count c < 20 * 65536) ∨ 16 ≤ (s.capSt p).fifo.length
    (refused → A fun t => t.gen g = x ∧ t.evPending (evNo 9 26) = true) ∧
    (¬ refused → A fun t => (t.gen g).phase = .armed ∧ (t.gen g).t0 = at0 ∧ (t.gen g).label = 0 ∧
      (t.gen g).per = max 6553600 (s.pair W_TEV (TEV_G_PER_LO + o)) ∧
      (t.gen g).periodic = s.flag W_TEV (TEV_G_CFG_KIND.up o)) ∧
    (v.getLsbD 0 = false → s.To (.tevDisarm r g v) fun t => t.gen g = { x with phase := .idle }) ∧
    (s.flag W_TEV TEV_CTL_ENABLE = true → s.To (.tevDisable r v) fun t => t.flag W_TEV TEV_CTL_ENABLE = false ∧
      ∀ j, j < 16 → (t.gen j).phase = .idle) ∧
    (due → x.replayTo < 0 → s.To (.timedEventFiring g) fun t =>
      t.triple W_TEV (TEV_G_LAST_W0 + o) = fmtTime s.tb.ring (s.genInstant g) % 2 ^ 96 ∧
      t.pair W_TEV (TEV_G_LABEL_LO + o) = x.label % 2 ^ 64 ∧
      t.rn W_TEV (TEV_G_COUNT + o) = (s.rn W_TEV (TEV_G_COUNT + o) + 1) % 2 ^ 32 ∧ t.evPending (evNo 9 g) = true ∧
      (t.gen g).phase = (if x.periodic then .run else .idle) ∧ (t.gen g).label = x.label + 1 ∧ (t.gen g).late = false ∧
      (t.gen g).firedAt = some s.tb.c) ∧
    (¬ due → s.To (.timedEventFiring g) (· = s)) ∧
    (∀ d, lget none s.tev.pins p = some d → s.due d = true → s.To (.tevPinPulseEnd p) fun t =>
      lget none t.tev.pins p = none ∧ t.regs = s.regs) ∧
    (takes → ¬ lost → s.To (.capture p code falling) fun t =>
      t.triple W_TEV (TEV_CAP_LAST_W0 + capOff p) = fmtTime s.tb.ring (s.tdcStamp (22 + p) code) % 2 ^ 96 ∧
      (t.capSt p).lastEdge = some count ∧ (t.capSt p).fifo.length = (s.capSt p).fifo.length + 1 ∧
      t.evPending (evNo 9 (16 + p)) = true) ∧
    (takes → lost → s.To (.capture p code falling) fun t => t.capSt p = s.capSt p ∧ t.evPending (evNo 9 27) = true ∧
      t.rn W_TEV (TEV_CAP_LOST + 4 * p) = (s.rn W_TEV (TEV_CAP_LOST + 4 * p) + 1) % 2 ^ 32) ∧
    (¬ takes → s.To (.capture p code falling) (· = s))

/-- R208 to R210. -/
def Obligations.Snapshots : Prop :=
  ∀ (s : State) (r : Req) (v : Word) (code : Fin 2048) (falling : Bool), s.Ready → r ≠ .i2c →
    let held := s.flag W_SNAP SNAP_INFO_HELD
    let at0 := s.instant W_SNAP SNAP_RINGAT_W0
    (s.flag W_SNAP SNAP_CTL_PIN = true → falling = s.flag W_SNAP SNAP_CTL_PINEDGE → s.To (.snapInEdge code falling) fun t =>
      t.tev.triggers = s.tev.triggers ++ [(s.tb.c, 1)] ∧
      (held = false → t.triple W_SNAP SNAP_PIN_W0 = fmtTime s.tb.ring (s.tdcStamp 31 code) % 2 ^ 96) ∧ (held = true → t.regs = s.regs)) ∧
    (s.flag W_SNAP SNAP_CTL_PIN = false ∨ falling ≠ s.flag W_SNAP SNAP_CTL_PINEDGE →
      s.To (.snapInEdge code falling) (· = s)) ∧
    (∀ c m, s.tev.triggers = [(c, m)] →
      (held = false → s.To .snapshotTrigger fun t => t.tev.triggers = [] ∧
        t.triple W_TB TB_SNAP_COUNT_W0 = s.tb.c ∧ t.triple W_SNAP SNAP_STAMP_W0 = fmtTime s.tb.ring s.now % 2 ^ 96 ∧
        (∀ n, n < 4 → t.rn (wDpll n) DPLL_SNAP_STATE = s.view (wDpll n) DPLL_STATE) ∧
        t.get W_SNAP SNAP_INFO_CAUSE = m % 2 ^ SNAP_INFO_CAUSE.width ∧
        t.get W_SNAP SNAP_INFO_SEQ = (s.get W_SNAP SNAP_INFO_SEQ + 1) % 2 ^ SNAP_INFO_SEQ.width ∧
        t.flag W_SNAP SNAP_INFO_HELD = (s.flag W_SNAP SNAP_HOLD_HOLD || (s.flag W_SNAP SNAP_HOLD_FLTHOLD && bitOf m 2)) ∧
        t.evPending (evNo 0 28) = true) ∧
      (held = true → s.To .snapshotTrigger fun t => t.tev.triggers = [] ∧
        t.rn W_SNAP SNAP_MISSED = (s.rn W_SNAP SNAP_MISSED + 1) % 2 ^ 32 ∧
        t.triple W_SNAP SNAP_STAMP_W0 = s.triple W_SNAP SNAP_STAMP_W0 ∧ t.evPending (evNo 0 29) = true)) ∧
    (v.getLsbD 1 = false → s.To (.snapRelease r v) fun t => t.flag W_SNAP SNAP_INFO_HELD = false) ∧
    (v.getLsbD 0 = false →
      (s.glMayBroadcast = false → s.To (.snapRinggo r v) fun t => t.regs = s.regs ∧ t.tev = s.tev) ∧
      (s.glMayBroadcast = true → s.tdiff at0 s.now < 20 * usU → s.To (.snapRinggo r v) fun t => t.tev = s.tev ∧
        t.evPending (evNo 0 30) = true) ∧
      (s.glMayBroadcast = true → 20 * usU ≤ s.tdiff at0 s.now → s.gl.tq.length < 16 → s.flag W_SNAP SNAP_CTL_RING = true →
        s.To (.snapRinggo r v) fun t => t.tev.ringAt = some at0)) ∧
    (∀ d, s.tev.ringAt = some d → s.tdiff d s.now ≤ 0 → s.flag W_SNAP SNAP_CTL_RING = true → s.To .ringSnapshot fun t =>
      t.tev.ringAt = none ∧ t.tev.triggers = s.tev.triggers ++ [(s.tb.c, 16)])

/-- R217 to R228 at port n; the classification of R218 is State.classify. -/
def Obligations.PtpFrames : Prop :=
  ∀ (s : State) (n : Port) (link hiber lock udp fcs : Bool) (f : List Byte) (h time cor unc : Nat), s.Ready →
    let w := wEth n
    let p := wPtp n
    let x := s.ptp n
    let ev := fun (t : State) b => t.evPending (evNo (10 + n) b) = true
    let up := fun (t : State) q off => t.rn q off = (s.rn q off + 1) % 2 ^ 32
    let live := s.ethOn n = true ∧ s.ethLink n = true
    let rx := fun P => live → s.To (.ethFrameRx n f fcs time cor unc) P
    let bad := fcs = false ∨ 254 < f.length
    let ptp := s.classify n f = .ptp h udp
    let q := s.get p PTP_QCFG_RXQ
    let tq := s.get p PTP_QCFG_TXQ
    (s.ethOn n = true → s.To (.ethLinkChange n link hiber lock) fun t => t.ethLink n = link ∧
      t.flag w ETH_STATE_HIBER = hiber ∧ (s.ethLink n ≠ link → ev t 0) ∧
      (s.ethLink n = true → link = false → t.qstate (16 + n) ≤ 1 ∧ (t.src (16 + n)).bucket = s.actLim (16 + n))) ∧
    (s.ethOn n = false → s.To (.ethLinkChange n link hiber lock) (· = s)) ∧
    rx (fun t => t.rn w ETH_FECCOR = (s.rn w ETH_FECCOR + cor) % 2 ^ 32 ∧ t.rn w ETH_FECUNC = (s.rn w ETH_FECUNC + unc) % 2 ^ 32) ∧
    (ptp ∨ s.classify n f = .esmc → bad → rx fun t => up t w ETH_DROPCNT ∧ t.rn w ETH_RXCNT = s.rn w ETH_RXCNT ∧ ev t 2 ∧
      t.mem = s.mem ∧ (t.ptp n).rxIdx = x.rxIdx) ∧
    (ptp ∨ s.classify n f = .esmc → ¬ bad → rx fun t => up t w ETH_RXCNT ∧ t.rn w ETH_DROPCNT = s.rn w ETH_DROPCNT ∧
      (s.ptpOn n = false → t.mem = s.mem ∧ (t.ptp n).rxIdx = x.rxIdx)) ∧
    (ptp ∨ s.classify n f = .esmc → ¬ bad → s.ptpOn n = true → isEventMsg f h = false ∨ x.rxEv < 128 ∨ ¬ ptp → rx fun t =>
      (t.ptp n).rxIdx = (x.rxIdx + 1) % 64 ∧ (ptp → ev t 8 ∧ (isEventMsg f h = true → (t.ptp n).rxEv = x.rxEv + 1 ∧ up t p PTP_RXEVCNT)) ∧
      (s.qEnabled q = false ∨ s.qFull q = true → up t p PTP_QDROP ∧
        t.bytes (s.ptpBuf n + 256 * x.rxIdx) (2 + f.length) = leBytes 2 f.length ++ f) ∧
      (s.qEnabled q = true → s.qFull q = false → (t.queue q).fill = (s.queue q).fill + 1)) ∧
    (ptp → ¬ bad → s.ptpOn n = true → isEventMsg f h = true → 128 ≤ x.rxEv → rx fun t => up t p PTP_RATECNT ∧ ev t 14 ∧
      t.mem = s.mem ∧ (t.ptp n).rxIdx = x.rxIdx) ∧
    (s.classify n f = .other → rx fun t => t.mem = s.mem ∧
      (s.forwarding = true → up t w ETH_FWDCNT ∧ t.out.getLast? = some (.frame (1 - n.val) f)) ∧
      (s.forwarding = false → up t w ETH_DROPCNT)) ∧
    (¬ live → s.To (.ethFrameRx n f fcs time cor unc) (· = s)) ∧
    (s.gridDue secU x.winIdx = true → s.To (.eventRateWindow n) fun t => (t.ptp n).rxEv = 0 ∧ (t.ptp n).txEv = 0 ∧ t.regs = s.regs) ∧
    (s.gridDue secU x.winIdx = false → s.To (.eventRateWindow n) (· = s)) ∧
    (s.ptpOn n = true → s.qEnabled tq = true → s.qEmpty tq = false →
      let d := (s.qPop tq).2.txDesc (s.qPop tq).1
      s.To (.ptpTxDescriptor n) fun t => (d.event = false ∨ x.txEv < 128 → (t.ptp n).txs = x.txs ++ [d]) ∧
        (d.event = true → 128 ≤ x.txEv → (t.ptp n).txs = x.txs ∧ ev t 9)) ∧
    (s.ptpOn n = false ∨ s.qEmpty tq = true → s.To (.ptpTxDescriptor n) (· = s)) ∧
    (∀ y, s.txFirst x.txs = some y →
      (live → s.ptpOn n = true → s.To (.ptpFrameTx n time) fun t => (t.ptp n).txs = y.2 ∧
        (y.1.oneStep = false →
          (t.out.drop s.out.length).contains (.frame n (s.txTag n (s.txFrame n y.1.buf).1)) = true) ∧
        (y.1.event = true → up t p PTP_TXEVCNT ∧ ev t 9))) ∧
    (∀ y, s.txLate x.txs = some y → s.inline n = true → s.To (.originatedFrameTimeout n) fun t => (t.ptp n).txs = y.2 ∧
      s.txExpired y.1 = true ∧ up t w ETH_TXDROPCNT ∧ ev t 3 ∧ ev t 9) ∧
    (s.inline n = false ∨ s.txLate x.txs = none → s.To (.originatedFrameTimeout n) (· = s))

/-- R224 to R238 of PTP engine n; PATHST is 0 none, 1 hold, 2 rejected. -/
def Obligations.PtpServo : Prop :=
  ∀ (s : State) (r : Req) (n : Port) (v : Word) (d : Nat), s.Ready → r ≠ .i2c → r ≠ .script →
    let p := wPtp n
    let x := s.ptp n
    let e := Req.eng (9 + n)
    let ev := fun (t : State) b => t.evPending (evNo (10 + n) b) = true
    let o := toSigned 64 (s.stagedVal e p PTP_OFS_LO + v.toNat * 2 ^ 32)
    let off := fun P => s.ptpOn n = true → s.To (.ptpOffsetCommit e n v) P
    let fits := s.stagedVal e p PTP_OFSEP % 2 ^ 16 = s.tb.epoch ∧ s.slave n = true
    let path := fun (a b c g : Bool) =>
      let p1 := if a then 1 else s.pathSt n
      let p2 := if b then 0 else p1
      let p3 := if c = true ∧ p2 = 1 then 2 else p2
      if g then 0 else p3
    let srvOk := v.getLsbD 1 = false ∨ s.srvEn n = true ∨ s.srvRefused n = false
    let held := s.vsrcEn n = true ∧ s.slave n = true ∧ s.flag p PTP_STATE_SRCHELD = true ∧
      s.due ((x.sampleAt + x.interval) % 2 ^ 96) = true
    (s.ptpOn n = false → s.ptpEnableRefused n = true → s.To (.ptpEnable r n v) fun t => t.ptpOn n = false ∧
      bitOf (t.rn p PTP_STS) 9 = true ∧ t.Answered r (regAddr p PTP_CTL) .wign (v ||| 1)) ∧
    (s.ptpOn n = false → s.ptpEnableRefused n = false → srvOk → s.To (.ptpEnable r n v) fun t => t.ptpOn n = true ∧
      t.get W_DMA (DMA_QCFG_CONS.up (qOff (s.get p PTP_QCFG_TXQ))) = 3 ∧ t.Answered r (regAddr p PTP_CTL) .ok (v ||| 1)) ∧
    (s.ptpOn n = true ∨ v.getLsbD 0 = false ∨ s.ptpEnableRefused n = false →
      (¬ srvOk → s.To (.ptpSrvenWrite r n v) fun t => t.rn p PTP_CTL = s.rn p PTP_CTL ∧ ev t 16) ∧
      (srvOk → s.To (.ptpSrvenWrite r n v) fun t => t.rn p PTP_CTL = v.toNat ∧
        (s.srvEn n = true → v.getLsbD 1 = false → s.safe = false → t.pair W_TB TB_SRVW_LO % 2 ^ 48 = 0))) ∧
    s.To (.ptpPstateWrite (.eng 0) n v) (fun t => t.rn p PTP_PSTATE = v.toNat) ∧
    (s.stagedVal e p PTP_OFSEP % 2 ^ 16 ≠ s.tb.epoch → off fun t => ev t 15 ∧ t.ptp n = x ∧
      t.rn p PTP_EPDROP = (s.rn p PTP_EPDROP + 1) % 2 ^ 32) ∧
    (fits → s.srvStep n < o.natAbs → off fun t => t.stepPend n = true ∧ t.triple p PTP_STEPAMT_W0 = ofSigned 96 (-o) ∧
      (t.ptp n).heldOfs = x.heldOfs ∧ (t.ptp n).i = x.i ∧ (s.stepPend n = false → ev t 10 ∧ (t.ptp n).p = 0)) ∧
    (fits → o.natAbs ≤ s.srvStep n → s.pathSt n ≠ 1 → off fun t => t.stepPend n = false ∧ (t.ptp n).heldOfs = o ∧
      (t.ptp n).lastAt = some s.tb.c ∧ (s.srvEn n = true → s.tb.steer = 1 → s.safe = false →
        -(s.flim 3) ≤ toSigned 48 (t.pair W_TB TB_SRVW_LO) ∧ toSigned 48 (t.pair W_TB TB_SRVW_LO) ≤ s.flim 3)) ∧
    s.To (.ptpPathhold r n v) (fun t => t.pathSt n = path true (v.getLsbD 1) (v.getLsbD 2) (v.getLsbD 4) ∧
      (s.pathSt n ≠ 1 → ev t 11 ∧ (t.ptp n).p = 0 ∧ (v.toNat % 32 / 2 = 0 → (t.ptp n).pathEnd = some (s.after (s.pathHoldU n))))) ∧
    s.To (.ptpPathaccept r n v) (fun t => t.pathSt n = path (v.getLsbD 0) true (v.getLsbD 2) (v.getLsbD 4)) ∧
    s.To (.ptpPathreject r n v) (fun t => t.pathSt n = path (v.getLsbD 0) (v.getLsbD 1) true (v.getLsbD 4)) ∧
    s.To (.ptpParentchg r n v) (fun t => t.pathSt n = path (v.getLsbD 0) (v.getLsbD 1) (v.getLsbD 2) (v.getLsbD 4) ∧
      (t.ptp n).p = 0 ∧ ev t 13 ∧ (v.getLsbD 4 = false → (t.ptp n).i = x.i)) ∧
    s.To (.ptpSrvreset r n v) (fun t => t.pathSt n = 0 ∧ (t.ptp n).i = 0) ∧
    (x.pathEnd = some d → s.pathSt n = 1 → x.pathTo = false →
      (s.due d = true → s.To (.pathHoldTimeout n) fun t => ev t 12 ∧ t.pathSt n = 1 ∧ t.ptp n = { x with pathTo := true }) ∧
      (s.due d = false → s.To (.pathHoldTimeout n) (· = s))) ∧
    (held → s.To (.heldOffsetSample n) fun t => t.ptp n = { x with sampleAt := s.tb.c }) ∧
    (¬ held → s.To (.heldOffsetSample n) (· = s))

/-- R241 to R246. -/
def Obligations.SyncEAndTimeOfDay : Prop :=
  ∀ (s : State) (p : Port) (v : Word) (bs : List Byte) (framing : Bool) (start secs cause d : Nat), s.Ready →
    let old := s.get W_SYE (rxqlField p)
    let essm := if v.getLsbD 16 then some (bitsOf v.toNat 8 8) else none
    let rank := rankOf (s.flag W_SYE SYE_CFG_NET) (v.toNat % 16) essm
    let ev := fun (t : State) b => t.evPending (evNo 12 b) = true
    let S := fun P => s.To (.syeRxssmWrite (.eng (9 + p)) p v) P
    let M := fun P => s.flag W_UART UART_CTL_RXEN = true → s.To (.uartMessage bs framing start) P
    let err := fun (t : State) (c : Nat) => t.rn W_UART UART_ERRCNT = (s.rn W_UART UART_ERRCNT + 1) % 2 ^ 32 ∧
      t.get W_UART UART_STS_CAUSE = c ∧ ev t 17
    let parsed := if s.flag W_UART UART_CFG_PROTO then parseBinary bs else parseNmea bs (toSigned 16 (s.get W_UART UART_LEAP_V))
    let sec := s.now / secU
    let met := s.tod.msgs.find? (fun m => (s.todNextEdge m.stop).isSome)
    let late := s.tod.msgs.find? (fun m => s.due ((m.stop + 990 * msU) % 2 ^ 96) && (s.todNextEdge m.stop).isNone)
    let go := s.flag W_UART UART_CTL_TXEN = true ∧ s.txDly ≤ s.now % secU ∧ s.tod.txSec ≠ some sec ∧ s.tod.txBytes = none
    (bitOf (s.rn W_SYE SYE_CTL) p = false → S fun t => t.rn W_SYE (SYE_RXSSM0 + 4 * p) = v.toNat ∧
      t.get W_SYE (rxqlField p) = old ∧ t.tod = s.tod) ∧
    (bitOf (s.rn W_SYE SYE_CTL) p = true → S fun t => t.get W_SYE (rxqlField p) = rank.getD 14 ∧
      lget none t.tod.esmcEnd p = some (s.after (5 * secU)) ∧ (rank.getD 14 ≠ old → ev t p) ∧ (rank = none → ev t 5)) ∧
    (lget none s.tod.esmcEnd p = some d →
      (s.due d = true → s.To (.esmcTimeout p) fun t => t.get W_SYE (rxqlField p) = 15 ∧ lget none t.tod.esmcEnd p = none ∧
        ev t (2 + p)) ∧
      (s.due d = false → s.To (.esmcTimeout p) (· = s))) ∧
    (s.gridDue secU s.tod.esmcIdx = true → s.To .esmcTick fun t => ∀ j, j < 2 →
      bitsOf (t.rn W_SYE SYE_TXQL) (16 * j) 16 = s.syeTxWord j ∧
      (bitOf (s.rn W_SYE SYE_CTL) (2 + j) = true → (t.eng (9 + j)).pend.any (fun e => e.1 == 0) = true)) ∧
    (s.gridDue secU s.tod.esmcIdx = false → s.To .esmcTick (· = s)) ∧
    (framing = true → M fun t => err t 0 ∧ t.tod = s.tod) ∧
    (framing = false → parsed = .err cause → M fun t => err t cause ∧ t.tod = s.tod) ∧
    (framing = false → parsed = .secs secs → M fun t => t.pair W_UART UART_TODSEC_LO = secs % 2 ^ 48 ∧
      (s.flag W_UART UART_CFG_TODREF = true → t.tod.msgs = s.tod.msgs ++ [⟨secs, s.tb.c⟩])) ∧
    (s.flag W_UART UART_CTL_RXEN = false → s.To (.uartMessage bs framing start) (· = s)) ∧
    (∀ m, met = some m → ∀ y, s.todNextEdge m.stop = some y → s.To .uartTodAssociation fun t =>
      t.tod.msgs = s.tod.msgs.erase m ∧ ev t 16 ∧ t.triple W_UART UART_PPS_W0 = fmtTime s.tb.ring y.2 % 2 ^ 96 ∧
      (m.secs = (2 * y.2 + secU) / (2 * secU) → t.rn W_UART UART_SECDIFF = 0) ∧
      (m.secs ≠ (2 * y.2 + secU) / (2 * secU) → ev t 18)) ∧
    (met = none → s.To .uartTodAssociation (· = s)) ∧
    (∀ m, late = some m → s.To .todAssociationTimeout fun t => err t 3 ∧ t.tod.msgs = s.tod.msgs.erase m) ∧
    (late = none → s.To .todAssociationTimeout (· = s)) ∧
    (go → s.To .uartTxStart fun t => t.tod.txSec = some sec ∧ t.tod.txBytes = some (s.todBytes sec) ∧ t.regs = s.regs) ∧
    (¬ go → s.To .uartTxStart (· = s)) ∧
    (∀ b, s.tod.txBytes = some b → s.To .uartTxEnd fun t => t.tod.txBytes = none ∧ ev t 19 ∧
      (t.out.drop s.out.length).contains (.todByte b) = true) ∧
    (s.tod.txBytes = none → s.To .uartTxEnd (· = s))

/-- R264, R272 to R274 (news of hops: log entry 61); RSTATE 0 none, 1 forming, 2 closed, 3 open, 4 isolated; LINK 0 down, 2 up, 3 measuring. -/
def Obligations.RingFormation : Prop :=
  ∀ (s : State) (r : Req) (p : Port) (v : Word) (d : Nat), s.Ready → r ≠ .i2c →
    let x := s.glPort p
    let ev := fun (t : State) b => t.evPending (evNo 15 (16 + b)) = true
    let hop := s.glHopOf p
    let joinsHere := s.glNext p == 0 && !s.glAnchor
    let leads := s.glOn = true ∧ s.glAnchor = true
    let hold := s.flag W_GL GL_STATE_ALIGNHOLD
    let long := x.downAt = some d ∧ (s.linkFlt : Int) ≤ signedDiff 96 s.tb.c d
    let broke := s.glOn = true ∧ 2 ≤ s.rstate ∧ s.glLink p < 2 ∧ x.everUp = true ∧ s.flag W_GL (linkBadFld p) = false
    let ids := [s.glId] ++ s.gl.discDn ++ s.gl.discUp.reverse
    let waits := leads ∧ s.rstate = 1 ∧ s.gl.okSince = some d
    (leads → s.To (.glForm r v) fun t => t.rstate = 1 ∧ (s.rstate ≠ 1 → ev t 0) ∧ t.gl.discDn = [] ∧ t.gl.discUp = [] ∧
      (v.getLsbD 1 = false → t.gl.okSince = some s.tb.c)) ∧
    (¬ leads → s.To (.glForm r v) fun t => t.rstate = s.rstate ∧ (v.getLsbD 1 = false → t.gl = s.gl)) ∧
    s.To (.glRejoin r v) (fun t => t.flag W_GL GL_STATE_ALIGNHOLD = false ∧
      (hold = true → t.flag W_GL GL_STATE_JOINED = false ∧ t.flag W_GL GL_STATE_ALIGNED = false ∧ t.pair W_GL GL_OFS_LO = 2 ^ 63) ∧
      (hold = false → t.flag W_GL GL_STATE_JOINED = s.flag W_GL GL_STATE_JOINED)) ∧
    (s.glOn = true → s.glUp p = false → s.To (.glPortUp p) fun t => t.glLink p = 3 ∧ ev t 1 ∧
      t.glPort p = { x with downAt := none, everUp := true, bad := [], measEnd := some (s.after secU) } ∧
      t.flag W_GL (linkBadFld p) = false ∧ (s.stockSup = false → t.rstate = s.rstate)) ∧
    (s.glOn = false ∨ s.glUp p = true → s.To (.glPortUp p) (· = s)) ∧
    (s.glLink p = 3 → x.measEnd = some d →
      (s.due d = true → s.To (.glMeasuringEnd p) fun t => t.glLink p = 2 ∧ (t.glPort p).measEnd = none ∧ ev t 1 ∧
        (2 ≤ s.rstate → s.gl.broken = 2 ^ hop → joinsHere = false → t.rstate = 2 ∧ t.gl.broken = 0) ∧
        (2 ≤ s.rstate → joinsHere = true → t.rstate = s.rstate ∧ t.gl.broken = s.gl.broken)) ∧
      (s.due d = false → s.To (.glMeasuringEnd p) (· = s))) ∧
    (s.glOn = true → s.To (.glPortDown p) fun t => t.glLink p = 0 ∧ (2 ≤ s.glLink p →
      (t.glPort p).downAt = some s.tb.c ∧ (t.glPort p).est = none ∧ t.rn W_GL (GL_HOPA + 4 * p) = 2 ^ 32 - 1 ∧
      (s.rstate < 2 → t.rstate = s.rstate) ∧
      (2 ≤ s.rstate → bitOf t.gl.broken hop = true ∧ (t.rstate = 3 ∨ t.rstate = 4) ∧
        (t.rstate = 4 → s.rstate ≠ 4 → t.flag W_GL GL_STATE_JOINED = false)))) ∧
    (s.glOn = false → s.To (.glPortDown p) (· = s)) ∧
    (broke → long → s.To (.glLinkFault p) fun t => t.flag W_GL (linkBadFld p) = true ∧ bitOf (t.rn W_GL GL_STS) 11 = true ∧
      t.flt.msgs = s.flt.msgs ++ [⟨W_GL, K_GL_LINK, regAddr W_GL (GL_PORTA + glPortReg p), false⟩]) ∧
    (¬ broke ∨ x.downAt = none → s.To (.glLinkFault p) (· = s)) ∧
    (waits → s.due ((d + 50 * usU) % 2 ^ 96) = true →
      (ids.eraseDups.length = ids.length → ids.all (fun i => decide (i < 8)) = true → s.To .discReturnDeadline fun t =>
        t.rstate = 3 ∧ t.get W_GL GL_STATE_NMEM = ids.length ∧ t.get W_GL GL_STATE_HOPS = 0 ∧
        t.gl.broken = 2 ^ s.gl.discDn.length ∧ t.gl.tokens = [some (s.tb.c, 0), some (s.tb.c, 0)] ∧
        ∀ i, i < 8 → bitOf (t.get W_GL GL_MEMBERS_PRESENT) i = ids.contains i) ∧
      (ids.eraseDups.length < ids.length → s.To .discReturnDeadline fun t => t.rstate = 0 ∧ ev t 4)) ∧
    (waits → s.due ((d + 50 * usU) % 2 ^ 96) = false → s.To .discReturnDeadline (· = s))

/-- R256 to R279; the broadcast record is the first copy of its SEQ. Of the tunnel, accesses at PCIe. -/
def Obligations.RingTraffic : Prop :=
  ∀ (s : State) (r : Req) (p : Port) (v : Word) (a d k m : Nat) (h : Word64) (pl : List Byte) (arr : Nat) (wr : Option Word)
    (tau : Option Nat) (gam : Int), s.Ready → r ≠ .i2c →
    let ev := fun (t : State) b => t.evPending (evNo 15 (16 + b)) = true
    let n := h.toNat
    let live := s.glOn = true ∧ s.glUp p = true
    let good := cellGood n pl
    let C := fun P => live → s.To (.glCellRx p h pl arr) P
    let near := (s.glPort p).bad.filter (fun c => s.within c msU)
    let keep := s.glOthers n
    let crc := if p.val = 0 then GL_CRCERR_A else GL_CRCERR_B
    let starts := s.glOn = true ∧ s.glUp 0 = true ∧ s.gl.initAt = some d
    let joins := s.flag W_GL GL_STATE_JOINED = true ∧ s.flag W_GL GL_STATE_ALIGNED = false ∧ s.gl.okSince = some d
    let ranges := s.glOn = true ∧ s.flag W_GL GL_CTL_LRANGE = true
    let makes := fun j => s.glOn = true ∧ s.glAnchor = true ∧ s.formed = true ∧ s.glTokenOf j = none ∧
      s.due ((lget 0 s.gl.tokSeen j + msU) % 2 ^ 96) = true
    let tokEnd := s.due ((d + max 1 (s.get W_GL GL_CFG_TOKMAX) * usU) % 2 ^ 96)
    let busy := 4 ≤ s.tunCount m ∨ s.gl.tunWait.any (fun y => y.member == m) = true
    let T := fun P => s.To (.tunnelledAccess .pcie a wr) P
    (good = false → s.glOn = true → s.glLink p ≠ 0 → s.To (.glCellRx p h pl arr) fun t => t.get W_GL crc = (s.get W_GL crc + 1) % 2 ^ 16 ∧
      (near.length < 15 ∨ s.glUp p = false → t = { s with regs := t.regs, par := t.par, gl := t.gl } ∧ (t.glPort p).bad = s.tb.c :: near ∧
        t.glLink p = s.glLink p) ∧
      (15 ≤ near.length → s.glUp p = true → t.glLink p = 0)) ∧
    (good = true → hopLocal n pl = false → hBcast n = false → hDst n ≠ s.glId → hCls n ≠ GL_IDLE → s.glUp (1 - p.val) = true →
      C fun t => (t.gl.tx.filter (fun y => y.fwd)).getLast? =
          some ⟨1 - p.val, glHeader (hCls n) false (hSrc n) (hDst n) (hSeq n) (if keep then hCrdst n else 0)
            (if keep then hCrcnt n else 0), pl.take 64, true, none⟩ ∧
        t.gl.tx.filter (fun y => !y.fwd) = s.gl.tx.filter (fun y => !y.fwd) ∧ t.out = s.out ∧ t.mem = s.mem) ∧
    (good = true → hToken n = true → hCls n = GL_IDLE → hBcast n = false → C fun t =>
      t.glTokenOf (1 - p.val) = some (s.tb.c, 0)) ∧
    (good = true → hBcast n = true → hCls n = GL_FAULT → hSrc n ≠ s.glId → s.glFresh n = true → s.formed = true → C fun t =>
      t.pair W_GL GL_RFLT_W0 = numAt pl 0 8 ∧ t.pair W_GL GL_RFLT_W2 = numAt pl 8 8 ∧
      t.get W_GL GL_RFMEM_MEMBER = hSrc n ∧ ev t 6) ∧
    (good = true → C fun t => t.tb.c = s.tb.c) ∧
    (s.glOn = false ∨ s.glLink p = 0 ∨ (good = true ∧ s.glUp p = false) → s.To (.glCellRx p h pl arr) (· = s)) ∧
    (starts → s.due ((d + msU) % 2 ^ 96) = true → s.To .glTimeInitiation fun t => t.gl.initAt = some s.tb.c ∧
      t.gl.tx = ⟨0, glHeader GL_TIME false s.glId 0 (lget 0 s.gl.seqs GL_TIME) 0 0, [], true, some (true, 0)⟩ :: s.gl.tx ∧
      t.out = s.out) ∧
    (starts → s.due ((d + msU) % 2 ^ 96) = false → s.To .glTimeInitiation (· = s)) ∧
    (joins → (secU : Int) ≤ signedDiff 96 s.tb.c d → s.To .glAlignedCheck fun t =>
      t.flag W_GL GL_STATE_ALIGNED = true ∧ ev t 2) ∧
    (joins → signedDiff 96 s.tb.c d < (secU : Int) → s.To .glAlignedCheck (· = s)) ∧
    (ranges → s.To (.glLaneRangingResult p tau gam) fun t =>
      t.get W_GL (GL_PORTA_LRSTAT.up (glPortReg p)) = (echoClass tau gam).code ∧
      t.rn W_GL (GL_LANEA + 4 * p) = if echoClass tau gam = .ok then tau.getD 0 % 2 ^ 32 else 2 ^ 32 - 1) ∧
    (¬ ranges → s.To (.glLaneRangingResult p tau gam) (· = s)) ∧
    s.To .glTokenRegen (fun t => ∀ j, j < 2 → t.glTokenOf j = if makes j then some (s.tb.c, 0) else s.glTokenOf j) ∧
    (s.glTokenOf p = some (d, k) →
      (tokEnd = true → s.To (.glTokenHoldEnd p) fun t => t.glTokenLeaves p = true ∧ t.gl.tx = s.gl.tx ∧ t.regs = s.regs) ∧
      (tokEnd = false → s.To (.glTokenHoldEnd p) (· = s))) ∧
    (s.gl.rankAt = some d →
      (s.due ((d + 10 * msU) % 2 ^ 96) = true → s.To .src20RankTimeout fun t => t.gl.rank = 15 ∧ t.gl.rankAt = none) ∧
      (s.due ((d + 10 * msU) % 2 ^ 96) = false → s.To .src20RankTimeout (· = s))) ∧
    (s.gangTo .pcie a = .member m → s.glReaches m = true →
      (a % 4 ≠ 0 → s.Denied (.tunnelledAccess .pcie a wr) .pcie wr.isSome a (wr.getD ones) .align) ∧
      (a % 4 = 0 → ¬ busy → T fun t =>
        t.gl.tun = s.gl.tun ++ [⟨m, .pcie, a, 15, wr, s.gl.tag, s.after (200 * usU)⟩] ∧ t.gl.tag = (s.gl.tag + 1) % 256) ∧
      (a % 4 = 0 → busy → T fun t => t = s.setGl { s.gl with tunWait := s.gl.tunWait ++ [⟨m, .pcie, a, 15, wr, 0, 0⟩] })) ∧
    (s.gangTo .pcie a = .absent m → a % 4 = 0 → m < 8 → T fun t => t.Answered .pcie a .ok (wr.getD ones) ∧ ev t 5 ∧
      t.get W_GL GL_STS_ABSMEM = m ∧ t.gl = s.gl) ∧
    (∀ x, s.gl.tunWait.find? (fun y => decide (s.tunCount y.member < 4)) = some x → s.glReaches x.member = true →
      s.To .tunnelIssue fun t => t.gl.tunWait = s.gl.tunWait.erase x ∧
        t.gl.tun = s.gl.tun ++ [{ x with tag := s.gl.tag, due := s.after (200 * usU) }]) ∧
    (∀ x, s.gl.tun.find? (fun y => s.due y.due) = some x → s.To .tunnelTimeout fun t => t.gl.tun = s.gl.tun.erase x ∧
      t.flt.msgs = s.flt.msgs ++ [⟨bitsOf x.addr 14 8, K_ACC_TIMEOUT, x.addr % 2 ^ 25, false⟩] ∧
      (x.req = .pcie → t.Answered x.req x.addr .timeout (x.val.getD ones))) ∧
    (s.gl.tun.find? (fun y => s.due y.due) = none → s.To .tunnelTimeout (· = s)) ∧
    (∀ kind : SlotKind, ∀ x, s.glWaiting kind p false = some x → x.time = none →
      (s.glSlot kind p).out = s.out ++ [.glCell x.port (glSeal x.header (s.glTokenLeaves p)) x.payload] ∧
      (s.glSlot kind p).gl.tx = s.gl.tx.erase x ∧
      (s.glSlot kind p).glTokenOf p = if s.glTokenLeaves p then none else s.glTokenOf p) ∧
    s.To (.gangEnable r v) (fun t => t.flag W_GL GL_GANG_GANG =
      (s.flag W_GL GL_GANG_GANG || (s.formed && !s.guarded W_GL GL_GANG)))

/-- R310, R315 to R317; LOAD's checks of an image in memory are those of R310 as State.ldrVerdict lists them. -/
def Obligations.LoaderAndEngineCommands : Prop :=
  ∀ (s : State) (r : Req) (k : EngId) (v : Word), s.Ready → r ≠ .i2c →
    let x := s.eng k
    let l := s.ldr
    let n := bitsOf v.toNat 4 4
    let src := bitsOf v.toNat 2 2
    let ev := fun (t : State) b => t.evPending (evNo 15 b) = true
    let refused := fun (t : State) (c : Nat) => t.get W_ENG ENG_LDRSTS_REASON = c ∧ t.flag W_ENG ENG_LDRSTS_REJECT = true ∧ ev t 1
    let y := s.eng l.target
    let busy := y.st = .waitq ∨ (l.target ≠ 0 ∧ y.st = .busy)
    let m := W_ENG + l.target
    let acts := x.st ≠ .empty ∧ s.loading k = false
    let start := fun (t : State) => (t.eng k).st = .idle ∧ (t.eng k).pend.any (fun e => e.1 == 63) = true ∧
      (t.eng k).w = List.replicate 32 0 ∧ (t.eng k).ats = [] ∧ (t.eng k).calls = [] ∧ (t.eng k).loops = []
    let reading := l.src ≠ 1 ∨ s.nv.job.any (fun j => j.user == .loader) = true
    (l.phase ≠ .idle → s.To (.loaderLoad r v) fun t => refused t 1 ∧ t.ldr = l) ∧
    (l.phase = .idle → 10 < n → s.To (.loaderLoad r v) fun t => refused t 2 ∧ t.ldr = l) ∧
    (l.phase = .idle → n ≤ 10 → s.To (.loaderLoad r v) fun t => t.ldr =
      ⟨.check, n, v.getLsbD 1, if src = 3 then 0 else src, s.rn W_ENG ENG_LDRADDR, none⟩ ∧ t.mem = s.mem ∧ t.engs = s.engs) ∧
    (l.phase = .check → reading → (∀ img, s.ldrVerdict.1.toOption = some img → s.To .loadCheckComplete fun t =>
        t.ldr.phase = .wait ∧ t.ldr.img = some img ∧ t.ldr.target = l.target ∧ t.mem = s.mem ∧ t.engs = s.engs) ∧
      (s.ldrVerdict.1.toOption = none → s.sys.phase ≠ .loading → s.To .loadCheckComplete fun t =>
        t.ldr.phase = .idle ∧ t.flag W_ENG ENG_LDRSTS_REJECT = true ∧ ev t 1 ∧ t.mem = s.mem ∧
        (l.src = 2 → 3 < l.addr → refused t 11) ∧ (l.src = 2 → l.addr ≤ 3 → l.addr ≠ profileOf l.target → refused t 2))) ∧
    (l.phase ≠ .check ∨ ¬ reading → s.To .loadCheckComplete (· = s)) ∧
    (l.phase = .wait → ¬ busy → s.To .loadTargetHold fun t => (l.target ≤ 10 → (t.eng l.target).st = .held) ∧
      t.ldr = { l with phase := .copy } ∧ t.mem = s.mem) ∧
    (l.phase ≠ .wait ∨ busy → s.To .loadTargetHold (· = s)) ∧
    (∀ img, l.img = some img → l.phase = .copy → s.sys.phase ≠ .loading → l.target ≤ 10 → s.To .loadCopyComplete fun t =>
      t.ldr.phase = .idle ∧ t.rn m ENG_IMGID = img.imgId % 2 ^ 32 ∧ t.rn m ENG_IMGVER = img.imgVer % 2 ^ 32 ∧
      t.rn m ENG_BOUND = img.bound % 2 ^ 24 ∧ ev t 0 ∧ (t.eng l.target).st = .idle ∧
      (t.eng l.target).pend.any (fun e => e.1 == 63) = true ∧ (t.eng l.target).w = List.replicate 32 0 ∧
      (t.eng l.target).hands = img.hands ∧
      (img.code.length ≤ engMemSize l.target → t.bytes (engImem l.target) img.code.length = img.code) ∧
      (l.keep = false → img.data.length ≤ engMemSize l.target → t.bytes (engDmem l.target) img.data.length = img.data) ∧
      (l.keep = true → img.code.length ≤ engMemSize l.target → ∀ i, i < engMemSize l.target →
        t.byte (engDmem l.target + i) = s.byte (engDmem l.target + i))) ∧
    (l.phase ≠ .copy → s.To .loadCopyComplete (· = s)) ∧
    (acts → v.getLsbD 1 = false → v.getLsbD 2 = false → s.To (.engineHalt r k v) fun t =>
      (x.st = .idle → (t.eng k).st = .halted ∧ ev t 2) ∧ (x.st = .busy ∨ x.st = .waitq → t.eng k = { x with haltReq := true }) ∧
      (x.st = .halted ∨ x.st = .except ∨ x.st = .held → t.eng k = x)) ∧
    (acts → v.getLsbD 0 = false → v.getLsbD 2 = false → s.To (.engineRun r k v) fun t => t.eng k =
      { x with st := if x.st = .halted ∧ x.byReset = false then .idle else x.st }) ∧
    (acts → s.To (.engineRestart r k v) start) ∧
    (acts → v.getLsbD 2 = true → s.To (.engineHalt r k v) start ∧ s.To (.engineRun r k v) start) ∧
    (¬ acts → s.To (.engineHalt r k v) (fun t => t.eng k = x) ∧ s.To (.engineRun r k v) (fun t => t.eng k = x) ∧
      s.To (.engineRestart r k v) (fun t => t.eng k = x))

/-- R327 to R335, R373, R374, R329 with R23; at PCIe a request to this device. -/
def Obligations.HostDoors : Prop :=
  ∀ (s : State) (a n : Nat) (be : BitVec 4) (v mask f : Word) (dw : BitVec 4 × Word) (dws : List (BitVec 4 × Word)) (up bme d3 part : Bool)
    (speed width : Fin 4) (bit : Fin 32) (b0 b1 b2 b3 : Byte) (bs : List Byte), s.Inv → s.sys.soft = false →
    let h := s.hif
    let ev := fun (t : State) b => t.evPending (evNo 0 b) = true
    let own := a % 4 = 0 ∧ s.gangTo .pcie a = .own
    let clean := s.ecc = []
    let lane := fun i => bitsOf v.toNat (8 * i) 8
    let good := fun (y : Nat) => y % 4 = 0 ∧ y < sramSize
    (own → be ≠ 0 → s.To (.pcieBar0Request true a [(be, v)]) (fun t => s.To (.registerWrite .pcie a be v) (· = t)) ∧
      s.To (.pcieBar0Request false a [(be, v)]) (fun t => s.To (.latchingRead .pcie a be) (· = t))) ∧
    s.To (.pcieBar0Request true a [(0, v)]) (· = s) ∧
    s.To (.pcieBar0Request false (4 * a) [(0, v)]) (fun t => t.Answered .pcie (4 * a) .ok 0 ∧ t = { s with out := t.out }) ∧
    (∀ w, s.To (.pcieBar0Request w (4 * a) [dw]) fun t => s.To (.pcieBar0Request w (4 * a) (dw :: dws)) fun u =>
      t.To (.pcieBar0Request w (4 * a + 4) dws) (· = u)) ∧
    (good a → clean → s.To (.pcieBar2Access true a [(be, v)]) fun t =>
      (∀ i, i < 4 → t.byte (SRAM + a + i) = if be.getLsbD i then BitVec.ofNat 8 (lane i) else s.byte (SRAM + a + i)) ∧
      ∀ j, j < SRAM + a ∨ SRAM + a + 4 ≤ j → t.byte j = s.byte j) ∧
    (good a → clean → s.To (.pcieBar2Access false a [(15, v)]) fun t =>
      t = s.emit (.memAnswer (SRAM + a) (s.bytes (SRAM + a) 4))) ∧
    (h.perst = false → s.To (.pcieLinkChange up speed width bme d3) fun t => t.flag W_HIF HIF_STATE_LINKUP = up ∧
      t.get W_HIF HIF_STATE_SPEED = speed ∧ t.get W_HIF HIF_STATE_WIDTH = width ∧ t.flag W_HIF HIF_STATE_BME = bme ∧
      t.flag W_HIF HIF_STATE_D3 = d3 ∧ (s.flag W_HIF HIF_STATE_LINKUP ≠ up → ev t 5)) ∧
    (h.perst = true → s.To (.pcieLinkChange up speed width bme d3) (· = s)) ∧
    s.To .perstAssert (fun t => t.hif.perst = true ∧ t.hif.aer = 0 ∧ t.hif.vecMask = List.replicate 64 true ∧
      t.hif.funcMask = false ∧ t.hif.pba = List.replicate 64 false ∧ t.flag W_HIF HIF_STATE_LINKUP = false ∧
      t.rn W_DMA DMA_CTL = 0 ∧ (∀ j, j < 64 → t.ringEnabled j = false) ∧ t.mem = s.mem ∧ t.queues = s.queues) ∧
    s.To .perstRelease (· = s.setHif { h with perst := false }) ∧
    (h.perst = false → bitOf h.aer bit = false → s.To (.pcieAerError bit) fun t => bitOf t.hif.aer bit = true ∧
      t.flt.msgs = s.flt.msgs ++ [⟨W_HIF, K_PCIE_ERR, regAddr W_HIF HIF_STATE, false⟩]) ∧
    (h.perst = true ∨ bitOf h.aer bit = true → s.To (.pcieAerError bit) (· = s)) ∧
    s.To (.aerStatusClear mask) (fun t => (∀ j, j < 32 → bitOf t.hif.aer j = (bitOf h.aer j && !mask.getLsbD j)) ∧ t.regs = s.regs) ∧
    (s.spiOn = true → s.To (.spiAddressFrame f) (· = s.setHif { h with
      spi := some ⟨f.getLsbD 31, f.getLsbD 30, f.getLsbD 29, bitsOf f.toNat 25 4 != 0, f.toNat % 2 ^ 25⟩ })) ∧
    (s.spiOn = false → s.To (.spiAddressFrame f) (· = s) ∧ s.To (.spiWriteFrame v) (· = s) ∧ s.To .spiReadAccess (· = s) ∧
      s.To (.spiCsRise part) (· = s)) ∧
    (∀ y, h.spi = some y → s.spiOn = true →
      (y.rnw = false → s.To (.spiWriteFrame v) fun t => t.hif.spi = some y.step ∧
        (t.out.drop s.out.length).contains (.spi (BitVec.ofNat 32 (0x5a5a_0000 + h.spiLast * 2 ^ 8 + h.spiBuf.length))) = true ∧
        (h.spiBuf.length < 8 → t.hif.spiBuf = h.spiBuf ++ [⟨y.sram, y.badHigh, y.addr, v⟩]) ∧
        (8 ≤ h.spiBuf.length → t.hif.spiBuf = h.spiBuf ∧ ev t 6)) ∧
      (y.rnw = true → h.spiBuf = [] → s.spiWaits = false → clean →
        (y.sram = true → y.badHigh = false → good y.addr → s.To .spiReadAccess fun t => t.hif.spi = some y.step ∧
          t.out = s.out ++ [.spi 0x5a5a_0000, .spi (BitVec.ofNat 32 (s.memNat (SRAM + y.addr) 4))]) ∧
        (y.badHigh = true → s.To .spiReadAccess fun t => t.out.getLast? = some (.spi ones) ∧
          bitOf (t.rn W_HIF HIF_ACCSTAT) 4 = true)) ∧
      (y.rnw = false ∨ h.spiBuf ≠ [] → s.To .spiReadAccess (· = s))) ∧
    (∀ y, h.spiBuf.head? = some y →
      (s.spiWaits = true → s.To .spiBufferedWrite (· = s)) ∧
      (s.spiWaits = false → s.To .spiBufferedWrite fun t => t.hif.spiBuf = h.spiBuf.tail ∧
        (y.badHigh = true → t.hif.spiLast = 5 ∧ t.mem = s.mem) ∧
        (y.sram = true → y.badHigh = false → good y.addr → clean → t.hif.spiLast = 0 ∧
          t.bytes (SRAM + y.addr) 4 = leBytes 4 y.val.toNat))) ∧
    (h.spiBuf = [] → s.To .spiBufferedWrite (· = s)) ∧
    (s.spiOn = true → s.To (.spiCsRise part) fun t => t.hif.spi = none ∧
      (part = false → t.regs = s.regs) ∧ (part = true → bitOf (t.rn W_HIF HIF_ACCSTAT) 2 = true)) ∧
    (s.i2cOn = true →
      s.To (.i2cWrite v [b0, b1, b2, b3]) (fun t => s.To (.registerWrite .i2c v.toNat 15 (b0 ++ b1 ++ b2 ++ b3)) fun u => u = t) ∧
      s.To (.i2cWrite v [b0, b1, b2, b3]) (fun t => s.To (.i2cWrite v (b0 :: b1 :: b2 :: b3 :: bs)) fun u =>
        t.To (.i2cWrite (v + 4) bs) (· = u)) ∧
      s.To (.i2cWrite v [b0]) (fun t => s.To (.registerWrite .i2c v.toNat 0 0) (· = t)) ∧
      s.To (.i2cWrite v [b0, b1, b2]) (fun t => s.To (.registerWrite .i2c v.toNat 0 0) (· = t)) ∧
      s.To (.i2cRead v 0) (· = s) ∧
      s.To (.latchingRead .i2c v.toNat 15) (fun t => s.To (.i2cRead v (n + 1)) fun u => t.To (.i2cRead (v + 4) n) (· = u))) ∧
    (s.i2cOn = false → s.To (.i2cWrite v bs) (· = s) ∧ s.To (.i2cRead v n) (· = s))

/-- R336 to R347. -/
def Obligations.QueuesRingsAndEvents : Prop :=
  ∀ (s : State) (r : Req) (n : Queue) (v : Word) (e : BitVec 256) (bus : Word64) (g : Fin 16) (count : Nat) (vec : Fin 64),
    s.Ready → r ≠ .i2c →
    let q := s.queue n
    let g' := s.ring n
    let ev := fun (t : State) => t.evPending (416 + n) = true
    let md := qModeOf (bitsOf v.toNat 1 2)
    let modeOk := md ≠ .stall ∨ s.qStallRefused n = false
    let on := s.qEnabled n
    let ron := s.ringEnabled n
    let ctl := regAddr W_DMA (DMA_QCTL + qOff n)
    let rctl := regAddr W_DMA (DMA_R_CTL + ringOff n)
    let idx := bitsOf v.toNat DMA_R_HIDX_V.lsb DMA_R_HIDX_V.width
    let N := s.ringN n
    let room := (s.didx n + 1) % N ≠ s.hidx n
    let TIME := s.rGet n DMA_R_CTL_TIME
    (on = false → modeOk → s.qEnableRefused n = false → s.To (.queueEnable r n v) fun t => t.qEnabled n = true ∧
      t.qMode n = md ∧ t.Answered r ctl .ok (v ||| 1)) ∧
    (on = false → ¬ modeOk ∨ s.qEnableRefused n = true → s.To (.queueEnable r n v) fun t => t.qEnabled n = false ∧
      t.Answered r ctl .wign (v ||| 1) ∧ (modeOk → ev t ∧ bitOf (t.rn W_DMA (DMA_QSTS + qOff n)) 5 = true)) ∧
    (on = true → ron = false → modeOk → s.To (.queueDisable r n v) fun t => t.qEnabled n = false ∧ (t.queue n).fill = 0 ∧
      (t.queue n).drain = none ∧ (t.queue n).held = [] ∧
      t.rn W_DMA (DMA_QDROP + 4 * n) = (s.rn W_DMA (DMA_QDROP + 4 * n) + q.fill) % 2 ^ 32 ∧ (q.fill ≠ 0 → ev t)) ∧
    (on = true → ron = true → s.To (.queueDisable r n v) fun t => t.qEnabled n = true ∧ t.queues = s.queues ∧
      t.Answered r ctl .wign (v &&& ~~~ 1)) ∧
    (on = v.getLsbD 0 → modeOk → s.To (.queueModeWrite r n v) fun t => t.qEnabled n = on ∧ t.qMode n = md ∧
      (s.qMode n = .stall → md ≠ .stall → (t.queue n).held = []) ∧ (md = s.qMode n → t.queues = s.queues)) ∧
    (on = v.getLsbD 0 → ¬ modeOk → s.To (.queueModeWrite r n v) fun t => t.qMode n = s.qMode n ∧ t.queues = s.queues) ∧
    (∀ d, q.drain = some d →
      (s.due d = true → q.fired = false → s.To (.queueDeadline n) fun t => t.queue n = { q with fired := true } ∧ ev t ∧
        t.rn W_DMA DMA_QDLCNT = (s.rn W_DMA DMA_QDLCNT + 1) % 2 ^ 32) ∧
      (s.due d = false ∨ q.fired = true → s.To (.queueDeadline n) (· = s))) ∧
    (q.drain = none → s.To (.queueDeadline n) (· = s)) ∧
    (ron = false → s.ringEnableRefused n = false → s.To (.ringEnable r n v) fun t => t.ringEnabled n = true ∧
      t.didx n = 0 ∧ t.hidx n = 0 ∧ t.ring n = ⟨false, 0, 0, none⟩ ∧ t.Answered r rctl .ok (v ||| 1)) ∧
    (ron = false → s.ringEnableRefused n = true → s.To (.ringEnable r n v) fun t => t.ringEnabled n = false ∧ ev t ∧
      t.Answered r rctl .wign (v ||| 1)) ∧
    (ron = true → s.To (.ringDisable r n v) fun t => t.ringEnabled n = false ∧ t.ring n = { g' with err := false }) ∧
    (idx < N → s.To (.ringHidxWrite r n v) fun t => t.hidx n = idx ∧ t.didx n = s.didx n) ∧
    (N ≤ idx → s.To (.ringHidxWrite r n v) fun t => t.hidx n = s.hidx n ∧ t.Answered r (regAddr W_DMA (DMA_R_HIDX + ringOff n)) .wign v ∧
      bitOf (t.rn W_DMA (DMA_QSTS + qOff n)) 4 = true) ∧
    (s.ringMoves n false = true → q.fill ≠ 0 → room → s.ecc = [] → s.To (.dmaD2hMove n 1) fun t => t.didx n = (s.didx n + 1) % N ∧
      (t.queue n).fill = q.fill - 1 ∧ t.rn W_DMA DMA_ENTCNT = (s.rn W_DMA DMA_ENTCNT + 1) % 2 ^ 32 ∧
      (t.out.drop s.out.length).contains (.hostWrite (s.ringBase n + 32 * s.didx n) (s.bytes (s.qBase n + 32 * q.head) 32)) = true) ∧
    (s.ringMoves n false = false ∨ q.fill = 0 ∨ ¬ room → s.To (.dmaD2hMove n count) (· = s)) ∧
    (s.ringMoves n true = true → s.didx n ≠ s.hidx n → s.qFull n = false → s.ecc = [] → s.To (.dmaH2dMove n [e]) fun t =>
      t.didx n = (s.didx n + 1) % N ∧ (t.queue n).fill = q.fill + 1 ∧
      t.bytes (s.qBase n + 32 * ((q.head + q.fill) % s.qSlots n)) 32 = leBytes 32 e.toNat) ∧
    (s.ringMoves n true = false ∨ s.didx n = s.hidx n ∨ s.qFull n = true → s.To (.dmaH2dMove n [e]) (· = s)) ∧
    (∀ c, g'.oldest = some c →
      (TIME ≠ 0 → s.due ((c + TIME * usU) % 2 ^ 96) = true → s.To (.qdataAgeExpiry n) fun t => ev t ∧
        t.ring n = { g' with since := 0, oldest := none }) ∧
      (TIME = 0 ∨ s.due ((c + TIME * usU) % 2 ^ 96) = false → s.To (.qdataAgeExpiry n) (· = s))) ∧
    (ron = true → g'.err = false → s.To (.dmaRingError n bus) fun t => (t.ring n).err = true ∧
      t.pair W_DMA DMA_ERRADDR_LO = bus.toNat ∧ t.get W_DMA DMA_STATE_LASTERR = n ∧
      t.flt.msgs = s.flt.msgs ++ [⟨W_DMA, K_DMA_ERR, rctl, false⟩]) ∧
    (ron = false ∨ g'.err = true → s.To (.dmaRingError n bus) (· = s)) ∧
    s.To (.evtAckWrite r g v) (fun t => ∀ m, m < 512 →
      t.evPending m = (s.evPending m && !(m / 32 == g.val && v.getLsbD (m % 32)))) ∧
    s.To (.msixUnmask (some vec)) (fun t => lget true t.hif.vecMask vec = false ∧ t.regs = s.regs ∧
      (s.hif.funcMask = false → lget false s.hif.pba vec = true → lget false t.hif.pba vec = false ∧
        (s.msixOut = true → t.out = s.out ++ [.msix vec]))) ∧
    s.To (.msixUnmask none) (fun t => t.hif.funcMask = false ∧ t.regs = s.regs ∧
      (lget true s.hif.vecMask vec = false → lget false t.hif.pba vec = false))

/-- R378 to R391. -/
def Obligations.FaultPath : Prop :=
  ∀ (s : State) (r : Req) (v : Word) (i d : Nat), s.Ready →
    let x := s.flt
    let ev := fun (t : State) b => t.evPending (evNo 0 b) = true
    let seq := s.get W_FLT FLT_STATUS_SEQ
    let seq' := (seq + 1) % 256
    let inTime := x.esc = none ∨ x.esc.any (fun c => s.due c) = false
    let ack := fun P => s.To (.fltAckWrite r v) P
    let clr := fun P => s.To (.faultClear r v) P
    let q := s.get W_FLT FLT_CTL_INJQ
    let takes := s.flag W_FLT FLT_CTL_INJEN = true ∧ s.qEnabled q = true ∧ s.qEmpty q = false ∧ s.qCons q = 3 ∧ s.qConsId q = W_FLT
    let kind := bitsOf (s.qPop q).1.toNat 8 8
    (∀ m, x.msgs[i]? = some m →
      (x.st = .idle → s.To (.faultMessage i) fun t => t.flt.st = .latched ∧ t.flt.msgs = x.msgs.eraseIdx i ∧
        t.get W_FLT FLT_STATUS_SEQ = seq' ∧ t.flag W_FLT FLT_STATUS_LATCHED = true ∧ t.pair W_FLT FLT_REC_W0 = s.now % 2 ^ 64 ∧
        t.rn W_FLT FLT_REC_W2 = m.src % 256 + m.kind % 256 * 2 ^ 8 + seq' * 2 ^ 16 + s.tb.epoch % 256 * 2 ^ 24 ∧
        t.rn W_FLT FLT_REC_W3 = m.addr % 2 ^ 32 ∧ t.flt.pulse = some (s.after (s.fltPulseUs * usU)) ∧
        t.flt.esc = (if s.flag W_FLT FLT_ESCCTL_ESCEN then some (s.after (s.fltEscUs * usU)) else none) ∧ ev t 8 ∧
        t.rn W_FLT FLT_LATCHCNT = (s.rn W_FLT FLT_LATCHCNT + 1) % 2 ^ 32 ∧ t.rn W_FLT FLT_DISCCNT = 0 ∧
        (s.flag W_SNAP SNAP_CTL_FAULT = true → t.tev.triggers = s.tev.triggers ++ [(s.tb.c, 4)])) ∧
      (x.st ≠ .idle → s.To (.faultMessage i) fun t => t.flt = { x with msgs := x.msgs.eraseIdx i } ∧
        t.rn W_FLT FLT_DISCCNT = min (2 ^ 32 - 1) (s.rn W_FLT FLT_DISCCNT + 1) ∧ t.rn W_FLT FLT_REC_W2 = s.rn W_FLT FLT_REC_W2)) ∧
    (x.msgs.length ≤ i → s.To (.faultMessage i) (· = s)) ∧
    (x.pulse = some d → s.due d = true → s.To .faultPulseEnd (· = s.setFlt { x with pulse := none })) ∧
    (x.pulse = none ∨ (x.pulse = some d ∧ s.due d = false) → s.To .faultPulseEnd (· = s)) ∧
    (x.st = .latched → inTime → v.toNat % 256 = seq → ack fun t => t.flt = { x with st := .acked, esc := none }) ∧
    (x.st ≠ .latched ∧ x.st ≠ .acked ∨ ¬ inTime ∧ x.st ≠ .acked ∨ v.toNat % 256 ≠ seq → ack fun t => t.flt = x ∧ ev t 12) ∧
    (x.st = .latched → x.esc = some d →
      (s.due d = true → s.To .escalationExpiry fun t => t.flt.st = .safe ∧ t.flt.esc = none ∧ ev t 9 ∧
        ∀ n, n < 4 → (t.dpll n).frozen = true) ∧
      (s.due d = false → s.To .escalationExpiry (· = s))) ∧
    (x.esc = none → s.To .escalationExpiry (· = s)) ∧
    (v.toNat / 2 ^ 24 ≠ seq ∨ x.st = .idle → clr fun t => t.flt = x ∧ t.rn W_FLT FLT_STATUS = s.rn W_FLT FLT_STATUS) ∧
    (v.toNat / 2 ^ 24 = seq → x.st ≠ .idle → s.causePresent = true → clr fun t => t.flt = x ∧ ev t 11 ∧
      t.rn W_FLT FLT_STATUS = s.rn W_FLT FLT_STATUS) ∧
    (v.toNat / 2 ^ 24 = seq → x.st ≠ .idle → s.causePresent = false → clr fun t => t.flt.st = .idle ∧ t.flt.esc = none ∧
      t.flt.pulse = x.pulse ∧ t.rn W_FLT FLT_STATUS = seq * 2 ^ 24 ∧ ev t 10 ∧ t.rn W_FLT FLT_REC_W2 = s.rn W_FLT FLT_REC_W2 ∧
      (x.st = .safe → ∀ n, n < 4 → (t.dpll n).frozen = false)) ∧
    (x.finLow = false → s.To .faultInFall fun t => t.flt.finLow = true ∧ t.flt.msgs =
      if s.flag W_FLT FLT_ESCCTL_FINEN then x.msgs ++ [⟨W_FLT, K_FAULT_IN, 0, false⟩] else x.msgs) ∧
    (x.finLow = true → s.To .faultInFall (· = s)) ∧
    s.To .faultInRise (· = s.setFlt { x with finLow := false }) ∧
    (takes → faultKinds.contains kind = true → s.ecc = [] → s.To .faultInjection fun t => t.flt.msgs = x.msgs ++
      [⟨W_FLT, kind, bitsOf (s.qPop q).1.toNat 32 32, true⟩] ∧ (t.queue q).fill = (s.queue q).fill - 1) ∧
    (takes → faultKinds.contains kind = false → s.ecc = [] → s.To .faultInjection fun t => t.flt.msgs = x.msgs ∧
      t.rn W_FLT FLT_DISCCNT = min (2 ^ 32 - 1) (s.rn W_FLT FLT_DISCCNT + 1)) ∧
    (¬ takes → s.To .faultInjection (· = s))

/-- R395 to R408. Results that a command brings (counts of codes, delays of taps, the launch offset) are its operands. -/
def Obligations.Calibration : Prop :=
  ∀ (s : State) (r : Req) (v : Word) (i : Fin 38) (n : Chan) (j : Fin 2) (counts delays : List Nat) (lam : Int), s.Ready → r ≠ .i2c →
    s.par = [] →
    let c := s.cal
    let ev := fun (t : State) b => t.evPending (evNo 15 b) = true
    let bit := fun (x k : Nat) => bitOf x k = true
    let on := fun (f : Fld) => s.flag W_CAL f = true
    let N := counts.foldl (· + ·) 0
    let ks := tdcKnots counts N
    let lin := fun P => s.To (.tdcLinearisation i counts) P
    let bg := s.seqSt ≠ 1 ∧ on CAL_CTL_BGEN ∧ on CAL_CTL_TDCEN ∧ s.since (lget none c.tdcAt i) s.tdcInt = true
    let fg := s.seqSt = 1 ∧ s.inServ = false ∧ bit c.todoT i
    let full := counts.length = 2048
    let rejected := fun (t : State) (step inst x : Nat) (y : Int) => ev t 10 ∧ t.rn W_CAL CAL_LASTREJ = step + inst * 2 ^ 8 + x * 2 ^ 16 ∧
      t.rn W_CAL CAL_LASTREJVAL = ofSigned 32 y
    let paused := fun m => s.seqSt = 2 ∧ s.inServ = false ∧ bit c.todoO m
    let moved := on CAL_CTL_BGEN ∧ on CAL_CTL_FDRIFTEN ∧ 32768 ≤ (s.tdie - c.formT).natAbs ∧ s.since (some c.formAt) (100 * msU) = true
    let f := s.fcal n
    let d := toSigned 32 (lget (0, 0) c.echo n).2 - lam
    let u := clampInt (-512) 511 (roundAway d 5)
    let fup := fun P => s.To (.fcalUpdate n lam) P
    let ups := on CAL_CTL_BGEN ∧ on CAL_CTL_FDRIFTEN ∧ s.rangeRuns n = true ∧ s.rangeRefused n = false ∧
      s.since (lget none c.fcalAt n) s.fretInt = true
    let start := fun P => s.To (.calseqStart r v) P
    let step := fun P => s.To (.calseqStepDone [(n.val, delays, lam)]) P
    let ended := fun (t : State) (x : Nat) => t.seqSt = 0 ∧ t.get W_CAL CAL_STS_RESULT = x ∧ ev t 12
    let res := if c.refused then 2 else 0
    let no := fun k => v.getLsbD k = false
    let aT := regAddr W_CAL (CAL_TPTS0 + 4 * j)
    let aD := regAddr W_CAL CAL_TDATA
    let p := s.get W_CAL CAL_TIDX_POINT
    let kind := calKind (s.get W_CAL CAL_TIDX_KIND)
    let ix := s.get W_CAL CAL_TIDX_INSTANCE
    let e := s.get W_CAL CAL_TIDX_ENTRY
    let next := fun (t : State) => t.get W_CAL CAL_TIDX_ENTRY = (e + 1) % 64
    (bg → full → N = 2 ^ 22 →
      (∀ y, s.tdcFails counts ks N = some y → lin fun t => rejected t 1 i y.1 y.2 ∧ t.cal.rej = ks ∧ t.cal.trims = c.trims) ∧
      (s.tdcFails counts ks N = none → (∀ k, k < 33 → s.knot 8 0 i k < 2 ^ 16 - 1) → lin fun t =>
        bit (t.pair W_CAL CAL_TDCOK_LO) i ∧ ev t 13 ∧ bit (t.get W_CAL CAL_TFILL_FILLED) (s.nearPoint s.tdie) ∧
        (s.filled.length < 2 → ∀ k, k < 33 → t.knot (s.nearPoint s.tdie) 0 i k = lget 0 ks k % 2 ^ 16) ∧
        ∀ k, k < 33 → ((t.knot 8 0 i k : Int) - s.knot 8 0 i k).natAbs ≤ 1)) ∧
    (¬ full ∨ (s.seqSt ≠ 1 ∧ (¬ bg ∨ N ≠ 2 ^ 22)) → lin (· = s)) ∧
    (fg → full → s.tdcOn i = true → lin fun t => bitOf t.seqTdc i = false ∧ bitOf t.cal.todoT i = false ∧ t.cal.refused = true ∧
      t.cal.trims = c.trims) ∧
    (fg → full → s.tdcOn i = false → N = 2 ^ 24 → s.tdcFails counts ks N = none → lin fun t => bit (t.pair W_CAL CAL_TDCOK_LO) i ∧
      bitOf t.cal.todoT i = false ∧ t.cal.results = c.results ++ [⟨0, i, ks⟩] ∧ ∀ k, k < 33 → t.knot 8 0 i k = lget 0 ks k % 2 ^ 16) ∧
    (moved → s.To .fretTableReform fun t => t.cal.formT = s.tdie ∧ t.cal.formAt = s.tb.c ∧ ∀ m k, m < 40 → k < 17 →
      t.knot 8 1 m k = if paused m then s.knot 8 1 m k else (s.interpKnot 1 m k s.tdie).toNat % 2 ^ 16) ∧
    (¬ moved → s.To .fretTableReform (· = s)) ∧
    (ups → s.echoComp n = false → ((d - 5 * f).natAbs * 4 ≤ 15 → fup fun t => t.fcal n = f ∧ t.rn W_CAL CAL_LASTREJ = s.rn W_CAL CAL_LASTREJ) ∧
      (15 < (d - 5 * f).natAbs * 4 → (u - f).natAbs ≤ s.get W_CAL CAL_LIMFRET_DRIFTMAX → fup fun t => t.fcal n = u) ∧
      (15 < (d - 5 * f).natAbs * 4 → s.get W_CAL CAL_LIMFRET_DRIFTMAX < (u - f).natAbs → fup fun t =>
        t.fcal n = f ∧ rejected t 3 n 19 (u - f))) ∧
    (ups → s.echoComp n = true → fup fun t => t.fcal n = if f < 0 then f + 1 else if 0 < f then f - 1 else 0) ∧
    (¬ ups → fup (· = s)) ∧
    (s.seqSt = 0 → no 2 → no 3 → start fun t => t.seqSt = 1 ∧ t.inServ = v.getLsbD 1 ∧ t.cal.noCommit = v.getLsbD 5 ∧
      t.cal.echoWait = (v.getLsbD 4 && !v.getLsbD 1) ∧ t.cal.trims = c.trims ∧
      (∀ k, k < 38 → bitOf t.cal.todoT k = (bitOf s.seqTdc k && (v.getLsbD 1 || !s.tdcOn k)) ∧ bitOf t.seqTdc k = bitOf t.cal.todoT k) ∧
      t.Answered r (regAddr W_CAL CAL_SEQCMD) (if s.seqStartWign (v.toNat ||| 1) then .wign else .ok) (v ||| 1)) ∧
    (s.seqSt ≠ 0 → start fun t => t.cal = c ∧ t.seqSt = s.seqSt ∧ t.Answered r (regAddr W_CAL CAL_SEQCMD) .wign (v ||| 1)) ∧
    (no 0 → no 3 → s.To (.calseqCont r v) fun t => (s.seqSt ≠ 3 → t.cal = c ∧ t.seqSt = s.seqSt) ∧ (s.seqSt = 3 → t.seqSt = 4 ∧ ev t 11 ∧
      ∀ k, k < 40 → bitOf t.cal.todoO k = (bitOf s.seqOut k && s.rangeRuns k && !s.rangeRefused k))) ∧
    (no 0 → no 2 → s.To (.calseqAbort r v) fun t => (s.seqSt = 0 → t.cal = c ∧ t.seqSt = 0) ∧
      (s.seqSt ≠ 0 → ended t 1 ∧ t.cal.trims = c.trims ∧ t.nv.job.any (fun x => x.user == .commit) = false ∧
        t.nv.wait.contains .commit = false)) ∧
    (s.seqSt = 1 → c.todoT = 0 → step fun t => t.seqSt = 2 ∧ ev t 11 ∧
      ∀ k, k < 40 → bitOf t.cal.todoO k = (bitOf s.seqOut k && (s.inServ || !s.flag (wOut k) OUT_CTL_ENABLE))) ∧
    (s.seqSt = 1 → c.todoT ≠ 0 → s.inServ = true → step (· = s)) ∧
    (s.seqSt = 2 → c.todoO = 2 ^ n.val → s.inServ = false → step fun t =>
      t.seqSt = (if c.echoWait then 3 else 4) ∧ ev t 11 ∧
      (s.flag (wOut n) OUT_CTL_ENABLE = true → t.cal.refused = true ∧ t.cal.trims = c.trims) ∧
      (s.flag (wOut n) OUT_CTL_ENABLE = false → s.fretFails delays (fretKnots delays) = none → t.linOk n = true ∧
        (lget (0, 0) t.cal.echo n).2 = ofSigned 32 lam ∧ ∀ k, k < 17 → t.knot 8 1 n k = lget 0 (fretKnots delays) k % 2 ^ 16) ∧
      ∀ y, s.fretFails delays (fretKnots delays) = some y → s.flag (wOut n) OUT_CTL_ENABLE = false →
        rejected t 2 n y.1 y.2 ∧ t.cal.refused = true ∧ t.cal.trims = c.trims) ∧
    (s.seqSt = 4 → step fun t => t.seqSt = 5 ∧ ev t 11 ∧ (c.todoO % 2 ^ 40 ≠ 0 → t.cal.refused = true)) ∧
    (s.seqSt = 5 → c.noCommit = true → step fun t => ended t res) ∧
    (s.seqSt = 5 → c.noCommit = false → step fun t => t.seqSt = 6 ∧ t.cal.results = [] ∧ (s.nv.job = none → s.nv.wait = [] →
      t.nv.job.any (fun x => x.user == .commit) = true)) ∧
    (s.seqSt = 6 → ∀ b, s.nv.job = some b → b.user = .commit → step fun t => ended t (if b.result = 0 then res else 3) ∧
      t.cal.trims = c.trims) ∧
    (s.seqSt = 0 ∨ s.seqSt = 3 ∨ s.seqSt = 7 → step (· = s)) ∧
    (s.tptsBad j v.toNat = true → s.To (.calTptsWrite r j v) fun t => t.Answered r aT .wign v ∧ t.cal = c ∧
      t.rn W_CAL (CAL_TPTS0 + 4 * j) = s.rn W_CAL (CAL_TPTS0 + 4 * j)) ∧
    (s.tptsBad j v.toNat = false → s.To (.calTptsWrite r j v) fun t => t.Answered r aT .ok v ∧
      t.rn W_CAL (CAL_TPTS0 + 4 * j) = v.toNat ∧ (∀ m k, m < 40 → k < 17 → t.knot 8 1 m k = (t.interpKnot 1 m k s.tdie).toNat % 2 ^ 16) ∧
      (s.tdcOn i = true → ∀ k, k < 33 → t.knot 8 0 i k = s.knot 8 0 i k)) ∧
    (s.latched r W_CAL CAL_TDATA = none → s.To (.calTdataAccess r none) fun t =>
      t.Answered r aD .ok (BitVec.ofNat 32 s.tdata) ∧ next t ∧ t.cal = c) ∧
    (p = 8 ∨ p = 9 → s.To (.calTdataAccess r (some v)) fun t => t.Answered r aD .wign v ∧ next t ∧ t.cal = c) ∧
    (p < 8 → s.To (.calTdataAccess r (some v)) fun t => t.Answered r aD .ok v ∧ next t ∧
      (e < calEntries kind → ix < calInstances kind →
        (kind ≠ 2 → t.knot p kind ix e = v.toNat % 2 ^ 16 ∧ (kind = 0 → s.tdcOn ix = true → t.knot 8 0 ix e = s.knot 8 0 ix e)) ∧
        (kind = 2 → lget (0, 0) t.cal.echo ix = if e = 0 then (v.toNat, (lget (0, 0) c.echo ix).2) else ((lget (0, 0) c.echo ix).1, v.toNat))) ∧
      (calEntries kind ≤ e ∨ calInstances kind ≤ ix → t.cal = c))

/-- R409 to R414, R444, R445. With BANDAV and BANDBV set; what an unnamed band gives is open (log entry 55). -/
def Obligations.Health : Prop :=
  ∀ (s : State) (r : Req) (v : Word) (ratios : List Nat) (temps : List Int) (vin : BitVec 16) (i : Fin 24) (x : Fin 2), s.Ready →
    s.par = [] → s.guarded W_HLTH HLTH_PLAN = false →
    let h := s.hlth
    let g := s.get W_HLTH
    let ev := fun (t : State) b => t.evPending (evNo 15 b) = true
    let e0 := fun (t : State) b => t.evPending (evNo 0 b) = true
    let bad := fun k => (lget none h.ratio k).any (fun p => decide (p < 20 * (((lget 0 ratios k : Nat) : Int) - p).natAbs)) = true
    let r0 := fun k => (lget none h.r0 k).getD (lget 0 ratios k)
    let D := fun k => if bad k then s.ageD k else
      (clampInt 0 65535 (if r0 k = 0 then 0 else quotFree (((r0 k : Int) - (lget 0 ratios k : Nat)) * 10 ^ 6) (r0 k))).toNat
    let worn := (List.range 24).any (fun k => decide (s.get W_CAL CAL_LIMAGE_DMAX * 10 ≤ D k)) = true
    let flt := fun (t : State) (c : Nat) => t.get W_HLTH HLTH_STATE_AGECOND = c ∧ (g HLTH_STATE_AGECOND ≠ c →
      t.flag W_HLTH HLTH_STATE_AGEFLT = true ∧ ev t 24 ∧ t.flt.msgs = s.flt.msgs ++ [⟨W_HLTH, K_AGEING, regAddr W_HLTH HLTH_STATE, false⟩])
    let calm := fun (t : State) => t.get W_HLTH HLTH_STATE_AGECOND = g HLTH_STATE_AGECOND ∧
      t.flag W_HLTH HLTH_STATE_AGEFLT = s.flag W_HLTH HLTH_STATE_AGEFLT ∧ t.flt.msgs = s.flt.msgs
    let due := h.ageNow = true ∨ (s.flag W_HLTH HLTH_CTL_AGEEN = true ∧ s.since h.ageAt s.ageInt = true)
    let lim := s.get W_CAL CAL_LIMAGE_VSTMAX
    let vst := v.toNat % 2 ^ 8
    let plan := fun P => s.To (.hlthPlanWrite (.eng 0) v) P
    let ofs := s.get W_PWR PWR_STATE_VSTOFS
    let steps := ofs < s.sys.vstPlan ∧ s.since s.sys.vstAt (if s.sys.vstFirst then msU else 3600 * secU) = true
    let read := temps.length = 8 ∧ s.gridDue (10 * msU) h.tempIdx = true
    let m := quotFree (temps.foldl (· + ·) 0) 8
    let hi := s.tlim PWR_TLIM_TFLT
    let lo := s.tlim PWR_TLIM_TLOW
    let out := hi < m ∨ m < lo
    let hot := s.flag W_PWR PWR_STATE_TEMPBAD
    let temp := fun P => s.To (.dieTempReading temps) P
    let aL := regAddr W_HLTH HLTH_LIFEDATA
    let ix := g HLTH_LIFEIDX_INDEX
    let hour := s.gridDue (3600 * secU) h.hourIdx = true
    let life := s.flag W_HLTH HLTH_CTL_LIFEEN = true
    (due → s.To (.ageReading ratios) fun t => t.hlth.ageAt = some s.tb.c ∧ t.hlth.ageNow = false ∧ ev t 14 ∧
      lget none t.hlth.ratio i = some (lget 0 ratios i) ∧ t.ageD i = D i ∧
      (lget none h.r0 i = none → lget none t.hlth.r0 i = some (lget 0 ratios i)) ∧ (bad i → ev t 10) ∧
      (worn → flt t 4) ∧ (¬ worn → calm t)) ∧
    (¬ due → s.To (.ageReading ratios) (· = s)) ∧
    (v.getLsbD 10 = true → v.getLsbD 11 = true → plan fun t => t.Answered (.eng 0) (regAddr W_HLTH HLTH_PLAN) .ok v ∧
      t.rn W_HLTH HLTH_PLAN = v.toNat ∧ t.get W_HLTH HLTH_STATE_AGESHIFT = bitsOf v.toNat 8 2 ∧
      t.sys.vstPlan = max s.sys.vstPlan (min vst lim) ∧ (lim < vst → flt t 1) ∧ (vst ≤ lim → calm t) ∧
      (bitsOf v.toNat 8 2 ≠ g HLTH_STATE_AGESHIFT ∨ s.sys.vstPlan < min vst lim → ev t 15) ∧
      (s.apllOn x = false → t.get (wApll x) APLL_CFG_BANDF = bitsOf v.toNat (if x.val = 0 then 12 else 19) 7 ∧
        t.get (wApll x) APLL_CFG_BANDMODE = 1 ∧ ev t 15) ∧
      (s.apllOn x = true → lget false t.hlth.bands x = true ∧ t.get (wApll x) APLL_CFG_BANDF = s.get (wApll x) APLL_CFG_BANDF)) ∧
    (v.getLsbD 1 = false → s.To (.hlthAgeack r v) fun t => t.flag W_HLTH HLTH_STATE_AGEFLT = false ∧ t.hlth = h ∧
      t.get W_HLTH HLTH_STATE_AGECOND = g HLTH_STATE_AGECOND) ∧
    (v.getLsbD 0 = false → s.To (.hlthAgenow r v) fun t => t.hlth = { h with ageNow := true } ∧ calm t) ∧
    (steps → s.To .vcoreOffsetStep fun t => t.get W_PWR PWR_STATE_VSTOFS = (ofs + 1) % 2 ^ 8 ∧
      t.get W_HLTH HLTH_STATE_VSTOFS = (ofs + 1) % 2 ^ 8 ∧ t.sys.vstAt = some s.tb.c ∧ e0 t 17 ∧
      t.sys.vstFirst = (s.sys.vstFirst && decide (ofs + 1 < s.sys.vstPlan))) ∧
    (¬ steps → s.To .vcoreOffsetStep (· = s)) ∧
    (read → temp fun t => t.tdie = toSigned 32 (ofSigned 32 m) ∧ t.hlth.beyond = decide out ∧
      (∀ k, k < 8 → t.rn W_HLTH (HLTH_TEMP0 + 4 * k) = ofSigned 32 (lget 0 temps k)) ∧
      t.flag W_PWR PWR_STATE_TWARN = decide (s.tlim PWR_TLIM_TWARN < m) ∧
      (s.tlim PWR_TLIM_TWARN < m → s.flag W_PWR PWR_STATE_TWARN = false → e0 t 18) ∧
      (out → h.beyond = true → hot = false → t.flag W_PWR PWR_STATE_TEMPBAD = true ∧
        t.flt.msgs = s.flt.msgs ++ [⟨W_HLTH, K_TEMP, regAddr W_HLTH HLTH_TDIE, false⟩]) ∧
      (¬ out ∨ h.beyond = false ∨ hot = true → t.flt.msgs = s.flt.msgs ∧ t.flag W_PWR PWR_STATE_TEMPBAD =
        (hot && !(decide (m ≤ hi - 131072 ∧ lo + 131072 ≤ m)))) ∧
      (life → lget 0 t.hlth.life 12 = max (lget 0 h.life 12) (min (2 ^ 32 - 1) ((m + 64 * 65536) / 256).toNat))) ∧
    (¬ read → temp (· = s)) ∧
    (inReach r false aL = true → s.latched r W_HLTH HLTH_LIFEDATA = none → s.To (.lifedataAccess r none) fun t =>
      t.Answered r aL .ok (BitVec.ofNat 32 (lget 0 h.life ix)) ∧ t.get W_HLTH HLTH_LIFEIDX_INDEX = (ix + 1) % 64 ∧ t.hlth = h) ∧
    s.To (.lifedataAccess (.eng 0) (some v)) (fun t => t.Answered (.eng 0) aL .ok v ∧
      t.hlth = { h with life := lput 0 h.life ix v.toNat } ∧ t.get W_HLTH HLTH_LIFEIDX_INDEX = (ix + 1) % 64) ∧
    (r ≠ .eng 0 → s.To (.lifedataAccess r (some v)) fun t => t.hlth = h ∧ t.get W_HLTH HLTH_LIFEIDX_INDEX = ix) ∧
    (hour → s.To (.lifetimeHour vin) fun t => t.hlth.hourIdx = s.tb.c / (3600 * secU) ∧ (¬ life → t.hlth.life = h.life) ∧
      (life → ∀ k, k = 0 ∨ k = 32 + tempBin s.tdie ∨ k = 48 + vinBin vin.toNat →
        lget 0 t.hlth.life k = min (2 ^ 32 - 1) (lget 0 h.life k + 1))) ∧
    (¬ hour → s.To (.lifetimeHour vin) (· = s))

/-- R419 to R431; two commands in a row show an operation's begin and its end. -/
def Obligations.Storage : Prop :=
  ∀ (s : State) (r : Req) (v : Word) (cond : Fin 4) (upset : List (Nat × Bool)), s.Ready → r ≠ .i2c → s.ecc = [] →
    let n := s.nv
    let g := fun (t : State) (f : Fld) => t.get W_NVS f
    let ev := fun (t : State) b => t.evPending (evNo 15 b) = true
    let p := fun lo hi => s.stagedVal r W_NVS lo + s.stagedVal r W_NVS hi * 2 ^ 32
    let V := fun (k : Nat) => v.toNat / 16 * 16 + k
    let c := fun k => s.nvCmdOf (V k) (p NVS_PWD_LO NVS_PWD_HI) (p NVS_PWDNEW_LO NVS_PWDNEW_HI)
    let no := fun k => s.nvRefuse (c k)
    let a := g s NVS_ADDR_V
    let len := g s NVS_LEN_V
    let m := SRAM + g s NVS_SRAM_V
    let reg := bitsOf v.toNat 4 3
    let kind := bitsOf v.toNat 7 1
    let aC := regAddr W_NVS NVS_CMD
    let key := s.flag W_GUARD GUARD_LOCK_NVKEY = false
    let free := n.job = none ∧ n.wait = [] ∧ s.nvBusy = false ∧ key
    let sound := n.bad = []
    let power := s.pwrHold = false
    let same := fun (u : State) => u.nv.cells = n.cells ∧ u.nv.pwds = n.pwds ∧ u.mem = s.mem ∧ u.nvBuf = s.nvBuf ∧
      g u NVS_STATE_RUNLK = g s NVS_STATE_RUNLK ∧ g u NVS_STATE_WUNLK = g s NVS_STATE_WUNLK
    let ends := fun (t : State) (x : Nat) (P : State → Prop) => t.flag W_NVS NVS_STATE_BUSY = true ∧ t.To .nvOperationDone fun u =>
      g u NVS_STS_RESULT = x ∧ u.flag W_NVS NVS_STS_DONE = true ∧ ev u 5 ∧ u.flag W_NVS NVS_STATE_BUSY = false ∧ u.nv.job = none ∧ P u
    let s' := s.nvUpset upset
    let bit := fun (x k : Nat) => bitOf x k = true
    let tries := s.nvAttempts reg
    let known := reg ≤ 4 ∧ s.nvLocked reg = false
    let scan := n.job = none ∧ power ∧ (n.scanAt ≠ none ∨ s.flag W_NVS NVS_CTL_SCANEN = true)
    let i := n.scanAt.getD 0
    let good := n.bad.any (fun e => e.1 == 8 * i) = false ∧ n.sched.contains (8 * i) = false
    let ring := v.toNat % 64
    let ringFree := n.job = none ∧ n.wait = [] ∧ s.nvLocked 2 = false ∧ sound
    (s.nvBusy = true → key → s.To (.nvRead r v []) (fun t => t.Answered r aC .wign (BitVec.ofNat 32 (V 1)) ∧ t.nv = n) ∧
      s.To (.nvWrite r v) fun t => t.Answered r aC .wign (BitVec.ofNat 32 (V 2)) ∧ t.nv = n) ∧
    (s.nvBusy = false → key → n.job ≠ none → s.To (.nvWrite r v) fun t => t.Answered r aC .ok (BitVec.ofNat 32 (V 2)) ∧
      t.flag W_NVS NVS_STATE_BUSY = true ∧ t.nv = { n with wait := n.wait ++ [.cmd (c 2)] }) ∧
    (len = 0 ∨ 64 < len → no 1 = 1 ∧ no 2 = 1) ∧
    (1 ≤ len → len ≤ 64 → (s.nvLocked (nvRegion a) = true → no 1 = 3 ∧ no 2 = 3) ∧
      (s.nvLocked (nvRegion a) = false → (s.nvClosed (nvRegion a) 0 = true → a < 0x3_fc00 → no 1 = 2) ∧
        (s.nvClosed (nvRegion a) 1 = true ∨ 0x3_fc00 ≤ a → no 2 = 2) ∧ (s.nvClosed (nvRegion a) 0 = false → no 1 = 0) ∧
        (s.nvClosed (nvRegion a) 1 = false → a < 0x3_fc00 → no 2 = 0))) ∧
    (free →
      (no 1 ≠ 0 → s.To (.nvRead r v []) fun t => ends t (no 1) same) ∧ (no 2 ≠ 0 → s.To (.nvWrite r v) fun t => ends t (no 2) same) ∧
      (no 3 ≠ 0 → s.To (.nvCopyout r v []) fun t => ends t (no 3) same) ∧ (no 4 ≠ 0 → s.To (.nvCopyin r v) fun t => ends t (no 4) same) ∧
      (no 5 ≠ 0 → s.To (.nvUnlock r v) fun t => ends t (no 5) same) ∧ (no 6 ≠ 0 → s.To (.nvRelock r v) fun t => ends t (no 6) same) ∧
      (no 7 ≠ 0 → s.To (.nvSetpwd r v) fun t => ends t (no 7) same) ∧
      (no 1 = 0 → s.To (.nvRead r v upset) fun t => (∀ j, j < len → lget 0 t.nvBuf j = s'.nvReqByte (pageAddr a j)) ∧
        (∀ j, j < 64 → len ≤ j → lget 0 t.nvBuf j = lget 0 s.nvBuf j) ∧
        ends t (if (pageRows a len).any s'.nvBad then 5 else 0) fun u => u.nv.cells = n.cells) ∧
      (no 2 = 0 → sound → power → s.To (.nvWrite r v) fun t => ends t 0 fun u =>
        (∀ j, j < len → u.nvByte (pageAddr a j) = lget 0 s.nvBuf j) ∧
        ∀ b, b / 64 ≠ a / 64 ∨ len ≤ (64 + b % 64 - a % 64) % 64 → u.nvByte b = s.nvByte b) ∧
      (no 2 = 0 ∧ ¬ power → s.To (.nvWrite r v) fun t => ends t 6 same) ∧
      (no 3 = 0 → s.To (.nvCopyout r v upset) fun t => (∀ j, j < len → t.byte (m + j) = s'.nvReqByte (a + j)) ∧
        (∀ b, b < m ∨ m + len ≤ b → t.byte b = s.byte b) ∧
        ends t (if (rowsOf a len).any s'.nvBad then 5 else 0) fun u => u.nv.cells = n.cells) ∧
      (no 4 = 0 → power → s.To (.nvCopyin r v) fun t => ends t 0 fun u => (∀ j, j < len → u.nvByte (a + j) = s.byte (m + j)) ∧
        ∀ b, b < a ∨ a + len ≤ b → u.nvByte b = s.nvByte b) ∧
      (no 4 = 0 → ¬ power → s.To (.nvCopyin r v) fun t => ends t 6 same) ∧
      (known → s.nvPwd reg kind = 0 → s.To (.nvUnlock r v) fun t => ends t 0 same) ∧
      (known → s.nvPwd reg kind ≠ 0 → s.nvPwd reg kind = p NVS_PWD_LO NVS_PWD_HI → s.To (.nvUnlock r v) fun t => ends t 0 fun u =>
        bit (g u (unlkField kind)) reg ∧ u.nvAttempts reg = 0 ∧ u.nv.cells = n.cells) ∧
      (known → s.nvPwd reg kind ≠ 0 → s.nvPwd reg kind ≠ p NVS_PWD_LO NVS_PWD_HI → tries < 8 → s.To (.nvUnlock r v) fun t =>
        ends t (if tries = 7 then 3 else 4) fun u => u.nvAttempts reg = tries + 1 ∧ same u ∧
          (tries = 7 → u.nvLocked reg = true ∧ ev u 6) ∧ (tries < 7 → g u NVS_STATE_LOCKOUT = g s NVS_STATE_LOCKOUT)) ∧
      (known → s.To (.nvRelock r v) fun t => ends t 0 fun u => bitOf (g u NVS_STATE_RUNLK) reg = false ∧
        bitOf (g u NVS_STATE_WUNLK) reg = false ∧ u.nv.pwds = n.pwds) ∧
      (known → s.nvClosed reg 1 = false → power → s.To (.nvSetpwd r v) fun t => ends t 0 fun u =>
        u.nv.pwds = lput 0 n.pwds (2 * reg + kind) (p NVS_PWDNEW_LO NVS_PWDNEW_HI) ∧ u.nv.cells = n.cells) ∧
      s.To (.nvScannow r v) fun t => t.nv.scanAt = some 0 ∧ t.flag W_NVS NVS_STATE_SCANRUN = true ∧ ends t 0 same) ∧
    (n.job = none ∨ n.job.any (fun j => j.user == .commit || j.user == .loader) = true → s.To .nvOperationDone (· = s)) ∧
    (∀ u, n.wait.head? = some u → u.internal = false → n.job = none → s.To .nvWaitingCommandStart fun t =>
      t.nv.wait = n.wait.tail ∧ t.nv.job.any (fun j => j.user == u) = true) ∧
    (n.wait.all NvUser.internal = true ∨ n.job ≠ none → s.To .nvWaitingCommandStart (· = s)) ∧
    (¬ scan → s.To (.nvRefreshRow cond) (· = s)) ∧
    (scan → s.To (.nvRefreshRow cond) fun t => (∀ b, t.nvByte b = s.nvByte b) ∧
      (i + 1 < 32768 → t.nv.scanAt = some (i + 1) ∧ t.flag W_NVS NVS_STATE_SCANRUN = true) ∧
      (32768 ≤ i + 1 → t.nv.scanAt = none ∧ t.flag W_NVS NVS_STATE_SCANRUN = false ∧ (n.rewrote = true → ev t 7)) ∧
      (good → cond = 0 → t.nv.bad = n.bad ∧ t.rn W_NVS NVS_REFCNT = s.rn W_NVS NVS_REFCNT) ∧
      (good → cond = 1 ∨ cond = 2 → t.rn W_NVS NVS_REFCNT = (s.rn W_NVS NVS_REFCNT + 1) % 2 ^ 32 ∧
        t.nv.bad.any (fun e => e.1 == 8 * i) = false ∧ (i + 1 < 32768 → t.nv.rewrote = true) ∧ (32768 ≤ i + 1 → ev t 7)) ∧
      (cond = 2 → t.rn W_NVS NVS_CORRCNT = (s.rn W_NVS NVS_CORRCNT + 1) % 2 ^ 32) ∧
      (cond = 3 → t.rn W_NVS NVS_ERRADDR = 8 * i ∧ t.nvBad (8 * i) = true ∧ ev t 8 ∧ t.rn W_NVS NVS_REFCNT = s.rn W_NVS NVS_REFCNT)) ∧
    (ringFree → power → (s.slotValid ring).all (fun x => decide (x.2.2 < 2 ^ 32 - 1)) = true → s.To (.nvSlotUpdate (.eng 0) v) fun t =>
      t.To .nvOperationDone fun u => u.slotValue ring = s.pair W_NVS NVS_SLOTVAL_LO % 2 ^ 64 ∧ u.nv.job = none ∧
        ∀ b, b / 256 ≠ 0x340 + ring → u.nvByte b = s.nvByte b) ∧
    (ringFree → s.To (.nvSlotFetch (.eng 0) v) fun t => t.pair W_NVS NVS_SLOTVAL_LO = s.slotValue ring ∧ t.nv.cells = n.cells)

/-- R443 to R457. For a soft reset without EARLYOUT; a script's writes are its own. -/
def Obligations.PowerAndReset : Prop :=
  ∀ (s : State) (r : Req) (id : Fin 8) (boot : Fin 4) (cond : Fin 7) (fin : Fin 8) (v : Word), s.Inv → s.sys.soft = false →
    let y := s.sys
    let n := s.nv
    let e0 := fun (t : State) b => t.evPending (evNo 0 b) = true
    let g := fun (t : State) (f : Fld) => t.get W_SYS f
    let pw := fun (t : State) (f : Fld) => t.get W_PWR f
    let up := fun (t : State) => t.sys.phase = .released ∧ t.tb = s.tb ∧ t.mem = s.mem ∧ t.pending = s.pending ∧
      g t SYS_STATE_STRAPS = boot ∧ g t SYS_STATE_ID = id ∧ g t SYS_STATE_LASTRST = y.cause % 4 ∧ t.get W_GL GL_STATE_ID = id ∧
      t.flag W_GL GL_STATE_ANCHOR = decide (id = 0) ∧ t.get W_HIF HIF_STATE_I2CADDR = (0x58 + id) % 128 ∧ pw t PWR_STATE_VINOK = 1 ∧
      g t SYS_STATE_SRCUSED = (if s.flag W_SYS SYS_BOOTSRC_OVR then g s SYS_BOOTSRC_SRC else boot.val) ∧
      (let k := if y.cause = 1 then 2 else 1; lget 0 t.hlth.life k = min (2 ^ 32 - 1) (lget 0 s.hlth.life k + 1)) ∧
      (s.dirCopy = none → s.flag W_SYS SYS_BOOTSRC_OVR = false → boot = 0 ∨ boot = 3 → e0 t 20 ∧ g t SYS_STS_CAUSE = 1)
    let detects := s.released = true ∧ y.conds.contains cond.val = false ∧ (cond.val = 0 → y.armed = true)
    let shows := fun (t : State) => pw t PWR_STATE_SUPBAD = b2n (!t.sys.conds.isEmpty) ∧
      (∀ k, k < 5 → bitOf (pw t PWR_STATE_RAILBAD) k = t.sys.conds.contains (2 + k)) ∧
      bitOf (pw t PWR_STATE_VINCOND) 0 = (t.sys.conds.contains 0 || t.sys.conds.contains 8) ∧
      bitOf (pw t PWR_STATE_VINCOND) 1 = t.sys.conds.contains 1
    let blank := fun (t : State) => t.regs = State.reset.regs ∧ t.mem = State.reset.mem ∧ t.tb = State.reset.tb ∧ t.engs = State.reset.engs ∧
      t.hlth = State.reset.hlth ∧ t.cal = State.reset.cal ∧ t.queues = State.reset.queues ∧ t.outs = State.reset.outs ∧
      t.flt.st = .idle ∧ t.flt.finLow = s.flt.finLow ∧ t.hif.perst = s.hif.perst ∧ t.pending = s.pending ∧ t.out = s.out ∧
      t.nv.pwds = n.pwds ∧ t.nv.job = none ∧ t.nv.wait = [] ∧ (n.job = none → t.nv.cells = n.cells)
    let cut := fun (t : State) (j : NvJob) => (List.range (j.rows.length + 1)).any (fun k =>
      t.nv.cells == (s.nvRowsWrite (j.rows.take k)).nv.cells) = true
    let done := g s SYS_STATE_BOOTST = 1
    let kept := fun (t : State) => t.tb.c = s.tb.c ∧ t.tb.running = s.tb.running ∧ t.mem = s.mem ∧ t.pending = s.pending ∧
      t.rn W_GUARD GUARD_LOCK = s.rn W_GUARD GUARD_LOCK ∧ t.rn W_FLT FLT_REC_W2 = s.rn W_FLT FLT_REC_W2 ∧
      t.rn W_FLT FLT_LATCHCNT = s.rn W_FLT FLT_LATCHCNT ∧ t.rn W_SYS SYS_BOOTSRC = s.rn W_SYS SYS_BOOTSRC ∧
      t.rn W_PWR PWR_TLIM = s.rn W_PWR PWR_TLIM ∧ t.nv.pwds = n.pwds ∧ (n.job = none → t.nv.cells = n.cells) ∧
      t.get W_NVS NVS_STATE_LOCKOUT = s.get W_NVS NVS_STATE_LOCKOUT
    let vS := BitVec.ofNat 32 (putBits v.toNat 0 16 0x5e7a)
    let vB := BitVec.ofNat 32 (putBits v.toNat 16 16 0xb10c)
    let aS := regAddr W_SYS SYS_SOFTRST
    let aB := regAddr W_SYS SYS_BLKRST
    let w := v.toNat % 256
    let off := bitsOf v.toNat 8 8 * 4
    let resettable := w ≠ W_SYS ∧ w ≠ W_GUARD ∧ w ≠ W_FLT ∧ w ≠ W_PWR ∧ w ≠ W_HIF ∧ winBlock w ≠ none
    (y.vinOn = false → s.To .vinOn (· = s.setSys { y with vinOn := true, phase := if y.phase = .off ∧ y.thermal = false then .rails else y.phase })) ∧
    (y.vinOn = true → s.To .vinOn (· = s)) ∧
    (y.phase = .rails → y.thermal = false → y.rstLow = false → s.To (.porRelease id boot) up) ∧
    (y.phase = .rails → y.thermal = false → y.rstLow = true → s.To (.porRelease id boot) (· = s.setSys { y with phase := .held })) ∧
    (y.phase ≠ .rails ∨ y.thermal = true → s.To (.porRelease id boot) (· = s)) ∧
    (y.rstLow = false → s.released = true → s.To .resetNAssert fun t => blank t ∧
      t.sys = { State.reset.sys with vinOn := y.vinOn, rstLow := true, phase := .held, cause := 1 }) ∧
    (y.rstLow = false → s.released = false → s.To .resetNAssert (· = s.setSys { y with rstLow := true })) ∧
    (y.rstLow = true → s.To .resetNAssert (· = s)) ∧
    (y.rstLow = true → y.phase = .held → s.To (.resetNRelease id boot) fun t => up t ∧ t.sys.rstLow = false) ∧
    (y.rstLow = true → y.phase ≠ .held → s.To (.resetNRelease id boot) (· = s.setSys { y with rstLow := false })) ∧
    (y.rstLow = false → s.To (.resetNRelease id boot) (· = s)) ∧
    (y.phase = .released → s.tb.running = false → s.To .tbPllLock fun t => t.tb.running = true ∧ (t.sys.phase = .loading ∨ t.sys.phase = .done) ∧
      (bitOf s.bootSettings 0 = false → t.tb.c = 0 ∧ t.tb.t = 0 ∧ (t.sys.phase = .done → g t SYS_STATE_BOOTST = 1 ∧ e0 t 19) ∧
        (g s SYS_STATE_SRCUSED = 2 → t.sys.phase = .done ∧ ∀ k, k < 11 → (t.eng k).st = .empty) ∧
        (g s SYS_STATE_SRCUSED = 1 → t.ldr.phase = .check ∧ t.ldr.target = 0 ∧ t.ldr.src = 2))) ∧
    (y.phase ≠ .released ∨ s.tb.running = true → s.To .tbPllLock (· = s)) ∧
    (detects → s.To (.supplyDetection cond) fun t => t.sys = { y with conds := y.conds ++ [cond.val] } ∧ shows t ∧ e0 t 16 ∧
      t.flt.msgs = s.flt.msgs ++ [⟨W_PWR, K_SUPPLY, regAddr W_PWR PWR_STATE, false⟩]) ∧
    (¬ detects → s.To (.supplyDetection cond) (· = s)) ∧
    (fin ≠ 7 → s.To (.supplyConditionEnd fin) fun t => shows t ∧ t.sys.conds.contains fin.val = false ∧ t.flt = s.flt ∧
      (∀ k, k < 7 → k ≠ fin.val → t.sys.conds.contains k = y.conds.contains k) ∧ t.sys.armed = (y.armed || decide (fin = 0))) ∧
    (fin = 7 → s.To (.supplyConditionEnd fin) fun t => pw t PWR_STATE_VINFAIL = 0 ∧ t.pwrHold = false ∧ t.sys = y) ∧
    (s.released = true → y.armed = false → s.To .vinlowArmTimeout fun t => t.sys.armed = true ∧ shows t ∧ pw t PWR_STATE_SUPBAD = 1 ∧
      bitOf (pw t PWR_STATE_VINCOND) 0 = true ∧ t.flt = s.flt) ∧
    (s.released = false ∨ y.armed = true → s.To .vinlowArmTimeout (· = s)) ∧
    (s.released = true → s.To .vinFail fun t => pw t PWR_STATE_VINFAIL = 1 ∧ t.pwrHold = true ∧ (n.job = none → t.nv = n) ∧
      ∀ j, n.job = some j → n.wait = [] → cut t j) ∧
    (s.released = false → s.To .vinFail (· = s)) ∧
    s.To .vinOff (fun t => blank t ∧ t.sys = { State.reset.sys with rstLow := y.rstLow } ∧ ∀ j, n.job = some j → n.wait = [] → cut t j) ∧
    s.To .thermalReset (fun t => blank t ∧ t.sys = { State.reset.sys with vinOn := y.vinOn, rstLow := y.rstLow, thermal := true, cause := 3 }) ∧
    (y.thermal = true → s.To .thermalResetRelease (· = s.setSys { y with thermal := false, phase := if y.vinOn then .rails else .off })) ∧
    (y.thermal = false → s.To .thermalResetRelease (· = s)) ∧
    (inReach r true aS = true → done → bitOf s.bootSettings 0 = false → n.job = none → s.To (.softReset r v) fun t =>
      t.Answered r aS .ok vS ∧ kept t ∧ t.tb.t = s.tb.t ∧ g t SYS_STATE_LASTRST = 2 ∧ (∀ k, k < 40 → t.outst k = 0) ∧
      (t.sys.phase = .loading ∧ g t SYS_STATE_BOOTST = 0 ∨ t.sys.phase = .done ∧ g t SYS_STATE_BOOTST = 1 ∧ e0 t 23) ∧
      lget 0 t.hlth.life 3 = min (2 ^ 32 - 1) (lget 0 s.hlth.life 3 + 1) ∧ t.flt.st = .idle ∧ t.seqSt = 0 ∧
      t.get W_NVS NVS_STATE_RUNLK = 0 ∧ t.get W_NVS NVS_STATE_WUNLK = 0) ∧
    (inReach r true aS = true → ¬ done → s.To (.softReset r v) fun t => t.Answered r aS .wign vS ∧ t.sys = y ∧ t.tb = s.tb ∧ t.mem = s.mem) ∧
    (inReach r true aB = true → done → resettable → s.To (.blockReset r v) fun t => t.Answered r aB .ok vB ∧ kept t ∧ t.sys = y ∧
      t.hlth.life.drop 32 = s.hlth.life.drop 32 ∧
      (0x10 ≤ w ∧ w < 0x25 ∨ 0x26 ≤ w ∧ w < 0x28 ∨ 0x2c ≤ w ∧ w < 0x54 → s.keepsReg w off = false →
        t.rn w off = State.reset.rn w off)) ∧
    (inReach r true aB = true → ¬ done ∨ ¬ resettable → s.To (.blockReset r v) fun t => t.Answered r aB .wign vB ∧ t.tb = s.tb ∧ t.mem = s.mem ∧
      t.hlth = s.hlth ∧ t.sys = y)
end

