-- ==== Sys2Proof/Laws/Access.lean ====
section
/-!
SUPPORT. The laws of a register access (chapter 15): what decides before the block is asked, that a plain whole-word write
in reach is its block's answer, recorded, and what that answer is for a command register.
-/

namespace Sys2Proof.Machine

variable {s : State} {r : Req} {w off v : Nat}

theorem regAddr_div (ho : off < 0x4000) : regAddr w off / 0x4000 = w := by unfold regAddr; omega

theorem regAddr_mod (ho : off < 0x1000) : regAddr w off % 0x1000 = off := by unfold regAddr; omega

theorem regAddr_window (ho : off < 0x4000) : regAddr w off % 0x4000 = off := by unfold regAddr; omega

/-- A register's own address is no alias. -/
theorem formOf_plain (ho : off < 0x1000) : formOf off = .plain := by
  have : off / 0x1000 = 0 := by omega
  simp [formOf, this]

/-- A whole-word access in reach of an aligned address reaches its block. -/
theorem early_none {write : Bool} {a : Nat} (hr : inReach r write a = true) (ha : a % 4 = 0) : early r write a 15 = none := by
  simp only [early, hr, ha]
  cases write <;> rfl

/-- A plain write of a block's register in reach is the register window's answer, recorded (R354, R355). -/
theorem State.coreWrite_reg (hr : inReach r true (regAddr w off) = true) (h4 : off % 4 = 0) (hw : w < 0x80) (ho : off < 0x1000) :
    s.coreWrite r (regAddr w off) 15 v =
      ((s.regWrite r w off .plain v).1, (s.regWrite r w off .plain v).2.accRecord r true (regAddr w off) (s.regWrite r w off .plain v).1) := by
  have ha : regAddr w off % 4 = 0 := by unfold regAddr; omega
  have hm : regAddr w off % 0x40_0000 = regAddr w off := by unfold regAddr; omega
  have hlt : ¬ 0x20_0000 ≤ regAddr w off := by unfold regAddr; omega
  have ho' : off < 0x4000 := by omega
  simp only [State.coreWrite, early_none hr ha, hm, State.blockWrite, hlt, if_false, regAddr_div ho', regAddr_mod ho,
    regAddr_window ho', formOf_plain ho]

/-- A command register that nothing refuses does its command (R356, R364). -/
theorem State.regWrite_cmd {row : RegRow} (hrow : regRow w off = some row) (hc : row.cls = .cmd) (hg : w ≠ W_GUARD)
    (hl : s.writeLocked w off .plain v = false) (hm : mayWrite r w off = true)
    (hn : s.refuses r w off (s.view w off) v = none) (hs : stagedReg w off = false) :
    s.regWrite r w off .plain v =
      (if w = W_CAL ∧ off = CAL_SEQCMD ∧ s.seqStartWign v then .wign else .ok, s.cmdEffect r w off v) := by
  simp [State.regWrite, hrow, hc, hl, hg, State.cmdWrite, hm, hn, hs]

/-- An access that ends OK is not recorded. -/
theorem State.accRecord_ok (write : Bool) (a : Nat) : s.accRecord r write a .ok = s := rfl

/-- While no soft reset is being completed, an access ends with itself (R449). -/
theorem State.softResume_of (h : s.sys.soft = false) : s.softResume = s := by simp [State.softResume, h]

end Sys2Proof.Machine
end

