-- ==== Sys2Proof/Laws/Lists.lean ====
section
/-!
SUPPORT. The laws of numbered elements: what a list reads as after an element of it is put or changed. A put beyond the
end fills up with the default that such a read gives.
-/

namespace Sys2Proof.Machine

variable {α : Type} (d : α) (l : List α) (n m : Nat) (v : α) (f : α → α)

/-- The element put reads as the value put, every other as before. -/
theorem lget_lput : lget d (lput d l n v) m = if m = n then v else lget d l m := by
  unfold lget lput
  split
  · simp only [List.getD_eq_getElem?_getD, List.getElem?_set]
    by_cases h : n = m
    · subst h; simp [*]
    · simp [h, Ne.symm h]
  · rename_i hn
    simp only [List.getD_eq_getElem?_getD, List.getElem?_append, List.length_append, List.length_replicate,
      List.getElem?_replicate, List.getElem?_singleton]
    have h0 : l.length + (n - l.length) = n := by omega
    rw [h0]
    by_cases h1 : m < n
    · have h2 : m ≠ n := by omega
      simp only [h1, if_true, h2, if_false]
      by_cases h3 : m < l.length
      · simp [h3]
      · have h4 : m - l.length < n - l.length := by omega
        simp [h3, h4]
    · by_cases h2 : m = n
      · subst h2; simp
      · have h3 : ¬ m < l.length := by omega
        have h4 : m - n ≠ 0 := by omega
        simp [h1, h2, h3, h4]

@[simp] theorem lget_lput_same : lget d (lput d l n v) n = v := by simp [lget_lput]

theorem lget_lput_other (h : m ≠ n) : lget d (lput d l n v) m = lget d l m := by simp [lget_lput, h]

/-- The element changed reads as changed, every other as before. -/
theorem lget_lupd : lget d (lupd d l n f) m = if m = n then f (lget d l n) else lget d l m := by simp [lupd, lget_lput]

@[simp] theorem lget_lupd_same : lget d (lupd d l n f) n = f (lget d l n) := by simp [lget_lupd]

/-- A put within the list keeps its length. -/
theorem length_lput (h : n < l.length) : (lput d l n v).length = l.length := by simp [lput, h]

@[simp] theorem length_lmod : (lmod l n f).length = l.length := by simp [lmod]

/-- Of a list of fixed size, whose elements are changed in place. -/
theorem lget_lmod : lget d (lmod l n f) m = if m = n ∧ n < l.length then f (lget d l n) else lget d l m := by
  unfold lget lmod
  simp only [List.getD_eq_getElem?_getD, List.getElem?_modify]
  by_cases h : n = m
  · subst h
    by_cases hl : n < l.length <;> simp [hl]
  · simp [h, Ne.symm h]

end Sys2Proof.Machine
end

