-- ==== Sys2Proof/Laws/State.lean ====
section
/-!
SUPPORT. What each small update of the state leaves in each field: one lemma per field and update, by rfl.
-/

namespace Sys2Proof.Machine

variable (s : State)

/-! ### setRegs -/

@[simp] theorem State.setRegs_pending (l : List (Nat × Word)) : (s.setRegs l).pending = s.pending := rfl
@[simp] theorem State.setRegs_regs (l : List (Nat × Word)) : (s.setRegs l).regs = l := rfl
@[simp] theorem State.setRegs_mem (l : List (Nat × Word)) : (s.setRegs l).mem = s.mem := rfl
@[simp] theorem State.setRegs_ecc (l : List (Nat × Word)) : (s.setRegs l).ecc = s.ecc := rfl
@[simp] theorem State.setRegs_par (l : List (Nat × Word)) : (s.setRegs l).par = s.par := rfl
@[simp] theorem State.setRegs_acc (l : List (Nat × Word)) : (s.setRegs l).acc = s.acc := rfl
@[simp] theorem State.setRegs_hif (l : List (Nat × Word)) : (s.setRegs l).hif = s.hif := rfl
@[simp] theorem State.setRegs_queues (l : List (Nat × Word)) : (s.setRegs l).queues = s.queues := rfl
@[simp] theorem State.setRegs_rings (l : List (Nat × Word)) : (s.setRegs l).rings = s.rings := rfl
@[simp] theorem State.setRegs_flt (l : List (Nat × Word)) : (s.setRegs l).flt = s.flt := rfl
@[simp] theorem State.setRegs_tb (l : List (Nat × Word)) : (s.setRegs l).tb = s.tb := rfl
@[simp] theorem State.setRegs_tev (l : List (Nat × Word)) : (s.setRegs l).tev = s.tev := rfl
@[simp] theorem State.setRegs_srcs (l : List (Nat × Word)) : (s.setRegs l).srcs = s.srcs := rfl
@[simp] theorem State.setRegs_mon (l : List (Nat × Word)) : (s.setRegs l).mon = s.mon := rfl
@[simp] theorem State.setRegs_sels (l : List (Nat × Word)) : (s.setRegs l).sels = s.sels := rfl
@[simp] theorem State.setRegs_dplls (l : List (Nat × Word)) : (s.setRegs l).dplls = s.dplls := rfl
@[simp] theorem State.setRegs_osc (l : List (Nat × Word)) : (s.setRegs l).osc = s.osc := rfl
@[simp] theorem State.setRegs_brg (l : List (Nat × Word)) : (s.setRegs l).brg = s.brg := rfl
@[simp] theorem State.setRegs_aplls (l : List (Nat × Word)) : (s.setRegs l).aplls = s.aplls := rfl
@[simp] theorem State.setRegs_outs (l : List (Nat × Word)) : (s.setRegs l).outs = s.outs := rfl
@[simp] theorem State.setRegs_sync (l : List (Nat × Word)) : (s.setRegs l).sync = s.sync := rfl
@[simp] theorem State.setRegs_gl (l : List (Nat × Word)) : (s.setRegs l).gl = s.gl := rfl
@[simp] theorem State.setRegs_ptps (l : List (Nat × Word)) : (s.setRegs l).ptps = s.ptps := rfl
@[simp] theorem State.setRegs_tod (l : List (Nat × Word)) : (s.setRegs l).tod = s.tod := rfl
@[simp] theorem State.setRegs_engs (l : List (Nat × Word)) : (s.setRegs l).engs = s.engs := rfl
@[simp] theorem State.setRegs_ldr (l : List (Nat × Word)) : (s.setRegs l).ldr = s.ldr := rfl
@[simp] theorem State.setRegs_cal (l : List (Nat × Word)) : (s.setRegs l).cal = s.cal := rfl
@[simp] theorem State.setRegs_hlth (l : List (Nat × Word)) : (s.setRegs l).hlth = s.hlth := rfl
@[simp] theorem State.setRegs_nv (l : List (Nat × Word)) : (s.setRegs l).nv = s.nv := rfl
@[simp] theorem State.setRegs_sys (l : List (Nat × Word)) : (s.setRegs l).sys = s.sys := rfl
@[simp] theorem State.setRegs_lps (l : List (Nat × Word)) : (s.setRegs l).lps = s.lps := rfl
@[simp] theorem State.setRegs_blks (l : List (Nat × Word)) : (s.setRegs l).blks = s.blks := rfl
@[simp] theorem State.setRegs_sup (l : List (Nat × Word)) : (s.setRegs l).sup = s.sup := rfl
@[simp] theorem State.setRegs_out (l : List (Nat × Word)) : (s.setRegs l).out = s.out := rfl
@[simp] theorem State.setRegs_freeCtr (l : List (Nat × Word)) : (s.setRegs l).freeCtr = s.freeCtr := rfl

/-! ### setPar -/

@[simp] theorem State.setPar_pending (l : List (Nat × Bool)) : (s.setPar l).pending = s.pending := rfl
@[simp] theorem State.setPar_regs (l : List (Nat × Bool)) : (s.setPar l).regs = s.regs := rfl
@[simp] theorem State.setPar_mem (l : List (Nat × Bool)) : (s.setPar l).mem = s.mem := rfl
@[simp] theorem State.setPar_ecc (l : List (Nat × Bool)) : (s.setPar l).ecc = s.ecc := rfl
@[simp] theorem State.setPar_par (l : List (Nat × Bool)) : (s.setPar l).par = l := rfl
@[simp] theorem State.setPar_acc (l : List (Nat × Bool)) : (s.setPar l).acc = s.acc := rfl
@[simp] theorem State.setPar_hif (l : List (Nat × Bool)) : (s.setPar l).hif = s.hif := rfl
@[simp] theorem State.setPar_queues (l : List (Nat × Bool)) : (s.setPar l).queues = s.queues := rfl
@[simp] theorem State.setPar_rings (l : List (Nat × Bool)) : (s.setPar l).rings = s.rings := rfl
@[simp] theorem State.setPar_flt (l : List (Nat × Bool)) : (s.setPar l).flt = s.flt := rfl
@[simp] theorem State.setPar_tb (l : List (Nat × Bool)) : (s.setPar l).tb = s.tb := rfl
@[simp] theorem State.setPar_tev (l : List (Nat × Bool)) : (s.setPar l).tev = s.tev := rfl
@[simp] theorem State.setPar_srcs (l : List (Nat × Bool)) : (s.setPar l).srcs = s.srcs := rfl
@[simp] theorem State.setPar_mon (l : List (Nat × Bool)) : (s.setPar l).mon = s.mon := rfl
@[simp] theorem State.setPar_sels (l : List (Nat × Bool)) : (s.setPar l).sels = s.sels := rfl
@[simp] theorem State.setPar_dplls (l : List (Nat × Bool)) : (s.setPar l).dplls = s.dplls := rfl
@[simp] theorem State.setPar_osc (l : List (Nat × Bool)) : (s.setPar l).osc = s.osc := rfl
@[simp] theorem State.setPar_brg (l : List (Nat × Bool)) : (s.setPar l).brg = s.brg := rfl
@[simp] theorem State.setPar_aplls (l : List (Nat × Bool)) : (s.setPar l).aplls = s.aplls := rfl
@[simp] theorem State.setPar_outs (l : List (Nat × Bool)) : (s.setPar l).outs = s.outs := rfl
@[simp] theorem State.setPar_sync (l : List (Nat × Bool)) : (s.setPar l).sync = s.sync := rfl
@[simp] theorem State.setPar_gl (l : List (Nat × Bool)) : (s.setPar l).gl = s.gl := rfl
@[simp] theorem State.setPar_ptps (l : List (Nat × Bool)) : (s.setPar l).ptps = s.ptps := rfl
@[simp] theorem State.setPar_tod (l : List (Nat × Bool)) : (s.setPar l).tod = s.tod := rfl
@[simp] theorem State.setPar_engs (l : List (Nat × Bool)) : (s.setPar l).engs = s.engs := rfl
@[simp] theorem State.setPar_ldr (l : List (Nat × Bool)) : (s.setPar l).ldr = s.ldr := rfl
@[simp] theorem State.setPar_cal (l : List (Nat × Bool)) : (s.setPar l).cal = s.cal := rfl
@[simp] theorem State.setPar_hlth (l : List (Nat × Bool)) : (s.setPar l).hlth = s.hlth := rfl
@[simp] theorem State.setPar_nv (l : List (Nat × Bool)) : (s.setPar l).nv = s.nv := rfl
@[simp] theorem State.setPar_sys (l : List (Nat × Bool)) : (s.setPar l).sys = s.sys := rfl
@[simp] theorem State.setPar_lps (l : List (Nat × Bool)) : (s.setPar l).lps = s.lps := rfl
@[simp] theorem State.setPar_blks (l : List (Nat × Bool)) : (s.setPar l).blks = s.blks := rfl
@[simp] theorem State.setPar_sup (l : List (Nat × Bool)) : (s.setPar l).sup = s.sup := rfl
@[simp] theorem State.setPar_out (l : List (Nat × Bool)) : (s.setPar l).out = s.out := rfl
@[simp] theorem State.setPar_freeCtr (l : List (Nat × Bool)) : (s.setPar l).freeCtr = s.freeCtr := rfl

/-! ### setMem -/

@[simp] theorem State.setMem_pending (l : List Host.Cell) : (s.setMem l).pending = s.pending := rfl
@[simp] theorem State.setMem_regs (l : List Host.Cell) : (s.setMem l).regs = s.regs := rfl
@[simp] theorem State.setMem_mem (l : List Host.Cell) : (s.setMem l).mem = l := rfl
@[simp] theorem State.setMem_ecc (l : List Host.Cell) : (s.setMem l).ecc = s.ecc := rfl
@[simp] theorem State.setMem_par (l : List Host.Cell) : (s.setMem l).par = s.par := rfl
@[simp] theorem State.setMem_acc (l : List Host.Cell) : (s.setMem l).acc = s.acc := rfl
@[simp] theorem State.setMem_hif (l : List Host.Cell) : (s.setMem l).hif = s.hif := rfl
@[simp] theorem State.setMem_queues (l : List Host.Cell) : (s.setMem l).queues = s.queues := rfl
@[simp] theorem State.setMem_rings (l : List Host.Cell) : (s.setMem l).rings = s.rings := rfl
@[simp] theorem State.setMem_flt (l : List Host.Cell) : (s.setMem l).flt = s.flt := rfl
@[simp] theorem State.setMem_tb (l : List Host.Cell) : (s.setMem l).tb = s.tb := rfl
@[simp] theorem State.setMem_tev (l : List Host.Cell) : (s.setMem l).tev = s.tev := rfl
@[simp] theorem State.setMem_srcs (l : List Host.Cell) : (s.setMem l).srcs = s.srcs := rfl
@[simp] theorem State.setMem_mon (l : List Host.Cell) : (s.setMem l).mon = s.mon := rfl
@[simp] theorem State.setMem_sels (l : List Host.Cell) : (s.setMem l).sels = s.sels := rfl
@[simp] theorem State.setMem_dplls (l : List Host.Cell) : (s.setMem l).dplls = s.dplls := rfl
@[simp] theorem State.setMem_osc (l : List Host.Cell) : (s.setMem l).osc = s.osc := rfl
@[simp] theorem State.setMem_brg (l : List Host.Cell) : (s.setMem l).brg = s.brg := rfl
@[simp] theorem State.setMem_aplls (l : List Host.Cell) : (s.setMem l).aplls = s.aplls := rfl
@[simp] theorem State.setMem_outs (l : List Host.Cell) : (s.setMem l).outs = s.outs := rfl
@[simp] theorem State.setMem_sync (l : List Host.Cell) : (s.setMem l).sync = s.sync := rfl
@[simp] theorem State.setMem_gl (l : List Host.Cell) : (s.setMem l).gl = s.gl := rfl
@[simp] theorem State.setMem_ptps (l : List Host.Cell) : (s.setMem l).ptps = s.ptps := rfl
@[simp] theorem State.setMem_tod (l : List Host.Cell) : (s.setMem l).tod = s.tod := rfl
@[simp] theorem State.setMem_engs (l : List Host.Cell) : (s.setMem l).engs = s.engs := rfl
@[simp] theorem State.setMem_ldr (l : List Host.Cell) : (s.setMem l).ldr = s.ldr := rfl
@[simp] theorem State.setMem_cal (l : List Host.Cell) : (s.setMem l).cal = s.cal := rfl
@[simp] theorem State.setMem_hlth (l : List Host.Cell) : (s.setMem l).hlth = s.hlth := rfl
@[simp] theorem State.setMem_nv (l : List Host.Cell) : (s.setMem l).nv = s.nv := rfl
@[simp] theorem State.setMem_sys (l : List Host.Cell) : (s.setMem l).sys = s.sys := rfl
@[simp] theorem State.setMem_lps (l : List Host.Cell) : (s.setMem l).lps = s.lps := rfl
@[simp] theorem State.setMem_blks (l : List Host.Cell) : (s.setMem l).blks = s.blks := rfl
@[simp] theorem State.setMem_sup (l : List Host.Cell) : (s.setMem l).sup = s.sup := rfl
@[simp] theorem State.setMem_out (l : List Host.Cell) : (s.setMem l).out = s.out := rfl
@[simp] theorem State.setMem_freeCtr (l : List Host.Cell) : (s.setMem l).freeCtr = s.freeCtr := rfl

/-! ### setEcc -/

@[simp] theorem State.setEcc_pending (l : List (Nat × Bool)) : (s.setEcc l).pending = s.pending := rfl
@[simp] theorem State.setEcc_regs (l : List (Nat × Bool)) : (s.setEcc l).regs = s.regs := rfl
@[simp] theorem State.setEcc_mem (l : List (Nat × Bool)) : (s.setEcc l).mem = s.mem := rfl
@[simp] theorem State.setEcc_ecc (l : List (Nat × Bool)) : (s.setEcc l).ecc = l := rfl
@[simp] theorem State.setEcc_par (l : List (Nat × Bool)) : (s.setEcc l).par = s.par := rfl
@[simp] theorem State.setEcc_acc (l : List (Nat × Bool)) : (s.setEcc l).acc = s.acc := rfl
@[simp] theorem State.setEcc_hif (l : List (Nat × Bool)) : (s.setEcc l).hif = s.hif := rfl
@[simp] theorem State.setEcc_queues (l : List (Nat × Bool)) : (s.setEcc l).queues = s.queues := rfl
@[simp] theorem State.setEcc_rings (l : List (Nat × Bool)) : (s.setEcc l).rings = s.rings := rfl
@[simp] theorem State.setEcc_flt (l : List (Nat × Bool)) : (s.setEcc l).flt = s.flt := rfl
@[simp] theorem State.setEcc_tb (l : List (Nat × Bool)) : (s.setEcc l).tb = s.tb := rfl
@[simp] theorem State.setEcc_tev (l : List (Nat × Bool)) : (s.setEcc l).tev = s.tev := rfl
@[simp] theorem State.setEcc_srcs (l : List (Nat × Bool)) : (s.setEcc l).srcs = s.srcs := rfl
@[simp] theorem State.setEcc_mon (l : List (Nat × Bool)) : (s.setEcc l).mon = s.mon := rfl
@[simp] theorem State.setEcc_sels (l : List (Nat × Bool)) : (s.setEcc l).sels = s.sels := rfl
@[simp] theorem State.setEcc_dplls (l : List (Nat × Bool)) : (s.setEcc l).dplls = s.dplls := rfl
@[simp] theorem State.setEcc_osc (l : List (Nat × Bool)) : (s.setEcc l).osc = s.osc := rfl
@[simp] theorem State.setEcc_brg (l : List (Nat × Bool)) : (s.setEcc l).brg = s.brg := rfl
@[simp] theorem State.setEcc_aplls (l : List (Nat × Bool)) : (s.setEcc l).aplls = s.aplls := rfl
@[simp] theorem State.setEcc_outs (l : List (Nat × Bool)) : (s.setEcc l).outs = s.outs := rfl
@[simp] theorem State.setEcc_sync (l : List (Nat × Bool)) : (s.setEcc l).sync = s.sync := rfl
@[simp] theorem State.setEcc_gl (l : List (Nat × Bool)) : (s.setEcc l).gl = s.gl := rfl
@[simp] theorem State.setEcc_ptps (l : List (Nat × Bool)) : (s.setEcc l).ptps = s.ptps := rfl
@[simp] theorem State.setEcc_tod (l : List (Nat × Bool)) : (s.setEcc l).tod = s.tod := rfl
@[simp] theorem State.setEcc_engs (l : List (Nat × Bool)) : (s.setEcc l).engs = s.engs := rfl
@[simp] theorem State.setEcc_ldr (l : List (Nat × Bool)) : (s.setEcc l).ldr = s.ldr := rfl
@[simp] theorem State.setEcc_cal (l : List (Nat × Bool)) : (s.setEcc l).cal = s.cal := rfl
@[simp] theorem State.setEcc_hlth (l : List (Nat × Bool)) : (s.setEcc l).hlth = s.hlth := rfl
@[simp] theorem State.setEcc_nv (l : List (Nat × Bool)) : (s.setEcc l).nv = s.nv := rfl
@[simp] theorem State.setEcc_sys (l : List (Nat × Bool)) : (s.setEcc l).sys = s.sys := rfl
@[simp] theorem State.setEcc_lps (l : List (Nat × Bool)) : (s.setEcc l).lps = s.lps := rfl
@[simp] theorem State.setEcc_blks (l : List (Nat × Bool)) : (s.setEcc l).blks = s.blks := rfl
@[simp] theorem State.setEcc_sup (l : List (Nat × Bool)) : (s.setEcc l).sup = s.sup := rfl
@[simp] theorem State.setEcc_out (l : List (Nat × Bool)) : (s.setEcc l).out = s.out := rfl
@[simp] theorem State.setEcc_freeCtr (l : List (Nat × Bool)) : (s.setEcc l).freeCtr = s.freeCtr := rfl

/-! ### setAcc -/

@[simp] theorem State.setAcc_pending (x : AccSt) : (s.setAcc x).pending = s.pending := rfl
@[simp] theorem State.setAcc_regs (x : AccSt) : (s.setAcc x).regs = s.regs := rfl
@[simp] theorem State.setAcc_mem (x : AccSt) : (s.setAcc x).mem = s.mem := rfl
@[simp] theorem State.setAcc_ecc (x : AccSt) : (s.setAcc x).ecc = s.ecc := rfl
@[simp] theorem State.setAcc_par (x : AccSt) : (s.setAcc x).par = s.par := rfl
@[simp] theorem State.setAcc_acc (x : AccSt) : (s.setAcc x).acc = x := rfl
@[simp] theorem State.setAcc_hif (x : AccSt) : (s.setAcc x).hif = s.hif := rfl
@[simp] theorem State.setAcc_queues (x : AccSt) : (s.setAcc x).queues = s.queues := rfl
@[simp] theorem State.setAcc_rings (x : AccSt) : (s.setAcc x).rings = s.rings := rfl
@[simp] theorem State.setAcc_flt (x : AccSt) : (s.setAcc x).flt = s.flt := rfl
@[simp] theorem State.setAcc_tb (x : AccSt) : (s.setAcc x).tb = s.tb := rfl
@[simp] theorem State.setAcc_tev (x : AccSt) : (s.setAcc x).tev = s.tev := rfl
@[simp] theorem State.setAcc_srcs (x : AccSt) : (s.setAcc x).srcs = s.srcs := rfl
@[simp] theorem State.setAcc_mon (x : AccSt) : (s.setAcc x).mon = s.mon := rfl
@[simp] theorem State.setAcc_sels (x : AccSt) : (s.setAcc x).sels = s.sels := rfl
@[simp] theorem State.setAcc_dplls (x : AccSt) : (s.setAcc x).dplls = s.dplls := rfl
@[simp] theorem State.setAcc_osc (x : AccSt) : (s.setAcc x).osc = s.osc := rfl
@[simp] theorem State.setAcc_brg (x : AccSt) : (s.setAcc x).brg = s.brg := rfl
@[simp] theorem State.setAcc_aplls (x : AccSt) : (s.setAcc x).aplls = s.aplls := rfl
@[simp] theorem State.setAcc_outs (x : AccSt) : (s.setAcc x).outs = s.outs := rfl
@[simp] theorem State.setAcc_sync (x : AccSt) : (s.setAcc x).sync = s.sync := rfl
@[simp] theorem State.setAcc_gl (x : AccSt) : (s.setAcc x).gl = s.gl := rfl
@[simp] theorem State.setAcc_ptps (x : AccSt) : (s.setAcc x).ptps = s.ptps := rfl
@[simp] theorem State.setAcc_tod (x : AccSt) : (s.setAcc x).tod = s.tod := rfl
@[simp] theorem State.setAcc_engs (x : AccSt) : (s.setAcc x).engs = s.engs := rfl
@[simp] theorem State.setAcc_ldr (x : AccSt) : (s.setAcc x).ldr = s.ldr := rfl
@[simp] theorem State.setAcc_cal (x : AccSt) : (s.setAcc x).cal = s.cal := rfl
@[simp] theorem State.setAcc_hlth (x : AccSt) : (s.setAcc x).hlth = s.hlth := rfl
@[simp] theorem State.setAcc_nv (x : AccSt) : (s.setAcc x).nv = s.nv := rfl
@[simp] theorem State.setAcc_sys (x : AccSt) : (s.setAcc x).sys = s.sys := rfl
@[simp] theorem State.setAcc_lps (x : AccSt) : (s.setAcc x).lps = s.lps := rfl
@[simp] theorem State.setAcc_blks (x : AccSt) : (s.setAcc x).blks = s.blks := rfl
@[simp] theorem State.setAcc_sup (x : AccSt) : (s.setAcc x).sup = s.sup := rfl
@[simp] theorem State.setAcc_out (x : AccSt) : (s.setAcc x).out = s.out := rfl
@[simp] theorem State.setAcc_freeCtr (x : AccSt) : (s.setAcc x).freeCtr = s.freeCtr := rfl

/-! ### setHif -/

@[simp] theorem State.setHif_pending (x : HifSt) : (s.setHif x).pending = s.pending := rfl
@[simp] theorem State.setHif_regs (x : HifSt) : (s.setHif x).regs = s.regs := rfl
@[simp] theorem State.setHif_mem (x : HifSt) : (s.setHif x).mem = s.mem := rfl
@[simp] theorem State.setHif_ecc (x : HifSt) : (s.setHif x).ecc = s.ecc := rfl
@[simp] theorem State.setHif_par (x : HifSt) : (s.setHif x).par = s.par := rfl
@[simp] theorem State.setHif_acc (x : HifSt) : (s.setHif x).acc = s.acc := rfl
@[simp] theorem State.setHif_hif (x : HifSt) : (s.setHif x).hif = x := rfl
@[simp] theorem State.setHif_queues (x : HifSt) : (s.setHif x).queues = s.queues := rfl
@[simp] theorem State.setHif_rings (x : HifSt) : (s.setHif x).rings = s.rings := rfl
@[simp] theorem State.setHif_flt (x : HifSt) : (s.setHif x).flt = s.flt := rfl
@[simp] theorem State.setHif_tb (x : HifSt) : (s.setHif x).tb = s.tb := rfl
@[simp] theorem State.setHif_tev (x : HifSt) : (s.setHif x).tev = s.tev := rfl
@[simp] theorem State.setHif_srcs (x : HifSt) : (s.setHif x).srcs = s.srcs := rfl
@[simp] theorem State.setHif_mon (x : HifSt) : (s.setHif x).mon = s.mon := rfl
@[simp] theorem State.setHif_sels (x : HifSt) : (s.setHif x).sels = s.sels := rfl
@[simp] theorem State.setHif_dplls (x : HifSt) : (s.setHif x).dplls = s.dplls := rfl
@[simp] theorem State.setHif_osc (x : HifSt) : (s.setHif x).osc = s.osc := rfl
@[simp] theorem State.setHif_brg (x : HifSt) : (s.setHif x).brg = s.brg := rfl
@[simp] theorem State.setHif_aplls (x : HifSt) : (s.setHif x).aplls = s.aplls := rfl
@[simp] theorem State.setHif_outs (x : HifSt) : (s.setHif x).outs = s.outs := rfl
@[simp] theorem State.setHif_sync (x : HifSt) : (s.setHif x).sync = s.sync := rfl
@[simp] theorem State.setHif_gl (x : HifSt) : (s.setHif x).gl = s.gl := rfl
@[simp] theorem State.setHif_ptps (x : HifSt) : (s.setHif x).ptps = s.ptps := rfl
@[simp] theorem State.setHif_tod (x : HifSt) : (s.setHif x).tod = s.tod := rfl
@[simp] theorem State.setHif_engs (x : HifSt) : (s.setHif x).engs = s.engs := rfl
@[simp] theorem State.setHif_ldr (x : HifSt) : (s.setHif x).ldr = s.ldr := rfl
@[simp] theorem State.setHif_cal (x : HifSt) : (s.setHif x).cal = s.cal := rfl
@[simp] theorem State.setHif_hlth (x : HifSt) : (s.setHif x).hlth = s.hlth := rfl
@[simp] theorem State.setHif_nv (x : HifSt) : (s.setHif x).nv = s.nv := rfl
@[simp] theorem State.setHif_sys (x : HifSt) : (s.setHif x).sys = s.sys := rfl
@[simp] theorem State.setHif_lps (x : HifSt) : (s.setHif x).lps = s.lps := rfl
@[simp] theorem State.setHif_blks (x : HifSt) : (s.setHif x).blks = s.blks := rfl
@[simp] theorem State.setHif_sup (x : HifSt) : (s.setHif x).sup = s.sup := rfl
@[simp] theorem State.setHif_out (x : HifSt) : (s.setHif x).out = s.out := rfl
@[simp] theorem State.setHif_freeCtr (x : HifSt) : (s.setHif x).freeCtr = s.freeCtr := rfl

/-! ### setFlt -/

@[simp] theorem State.setFlt_pending (x : FltSt) : (s.setFlt x).pending = s.pending := rfl
@[simp] theorem State.setFlt_regs (x : FltSt) : (s.setFlt x).regs = s.regs := rfl
@[simp] theorem State.setFlt_mem (x : FltSt) : (s.setFlt x).mem = s.mem := rfl
@[simp] theorem State.setFlt_ecc (x : FltSt) : (s.setFlt x).ecc = s.ecc := rfl
@[simp] theorem State.setFlt_par (x : FltSt) : (s.setFlt x).par = s.par := rfl
@[simp] theorem State.setFlt_acc (x : FltSt) : (s.setFlt x).acc = s.acc := rfl
@[simp] theorem State.setFlt_hif (x : FltSt) : (s.setFlt x).hif = s.hif := rfl
@[simp] theorem State.setFlt_queues (x : FltSt) : (s.setFlt x).queues = s.queues := rfl
@[simp] theorem State.setFlt_rings (x : FltSt) : (s.setFlt x).rings = s.rings := rfl
@[simp] theorem State.setFlt_flt (x : FltSt) : (s.setFlt x).flt = x := rfl
@[simp] theorem State.setFlt_tb (x : FltSt) : (s.setFlt x).tb = s.tb := rfl
@[simp] theorem State.setFlt_tev (x : FltSt) : (s.setFlt x).tev = s.tev := rfl
@[simp] theorem State.setFlt_srcs (x : FltSt) : (s.setFlt x).srcs = s.srcs := rfl
@[simp] theorem State.setFlt_mon (x : FltSt) : (s.setFlt x).mon = s.mon := rfl
@[simp] theorem State.setFlt_sels (x : FltSt) : (s.setFlt x).sels = s.sels := rfl
@[simp] theorem State.setFlt_dplls (x : FltSt) : (s.setFlt x).dplls = s.dplls := rfl
@[simp] theorem State.setFlt_osc (x : FltSt) : (s.setFlt x).osc = s.osc := rfl
@[simp] theorem State.setFlt_brg (x : FltSt) : (s.setFlt x).brg = s.brg := rfl
@[simp] theorem State.setFlt_aplls (x : FltSt) : (s.setFlt x).aplls = s.aplls := rfl
@[simp] theorem State.setFlt_outs (x : FltSt) : (s.setFlt x).outs = s.outs := rfl
@[simp] theorem State.setFlt_sync (x : FltSt) : (s.setFlt x).sync = s.sync := rfl
@[simp] theorem State.setFlt_gl (x : FltSt) : (s.setFlt x).gl = s.gl := rfl
@[simp] theorem State.setFlt_ptps (x : FltSt) : (s.setFlt x).ptps = s.ptps := rfl
@[simp] theorem State.setFlt_tod (x : FltSt) : (s.setFlt x).tod = s.tod := rfl
@[simp] theorem State.setFlt_engs (x : FltSt) : (s.setFlt x).engs = s.engs := rfl
@[simp] theorem State.setFlt_ldr (x : FltSt) : (s.setFlt x).ldr = s.ldr := rfl
@[simp] theorem State.setFlt_cal (x : FltSt) : (s.setFlt x).cal = s.cal := rfl
@[simp] theorem State.setFlt_hlth (x : FltSt) : (s.setFlt x).hlth = s.hlth := rfl
@[simp] theorem State.setFlt_nv (x : FltSt) : (s.setFlt x).nv = s.nv := rfl
@[simp] theorem State.setFlt_sys (x : FltSt) : (s.setFlt x).sys = s.sys := rfl
@[simp] theorem State.setFlt_lps (x : FltSt) : (s.setFlt x).lps = s.lps := rfl
@[simp] theorem State.setFlt_blks (x : FltSt) : (s.setFlt x).blks = s.blks := rfl
@[simp] theorem State.setFlt_sup (x : FltSt) : (s.setFlt x).sup = s.sup := rfl
@[simp] theorem State.setFlt_out (x : FltSt) : (s.setFlt x).out = s.out := rfl
@[simp] theorem State.setFlt_freeCtr (x : FltSt) : (s.setFlt x).freeCtr = s.freeCtr := rfl

/-! ### setTb -/

@[simp] theorem State.setTb_pending (x : TbSt) : (s.setTb x).pending = s.pending := rfl
@[simp] theorem State.setTb_regs (x : TbSt) : (s.setTb x).regs = s.regs := rfl
@[simp] theorem State.setTb_mem (x : TbSt) : (s.setTb x).mem = s.mem := rfl
@[simp] theorem State.setTb_ecc (x : TbSt) : (s.setTb x).ecc = s.ecc := rfl
@[simp] theorem State.setTb_par (x : TbSt) : (s.setTb x).par = s.par := rfl
@[simp] theorem State.setTb_acc (x : TbSt) : (s.setTb x).acc = s.acc := rfl
@[simp] theorem State.setTb_hif (x : TbSt) : (s.setTb x).hif = s.hif := rfl
@[simp] theorem State.setTb_queues (x : TbSt) : (s.setTb x).queues = s.queues := rfl
@[simp] theorem State.setTb_rings (x : TbSt) : (s.setTb x).rings = s.rings := rfl
@[simp] theorem State.setTb_flt (x : TbSt) : (s.setTb x).flt = s.flt := rfl
@[simp] theorem State.setTb_tb (x : TbSt) : (s.setTb x).tb = x := rfl
@[simp] theorem State.setTb_tev (x : TbSt) : (s.setTb x).tev = s.tev := rfl
@[simp] theorem State.setTb_srcs (x : TbSt) : (s.setTb x).srcs = s.srcs := rfl
@[simp] theorem State.setTb_mon (x : TbSt) : (s.setTb x).mon = s.mon := rfl
@[simp] theorem State.setTb_sels (x : TbSt) : (s.setTb x).sels = s.sels := rfl
@[simp] theorem State.setTb_dplls (x : TbSt) : (s.setTb x).dplls = s.dplls := rfl
@[simp] theorem State.setTb_osc (x : TbSt) : (s.setTb x).osc = s.osc := rfl
@[simp] theorem State.setTb_brg (x : TbSt) : (s.setTb x).brg = s.brg := rfl
@[simp] theorem State.setTb_aplls (x : TbSt) : (s.setTb x).aplls = s.aplls := rfl
@[simp] theorem State.setTb_outs (x : TbSt) : (s.setTb x).outs = s.outs := rfl
@[simp] theorem State.setTb_sync (x : TbSt) : (s.setTb x).sync = s.sync := rfl
@[simp] theorem State.setTb_gl (x : TbSt) : (s.setTb x).gl = s.gl := rfl
@[simp] theorem State.setTb_ptps (x : TbSt) : (s.setTb x).ptps = s.ptps := rfl
@[simp] theorem State.setTb_tod (x : TbSt) : (s.setTb x).tod = s.tod := rfl
@[simp] theorem State.setTb_engs (x : TbSt) : (s.setTb x).engs = s.engs := rfl
@[simp] theorem State.setTb_ldr (x : TbSt) : (s.setTb x).ldr = s.ldr := rfl
@[simp] theorem State.setTb_cal (x : TbSt) : (s.setTb x).cal = s.cal := rfl
@[simp] theorem State.setTb_hlth (x : TbSt) : (s.setTb x).hlth = s.hlth := rfl
@[simp] theorem State.setTb_nv (x : TbSt) : (s.setTb x).nv = s.nv := rfl
@[simp] theorem State.setTb_sys (x : TbSt) : (s.setTb x).sys = s.sys := rfl
@[simp] theorem State.setTb_lps (x : TbSt) : (s.setTb x).lps = s.lps := rfl
@[simp] theorem State.setTb_blks (x : TbSt) : (s.setTb x).blks = s.blks := rfl
@[simp] theorem State.setTb_sup (x : TbSt) : (s.setTb x).sup = s.sup := rfl
@[simp] theorem State.setTb_out (x : TbSt) : (s.setTb x).out = s.out := rfl
@[simp] theorem State.setTb_freeCtr (x : TbSt) : (s.setTb x).freeCtr = s.freeCtr := rfl

/-! ### setTev -/

@[simp] theorem State.setTev_pending (x : TevSt) : (s.setTev x).pending = s.pending := rfl
@[simp] theorem State.setTev_regs (x : TevSt) : (s.setTev x).regs = s.regs := rfl
@[simp] theorem State.setTev_mem (x : TevSt) : (s.setTev x).mem = s.mem := rfl
@[simp] theorem State.setTev_ecc (x : TevSt) : (s.setTev x).ecc = s.ecc := rfl
@[simp] theorem State.setTev_par (x : TevSt) : (s.setTev x).par = s.par := rfl
@[simp] theorem State.setTev_acc (x : TevSt) : (s.setTev x).acc = s.acc := rfl
@[simp] theorem State.setTev_hif (x : TevSt) : (s.setTev x).hif = s.hif := rfl
@[simp] theorem State.setTev_queues (x : TevSt) : (s.setTev x).queues = s.queues := rfl
@[simp] theorem State.setTev_rings (x : TevSt) : (s.setTev x).rings = s.rings := rfl
@[simp] theorem State.setTev_flt (x : TevSt) : (s.setTev x).flt = s.flt := rfl
@[simp] theorem State.setTev_tb (x : TevSt) : (s.setTev x).tb = s.tb := rfl
@[simp] theorem State.setTev_tev (x : TevSt) : (s.setTev x).tev = x := rfl
@[simp] theorem State.setTev_srcs (x : TevSt) : (s.setTev x).srcs = s.srcs := rfl
@[simp] theorem State.setTev_mon (x : TevSt) : (s.setTev x).mon = s.mon := rfl
@[simp] theorem State.setTev_sels (x : TevSt) : (s.setTev x).sels = s.sels := rfl
@[simp] theorem State.setTev_dplls (x : TevSt) : (s.setTev x).dplls = s.dplls := rfl
@[simp] theorem State.setTev_osc (x : TevSt) : (s.setTev x).osc = s.osc := rfl
@[simp] theorem State.setTev_brg (x : TevSt) : (s.setTev x).brg = s.brg := rfl
@[simp] theorem State.setTev_aplls (x : TevSt) : (s.setTev x).aplls = s.aplls := rfl
@[simp] theorem State.setTev_outs (x : TevSt) : (s.setTev x).outs = s.outs := rfl
@[simp] theorem State.setTev_sync (x : TevSt) : (s.setTev x).sync = s.sync := rfl
@[simp] theorem State.setTev_gl (x : TevSt) : (s.setTev x).gl = s.gl := rfl
@[simp] theorem State.setTev_ptps (x : TevSt) : (s.setTev x).ptps = s.ptps := rfl
@[simp] theorem State.setTev_tod (x : TevSt) : (s.setTev x).tod = s.tod := rfl
@[simp] theorem State.setTev_engs (x : TevSt) : (s.setTev x).engs = s.engs := rfl
@[simp] theorem State.setTev_ldr (x : TevSt) : (s.setTev x).ldr = s.ldr := rfl
@[simp] theorem State.setTev_cal (x : TevSt) : (s.setTev x).cal = s.cal := rfl
@[simp] theorem State.setTev_hlth (x : TevSt) : (s.setTev x).hlth = s.hlth := rfl
@[simp] theorem State.setTev_nv (x : TevSt) : (s.setTev x).nv = s.nv := rfl
@[simp] theorem State.setTev_sys (x : TevSt) : (s.setTev x).sys = s.sys := rfl
@[simp] theorem State.setTev_lps (x : TevSt) : (s.setTev x).lps = s.lps := rfl
@[simp] theorem State.setTev_blks (x : TevSt) : (s.setTev x).blks = s.blks := rfl
@[simp] theorem State.setTev_sup (x : TevSt) : (s.setTev x).sup = s.sup := rfl
@[simp] theorem State.setTev_out (x : TevSt) : (s.setTev x).out = s.out := rfl
@[simp] theorem State.setTev_freeCtr (x : TevSt) : (s.setTev x).freeCtr = s.freeCtr := rfl

/-! ### setLdr -/

@[simp] theorem State.setLdr_pending (x : LdrSt) : (s.setLdr x).pending = s.pending := rfl
@[simp] theorem State.setLdr_regs (x : LdrSt) : (s.setLdr x).regs = s.regs := rfl
@[simp] theorem State.setLdr_mem (x : LdrSt) : (s.setLdr x).mem = s.mem := rfl
@[simp] theorem State.setLdr_ecc (x : LdrSt) : (s.setLdr x).ecc = s.ecc := rfl
@[simp] theorem State.setLdr_par (x : LdrSt) : (s.setLdr x).par = s.par := rfl
@[simp] theorem State.setLdr_acc (x : LdrSt) : (s.setLdr x).acc = s.acc := rfl
@[simp] theorem State.setLdr_hif (x : LdrSt) : (s.setLdr x).hif = s.hif := rfl
@[simp] theorem State.setLdr_queues (x : LdrSt) : (s.setLdr x).queues = s.queues := rfl
@[simp] theorem State.setLdr_rings (x : LdrSt) : (s.setLdr x).rings = s.rings := rfl
@[simp] theorem State.setLdr_flt (x : LdrSt) : (s.setLdr x).flt = s.flt := rfl
@[simp] theorem State.setLdr_tb (x : LdrSt) : (s.setLdr x).tb = s.tb := rfl
@[simp] theorem State.setLdr_tev (x : LdrSt) : (s.setLdr x).tev = s.tev := rfl
@[simp] theorem State.setLdr_srcs (x : LdrSt) : (s.setLdr x).srcs = s.srcs := rfl
@[simp] theorem State.setLdr_mon (x : LdrSt) : (s.setLdr x).mon = s.mon := rfl
@[simp] theorem State.setLdr_sels (x : LdrSt) : (s.setLdr x).sels = s.sels := rfl
@[simp] theorem State.setLdr_dplls (x : LdrSt) : (s.setLdr x).dplls = s.dplls := rfl
@[simp] theorem State.setLdr_osc (x : LdrSt) : (s.setLdr x).osc = s.osc := rfl
@[simp] theorem State.setLdr_brg (x : LdrSt) : (s.setLdr x).brg = s.brg := rfl
@[simp] theorem State.setLdr_aplls (x : LdrSt) : (s.setLdr x).aplls = s.aplls := rfl
@[simp] theorem State.setLdr_outs (x : LdrSt) : (s.setLdr x).outs = s.outs := rfl
@[simp] theorem State.setLdr_sync (x : LdrSt) : (s.setLdr x).sync = s.sync := rfl
@[simp] theorem State.setLdr_gl (x : LdrSt) : (s.setLdr x).gl = s.gl := rfl
@[simp] theorem State.setLdr_ptps (x : LdrSt) : (s.setLdr x).ptps = s.ptps := rfl
@[simp] theorem State.setLdr_tod (x : LdrSt) : (s.setLdr x).tod = s.tod := rfl
@[simp] theorem State.setLdr_engs (x : LdrSt) : (s.setLdr x).engs = s.engs := rfl
@[simp] theorem State.setLdr_ldr (x : LdrSt) : (s.setLdr x).ldr = x := rfl
@[simp] theorem State.setLdr_cal (x : LdrSt) : (s.setLdr x).cal = s.cal := rfl
@[simp] theorem State.setLdr_hlth (x : LdrSt) : (s.setLdr x).hlth = s.hlth := rfl
@[simp] theorem State.setLdr_nv (x : LdrSt) : (s.setLdr x).nv = s.nv := rfl
@[simp] theorem State.setLdr_sys (x : LdrSt) : (s.setLdr x).sys = s.sys := rfl
@[simp] theorem State.setLdr_lps (x : LdrSt) : (s.setLdr x).lps = s.lps := rfl
@[simp] theorem State.setLdr_blks (x : LdrSt) : (s.setLdr x).blks = s.blks := rfl
@[simp] theorem State.setLdr_sup (x : LdrSt) : (s.setLdr x).sup = s.sup := rfl
@[simp] theorem State.setLdr_out (x : LdrSt) : (s.setLdr x).out = s.out := rfl
@[simp] theorem State.setLdr_freeCtr (x : LdrSt) : (s.setLdr x).freeCtr = s.freeCtr := rfl

/-! ### setPending -/

@[simp] theorem State.setPending_pending (l : List Instr) : (s.setPending l).pending = l := rfl
@[simp] theorem State.setPending_regs (l : List Instr) : (s.setPending l).regs = s.regs := rfl
@[simp] theorem State.setPending_mem (l : List Instr) : (s.setPending l).mem = s.mem := rfl
@[simp] theorem State.setPending_ecc (l : List Instr) : (s.setPending l).ecc = s.ecc := rfl
@[simp] theorem State.setPending_par (l : List Instr) : (s.setPending l).par = s.par := rfl
@[simp] theorem State.setPending_acc (l : List Instr) : (s.setPending l).acc = s.acc := rfl
@[simp] theorem State.setPending_hif (l : List Instr) : (s.setPending l).hif = s.hif := rfl
@[simp] theorem State.setPending_queues (l : List Instr) : (s.setPending l).queues = s.queues := rfl
@[simp] theorem State.setPending_rings (l : List Instr) : (s.setPending l).rings = s.rings := rfl
@[simp] theorem State.setPending_flt (l : List Instr) : (s.setPending l).flt = s.flt := rfl
@[simp] theorem State.setPending_tb (l : List Instr) : (s.setPending l).tb = s.tb := rfl
@[simp] theorem State.setPending_tev (l : List Instr) : (s.setPending l).tev = s.tev := rfl
@[simp] theorem State.setPending_srcs (l : List Instr) : (s.setPending l).srcs = s.srcs := rfl
@[simp] theorem State.setPending_mon (l : List Instr) : (s.setPending l).mon = s.mon := rfl
@[simp] theorem State.setPending_sels (l : List Instr) : (s.setPending l).sels = s.sels := rfl
@[simp] theorem State.setPending_dplls (l : List Instr) : (s.setPending l).dplls = s.dplls := rfl
@[simp] theorem State.setPending_osc (l : List Instr) : (s.setPending l).osc = s.osc := rfl
@[simp] theorem State.setPending_brg (l : List Instr) : (s.setPending l).brg = s.brg := rfl
@[simp] theorem State.setPending_aplls (l : List Instr) : (s.setPending l).aplls = s.aplls := rfl
@[simp] theorem State.setPending_outs (l : List Instr) : (s.setPending l).outs = s.outs := rfl
@[simp] theorem State.setPending_sync (l : List Instr) : (s.setPending l).sync = s.sync := rfl
@[simp] theorem State.setPending_gl (l : List Instr) : (s.setPending l).gl = s.gl := rfl
@[simp] theorem State.setPending_ptps (l : List Instr) : (s.setPending l).ptps = s.ptps := rfl
@[simp] theorem State.setPending_tod (l : List Instr) : (s.setPending l).tod = s.tod := rfl
@[simp] theorem State.setPending_engs (l : List Instr) : (s.setPending l).engs = s.engs := rfl
@[simp] theorem State.setPending_ldr (l : List Instr) : (s.setPending l).ldr = s.ldr := rfl
@[simp] theorem State.setPending_cal (l : List Instr) : (s.setPending l).cal = s.cal := rfl
@[simp] theorem State.setPending_hlth (l : List Instr) : (s.setPending l).hlth = s.hlth := rfl
@[simp] theorem State.setPending_nv (l : List Instr) : (s.setPending l).nv = s.nv := rfl
@[simp] theorem State.setPending_sys (l : List Instr) : (s.setPending l).sys = s.sys := rfl
@[simp] theorem State.setPending_lps (l : List Instr) : (s.setPending l).lps = s.lps := rfl
@[simp] theorem State.setPending_blks (l : List Instr) : (s.setPending l).blks = s.blks := rfl
@[simp] theorem State.setPending_sup (l : List Instr) : (s.setPending l).sup = s.sup := rfl
@[simp] theorem State.setPending_out (l : List Instr) : (s.setPending l).out = s.out := rfl
@[simp] theorem State.setPending_freeCtr (l : List Instr) : (s.setPending l).freeCtr = s.freeCtr := rfl

/-! ### modQueue -/

@[simp] theorem State.modQueue_pending (n : Nat) (f : QueueSt → QueueSt) : (s.modQueue n f).pending = s.pending := rfl
@[simp] theorem State.modQueue_regs (n : Nat) (f : QueueSt → QueueSt) : (s.modQueue n f).regs = s.regs := rfl
@[simp] theorem State.modQueue_mem (n : Nat) (f : QueueSt → QueueSt) : (s.modQueue n f).mem = s.mem := rfl
@[simp] theorem State.modQueue_ecc (n : Nat) (f : QueueSt → QueueSt) : (s.modQueue n f).ecc = s.ecc := rfl
@[simp] theorem State.modQueue_par (n : Nat) (f : QueueSt → QueueSt) : (s.modQueue n f).par = s.par := rfl
@[simp] theorem State.modQueue_acc (n : Nat) (f : QueueSt → QueueSt) : (s.modQueue n f).acc = s.acc := rfl
@[simp] theorem State.modQueue_hif (n : Nat) (f : QueueSt → QueueSt) : (s.modQueue n f).hif = s.hif := rfl
@[simp] theorem State.modQueue_queues (n : Nat) (f : QueueSt → QueueSt) : (s.modQueue n f).queues = lmod s.queues n f := rfl
@[simp] theorem State.modQueue_rings (n : Nat) (f : QueueSt → QueueSt) : (s.modQueue n f).rings = s.rings := rfl
@[simp] theorem State.modQueue_flt (n : Nat) (f : QueueSt → QueueSt) : (s.modQueue n f).flt = s.flt := rfl
@[simp] theorem State.modQueue_tb (n : Nat) (f : QueueSt → QueueSt) : (s.modQueue n f).tb = s.tb := rfl
@[simp] theorem State.modQueue_tev (n : Nat) (f : QueueSt → QueueSt) : (s.modQueue n f).tev = s.tev := rfl
@[simp] theorem State.modQueue_srcs (n : Nat) (f : QueueSt → QueueSt) : (s.modQueue n f).srcs = s.srcs := rfl
@[simp] theorem State.modQueue_mon (n : Nat) (f : QueueSt → QueueSt) : (s.modQueue n f).mon = s.mon := rfl
@[simp] theorem State.modQueue_sels (n : Nat) (f : QueueSt → QueueSt) : (s.modQueue n f).sels = s.sels := rfl
@[simp] theorem State.modQueue_dplls (n : Nat) (f : QueueSt → QueueSt) : (s.modQueue n f).dplls = s.dplls := rfl
@[simp] theorem State.modQueue_osc (n : Nat) (f : QueueSt → QueueSt) : (s.modQueue n f).osc = s.osc := rfl
@[simp] theorem State.modQueue_brg (n : Nat) (f : QueueSt → QueueSt) : (s.modQueue n f).brg = s.brg := rfl
@[simp] theorem State.modQueue_aplls (n : Nat) (f : QueueSt → QueueSt) : (s.modQueue n f).aplls = s.aplls := rfl
@[simp] theorem State.modQueue_outs (n : Nat) (f : QueueSt → QueueSt) : (s.modQueue n f).outs = s.outs := rfl
@[simp] theorem State.modQueue_sync (n : Nat) (f : QueueSt → QueueSt) : (s.modQueue n f).sync = s.sync := rfl
@[simp] theorem State.modQueue_gl (n : Nat) (f : QueueSt → QueueSt) : (s.modQueue n f).gl = s.gl := rfl
@[simp] theorem State.modQueue_ptps (n : Nat) (f : QueueSt → QueueSt) : (s.modQueue n f).ptps = s.ptps := rfl
@[simp] theorem State.modQueue_tod (n : Nat) (f : QueueSt → QueueSt) : (s.modQueue n f).tod = s.tod := rfl
@[simp] theorem State.modQueue_engs (n : Nat) (f : QueueSt → QueueSt) : (s.modQueue n f).engs = s.engs := rfl
@[simp] theorem State.modQueue_ldr (n : Nat) (f : QueueSt → QueueSt) : (s.modQueue n f).ldr = s.ldr := rfl
@[simp] theorem State.modQueue_cal (n : Nat) (f : QueueSt → QueueSt) : (s.modQueue n f).cal = s.cal := rfl
@[simp] theorem State.modQueue_hlth (n : Nat) (f : QueueSt → QueueSt) : (s.modQueue n f).hlth = s.hlth := rfl
@[simp] theorem State.modQueue_nv (n : Nat) (f : QueueSt → QueueSt) : (s.modQueue n f).nv = s.nv := rfl
@[simp] theorem State.modQueue_sys (n : Nat) (f : QueueSt → QueueSt) : (s.modQueue n f).sys = s.sys := rfl
@[simp] theorem State.modQueue_lps (n : Nat) (f : QueueSt → QueueSt) : (s.modQueue n f).lps = s.lps := rfl
@[simp] theorem State.modQueue_blks (n : Nat) (f : QueueSt → QueueSt) : (s.modQueue n f).blks = s.blks := rfl
@[simp] theorem State.modQueue_sup (n : Nat) (f : QueueSt → QueueSt) : (s.modQueue n f).sup = s.sup := rfl
@[simp] theorem State.modQueue_out (n : Nat) (f : QueueSt → QueueSt) : (s.modQueue n f).out = s.out := rfl
@[simp] theorem State.modQueue_freeCtr (n : Nat) (f : QueueSt → QueueSt) : (s.modQueue n f).freeCtr = s.freeCtr := rfl

/-! ### modRing -/

@[simp] theorem State.modRing_pending (n : Nat) (f : RingSt → RingSt) : (s.modRing n f).pending = s.pending := rfl
@[simp] theorem State.modRing_regs (n : Nat) (f : RingSt → RingSt) : (s.modRing n f).regs = s.regs := rfl
@[simp] theorem State.modRing_mem (n : Nat) (f : RingSt → RingSt) : (s.modRing n f).mem = s.mem := rfl
@[simp] theorem State.modRing_ecc (n : Nat) (f : RingSt → RingSt) : (s.modRing n f).ecc = s.ecc := rfl
@[simp] theorem State.modRing_par (n : Nat) (f : RingSt → RingSt) : (s.modRing n f).par = s.par := rfl
@[simp] theorem State.modRing_acc (n : Nat) (f : RingSt → RingSt) : (s.modRing n f).acc = s.acc := rfl
@[simp] theorem State.modRing_hif (n : Nat) (f : RingSt → RingSt) : (s.modRing n f).hif = s.hif := rfl
@[simp] theorem State.modRing_queues (n : Nat) (f : RingSt → RingSt) : (s.modRing n f).queues = s.queues := rfl
@[simp] theorem State.modRing_rings (n : Nat) (f : RingSt → RingSt) : (s.modRing n f).rings = lmod s.rings n f := rfl
@[simp] theorem State.modRing_flt (n : Nat) (f : RingSt → RingSt) : (s.modRing n f).flt = s.flt := rfl
@[simp] theorem State.modRing_tb (n : Nat) (f : RingSt → RingSt) : (s.modRing n f).tb = s.tb := rfl
@[simp] theorem State.modRing_tev (n : Nat) (f : RingSt → RingSt) : (s.modRing n f).tev = s.tev := rfl
@[simp] theorem State.modRing_srcs (n : Nat) (f : RingSt → RingSt) : (s.modRing n f).srcs = s.srcs := rfl
@[simp] theorem State.modRing_mon (n : Nat) (f : RingSt → RingSt) : (s.modRing n f).mon = s.mon := rfl
@[simp] theorem State.modRing_sels (n : Nat) (f : RingSt → RingSt) : (s.modRing n f).sels = s.sels := rfl
@[simp] theorem State.modRing_dplls (n : Nat) (f : RingSt → RingSt) : (s.modRing n f).dplls = s.dplls := rfl
@[simp] theorem State.modRing_osc (n : Nat) (f : RingSt → RingSt) : (s.modRing n f).osc = s.osc := rfl
@[simp] theorem State.modRing_brg (n : Nat) (f : RingSt → RingSt) : (s.modRing n f).brg = s.brg := rfl
@[simp] theorem State.modRing_aplls (n : Nat) (f : RingSt → RingSt) : (s.modRing n f).aplls = s.aplls := rfl
@[simp] theorem State.modRing_outs (n : Nat) (f : RingSt → RingSt) : (s.modRing n f).outs = s.outs := rfl
@[simp] theorem State.modRing_sync (n : Nat) (f : RingSt → RingSt) : (s.modRing n f).sync = s.sync := rfl
@[simp] theorem State.modRing_gl (n : Nat) (f : RingSt → RingSt) : (s.modRing n f).gl = s.gl := rfl
@[simp] theorem State.modRing_ptps (n : Nat) (f : RingSt → RingSt) : (s.modRing n f).ptps = s.ptps := rfl
@[simp] theorem State.modRing_tod (n : Nat) (f : RingSt → RingSt) : (s.modRing n f).tod = s.tod := rfl
@[simp] theorem State.modRing_engs (n : Nat) (f : RingSt → RingSt) : (s.modRing n f).engs = s.engs := rfl
@[simp] theorem State.modRing_ldr (n : Nat) (f : RingSt → RingSt) : (s.modRing n f).ldr = s.ldr := rfl
@[simp] theorem State.modRing_cal (n : Nat) (f : RingSt → RingSt) : (s.modRing n f).cal = s.cal := rfl
@[simp] theorem State.modRing_hlth (n : Nat) (f : RingSt → RingSt) : (s.modRing n f).hlth = s.hlth := rfl
@[simp] theorem State.modRing_nv (n : Nat) (f : RingSt → RingSt) : (s.modRing n f).nv = s.nv := rfl
@[simp] theorem State.modRing_sys (n : Nat) (f : RingSt → RingSt) : (s.modRing n f).sys = s.sys := rfl
@[simp] theorem State.modRing_lps (n : Nat) (f : RingSt → RingSt) : (s.modRing n f).lps = s.lps := rfl
@[simp] theorem State.modRing_blks (n : Nat) (f : RingSt → RingSt) : (s.modRing n f).blks = s.blks := rfl
@[simp] theorem State.modRing_sup (n : Nat) (f : RingSt → RingSt) : (s.modRing n f).sup = s.sup := rfl
@[simp] theorem State.modRing_out (n : Nat) (f : RingSt → RingSt) : (s.modRing n f).out = s.out := rfl
@[simp] theorem State.modRing_freeCtr (n : Nat) (f : RingSt → RingSt) : (s.modRing n f).freeCtr = s.freeCtr := rfl

/-! ### modEng -/

@[simp] theorem State.modEng_pending (k : Nat) (f : Eng → Eng) : (s.modEng k f).pending = s.pending := rfl
@[simp] theorem State.modEng_regs (k : Nat) (f : Eng → Eng) : (s.modEng k f).regs = s.regs := rfl
@[simp] theorem State.modEng_mem (k : Nat) (f : Eng → Eng) : (s.modEng k f).mem = s.mem := rfl
@[simp] theorem State.modEng_ecc (k : Nat) (f : Eng → Eng) : (s.modEng k f).ecc = s.ecc := rfl
@[simp] theorem State.modEng_par (k : Nat) (f : Eng → Eng) : (s.modEng k f).par = s.par := rfl
@[simp] theorem State.modEng_acc (k : Nat) (f : Eng → Eng) : (s.modEng k f).acc = s.acc := rfl
@[simp] theorem State.modEng_hif (k : Nat) (f : Eng → Eng) : (s.modEng k f).hif = s.hif := rfl
@[simp] theorem State.modEng_queues (k : Nat) (f : Eng → Eng) : (s.modEng k f).queues = s.queues := rfl
@[simp] theorem State.modEng_rings (k : Nat) (f : Eng → Eng) : (s.modEng k f).rings = s.rings := rfl
@[simp] theorem State.modEng_flt (k : Nat) (f : Eng → Eng) : (s.modEng k f).flt = s.flt := rfl
@[simp] theorem State.modEng_tb (k : Nat) (f : Eng → Eng) : (s.modEng k f).tb = s.tb := rfl
@[simp] theorem State.modEng_tev (k : Nat) (f : Eng → Eng) : (s.modEng k f).tev = s.tev := rfl
@[simp] theorem State.modEng_srcs (k : Nat) (f : Eng → Eng) : (s.modEng k f).srcs = s.srcs := rfl
@[simp] theorem State.modEng_mon (k : Nat) (f : Eng → Eng) : (s.modEng k f).mon = s.mon := rfl
@[simp] theorem State.modEng_sels (k : Nat) (f : Eng → Eng) : (s.modEng k f).sels = s.sels := rfl
@[simp] theorem State.modEng_dplls (k : Nat) (f : Eng → Eng) : (s.modEng k f).dplls = s.dplls := rfl
@[simp] theorem State.modEng_osc (k : Nat) (f : Eng → Eng) : (s.modEng k f).osc = s.osc := rfl
@[simp] theorem State.modEng_brg (k : Nat) (f : Eng → Eng) : (s.modEng k f).brg = s.brg := rfl
@[simp] theorem State.modEng_aplls (k : Nat) (f : Eng → Eng) : (s.modEng k f).aplls = s.aplls := rfl
@[simp] theorem State.modEng_outs (k : Nat) (f : Eng → Eng) : (s.modEng k f).outs = s.outs := rfl
@[simp] theorem State.modEng_sync (k : Nat) (f : Eng → Eng) : (s.modEng k f).sync = s.sync := rfl
@[simp] theorem State.modEng_gl (k : Nat) (f : Eng → Eng) : (s.modEng k f).gl = s.gl := rfl
@[simp] theorem State.modEng_ptps (k : Nat) (f : Eng → Eng) : (s.modEng k f).ptps = s.ptps := rfl
@[simp] theorem State.modEng_tod (k : Nat) (f : Eng → Eng) : (s.modEng k f).tod = s.tod := rfl
@[simp] theorem State.modEng_engs (k : Nat) (f : Eng → Eng) : (s.modEng k f).engs = lmod s.engs k f := rfl
@[simp] theorem State.modEng_ldr (k : Nat) (f : Eng → Eng) : (s.modEng k f).ldr = s.ldr := rfl
@[simp] theorem State.modEng_cal (k : Nat) (f : Eng → Eng) : (s.modEng k f).cal = s.cal := rfl
@[simp] theorem State.modEng_hlth (k : Nat) (f : Eng → Eng) : (s.modEng k f).hlth = s.hlth := rfl
@[simp] theorem State.modEng_nv (k : Nat) (f : Eng → Eng) : (s.modEng k f).nv = s.nv := rfl
@[simp] theorem State.modEng_sys (k : Nat) (f : Eng → Eng) : (s.modEng k f).sys = s.sys := rfl
@[simp] theorem State.modEng_lps (k : Nat) (f : Eng → Eng) : (s.modEng k f).lps = s.lps := rfl
@[simp] theorem State.modEng_blks (k : Nat) (f : Eng → Eng) : (s.modEng k f).blks = s.blks := rfl
@[simp] theorem State.modEng_sup (k : Nat) (f : Eng → Eng) : (s.modEng k f).sup = s.sup := rfl
@[simp] theorem State.modEng_out (k : Nat) (f : Eng → Eng) : (s.modEng k f).out = s.out := rfl
@[simp] theorem State.modEng_freeCtr (k : Nat) (f : Eng → Eng) : (s.modEng k f).freeCtr = s.freeCtr := rfl

/-! ### modSrc -/

@[simp] theorem State.modSrc_pending (n : Nat) (f : SrcSt → SrcSt) : (s.modSrc n f).pending = s.pending := rfl
@[simp] theorem State.modSrc_regs (n : Nat) (f : SrcSt → SrcSt) : (s.modSrc n f).regs = s.regs := rfl
@[simp] theorem State.modSrc_mem (n : Nat) (f : SrcSt → SrcSt) : (s.modSrc n f).mem = s.mem := rfl
@[simp] theorem State.modSrc_ecc (n : Nat) (f : SrcSt → SrcSt) : (s.modSrc n f).ecc = s.ecc := rfl
@[simp] theorem State.modSrc_par (n : Nat) (f : SrcSt → SrcSt) : (s.modSrc n f).par = s.par := rfl
@[simp] theorem State.modSrc_acc (n : Nat) (f : SrcSt → SrcSt) : (s.modSrc n f).acc = s.acc := rfl
@[simp] theorem State.modSrc_hif (n : Nat) (f : SrcSt → SrcSt) : (s.modSrc n f).hif = s.hif := rfl
@[simp] theorem State.modSrc_queues (n : Nat) (f : SrcSt → SrcSt) : (s.modSrc n f).queues = s.queues := rfl
@[simp] theorem State.modSrc_rings (n : Nat) (f : SrcSt → SrcSt) : (s.modSrc n f).rings = s.rings := rfl
@[simp] theorem State.modSrc_flt (n : Nat) (f : SrcSt → SrcSt) : (s.modSrc n f).flt = s.flt := rfl
@[simp] theorem State.modSrc_tb (n : Nat) (f : SrcSt → SrcSt) : (s.modSrc n f).tb = s.tb := rfl
@[simp] theorem State.modSrc_tev (n : Nat) (f : SrcSt → SrcSt) : (s.modSrc n f).tev = s.tev := rfl
@[simp] theorem State.modSrc_srcs (n : Nat) (f : SrcSt → SrcSt) : (s.modSrc n f).srcs = lmod s.srcs n f := rfl
@[simp] theorem State.modSrc_mon (n : Nat) (f : SrcSt → SrcSt) : (s.modSrc n f).mon = s.mon := rfl
@[simp] theorem State.modSrc_sels (n : Nat) (f : SrcSt → SrcSt) : (s.modSrc n f).sels = s.sels := rfl
@[simp] theorem State.modSrc_dplls (n : Nat) (f : SrcSt → SrcSt) : (s.modSrc n f).dplls = s.dplls := rfl
@[simp] theorem State.modSrc_osc (n : Nat) (f : SrcSt → SrcSt) : (s.modSrc n f).osc = s.osc := rfl
@[simp] theorem State.modSrc_brg (n : Nat) (f : SrcSt → SrcSt) : (s.modSrc n f).brg = s.brg := rfl
@[simp] theorem State.modSrc_aplls (n : Nat) (f : SrcSt → SrcSt) : (s.modSrc n f).aplls = s.aplls := rfl
@[simp] theorem State.modSrc_outs (n : Nat) (f : SrcSt → SrcSt) : (s.modSrc n f).outs = s.outs := rfl
@[simp] theorem State.modSrc_sync (n : Nat) (f : SrcSt → SrcSt) : (s.modSrc n f).sync = s.sync := rfl
@[simp] theorem State.modSrc_gl (n : Nat) (f : SrcSt → SrcSt) : (s.modSrc n f).gl = s.gl := rfl
@[simp] theorem State.modSrc_ptps (n : Nat) (f : SrcSt → SrcSt) : (s.modSrc n f).ptps = s.ptps := rfl
@[simp] theorem State.modSrc_tod (n : Nat) (f : SrcSt → SrcSt) : (s.modSrc n f).tod = s.tod := rfl
@[simp] theorem State.modSrc_engs (n : Nat) (f : SrcSt → SrcSt) : (s.modSrc n f).engs = s.engs := rfl
@[simp] theorem State.modSrc_ldr (n : Nat) (f : SrcSt → SrcSt) : (s.modSrc n f).ldr = s.ldr := rfl
@[simp] theorem State.modSrc_cal (n : Nat) (f : SrcSt → SrcSt) : (s.modSrc n f).cal = s.cal := rfl
@[simp] theorem State.modSrc_hlth (n : Nat) (f : SrcSt → SrcSt) : (s.modSrc n f).hlth = s.hlth := rfl
@[simp] theorem State.modSrc_nv (n : Nat) (f : SrcSt → SrcSt) : (s.modSrc n f).nv = s.nv := rfl
@[simp] theorem State.modSrc_sys (n : Nat) (f : SrcSt → SrcSt) : (s.modSrc n f).sys = s.sys := rfl
@[simp] theorem State.modSrc_lps (n : Nat) (f : SrcSt → SrcSt) : (s.modSrc n f).lps = s.lps := rfl
@[simp] theorem State.modSrc_blks (n : Nat) (f : SrcSt → SrcSt) : (s.modSrc n f).blks = s.blks := rfl
@[simp] theorem State.modSrc_sup (n : Nat) (f : SrcSt → SrcSt) : (s.modSrc n f).sup = s.sup := rfl
@[simp] theorem State.modSrc_out (n : Nat) (f : SrcSt → SrcSt) : (s.modSrc n f).out = s.out := rfl
@[simp] theorem State.modSrc_freeCtr (n : Nat) (f : SrcSt → SrcSt) : (s.modSrc n f).freeCtr = s.freeCtr := rfl

/-! ### setMon -/

@[simp] theorem State.setMon_pending (x : MonSt) : (s.setMon x).pending = s.pending := rfl
@[simp] theorem State.setMon_regs (x : MonSt) : (s.setMon x).regs = s.regs := rfl
@[simp] theorem State.setMon_mem (x : MonSt) : (s.setMon x).mem = s.mem := rfl
@[simp] theorem State.setMon_ecc (x : MonSt) : (s.setMon x).ecc = s.ecc := rfl
@[simp] theorem State.setMon_par (x : MonSt) : (s.setMon x).par = s.par := rfl
@[simp] theorem State.setMon_acc (x : MonSt) : (s.setMon x).acc = s.acc := rfl
@[simp] theorem State.setMon_hif (x : MonSt) : (s.setMon x).hif = s.hif := rfl
@[simp] theorem State.setMon_queues (x : MonSt) : (s.setMon x).queues = s.queues := rfl
@[simp] theorem State.setMon_rings (x : MonSt) : (s.setMon x).rings = s.rings := rfl
@[simp] theorem State.setMon_flt (x : MonSt) : (s.setMon x).flt = s.flt := rfl
@[simp] theorem State.setMon_tb (x : MonSt) : (s.setMon x).tb = s.tb := rfl
@[simp] theorem State.setMon_tev (x : MonSt) : (s.setMon x).tev = s.tev := rfl
@[simp] theorem State.setMon_srcs (x : MonSt) : (s.setMon x).srcs = s.srcs := rfl
@[simp] theorem State.setMon_mon (x : MonSt) : (s.setMon x).mon = x := rfl
@[simp] theorem State.setMon_sels (x : MonSt) : (s.setMon x).sels = s.sels := rfl
@[simp] theorem State.setMon_dplls (x : MonSt) : (s.setMon x).dplls = s.dplls := rfl
@[simp] theorem State.setMon_osc (x : MonSt) : (s.setMon x).osc = s.osc := rfl
@[simp] theorem State.setMon_brg (x : MonSt) : (s.setMon x).brg = s.brg := rfl
@[simp] theorem State.setMon_aplls (x : MonSt) : (s.setMon x).aplls = s.aplls := rfl
@[simp] theorem State.setMon_outs (x : MonSt) : (s.setMon x).outs = s.outs := rfl
@[simp] theorem State.setMon_sync (x : MonSt) : (s.setMon x).sync = s.sync := rfl
@[simp] theorem State.setMon_gl (x : MonSt) : (s.setMon x).gl = s.gl := rfl
@[simp] theorem State.setMon_ptps (x : MonSt) : (s.setMon x).ptps = s.ptps := rfl
@[simp] theorem State.setMon_tod (x : MonSt) : (s.setMon x).tod = s.tod := rfl
@[simp] theorem State.setMon_engs (x : MonSt) : (s.setMon x).engs = s.engs := rfl
@[simp] theorem State.setMon_ldr (x : MonSt) : (s.setMon x).ldr = s.ldr := rfl
@[simp] theorem State.setMon_cal (x : MonSt) : (s.setMon x).cal = s.cal := rfl
@[simp] theorem State.setMon_hlth (x : MonSt) : (s.setMon x).hlth = s.hlth := rfl
@[simp] theorem State.setMon_nv (x : MonSt) : (s.setMon x).nv = s.nv := rfl
@[simp] theorem State.setMon_sys (x : MonSt) : (s.setMon x).sys = s.sys := rfl
@[simp] theorem State.setMon_lps (x : MonSt) : (s.setMon x).lps = s.lps := rfl
@[simp] theorem State.setMon_blks (x : MonSt) : (s.setMon x).blks = s.blks := rfl
@[simp] theorem State.setMon_sup (x : MonSt) : (s.setMon x).sup = s.sup := rfl
@[simp] theorem State.setMon_out (x : MonSt) : (s.setMon x).out = s.out := rfl
@[simp] theorem State.setMon_freeCtr (x : MonSt) : (s.setMon x).freeCtr = s.freeCtr := rfl

/-! ### modSel -/

@[simp] theorem State.modSel_pending (n : Nat) (f : SelSt → SelSt) : (s.modSel n f).pending = s.pending := rfl
@[simp] theorem State.modSel_regs (n : Nat) (f : SelSt → SelSt) : (s.modSel n f).regs = s.regs := rfl
@[simp] theorem State.modSel_mem (n : Nat) (f : SelSt → SelSt) : (s.modSel n f).mem = s.mem := rfl
@[simp] theorem State.modSel_ecc (n : Nat) (f : SelSt → SelSt) : (s.modSel n f).ecc = s.ecc := rfl
@[simp] theorem State.modSel_par (n : Nat) (f : SelSt → SelSt) : (s.modSel n f).par = s.par := rfl
@[simp] theorem State.modSel_acc (n : Nat) (f : SelSt → SelSt) : (s.modSel n f).acc = s.acc := rfl
@[simp] theorem State.modSel_hif (n : Nat) (f : SelSt → SelSt) : (s.modSel n f).hif = s.hif := rfl
@[simp] theorem State.modSel_queues (n : Nat) (f : SelSt → SelSt) : (s.modSel n f).queues = s.queues := rfl
@[simp] theorem State.modSel_rings (n : Nat) (f : SelSt → SelSt) : (s.modSel n f).rings = s.rings := rfl
@[simp] theorem State.modSel_flt (n : Nat) (f : SelSt → SelSt) : (s.modSel n f).flt = s.flt := rfl
@[simp] theorem State.modSel_tb (n : Nat) (f : SelSt → SelSt) : (s.modSel n f).tb = s.tb := rfl
@[simp] theorem State.modSel_tev (n : Nat) (f : SelSt → SelSt) : (s.modSel n f).tev = s.tev := rfl
@[simp] theorem State.modSel_srcs (n : Nat) (f : SelSt → SelSt) : (s.modSel n f).srcs = s.srcs := rfl
@[simp] theorem State.modSel_mon (n : Nat) (f : SelSt → SelSt) : (s.modSel n f).mon = s.mon := rfl
@[simp] theorem State.modSel_sels (n : Nat) (f : SelSt → SelSt) : (s.modSel n f).sels = lmod s.sels n f := rfl
@[simp] theorem State.modSel_dplls (n : Nat) (f : SelSt → SelSt) : (s.modSel n f).dplls = s.dplls := rfl
@[simp] theorem State.modSel_osc (n : Nat) (f : SelSt → SelSt) : (s.modSel n f).osc = s.osc := rfl
@[simp] theorem State.modSel_brg (n : Nat) (f : SelSt → SelSt) : (s.modSel n f).brg = s.brg := rfl
@[simp] theorem State.modSel_aplls (n : Nat) (f : SelSt → SelSt) : (s.modSel n f).aplls = s.aplls := rfl
@[simp] theorem State.modSel_outs (n : Nat) (f : SelSt → SelSt) : (s.modSel n f).outs = s.outs := rfl
@[simp] theorem State.modSel_sync (n : Nat) (f : SelSt → SelSt) : (s.modSel n f).sync = s.sync := rfl
@[simp] theorem State.modSel_gl (n : Nat) (f : SelSt → SelSt) : (s.modSel n f).gl = s.gl := rfl
@[simp] theorem State.modSel_ptps (n : Nat) (f : SelSt → SelSt) : (s.modSel n f).ptps = s.ptps := rfl
@[simp] theorem State.modSel_tod (n : Nat) (f : SelSt → SelSt) : (s.modSel n f).tod = s.tod := rfl
@[simp] theorem State.modSel_engs (n : Nat) (f : SelSt → SelSt) : (s.modSel n f).engs = s.engs := rfl
@[simp] theorem State.modSel_ldr (n : Nat) (f : SelSt → SelSt) : (s.modSel n f).ldr = s.ldr := rfl
@[simp] theorem State.modSel_cal (n : Nat) (f : SelSt → SelSt) : (s.modSel n f).cal = s.cal := rfl
@[simp] theorem State.modSel_hlth (n : Nat) (f : SelSt → SelSt) : (s.modSel n f).hlth = s.hlth := rfl
@[simp] theorem State.modSel_nv (n : Nat) (f : SelSt → SelSt) : (s.modSel n f).nv = s.nv := rfl
@[simp] theorem State.modSel_sys (n : Nat) (f : SelSt → SelSt) : (s.modSel n f).sys = s.sys := rfl
@[simp] theorem State.modSel_lps (n : Nat) (f : SelSt → SelSt) : (s.modSel n f).lps = s.lps := rfl
@[simp] theorem State.modSel_blks (n : Nat) (f : SelSt → SelSt) : (s.modSel n f).blks = s.blks := rfl
@[simp] theorem State.modSel_sup (n : Nat) (f : SelSt → SelSt) : (s.modSel n f).sup = s.sup := rfl
@[simp] theorem State.modSel_out (n : Nat) (f : SelSt → SelSt) : (s.modSel n f).out = s.out := rfl
@[simp] theorem State.modSel_freeCtr (n : Nat) (f : SelSt → SelSt) : (s.modSel n f).freeCtr = s.freeCtr := rfl

/-! ### modDpll -/

@[simp] theorem State.modDpll_pending (n : Nat) (f : DpllSt → DpllSt) : (s.modDpll n f).pending = s.pending := rfl
@[simp] theorem State.modDpll_regs (n : Nat) (f : DpllSt → DpllSt) : (s.modDpll n f).regs = s.regs := rfl
@[simp] theorem State.modDpll_mem (n : Nat) (f : DpllSt → DpllSt) : (s.modDpll n f).mem = s.mem := rfl
@[simp] theorem State.modDpll_ecc (n : Nat) (f : DpllSt → DpllSt) : (s.modDpll n f).ecc = s.ecc := rfl
@[simp] theorem State.modDpll_par (n : Nat) (f : DpllSt → DpllSt) : (s.modDpll n f).par = s.par := rfl
@[simp] theorem State.modDpll_acc (n : Nat) (f : DpllSt → DpllSt) : (s.modDpll n f).acc = s.acc := rfl
@[simp] theorem State.modDpll_hif (n : Nat) (f : DpllSt → DpllSt) : (s.modDpll n f).hif = s.hif := rfl
@[simp] theorem State.modDpll_queues (n : Nat) (f : DpllSt → DpllSt) : (s.modDpll n f).queues = s.queues := rfl
@[simp] theorem State.modDpll_rings (n : Nat) (f : DpllSt → DpllSt) : (s.modDpll n f).rings = s.rings := rfl
@[simp] theorem State.modDpll_flt (n : Nat) (f : DpllSt → DpllSt) : (s.modDpll n f).flt = s.flt := rfl
@[simp] theorem State.modDpll_tb (n : Nat) (f : DpllSt → DpllSt) : (s.modDpll n f).tb = s.tb := rfl
@[simp] theorem State.modDpll_tev (n : Nat) (f : DpllSt → DpllSt) : (s.modDpll n f).tev = s.tev := rfl
@[simp] theorem State.modDpll_srcs (n : Nat) (f : DpllSt → DpllSt) : (s.modDpll n f).srcs = s.srcs := rfl
@[simp] theorem State.modDpll_mon (n : Nat) (f : DpllSt → DpllSt) : (s.modDpll n f).mon = s.mon := rfl
@[simp] theorem State.modDpll_sels (n : Nat) (f : DpllSt → DpllSt) : (s.modDpll n f).sels = s.sels := rfl
@[simp] theorem State.modDpll_dplls (n : Nat) (f : DpllSt → DpllSt) : (s.modDpll n f).dplls = lmod s.dplls n f := rfl
@[simp] theorem State.modDpll_osc (n : Nat) (f : DpllSt → DpllSt) : (s.modDpll n f).osc = s.osc := rfl
@[simp] theorem State.modDpll_brg (n : Nat) (f : DpllSt → DpllSt) : (s.modDpll n f).brg = s.brg := rfl
@[simp] theorem State.modDpll_aplls (n : Nat) (f : DpllSt → DpllSt) : (s.modDpll n f).aplls = s.aplls := rfl
@[simp] theorem State.modDpll_outs (n : Nat) (f : DpllSt → DpllSt) : (s.modDpll n f).outs = s.outs := rfl
@[simp] theorem State.modDpll_sync (n : Nat) (f : DpllSt → DpllSt) : (s.modDpll n f).sync = s.sync := rfl
@[simp] theorem State.modDpll_gl (n : Nat) (f : DpllSt → DpllSt) : (s.modDpll n f).gl = s.gl := rfl
@[simp] theorem State.modDpll_ptps (n : Nat) (f : DpllSt → DpllSt) : (s.modDpll n f).ptps = s.ptps := rfl
@[simp] theorem State.modDpll_tod (n : Nat) (f : DpllSt → DpllSt) : (s.modDpll n f).tod = s.tod := rfl
@[simp] theorem State.modDpll_engs (n : Nat) (f : DpllSt → DpllSt) : (s.modDpll n f).engs = s.engs := rfl
@[simp] theorem State.modDpll_ldr (n : Nat) (f : DpllSt → DpllSt) : (s.modDpll n f).ldr = s.ldr := rfl
@[simp] theorem State.modDpll_cal (n : Nat) (f : DpllSt → DpllSt) : (s.modDpll n f).cal = s.cal := rfl
@[simp] theorem State.modDpll_hlth (n : Nat) (f : DpllSt → DpllSt) : (s.modDpll n f).hlth = s.hlth := rfl
@[simp] theorem State.modDpll_nv (n : Nat) (f : DpllSt → DpllSt) : (s.modDpll n f).nv = s.nv := rfl
@[simp] theorem State.modDpll_sys (n : Nat) (f : DpllSt → DpllSt) : (s.modDpll n f).sys = s.sys := rfl
@[simp] theorem State.modDpll_lps (n : Nat) (f : DpllSt → DpllSt) : (s.modDpll n f).lps = s.lps := rfl
@[simp] theorem State.modDpll_blks (n : Nat) (f : DpllSt → DpllSt) : (s.modDpll n f).blks = s.blks := rfl
@[simp] theorem State.modDpll_sup (n : Nat) (f : DpllSt → DpllSt) : (s.modDpll n f).sup = s.sup := rfl
@[simp] theorem State.modDpll_out (n : Nat) (f : DpllSt → DpllSt) : (s.modDpll n f).out = s.out := rfl
@[simp] theorem State.modDpll_freeCtr (n : Nat) (f : DpllSt → DpllSt) : (s.modDpll n f).freeCtr = s.freeCtr := rfl

/-! ### setOsc -/

@[simp] theorem State.setOsc_pending (x : OscSt) : (s.setOsc x).pending = s.pending := rfl
@[simp] theorem State.setOsc_regs (x : OscSt) : (s.setOsc x).regs = s.regs := rfl
@[simp] theorem State.setOsc_mem (x : OscSt) : (s.setOsc x).mem = s.mem := rfl
@[simp] theorem State.setOsc_ecc (x : OscSt) : (s.setOsc x).ecc = s.ecc := rfl
@[simp] theorem State.setOsc_par (x : OscSt) : (s.setOsc x).par = s.par := rfl
@[simp] theorem State.setOsc_acc (x : OscSt) : (s.setOsc x).acc = s.acc := rfl
@[simp] theorem State.setOsc_hif (x : OscSt) : (s.setOsc x).hif = s.hif := rfl
@[simp] theorem State.setOsc_queues (x : OscSt) : (s.setOsc x).queues = s.queues := rfl
@[simp] theorem State.setOsc_rings (x : OscSt) : (s.setOsc x).rings = s.rings := rfl
@[simp] theorem State.setOsc_flt (x : OscSt) : (s.setOsc x).flt = s.flt := rfl
@[simp] theorem State.setOsc_tb (x : OscSt) : (s.setOsc x).tb = s.tb := rfl
@[simp] theorem State.setOsc_tev (x : OscSt) : (s.setOsc x).tev = s.tev := rfl
@[simp] theorem State.setOsc_srcs (x : OscSt) : (s.setOsc x).srcs = s.srcs := rfl
@[simp] theorem State.setOsc_mon (x : OscSt) : (s.setOsc x).mon = s.mon := rfl
@[simp] theorem State.setOsc_sels (x : OscSt) : (s.setOsc x).sels = s.sels := rfl
@[simp] theorem State.setOsc_dplls (x : OscSt) : (s.setOsc x).dplls = s.dplls := rfl
@[simp] theorem State.setOsc_osc (x : OscSt) : (s.setOsc x).osc = x := rfl
@[simp] theorem State.setOsc_brg (x : OscSt) : (s.setOsc x).brg = s.brg := rfl
@[simp] theorem State.setOsc_aplls (x : OscSt) : (s.setOsc x).aplls = s.aplls := rfl
@[simp] theorem State.setOsc_outs (x : OscSt) : (s.setOsc x).outs = s.outs := rfl
@[simp] theorem State.setOsc_sync (x : OscSt) : (s.setOsc x).sync = s.sync := rfl
@[simp] theorem State.setOsc_gl (x : OscSt) : (s.setOsc x).gl = s.gl := rfl
@[simp] theorem State.setOsc_ptps (x : OscSt) : (s.setOsc x).ptps = s.ptps := rfl
@[simp] theorem State.setOsc_tod (x : OscSt) : (s.setOsc x).tod = s.tod := rfl
@[simp] theorem State.setOsc_engs (x : OscSt) : (s.setOsc x).engs = s.engs := rfl
@[simp] theorem State.setOsc_ldr (x : OscSt) : (s.setOsc x).ldr = s.ldr := rfl
@[simp] theorem State.setOsc_cal (x : OscSt) : (s.setOsc x).cal = s.cal := rfl
@[simp] theorem State.setOsc_hlth (x : OscSt) : (s.setOsc x).hlth = s.hlth := rfl
@[simp] theorem State.setOsc_nv (x : OscSt) : (s.setOsc x).nv = s.nv := rfl
@[simp] theorem State.setOsc_sys (x : OscSt) : (s.setOsc x).sys = s.sys := rfl
@[simp] theorem State.setOsc_lps (x : OscSt) : (s.setOsc x).lps = s.lps := rfl
@[simp] theorem State.setOsc_blks (x : OscSt) : (s.setOsc x).blks = s.blks := rfl
@[simp] theorem State.setOsc_sup (x : OscSt) : (s.setOsc x).sup = s.sup := rfl
@[simp] theorem State.setOsc_out (x : OscSt) : (s.setOsc x).out = s.out := rfl
@[simp] theorem State.setOsc_freeCtr (x : OscSt) : (s.setOsc x).freeCtr = s.freeCtr := rfl

/-! ### setBrg -/

@[simp] theorem State.setBrg_pending (x : BrgSt) : (s.setBrg x).pending = s.pending := rfl
@[simp] theorem State.setBrg_regs (x : BrgSt) : (s.setBrg x).regs = s.regs := rfl
@[simp] theorem State.setBrg_mem (x : BrgSt) : (s.setBrg x).mem = s.mem := rfl
@[simp] theorem State.setBrg_ecc (x : BrgSt) : (s.setBrg x).ecc = s.ecc := rfl
@[simp] theorem State.setBrg_par (x : BrgSt) : (s.setBrg x).par = s.par := rfl
@[simp] theorem State.setBrg_acc (x : BrgSt) : (s.setBrg x).acc = s.acc := rfl
@[simp] theorem State.setBrg_hif (x : BrgSt) : (s.setBrg x).hif = s.hif := rfl
@[simp] theorem State.setBrg_queues (x : BrgSt) : (s.setBrg x).queues = s.queues := rfl
@[simp] theorem State.setBrg_rings (x : BrgSt) : (s.setBrg x).rings = s.rings := rfl
@[simp] theorem State.setBrg_flt (x : BrgSt) : (s.setBrg x).flt = s.flt := rfl
@[simp] theorem State.setBrg_tb (x : BrgSt) : (s.setBrg x).tb = s.tb := rfl
@[simp] theorem State.setBrg_tev (x : BrgSt) : (s.setBrg x).tev = s.tev := rfl
@[simp] theorem State.setBrg_srcs (x : BrgSt) : (s.setBrg x).srcs = s.srcs := rfl
@[simp] theorem State.setBrg_mon (x : BrgSt) : (s.setBrg x).mon = s.mon := rfl
@[simp] theorem State.setBrg_sels (x : BrgSt) : (s.setBrg x).sels = s.sels := rfl
@[simp] theorem State.setBrg_dplls (x : BrgSt) : (s.setBrg x).dplls = s.dplls := rfl
@[simp] theorem State.setBrg_osc (x : BrgSt) : (s.setBrg x).osc = s.osc := rfl
@[simp] theorem State.setBrg_brg (x : BrgSt) : (s.setBrg x).brg = x := rfl
@[simp] theorem State.setBrg_aplls (x : BrgSt) : (s.setBrg x).aplls = s.aplls := rfl
@[simp] theorem State.setBrg_outs (x : BrgSt) : (s.setBrg x).outs = s.outs := rfl
@[simp] theorem State.setBrg_sync (x : BrgSt) : (s.setBrg x).sync = s.sync := rfl
@[simp] theorem State.setBrg_gl (x : BrgSt) : (s.setBrg x).gl = s.gl := rfl
@[simp] theorem State.setBrg_ptps (x : BrgSt) : (s.setBrg x).ptps = s.ptps := rfl
@[simp] theorem State.setBrg_tod (x : BrgSt) : (s.setBrg x).tod = s.tod := rfl
@[simp] theorem State.setBrg_engs (x : BrgSt) : (s.setBrg x).engs = s.engs := rfl
@[simp] theorem State.setBrg_ldr (x : BrgSt) : (s.setBrg x).ldr = s.ldr := rfl
@[simp] theorem State.setBrg_cal (x : BrgSt) : (s.setBrg x).cal = s.cal := rfl
@[simp] theorem State.setBrg_hlth (x : BrgSt) : (s.setBrg x).hlth = s.hlth := rfl
@[simp] theorem State.setBrg_nv (x : BrgSt) : (s.setBrg x).nv = s.nv := rfl
@[simp] theorem State.setBrg_sys (x : BrgSt) : (s.setBrg x).sys = s.sys := rfl
@[simp] theorem State.setBrg_lps (x : BrgSt) : (s.setBrg x).lps = s.lps := rfl
@[simp] theorem State.setBrg_blks (x : BrgSt) : (s.setBrg x).blks = s.blks := rfl
@[simp] theorem State.setBrg_sup (x : BrgSt) : (s.setBrg x).sup = s.sup := rfl
@[simp] theorem State.setBrg_out (x : BrgSt) : (s.setBrg x).out = s.out := rfl
@[simp] theorem State.setBrg_freeCtr (x : BrgSt) : (s.setBrg x).freeCtr = s.freeCtr := rfl

/-! ### modApll -/

@[simp] theorem State.modApll_pending (n : Nat) (f : ApllSt → ApllSt) : (s.modApll n f).pending = s.pending := rfl
@[simp] theorem State.modApll_regs (n : Nat) (f : ApllSt → ApllSt) : (s.modApll n f).regs = s.regs := rfl
@[simp] theorem State.modApll_mem (n : Nat) (f : ApllSt → ApllSt) : (s.modApll n f).mem = s.mem := rfl
@[simp] theorem State.modApll_ecc (n : Nat) (f : ApllSt → ApllSt) : (s.modApll n f).ecc = s.ecc := rfl
@[simp] theorem State.modApll_par (n : Nat) (f : ApllSt → ApllSt) : (s.modApll n f).par = s.par := rfl
@[simp] theorem State.modApll_acc (n : Nat) (f : ApllSt → ApllSt) : (s.modApll n f).acc = s.acc := rfl
@[simp] theorem State.modApll_hif (n : Nat) (f : ApllSt → ApllSt) : (s.modApll n f).hif = s.hif := rfl
@[simp] theorem State.modApll_queues (n : Nat) (f : ApllSt → ApllSt) : (s.modApll n f).queues = s.queues := rfl
@[simp] theorem State.modApll_rings (n : Nat) (f : ApllSt → ApllSt) : (s.modApll n f).rings = s.rings := rfl
@[simp] theorem State.modApll_flt (n : Nat) (f : ApllSt → ApllSt) : (s.modApll n f).flt = s.flt := rfl
@[simp] theorem State.modApll_tb (n : Nat) (f : ApllSt → ApllSt) : (s.modApll n f).tb = s.tb := rfl
@[simp] theorem State.modApll_tev (n : Nat) (f : ApllSt → ApllSt) : (s.modApll n f).tev = s.tev := rfl
@[simp] theorem State.modApll_srcs (n : Nat) (f : ApllSt → ApllSt) : (s.modApll n f).srcs = s.srcs := rfl
@[simp] theorem State.modApll_mon (n : Nat) (f : ApllSt → ApllSt) : (s.modApll n f).mon = s.mon := rfl
@[simp] theorem State.modApll_sels (n : Nat) (f : ApllSt → ApllSt) : (s.modApll n f).sels = s.sels := rfl
@[simp] theorem State.modApll_dplls (n : Nat) (f : ApllSt → ApllSt) : (s.modApll n f).dplls = s.dplls := rfl
@[simp] theorem State.modApll_osc (n : Nat) (f : ApllSt → ApllSt) : (s.modApll n f).osc = s.osc := rfl
@[simp] theorem State.modApll_brg (n : Nat) (f : ApllSt → ApllSt) : (s.modApll n f).brg = s.brg := rfl
@[simp] theorem State.modApll_aplls (n : Nat) (f : ApllSt → ApllSt) : (s.modApll n f).aplls = lmod s.aplls n f := rfl
@[simp] theorem State.modApll_outs (n : Nat) (f : ApllSt → ApllSt) : (s.modApll n f).outs = s.outs := rfl
@[simp] theorem State.modApll_sync (n : Nat) (f : ApllSt → ApllSt) : (s.modApll n f).sync = s.sync := rfl
@[simp] theorem State.modApll_gl (n : Nat) (f : ApllSt → ApllSt) : (s.modApll n f).gl = s.gl := rfl
@[simp] theorem State.modApll_ptps (n : Nat) (f : ApllSt → ApllSt) : (s.modApll n f).ptps = s.ptps := rfl
@[simp] theorem State.modApll_tod (n : Nat) (f : ApllSt → ApllSt) : (s.modApll n f).tod = s.tod := rfl
@[simp] theorem State.modApll_engs (n : Nat) (f : ApllSt → ApllSt) : (s.modApll n f).engs = s.engs := rfl
@[simp] theorem State.modApll_ldr (n : Nat) (f : ApllSt → ApllSt) : (s.modApll n f).ldr = s.ldr := rfl
@[simp] theorem State.modApll_cal (n : Nat) (f : ApllSt → ApllSt) : (s.modApll n f).cal = s.cal := rfl
@[simp] theorem State.modApll_hlth (n : Nat) (f : ApllSt → ApllSt) : (s.modApll n f).hlth = s.hlth := rfl
@[simp] theorem State.modApll_nv (n : Nat) (f : ApllSt → ApllSt) : (s.modApll n f).nv = s.nv := rfl
@[simp] theorem State.modApll_sys (n : Nat) (f : ApllSt → ApllSt) : (s.modApll n f).sys = s.sys := rfl
@[simp] theorem State.modApll_lps (n : Nat) (f : ApllSt → ApllSt) : (s.modApll n f).lps = s.lps := rfl
@[simp] theorem State.modApll_blks (n : Nat) (f : ApllSt → ApllSt) : (s.modApll n f).blks = s.blks := rfl
@[simp] theorem State.modApll_sup (n : Nat) (f : ApllSt → ApllSt) : (s.modApll n f).sup = s.sup := rfl
@[simp] theorem State.modApll_out (n : Nat) (f : ApllSt → ApllSt) : (s.modApll n f).out = s.out := rfl
@[simp] theorem State.modApll_freeCtr (n : Nat) (f : ApllSt → ApllSt) : (s.modApll n f).freeCtr = s.freeCtr := rfl

/-! ### modOut -/

@[simp] theorem State.modOut_pending (n : Nat) (f : OutSt → OutSt) : (s.modOut n f).pending = s.pending := rfl
@[simp] theorem State.modOut_regs (n : Nat) (f : OutSt → OutSt) : (s.modOut n f).regs = s.regs := rfl
@[simp] theorem State.modOut_mem (n : Nat) (f : OutSt → OutSt) : (s.modOut n f).mem = s.mem := rfl
@[simp] theorem State.modOut_ecc (n : Nat) (f : OutSt → OutSt) : (s.modOut n f).ecc = s.ecc := rfl
@[simp] theorem State.modOut_par (n : Nat) (f : OutSt → OutSt) : (s.modOut n f).par = s.par := rfl
@[simp] theorem State.modOut_acc (n : Nat) (f : OutSt → OutSt) : (s.modOut n f).acc = s.acc := rfl
@[simp] theorem State.modOut_hif (n : Nat) (f : OutSt → OutSt) : (s.modOut n f).hif = s.hif := rfl
@[simp] theorem State.modOut_queues (n : Nat) (f : OutSt → OutSt) : (s.modOut n f).queues = s.queues := rfl
@[simp] theorem State.modOut_rings (n : Nat) (f : OutSt → OutSt) : (s.modOut n f).rings = s.rings := rfl
@[simp] theorem State.modOut_flt (n : Nat) (f : OutSt → OutSt) : (s.modOut n f).flt = s.flt := rfl
@[simp] theorem State.modOut_tb (n : Nat) (f : OutSt → OutSt) : (s.modOut n f).tb = s.tb := rfl
@[simp] theorem State.modOut_tev (n : Nat) (f : OutSt → OutSt) : (s.modOut n f).tev = s.tev := rfl
@[simp] theorem State.modOut_srcs (n : Nat) (f : OutSt → OutSt) : (s.modOut n f).srcs = s.srcs := rfl
@[simp] theorem State.modOut_mon (n : Nat) (f : OutSt → OutSt) : (s.modOut n f).mon = s.mon := rfl
@[simp] theorem State.modOut_sels (n : Nat) (f : OutSt → OutSt) : (s.modOut n f).sels = s.sels := rfl
@[simp] theorem State.modOut_dplls (n : Nat) (f : OutSt → OutSt) : (s.modOut n f).dplls = s.dplls := rfl
@[simp] theorem State.modOut_osc (n : Nat) (f : OutSt → OutSt) : (s.modOut n f).osc = s.osc := rfl
@[simp] theorem State.modOut_brg (n : Nat) (f : OutSt → OutSt) : (s.modOut n f).brg = s.brg := rfl
@[simp] theorem State.modOut_aplls (n : Nat) (f : OutSt → OutSt) : (s.modOut n f).aplls = s.aplls := rfl
@[simp] theorem State.modOut_outs (n : Nat) (f : OutSt → OutSt) : (s.modOut n f).outs = lmod s.outs n f := rfl
@[simp] theorem State.modOut_sync (n : Nat) (f : OutSt → OutSt) : (s.modOut n f).sync = s.sync := rfl
@[simp] theorem State.modOut_gl (n : Nat) (f : OutSt → OutSt) : (s.modOut n f).gl = s.gl := rfl
@[simp] theorem State.modOut_ptps (n : Nat) (f : OutSt → OutSt) : (s.modOut n f).ptps = s.ptps := rfl
@[simp] theorem State.modOut_tod (n : Nat) (f : OutSt → OutSt) : (s.modOut n f).tod = s.tod := rfl
@[simp] theorem State.modOut_engs (n : Nat) (f : OutSt → OutSt) : (s.modOut n f).engs = s.engs := rfl
@[simp] theorem State.modOut_ldr (n : Nat) (f : OutSt → OutSt) : (s.modOut n f).ldr = s.ldr := rfl
@[simp] theorem State.modOut_cal (n : Nat) (f : OutSt → OutSt) : (s.modOut n f).cal = s.cal := rfl
@[simp] theorem State.modOut_hlth (n : Nat) (f : OutSt → OutSt) : (s.modOut n f).hlth = s.hlth := rfl
@[simp] theorem State.modOut_nv (n : Nat) (f : OutSt → OutSt) : (s.modOut n f).nv = s.nv := rfl
@[simp] theorem State.modOut_sys (n : Nat) (f : OutSt → OutSt) : (s.modOut n f).sys = s.sys := rfl
@[simp] theorem State.modOut_lps (n : Nat) (f : OutSt → OutSt) : (s.modOut n f).lps = s.lps := rfl
@[simp] theorem State.modOut_blks (n : Nat) (f : OutSt → OutSt) : (s.modOut n f).blks = s.blks := rfl
@[simp] theorem State.modOut_sup (n : Nat) (f : OutSt → OutSt) : (s.modOut n f).sup = s.sup := rfl
@[simp] theorem State.modOut_out (n : Nat) (f : OutSt → OutSt) : (s.modOut n f).out = s.out := rfl
@[simp] theorem State.modOut_freeCtr (n : Nat) (f : OutSt → OutSt) : (s.modOut n f).freeCtr = s.freeCtr := rfl

/-! ### setGl -/

@[simp] theorem State.setGl_pending (x : GlSt) : (s.setGl x).pending = s.pending := rfl
@[simp] theorem State.setGl_regs (x : GlSt) : (s.setGl x).regs = s.regs := rfl
@[simp] theorem State.setGl_mem (x : GlSt) : (s.setGl x).mem = s.mem := rfl
@[simp] theorem State.setGl_ecc (x : GlSt) : (s.setGl x).ecc = s.ecc := rfl
@[simp] theorem State.setGl_par (x : GlSt) : (s.setGl x).par = s.par := rfl
@[simp] theorem State.setGl_acc (x : GlSt) : (s.setGl x).acc = s.acc := rfl
@[simp] theorem State.setGl_hif (x : GlSt) : (s.setGl x).hif = s.hif := rfl
@[simp] theorem State.setGl_queues (x : GlSt) : (s.setGl x).queues = s.queues := rfl
@[simp] theorem State.setGl_rings (x : GlSt) : (s.setGl x).rings = s.rings := rfl
@[simp] theorem State.setGl_flt (x : GlSt) : (s.setGl x).flt = s.flt := rfl
@[simp] theorem State.setGl_tb (x : GlSt) : (s.setGl x).tb = s.tb := rfl
@[simp] theorem State.setGl_tev (x : GlSt) : (s.setGl x).tev = s.tev := rfl
@[simp] theorem State.setGl_srcs (x : GlSt) : (s.setGl x).srcs = s.srcs := rfl
@[simp] theorem State.setGl_mon (x : GlSt) : (s.setGl x).mon = s.mon := rfl
@[simp] theorem State.setGl_sels (x : GlSt) : (s.setGl x).sels = s.sels := rfl
@[simp] theorem State.setGl_dplls (x : GlSt) : (s.setGl x).dplls = s.dplls := rfl
@[simp] theorem State.setGl_osc (x : GlSt) : (s.setGl x).osc = s.osc := rfl
@[simp] theorem State.setGl_brg (x : GlSt) : (s.setGl x).brg = s.brg := rfl
@[simp] theorem State.setGl_aplls (x : GlSt) : (s.setGl x).aplls = s.aplls := rfl
@[simp] theorem State.setGl_outs (x : GlSt) : (s.setGl x).outs = s.outs := rfl
@[simp] theorem State.setGl_sync (x : GlSt) : (s.setGl x).sync = s.sync := rfl
@[simp] theorem State.setGl_gl (x : GlSt) : (s.setGl x).gl = x := rfl
@[simp] theorem State.setGl_ptps (x : GlSt) : (s.setGl x).ptps = s.ptps := rfl
@[simp] theorem State.setGl_tod (x : GlSt) : (s.setGl x).tod = s.tod := rfl
@[simp] theorem State.setGl_engs (x : GlSt) : (s.setGl x).engs = s.engs := rfl
@[simp] theorem State.setGl_ldr (x : GlSt) : (s.setGl x).ldr = s.ldr := rfl
@[simp] theorem State.setGl_cal (x : GlSt) : (s.setGl x).cal = s.cal := rfl
@[simp] theorem State.setGl_hlth (x : GlSt) : (s.setGl x).hlth = s.hlth := rfl
@[simp] theorem State.setGl_nv (x : GlSt) : (s.setGl x).nv = s.nv := rfl
@[simp] theorem State.setGl_sys (x : GlSt) : (s.setGl x).sys = s.sys := rfl
@[simp] theorem State.setGl_lps (x : GlSt) : (s.setGl x).lps = s.lps := rfl
@[simp] theorem State.setGl_blks (x : GlSt) : (s.setGl x).blks = s.blks := rfl
@[simp] theorem State.setGl_sup (x : GlSt) : (s.setGl x).sup = s.sup := rfl
@[simp] theorem State.setGl_out (x : GlSt) : (s.setGl x).out = s.out := rfl
@[simp] theorem State.setGl_freeCtr (x : GlSt) : (s.setGl x).freeCtr = s.freeCtr := rfl

/-! ### setSync -/

@[simp] theorem State.setSync_pending (x : SyncSt) : (s.setSync x).pending = s.pending := rfl
@[simp] theorem State.setSync_regs (x : SyncSt) : (s.setSync x).regs = s.regs := rfl
@[simp] theorem State.setSync_mem (x : SyncSt) : (s.setSync x).mem = s.mem := rfl
@[simp] theorem State.setSync_ecc (x : SyncSt) : (s.setSync x).ecc = s.ecc := rfl
@[simp] theorem State.setSync_par (x : SyncSt) : (s.setSync x).par = s.par := rfl
@[simp] theorem State.setSync_acc (x : SyncSt) : (s.setSync x).acc = s.acc := rfl
@[simp] theorem State.setSync_hif (x : SyncSt) : (s.setSync x).hif = s.hif := rfl
@[simp] theorem State.setSync_queues (x : SyncSt) : (s.setSync x).queues = s.queues := rfl
@[simp] theorem State.setSync_rings (x : SyncSt) : (s.setSync x).rings = s.rings := rfl
@[simp] theorem State.setSync_flt (x : SyncSt) : (s.setSync x).flt = s.flt := rfl
@[simp] theorem State.setSync_tb (x : SyncSt) : (s.setSync x).tb = s.tb := rfl
@[simp] theorem State.setSync_tev (x : SyncSt) : (s.setSync x).tev = s.tev := rfl
@[simp] theorem State.setSync_srcs (x : SyncSt) : (s.setSync x).srcs = s.srcs := rfl
@[simp] theorem State.setSync_mon (x : SyncSt) : (s.setSync x).mon = s.mon := rfl
@[simp] theorem State.setSync_sels (x : SyncSt) : (s.setSync x).sels = s.sels := rfl
@[simp] theorem State.setSync_dplls (x : SyncSt) : (s.setSync x).dplls = s.dplls := rfl
@[simp] theorem State.setSync_osc (x : SyncSt) : (s.setSync x).osc = s.osc := rfl
@[simp] theorem State.setSync_brg (x : SyncSt) : (s.setSync x).brg = s.brg := rfl
@[simp] theorem State.setSync_aplls (x : SyncSt) : (s.setSync x).aplls = s.aplls := rfl
@[simp] theorem State.setSync_outs (x : SyncSt) : (s.setSync x).outs = s.outs := rfl
@[simp] theorem State.setSync_sync (x : SyncSt) : (s.setSync x).sync = x := rfl
@[simp] theorem State.setSync_gl (x : SyncSt) : (s.setSync x).gl = s.gl := rfl
@[simp] theorem State.setSync_ptps (x : SyncSt) : (s.setSync x).ptps = s.ptps := rfl
@[simp] theorem State.setSync_tod (x : SyncSt) : (s.setSync x).tod = s.tod := rfl
@[simp] theorem State.setSync_engs (x : SyncSt) : (s.setSync x).engs = s.engs := rfl
@[simp] theorem State.setSync_ldr (x : SyncSt) : (s.setSync x).ldr = s.ldr := rfl
@[simp] theorem State.setSync_cal (x : SyncSt) : (s.setSync x).cal = s.cal := rfl
@[simp] theorem State.setSync_hlth (x : SyncSt) : (s.setSync x).hlth = s.hlth := rfl
@[simp] theorem State.setSync_nv (x : SyncSt) : (s.setSync x).nv = s.nv := rfl
@[simp] theorem State.setSync_sys (x : SyncSt) : (s.setSync x).sys = s.sys := rfl
@[simp] theorem State.setSync_lps (x : SyncSt) : (s.setSync x).lps = s.lps := rfl
@[simp] theorem State.setSync_blks (x : SyncSt) : (s.setSync x).blks = s.blks := rfl
@[simp] theorem State.setSync_sup (x : SyncSt) : (s.setSync x).sup = s.sup := rfl
@[simp] theorem State.setSync_out (x : SyncSt) : (s.setSync x).out = s.out := rfl
@[simp] theorem State.setSync_freeCtr (x : SyncSt) : (s.setSync x).freeCtr = s.freeCtr := rfl

/-! ### modPtp -/

@[simp] theorem State.modPtp_pending (n : Nat) (f : PtpSt → PtpSt) : (s.modPtp n f).pending = s.pending := rfl
@[simp] theorem State.modPtp_regs (n : Nat) (f : PtpSt → PtpSt) : (s.modPtp n f).regs = s.regs := rfl
@[simp] theorem State.modPtp_mem (n : Nat) (f : PtpSt → PtpSt) : (s.modPtp n f).mem = s.mem := rfl
@[simp] theorem State.modPtp_ecc (n : Nat) (f : PtpSt → PtpSt) : (s.modPtp n f).ecc = s.ecc := rfl
@[simp] theorem State.modPtp_par (n : Nat) (f : PtpSt → PtpSt) : (s.modPtp n f).par = s.par := rfl
@[simp] theorem State.modPtp_acc (n : Nat) (f : PtpSt → PtpSt) : (s.modPtp n f).acc = s.acc := rfl
@[simp] theorem State.modPtp_hif (n : Nat) (f : PtpSt → PtpSt) : (s.modPtp n f).hif = s.hif := rfl
@[simp] theorem State.modPtp_queues (n : Nat) (f : PtpSt → PtpSt) : (s.modPtp n f).queues = s.queues := rfl
@[simp] theorem State.modPtp_rings (n : Nat) (f : PtpSt → PtpSt) : (s.modPtp n f).rings = s.rings := rfl
@[simp] theorem State.modPtp_flt (n : Nat) (f : PtpSt → PtpSt) : (s.modPtp n f).flt = s.flt := rfl
@[simp] theorem State.modPtp_tb (n : Nat) (f : PtpSt → PtpSt) : (s.modPtp n f).tb = s.tb := rfl
@[simp] theorem State.modPtp_tev (n : Nat) (f : PtpSt → PtpSt) : (s.modPtp n f).tev = s.tev := rfl
@[simp] theorem State.modPtp_srcs (n : Nat) (f : PtpSt → PtpSt) : (s.modPtp n f).srcs = s.srcs := rfl
@[simp] theorem State.modPtp_mon (n : Nat) (f : PtpSt → PtpSt) : (s.modPtp n f).mon = s.mon := rfl
@[simp] theorem State.modPtp_sels (n : Nat) (f : PtpSt → PtpSt) : (s.modPtp n f).sels = s.sels := rfl
@[simp] theorem State.modPtp_dplls (n : Nat) (f : PtpSt → PtpSt) : (s.modPtp n f).dplls = s.dplls := rfl
@[simp] theorem State.modPtp_osc (n : Nat) (f : PtpSt → PtpSt) : (s.modPtp n f).osc = s.osc := rfl
@[simp] theorem State.modPtp_brg (n : Nat) (f : PtpSt → PtpSt) : (s.modPtp n f).brg = s.brg := rfl
@[simp] theorem State.modPtp_aplls (n : Nat) (f : PtpSt → PtpSt) : (s.modPtp n f).aplls = s.aplls := rfl
@[simp] theorem State.modPtp_outs (n : Nat) (f : PtpSt → PtpSt) : (s.modPtp n f).outs = s.outs := rfl
@[simp] theorem State.modPtp_sync (n : Nat) (f : PtpSt → PtpSt) : (s.modPtp n f).sync = s.sync := rfl
@[simp] theorem State.modPtp_gl (n : Nat) (f : PtpSt → PtpSt) : (s.modPtp n f).gl = s.gl := rfl
@[simp] theorem State.modPtp_ptps (n : Nat) (f : PtpSt → PtpSt) : (s.modPtp n f).ptps = lmod s.ptps n f := rfl
@[simp] theorem State.modPtp_tod (n : Nat) (f : PtpSt → PtpSt) : (s.modPtp n f).tod = s.tod := rfl
@[simp] theorem State.modPtp_engs (n : Nat) (f : PtpSt → PtpSt) : (s.modPtp n f).engs = s.engs := rfl
@[simp] theorem State.modPtp_ldr (n : Nat) (f : PtpSt → PtpSt) : (s.modPtp n f).ldr = s.ldr := rfl
@[simp] theorem State.modPtp_cal (n : Nat) (f : PtpSt → PtpSt) : (s.modPtp n f).cal = s.cal := rfl
@[simp] theorem State.modPtp_hlth (n : Nat) (f : PtpSt → PtpSt) : (s.modPtp n f).hlth = s.hlth := rfl
@[simp] theorem State.modPtp_nv (n : Nat) (f : PtpSt → PtpSt) : (s.modPtp n f).nv = s.nv := rfl
@[simp] theorem State.modPtp_sys (n : Nat) (f : PtpSt → PtpSt) : (s.modPtp n f).sys = s.sys := rfl
@[simp] theorem State.modPtp_lps (n : Nat) (f : PtpSt → PtpSt) : (s.modPtp n f).lps = s.lps := rfl
@[simp] theorem State.modPtp_blks (n : Nat) (f : PtpSt → PtpSt) : (s.modPtp n f).blks = s.blks := rfl
@[simp] theorem State.modPtp_sup (n : Nat) (f : PtpSt → PtpSt) : (s.modPtp n f).sup = s.sup := rfl
@[simp] theorem State.modPtp_out (n : Nat) (f : PtpSt → PtpSt) : (s.modPtp n f).out = s.out := rfl
@[simp] theorem State.modPtp_freeCtr (n : Nat) (f : PtpSt → PtpSt) : (s.modPtp n f).freeCtr = s.freeCtr := rfl

/-! ### setTod -/

@[simp] theorem State.setTod_pending (x : TodSt) : (s.setTod x).pending = s.pending := rfl
@[simp] theorem State.setTod_regs (x : TodSt) : (s.setTod x).regs = s.regs := rfl
@[simp] theorem State.setTod_mem (x : TodSt) : (s.setTod x).mem = s.mem := rfl
@[simp] theorem State.setTod_ecc (x : TodSt) : (s.setTod x).ecc = s.ecc := rfl
@[simp] theorem State.setTod_par (x : TodSt) : (s.setTod x).par = s.par := rfl
@[simp] theorem State.setTod_acc (x : TodSt) : (s.setTod x).acc = s.acc := rfl
@[simp] theorem State.setTod_hif (x : TodSt) : (s.setTod x).hif = s.hif := rfl
@[simp] theorem State.setTod_queues (x : TodSt) : (s.setTod x).queues = s.queues := rfl
@[simp] theorem State.setTod_rings (x : TodSt) : (s.setTod x).rings = s.rings := rfl
@[simp] theorem State.setTod_flt (x : TodSt) : (s.setTod x).flt = s.flt := rfl
@[simp] theorem State.setTod_tb (x : TodSt) : (s.setTod x).tb = s.tb := rfl
@[simp] theorem State.setTod_tev (x : TodSt) : (s.setTod x).tev = s.tev := rfl
@[simp] theorem State.setTod_srcs (x : TodSt) : (s.setTod x).srcs = s.srcs := rfl
@[simp] theorem State.setTod_mon (x : TodSt) : (s.setTod x).mon = s.mon := rfl
@[simp] theorem State.setTod_sels (x : TodSt) : (s.setTod x).sels = s.sels := rfl
@[simp] theorem State.setTod_dplls (x : TodSt) : (s.setTod x).dplls = s.dplls := rfl
@[simp] theorem State.setTod_osc (x : TodSt) : (s.setTod x).osc = s.osc := rfl
@[simp] theorem State.setTod_brg (x : TodSt) : (s.setTod x).brg = s.brg := rfl
@[simp] theorem State.setTod_aplls (x : TodSt) : (s.setTod x).aplls = s.aplls := rfl
@[simp] theorem State.setTod_outs (x : TodSt) : (s.setTod x).outs = s.outs := rfl
@[simp] theorem State.setTod_sync (x : TodSt) : (s.setTod x).sync = s.sync := rfl
@[simp] theorem State.setTod_gl (x : TodSt) : (s.setTod x).gl = s.gl := rfl
@[simp] theorem State.setTod_ptps (x : TodSt) : (s.setTod x).ptps = s.ptps := rfl
@[simp] theorem State.setTod_tod (x : TodSt) : (s.setTod x).tod = x := rfl
@[simp] theorem State.setTod_engs (x : TodSt) : (s.setTod x).engs = s.engs := rfl
@[simp] theorem State.setTod_ldr (x : TodSt) : (s.setTod x).ldr = s.ldr := rfl
@[simp] theorem State.setTod_cal (x : TodSt) : (s.setTod x).cal = s.cal := rfl
@[simp] theorem State.setTod_hlth (x : TodSt) : (s.setTod x).hlth = s.hlth := rfl
@[simp] theorem State.setTod_nv (x : TodSt) : (s.setTod x).nv = s.nv := rfl
@[simp] theorem State.setTod_sys (x : TodSt) : (s.setTod x).sys = s.sys := rfl
@[simp] theorem State.setTod_lps (x : TodSt) : (s.setTod x).lps = s.lps := rfl
@[simp] theorem State.setTod_blks (x : TodSt) : (s.setTod x).blks = s.blks := rfl
@[simp] theorem State.setTod_sup (x : TodSt) : (s.setTod x).sup = s.sup := rfl
@[simp] theorem State.setTod_out (x : TodSt) : (s.setTod x).out = s.out := rfl
@[simp] theorem State.setTod_freeCtr (x : TodSt) : (s.setTod x).freeCtr = s.freeCtr := rfl

/-! ### setCal -/

@[simp] theorem State.setCal_pending (x : CalSt) : (s.setCal x).pending = s.pending := rfl
@[simp] theorem State.setCal_regs (x : CalSt) : (s.setCal x).regs = s.regs := rfl
@[simp] theorem State.setCal_mem (x : CalSt) : (s.setCal x).mem = s.mem := rfl
@[simp] theorem State.setCal_ecc (x : CalSt) : (s.setCal x).ecc = s.ecc := rfl
@[simp] theorem State.setCal_par (x : CalSt) : (s.setCal x).par = s.par := rfl
@[simp] theorem State.setCal_acc (x : CalSt) : (s.setCal x).acc = s.acc := rfl
@[simp] theorem State.setCal_hif (x : CalSt) : (s.setCal x).hif = s.hif := rfl
@[simp] theorem State.setCal_queues (x : CalSt) : (s.setCal x).queues = s.queues := rfl
@[simp] theorem State.setCal_rings (x : CalSt) : (s.setCal x).rings = s.rings := rfl
@[simp] theorem State.setCal_flt (x : CalSt) : (s.setCal x).flt = s.flt := rfl
@[simp] theorem State.setCal_tb (x : CalSt) : (s.setCal x).tb = s.tb := rfl
@[simp] theorem State.setCal_tev (x : CalSt) : (s.setCal x).tev = s.tev := rfl
@[simp] theorem State.setCal_srcs (x : CalSt) : (s.setCal x).srcs = s.srcs := rfl
@[simp] theorem State.setCal_mon (x : CalSt) : (s.setCal x).mon = s.mon := rfl
@[simp] theorem State.setCal_sels (x : CalSt) : (s.setCal x).sels = s.sels := rfl
@[simp] theorem State.setCal_dplls (x : CalSt) : (s.setCal x).dplls = s.dplls := rfl
@[simp] theorem State.setCal_osc (x : CalSt) : (s.setCal x).osc = s.osc := rfl
@[simp] theorem State.setCal_brg (x : CalSt) : (s.setCal x).brg = s.brg := rfl
@[simp] theorem State.setCal_aplls (x : CalSt) : (s.setCal x).aplls = s.aplls := rfl
@[simp] theorem State.setCal_outs (x : CalSt) : (s.setCal x).outs = s.outs := rfl
@[simp] theorem State.setCal_sync (x : CalSt) : (s.setCal x).sync = s.sync := rfl
@[simp] theorem State.setCal_gl (x : CalSt) : (s.setCal x).gl = s.gl := rfl
@[simp] theorem State.setCal_ptps (x : CalSt) : (s.setCal x).ptps = s.ptps := rfl
@[simp] theorem State.setCal_tod (x : CalSt) : (s.setCal x).tod = s.tod := rfl
@[simp] theorem State.setCal_engs (x : CalSt) : (s.setCal x).engs = s.engs := rfl
@[simp] theorem State.setCal_ldr (x : CalSt) : (s.setCal x).ldr = s.ldr := rfl
@[simp] theorem State.setCal_cal (x : CalSt) : (s.setCal x).cal = x := rfl
@[simp] theorem State.setCal_hlth (x : CalSt) : (s.setCal x).hlth = s.hlth := rfl
@[simp] theorem State.setCal_nv (x : CalSt) : (s.setCal x).nv = s.nv := rfl
@[simp] theorem State.setCal_sys (x : CalSt) : (s.setCal x).sys = s.sys := rfl
@[simp] theorem State.setCal_lps (x : CalSt) : (s.setCal x).lps = s.lps := rfl
@[simp] theorem State.setCal_blks (x : CalSt) : (s.setCal x).blks = s.blks := rfl
@[simp] theorem State.setCal_sup (x : CalSt) : (s.setCal x).sup = s.sup := rfl
@[simp] theorem State.setCal_out (x : CalSt) : (s.setCal x).out = s.out := rfl
@[simp] theorem State.setCal_freeCtr (x : CalSt) : (s.setCal x).freeCtr = s.freeCtr := rfl

/-! ### setHlth -/

@[simp] theorem State.setHlth_pending (x : HlthSt) : (s.setHlth x).pending = s.pending := rfl
@[simp] theorem State.setHlth_regs (x : HlthSt) : (s.setHlth x).regs = s.regs := rfl
@[simp] theorem State.setHlth_mem (x : HlthSt) : (s.setHlth x).mem = s.mem := rfl
@[simp] theorem State.setHlth_ecc (x : HlthSt) : (s.setHlth x).ecc = s.ecc := rfl
@[simp] theorem State.setHlth_par (x : HlthSt) : (s.setHlth x).par = s.par := rfl
@[simp] theorem State.setHlth_acc (x : HlthSt) : (s.setHlth x).acc = s.acc := rfl
@[simp] theorem State.setHlth_hif (x : HlthSt) : (s.setHlth x).hif = s.hif := rfl
@[simp] theorem State.setHlth_queues (x : HlthSt) : (s.setHlth x).queues = s.queues := rfl
@[simp] theorem State.setHlth_rings (x : HlthSt) : (s.setHlth x).rings = s.rings := rfl
@[simp] theorem State.setHlth_flt (x : HlthSt) : (s.setHlth x).flt = s.flt := rfl
@[simp] theorem State.setHlth_tb (x : HlthSt) : (s.setHlth x).tb = s.tb := rfl
@[simp] theorem State.setHlth_tev (x : HlthSt) : (s.setHlth x).tev = s.tev := rfl
@[simp] theorem State.setHlth_srcs (x : HlthSt) : (s.setHlth x).srcs = s.srcs := rfl
@[simp] theorem State.setHlth_mon (x : HlthSt) : (s.setHlth x).mon = s.mon := rfl
@[simp] theorem State.setHlth_sels (x : HlthSt) : (s.setHlth x).sels = s.sels := rfl
@[simp] theorem State.setHlth_dplls (x : HlthSt) : (s.setHlth x).dplls = s.dplls := rfl
@[simp] theorem State.setHlth_osc (x : HlthSt) : (s.setHlth x).osc = s.osc := rfl
@[simp] theorem State.setHlth_brg (x : HlthSt) : (s.setHlth x).brg = s.brg := rfl
@[simp] theorem State.setHlth_aplls (x : HlthSt) : (s.setHlth x).aplls = s.aplls := rfl
@[simp] theorem State.setHlth_outs (x : HlthSt) : (s.setHlth x).outs = s.outs := rfl
@[simp] theorem State.setHlth_sync (x : HlthSt) : (s.setHlth x).sync = s.sync := rfl
@[simp] theorem State.setHlth_gl (x : HlthSt) : (s.setHlth x).gl = s.gl := rfl
@[simp] theorem State.setHlth_ptps (x : HlthSt) : (s.setHlth x).ptps = s.ptps := rfl
@[simp] theorem State.setHlth_tod (x : HlthSt) : (s.setHlth x).tod = s.tod := rfl
@[simp] theorem State.setHlth_engs (x : HlthSt) : (s.setHlth x).engs = s.engs := rfl
@[simp] theorem State.setHlth_ldr (x : HlthSt) : (s.setHlth x).ldr = s.ldr := rfl
@[simp] theorem State.setHlth_cal (x : HlthSt) : (s.setHlth x).cal = s.cal := rfl
@[simp] theorem State.setHlth_hlth (x : HlthSt) : (s.setHlth x).hlth = x := rfl
@[simp] theorem State.setHlth_nv (x : HlthSt) : (s.setHlth x).nv = s.nv := rfl
@[simp] theorem State.setHlth_sys (x : HlthSt) : (s.setHlth x).sys = s.sys := rfl
@[simp] theorem State.setHlth_lps (x : HlthSt) : (s.setHlth x).lps = s.lps := rfl
@[simp] theorem State.setHlth_blks (x : HlthSt) : (s.setHlth x).blks = s.blks := rfl
@[simp] theorem State.setHlth_sup (x : HlthSt) : (s.setHlth x).sup = s.sup := rfl
@[simp] theorem State.setHlth_out (x : HlthSt) : (s.setHlth x).out = s.out := rfl
@[simp] theorem State.setHlth_freeCtr (x : HlthSt) : (s.setHlth x).freeCtr = s.freeCtr := rfl

/-! ### setNv -/

@[simp] theorem State.setNv_pending (x : NvSt) : (s.setNv x).pending = s.pending := rfl
@[simp] theorem State.setNv_regs (x : NvSt) : (s.setNv x).regs = s.regs := rfl
@[simp] theorem State.setNv_mem (x : NvSt) : (s.setNv x).mem = s.mem := rfl
@[simp] theorem State.setNv_ecc (x : NvSt) : (s.setNv x).ecc = s.ecc := rfl
@[simp] theorem State.setNv_par (x : NvSt) : (s.setNv x).par = s.par := rfl
@[simp] theorem State.setNv_acc (x : NvSt) : (s.setNv x).acc = s.acc := rfl
@[simp] theorem State.setNv_hif (x : NvSt) : (s.setNv x).hif = s.hif := rfl
@[simp] theorem State.setNv_queues (x : NvSt) : (s.setNv x).queues = s.queues := rfl
@[simp] theorem State.setNv_rings (x : NvSt) : (s.setNv x).rings = s.rings := rfl
@[simp] theorem State.setNv_flt (x : NvSt) : (s.setNv x).flt = s.flt := rfl
@[simp] theorem State.setNv_tb (x : NvSt) : (s.setNv x).tb = s.tb := rfl
@[simp] theorem State.setNv_tev (x : NvSt) : (s.setNv x).tev = s.tev := rfl
@[simp] theorem State.setNv_srcs (x : NvSt) : (s.setNv x).srcs = s.srcs := rfl
@[simp] theorem State.setNv_mon (x : NvSt) : (s.setNv x).mon = s.mon := rfl
@[simp] theorem State.setNv_sels (x : NvSt) : (s.setNv x).sels = s.sels := rfl
@[simp] theorem State.setNv_dplls (x : NvSt) : (s.setNv x).dplls = s.dplls := rfl
@[simp] theorem State.setNv_osc (x : NvSt) : (s.setNv x).osc = s.osc := rfl
@[simp] theorem State.setNv_brg (x : NvSt) : (s.setNv x).brg = s.brg := rfl
@[simp] theorem State.setNv_aplls (x : NvSt) : (s.setNv x).aplls = s.aplls := rfl
@[simp] theorem State.setNv_outs (x : NvSt) : (s.setNv x).outs = s.outs := rfl
@[simp] theorem State.setNv_sync (x : NvSt) : (s.setNv x).sync = s.sync := rfl
@[simp] theorem State.setNv_gl (x : NvSt) : (s.setNv x).gl = s.gl := rfl
@[simp] theorem State.setNv_ptps (x : NvSt) : (s.setNv x).ptps = s.ptps := rfl
@[simp] theorem State.setNv_tod (x : NvSt) : (s.setNv x).tod = s.tod := rfl
@[simp] theorem State.setNv_engs (x : NvSt) : (s.setNv x).engs = s.engs := rfl
@[simp] theorem State.setNv_ldr (x : NvSt) : (s.setNv x).ldr = s.ldr := rfl
@[simp] theorem State.setNv_cal (x : NvSt) : (s.setNv x).cal = s.cal := rfl
@[simp] theorem State.setNv_hlth (x : NvSt) : (s.setNv x).hlth = s.hlth := rfl
@[simp] theorem State.setNv_nv (x : NvSt) : (s.setNv x).nv = x := rfl
@[simp] theorem State.setNv_sys (x : NvSt) : (s.setNv x).sys = s.sys := rfl
@[simp] theorem State.setNv_lps (x : NvSt) : (s.setNv x).lps = s.lps := rfl
@[simp] theorem State.setNv_blks (x : NvSt) : (s.setNv x).blks = s.blks := rfl
@[simp] theorem State.setNv_sup (x : NvSt) : (s.setNv x).sup = s.sup := rfl
@[simp] theorem State.setNv_out (x : NvSt) : (s.setNv x).out = s.out := rfl
@[simp] theorem State.setNv_freeCtr (x : NvSt) : (s.setNv x).freeCtr = s.freeCtr := rfl

/-! ### setSys -/

@[simp] theorem State.setSys_pending (x : SysSt) : (s.setSys x).pending = s.pending := rfl
@[simp] theorem State.setSys_regs (x : SysSt) : (s.setSys x).regs = s.regs := rfl
@[simp] theorem State.setSys_mem (x : SysSt) : (s.setSys x).mem = s.mem := rfl
@[simp] theorem State.setSys_ecc (x : SysSt) : (s.setSys x).ecc = s.ecc := rfl
@[simp] theorem State.setSys_par (x : SysSt) : (s.setSys x).par = s.par := rfl
@[simp] theorem State.setSys_acc (x : SysSt) : (s.setSys x).acc = s.acc := rfl
@[simp] theorem State.setSys_hif (x : SysSt) : (s.setSys x).hif = s.hif := rfl
@[simp] theorem State.setSys_queues (x : SysSt) : (s.setSys x).queues = s.queues := rfl
@[simp] theorem State.setSys_rings (x : SysSt) : (s.setSys x).rings = s.rings := rfl
@[simp] theorem State.setSys_flt (x : SysSt) : (s.setSys x).flt = s.flt := rfl
@[simp] theorem State.setSys_tb (x : SysSt) : (s.setSys x).tb = s.tb := rfl
@[simp] theorem State.setSys_tev (x : SysSt) : (s.setSys x).tev = s.tev := rfl
@[simp] theorem State.setSys_srcs (x : SysSt) : (s.setSys x).srcs = s.srcs := rfl
@[simp] theorem State.setSys_mon (x : SysSt) : (s.setSys x).mon = s.mon := rfl
@[simp] theorem State.setSys_sels (x : SysSt) : (s.setSys x).sels = s.sels := rfl
@[simp] theorem State.setSys_dplls (x : SysSt) : (s.setSys x).dplls = s.dplls := rfl
@[simp] theorem State.setSys_osc (x : SysSt) : (s.setSys x).osc = s.osc := rfl
@[simp] theorem State.setSys_brg (x : SysSt) : (s.setSys x).brg = s.brg := rfl
@[simp] theorem State.setSys_aplls (x : SysSt) : (s.setSys x).aplls = s.aplls := rfl
@[simp] theorem State.setSys_outs (x : SysSt) : (s.setSys x).outs = s.outs := rfl
@[simp] theorem State.setSys_sync (x : SysSt) : (s.setSys x).sync = s.sync := rfl
@[simp] theorem State.setSys_gl (x : SysSt) : (s.setSys x).gl = s.gl := rfl
@[simp] theorem State.setSys_ptps (x : SysSt) : (s.setSys x).ptps = s.ptps := rfl
@[simp] theorem State.setSys_tod (x : SysSt) : (s.setSys x).tod = s.tod := rfl
@[simp] theorem State.setSys_engs (x : SysSt) : (s.setSys x).engs = s.engs := rfl
@[simp] theorem State.setSys_ldr (x : SysSt) : (s.setSys x).ldr = s.ldr := rfl
@[simp] theorem State.setSys_cal (x : SysSt) : (s.setSys x).cal = s.cal := rfl
@[simp] theorem State.setSys_hlth (x : SysSt) : (s.setSys x).hlth = s.hlth := rfl
@[simp] theorem State.setSys_nv (x : SysSt) : (s.setSys x).nv = s.nv := rfl
@[simp] theorem State.setSys_sys (x : SysSt) : (s.setSys x).sys = x := rfl
@[simp] theorem State.setSys_lps (x : SysSt) : (s.setSys x).lps = s.lps := rfl
@[simp] theorem State.setSys_blks (x : SysSt) : (s.setSys x).blks = s.blks := rfl
@[simp] theorem State.setSys_sup (x : SysSt) : (s.setSys x).sup = s.sup := rfl
@[simp] theorem State.setSys_out (x : SysSt) : (s.setSys x).out = s.out := rfl
@[simp] theorem State.setSys_freeCtr (x : SysSt) : (s.setSys x).freeCtr = s.freeCtr := rfl

/-! ### setSup -/

@[simp] theorem State.setSup_pending (x : SupSt) : (s.setSup x).pending = s.pending := rfl
@[simp] theorem State.setSup_regs (x : SupSt) : (s.setSup x).regs = s.regs := rfl
@[simp] theorem State.setSup_mem (x : SupSt) : (s.setSup x).mem = s.mem := rfl
@[simp] theorem State.setSup_ecc (x : SupSt) : (s.setSup x).ecc = s.ecc := rfl
@[simp] theorem State.setSup_par (x : SupSt) : (s.setSup x).par = s.par := rfl
@[simp] theorem State.setSup_acc (x : SupSt) : (s.setSup x).acc = s.acc := rfl
@[simp] theorem State.setSup_hif (x : SupSt) : (s.setSup x).hif = s.hif := rfl
@[simp] theorem State.setSup_queues (x : SupSt) : (s.setSup x).queues = s.queues := rfl
@[simp] theorem State.setSup_rings (x : SupSt) : (s.setSup x).rings = s.rings := rfl
@[simp] theorem State.setSup_flt (x : SupSt) : (s.setSup x).flt = s.flt := rfl
@[simp] theorem State.setSup_tb (x : SupSt) : (s.setSup x).tb = s.tb := rfl
@[simp] theorem State.setSup_tev (x : SupSt) : (s.setSup x).tev = s.tev := rfl
@[simp] theorem State.setSup_srcs (x : SupSt) : (s.setSup x).srcs = s.srcs := rfl
@[simp] theorem State.setSup_mon (x : SupSt) : (s.setSup x).mon = s.mon := rfl
@[simp] theorem State.setSup_sels (x : SupSt) : (s.setSup x).sels = s.sels := rfl
@[simp] theorem State.setSup_dplls (x : SupSt) : (s.setSup x).dplls = s.dplls := rfl
@[simp] theorem State.setSup_osc (x : SupSt) : (s.setSup x).osc = s.osc := rfl
@[simp] theorem State.setSup_brg (x : SupSt) : (s.setSup x).brg = s.brg := rfl
@[simp] theorem State.setSup_aplls (x : SupSt) : (s.setSup x).aplls = s.aplls := rfl
@[simp] theorem State.setSup_outs (x : SupSt) : (s.setSup x).outs = s.outs := rfl
@[simp] theorem State.setSup_sync (x : SupSt) : (s.setSup x).sync = s.sync := rfl
@[simp] theorem State.setSup_gl (x : SupSt) : (s.setSup x).gl = s.gl := rfl
@[simp] theorem State.setSup_ptps (x : SupSt) : (s.setSup x).ptps = s.ptps := rfl
@[simp] theorem State.setSup_tod (x : SupSt) : (s.setSup x).tod = s.tod := rfl
@[simp] theorem State.setSup_engs (x : SupSt) : (s.setSup x).engs = s.engs := rfl
@[simp] theorem State.setSup_ldr (x : SupSt) : (s.setSup x).ldr = s.ldr := rfl
@[simp] theorem State.setSup_cal (x : SupSt) : (s.setSup x).cal = s.cal := rfl
@[simp] theorem State.setSup_hlth (x : SupSt) : (s.setSup x).hlth = s.hlth := rfl
@[simp] theorem State.setSup_nv (x : SupSt) : (s.setSup x).nv = s.nv := rfl
@[simp] theorem State.setSup_sys (x : SupSt) : (s.setSup x).sys = s.sys := rfl
@[simp] theorem State.setSup_lps (x : SupSt) : (s.setSup x).lps = s.lps := rfl
@[simp] theorem State.setSup_blks (x : SupSt) : (s.setSup x).blks = s.blks := rfl
@[simp] theorem State.setSup_sup (x : SupSt) : (s.setSup x).sup = x := rfl
@[simp] theorem State.setSup_out (x : SupSt) : (s.setSup x).out = s.out := rfl
@[simp] theorem State.setSup_freeCtr (x : SupSt) : (s.setSup x).freeCtr = s.freeCtr := rfl

/-! ### modLp -/

@[simp] theorem State.modLp_pending (n : Nat) (f : LpSt → LpSt) : (s.modLp n f).pending = s.pending := rfl
@[simp] theorem State.modLp_regs (n : Nat) (f : LpSt → LpSt) : (s.modLp n f).regs = s.regs := rfl
@[simp] theorem State.modLp_mem (n : Nat) (f : LpSt → LpSt) : (s.modLp n f).mem = s.mem := rfl
@[simp] theorem State.modLp_ecc (n : Nat) (f : LpSt → LpSt) : (s.modLp n f).ecc = s.ecc := rfl
@[simp] theorem State.modLp_par (n : Nat) (f : LpSt → LpSt) : (s.modLp n f).par = s.par := rfl
@[simp] theorem State.modLp_acc (n : Nat) (f : LpSt → LpSt) : (s.modLp n f).acc = s.acc := rfl
@[simp] theorem State.modLp_hif (n : Nat) (f : LpSt → LpSt) : (s.modLp n f).hif = s.hif := rfl
@[simp] theorem State.modLp_queues (n : Nat) (f : LpSt → LpSt) : (s.modLp n f).queues = s.queues := rfl
@[simp] theorem State.modLp_rings (n : Nat) (f : LpSt → LpSt) : (s.modLp n f).rings = s.rings := rfl
@[simp] theorem State.modLp_flt (n : Nat) (f : LpSt → LpSt) : (s.modLp n f).flt = s.flt := rfl
@[simp] theorem State.modLp_tb (n : Nat) (f : LpSt → LpSt) : (s.modLp n f).tb = s.tb := rfl
@[simp] theorem State.modLp_tev (n : Nat) (f : LpSt → LpSt) : (s.modLp n f).tev = s.tev := rfl
@[simp] theorem State.modLp_srcs (n : Nat) (f : LpSt → LpSt) : (s.modLp n f).srcs = s.srcs := rfl
@[simp] theorem State.modLp_mon (n : Nat) (f : LpSt → LpSt) : (s.modLp n f).mon = s.mon := rfl
@[simp] theorem State.modLp_sels (n : Nat) (f : LpSt → LpSt) : (s.modLp n f).sels = s.sels := rfl
@[simp] theorem State.modLp_dplls (n : Nat) (f : LpSt → LpSt) : (s.modLp n f).dplls = s.dplls := rfl
@[simp] theorem State.modLp_osc (n : Nat) (f : LpSt → LpSt) : (s.modLp n f).osc = s.osc := rfl
@[simp] theorem State.modLp_brg (n : Nat) (f : LpSt → LpSt) : (s.modLp n f).brg = s.brg := rfl
@[simp] theorem State.modLp_aplls (n : Nat) (f : LpSt → LpSt) : (s.modLp n f).aplls = s.aplls := rfl
@[simp] theorem State.modLp_outs (n : Nat) (f : LpSt → LpSt) : (s.modLp n f).outs = s.outs := rfl
@[simp] theorem State.modLp_sync (n : Nat) (f : LpSt → LpSt) : (s.modLp n f).sync = s.sync := rfl
@[simp] theorem State.modLp_gl (n : Nat) (f : LpSt → LpSt) : (s.modLp n f).gl = s.gl := rfl
@[simp] theorem State.modLp_ptps (n : Nat) (f : LpSt → LpSt) : (s.modLp n f).ptps = s.ptps := rfl
@[simp] theorem State.modLp_tod (n : Nat) (f : LpSt → LpSt) : (s.modLp n f).tod = s.tod := rfl
@[simp] theorem State.modLp_engs (n : Nat) (f : LpSt → LpSt) : (s.modLp n f).engs = s.engs := rfl
@[simp] theorem State.modLp_ldr (n : Nat) (f : LpSt → LpSt) : (s.modLp n f).ldr = s.ldr := rfl
@[simp] theorem State.modLp_cal (n : Nat) (f : LpSt → LpSt) : (s.modLp n f).cal = s.cal := rfl
@[simp] theorem State.modLp_hlth (n : Nat) (f : LpSt → LpSt) : (s.modLp n f).hlth = s.hlth := rfl
@[simp] theorem State.modLp_nv (n : Nat) (f : LpSt → LpSt) : (s.modLp n f).nv = s.nv := rfl
@[simp] theorem State.modLp_sys (n : Nat) (f : LpSt → LpSt) : (s.modLp n f).sys = s.sys := rfl
@[simp] theorem State.modLp_lps (n : Nat) (f : LpSt → LpSt) : (s.modLp n f).lps = lmod s.lps n f := rfl
@[simp] theorem State.modLp_blks (n : Nat) (f : LpSt → LpSt) : (s.modLp n f).blks = s.blks := rfl
@[simp] theorem State.modLp_sup (n : Nat) (f : LpSt → LpSt) : (s.modLp n f).sup = s.sup := rfl
@[simp] theorem State.modLp_out (n : Nat) (f : LpSt → LpSt) : (s.modLp n f).out = s.out := rfl
@[simp] theorem State.modLp_freeCtr (n : Nat) (f : LpSt → LpSt) : (s.modLp n f).freeCtr = s.freeCtr := rfl

/-! ### modBlk -/

@[simp] theorem State.modBlk_pending (k : Nat) (f : StockBlk → StockBlk) : (s.modBlk k f).pending = s.pending := rfl
@[simp] theorem State.modBlk_regs (k : Nat) (f : StockBlk → StockBlk) : (s.modBlk k f).regs = s.regs := rfl
@[simp] theorem State.modBlk_mem (k : Nat) (f : StockBlk → StockBlk) : (s.modBlk k f).mem = s.mem := rfl
@[simp] theorem State.modBlk_ecc (k : Nat) (f : StockBlk → StockBlk) : (s.modBlk k f).ecc = s.ecc := rfl
@[simp] theorem State.modBlk_par (k : Nat) (f : StockBlk → StockBlk) : (s.modBlk k f).par = s.par := rfl
@[simp] theorem State.modBlk_acc (k : Nat) (f : StockBlk → StockBlk) : (s.modBlk k f).acc = s.acc := rfl
@[simp] theorem State.modBlk_hif (k : Nat) (f : StockBlk → StockBlk) : (s.modBlk k f).hif = s.hif := rfl
@[simp] theorem State.modBlk_queues (k : Nat) (f : StockBlk → StockBlk) : (s.modBlk k f).queues = s.queues := rfl
@[simp] theorem State.modBlk_rings (k : Nat) (f : StockBlk → StockBlk) : (s.modBlk k f).rings = s.rings := rfl
@[simp] theorem State.modBlk_flt (k : Nat) (f : StockBlk → StockBlk) : (s.modBlk k f).flt = s.flt := rfl
@[simp] theorem State.modBlk_tb (k : Nat) (f : StockBlk → StockBlk) : (s.modBlk k f).tb = s.tb := rfl
@[simp] theorem State.modBlk_tev (k : Nat) (f : StockBlk → StockBlk) : (s.modBlk k f).tev = s.tev := rfl
@[simp] theorem State.modBlk_srcs (k : Nat) (f : StockBlk → StockBlk) : (s.modBlk k f).srcs = s.srcs := rfl
@[simp] theorem State.modBlk_mon (k : Nat) (f : StockBlk → StockBlk) : (s.modBlk k f).mon = s.mon := rfl
@[simp] theorem State.modBlk_sels (k : Nat) (f : StockBlk → StockBlk) : (s.modBlk k f).sels = s.sels := rfl
@[simp] theorem State.modBlk_dplls (k : Nat) (f : StockBlk → StockBlk) : (s.modBlk k f).dplls = s.dplls := rfl
@[simp] theorem State.modBlk_osc (k : Nat) (f : StockBlk → StockBlk) : (s.modBlk k f).osc = s.osc := rfl
@[simp] theorem State.modBlk_brg (k : Nat) (f : StockBlk → StockBlk) : (s.modBlk k f).brg = s.brg := rfl
@[simp] theorem State.modBlk_aplls (k : Nat) (f : StockBlk → StockBlk) : (s.modBlk k f).aplls = s.aplls := rfl
@[simp] theorem State.modBlk_outs (k : Nat) (f : StockBlk → StockBlk) : (s.modBlk k f).outs = s.outs := rfl
@[simp] theorem State.modBlk_sync (k : Nat) (f : StockBlk → StockBlk) : (s.modBlk k f).sync = s.sync := rfl
@[simp] theorem State.modBlk_gl (k : Nat) (f : StockBlk → StockBlk) : (s.modBlk k f).gl = s.gl := rfl
@[simp] theorem State.modBlk_ptps (k : Nat) (f : StockBlk → StockBlk) : (s.modBlk k f).ptps = s.ptps := rfl
@[simp] theorem State.modBlk_tod (k : Nat) (f : StockBlk → StockBlk) : (s.modBlk k f).tod = s.tod := rfl
@[simp] theorem State.modBlk_engs (k : Nat) (f : StockBlk → StockBlk) : (s.modBlk k f).engs = s.engs := rfl
@[simp] theorem State.modBlk_ldr (k : Nat) (f : StockBlk → StockBlk) : (s.modBlk k f).ldr = s.ldr := rfl
@[simp] theorem State.modBlk_cal (k : Nat) (f : StockBlk → StockBlk) : (s.modBlk k f).cal = s.cal := rfl
@[simp] theorem State.modBlk_hlth (k : Nat) (f : StockBlk → StockBlk) : (s.modBlk k f).hlth = s.hlth := rfl
@[simp] theorem State.modBlk_nv (k : Nat) (f : StockBlk → StockBlk) : (s.modBlk k f).nv = s.nv := rfl
@[simp] theorem State.modBlk_sys (k : Nat) (f : StockBlk → StockBlk) : (s.modBlk k f).sys = s.sys := rfl
@[simp] theorem State.modBlk_lps (k : Nat) (f : StockBlk → StockBlk) : (s.modBlk k f).lps = s.lps := rfl
@[simp] theorem State.modBlk_blks (k : Nat) (f : StockBlk → StockBlk) : (s.modBlk k f).blks = lmod s.blks k f := rfl
@[simp] theorem State.modBlk_sup (k : Nat) (f : StockBlk → StockBlk) : (s.modBlk k f).sup = s.sup := rfl
@[simp] theorem State.modBlk_out (k : Nat) (f : StockBlk → StockBlk) : (s.modBlk k f).out = s.out := rfl
@[simp] theorem State.modBlk_freeCtr (k : Nat) (f : StockBlk → StockBlk) : (s.modBlk k f).freeCtr = s.freeCtr := rfl

/-! ### emit and takeFree -/

@[simp] theorem State.emit_pending (x : Output) : (s.emit x).pending = s.pending := rfl
@[simp] theorem State.emit_regs (x : Output) : (s.emit x).regs = s.regs := rfl
@[simp] theorem State.emit_mem (x : Output) : (s.emit x).mem = s.mem := rfl
@[simp] theorem State.emit_ecc (x : Output) : (s.emit x).ecc = s.ecc := rfl
@[simp] theorem State.emit_par (x : Output) : (s.emit x).par = s.par := rfl
@[simp] theorem State.emit_acc (x : Output) : (s.emit x).acc = s.acc := rfl
@[simp] theorem State.emit_hif (x : Output) : (s.emit x).hif = s.hif := rfl
@[simp] theorem State.emit_queues (x : Output) : (s.emit x).queues = s.queues := rfl
@[simp] theorem State.emit_rings (x : Output) : (s.emit x).rings = s.rings := rfl
@[simp] theorem State.emit_flt (x : Output) : (s.emit x).flt = s.flt := rfl
@[simp] theorem State.emit_tb (x : Output) : (s.emit x).tb = s.tb := rfl
@[simp] theorem State.emit_tev (x : Output) : (s.emit x).tev = s.tev := rfl
@[simp] theorem State.emit_srcs (x : Output) : (s.emit x).srcs = s.srcs := rfl
@[simp] theorem State.emit_mon (x : Output) : (s.emit x).mon = s.mon := rfl
@[simp] theorem State.emit_sels (x : Output) : (s.emit x).sels = s.sels := rfl
@[simp] theorem State.emit_dplls (x : Output) : (s.emit x).dplls = s.dplls := rfl
@[simp] theorem State.emit_osc (x : Output) : (s.emit x).osc = s.osc := rfl
@[simp] theorem State.emit_brg (x : Output) : (s.emit x).brg = s.brg := rfl
@[simp] theorem State.emit_aplls (x : Output) : (s.emit x).aplls = s.aplls := rfl
@[simp] theorem State.emit_outs (x : Output) : (s.emit x).outs = s.outs := rfl
@[simp] theorem State.emit_sync (x : Output) : (s.emit x).sync = s.sync := rfl
@[simp] theorem State.emit_gl (x : Output) : (s.emit x).gl = s.gl := rfl
@[simp] theorem State.emit_ptps (x : Output) : (s.emit x).ptps = s.ptps := rfl
@[simp] theorem State.emit_tod (x : Output) : (s.emit x).tod = s.tod := rfl
@[simp] theorem State.emit_engs (x : Output) : (s.emit x).engs = s.engs := rfl
@[simp] theorem State.emit_ldr (x : Output) : (s.emit x).ldr = s.ldr := rfl
@[simp] theorem State.emit_cal (x : Output) : (s.emit x).cal = s.cal := rfl
@[simp] theorem State.emit_hlth (x : Output) : (s.emit x).hlth = s.hlth := rfl
@[simp] theorem State.emit_nv (x : Output) : (s.emit x).nv = s.nv := rfl
@[simp] theorem State.emit_sys (x : Output) : (s.emit x).sys = s.sys := rfl
@[simp] theorem State.emit_lps (x : Output) : (s.emit x).lps = s.lps := rfl
@[simp] theorem State.emit_blks (x : Output) : (s.emit x).blks = s.blks := rfl
@[simp] theorem State.emit_sup (x : Output) : (s.emit x).sup = s.sup := rfl
@[simp] theorem State.emit_out (x : Output) : (s.emit x).out = s.out ++ [x] := rfl
@[simp] theorem State.emit_freeCtr (x : Output) : (s.emit x).freeCtr = s.freeCtr := rfl
@[simp] theorem State.takeFree_pending : (s.takeFree).2.pending = s.pending := rfl
@[simp] theorem State.takeFree_regs : (s.takeFree).2.regs = s.regs := rfl
@[simp] theorem State.takeFree_mem : (s.takeFree).2.mem = s.mem := rfl
@[simp] theorem State.takeFree_ecc : (s.takeFree).2.ecc = s.ecc := rfl
@[simp] theorem State.takeFree_par : (s.takeFree).2.par = s.par := rfl
@[simp] theorem State.takeFree_acc : (s.takeFree).2.acc = s.acc := rfl
@[simp] theorem State.takeFree_hif : (s.takeFree).2.hif = s.hif := rfl
@[simp] theorem State.takeFree_queues : (s.takeFree).2.queues = s.queues := rfl
@[simp] theorem State.takeFree_rings : (s.takeFree).2.rings = s.rings := rfl
@[simp] theorem State.takeFree_flt : (s.takeFree).2.flt = s.flt := rfl
@[simp] theorem State.takeFree_tb : (s.takeFree).2.tb = s.tb := rfl
@[simp] theorem State.takeFree_tev : (s.takeFree).2.tev = s.tev := rfl
@[simp] theorem State.takeFree_srcs : (s.takeFree).2.srcs = s.srcs := rfl
@[simp] theorem State.takeFree_mon : (s.takeFree).2.mon = s.mon := rfl
@[simp] theorem State.takeFree_sels : (s.takeFree).2.sels = s.sels := rfl
@[simp] theorem State.takeFree_dplls : (s.takeFree).2.dplls = s.dplls := rfl
@[simp] theorem State.takeFree_osc : (s.takeFree).2.osc = s.osc := rfl
@[simp] theorem State.takeFree_brg : (s.takeFree).2.brg = s.brg := rfl
@[simp] theorem State.takeFree_aplls : (s.takeFree).2.aplls = s.aplls := rfl
@[simp] theorem State.takeFree_outs : (s.takeFree).2.outs = s.outs := rfl
@[simp] theorem State.takeFree_sync : (s.takeFree).2.sync = s.sync := rfl
@[simp] theorem State.takeFree_gl : (s.takeFree).2.gl = s.gl := rfl
@[simp] theorem State.takeFree_ptps : (s.takeFree).2.ptps = s.ptps := rfl
@[simp] theorem State.takeFree_tod : (s.takeFree).2.tod = s.tod := rfl
@[simp] theorem State.takeFree_engs : (s.takeFree).2.engs = s.engs := rfl
@[simp] theorem State.takeFree_ldr : (s.takeFree).2.ldr = s.ldr := rfl
@[simp] theorem State.takeFree_cal : (s.takeFree).2.cal = s.cal := rfl
@[simp] theorem State.takeFree_hlth : (s.takeFree).2.hlth = s.hlth := rfl
@[simp] theorem State.takeFree_nv : (s.takeFree).2.nv = s.nv := rfl
@[simp] theorem State.takeFree_sys : (s.takeFree).2.sys = s.sys := rfl
@[simp] theorem State.takeFree_lps : (s.takeFree).2.lps = s.lps := rfl
@[simp] theorem State.takeFree_blks : (s.takeFree).2.blks = s.blks := rfl
@[simp] theorem State.takeFree_sup : (s.takeFree).2.sup = s.sup := rfl
@[simp] theorem State.takeFree_out : (s.takeFree).2.out = s.out := rfl
@[simp] theorem State.takeFree_freeCtr : (s.takeFree).2.freeCtr = s.freeCtr + 1 := rfl

end Sys2Proof.Machine
end

