-- ==== Sys2Proof/Laws/Blocks.lean ====
section
/-!
SUPPORT. The numbered parts of a block (generators, captures, destinations, SYSREF generators, echo samplers, ring ports):
what each reads as after one of them is changed, and that nothing but its block is changed.
-/

namespace Sys2Proof.Machine

variable (s : State) (n m : Nat)

theorem State.modGen_gen (f : GenSt → GenSt) : (s.modGen n f).gen m = if m = n then f (s.gen n) else s.gen m :=
  lget_lupd GenSt.off s.tev.gens n m f
@[simp] theorem State.modGen_gen_same (f : GenSt → GenSt) : (s.modGen n f).gen n = f (s.gen n) :=
  lget_lupd_same GenSt.off s.tev.gens n f
theorem State.modGen_frame (f : GenSt → GenSt) : s.modGen n f = { s with tev := { s.tev with gens := (s.modGen n f).tev.gens } } := rfl

theorem State.modCap_capSt (f : CapSt → CapSt) : (s.modCap n f).capSt m = if m = n then f (s.capSt n) else s.capSt m :=
  lget_lupd CapSt.empty s.tev.caps n m f
@[simp] theorem State.modCap_capSt_same (f : CapSt → CapSt) : (s.modCap n f).capSt n = f (s.capSt n) :=
  lget_lupd_same CapSt.empty s.tev.caps n f
theorem State.modCap_frame (f : CapSt → CapSt) : s.modCap n f = { s with tev := { s.tev with caps := (s.modCap n f).tev.caps } } := rfl

theorem State.modDest_dest (f : DestSt → DestSt) : (s.modDest n f).dest m = if m = n then f (s.dest n) else s.dest m :=
  lget_lupd DestSt.idle s.brg.dests n m f
@[simp] theorem State.modDest_dest_same (f : DestSt → DestSt) : (s.modDest n f).dest n = f (s.dest n) :=
  lget_lupd_same DestSt.idle s.brg.dests n f
theorem State.modDest_frame (f : DestSt → DestSt) : s.modDest n f = { s with brg := { s.brg with dests := (s.modDest n f).brg.dests } } := rfl

theorem State.modSr_sr (f : SrSt → SrSt) : (s.modSr n f).sr m = if m = n then f (s.sr n) else s.sr m :=
  lget_lupd SrSt.idle s.sync.srs n m f
@[simp] theorem State.modSr_sr_same (f : SrSt → SrSt) : (s.modSr n f).sr n = f (s.sr n) :=
  lget_lupd_same SrSt.idle s.sync.srs n f
theorem State.modSr_frame (f : SrSt → SrSt) : s.modSr n f = { s with sync := { s.sync with srs := (s.modSr n f).sync.srs } } := rfl

theorem State.modEcho_echoSt (f : EchoSt → EchoSt) : (s.modEcho n f).echoSt m = if m = n then f (s.echoSt n) else s.echoSt m :=
  lget_lupd EchoSt.reset s.sync.echo n m f
@[simp] theorem State.modEcho_echoSt_same (f : EchoSt → EchoSt) : (s.modEcho n f).echoSt n = f (s.echoSt n) :=
  lget_lupd_same EchoSt.reset s.sync.echo n f
theorem State.modEcho_frame (f : EchoSt → EchoSt) : s.modEcho n f = { s with sync := { s.sync with echo := (s.modEcho n f).sync.echo } } := rfl

theorem State.modPort_glPort (f : GlPort → GlPort) : (s.modPort n f).glPort m = if m = n then f (s.glPort n) else s.glPort m :=
  lget_lupd GlPort.reset s.gl.ports n m f
@[simp] theorem State.modPort_glPort_same (f : GlPort → GlPort) : (s.modPort n f).glPort n = f (s.glPort n) :=
  lget_lupd_same GlPort.reset s.gl.ports n f
theorem State.modPort_frame (f : GlPort → GlPort) : s.modPort n f = { s with gl := { s.gl with ports := (s.modPort n f).gl.ports } } := rfl

end Sys2Proof.Machine
end

