-- ==== Sys2Proof/Laws/Engines.lean ====
section
/-!
SUPPORT. The laws of an engine's instruction (chapters 12 and 13): which engine an update reaches, what an executing engine
does, and the one lemma through which a register-only instruction completes.
-/

namespace Sys2Proof.Machine

/-- The register file and stacks of engine `k` have their sizes. -/
theorem State.eng_mem {s : State} (h : s.Inv) (k : EngId) : (s.eng k).Ok ∧ k.val < s.engs.length := by
  have h11 : s.engs.length = 11 := h.2.2.1.2.2.2.2.2.2.2.2.1
  have hk : k.val < s.engs.length := by rw [h11]; exact k.isLt
  refine ⟨?_, hk⟩
  have e : s.eng k = s.engs[k.val] := by simp [State.eng, lget, hk]
  rw [e]
  exact h.2.2.2.2 _ (List.getElem_mem hk)

/-- The engine that an update addresses. -/
theorem State.modEng_eng {s : State} (k : Nat) (hk : k < s.engs.length) (f : Eng → Eng) : (s.modEng k f).eng k = f (s.eng k) := by
  simp [State.eng, State.modEng, lget, lmod, hk]

/-- Every other engine. -/
theorem State.modEng_other {s : State} (k j : Nat) (hj : j ≠ k) (f : Eng → Eng) : (s.modEng k f).eng j = s.eng j := by
  simp [State.eng, State.modEng, lget, lmod, Ne.symm hj]

/-- An update of engine `k` changes nothing else. -/
theorem State.onlyEngine_modEng (s : State) (k : Nat) (f : Eng → Eng) : s.OnlyEngine k (s.modEng k f) :=
  ⟨rfl, fun j hj => State.modEng_other k j hj f⟩

/-- What an instruction does at an engine that executes is its effect (R305). -/
theorem State.insn_run {s : State} {k : Nat} (x : s.Executing k) (cap : Bool) (f : State → State) : s.insn k cap f = f s := by
  unfold State.insn
  simp [x.1, x.2.2, Nat.not_le.mpr x.2.1]

/-- The same for an instruction that works on the engine alone. -/
theorem State.alu_run {s : State} {k : Nat} (x : s.Executing k) (f : Eng → Eng) :
    s.alu k f = s.modEng k (fun y => (f y).next) := State.insn_run x _ _

/-- A register after a write; w0 discards it (R284). -/
theorem Eng.setW_rw (x : Eng) (h : x.w.length = 32) (rd : Nat) (hrd : rd < 32) (v : Word64) (r : Nat) (hr : r < 32) :
    (x.setW rd v).rw r = if r = rd ∧ r ≠ 0 then v else x.rw r := by
  unfold Eng.setW Eng.rw
  by_cases h0 : r = 0
  · simp [h0]
  · by_cases hd : rd = 0
    · simp [h0, hd]
    · by_cases e : r = rd
      · subst e; simp [h0, lget, h, hr]
      · simp [h0, hd, e, lget, Ne.symm e]

/-- A result and its flags, as the statements name them. -/
theorem Eng.wrote_setW (x : Eng) (h : x.w.length = 32) (rd : Reg) (v : Word64) (f : Flags) :
    x.Wrote ({ x.setW rd v with flags := f }.next) rd v f := by
  constructor
  · intro r hr
    exact Eng.setW_rw x h rd rd.isLt v r hr
  · unfold Eng.next Eng.setW
    split <;> rfl

/-- An instruction whose effect on its engine is a result and flags completes with them. -/
theorem State.result_of {s : State} {k : EngId} (hi : s.Inv) (x : s.Executing k) (i : Instr) (rd : Reg) (v : Word64) (fl : Flags)
    (f : Eng → Eng) (he : exec i s = .next (s.alu k f)) (hf : f (s.eng k) = { (s.eng k).setW rd v with flags := fl }) :
    s.Result i k rd v fl := by
  obtain ⟨ok, hk⟩ := State.eng_mem hi k
  refine ⟨_, he, ?_, ?_⟩
  · rw [State.alu_run x]; exact State.onlyEngine_modEng _ _ _
  · rw [State.alu_run x, State.modEng_eng _ hk, hf]
    exact Eng.wrote_setW _ ok.1 _ _ _

end Sys2Proof.Machine
end

