-- ==== Sys2Proof/Laws/Sparse.lean ====
section
/-!
SUPPORT. The laws of sparse contents: a read after a write, and that writing and clearing keep the canonical form.
-/

namespace Sys2Proof.Machine

variable {α : Type} (d : Nat → α)

/-- The address written reads as the value written. -/
theorem sparseGet_put_same [DecidableEq α] (l : List (Nat × α)) (k lo : Nat) (v : α) (h : sparseWfFrom d lo l = true) :
    sparseGet d (sparsePut d l k v) k = v := by
  induction l generalizing lo with
  | nil => by_cases hv : v = d k <;> simp [sparsePut, sparseGet, hv]
  | cons e t ih =>
    obtain ⟨k', v'⟩ := e
    simp only [sparseWfFrom, Bool.and_eq_true, decide_eq_true_eq] at h
    have miss : ∀ (m : List (Nat × α)) (b : Nat), sparseWfFrom d b m = true → k < b → sparseGet d m k = d k := by
      intro m
      induction m with
      | nil => intros; rfl
      | cons e m ihm =>
        intro b hb hk
        obtain ⟨k2, v2⟩ := e
        simp only [sparseWfFrom, Bool.and_eq_true, decide_eq_true_eq] at hb
        have : ¬ k2 = k := by omega
        simp only [sparseGet, this, if_false]
        exact ihm _ hb.2 (by omega)
    unfold sparsePut
    split
    · rename_i hk
      have hne : ¬ k' = k := by omega
      split
      · rename_i hv
        simp only [sparseGet, hne, if_false]
        rw [hv]
        exact miss t _ h.2 (by omega)
      · simp [sparseGet]
    · split
      · rename_i hk he
        subst he
        split
        · rename_i hv
          rw [hv]
          exact miss t _ h.2 (by omega)
        · simp [sparseGet]
      · rename_i hk he
        have hne : ¬ k' = k := by omega
        simp only [sparseGet, hne, if_false]
        exact ih _ h.2

/-- Every other address reads as before. -/
theorem sparseGet_put_other [DecidableEq α] (l : List (Nat × α)) (k j lo : Nat) (v : α) (hj : j ≠ k)
    (h : sparseWfFrom d lo l = true) : sparseGet d (sparsePut d l k v) j = sparseGet d l j := by
  have hk : ¬ k = j := fun e => hj e.symm
  induction l generalizing lo with
  | nil => by_cases hv : v = d k <;> simp [sparsePut, sparseGet, hv, hk]
  | cons e t ih =>
    obtain ⟨k', v'⟩ := e
    simp only [sparseWfFrom, Bool.and_eq_true, decide_eq_true_eq] at h
    unfold sparsePut
    split
    · split <;> simp [sparseGet, hk]
    · split
      · rename_i he
        subst he
        split <;> simp [sparseGet, hk]
      · simp only [sparseGet]
        rw [ih _ h.2]

/-- A lower bound of the keys may be lowered. -/
theorem sparseWfFrom_mono [DecidableEq α] (l : List (Nat × α)) (a b : Nat) (hab : a ≤ b)
    (h : sparseWfFrom d b l = true) : sparseWfFrom d a l = true := by
  cases l with
  | nil => rfl
  | cons e t =>
    obtain ⟨k, v⟩ := e
    simp only [sparseWfFrom, Bool.and_eq_true, decide_eq_true_eq] at *
    exact ⟨⟨by omega, h.1.2⟩, h.2⟩

/-- A write keeps the canonical form above any bound that its key respects. -/
theorem sparsePut_wfFrom [DecidableEq α] (l : List (Nat × α)) (k lo : Nat) (v : α) (hk : lo ≤ k)
    (h : sparseWfFrom d lo l = true) : sparseWfFrom d lo (sparsePut d l k v) = true := by
  induction l generalizing lo with
  | nil => by_cases hv : v = d k <;> simp [sparsePut, sparseWfFrom, hv, hk]
  | cons e t ih =>
    obtain ⟨k', v'⟩ := e
    have h0 := h
    simp only [sparseWfFrom, Bool.and_eq_true, decide_eq_true_eq] at h
    unfold sparsePut
    split
    · split
      · exact h0
      · rename_i hkk hv
        simp only [sparseWfFrom, Bool.and_eq_true, decide_eq_true_eq]
        exact ⟨⟨hk, hv⟩, ⟨⟨by omega, h.1.2⟩, h.2⟩⟩
    · split
      · rename_i he
        subst he
        split
        · exact sparseWfFrom_mono d t lo (k + 1) (by omega) h.2
        · rename_i hv
          simp only [sparseWfFrom, Bool.and_eq_true, decide_eq_true_eq]
          exact ⟨⟨hk, hv⟩, h.2⟩
      · simp only [sparseWfFrom, Bool.and_eq_true, decide_eq_true_eq]
        exact ⟨⟨h.1.1, h.1.2⟩, ih _ (by omega) h.2⟩

/-- A write keeps the canonical form. -/
theorem sparsePut_wf [DecidableEq α] (l : List (Nat × α)) (k : Nat) (v : α) (h : sparseWf d l = true) :
    sparseWf d (sparsePut d l k v) = true := sparsePut_wfFrom d l k 0 v (Nat.zero_le _) h

/-- Leaving entries out keeps the canonical form. -/
theorem sparseFilter_wfFrom [DecidableEq α] (p : Nat × α → Bool) (l : List (Nat × α)) (lo : Nat)
    (h : sparseWfFrom d lo l = true) : sparseWfFrom d lo (l.filter p) = true := by
  induction l generalizing lo with
  | nil => rfl
  | cons e t ih =>
    obtain ⟨k, v⟩ := e
    simp only [sparseWfFrom, Bool.and_eq_true, decide_eq_true_eq] at h
    have ht := ih _ h.2
    rw [List.filter_cons]
    split
    · simp only [sparseWfFrom, Bool.and_eq_true, decide_eq_true_eq]
      exact ⟨h.1, ht⟩
    · exact sparseWfFrom_mono d _ lo (k + 1) (by omega) ht

/-- Leaving entries out keeps the canonical form. -/
theorem sparseFilter_wf [DecidableEq α] (p : Nat × α → Bool) (l : List (Nat × α)) (h : sparseWf d l = true) :
    sparseWf d (l.filter p) = true := sparseFilter_wfFrom d p l 0 h

end Sys2Proof.Machine
end

