-- ==== Sys2Proof/Laws/Keeps.lean ====
section
/-!
SUPPORT. Keeping the queue and the invariant (State.Keeps): how it goes through conditionals, matches and folds, and the
small updates of Machine/Ops.lean.
-/

namespace Sys2Proof.Machine

theorem State.keeps_refl (s : State) : s.Keeps s := ⟨rfl, id⟩

theorem State.keeps_trans {a b c : State} (h : a.Keeps b) (k : b.Keeps c) : a.Keeps c :=
  ⟨k.1.trans h.1, fun i => k.2 (h.2 i)⟩

theorem State.keeps_ite {s0 a b : State} {c : Prop} [Decidable c] (ha : s0.Keeps a) (hb : s0.Keeps b) :
    s0.Keeps (if c then a else b) := by
  split
  · exact ha
  · exact hb

theorem State.keeps_ite2 {α : Type} {s0 : State} {a b : α × State} {c : Prop} [Decidable c] (ha : s0.Keeps a.2)
    (hb : s0.Keeps b.2) : s0.Keeps (if c then a else b).2 := by
  split
  · exact ha
  · exact hb

theorem State.keeps_ite3 {α β : Type} {s0 : State} {a b : α × β × State} {c : Prop} [Decidable c] (ha : s0.Keeps a.2.2)
    (hb : s0.Keeps b.2.2) : s0.Keeps (if c then a else b).2.2 := by
  split
  · exact ha
  · exact hb

theorem State.keeps_of_pair {α : Type} {s0 t : State} {a : α} {p : α × State} (e : p = (a, t)) (h : s0.Keeps p.2) :
    s0.Keeps t := by
  rw [e] at h
  exact h

theorem State.keeps_of_triple {α β : Type} {s0 t : State} {a : α} {b : β} {p : α × β × State} (e : p = (a, b, t))
    (h : s0.Keeps p.2.2) : s0.Keeps t := by
  rw [e] at h
  exact h

theorem State.keeps_foldl {α : Type} {s0 s : State} {f : State → α → State} {l : List α}
    (hf : ∀ t x, s0.Keeps t → s0.Keeps (f t x)) (h : s0.Keeps s) : s0.Keeps (l.foldl f s) := by
  induction l generalizing s with
  | nil => exact h
  | cons x l ih => exact ih (hf s x h)

theorem State.keeps_foldl2 {α β : Type} {s0 : State} {p : β × State} {f : β × State → α → β × State} {l : List α}
    (hf : ∀ t x, s0.Keeps t.2 → s0.Keeps (f t x).2) (h : s0.Keeps p.2) : s0.Keeps (l.foldl f p).2 := by
  induction l generalizing p with
  | nil => exact h
  | cons x l ih => exact ih (hf p x h)

theorem State.keeps_getD {s0 s : State} {o : Option State} (ho : ∀ t, o = some t → s0.Keeps t) (h : s0.Keeps s) :
    s0.Keeps (o.getD s) := by
  cases o with
  | none => exact h
  | some t => exact ho t rfl

variable {s0 s : State}

/-! ### The register bank and the memories -/

/-- Registers replaced by a canonical bank keep the invariant. -/
theorem State.setRegs_keeps (h : s0.Keeps s) (l : List (Nat × Word))
    (hl : sparseWf regReset s.regs = true → sparseWf regReset l = true) : s0.Keeps (s.setRegs l) :=
  ⟨h.1, fun i => ⟨hl (h.2 i).1, (h.2 i).2⟩⟩

theorem State.setMem_keeps (h : s0.Keeps s) (l : List Host.Cell)
    (hl : Memory.wf s.mem = true → Memory.wf l = true) : s0.Keeps (s.setMem l) :=
  ⟨h.1, fun i => ⟨(h.2 i).1, hl (h.2 i).2.1, (h.2 i).2.2⟩⟩

theorem State.setByte_keeps (h : s0.Keeps s) (a : Nat) (b : Byte) : s0.Keeps (s.setByte a b) :=
  State.setMem_keeps h _ (sparsePut_wf memDefault _ _ _)

theorem State.setBytes_keeps (h : s0.Keeps s) (a : Nat) (bs : List Byte) : s0.Keeps (s.setBytes a bs) := by
  induction bs generalizing s a with
  | nil => exact h
  | cons b bs ih => exact ih (State.setByte_keeps h a b) (a + 1)

theorem State.setPar_keeps (h : s0.Keeps s) (l : List (Nat × Bool)) : s0.Keeps (s.setPar l) := h

theorem State.wr_keeps (h : s0.Keeps s) (w off v : Nat) : s0.Keeps (s.wr w off v) :=
  State.setPar_keeps (State.setRegs_keeps h _ (sparsePut_wf regReset _ _ _)) _

theorem State.emit_keeps (h : s0.Keeps s) (o : Output) : s0.Keeps (s.emit o) := h
theorem State.takeFree_keeps (h : s0.Keeps s) : s0.Keeps s.takeFree.2 := h

/-! ### The timebase and the engines -/

theorem State.setTb_keeps (h : s0.Keeps s) (x : TbSt) (hx : s.tb.Ok → x.Ok) : s0.Keeps (s.setTb x) :=
  ⟨h.1, fun i => ⟨(h.2 i).1, (h.2 i).2.1, (h.2 i).2.2.1, hx (h.2 i).2.2.2.1, (h.2 i).2.2.2.2⟩⟩

theorem State.modEng_keeps (h : s0.Keeps s) (k : Nat) (f : Eng → Eng) (hf : ∀ x, x.Ok → (f x).Ok) :
    s0.Keeps (s.modEng k f) := by
  refine ⟨h.1, fun i => ⟨(h.2 i).1, (h.2 i).2.1, ?_, (h.2 i).2.2.2.1, ?_⟩⟩
  · have z := (h.2 i).2.2.1
    unfold State.Sized at z ⊢
    simpa [lmod] using z
  · intro x hx
    have z := (h.2 i).2.2.2.2
    simp only [State.modEng_engs, lmod] at hx
    obtain ⟨n, hn, rfl⟩ := List.mem_iff_getElem.mp hx
    rw [List.length_modify] at hn
    rw [List.getElem_modify]
    split
    · exact hf _ (z _ (List.getElem_mem hn))
    · exact z _ (List.getElem_mem hn)

/-- An update that keeps the one engine it is applied to within its room keeps the invariant. -/
theorem State.modEng_at_keeps (h : s0.Keeps s) (k : Nat) (f : Eng → Eng) (hf : (s.eng k).Ok → (f (s.eng k)).Ok) :
    s0.Keeps (s.modEng k f) := by
  refine ⟨h.1, fun i => ⟨(h.2 i).1, (h.2 i).2.1, ?_, (h.2 i).2.2.2.1, ?_⟩⟩
  · have z := (h.2 i).2.2.1
    unfold State.Sized at z ⊢
    simpa [lmod] using z
  · intro x hx
    have z := (h.2 i).2.2.2.2
    simp only [State.modEng_engs, lmod] at hx
    obtain ⟨n, hn, rfl⟩ := List.mem_iff_getElem.mp hx
    rw [List.length_modify] at hn
    rw [List.getElem_modify]
    split
    · next hk =>
      subst hk
      have e : s.eng k = s.engs[k] := by simp [State.eng, lget, hn]
      rw [← e]
      exact hf (e ▸ z _ (List.getElem_mem hn))
    · exact z _ (List.getElem_mem hn)

theorem TbSt.move_ok (x : TbSt) (amount : Int) (h : x.Ok) : (x.move amount).Ok := by
  unfold TbSt.move
  split
  · exact h
  · refine ⟨h.1, h.2.1, ?_⟩
    change (((x.t : Int) + amount * 2 ^ 32) % (stdWrap : Int)).toNat < stdWrap
    have w : (0 : Int) < stdWrap := by decide
    have a := Int.emod_lt_of_pos ((x.t : Int) + amount * 2 ^ 32) w
    have b := Int.emod_nonneg ((x.t : Int) + amount * 2 ^ 32) (Int.ne_of_gt w)
    omega

theorem Eng.reset_ok (k : Nat) : (Eng.reset k).Ok :=
  ⟨by simp [Eng.reset], by simp [Eng.reset], by simp [Eng.reset], by simp [Eng.reset]⟩

theorem Eng.setW_ok {x : Eng} (h : x.Ok) (r : Nat) (v : Word64) : (x.setW r v).Ok := by
  unfold Eng.setW
  split
  · exact h
  · exact ⟨by simpa using h.1, h.2⟩

theorem Eng.report_ok {x : Eng} (h : x.Ok) (p : PStat) : (x.report p).Ok := h

theorem Eng.setEntry_ok {x : Eng} (h : x.Ok) (rg : Nat) (e : BitVec 256) : (x.setEntry rg e).Ok :=
  Eng.setW_ok (Eng.setW_ok (Eng.setW_ok (Eng.setW_ok h _ _) _ _) _ _) _ _

/-- Going round a loop opens none. -/
theorem advance_length (p d : Nat) (l : List LoopFrame) : (advance p d l).2.length ≤ l.length := by
  induction l with
  | nil => simp [advance]
  | cons f fs ih =>
    unfold advance
    split
    · split
      · exact Nat.le_succ_of_le ih
      · simp
    · simp

theorem leaveLoops_length (t d : Nat) (l : List LoopFrame) : (leaveLoops t d l).length ≤ l.length := by
  induction l with
  | nil => simp [leaveLoops]
  | cons f fs ih =>
    unfold leaveLoops
    split
    · exact Nat.le_succ_of_le ih
    · simp

theorem Eng.next_ok {x : Eng} (h : x.Ok) : x.next.Ok :=
  ⟨h.1, Nat.le_trans (advance_length _ _ _) h.2.1, h.2.2⟩

theorem Eng.branch_ok {x : Eng} (h : x.Ok) (t : Nat) : (x.branch t).Ok :=
  ⟨h.1, Nat.le_trans (leaveLoops_length _ _ _) h.2.1, h.2.2⟩

theorem Eng.ite_ok {x y : Eng} {c : Prop} [Decidable c] (hx : x.Ok) (hy : y.Ok) : Eng.Ok (if c then x else y) := by
  split
  · exact hx
  · exact hy

/-! ### The other updates -/

theorem State.setEcc_keeps (h : s0.Keeps s) (l : List (Nat × Bool)) : s0.Keeps (s.setEcc l) := h
theorem State.setAcc_keeps (h : s0.Keeps s) (x : AccSt) : s0.Keeps (s.setAcc x) := h
theorem State.setHif_keeps (h : s0.Keeps s) (x : HifSt) : s0.Keeps (s.setHif x) := h
theorem State.setFlt_keeps (h : s0.Keeps s) (x : FltSt) : s0.Keeps (s.setFlt x) := h
theorem State.setTev_keeps (h : s0.Keeps s) (x : TevSt) : s0.Keeps (s.setTev x) := h
theorem State.setLdr_keeps (h : s0.Keeps s) (x : LdrSt) : s0.Keeps (s.setLdr x) := h
theorem State.modQueue_keeps (h : s0.Keeps s) (n : Nat) (f : QueueSt → QueueSt) : s0.Keeps (s.modQueue n f) := by
  refine ⟨h.1, fun i => ⟨(h.2 i).1, (h.2 i).2.1, ?_, (h.2 i).2.2.2⟩⟩
  have z := (h.2 i).2.2.1
  unfold State.Sized at z ⊢
  simpa [lmod] using z
theorem State.modRing_keeps (h : s0.Keeps s) (n : Nat) (f : RingSt → RingSt) : s0.Keeps (s.modRing n f) := by
  refine ⟨h.1, fun i => ⟨(h.2 i).1, (h.2 i).2.1, ?_, (h.2 i).2.2.2⟩⟩
  have z := (h.2 i).2.2.1
  unfold State.Sized at z ⊢
  simpa [lmod] using z
theorem State.modSrc_keeps (h : s0.Keeps s) (n : Nat) (f : SrcSt → SrcSt) : s0.Keeps (s.modSrc n f) := by
  refine ⟨h.1, fun i => ⟨(h.2 i).1, (h.2 i).2.1, ?_, (h.2 i).2.2.2⟩⟩
  have z := (h.2 i).2.2.1
  unfold State.Sized at z ⊢
  simpa [lmod] using z
theorem State.setMon_keeps (h : s0.Keeps s) (x : MonSt) : s0.Keeps (s.setMon x) := h
theorem State.modSel_keeps (h : s0.Keeps s) (n : Nat) (f : SelSt → SelSt) : s0.Keeps (s.modSel n f) := by
  refine ⟨h.1, fun i => ⟨(h.2 i).1, (h.2 i).2.1, ?_, (h.2 i).2.2.2⟩⟩
  have z := (h.2 i).2.2.1
  unfold State.Sized at z ⊢
  simpa [lmod] using z
theorem State.modDpll_keeps (h : s0.Keeps s) (n : Nat) (f : DpllSt → DpllSt) : s0.Keeps (s.modDpll n f) := by
  refine ⟨h.1, fun i => ⟨(h.2 i).1, (h.2 i).2.1, ?_, (h.2 i).2.2.2⟩⟩
  have z := (h.2 i).2.2.1
  unfold State.Sized at z ⊢
  simpa [lmod] using z
theorem State.setOsc_keeps (h : s0.Keeps s) (x : OscSt) : s0.Keeps (s.setOsc x) := h
theorem State.setBrg_keeps (h : s0.Keeps s) (x : BrgSt) : s0.Keeps (s.setBrg x) := h
theorem State.modApll_keeps (h : s0.Keeps s) (n : Nat) (f : ApllSt → ApllSt) : s0.Keeps (s.modApll n f) := by
  refine ⟨h.1, fun i => ⟨(h.2 i).1, (h.2 i).2.1, ?_, (h.2 i).2.2.2⟩⟩
  have z := (h.2 i).2.2.1
  unfold State.Sized at z ⊢
  simpa [lmod] using z
theorem State.modOut_keeps (h : s0.Keeps s) (n : Nat) (f : OutSt → OutSt) : s0.Keeps (s.modOut n f) := by
  refine ⟨h.1, fun i => ⟨(h.2 i).1, (h.2 i).2.1, ?_, (h.2 i).2.2.2⟩⟩
  have z := (h.2 i).2.2.1
  unfold State.Sized at z ⊢
  simpa [lmod] using z
theorem State.setGl_keeps (h : s0.Keeps s) (x : GlSt) : s0.Keeps (s.setGl x) := h
theorem State.setSync_keeps (h : s0.Keeps s) (x : SyncSt) : s0.Keeps (s.setSync x) := h
theorem State.modPtp_keeps (h : s0.Keeps s) (n : Nat) (f : PtpSt → PtpSt) : s0.Keeps (s.modPtp n f) := by
  refine ⟨h.1, fun i => ⟨(h.2 i).1, (h.2 i).2.1, ?_, (h.2 i).2.2.2⟩⟩
  have z := (h.2 i).2.2.1
  unfold State.Sized at z ⊢
  simpa [lmod] using z
theorem State.setTod_keeps (h : s0.Keeps s) (x : TodSt) : s0.Keeps (s.setTod x) := h
theorem State.setCal_keeps (h : s0.Keeps s) (x : CalSt) : s0.Keeps (s.setCal x) := h
theorem State.setHlth_keeps (h : s0.Keeps s) (x : HlthSt) : s0.Keeps (s.setHlth x) := h
theorem State.setNv_keeps (h : s0.Keeps s) (x : NvSt) : s0.Keeps (s.setNv x) := h
theorem State.setSys_keeps (h : s0.Keeps s) (x : SysSt) : s0.Keeps (s.setSys x) := h
theorem State.setSup_keeps (h : s0.Keeps s) (x : SupSt) : s0.Keeps (s.setSup x) := h
theorem State.modLp_keeps (h : s0.Keeps s) (n : Nat) (f : LpSt → LpSt) : s0.Keeps (s.modLp n f) := by
  refine ⟨h.1, fun i => ⟨(h.2 i).1, (h.2 i).2.1, ?_, (h.2 i).2.2.2⟩⟩
  have z := (h.2 i).2.2.1
  unfold State.Sized at z ⊢
  simpa [lmod] using z
theorem State.modBlk_keeps (h : s0.Keeps s) (k : Nat) (f : StockBlk → StockBlk) : s0.Keeps (s.modBlk k f) := by
  refine ⟨h.1, fun i => ⟨(h.2 i).1, (h.2 i).2.1, ?_, (h.2 i).2.2.2⟩⟩
  have z := (h.2 i).2.2.1
  unfold State.Sized at z ⊢
  simpa [lmod] using z

end Sys2Proof.Machine
end

