-- ==== Sys2Proof/Laws/KeepsOps1.lean ====
section
/-!
SUPPORT. Keeping the queue and the invariant (State.Keeps), one lemma per operation of Machine/, from State.put to
State.setLock; each rests on the lemmas before it.
-/

namespace Sys2Proof.Machine

variable {s0 s : State}

theorem State.put_keeps (h : s0.Keeps s) (w : Nat) (f : Fld) (v : Nat) : s0.Keeps (s.put w f v) := by
  unfold State.put
  repeat' with_reducible first
      | assumption | apply State.keeps_ite | apply State.wr_keeps

theorem State.putPair_keeps (h : s0.Keeps s) (w : Nat) (off : Nat) (v : Nat) : s0.Keeps (s.putPair w off v) := by
  unfold State.putPair
  repeat' with_reducible first
      | assumption | apply State.keeps_ite | apply State.wr_keeps

theorem State.putTriple_keeps (h : s0.Keeps s) (w : Nat) (off : Nat) (v : Nat) : s0.Keeps (s.putTriple w off v) := by
  unfold State.putTriple
  repeat' with_reducible first
      | assumption | apply State.keeps_ite | apply State.wr_keeps

theorem State.count_keeps (h : s0.Keeps s) (w : Nat) (off : Nat) (n : Nat) : s0.Keeps (s.count w off n) := by
  unfold State.count
  repeat' with_reducible first
      | assumption | apply State.keeps_ite | apply State.wr_keeps

theorem State.sts_keeps (h : s0.Keeps s) (w : Nat) (off : Nat) (m : Nat) : s0.Keeps (s.sts w off m) := by
  unfold State.sts
  repeat' with_reducible first
      | assumption | apply State.keeps_ite | apply State.wr_keeps

theorem State.stsField_keeps (h : s0.Keeps s) (w : Nat) (f : Fld) (m : Nat) (v : Nat) :
    s0.Keeps (s.stsField w f m v) := by
  unfold State.stsField
  repeat' with_reducible first
      | assumption | apply State.keeps_ite | apply State.put_keeps | apply State.sts_keeps

theorem State.engPend_keeps (h : s0.Keeps s) (k : Nat) (e : Nat) (arg : Word64) : s0.Keeps (s.engPend k e arg) := by
  unfold State.engPend
  repeat' with_reducible first
      | assumption | apply State.keeps_ite | apply State.count_keeps | apply State.modEng_keeps | (intro x hx)
      | apply Eng.next_ok | apply Eng.report_ok | apply Eng.setW_ok | apply Eng.setEntry_ok | apply Eng.branch_ok
      | apply Eng.ite_ok | with_unfolding_all exact hx

theorem State.msixSend_keeps (h : s0.Keeps s) (v : Nat) : s0.Keeps (s.msixSend v) := by
  unfold State.msixSend
  repeat' with_reducible first
      | assumption | apply State.keeps_ite | apply State.setHif_keeps | apply State.emit_keeps

theorem State.msixRefresh_keeps (h : s0.Keeps s) (resend : Bool) : s0.Keeps (s.msixRefresh resend) := by
  unfold State.msixRefresh
  repeat' with_reducible first
      | assumption | apply State.keeps_ite | apply State.setHif_keeps | apply State.msixSend_keeps
      | apply State.keeps_foldl | apply State.keeps_foldl2 | apply State.keeps_getD | (intro t x ht)

theorem State.raiseNo_keeps (h : s0.Keeps s) (n : Nat) : s0.Keeps (s.raiseNo n) := by
  unfold State.raiseNo
  repeat' with_reducible first
      | assumption | apply State.keeps_ite | apply State.wr_keeps | apply State.msixSend_keeps
      | apply State.setHif_keeps | apply State.engPend_keeps | apply State.keeps_foldl | apply State.keeps_foldl2
      | apply State.keeps_getD | (intro t x ht)

theorem State.raise_keeps (h : s0.Keeps s) (g : Nat) (b : Nat) : s0.Keeps (s.raise g b) := by
  unfold State.raise
  repeat' with_reducible first
      | assumption | apply State.keeps_ite | apply State.raiseNo_keeps

theorem State.fault_keeps (h : s0.Keeps s) (src : Nat) (kind : Nat) (addr : Nat) :
    s0.Keeps (s.fault src kind addr) := by
  unfold State.fault
  repeat' with_reducible first
      | assumption | apply State.keeps_ite | apply State.setFlt_keeps

theorem State.eccCheck_keeps (h : s0.Keeps s) (a : Nat) : s0.Keeps (s.eccCheck a).2 := by
  unfold State.eccCheck
  repeat' with_reducible first
      | assumption | apply State.keeps_ite | apply State.keeps_ite2 | apply State.keeps_ite3 | apply State.fault_keeps
      | apply State.raise_keeps | apply State.sts_keeps | apply State.wr_keeps | apply State.count_keeps
      | apply State.setEcc_keeps | apply State.keeps_foldl | apply State.keeps_foldl2 | apply State.keeps_getD
      | (intro t x ht) | (intro t ht) | dsimp only | refine State.keeps_of_pair (by assumption) ?_
      | refine State.keeps_of_triple (by assumption) ?_ | split

theorem State.memLoad_keeps (h : s0.Keeps s) (a : Nat) (n : Nat) : s0.Keeps (s.memLoad a n).2 := by
  unfold State.memLoad
  repeat' with_reducible first
      | assumption | apply State.keeps_ite | apply State.keeps_ite2 | apply State.keeps_ite3
      | apply State.eccCheck_keeps

theorem State.memStore_keeps (h : s0.Keeps s) (a : Nat) (n : Nat) (v : Nat) : s0.Keeps (s.memStore a n v) := by
  unfold State.memStore
  repeat' with_reducible first
      | assumption | apply State.keeps_ite | apply State.keeps_ite2 | apply State.keeps_ite3
      | apply State.setBytes_keeps | apply State.setEcc_keeps | apply State.eccCheck_keeps

theorem State.loadEntry_keeps (h : s0.Keeps s) (a : Nat) : s0.Keeps (s.loadEntry a).2 := by
  unfold State.loadEntry
  repeat' with_reducible first
      | assumption | apply State.keeps_ite | apply State.keeps_ite2 | apply State.keeps_ite3
      | apply State.memLoad_keeps

theorem State.storeEntry_keeps (h : s0.Keeps s) (a : Nat) (e : BitVec 256) : s0.Keeps (s.storeEntry a e) := by
  unfold State.storeEntry
  repeat' with_reducible first
      | assumption | apply State.keeps_ite | apply State.memStore_keeps

theorem State.engExcept_keeps (h : s0.Keeps s) (k : Nat) (c : Exc) : s0.Keeps (s.engExcept k c) := by
  unfold State.engExcept
  repeat' with_reducible first
      | assumption | apply State.keeps_ite | apply State.fault_keeps | apply State.modEng_keeps
      | apply State.stsField_keeps | apply State.wr_keeps | (intro x hx) | apply Eng.next_ok | apply Eng.report_ok
      | apply Eng.setW_ok | apply Eng.setEntry_ok | apply Eng.branch_ok | apply Eng.ite_ok
      | with_unfolding_all exact hx

theorem State.insn_keeps (h : s0.Keeps s) (k : Nat) (captured : Bool) (f : State → State)
    (hf : ∀ t, s0.Keeps t → s0.Keeps (f t)) : s0.Keeps (s.insn k captured f) := by
  unfold State.insn
  dsimp only
  split
  · exact h
  · split
    · exact State.engExcept_keeps h k _
    · split
      · exact State.engExcept_keeps h k _
      · exact hf s h

theorem State.alu_keeps (h : s0.Keeps s) (k : Nat) (f : Eng → Eng) (hf : ∀ x, x.Ok → (f x).Ok) :
    s0.Keeps (s.alu k f) :=
  State.insn_keeps h k false _ (fun _ ht => State.modEng_keeps ht k _ (fun x hx => Eng.next_ok (hf x hx)))

theorem State.engRelease_keeps (h : s0.Keeps s) (k : Nat) (p : PStat) : s0.Keeps (s.engRelease k p) :=
  State.modEng_keeps h k _ (fun _ hx => Eng.next_ok (Eng.report_ok hx p))

theorem State.engHaltNow_keeps (h : s0.Keeps s) (k : Nat) : s0.Keeps (s.engHaltNow k) := by
  unfold State.engHaltNow
  repeat' with_reducible first
      | assumption | apply State.keeps_ite | apply State.raise_keeps | apply State.stsField_keeps
      | apply State.modEng_keeps | (intro x hx) | apply Eng.next_ok | apply Eng.report_ok | apply Eng.setW_ok
      | apply Eng.setEntry_ok | apply Eng.branch_ok | apply Eng.ite_ok | with_unfolding_all exact hx

theorem State.putInstant_keeps (h : s0.Keeps s) (w : Nat) (off : Nat) (u : Nat) : s0.Keeps (s.putInstant w off u) := by
  unfold State.putInstant
  repeat' with_reducible first
      | assumption | apply State.keeps_ite | apply State.putTriple_keeps

theorem State.tbClamp_keeps (h : s0.Keeps s) (acts : Bool) : s0.Keeps (s.tbClamp acts) := by
  unfold State.tbClamp
  repeat' with_reducible first
      | assumption | apply State.keeps_ite | apply State.setTb_keeps | apply State.raise_keeps | apply State.sts_keeps
      | with_unfolding_all exact id

theorem State.tbRetune_keeps (h : s0.Keeps s) (raw : Int) : s0.Keeps (s.tbRetune raw) := by
  unfold State.tbRetune
  repeat' with_reducible first
      | assumption | apply State.keeps_ite | apply State.tbClamp_keeps | apply State.setTb_keeps
      | with_unfolding_all exact id | apply State.keeps_foldl | apply State.keeps_foldl2 | apply State.keeps_getD
      | (intro t x ht) | (intro t ht) | dsimp only | refine State.keeps_of_pair (by assumption) ?_
      | refine State.keeps_of_triple (by assumption) ?_ | split

theorem State.tbDeliver_keeps (h : s0.Keeps s) (w : Int) : s0.Keeps (s.tbDeliver w) := by
  unfold State.tbDeliver
  repeat' with_reducible first
      | assumption | apply State.keeps_ite | apply State.setTb_keeps | apply State.tbRetune_keeps
      | with_unfolding_all exact id

theorem State.tbServoAgain_keeps (h : s0.Keeps s) : s0.Keeps (s.tbServoAgain) := by
  unfold State.tbServoAgain
  repeat' with_reducible first
      | assumption | apply State.keeps_ite | apply State.tbRetune_keeps

theorem State.tbServoWord_keeps (h : s0.Keeps s) : s0.Keeps (s.tbServoWord) := by
  unfold State.tbServoWord
  repeat' with_reducible first
      | assumption | apply State.keeps_ite | apply State.setTb_keeps | with_unfolding_all exact id

theorem State.tbServoTick_keeps (h : s0.Keeps s) : s0.Keeps (s.tbServoTick) := by
  unfold State.tbServoTick
  repeat' with_reducible first
      | assumption | apply State.keeps_ite | apply State.tbServoAgain_keeps | apply State.setTb_keeps
      | with_unfolding_all exact id | apply State.keeps_foldl | apply State.keeps_foldl2 | apply State.keeps_getD
      | (intro t x ht) | (intro t ht) | dsimp only | refine State.keeps_of_pair (by assumption) ?_
      | refine State.keeps_of_triple (by assumption) ?_ | split

theorem State.tbGrant_keeps (h : s0.Keeps s) (c : TbChange) : s0.Keeps (s.tbGrant c) := by
  unfold State.tbGrant
  repeat' with_reducible first
      | assumption | apply State.keeps_ite | apply State.setTb_keeps | with_unfolding_all exact id

theorem State.tbIncrEffect_keeps (h : s0.Keeps s) (v : Nat) : s0.Keeps (s.tbIncrEffect v) := by
  unfold State.tbIncrEffect
  repeat' with_reducible first
      | assumption | apply State.keeps_ite | apply State.tbRetune_keeps

theorem State.tbSteerEffect_keeps (h : s0.Keeps s) (v : Nat) : s0.Keeps (s.tbSteerEffect v) := by
  unfold State.tbSteerEffect
  repeat' with_reducible first
      | assumption | apply State.keeps_ite | apply State.setTb_keeps | apply State.tbRetune_keeps
      | apply State.putPair_keeps | with_unfolding_all exact id

theorem State.tbAlign_keeps (h : s0.Keeps s) (ofsAdd : Int) (rate : Int) : s0.Keeps (s.tbAlign ofsAdd rate) := by
  unfold State.tbAlign
  repeat' with_reducible first
      | assumption | apply State.keeps_ite | apply State.tbClamp_keeps | apply State.setTb_keeps
      | with_unfolding_all exact id

theorem State.engLoad_keeps (h : s0.Keeps s) (k : EngId) (rd : Reg) (ra : Reg) (imm : BitVec 16) (n : Nat) (signed : Bool) :
    s0.Keeps (s.engLoad k rd ra imm n signed) := by
  unfold State.engLoad
  repeat' with_reducible first
      | assumption | apply State.keeps_ite | apply State.keeps_ite2 | apply State.keeps_ite3 | apply State.insn_keeps
      | apply State.engExcept_keeps | apply State.memLoad_keeps | apply State.modEng_keeps | (intro x hx)
      | apply Eng.next_ok | apply Eng.report_ok | apply Eng.setW_ok | apply Eng.setEntry_ok | apply Eng.branch_ok
      | apply Eng.ite_ok | with_unfolding_all exact hx | apply State.keeps_foldl | apply State.keeps_foldl2
      | apply State.keeps_getD | (intro t x ht) | (intro t ht) | dsimp only
      | refine State.keeps_of_pair (by assumption) ?_ | refine State.keeps_of_triple (by assumption) ?_ | split

theorem State.engStore_keeps (h : s0.Keeps s) (k : EngId) (rs : Reg) (ra : Reg) (imm : BitVec 16) (n : Nat) :
    s0.Keeps (s.engStore k rs ra imm n) := by
  unfold State.engStore
  repeat' with_reducible first
      | assumption | apply State.keeps_ite | apply State.insn_keeps | apply State.engExcept_keeps
      | apply State.modEng_keeps | apply State.memStore_keeps | (intro x hx) | apply Eng.next_ok | apply Eng.report_ok
      | apply Eng.setW_ok | apply Eng.setEntry_ok | apply Eng.branch_ok | apply Eng.ite_ok
      | with_unfolding_all exact hx | apply State.keeps_foldl | apply State.keeps_foldl2 | apply State.keeps_getD
      | (intro t x ht) | (intro t ht) | dsimp only | refine State.keeps_of_pair (by assumption) ?_
      | refine State.keeps_of_triple (by assumption) ?_ | split

theorem State.qEvent_keeps (h : s0.Keeps s) (n : Nat) (bit : Nat) : s0.Keeps (s.qEvent n bit) := by
  unfold State.qEvent
  repeat' with_reducible first
      | assumption | apply State.keeps_ite | apply State.raiseNo_keeps | apply State.sts_keeps

theorem State.qDrop_keeps (h : s0.Keeps s) (n : Nat) (k : Nat) : s0.Keeps (s.qDrop n k) := by
  unfold State.qDrop
  repeat' with_reducible first
      | assumption | apply State.keeps_ite | apply State.qEvent_keeps | apply State.count_keeps

theorem State.qPush_keeps (h : s0.Keeps s) (n : Nat) (e : BitVec 256) : s0.Keeps (s.qPush n e) := by
  unfold State.qPush
  repeat' with_reducible first
      | assumption | apply State.keeps_ite | apply State.modQueue_keeps | apply State.storeEntry_keeps

theorem State.qDiscard_keeps (h : s0.Keeps s) (n : Nat) : s0.Keeps (s.qDiscard n) := by
  unfold State.qDiscard
  repeat' with_reducible first
      | assumption | apply State.keeps_ite | apply State.modQueue_keeps

theorem State.qPop_keeps (h : s0.Keeps s) (n : Nat) : s0.Keeps (s.qPop n).2 := by
  unfold State.qPop
  repeat' with_reducible first
      | assumption | apply State.keeps_ite | apply State.keeps_ite2 | apply State.keeps_ite3
      | apply State.loadEntry_keeps | apply State.qDiscard_keeps

theorem State.qStartDrain_keeps (h : s0.Keeps s) (n : Nat) : s0.Keeps (s.qStartDrain n) := by
  unfold State.qStartDrain
  repeat' with_reducible first
      | assumption | apply State.keeps_ite | apply State.modQueue_keeps

theorem State.qPutBlock_keeps (h : s0.Keeps s) (n : Nat) (e : BitVec 256) : s0.Keeps (s.qPutBlock n e) := by
  unfold State.qPutBlock
  repeat' with_reducible first
      | assumption | apply State.keeps_ite | apply State.qDrop_keeps | apply State.qPush_keeps

theorem State.qPutEngine_keeps (h : s0.Keeps s) (n : Nat) (e : BitVec 256) (wait : Bool) :
    s0.Keeps (s.qPutEngine n e wait).2 := by
  unfold State.qPutEngine
  repeat' with_reducible first
      | assumption | apply State.keeps_ite | apply State.keeps_ite2 | apply State.keeps_ite3 | apply State.qPush_keeps
      | apply State.qDrop_keeps | apply State.qDiscard_keeps | apply State.qStartDrain_keeps | apply State.keeps_foldl
      | apply State.keeps_foldl2 | apply State.keeps_getD | (intro t x ht) | (intro t ht) | dsimp only
      | refine State.keeps_of_pair (by assumption) ?_ | refine State.keeps_of_triple (by assumption) ?_ | split

theorem State.qHold_keeps (h : s0.Keeps s) (n : Nat) (k : Nat) (e : BitVec 256) : s0.Keeps (s.qHold n k e) := by
  unfold State.qHold
  repeat' with_reducible first
      | assumption | apply State.keeps_ite | apply State.modEng_keeps | apply State.modQueue_keeps | (intro x hx)
      | apply Eng.next_ok | apply Eng.report_ok | apply Eng.setW_ok | apply Eng.setEntry_ok | apply Eng.branch_ok
      | apply Eng.ite_ok | with_unfolding_all exact hx

theorem State.qUnhold_keeps (h : s0.Keeps s) (n : Nat) (k : Nat) : s0.Keeps (s.qUnhold n k) := by
  unfold State.qUnhold
  repeat' with_reducible first
      | assumption | apply State.keeps_ite | apply State.modQueue_keeps

theorem State.qReleaseAll_keeps (h : s0.Keeps s) (n : Nat) (l : List HeldProducer) :
    s0.Keeps (s.qReleaseAll n l) := by
  induction l generalizing s with
  | nil => exact h
  | cons p l ih =>
    exact ih (State.engRelease_keeps (State.qPutEngine_keeps (State.qUnhold_keeps h n p.eng) n p.entry false) _ _)

theorem State.qReleaseNone_keeps (h : s0.Keeps s) (n : Nat) (l : List HeldProducer) :
    s0.Keeps (s.qReleaseNone n l) := by
  induction l generalizing s with
  | nil => exact h
  | cons p l ih => exact ih (State.engRelease_keeps (State.qUnhold_keeps h n p.eng) _ _)

theorem State.qDisable_keeps (h : s0.Keeps s) (n : Nat) : s0.Keeps (s.qDisable n) := by
  unfold State.qDisable
  repeat' with_reducible first
      | assumption | apply State.keeps_ite | apply State.qDrop_keeps | apply State.modQueue_keeps
      | apply State.qReleaseNone_keeps

theorem State.setDidx_keeps (h : s0.Keeps s) (n : Nat) (v : Nat) : s0.Keeps (s.setDidx n v) := by
  unfold State.setDidx
  repeat' with_reducible first
      | assumption | apply State.keeps_ite | apply State.wr_keeps

theorem State.writeBack_keeps (h : s0.Keeps s) (n : Nat) : s0.Keeps (s.writeBack n) := by
  unfold State.writeBack
  repeat' with_reducible first
      | assumption | apply State.keeps_ite | apply State.modRing_keeps | apply State.emit_keeps

theorem State.qData_keeps (h : s0.Keeps s) (n : Nat) : s0.Keeps (s.qData n) := by
  unfold State.qData
  repeat' with_reducible first
      | assumption | apply State.keeps_ite | apply State.qEvent_keeps | apply State.modRing_keeps

theorem State.qDataCount_keeps (h : s0.Keeps s) (n : Nat) : s0.Keeps (s.qDataCount n) := by
  unfold State.qDataCount
  repeat' with_reducible first
      | assumption | apply State.keeps_ite | apply State.qData_keeps

theorem State.d2hOne_keeps (h : s0.Keeps s) (n : Nat) : s0.Keeps (s.d2hOne n) := by
  unfold State.d2hOne
  repeat' with_reducible first
      | assumption | apply State.keeps_ite | apply State.keeps_ite2 | apply State.keeps_ite3 | apply State.qPop_keeps
      | apply State.modRing_keeps | apply State.count_keeps | apply State.setDidx_keeps | apply State.emit_keeps

theorem State.d2hMany_keeps (h : s0.Keeps s) (n k : Nat) : s0.Keeps (s.d2hMany n k).2 := by
  induction k generalizing s with
  | zero => exact h
  | succ k ih =>
    unfold State.d2hMany
    split
    · exact h
    · exact ih (State.d2hOne_keeps h n)

theorem State.h2dMany_keeps (h : s0.Keeps s) (n : Nat) (l : List (BitVec 256)) : s0.Keeps (s.h2dMany n l).2 := by
  induction l generalizing s with
  | nil => exact h
  | cons e l ih =>
    unfold State.h2dMany
    split
    · exact h
    · exact ih (State.count_keeps (State.setDidx_keeps (State.qPush_keeps h n e) _ _) _ _ _)

theorem State.ringClearErr_keeps (h : s0.Keeps s) (n : Nat) : s0.Keeps (s.ringClearErr n) := by
  unfold State.ringClearErr
  repeat' with_reducible first
      | assumption | apply State.keeps_ite | apply State.modRing_keeps

theorem State.oscGen_keeps (h : s0.Keeps s) : s0.Keeps (s.oscGen) := by
  unfold State.oscGen
  repeat' with_reducible first
      | assumption | apply State.keeps_ite | apply State.setOsc_keeps

theorem State.oscTakeSet_keeps (h : s0.Keeps s) (i : Nat) : s0.Keeps (s.oscTakeSet i) := by
  unfold State.oscTakeSet
  repeat' with_reducible first
      | assumption | apply State.keeps_ite | apply State.raise_keeps | apply State.sts_keeps | apply State.put_keeps
      | apply State.setOsc_keeps | apply State.keeps_foldl | apply State.keeps_foldl2 | apply State.keeps_getD
      | (intro t x ht) | (intro t ht) | dsimp only | refine State.keeps_of_pair (by assumption) ?_
      | refine State.keeps_of_triple (by assumption) ?_ | split

theorem State.estMs_keeps (h : s0.Keeps s) : s0.Keeps (s.estMs) := by
  unfold State.estMs
  repeat' with_reducible first
      | assumption | apply State.keeps_ite | apply State.setOsc_keeps

theorem State.oscEvaluate_keeps (h : s0.Keeps s) (i : Nat) : s0.Keeps (s.oscEvaluate i) := by
  unfold State.oscEvaluate
  repeat' with_reducible first
      | assumption | apply State.keeps_ite | apply State.estMs_keeps | apply State.oscTakeSet_keeps
      | apply State.setOsc_keeps | apply State.putPair_keeps

theorem State.yBinClose_keeps (h : s0.Keeps s) (w : Nat) : s0.Keeps (s.yBinClose w) := by
  unfold State.yBinClose
  repeat' with_reducible first
      | assumption | apply State.keeps_ite | apply State.setOsc_keeps

theorem State.learnCheck_keeps (h : s0.Keeps s) : s0.Keeps (s.learnCheck) := by
  unfold State.learnCheck
  repeat' with_reducible first
      | assumption | apply State.keeps_ite | apply State.setOsc_keeps

theorem State.learnOpen_keeps (h : s0.Keeps s) (whole : Bool) : s0.Keeps (s.learnOpen whole) := by
  unfold State.learnOpen
  repeat' with_reducible first
      | assumption | apply State.keeps_ite | apply State.setOsc_keeps

theorem State.learnStart_keeps (h : s0.Keeps s) : s0.Keeps (s.learnStart) := by
  unfold State.learnStart
  repeat' with_reducible first
      | assumption | apply State.keeps_ite | apply State.learnOpen_keeps | apply State.setOsc_keeps

theorem State.learnSample_keeps (h : s0.Keeps s) : s0.Keeps (s.learnSample) := by
  unfold State.learnSample
  repeat' with_reducible first
      | assumption | apply State.keeps_ite | apply State.keeps_ite2 | apply State.keeps_ite3
      | apply State.takeFree_keeps | apply State.wr_keeps | apply State.putPair_keeps | apply State.sts_keeps
      | apply State.engPend_keeps | apply State.learnOpen_keeps | apply State.setOsc_keeps

theorem State.lsRead_keeps (h : s0.Keeps s) : s0.Keeps (s.lsRead) := by
  unfold State.lsRead
  repeat' with_reducible first
      | assumption | apply State.keeps_ite | apply State.setOsc_keeps

theorem State.thetaTake_keeps (h : s0.Keeps s) (raw : Int) : s0.Keeps (s.thetaTake raw) := by
  unfold State.thetaTake
  repeat' with_reducible first
      | assumption | apply State.keeps_ite | apply State.setOsc_keeps | apply State.wr_keeps

theorem State.tsReading_keeps (h : s0.Keeps s) (code : Nat) : s0.Keeps (s.tsReading code) := by
  unfold State.tsReading
  repeat' with_reducible first
      | assumption | apply State.keeps_ite | apply State.wr_keeps | apply State.setOsc_keeps
      | apply State.learnCheck_keeps | apply State.raise_keeps | apply State.sts_keeps | apply State.put_keeps
      | apply State.thetaTake_keeps

theorem State.tempSample_keeps (h : s0.Keeps s) (code : Nat) : s0.Keeps (s.tempSample code) := by
  unfold State.tempSample
  repeat' with_reducible first
      | assumption | apply State.keeps_ite | apply State.tsReading_keeps | apply State.thetaTake_keeps
      | apply State.wr_keeps | apply State.setOsc_keeps

theorem State.oscTsel_keeps (h : s0.Keeps s) : s0.Keeps (s.oscTsel) := by
  unfold State.oscTsel
  repeat' with_reducible first
      | assumption | apply State.keeps_ite | apply State.setOsc_keeps

theorem State.estUpdate_keeps (h : s0.Keeps s) (n : Nat) (st : Nat) : s0.Keeps (s.estUpdate n st) := by
  unfold State.estUpdate
  repeat' with_reducible first
      | assumption | apply State.keeps_ite | apply State.setOsc_keeps

theorem State.estClear_keeps (h : s0.Keeps s) (n : Nat) : s0.Keeps (s.estClear n) := by
  unfold State.estClear
  repeat' with_reducible first
      | assumption | apply State.keeps_ite | apply State.setOsc_keeps

theorem State.setKnot_keeps (h : s0.Keeps s) (p : Nat) (kind : Nat) (i : Nat) (e : Nat) (v : Nat) :
    s0.Keeps (s.setKnot p kind i e v) := by
  unfold State.setKnot
  repeat' with_reducible first
      | assumption | apply State.keeps_ite | apply State.setCal_keeps

theorem State.setKnots_keeps (h : s0.Keeps s) (p kind i e : Nat) (l : List Nat) :
    s0.Keeps (s.setKnots p kind i e l) := by
  induction l generalizing s e with
  | nil => exact h
  | cons v l ih => exact ih (State.setKnot_keeps h p kind i e v) (e + 1)

theorem State.srcEvent_keeps (h : s0.Keeps s) (n : Nat) (e : Nat) : s0.Keeps (s.srcEvent n e) := by
  unfold State.srcEvent
  repeat' with_reducible first
      | assumption | apply State.keeps_ite | apply State.raise_keeps

theorem State.consLow_keeps (h : s0.Keeps s) (kind : Nat) (before : Nat) : s0.Keeps (s.consLow kind before) := by
  unfold State.consLow
  repeat' with_reducible first
      | assumption | apply State.keeps_ite | apply State.raise_keeps

theorem State.setQ_keeps (h : s0.Keeps s) (n : Nat) (q : Nat) : s0.Keeps (s.setQ n q) := by
  unfold State.setQ
  repeat' with_reducible first
      | assumption | apply State.keeps_ite | apply State.modSrc_keeps | apply State.consLow_keeps
      | apply State.engPend_keeps | apply State.put_keeps

theorem State.srcDisq_keeps (h : s0.Keeps s) (n : Nat) (cause : Nat) : s0.Keeps (s.srcDisq n cause) := by
  unfold State.srcDisq
  repeat' with_reducible first
      | assumption | apply State.keeps_ite | apply State.srcEvent_keeps | apply State.stsField_keeps

theorem State.srcRecord_keeps (h : s0.Keeps s) (n : Nat) (m : Nat) (cause : Nat) :
    s0.Keeps (s.srcRecord n m cause) := by
  unfold State.srcRecord
  repeat' with_reducible first
      | assumption | apply State.keeps_ite | apply State.stsField_keeps

theorem State.srcClearWait_keeps (h : s0.Keeps s) (n : Nat) : s0.Keeps (s.srcClearWait n) := by
  unfold State.srcClearWait
  repeat' with_reducible first
      | assumption | apply State.keeps_ite | apply State.put_keeps | apply State.modSrc_keeps

theorem State.toQual_keeps (h : s0.Keeps s) (n : Nat) : s0.Keeps (s.toQual n) := by
  unfold State.toQual
  repeat' with_reducible first
      | assumption | apply State.keeps_ite | apply State.srcEvent_keeps | apply State.sts_keeps
      | apply State.put_keeps | apply State.setQ_keeps | apply State.srcClearWait_keeps

theorem State.toUnqual_keeps (h : s0.Keeps s) (n : Nat) : s0.Keeps (s.toUnqual n) := by
  unfold State.toUnqual
  repeat' with_reducible first
      | assumption | apply State.keeps_ite | apply State.setQ_keeps | apply State.srcClearWait_keeps

theorem State.srcClearHist_keeps (h : s0.Keeps s) (n : Nat) (next : Bool) : s0.Keeps (s.srcClearHist n next) := by
  unfold State.srcClearHist
  repeat' with_reducible first
      | assumption | apply State.keeps_ite | apply State.modSrc_keeps | apply State.wr_keeps | apply State.keeps_foldl
      | apply State.keeps_foldl2 | apply State.keeps_getD | (intro t x ht)

theorem State.toLost_keeps (h : s0.Keeps s) (n : Nat) : s0.Keeps (s.toLost n) := by
  unfold State.toLost
  repeat' with_reducible first
      | assumption | apply State.keeps_ite | apply State.srcEvent_keeps | apply State.sts_keeps
      | apply State.srcClearHist_keeps | apply State.setQ_keeps | apply State.srcClearWait_keeps
      | apply State.srcDisq_keeps

theorem State.srcReturn_keeps (h : s0.Keeps s) (n : Nat) : s0.Keeps (s.srcReturn n) := by
  unfold State.srcReturn
  repeat' with_reducible first
      | assumption | apply State.keeps_ite | apply State.modSrc_keeps | apply State.srcClearHist_keeps
      | apply State.toQual_keeps | apply State.toUnqual_keeps

theorem State.actBad_keeps (h : s0.Keeps s) (n : Nat) : s0.Keeps (s.actBad n) := by
  unfold State.actBad
  repeat' with_reducible first
      | assumption | apply State.keeps_ite | apply State.modSrc_keeps | apply State.toLost_keeps

theorem State.actGood_keeps (h : s0.Keeps s) (n : Nat) : s0.Keeps (s.actGood n) := by
  unfold State.actGood
  repeat' with_reducible first
      | assumption | apply State.keeps_ite | apply State.modSrc_keeps | apply State.srcReturn_keeps

theorem State.srcSample_keeps (h : s0.Keeps s) (n : Nat) (c : Nat) (fc : Nat) (x : Int) (mon : Int) :
    s0.Keeps (s.srcSample n c fc x mon) := by
  unfold State.srcSample
  repeat' with_reducible first
      | assumption | apply State.keeps_ite | apply State.modSrc_keeps | apply State.putPair_keeps

theorem State.actEdge_keeps (h : s0.Keeps s) (n : Nat) (time : Nat) : s0.Keeps (s.actEdge n time) := by
  unfold State.actEdge
  repeat' with_reducible first
      | assumption | apply State.keeps_ite | apply State.modSrc_keeps | apply State.actBad_keeps
      | apply State.actGood_keeps | apply State.keeps_foldl | apply State.keeps_foldl2 | apply State.keeps_getD
      | (intro t x ht) | (intro t ht) | dsimp only | refine State.keeps_of_pair (by assumption) ?_
      | refine State.keeps_of_triple (by assumption) ?_ | split

theorem State.srcEdge_keeps (h : s0.Keeps s) (n : Nat) (t : Nat) : s0.Keeps (s.srcEdge n t) := by
  unfold State.srcEdge
  repeat' with_reducible first
      | assumption | apply State.keeps_ite | apply State.actEdge_keeps | apply State.count_keeps
      | apply State.srcSample_keeps | apply State.modSrc_keeps | apply State.keeps_foldl | apply State.keeps_foldl2
      | apply State.keeps_getD | (intro t x ht) | (intro t ht) | dsimp only
      | refine State.keeps_of_pair (by assumption) ?_ | refine State.keeps_of_triple (by assumption) ?_ | split

theorem State.ppsEdge_keeps (h : s0.Keeps s) (n : Nat) (t : Nat) : s0.Keeps (s.ppsEdge n t) := by
  unfold State.ppsEdge
  repeat' with_reducible first
      | assumption | apply State.keeps_ite | apply State.setTod_keeps

theorem State.srcVirtual_keeps (h : s0.Keeps s) (n : Nat) (tag : Nat) (x : Int) : s0.Keeps (s.srcVirtual n tag x) := by
  unfold State.srcVirtual
  repeat' with_reducible first
      | assumption | apply State.keeps_ite | apply State.srcSample_keeps | apply State.actEdge_keeps
      | apply State.count_keeps

theorem State.srcBinClose_keeps (h : s0.Keeps s) (n : Nat) (w : Nat) (k : Nat) : s0.Keeps (s.srcBinClose n w k) := by
  unfold State.srcBinClose
  repeat' with_reducible first
      | assumption | apply State.keeps_ite | apply State.wr_keeps | apply State.modSrc_keeps

theorem State.srcBasis_keeps (h : s0.Keeps s) (n : Nat) : s0.Keeps (s.srcBasis n) := by
  unfold State.srcBasis
  repeat' with_reducible first
      | assumption | apply State.keeps_ite | apply State.srcClearHist_keeps | apply State.put_keeps

theorem State.srcClrStat_keeps (h : s0.Keeps s) (n : Nat) : s0.Keeps (s.srcClrStat n) := by
  unfold State.srcClrStat
  repeat' with_reducible first
      | assumption | apply State.keeps_ite | apply State.modSrc_keeps | apply State.wr_keeps | apply State.keeps_foldl
      | apply State.keeps_foldl2 | apply State.keeps_getD | (intro t x ht)

theorem State.startPend_keeps (h : s0.Keeps s) (n : Nat) : s0.Keeps (s.startPend n) := by
  unfold State.startPend
  repeat' with_reducible first
      | assumption | apply State.keeps_ite | apply State.modSrc_keeps

theorem State.toPend_keeps (h : s0.Keeps s) (n : Nat) : s0.Keeps (s.toPend n) := by
  unfold State.toPend
  repeat' with_reducible first
      | assumption | apply State.keeps_ite | apply State.toQual_keeps | apply State.startPend_keeps
      | apply State.setQ_keeps

theorem State.driftSeen_keeps (h : s0.Keeps s) (n : Nat) : s0.Keeps (s.driftSeen n) := by
  unfold State.driftSeen
  repeat' with_reducible first
      | assumption | apply State.keeps_ite | apply State.setSup_keeps

theorem State.srcFail_keeps (h : s0.Keeps s) (n : Nat) (fail : Nat) : s0.Keeps (s.srcFail n fail) := by
  unfold State.srcFail
  repeat' with_reducible first
      | assumption | apply State.keeps_ite | apply State.srcDisq_keeps | apply State.toUnqual_keeps
      | apply State.driftSeen_keeps | apply State.srcEvent_keeps | apply State.sts_keeps

theorem State.srcVerdict_keeps (h : s0.Keeps s) (n : Nat) (v : Nat) : s0.Keeps (s.srcVerdict n v) := by
  unfold State.srcVerdict
  repeat' with_reducible first
      | assumption | apply State.keeps_ite | apply State.modSrc_keeps | apply State.wr_keeps
      | apply State.srcRecord_keeps | apply State.toPend_keeps | apply State.toQual_keeps | apply State.toUnqual_keeps
      | apply State.srcFail_keeps | apply State.keeps_foldl | apply State.keeps_foldl2 | apply State.keeps_getD
      | (intro t x ht) | (intro t ht) | dsimp only | refine State.keeps_of_pair (by assumption) ?_
      | refine State.keeps_of_triple (by assumption) ?_ | split

theorem State.srcAccept_keeps (h : s0.Keeps s) (n : Nat) : s0.Keeps (s.srcAccept n) := by
  unfold State.srcAccept
  repeat' with_reducible first
      | assumption | apply State.keeps_ite | apply State.modSrc_keeps | apply State.toQual_keeps
      | apply State.toUnqual_keeps | apply State.keeps_foldl | apply State.keeps_foldl2 | apply State.keeps_getD
      | (intro t x ht) | (intro t ht) | dsimp only | refine State.keeps_of_pair (by assumption) ?_
      | refine State.keeps_of_triple (by assumption) ?_ | split

theorem State.srcHoldAs_keeps (h : s0.Keeps s) (n : Nat) (cause : Nat) : s0.Keeps (s.srcHoldAs n cause) := by
  unfold State.srcHoldAs
  repeat' with_reducible first
      | assumption | apply State.keeps_ite | apply State.put_keeps | apply State.setQ_keeps
      | apply State.srcClearWait_keeps | apply State.srcEvent_keeps | apply State.sts_keeps
      | apply State.srcRecord_keeps

theorem State.srcCmd_keeps (h : s0.Keeps s) (n : Nat) (v : Nat) : s0.Keeps (s.srcCmd n v) := by
  unfold State.srcCmd
  repeat' with_reducible first
      | assumption | apply State.keeps_ite | apply State.srcAccept_keeps | apply State.srcHoldAs_keeps
      | apply State.srcClrStat_keeps

theorem State.srcForced_keeps (h : s0.Keeps s) (n : Nat) (f : Nat) : s0.Keeps (s.srcForced n f) := by
  unfold State.srcForced
  repeat' with_reducible first
      | assumption | apply State.keeps_ite | apply State.srcDisq_keeps | apply State.toUnqual_keeps
      | apply State.toQual_keeps | apply State.modSrc_keeps

theorem State.srcOn_keeps (h : s0.Keeps s) (n : Nat) : s0.Keeps (s.srcOn n) := by
  unfold State.srcOn
  repeat' with_reducible first
      | assumption | apply State.keeps_ite | apply State.setQ_keeps | apply State.modSrc_keeps
      | apply State.srcClearHist_keeps | apply State.put_keeps | apply State.wr_keeps

theorem State.srcOff_keeps (h : s0.Keeps s) (n : Nat) : s0.Keeps (s.srcOff n) := by
  unfold State.srcOff
  repeat' with_reducible first
      | assumption | apply State.keeps_ite | apply State.setQ_keeps | apply State.srcClearWait_keeps
      | apply State.srcDisq_keeps

theorem State.srcEnWritten_keeps (h : s0.Keeps s) (n : Nat) (old : Nat) : s0.Keeps (s.srcEnWritten n old) := by
  unfold State.srcEnWritten
  repeat' with_reducible first
      | assumption | apply State.keeps_ite | apply State.srcOn_keeps | apply State.srcOff_keeps
      | apply State.srcForced_keeps

theorem State.setO_keeps (h : s0.Keeps s) (n : Nat) (o : Int) : s0.Keeps (s.setO n o) := by
  unfold State.setO
  repeat' with_reducible first
      | assumption | apply State.keeps_ite | apply State.putPair_keeps

theorem State.putSel_keeps (h : s0.Keeps s) (n : Nat) (v : Nat) : s0.Keeps (s.putSel n v) := by
  unfold State.putSel
  repeat' with_reducible first
      | assumption | apply State.keeps_ite | apply State.learnCheck_keeps | apply State.engPend_keeps
      | apply State.wr_keeps

theorem State.putSelF_keeps (h : s0.Keeps s) (n : Nat) (f : Fld) (v : Nat) : s0.Keeps (s.putSelF n f v) := by
  unfold State.putSelF
  repeat' with_reducible first
      | assumption | apply State.keeps_ite | apply State.putSel_keeps

theorem State.selEvent_keeps (h : s0.Keeps s) (n : Nat) (e : Nat) : s0.Keeps (s.selEvent n e) := by
  unfold State.selEvent
  repeat' with_reducible first
      | assumption | apply State.keeps_ite | apply State.raise_keeps | apply State.sts_keeps

theorem State.selNone_keeps (h : s0.Keeps s) (n : Nat) (cause : Nat) : s0.Keeps (s.selNone n cause) := by
  unfold State.selNone
  repeat' with_reducible first
      | assumption | apply State.keeps_ite | apply State.putSel_keeps | apply State.put_keeps
      | apply State.count_keeps | apply State.selEvent_keeps | apply State.modSel_keeps | apply State.setO_keeps

theorem State.selRecord_keeps (h : s0.Keeps s) (n : Nat) (b : Nat) (st : Nat) (cause : Nat) :
    s0.Keeps (s.selRecord n b st cause) := by
  unfold State.selRecord
  repeat' with_reducible first
      | assumption | apply State.keeps_ite | apply State.modSrc_keeps | apply State.modSel_keeps
      | apply State.put_keeps | apply State.count_keeps | apply State.putSel_keeps

theorem State.selEval_keeps (h : s0.Keeps s) (n : Nat) : s0.Keeps (s.selEval n) := by
  unfold State.selEval
  repeat' with_reducible first
      | assumption | apply State.keeps_ite | apply State.modSel_keeps | apply State.selNone_keeps
      | apply State.selEvent_keeps | apply State.selRecord_keeps

theorem State.selTrigger_keeps (h : s0.Keeps s) (n : Nat) (t : SelTrig) : s0.Keeps (s.selTrigger n t) := by
  unfold State.selTrigger
  repeat' with_reducible first
      | assumption | apply State.keeps_ite | apply State.modSel_keeps

theorem State.selStart_keeps (h : s0.Keeps s) (n : Nat) (o : Int) (keep : Bool) : s0.Keeps (s.selStart n o keep) := by
  unfold State.selStart
  repeat' with_reducible first
      | assumption | apply State.keeps_ite | apply State.putSelF_keeps | apply State.modSel_keeps
      | apply State.setO_keeps

theorem State.pullRamp_keeps (h : s0.Keeps s) (n : Nat) : s0.Keeps (s.pullRamp n) := by
  unfold State.pullRamp
  repeat' with_reducible first
      | assumption | apply State.keeps_ite | apply State.selEvent_keeps | apply State.putSelF_keeps
      | apply State.modSel_keeps | apply State.setO_keeps

theorem State.selAbsorb_keeps (h : s0.Keeps s) (n : Nat) : s0.Keeps (s.selAbsorb n) := by
  unfold State.selAbsorb
  repeat' with_reducible first
      | assumption | apply State.keeps_ite | apply State.putSelF_keeps

theorem State.selCmd_keeps (h : s0.Keeps s) (n : Nat) (v : Nat) : s0.Keeps (s.selCmd n v) := by
  unfold State.selCmd
  repeat' with_reducible first
      | assumption | apply State.keeps_ite | apply State.selTrigger_keeps | apply State.selAbsorb_keeps

theorem State.spendPass_keeps (h : s0.Keeps s) (n : Nat) (k : Nat) : s0.Keeps (s.spendPass n k) := by
  unfold State.spendPass
  repeat' with_reducible first
      | assumption | apply State.keeps_ite | apply State.modSrc_keeps

theorem State.selReturn_keeps (h : s0.Keeps s) (n : Nat) : s0.Keeps (s.selReturn n) := by
  unfold State.selReturn
  repeat' with_reducible first
      | assumption | apply State.keeps_ite | apply State.selStart_keeps | apply State.spendPass_keeps
      | apply State.selEval_keeps | apply State.sts_keeps | apply State.srcHoldAs_keeps

theorem State.apllEvent_keeps (h : s0.Keeps s) (n : Nat) (e : Nat) : s0.Keeps (s.apllEvent n e) := by
  unfold State.apllEvent
  repeat' with_reducible first
      | assumption | apply State.keeps_ite | apply State.raise_keeps | apply State.sts_keeps

theorem State.apllWord_keeps (h : s0.Keeps s) (n : Nat) (w : Int) : s0.Keeps (s.apllWord n w) := by
  unfold State.apllWord
  repeat' with_reducible first
      | assumption | apply State.keeps_ite | apply State.putPair_keeps | apply State.modApll_keeps

theorem State.modDest_keeps (h : s0.Keeps s) (d : Nat) (f : DestSt → DestSt) : s0.Keeps (s.modDest d f) := by
  unfold State.modDest
  repeat' with_reducible first
      | assumption | apply State.keeps_ite | apply State.setBrg_keeps

theorem State.destRatio_keeps (h : s0.Keeps s) (d : Nat) : s0.Keeps (s.destRatio d) := by
  unfold State.destRatio
  repeat' with_reducible first
      | assumption | apply State.keeps_ite | apply State.modDest_keeps

theorem State.destTake_keeps (h : s0.Keeps s) (d : Nat) (w : Int) : s0.Keeps (s.destTake d w) := by
  unfold State.destTake
  repeat' with_reducible first
      | assumption | apply State.keeps_ite | apply State.setBrg_keeps | apply State.destRatio_keeps
      | apply State.modDest_keeps | apply State.apllWord_keeps | apply State.tbDeliver_keeps

theorem State.destDeliver_keeps (h : s0.Keeps s) (d : Nat) : s0.Keeps (s.destDeliver d) := by
  unfold State.destDeliver
  repeat' with_reducible first
      | assumption | apply State.keeps_ite | apply State.destTake_keeps | apply State.modDest_keeps

theorem State.brgBlend_keeps (h : s0.Keeps s) : s0.Keeps (s.brgBlend) := by
  unfold State.brgBlend
  repeat' with_reducible first
      | assumption | apply State.keeps_ite | apply State.put_keeps | apply State.raise_keeps | apply State.sts_keeps

theorem State.brgApply_keeps (h : s0.Keeps s) (m : Nat) : s0.Keeps (s.brgApply m) := by
  unfold State.brgApply
  repeat' with_reducible first
      | assumption | apply State.keeps_ite | apply State.setBrg_keeps | apply State.modDest_keeps
      | apply State.raise_keeps | apply State.sts_keeps | apply State.brgBlend_keeps | apply State.keeps_foldl
      | apply State.keeps_foldl2 | apply State.keeps_getD | (intro t x ht)

theorem State.brgMapWritten_keeps (h : s0.Keeps s) : s0.Keeps (s.brgMapWritten) := by
  unfold State.brgMapWritten
  repeat' with_reducible first
      | assumption | apply State.keeps_ite | apply State.put_keeps | apply State.brgApply_keeps

theorem State.brgResume_keeps (h : s0.Keeps s) : s0.Keeps (s.brgResume) := by
  unfold State.brgResume
  repeat' with_reducible first
      | assumption | apply State.keeps_ite | apply State.brgApply_keeps | apply State.put_keeps

theorem State.brgDeliver_keeps (h : s0.Keeps s) (n : Nat) (uper : Nat) (upd : Bool) :
    s0.Keeps (s.brgDeliver n uper upd) := by
  unfold State.brgDeliver
  repeat' with_reducible first
      | assumption | apply State.keeps_ite | apply State.modDest_keeps | apply State.destDeliver_keeps
      | apply State.brgBlend_keeps | apply State.keeps_foldl | apply State.keeps_foldl2 | apply State.keeps_getD
      | (intro t x ht)

theorem State.bawMeasured_keeps (h : s0.Keeps s) (off : Int) : s0.Keeps (s.bawMeasured off) := by
  unfold State.bawMeasured
  repeat' with_reducible first
      | assumption | apply State.keeps_ite | apply State.put_keeps | apply State.wr_keeps

theorem State.apllOnNow_keeps (h : s0.Keeps s) (n : Nat) : s0.Keeps (s.apllOnNow n) := by
  unfold State.apllOnNow
  repeat' with_reducible first
      | assumption | apply State.keeps_ite | apply State.apllWord_keeps | apply State.modApll_keeps
      | apply State.wr_keeps | apply State.apllEvent_keeps

theorem State.phiDrop_keeps (h : s0.Keeps s) (n : Nat) : s0.Keeps (s.phiDrop n) := by
  unfold State.phiDrop
  repeat' with_reducible first
      | assumption | apply State.keeps_ite | apply State.setSync_keeps

theorem State.apllOffNow_keeps (h : s0.Keeps s) (n : Nat) : s0.Keeps (s.apllOffNow n) := by
  unfold State.apllOffNow
  repeat' with_reducible first
      | assumption | apply State.keeps_ite | apply State.phiDrop_keeps | apply State.modApll_keeps
      | apply State.put_keeps

theorem State.lolMessage_keeps (h : s0.Keeps s) (n : Nat) : s0.Keeps (s.lolMessage n) := by
  unfold State.lolMessage
  repeat' with_reducible first
      | assumption | apply State.keeps_ite | apply State.modApll_keeps | apply State.fault_keeps

theorem State.lolOwed_keeps (h : s0.Keeps s) : s0.Keeps (s.lolOwed) := by
  unfold State.lolOwed
  repeat' with_reducible first
      | assumption | apply State.keeps_ite | apply State.modApll_keeps | apply State.lolMessage_keeps
      | apply State.keeps_foldl | apply State.keeps_foldl2 | apply State.keeps_getD | (intro t x ht)

theorem State.accRecord_keeps (h : s0.Keeps s) (r : Req) (write : Bool) (a : Nat) (o : AccOut) :
    s0.Keeps (s.accRecord r write a o) := by
  unfold State.accRecord
  repeat' with_reducible first
      | assumption | apply State.keeps_ite | apply State.wr_keeps | apply State.put_keeps | apply State.sts_keeps
      | apply State.count_keeps | apply State.raise_keeps | apply State.fault_keeps | apply State.keeps_foldl
      | apply State.keeps_foldl2 | apply State.keeps_getD | (intro t x ht) | (intro t ht) | dsimp only
      | refine State.keeps_of_pair (by assumption) ?_ | refine State.keeps_of_triple (by assumption) ?_ | split

theorem State.lifeAdd_keeps (h : s0.Keeps s) (i : Nat) (n : Nat) : s0.Keeps (s.lifeAdd i n) := by
  unfold State.lifeAdd
  repeat' with_reducible first
      | assumption | apply State.keeps_ite | apply State.setHlth_keeps

theorem State.lifeCount_keeps (h : s0.Keeps s) (i : Nat) (n : Nat) : s0.Keeps (s.lifeCount i n) := by
  unfold State.lifeCount
  repeat' with_reducible first
      | assumption | apply State.keeps_ite | apply State.lifeAdd_keeps

theorem State.bivTrack_keeps (h : s0.Keeps s) (n : Nat) (inn : Bool) : s0.Keeps (s.bivTrack n inn) := by
  unfold State.bivTrack
  repeat' with_reducible first
      | assumption | apply State.keeps_ite | apply State.setHlth_keeps | apply State.lifeCount_keeps
      | apply State.keeps_foldl | apply State.keeps_foldl2 | apply State.keeps_getD | (intro t x ht) | (intro t ht)
      | dsimp only | refine State.keeps_of_pair (by assumption) ?_ | refine State.keeps_of_triple (by assumption) ?_
      | split

theorem State.dpllEvent_keeps (h : s0.Keeps s) (n : Nat) (e : Nat) : s0.Keeps (s.dpllEvent n e) := by
  unfold State.dpllEvent
  repeat' with_reducible first
      | assumption | apply State.keeps_ite | apply State.raise_keeps | apply State.sts_keeps

theorem State.setPsrem_keeps (h : s0.Keeps s) (n : Nat) (v : Int) : s0.Keeps (s.setPsrem n v) := by
  unfold State.setPsrem
  repeat' with_reducible first
      | assumption | apply State.keeps_ite | apply State.putPair_keeps

theorem State.setPhoff_keeps (h : s0.Keeps s) (n : Nat) (v : Int) : s0.Keeps (s.setPhoff n v) := by
  unfold State.setPhoff
  repeat' with_reducible first
      | assumption | apply State.keeps_ite | apply State.putPair_keeps

theorem State.setLock_keeps (h : s0.Keeps s) (n : Nat) (f : Bool) (p : Bool) : s0.Keeps (s.setLock n f p) := by
  unfold State.setLock
  repeat' with_reducible first
      | assumption | apply State.keeps_ite | apply State.learnCheck_keeps | apply State.dpllEvent_keeps
      | apply State.put_keeps

end Sys2Proof.Machine
end

