-- ==== Sys2Proof/Laws/KeepsOps2.lean ====
section
/-!
SUPPORT. Keeping the queue and the invariant (State.Keeps), one lemma per operation of Machine/, from State.lockRestart to
State.putSrvw; each rests on the lemmas before it.
-/

namespace Sys2Proof.Machine

variable {s0 s : State}

theorem State.lockRestart_keeps (h : s0.Keeps s) (n : Nat) : s0.Keeps (s.lockRestart n) := by
  unfold State.lockRestart
  repeat' with_reducible first
      | assumption | apply State.keeps_ite | apply State.modDpll_keeps | apply State.setLock_keeps

theorem State.plockUpdate_keeps (h : s0.Keeps s) (n : Nat) : s0.Keeps (s.plockUpdate n) := by
  unfold State.plockUpdate
  repeat' with_reducible first
      | assumption | apply State.keeps_ite | apply State.setLock_keeps | apply State.modDpll_keeps

theorem State.flockWindow_keeps (h : s0.Keeps s) (n : Nat) : s0.Keeps (s.flockWindow n) := by
  unfold State.flockWindow
  repeat' with_reducible first
      | assumption | apply State.keeps_ite | apply State.setLock_keeps | apply State.modDpll_keeps

theorem State.enterLoop_keeps (h : s0.Keeps s) (n : Nat) : s0.Keeps (s.enterLoop n) := by
  unfold State.enterLoop
  repeat' with_reducible first
      | assumption | apply State.keeps_ite | apply State.put_keeps | apply State.dpllEvent_keeps
      | apply State.lockRestart_keeps | apply State.learnCheck_keeps | apply State.bivTrack_keeps

theorem State.setDco_keeps (h : s0.Keeps s) (n : Nat) (v : Int) : s0.Keeps (s.setDco n v) := by
  unfold State.setDco
  repeat' with_reducible first
      | assumption | apply State.keeps_ite | apply State.putPair_keeps | apply State.modDpll_keeps

theorem State.settleMove_keeps (h : s0.Keeps s) (n : Nat) : s0.Keeps (s.settleMove n) := by
  unfold State.settleMove
  repeat' with_reducible first
      | assumption | apply State.keeps_ite | apply State.modDpll_keeps | apply State.setPhoff_keeps

theorem State.stepEnd_keeps (h : s0.Keeps s) (n : Nat) (cause : Nat) : s0.Keeps (s.stepEnd n cause) := by
  unfold State.stepEnd
  repeat' with_reducible first
      | assumption | apply State.keeps_ite | apply State.learnCheck_keeps | apply State.put_keeps
      | apply State.dpllEvent_keeps | apply State.setPsrem_keeps

theorem State.stepAbort_keeps (h : s0.Keeps s) (n : Nat) (cause : Nat) : s0.Keeps (s.stepAbort n cause) := by
  unfold State.stepAbort
  repeat' with_reducible first
      | assumption | apply State.keeps_ite | apply State.stepEnd_keeps

theorem State.dpllErr_keeps (h : s0.Keeps s) (n : Nat) : s0.Keeps (s.dpllErr n) := by
  unfold State.dpllErr
  repeat' with_reducible first
      | assumption | apply State.keeps_ite | apply State.putPair_keeps

theorem State.dpllCommits_keeps (h : s0.Keeps s) (n : Nat) : s0.Keeps (s.dpllCommits n) := by
  unfold State.dpllCommits
  repeat' with_reducible first
      | assumption | apply State.keeps_ite | apply State.modDpll_keeps | apply State.count_keeps

theorem State.dpllCommitted_keeps (h : s0.Keeps s) (n : Nat) : s0.Keeps (s.dpllCommitted n) := by
  unfold State.dpllCommitted
  repeat' with_reducible first
      | assumption | apply State.keeps_ite | apply State.modDpll_keeps

theorem State.dpllWordSet_keeps (h : s0.Keeps s) (n : Nat) (target : Int) (prog : Int) (m : Int) (fr : Nat) (v : Int) :
    s0.Keeps (s.dpllWordSet n target prog m fr v) := by
  unfold State.dpllWordSet
  repeat' with_reducible first
      | assumption | apply State.keeps_ite | apply State.setDco_keeps | apply State.setPsrem_keeps
      | apply State.modDpll_keeps

theorem State.dpllWord_keeps (h : s0.Keeps s) (n : Nat) (st : Nat) : s0.Keeps (s.dpllWord n st) := by
  unfold State.dpllWord
  repeat' with_reducible first
      | assumption | apply State.keeps_ite | apply State.dpllCommitted_keeps | apply State.sts_keeps
      | apply State.dpllWordSet_keeps

theorem State.tiedFollow_keeps (h : s0.Keeps s) : s0.Keeps (s.tiedFollow) := by
  unfold State.tiedFollow
  repeat' with_reducible first
      | assumption | apply State.keeps_ite | apply State.brgDeliver_keeps | apply State.setDco_keeps

theorem State.dpllUpdate_keeps (h : s0.Keeps s) (n : Nat) : s0.Keeps (s.dpllUpdate n) := by
  unfold State.dpllUpdate
  repeat' with_reducible first
      | assumption | apply State.keeps_ite | apply State.brgResume_keeps | apply State.brgDeliver_keeps
      | apply State.modDpll_keeps | apply State.setPhoff_keeps | apply State.count_keeps | apply State.dpllErr_keeps
      | apply State.enterLoop_keeps | apply State.dpllCommits_keeps | apply State.dpllWord_keeps
      | apply State.stepEnd_keeps | apply State.tiedFollow_keeps | apply State.pullRamp_keeps
      | apply State.estUpdate_keeps | apply State.plockUpdate_keeps | apply State.engPend_keeps

theorem State.dcowCommit_keeps (h : s0.Keeps s) (n : Nat) : s0.Keeps (s.dcowCommit n) := by
  unfold State.dcowCommit
  repeat' with_reducible first
      | assumption | apply State.keeps_ite | apply State.modDpll_keeps

theorem State.howordCommit_keeps (h : s0.Keeps s) (n : Nat) : s0.Keeps (s.howordCommit n) := by
  unfold State.howordCommit
  repeat' with_reducible first
      | assumption | apply State.keeps_ite | apply State.modDpll_keeps

theorem State.pstepRef_keeps (h : s0.Keeps s) (n : Nat) : s0.Keeps (s.pstepRef n) := by
  unfold State.pstepRef
  repeat' with_reducible first
      | assumption | apply State.keeps_ite | apply State.sts_keeps

theorem State.pstep_keeps (h : s0.Keeps s) (n : Nat) (a : Int) : s0.Keeps (s.pstep n a) := by
  unfold State.pstep
  repeat' with_reducible first
      | assumption | apply State.keeps_ite | apply State.stepEnd_keeps | apply State.learnCheck_keeps
      | apply State.setPsrem_keeps

theorem State.dpllEnabled_keeps (h : s0.Keeps s) (n : Nat) : s0.Keeps (s.dpllEnabled n) := by
  unfold State.dpllEnabled
  repeat' with_reducible first
      | assumption | apply State.keeps_ite | apply State.wr_keeps | apply State.putPair_keeps
      | apply State.setPsrem_keeps | apply State.setPhoff_keeps | apply State.lockRestart_keeps
      | apply State.modDpll_keeps | apply State.enterLoop_keeps | apply State.estClear_keeps

theorem State.dpllDisabled_keeps (h : s0.Keeps s) (n : Nat) : s0.Keeps (s.dpllDisabled n) := by
  unfold State.dpllDisabled
  repeat' with_reducible first
      | assumption | apply State.keeps_ite | apply State.modDpll_keeps | apply State.stepAbort_keeps
      | apply State.settleMove_keeps | apply State.estClear_keeps | apply State.putPair_keeps
      | apply State.enterLoop_keeps

theorem State.freeze_keeps (h : s0.Keeps s) (n : Nat) : s0.Keeps (s.freeze n) := by
  unfold State.freeze
  repeat' with_reducible first
      | assumption | apply State.keeps_ite | apply State.modDpll_keeps | apply State.stepAbort_keeps
      | apply State.settleMove_keeps | apply State.brgDeliver_keeps | apply State.setDco_keeps
      | apply State.enterLoop_keeps | apply State.putSelF_keeps

theorem State.unfreeze_keeps (h : s0.Keeps s) (n : Nat) : s0.Keeps (s.unfreeze n) := by
  unfold State.unfreeze
  repeat' with_reducible first
      | assumption | apply State.keeps_ite | apply State.modDpll_keeps | apply State.selEval_keeps
      | apply State.selTrigger_keeps | apply State.putSelF_keeps | apply State.enterLoop_keeps

theorem State.tiedSet_keeps (h : s0.Keeps s) : s0.Keeps (s.tiedSet) := by
  unfold State.tiedSet
  repeat' with_reducible first
      | assumption | apply State.keeps_ite | apply State.putSelF_keeps

theorem State.tiedCleared_keeps (h : s0.Keeps s) : s0.Keeps (s.tiedCleared) := by
  unfold State.tiedCleared
  repeat' with_reducible first
      | assumption | apply State.keeps_ite | apply State.modDpll_keeps | apply State.putPair_keeps
      | apply State.selEval_keeps | apply State.selTrigger_keeps | apply State.putSelF_keeps

theorem State.lpstatWritten_keeps (h : s0.Keeps s) (n : Nat) (old : Nat) : s0.Keeps (s.lpstatWritten n old) := by
  unfold State.lpstatWritten
  repeat' with_reducible first
      | assumption | apply State.keeps_ite | apply State.dpllEvent_keeps

theorem State.modSr_keeps (h : s0.Keeps s) (g : Nat) (f : SrSt → SrSt) : s0.Keeps (s.modSr g f) := by
  unfold State.modSr
  repeat' with_reducible first
      | assumption | apply State.keeps_ite | apply State.setSync_keeps

theorem State.reformInst_keeps (h : s0.Keeps s) (kind : Nat) (i : Nat) : s0.Keeps (s.reformInst kind i) := by
  unfold State.reformInst
  repeat' with_reducible first
      | assumption | apply State.keeps_ite | apply State.setKnots_keeps

theorem State.outEvent_keeps (h : s0.Keeps s) (n : Nat) (b : Nat) : s0.Keeps (s.outEvent n b) := by
  unfold State.outEvent
  repeat' with_reducible first
      | assumption | apply State.keeps_ite | apply State.raise_keeps | apply State.sts_keeps

theorem State.outRetarget_keeps (h : s0.Keeps s) (n : Nat) : s0.Keeps (s.outRetarget n) := by
  unfold State.outRetarget
  repeat' with_reducible first
      | assumption | apply State.keeps_ite | apply State.put_keeps | apply State.outEvent_keeps

theorem State.fretJump_keeps (h : s0.Keeps s) (n : Nat) : s0.Keeps (s.fretJump n) := by
  unfold State.fretJump
  repeat' with_reducible first
      | assumption | apply State.keeps_ite | apply State.modOut_keeps | apply State.put_keeps

theorem State.fretStep_keeps (h : s0.Keeps s) (n : Nat) (a : Nat) : s0.Keeps (s.fretStep n a) := by
  unfold State.fretStep
  repeat' with_reducible first
      | assumption | apply State.keeps_ite | apply State.modOut_keeps | apply State.put_keeps

theorem State.tapMove_keeps (h : s0.Keeps s) (n : Nat) : s0.Keeps (s.tapMove n) := by
  unfold State.tapMove
  repeat' with_reducible first
      | assumption | apply State.keeps_ite | apply State.modOut_keeps

theorem State.coarseNow_keeps (h : s0.Keeps s) (n : Nat) : s0.Keeps (s.coarseNow n) := by
  unfold State.coarseNow
  repeat' with_reducible first
      | assumption | apply State.keeps_ite | apply State.put_keeps

theorem State.drvDetect_keeps (h : s0.Keeps s) (n : Nat) : s0.Keeps (s.drvDetect n) := by
  unfold State.drvDetect
  repeat' with_reducible first
      | assumption | apply State.keeps_ite | apply State.fault_keeps | apply State.modOut_keeps
      | apply State.outEvent_keeps | apply State.count_keeps | apply State.put_keeps

theorem State.drvUnmask_keeps (h : s0.Keeps s) (n : Nat) : s0.Keeps (s.drvUnmask n) := by
  unfold State.drvUnmask
  repeat' with_reducible first
      | assumption | apply State.keeps_ite | apply State.drvDetect_keeps

theorem State.outSafe_keeps (h : s0.Keeps s) (n : Nat) (a : Nat) : s0.Keeps (s.outSafe n a) := by
  unfold State.outSafe
  repeat' with_reducible first
      | assumption | apply State.keeps_ite | apply State.outEvent_keeps | apply State.put_keeps
      | apply State.modOut_keeps

theorem State.outStart_keeps (h : s0.Keeps s) (n : Nat) : s0.Keeps (s.outStart n) := by
  unfold State.outStart
  repeat' with_reducible first
      | assumption | apply State.keeps_ite | apply State.keeps_ite2 | apply State.keeps_ite3
      | apply State.takeFree_keeps | apply State.modOut_keeps | apply State.put_keeps | apply State.fretJump_keeps
      | apply State.coarseNow_keeps | apply State.drvUnmask_keeps | apply State.outSafe_keeps
      | apply State.outEvent_keeps | apply State.keeps_foldl | apply State.keeps_foldl2 | apply State.keeps_getD
      | (intro t x ht) | (intro t ht) | dsimp only | refine State.keeps_of_pair (by assumption) ?_
      | refine State.keeps_of_triple (by assumption) ?_ | split

theorem State.outEnabled_keeps (h : s0.Keeps s) (n : Nat) : s0.Keeps (s.outEnabled n) := by
  unfold State.outEnabled
  repeat' with_reducible first
      | assumption | apply State.keeps_ite | apply State.put_keeps | apply State.outStart_keeps

theorem State.outRest_keeps (h : s0.Keeps s) (n : Nat) : s0.Keeps (s.outRest n) := by
  unfold State.outRest
  repeat' with_reducible first
      | assumption | apply State.keeps_ite | apply State.put_keeps

theorem State.outFinish_keeps (h : s0.Keeps s) (n : Nat) : s0.Keeps (s.outFinish n) := by
  unfold State.outFinish
  repeat' with_reducible first
      | assumption | apply State.keeps_ite | apply State.outEvent_keeps | apply State.modOut_keeps
      | apply State.put_keeps | apply State.outRest_keeps

theorem State.outDisabled_keeps (h : s0.Keeps s) (n : Nat) : s0.Keeps (s.outDisabled n) := by
  unfold State.outDisabled
  repeat' with_reducible first
      | assumption | apply State.keeps_ite | apply State.outFinish_keeps | apply State.put_keeps

theorem State.outCtlWritten_keeps (h : s0.Keeps s) (n : Nat) (old : Nat) : s0.Keeps (s.outCtlWritten n old) := by
  unfold State.outCtlWritten
  repeat' with_reducible first
      | assumption | apply State.keeps_ite | apply State.outEnabled_keeps | apply State.outFinish_keeps
      | apply State.outDisabled_keeps | apply State.outRest_keeps

theorem State.outSafeCommand_keeps (h : s0.Keeps s) (n : Nat) : s0.Keeps (s.outSafeCommand n) := by
  unfold State.outSafeCommand
  repeat' with_reducible first
      | assumption | apply State.keeps_ite | apply State.modOut_keeps

theorem State.outSafeEnd_keeps (h : s0.Keeps s) (n : Nat) : s0.Keeps (s.outSafeEnd n) := by
  unfold State.outSafeEnd
  repeat' with_reducible first
      | assumption | apply State.keeps_ite | apply State.modOut_keeps | apply State.put_keeps

theorem State.outUngate_keeps (h : s0.Keeps s) (n : Nat) : s0.Keeps (s.outUngate n) := by
  unfold State.outUngate
  repeat' with_reducible first
      | assumption | apply State.keeps_ite | apply State.coarseNow_keeps | apply State.drvUnmask_keeps
      | apply State.outEvent_keeps | apply State.modOut_keeps | apply State.put_keeps | apply State.fretJump_keeps

theorem State.outResume_keeps (h : s0.Keeps s) (n : Nat) : s0.Keeps (s.outResume n) := by
  unfold State.outResume
  repeat' with_reducible first
      | assumption | apply State.keeps_ite | apply State.modOut_keeps | apply State.outUngate_keeps

theorem State.outTurn_keeps (h : s0.Keeps s) (n : Nat) : s0.Keeps (s.outTurn n) := by
  unfold State.outTurn
  repeat' with_reducible first
      | assumption | apply State.keeps_ite | apply State.outFinish_keeps | apply State.outUngate_keeps

theorem State.outTick_keeps (h : s0.Keeps s) : s0.Keeps (s.outTick) := by
  unfold State.outTick
  repeat' with_reducible first
      | assumption | apply State.keeps_ite | apply State.outTurn_keeps | apply State.keeps_foldl
      | apply State.keeps_foldl2 | apply State.keeps_getD | (intro t x ht)

theorem State.outFire_keeps (h : s0.Keeps s) (n : Nat) (t : Nat) : s0.Keeps (s.outFire n t) := by
  unfold State.outFire
  repeat' with_reducible first
      | assumption | apply State.keeps_ite | apply State.outEvent_keeps | apply State.modOut_keeps
      | apply State.keeps_foldl | apply State.keeps_foldl2 | apply State.keeps_getD | (intro t x ht) | (intro t ht)
      | dsimp only | refine State.keeps_of_pair (by assumption) ?_ | refine State.keeps_of_triple (by assumption) ?_
      | split

theorem State.outFireAll_keeps (h : s0.Keeps s) (g : Nat) (t : Nat) : s0.Keeps (s.outFireAll g t) := by
  unfold State.outFireAll
  repeat' with_reducible first
      | assumption | apply State.keeps_ite | apply State.outFire_keeps | apply State.keeps_foldl
      | apply State.keeps_foldl2 | apply State.keeps_getD | (intro t x ht)

theorem State.outPhaseReset_keeps (h : s0.Keeps s) (n : Nat) (e : Int) (ts : Int) :
    s0.Keeps (s.outPhaseReset n e ts) := by
  unfold State.outPhaseReset
  repeat' with_reducible first
      | assumption | apply State.keeps_ite | apply State.modOut_keeps | apply State.put_keeps
      | apply State.coarseNow_keeps | apply State.fretJump_keeps

theorem State.glEvent_keeps (h : s0.Keeps s) (b : Nat) : s0.Keeps (s.glEvent b) := by
  unfold State.glEvent
  repeat' with_reducible first
      | assumption | apply State.keeps_ite | apply State.raise_keeps | apply State.sts_keeps

theorem State.glNextSeq_keeps (h : s0.Keeps s) (cls : Nat) : s0.Keeps (s.glNextSeq cls) := by
  unfold State.glNextSeq
  repeat' with_reducible first
      | assumption | apply State.keeps_ite | apply State.setGl_keeps

theorem State.glQueue_keeps (h : s0.Keeps s) (x : GlTx) : s0.Keeps (s.glQueue x) := by
  unfold State.glQueue
  repeat' with_reducible first
      | assumption | apply State.keeps_ite | apply State.setGl_keeps

theorem State.glEmit_keeps (h : s0.Keeps s) (p : Nat) (cls : Nat) (bcast : Bool) (dst : Nat) (payload : List Byte) :
    s0.Keeps (s.glEmit p cls bcast dst payload) := by
  unfold State.glEmit
  repeat' with_reducible first
      | assumption | apply State.keeps_ite | apply State.glQueue_keeps

theorem State.glSend_keeps (h : s0.Keeps s) (p : Nat) (cls : Nat) (dst : Nat) (payload : List Byte) :
    s0.Keeps (s.glSend p cls dst payload) := by
  unfold State.glSend
  repeat' with_reducible first
      | assumption | apply State.keeps_ite | apply State.glNextSeq_keeps | apply State.glEmit_keeps

theorem State.glBroadcast_keeps (h : s0.Keeps s) (cls : Nat) (payload : List Byte) :
    s0.Keeps (s.glBroadcast cls payload) := by
  unfold State.glBroadcast
  repeat' with_reducible first
      | assumption | apply State.keeps_ite | apply State.glNextSeq_keeps | apply State.glEmit_keeps

theorem State.glTiming_keeps (h : s0.Keeps s) (cls : Nat) (payload : List Byte) :
    s0.Keeps (s.glTiming cls payload).2 := by
  unfold State.glTiming
  repeat' with_reducible first
      | assumption | apply State.keeps_ite | apply State.keeps_ite2 | apply State.keeps_ite3
      | apply State.glBroadcast_keeps | apply State.setGl_keeps | apply State.glEvent_keeps | apply State.count_keeps

theorem State.glDrain_keeps (h : s0.Keeps s) : s0.Keeps (s.glDrain) := by
  unfold State.glDrain
  repeat' with_reducible first
      | assumption | apply State.keeps_ite | apply State.glBroadcast_keeps | apply State.setGl_keeps
      | apply State.keeps_foldl | apply State.keeps_foldl2 | apply State.keeps_getD | (intro t x ht) | (intro t ht)
      | dsimp only | refine State.keeps_of_pair (by assumption) ?_ | refine State.keeps_of_triple (by assumption) ?_
      | split

theorem State.glForwardFault_keeps (h : s0.Keeps s) (kind : Nat) (record : Nat) :
    s0.Keeps (s.glForwardFault kind record) := by
  unfold State.glForwardFault
  repeat' with_reducible first
      | assumption | apply State.keeps_ite | apply State.glBroadcast_keeps

theorem State.glInsert_keeps (h : s0.Keeps s) (m : Nat) (q : Nat) (e : BitVec 256) : s0.Keeps (s.glInsert m q e) := by
  unfold State.glInsert
  repeat' with_reducible first
      | assumption | apply State.keeps_ite | apply State.setGl_keeps

theorem State.syncEvent_keeps (h : s0.Keeps s) (bit : Nat) (g : Nat) : s0.Keeps (s.syncEvent bit g) := by
  unfold State.syncEvent
  repeat' with_reducible first
      | assumption | apply State.keeps_ite | apply State.raise_keeps | apply State.sts_keeps

theorem State.syncPhase_keeps (h : s0.Keeps s) (n : Nat) (raw : Int) : s0.Keeps (s.syncPhase n raw) := by
  unfold State.syncPhase
  repeat' with_reducible first
      | assumption | apply State.keeps_ite | apply State.setSync_keeps

theorem State.trimWatch_keeps (h : s0.Keeps s) (n : Nat) : s0.Keeps (s.trimWatch n) := by
  unfold State.trimWatch
  repeat' with_reducible first
      | assumption | apply State.keeps_ite | apply State.setSync_keeps

theorem State.trim_keeps (h : s0.Keeps s) (n : Nat) : s0.Keeps (s.trim n) := by
  unfold State.trim
  repeat' with_reducible first
      | assumption | apply State.keeps_ite | apply State.syncEvent_keeps | apply State.pstepRef_keeps
      | apply State.put_keeps | apply State.pstep_keeps | apply State.keeps_foldl | apply State.keeps_foldl2
      | apply State.keeps_getD | (intro t x ht) | (intro t ht) | dsimp only
      | refine State.keeps_of_pair (by assumption) ?_ | refine State.keeps_of_triple (by assumption) ?_ | split

theorem State.syncSet_keeps (h : s0.Keeps s) (trig : Nat) (ring : Bool) (t : Option Nat) :
    s0.Keeps (s.syncSet trig ring t) := by
  unfold State.syncSet
  repeat' with_reducible first
      | assumption | apply State.keeps_ite | apply State.setSync_keeps | apply State.wr_keeps

theorem State.syncClear_keeps (h : s0.Keeps s) : s0.Keeps (s.syncClear) := by
  unfold State.syncClear
  repeat' with_reducible first
      | assumption | apply State.keeps_ite | apply State.setSync_keeps | apply State.wr_keeps

theorem State.syncLate_keeps (h : s0.Keeps s) : s0.Keeps (s.syncLate) := by
  unfold State.syncLate
  repeat' with_reducible first
      | assumption | apply State.keeps_ite | apply State.syncEvent_keeps

theorem State.syncArmRef_keeps (h : s0.Keeps s) : s0.Keeps (s.syncArmRef) := by
  unfold State.syncArmRef
  repeat' with_reducible first
      | assumption | apply State.keeps_ite | apply State.syncEvent_keeps

theorem State.srLate_keeps (h : s0.Keeps s) : s0.Keeps (s.srLate) := by
  unfold State.srLate
  repeat' with_reducible first
      | assumption | apply State.keeps_ite | apply State.syncEvent_keeps

theorem State.srTell_keeps (h : s0.Keeps s) (g : Nat) (t : Nat) : s0.Keeps (s.srTell g t) := by
  unfold State.srTell
  repeat' with_reducible first
      | assumption | apply State.keeps_ite | apply State.keeps_ite2 | apply State.keeps_ite3
      | apply State.glTiming_keeps | apply State.modSr_keeps | apply State.srLate_keeps

theorem State.srTellAll_keeps (h : s0.Keeps s) (t : Nat) : s0.Keeps (s.srTellAll t) := by
  unfold State.srTellAll
  repeat' with_reducible first
      | assumption | apply State.keeps_ite | apply State.srTell_keeps | apply State.keeps_foldl
      | apply State.keeps_foldl2 | apply State.keeps_getD | (intro t x ht)

theorem State.syncArm_keeps (h : s0.Keeps s) (trig : Nat) (rb : Bool) : s0.Keeps (s.syncArm trig rb) := by
  unfold State.syncArm
  repeat' with_reducible first
      | assumption | apply State.keeps_ite | apply State.keeps_ite2 | apply State.keeps_ite3
      | apply State.syncArmRef_keeps | apply State.syncSet_keeps | apply State.srTellAll_keeps
      | apply State.syncLate_keeps | apply State.glTiming_keeps

theorem State.syncRingArm_keeps (h : s0.Keeps s) (t : Nat) : s0.Keeps (s.syncRingArm t) := by
  unfold State.syncRingArm
  repeat' with_reducible first
      | assumption | apply State.keeps_ite | apply State.syncArmRef_keeps | apply State.syncLate_keeps
      | apply State.syncSet_keeps

theorem State.syncDisarm_keeps (h : s0.Keeps s) : s0.Keeps (s.syncDisarm) := by
  unfold State.syncDisarm
  repeat' with_reducible first
      | assumption | apply State.keeps_ite | apply State.syncClear_keeps

theorem State.syncPlace_keeps (h : s0.Keeps s) : s0.Keeps (s.syncPlace) := by
  unfold State.syncPlace
  repeat' with_reducible first
      | assumption | apply State.keeps_ite | apply State.setSync_keeps | apply State.put_keeps
      | apply State.modSr_keeps | apply State.keeps_foldl | apply State.keeps_foldl2 | apply State.keeps_getD
      | (intro t x ht) | (intro t ht) | dsimp only | refine State.keeps_of_pair (by assumption) ?_
      | refine State.keeps_of_triple (by assumption) ?_ | split

theorem State.syncReset_keeps (h : s0.Keeps s) (t : Nat) (c : Nat) : s0.Keeps (s.syncReset t c) := by
  unfold State.syncReset
  repeat' with_reducible first
      | assumption | apply State.keeps_ite | apply State.outPhaseReset_keeps | apply State.putInstant_keeps
      | apply State.putPair_keeps | apply State.put_keeps | apply State.syncEvent_keeps | apply State.syncSet_keeps
      | apply State.syncClear_keeps | apply State.keeps_foldl | apply State.keeps_foldl2 | apply State.keeps_getD
      | (intro t x ht)

theorem State.syncPin_keeps (h : s0.Keeps s) (t : Nat) : s0.Keeps (s.syncPin t) := by
  unfold State.syncPin
  repeat' with_reducible first
      | assumption | apply State.keeps_ite | apply State.count_keeps | apply State.srTellAll_keeps
      | apply State.setSync_keeps | apply State.srTell_keeps | apply State.modSr_keeps | apply State.syncEvent_keeps
      | apply State.keeps_foldl | apply State.keeps_foldl2 | apply State.keeps_getD | (intro t x ht)

theorem State.putSrst_keeps (h : s0.Keeps s) (g : Nat) (st : Nat) (passed : Nat) :
    s0.Keeps (s.putSrst g st passed) := by
  unfold State.putSrst
  repeat' with_reducible first
      | assumption | apply State.keeps_ite | apply State.wr_keeps

theorem State.srArm_keeps (h : s0.Keeps s) (g : Nat) (start : Nat) (ts : Option Nat) (rb : Bool) :
    s0.Keeps (s.srArm g start ts rb) := by
  unfold State.srArm
  repeat' with_reducible first
      | assumption | apply State.keeps_ite | apply State.modSr_keeps | apply State.putSrst_keeps

theorem State.srStart_keeps (h : s0.Keeps s) (g : Nat) (rb : Bool) : s0.Keeps (s.srStart g rb) := by
  unfold State.srStart
  repeat' with_reducible first
      | assumption | apply State.keeps_ite | apply State.keeps_ite2 | apply State.keeps_ite3
      | apply State.srLate_keeps | apply State.glTiming_keeps | apply State.srArm_keeps | apply State.keeps_foldl
      | apply State.keeps_foldl2 | apply State.keeps_getD | (intro t x ht) | (intro t ht) | dsimp only
      | refine State.keeps_of_pair (by assumption) ?_ | refine State.keeps_of_triple (by assumption) ?_ | split

theorem State.srRingStart_keeps (h : s0.Keeps s) (g : Nat) (t : Nat) : s0.Keeps (s.srRingStart g t) := by
  unfold State.srRingStart
  repeat' with_reducible first
      | assumption | apply State.keeps_ite | apply State.srLate_keeps | apply State.srArm_keeps

theorem State.srOpen_keeps (h : s0.Keeps s) (g : Nat) : s0.Keeps (s.srOpen g) := by
  unfold State.srOpen
  repeat' with_reducible first
      | assumption | apply State.keeps_ite | apply State.modOut_keeps | apply State.putSrst_keeps
      | apply State.keeps_foldl | apply State.keeps_foldl2 | apply State.keeps_getD | (intro t x ht)

theorem State.srClose_keeps (h : s0.Keeps s) (g : Nat) (passed : Nat) : s0.Keeps (s.srClose g passed) := by
  unfold State.srClose
  repeat' with_reducible first
      | assumption | apply State.keeps_ite | apply State.modOut_keeps | apply State.syncEvent_keeps
      | apply State.modSr_keeps | apply State.putSrst_keeps | apply State.keeps_foldl | apply State.keeps_foldl2
      | apply State.keeps_getD | (intro t x ht)

theorem State.srStop_keeps (h : s0.Keeps s) (g : Nat) : s0.Keeps (s.srStop g) := by
  unfold State.srStop
  repeat' with_reducible first
      | assumption | apply State.keeps_ite | apply State.srClose_keeps | apply State.modOut_keeps
      | apply State.put_keeps | apply State.keeps_foldl | apply State.keeps_foldl2 | apply State.keeps_getD
      | (intro t x ht)

theorem State.srTick_keeps (h : s0.Keeps s) : s0.Keeps (s.srTick) := by
  unfold State.srTick
  repeat' with_reducible first
      | assumption | apply State.keeps_ite | apply State.srClose_keeps | apply State.keeps_foldl
      | apply State.keeps_foldl2 | apply State.keeps_getD | (intro t x ht)

theorem State.srDrop_keeps (h : s0.Keeps s) (g : Nat) : s0.Keeps (s.srDrop g) := by
  unfold State.srDrop
  repeat' with_reducible first
      | assumption | apply State.keeps_ite | apply State.modOut_keeps | apply State.keeps_foldl
      | apply State.keeps_foldl2 | apply State.keeps_getD | (intro t x ht)

theorem State.syncCtlWritten_keeps (h : s0.Keeps s) (old : Nat) : s0.Keeps (s.syncCtlWritten old) := by
  unfold State.syncCtlWritten
  repeat' with_reducible first
      | assumption | apply State.keeps_ite | apply State.put_keeps | apply State.srStop_keeps
      | apply State.syncClear_keeps | apply State.keeps_foldl | apply State.keeps_foldl2 | apply State.keeps_getD
      | (intro t x ht)

theorem State.syncCmd_keeps (h : s0.Keeps s) (v : Nat) : s0.Keeps (s.syncCmd v) := by
  unfold State.syncCmd
  repeat' with_reducible first
      | assumption | apply State.keeps_ite | apply State.syncArm_keeps | apply State.syncDisarm_keeps

theorem State.srCmd_keeps (h : s0.Keeps s) (g : Nat) (v : Nat) : s0.Keeps (s.srCmd g v) := by
  unfold State.srCmd
  repeat' with_reducible first
      | assumption | apply State.keeps_ite | apply State.srStart_keeps | apply State.srStop_keeps

theorem State.modGen_keeps (h : s0.Keeps s) (g : Nat) (f : GenSt → GenSt) : s0.Keeps (s.modGen g f) := by
  unfold State.modGen
  repeat' with_reducible first
      | assumption | apply State.keeps_ite | apply State.setTev_keeps

theorem State.tevEvent_keeps (h : s0.Keeps s) (g : Nat) (e : Nat) : s0.Keeps (s.tevEvent g e) := by
  unfold State.tevEvent
  repeat' with_reducible first
      | assumption | apply State.keeps_ite | apply State.raise_keeps | apply State.put_keeps | apply State.sts_keeps

theorem State.snapTrigger_keeps (h : s0.Keeps s) (cause : Nat) : s0.Keeps (s.snapTrigger cause) := by
  unfold State.snapTrigger
  repeat' with_reducible first
      | assumption | apply State.keeps_ite | apply State.setTev_keeps

theorem State.pinPulse_keeps (h : s0.Keeps s) (p : Nat) (width : Nat) : s0.Keeps (s.pinPulse p width) := by
  unfold State.pinPulse
  repeat' with_reducible first
      | assumption | apply State.keeps_ite | apply State.setTev_keeps | apply State.sts_keeps

theorem State.tevFire_keeps (h : s0.Keeps s) (g : Nat) (late : Bool) (replay : Bool) :
    s0.Keeps (s.tevFire g late replay) := by
  unfold State.tevFire
  repeat' with_reducible first
      | assumption | apply State.keeps_ite | apply State.raise_keeps | apply State.count_keeps
      | apply State.putPair_keeps | apply State.putInstant_keeps | apply State.modGen_keeps
      | apply State.pinPulse_keeps | apply State.outFireAll_keeps | apply State.snapTrigger_keeps
      | apply State.qPutBlock_keeps | apply State.setTev_keeps | apply State.keeps_foldl | apply State.keeps_foldl2
      | apply State.keeps_getD | (intro t x ht)

theorem State.tevDue_keeps (h : s0.Keeps s) (g : Nat) : s0.Keeps (s.tevDue g) := by
  unfold State.tevDue
  repeat' with_reducible first
      | assumption | apply State.keeps_ite | apply State.tevFire_keeps | apply State.tevEvent_keeps
      | apply State.modGen_keeps

theorem State.tevReanchor_keeps (h : s0.Keeps s) (g : Nat) : s0.Keeps (s.tevReanchor g) := by
  unfold State.tevReanchor
  repeat' with_reducible first
      | assumption | apply State.keeps_ite | apply State.tevEvent_keeps | apply State.tevFire_keeps
      | apply State.modGen_keeps | apply State.wr_keeps

theorem State.tevSet_keeps (h : s0.Keeps s) (g : Nat) (t0 : Nat) : s0.Keeps (s.tevSet g t0) := by
  unfold State.tevSet
  repeat' with_reducible first
      | assumption | apply State.keeps_ite | apply State.modGen_keeps

theorem State.tevArm_keeps (h : s0.Keeps s) (g : Nat) (rb : Bool) : s0.Keeps (s.tevArm g rb) := by
  unfold State.tevArm
  repeat' with_reducible first
      | assumption | apply State.keeps_ite | apply State.keeps_ite2 | apply State.keeps_ite3
      | apply State.tevEvent_keeps | apply State.glTiming_keeps | apply State.tevSet_keeps

theorem State.tevRingArm_keeps (h : s0.Keeps s) (g : Nat) (t : Nat) : s0.Keeps (s.tevRingArm g t) := by
  unfold State.tevRingArm
  repeat' with_reducible first
      | assumption | apply State.keeps_ite | apply State.tevEvent_keeps | apply State.tevSet_keeps

theorem State.tevDisarm_keeps (h : s0.Keeps s) (g : Nat) : s0.Keeps (s.tevDisarm g) := by
  unfold State.tevDisarm
  repeat' with_reducible first
      | assumption | apply State.keeps_ite | apply State.modGen_keeps

theorem State.tevCmd_keeps (h : s0.Keeps s) (g : Nat) (v : Nat) : s0.Keeps (s.tevCmd g v) := by
  unfold State.tevCmd
  repeat' with_reducible first
      | assumption | apply State.keeps_ite | apply State.tevDisarm_keeps | apply State.tevArm_keeps

theorem State.tevDisarmAll_keeps (h : s0.Keeps s) : s0.Keeps (s.tevDisarmAll) := by
  unfold State.tevDisarmAll
  repeat' with_reducible first
      | assumption | apply State.keeps_ite | apply State.tevDisarm_keeps | apply State.keeps_foldl
      | apply State.keeps_foldl2 | apply State.keeps_getD | (intro t x ht)

theorem State.tevStop_keeps (h : s0.Keeps s) : s0.Keeps (s.tevStop) := by
  unfold State.tevStop
  repeat' with_reducible first
      | assumption | apply State.keeps_ite | apply State.tevDisarmAll_keeps | apply State.setTev_keeps

theorem State.convertInstants_keeps (h : s0.Keeps s) (old : Bool) (new : Bool) :
    s0.Keeps (s.convertInstants old new) := by
  unfold State.convertInstants
  repeat' with_reducible first
      | assumption | apply State.keeps_ite | apply State.putTriple_keeps | apply State.keeps_foldl
      | apply State.keeps_foldl2 | apply State.keeps_getD | (intro t x ht)

theorem State.tbModeEffect_keeps (h : s0.Keeps s) (ring : Bool) : s0.Keeps (s.tbModeEffect ring) := by
  unfold State.tbModeEffect
  dsimp only
  split
  · exact h
  split
  · apply State.raise_keeps
    apply State.sts_keeps
    apply State.convertInstants_keeps
    exact State.setTb_keeps h _ (fun hx => ⟨hx.1, hx.2.1, hx.2.2⟩)
  split
  · apply State.raise_keeps
    apply State.sts_keeps
    exact State.put_keeps h _ _ _
  · next hn =>
    apply State.raise_keeps
    apply State.sts_keeps
    apply State.convertInstants_keeps
    refine State.setTb_keeps h _ (fun hx => ⟨hx.1, hx.2.1, ?_⟩)
    unfold stdWrap
    dsimp only
    omega

theorem State.tbStepped_keeps (h : s0.Keeps s) (amount : Int) (epoch : Nat) : s0.Keeps (s.tbStepped amount epoch) := by
  unfold State.tbStepped
  repeat' with_reducible first
      | assumption | apply State.keeps_ite | apply State.raise_keeps | apply State.sts_keeps
      | apply State.putTriple_keeps | apply State.setTb_keeps | apply State.tevReanchor_keeps
      | with_unfolding_all exact id | apply State.keeps_foldl | apply State.keeps_foldl2 | apply State.keeps_getD
      | (intro t x ht)

theorem State.glStep_keeps (h : s0.Keeps s) (amount : Int) : s0.Keeps (s.glStep amount) := by
  unfold State.glStep
  repeat' with_reducible first
      | assumption | apply State.keeps_ite | apply State.keeps_ite2 | apply State.keeps_ite3
      | apply State.glTiming_keeps

theorem State.tbStepEffect_keeps (h : s0.Keeps s) (amount : Int) : s0.Keeps (s.tbStepEffect amount) := by
  have hm := TbSt.move_ok s.tb amount
  have hx (b : Option Nat) : s0.Keeps (s.setTb { s.tb.move amount with backarm := b }) :=
    State.setTb_keeps h _ (fun ht => ⟨(hm ht).1, (hm ht).2⟩)
  unfold State.tbStepEffect
  split
  · exact h
  · split
    · exact State.raise_keeps (State.put_keeps (State.sts_keeps h _ _ _) _ _ _) _ _
    · exact State.glStep_keeps (State.tbStepped_keeps (hx _) _ _) _

theorem State.tbBacken_keeps (h : s0.Keeps s) {v : Nat} {t : State} (e : State.tbBacken s v = some t) :
    s0.Keeps t := by
  unfold State.tbBacken at e
  repeat' first | (split at e) | (injection e with e; subst e) | contradiction
  all_goals
    repeat' with_reducible first
        | assumption | apply State.keeps_ite | apply State.keeps_ite2 | apply State.keeps_ite3
        | apply State.setTb_keeps | with_unfolding_all exact id

theorem State.tbResync_keeps (h : s0.Keeps s) : s0.Keeps (s.tbResync) := by
  unfold State.tbResync
  repeat' with_reducible first
      | assumption | apply State.keeps_ite | apply State.setTb_keeps | with_unfolding_all exact id

theorem State.tbSoftReset_keeps (h : s0.Keeps s) : s0.Keeps (s.tbSoftReset) := by
  unfold State.tbSoftReset
  repeat' with_reducible first
      | assumption | apply State.keeps_ite | apply State.setTb_keeps | with_unfolding_all exact id

theorem State.modCap_keeps (h : s0.Keeps s) (p : Nat) (f : CapSt → CapSt) : s0.Keeps (s.modCap p f) := by
  unfold State.modCap
  repeat' with_reducible first
      | assumption | apply State.keeps_ite | apply State.setTev_keeps

theorem State.capture_keeps (h : s0.Keeps s) (p : Nat) (c : Nat) (t : Nat) (falling : Bool) :
    s0.Keeps (s.capture p c t falling) := by
  unfold State.capture
  repeat' with_reducible first
      | assumption | apply State.keeps_ite | apply State.raise_keeps | apply State.sts_keeps | apply State.count_keeps
      | apply State.modCap_keeps | apply State.wr_keeps | apply State.putInstant_keeps

theorem State.capDrain_keeps (h : s0.Keeps s) : s0.Keeps (s.capDrain) := by
  unfold State.capDrain
  repeat' with_reducible first
      | assumption | apply State.keeps_ite | apply State.modCap_keeps | apply State.qPutBlock_keeps
      | apply State.setTev_keeps | apply State.keeps_foldl | apply State.keeps_foldl2 | apply State.keeps_getD
      | (intro t x ht) | (intro t ht) | dsimp only | refine State.keeps_of_pair (by assumption) ?_
      | refine State.keeps_of_triple (by assumption) ?_ | split

theorem State.snapRelease_keeps (h : s0.Keeps s) : s0.Keeps (s.snapRelease) := by
  unfold State.snapRelease
  repeat' with_reducible first
      | assumption | apply State.keeps_ite | apply State.put_keeps

theorem State.snapLate_keeps (h : s0.Keeps s) : s0.Keeps (s.snapLate) := by
  unfold State.snapLate
  repeat' with_reducible first
      | assumption | apply State.keeps_ite | apply State.raise_keeps | apply State.sts_keeps

theorem State.snapRingAt_keeps (h : s0.Keeps s) (t : Nat) : s0.Keeps (s.snapRingAt t) := by
  unfold State.snapRingAt
  repeat' with_reducible first
      | assumption | apply State.keeps_ite | apply State.setTev_keeps

theorem State.snapRinggo_keeps (h : s0.Keeps s) : s0.Keeps (s.snapRinggo) := by
  unfold State.snapRinggo
  repeat' with_reducible first
      | assumption | apply State.keeps_ite | apply State.keeps_ite2 | apply State.keeps_ite3
      | apply State.snapLate_keeps | apply State.glTiming_keeps | apply State.snapRingAt_keeps

theorem State.snapRing_keeps (h : s0.Keeps s) (t : Nat) : s0.Keeps (s.snapRing t) := by
  unfold State.snapRing
  repeat' with_reducible first
      | assumption | apply State.keeps_ite | apply State.snapLate_keeps | apply State.snapRingAt_keeps

theorem State.snapCmd_keeps (h : s0.Keeps s) (v : Nat) : s0.Keeps (s.snapCmd v) := by
  unfold State.snapCmd
  repeat' with_reducible first
      | assumption | apply State.keeps_ite | apply State.snapRelease_keeps | apply State.snapRinggo_keeps

theorem State.memPut_keeps (n : Nat) (h : s0.Keeps s) (a : Nat) (l : List Byte) :
    s0.Keeps (State.memPut n s a l) := by
  induction n generalizing s a l with
  | zero => exact h
  | succ n ih =>
    cases l with
    | nil => exact h
    | cons b l =>
      unfold State.memPut
      dsimp only
      split
      · exact ih (State.memStore_keeps h _ _ _) _ _
      · exact ih (State.memStore_keeps h _ _ _) _ _

theorem State.memFill_keeps (h : s0.Keeps s) (a : Nat) (bs : List Byte) : s0.Keeps (s.memFill a bs) := by
  unfold State.memFill
  repeat' with_reducible first
      | assumption | apply State.keeps_ite | apply State.memPut_keeps

theorem State.wordsTake_keeps (n : Nat) (h : s0.Keeps s) (a : Nat) : s0.Keeps (State.wordsTake n s a).2 := by
  induction n generalizing s a with
  | zero => exact h
  | succ n ih => exact ih (State.memLoad_keeps h a 8) _

theorem State.memTake_keeps (n : Nat) (h : s0.Keeps s) (a : Nat) : s0.Keeps (State.memTake n s a).2 := by
  unfold State.memTake
  split
  · exact h
  · exact State.wordsTake_keeps _ h _

theorem State.ethEvent_keeps (h : s0.Keeps s) (n : Nat) (bit : Nat) (b : Nat) : s0.Keeps (s.ethEvent n bit b) := by
  unfold State.ethEvent
  repeat' with_reducible first
      | assumption | apply State.keeps_ite | apply State.raise_keeps | apply State.sts_keeps

theorem State.ptpEvent_keeps (h : s0.Keeps s) (n : Nat) (bit : Nat) (b : Nat) : s0.Keeps (s.ptpEvent n bit b) := by
  unfold State.ptpEvent
  repeat' with_reducible first
      | assumption | apply State.keeps_ite | apply State.raise_keeps | apply State.sts_keeps

theorem State.ptpRecord_keeps (h : s0.Keeps s) (n : Nat) (r : BitVec 256) : s0.Keeps (s.ptpRecord n r) := by
  unfold State.ptpRecord
  repeat' with_reducible first
      | assumption | apply State.keeps_ite | apply State.count_keeps | apply State.qPutBlock_keeps
      | apply State.setTev_keeps

theorem State.ptpStore_keeps (h : s0.Keeps s) (n : Nat) (f : List Byte) : s0.Keeps (s.ptpStore n f) := by
  unfold State.ptpStore
  repeat' with_reducible first
      | assumption | apply State.keeps_ite | apply State.modPtp_keeps | apply State.memFill_keeps

theorem State.ptpRx_keeps (h : s0.Keeps s) (n : Nat) (hv : Nat) (f : List Byte) (t : Nat) :
    s0.Keeps (s.ptpRx n hv f t) := by
  unfold State.ptpRx
  repeat' with_reducible first
      | assumption | apply State.keeps_ite | apply State.ptpEvent_keeps | apply State.count_keeps
      | apply State.ptpRecord_keeps | apply State.ptpStore_keeps | apply State.modPtp_keeps

theorem State.esmcRx_keeps (h : s0.Keeps s) (n : Nat) (f : List Byte) (t : Nat) : s0.Keeps (s.esmcRx n f t) := by
  unfold State.esmcRx
  repeat' with_reducible first
      | assumption | apply State.keeps_ite | apply State.ptpRecord_keeps | apply State.ptpStore_keeps

theorem State.ethOther_keeps (h : s0.Keeps s) (n : Nat) (f : List Byte) : s0.Keeps (s.ethOther n f) := by
  unfold State.ethOther
  repeat' with_reducible first
      | assumption | apply State.keeps_ite | apply State.emit_keeps | apply State.count_keeps

theorem State.ethRx_keeps (h : s0.Keeps s) (n : Nat) (f : List Byte) (fcsOk : Bool) (t : Nat) :
    s0.Keeps (s.ethRx n f fcsOk t) := by
  unfold State.ethRx
  repeat' with_reducible first
      | assumption | apply State.keeps_ite | apply State.ethEvent_keeps | apply State.count_keeps
      | apply State.ptpRx_keeps | apply State.esmcRx_keeps | apply State.ethOther_keeps | apply State.keeps_foldl
      | apply State.keeps_foldl2 | apply State.keeps_getD | (intro t x ht) | (intro t ht) | dsimp only
      | refine State.keeps_of_pair (by assumption) ?_ | refine State.keeps_of_triple (by assumption) ?_ | split

theorem State.ethFecCount_keeps (h : s0.Keeps s) (n : Nat) (cor : Nat) (unc : Nat) :
    s0.Keeps (s.ethFecCount n cor unc) := by
  unfold State.ethFecCount
  repeat' with_reducible first
      | assumption | apply State.keeps_ite | apply State.count_keeps | apply State.ethEvent_keeps
      | apply State.modPtp_keeps

theorem State.txFrame_keeps (h : s0.Keeps s) (n : Nat) (k : Nat) : s0.Keeps (s.txFrame n k).2 := by
  unfold State.txFrame
  repeat' with_reducible first
      | assumption | apply State.keeps_ite | apply State.keeps_ite2 | apply State.keeps_ite3
      | apply State.memLoad_keeps | apply State.memTake_keeps

theorem State.txRecord_keeps (h : s0.Keeps s) (n : Nat) (d : TxDesc) (f : List Byte) (hv : Nat) (t : Nat) (dropped : Bool) :
    s0.Keeps (s.txRecord n d f hv t dropped) := by
  unfold State.txRecord
  repeat' with_reducible first
      | assumption | apply State.keeps_ite | apply State.ptpEvent_keeps | apply State.ptpRecord_keeps

theorem State.txTake_keeps (h : s0.Keeps s) (n : Nat) : s0.Keeps (s.txTake n) := by
  unfold State.txTake
  repeat' with_reducible first
      | assumption | apply State.keeps_ite | apply State.keeps_ite2 | apply State.keeps_ite3 | apply State.qPop_keeps
      | apply State.txFrame_keeps | apply State.txRecord_keeps | apply State.modPtp_keeps

theorem State.txSend_keeps (h : s0.Keeps s) (n : Nat) (d : TxDesc) (rest : List TxDesc) (t : Nat) :
    s0.Keeps (s.txSend n d rest t) := by
  unfold State.txSend
  repeat' with_reducible first
      | assumption | apply State.keeps_ite | apply State.keeps_ite2 | apply State.keeps_ite3
      | apply State.modPtp_keeps | apply State.txFrame_keeps | apply State.emit_keeps | apply State.txRecord_keeps
      | apply State.count_keeps

theorem State.txDrop_keeps (h : s0.Keeps s) (n : Nat) (d : TxDesc) (rest : List TxDesc) :
    s0.Keeps (s.txDrop n d rest) := by
  unfold State.txDrop
  repeat' with_reducible first
      | assumption | apply State.keeps_ite | apply State.keeps_ite2 | apply State.keeps_ite3
      | apply State.modPtp_keeps | apply State.txFrame_keeps | apply State.txRecord_keeps | apply State.ethEvent_keeps
      | apply State.count_keeps

theorem State.putSrvw_keeps (h : s0.Keeps s) (n : Nat) (w : Int) : s0.Keeps (s.putSrvw n w) := by
  unfold State.putSrvw
  repeat' with_reducible first
      | assumption | apply State.keeps_ite | apply State.accRecord_keeps | apply State.tbServoWord_keeps
      | apply State.putPair_keeps

end Sys2Proof.Machine
end

