-- ==== Sys2Proof/Laws/KeepsOps3.lean ====
section
/-!
SUPPORT. Keeping the queue and the invariant (State.Keeps), one lemma per operation of Machine/, from State.srvWrite to
State.engCopy; each rests on the lemmas before it.
-/

namespace Sys2Proof.Machine

variable {s0 s : State}

theorem State.srvWrite_keeps (h : s0.Keeps s) (n : Nat) : s0.Keeps (s.srvWrite n) := by
  unfold State.srvWrite
  repeat' with_reducible first
      | assumption | apply State.keeps_ite | apply State.putPair_keeps | apply State.putSrvw_keeps

theorem State.srvHold_keeps (h : s0.Keeps s) (n : Nat) : s0.Keeps (s.srvHold n) := by
  unfold State.srvHold
  repeat' with_reducible first
      | assumption | apply State.keeps_ite | apply State.srvWrite_keeps | apply State.modPtp_keeps

theorem State.ptpSrcHold_keeps (h : s0.Keeps s) (n : Nat) : s0.Keeps (s.ptpSrcHold n) := by
  unfold State.ptpSrcHold
  repeat' with_reducible first
      | assumption | apply State.keeps_ite | apply State.put_keeps | apply State.srcHoldAs_keeps

theorem State.ptpSrcResume_keeps (h : s0.Keeps s) (n : Nat) : s0.Keeps (s.ptpSrcResume n) := by
  unfold State.ptpSrcResume
  repeat' with_reducible first
      | assumption | apply State.keeps_ite | apply State.srcAccept_keeps | apply State.put_keeps

theorem State.servo_keeps (h : s0.Keeps s) (n : Nat) (o : Int) : s0.Keeps (s.servo n o) := by
  unfold State.servo
  repeat' with_reducible first
      | assumption | apply State.keeps_ite | apply State.srvWrite_keeps | apply State.modPtp_keeps

theorem State.stepHold_keeps (h : s0.Keeps s) (n : Nat) (o : Int) : s0.Keeps (s.stepHold n o) := by
  unfold State.stepHold
  repeat' with_reducible first
      | assumption | apply State.keeps_ite | apply State.putTriple_keeps | apply State.ptpEvent_keeps
      | apply State.srvHold_keeps | apply State.put_keeps | apply State.ptpSrcHold_keeps

theorem State.meanTake_keeps (h : s0.Keeps s) (n : Nat) (o : Int) : s0.Keeps (s.meanTake n o) := by
  unfold State.meanTake
  repeat' with_reducible first
      | assumption | apply State.keeps_ite | apply State.modPtp_keeps

theorem State.xofs_keeps (h : s0.Keeps s) : s0.Keeps (s.xofs) := by
  unfold State.xofs
  repeat' with_reducible first
      | assumption | apply State.keeps_ite | apply State.wr_keeps | apply State.ptpEvent_keeps
      | apply State.keeps_foldl | apply State.keeps_foldl2 | apply State.keeps_getD | (intro t x ht) | (intro t ht)
      | dsimp only | refine State.keeps_of_pair (by assumption) ?_ | refine State.keeps_of_triple (by assumption) ?_
      | split

theorem State.ptpAccept_keeps (h : s0.Keeps s) (n : Nat) (o : Int) : s0.Keeps (s.ptpAccept n o) := by
  unfold State.ptpAccept
  repeat' with_reducible first
      | assumption | apply State.keeps_ite | apply State.stepHold_keeps | apply State.put_keeps
      | apply State.srcVirtual_keeps | apply State.ptpSrcResume_keeps | apply State.modPtp_keeps
      | apply State.servo_keeps

theorem State.ofsCommit_keeps (h : s0.Keeps s) (n : Nat) : s0.Keeps (s.ofsCommit n) := by
  unfold State.ofsCommit
  repeat' with_reducible first
      | assumption | apply State.keeps_ite | apply State.ptpEvent_keeps | apply State.count_keeps
      | apply State.xofs_keeps | apply State.meanTake_keeps | apply State.modPtp_keeps | apply State.ptpAccept_keeps

theorem State.ptpCfgRef_keeps (h : s0.Keeps s) (n : Nat) : s0.Keeps (s.ptpCfgRef n) := by
  unfold State.ptpCfgRef
  repeat' with_reducible first
      | assumption | apply State.keeps_ite | apply State.sts_keeps

theorem State.srvRef_keeps (h : s0.Keeps s) (n : Nat) : s0.Keeps (s.srvRef n) := by
  unfold State.srvRef
  repeat' with_reducible first
      | assumption | apply State.keeps_ite | apply State.ptpEvent_keeps

theorem State.ptpCtlWritten_keeps (h : s0.Keeps s) (n : Nat) (old : Nat) : s0.Keeps (s.ptpCtlWritten n old) := by
  unfold State.ptpCtlWritten
  repeat' with_reducible first
      | assumption | apply State.keeps_ite | apply State.putSrvw_keeps | apply State.modPtp_keeps

theorem State.rankChanged_keeps (h : s0.Keeps s) : s0.Keeps (s.rankChanged) := by
  unfold State.rankChanged
  repeat' with_reducible first
      | assumption | apply State.keeps_ite | apply State.selTrigger_keeps | apply State.keeps_foldl
      | apply State.keeps_foldl2 | apply State.keeps_getD | (intro t x ht)

theorem State.pstateWritten_keeps (h : s0.Keeps s) (n : Nat) (old : Nat) : s0.Keeps (s.pstateWritten n old) := by
  unfold State.pstateWritten
  repeat' with_reducible first
      | assumption | apply State.keeps_ite | apply State.rankChanged_keeps

theorem State.ptpPathHold_keeps (h : s0.Keeps s) (n : Nat) : s0.Keeps (s.ptpPathHold n) := by
  unfold State.ptpPathHold
  repeat' with_reducible first
      | assumption | apply State.keeps_ite | apply State.ptpEvent_keeps | apply State.modPtp_keeps
      | apply State.srvHold_keeps | apply State.put_keeps | apply State.ptpSrcHold_keeps

theorem State.pathLeave_keeps (h : s0.Keeps s) (n : Nat) (st : Nat) : s0.Keeps (s.pathLeave n st) := by
  unfold State.pathLeave
  repeat' with_reducible first
      | assumption | apply State.keeps_ite | apply State.ptpSrcResume_keeps | apply State.modPtp_keeps
      | apply State.put_keeps

theorem State.ptpPathAccept_keeps (h : s0.Keeps s) (n : Nat) : s0.Keeps (s.ptpPathAccept n) := by
  unfold State.ptpPathAccept
  repeat' with_reducible first
      | assumption | apply State.keeps_ite | apply State.pathLeave_keeps

theorem State.ptpPathReject_keeps (h : s0.Keeps s) (n : Nat) : s0.Keeps (s.ptpPathReject n) := by
  unfold State.ptpPathReject
  repeat' with_reducible first
      | assumption | apply State.keeps_ite | apply State.pathLeave_keeps

theorem State.ptpParentChg_keeps (h : s0.Keeps s) (n : Nat) : s0.Keeps (s.ptpParentChg n) := by
  unfold State.ptpParentChg
  repeat' with_reducible first
      | assumption | apply State.keeps_ite | apply State.ptpEvent_keeps | apply State.srvHold_keeps

theorem State.ptpSrvReset_keeps (h : s0.Keeps s) (n : Nat) : s0.Keeps (s.ptpSrvReset n) := by
  unfold State.ptpSrvReset
  repeat' with_reducible first
      | assumption | apply State.keeps_ite | apply State.pathLeave_keeps | apply State.srvWrite_keeps
      | apply State.modPtp_keeps

theorem State.ptpCmd_keeps (h : s0.Keeps s) (n : Nat) (v : Nat) : s0.Keeps (s.ptpCmd n v) := by
  unfold State.ptpCmd
  repeat' with_reducible first
      | assumption | apply State.keeps_ite | apply State.ptpPathHold_keeps | apply State.ptpPathAccept_keeps
      | apply State.ptpPathReject_keeps | apply State.ptpParentChg_keeps | apply State.ptpSrvReset_keeps

theorem State.ptpStop_keeps (h : s0.Keeps s) (n : Nat) : s0.Keeps (s.ptpStop n) := by
  unfold State.ptpStop
  repeat' with_reducible first
      | assumption | apply State.keeps_ite | apply State.modPtp_keeps | apply State.putSrvw_keeps

theorem State.ethLinkLost_keeps (h : s0.Keeps s) (n : Nat) : s0.Keeps (s.ethLinkLost n) := by
  unfold State.ethLinkLost
  repeat' with_reducible first
      | assumption | apply State.keeps_ite | apply State.toLost_keeps | apply State.modSrc_keeps

theorem State.ethCtlWritten_keeps (h : s0.Keeps s) (n : Nat) (old : Nat) : s0.Keeps (s.ethCtlWritten n old) := by
  unfold State.ethCtlWritten
  repeat' with_reducible first
      | assumption | apply State.keeps_ite | apply State.destRatio_keeps | apply State.wr_keeps
      | apply State.ethLinkLost_keeps | apply State.ethEvent_keeps

theorem State.syeEvent_keeps (h : s0.Keeps s) (b : Nat) : s0.Keeps (s.syeEvent b) := by
  unfold State.syeEvent
  repeat' with_reducible first
      | assumption | apply State.keeps_ite | apply State.raise_keeps | apply State.sts_keeps

theorem State.syeRank_keeps (h : s0.Keeps s) (p : Nat) (r : Nat) : s0.Keeps (s.syeRank p r) := by
  unfold State.syeRank
  repeat' with_reducible first
      | assumption | apply State.keeps_ite | apply State.rankChanged_keeps | apply State.syeEvent_keeps
      | apply State.put_keeps

theorem State.syeRx_keeps (h : s0.Keeps s) (p : Nat) : s0.Keeps (s.syeRx p) := by
  unfold State.syeRx
  repeat' with_reducible first
      | assumption | apply State.keeps_ite | apply State.setTod_keeps | apply State.syeRank_keeps
      | apply State.syeEvent_keeps | apply State.keeps_foldl | apply State.keeps_foldl2 | apply State.keeps_getD
      | (intro t x ht) | (intro t ht) | dsimp only | refine State.keeps_of_pair (by assumption) ?_
      | refine State.keeps_of_triple (by assumption) ?_ | split

theorem State.syeRefresh_keeps (h : s0.Keeps s) : s0.Keeps (s.syeRefresh) := by
  unfold State.syeRefresh
  repeat' with_reducible first
      | assumption | apply State.keeps_ite | apply State.engPend_keeps | apply State.syeEvent_keeps
      | apply State.wr_keeps | apply State.keeps_foldl | apply State.keeps_foldl2 | apply State.keeps_getD
      | (intro t x ht)

theorem State.uartEvent_keeps (h : s0.Keeps s) (b : Nat) : s0.Keeps (s.uartEvent b) := by
  unfold State.uartEvent
  repeat' with_reducible first
      | assumption | apply State.keeps_ite | apply State.raise_keeps | apply State.sts_keeps

theorem State.uartErr_keeps (h : s0.Keeps s) (cause : Nat) : s0.Keeps (s.uartErr cause) := by
  unfold State.uartErr
  repeat' with_reducible first
      | assumption | apply State.keeps_ite | apply State.put_keeps | apply State.uartEvent_keeps
      | apply State.count_keeps

theorem State.todAssociate_keeps (h : s0.Keeps s) (secs : Nat) (t : Nat) : s0.Keeps (s.todAssociate secs t) := by
  unfold State.todAssociate
  repeat' with_reducible first
      | assumption | apply State.keeps_ite | apply State.wr_keeps | apply State.putInstant_keeps
      | apply State.uartEvent_keeps

theorem State.todMessage_keeps (h : s0.Keeps s) (secs : Nat) (start : Nat) : s0.Keeps (s.todMessage secs start) := by
  unfold State.todMessage
  repeat' with_reducible first
      | assumption | apply State.keeps_ite | apply State.putPair_keeps | apply State.setTod_keeps
      | apply State.todAssociate_keeps | apply State.uartErr_keeps | apply State.keeps_foldl
      | apply State.keeps_foldl2 | apply State.keeps_getD | (intro t x ht) | (intro t ht) | dsimp only
      | refine State.keeps_of_pair (by assumption) ?_ | refine State.keeps_of_triple (by assumption) ?_ | split

theorem State.uartRx_keeps (h : s0.Keeps s) (m : List Byte) (framing : Bool) (start : Nat) :
    s0.Keeps (s.uartRx m framing start) := by
  unfold State.uartRx
  repeat' with_reducible first
      | assumption | apply State.keeps_ite | apply State.uartErr_keeps | apply State.todMessage_keeps
      | apply State.keeps_foldl | apply State.keeps_foldl2 | apply State.keeps_getD | (intro t x ht) | (intro t ht)
      | dsimp only | refine State.keeps_of_pair (by assumption) ?_ | refine State.keeps_of_triple (by assumption) ?_
      | split

theorem State.uartCfgWritten_keeps (h : s0.Keeps s) (old : Nat) : s0.Keeps (s.uartCfgWritten old) := by
  unfold State.uartCfgWritten
  repeat' with_reducible first
      | assumption | apply State.keeps_ite | apply State.setTod_keeps

theorem State.nvCheck_keeps (h : s0.Keeps s) (a : Nat) : s0.Keeps (s.nvCheck a).2 := by
  unfold State.nvCheck
  repeat' with_reducible first
      | assumption | apply State.keeps_ite | apply State.keeps_ite2 | apply State.keeps_ite3 | apply State.setNv_keeps
      | apply State.count_keeps | apply State.raise_keeps | apply State.sts_keeps | apply State.wr_keeps
      | apply State.keeps_foldl | apply State.keeps_foldl2 | apply State.keeps_getD | (intro t x ht) | (intro t ht)
      | dsimp only | refine State.keeps_of_pair (by assumption) ?_ | refine State.keeps_of_triple (by assumption) ?_
      | split

theorem State.nvCheckAll_keeps (l : List Nat) (h : s0.Keeps s) : s0.Keeps (State.nvCheckAll l s).2 := by
  induction l generalizing s with
  | nil => exact h
  | cons a l ih => exact ih (State.nvCheck_keeps h a)

theorem State.nvTake_keeps (h : s0.Keeps s) (a : Nat) (n : Nat) : s0.Keeps (s.nvTake a n).2 := by
  unfold State.nvTake
  repeat' with_reducible first
      | assumption | apply State.keeps_ite | apply State.keeps_ite2 | apply State.keeps_ite3
      | apply State.nvCheckAll_keeps

theorem State.nvRowWrite_keeps (h : s0.Keeps s) (r : Nat × List Byte) : s0.Keeps (s.nvRowWrite r) := by
  unfold State.nvRowWrite
  repeat' with_reducible first
      | assumption | apply State.keeps_ite | apply State.setNv_keeps

theorem State.nvRowsWrite_keeps (h : s0.Keeps s) (rows : List (Nat × List Byte)) : s0.Keeps (s.nvRowsWrite rows) := by
  unfold State.nvRowsWrite
  repeat' with_reducible first
      | assumption | apply State.keeps_ite | apply State.nvRowWrite_keeps | apply State.keeps_foldl
      | apply State.keeps_foldl2 | apply State.keeps_getD | (intro t x ht)

theorem State.nvSetUnlk_keeps (h : s0.Keeps s) (r : Nat) (kind : Nat) (on : Bool) :
    s0.Keeps (s.nvSetUnlk r kind on) := by
  unfold State.nvSetUnlk
  repeat' with_reducible first
      | assumption | apply State.keeps_ite | apply State.put_keeps

theorem State.setAttempts_keeps (h : s0.Keeps s) (r : Nat) (v : Nat) : s0.Keeps (s.setAttempts r v) := by
  unfold State.setAttempts
  repeat' with_reducible first
      | assumption | apply State.keeps_ite | apply State.wr_keeps

theorem State.nvUnlock_keeps (h : s0.Keeps s) (c : NvCmd) : s0.Keeps (s.nvUnlock c).2 := by
  unfold State.nvUnlock
  repeat' with_reducible first
      | assumption | apply State.keeps_ite | apply State.keeps_ite2 | apply State.keeps_ite3
      | apply State.setAttempts_keeps | apply State.nvSetUnlk_keeps | apply State.raise_keeps | apply State.sts_keeps
      | apply State.put_keeps

theorem State.setNvBuf_keeps (h : s0.Keeps s) (bs : List Byte) : s0.Keeps (s.setNvBuf bs) := by
  unfold State.setNvBuf
  repeat' with_reducible first
      | assumption | apply State.keeps_ite | apply State.wr_keeps | apply State.keeps_foldl | apply State.keeps_foldl2
      | apply State.keeps_getD | (intro t x ht)

theorem State.nvCmdBegin_keeps (h : s0.Keeps s) (c : NvCmd) : s0.Keeps (s.nvCmdBegin c).1 := by
  unfold State.nvCmdBegin
  dsimp only
  split
  · exact h
  · split
    · exact h
    · split
      · exact State.setNvBuf_keeps (State.nvCheckAll_keeps _ h) _
      · split
        · exact State.nvCheckAll_keeps _ h
        · split
          · exact State.memFill_keeps (State.nvCheckAll_keeps _ h) _ _
          · split
            · exact State.memTake_keeps _ h _
            · split
              · exact State.nvUnlock_keeps h c
              · split
                · exact State.nvSetUnlk_keeps (State.nvSetUnlk_keeps h _ _ _) _ _ _
                · split
                  · exact h
                  · exact State.put_keeps (State.setNv_keeps h _) _ _ _

theorem State.nvBegin_keeps (h : s0.Keeps s) (u : NvUser) : s0.Keeps (s.nvBegin u) := by
  have start (t : State) (ht : s0.Keeps t) (x : NvSt) (v : Nat) : s0.Keeps ((t.setNv x).put W_NVS NVS_STATE_INTERNAL v) :=
    State.put_keeps (State.setNv_keeps ht x) _ _ _
  unfold State.nvBegin
  cases u with
  | cmd c => exact start _ (State.nvCmdBegin_keeps h c) _ _
  | slotPut ring v =>
    dsimp only
    split
    · exact start _ h _ _
    · split
      · exact start _ h _ _
      · exact start _ h _ _
  | slotGet ring =>
    dsimp only
    split
    · exact start _ h _ _
    · exact start _ (State.putPair_keeps (State.nvCheckAll_keeps _ h) _ _ _) _ _
  | commit =>
    dsimp only
    split
    · exact start _ h _ _
    · split
      · exact start _ h _ _
      · exact start _ h _ _
  | loader => exact start _ h _ _
  | model bs =>
    dsimp only
    split
    · exact start _ h _ _
    · split
      · exact start _ h _ _
      · exact start _ h _ _

theorem State.nvSubmit_keeps (h : s0.Keeps s) (u : NvUser) : s0.Keeps (s.nvSubmit u) := by
  unfold State.nvSubmit
  repeat' with_reducible first
      | assumption | apply State.keeps_ite | apply State.nvBegin_keeps | apply State.setNv_keeps

theorem State.bankInForce_keeps (h : s0.Keeps s) (b : Nat) (q : Nat) : s0.Keeps (s.bankInForce b q) := by
  unfold State.bankInForce
  repeat' with_reducible first
      | assumption | apply State.keeps_ite | apply State.put_keeps

theorem State.nvNext_keeps (h : s0.Keeps s) : s0.Keeps (s.nvNext) := by
  unfold State.nvNext
  repeat' with_reducible first
      | assumption | apply State.keeps_ite | apply State.nvBegin_keeps | apply State.setNv_keeps
      | apply State.keeps_foldl | apply State.keeps_foldl2 | apply State.keeps_getD | (intro t x ht) | (intro t ht)
      | dsimp only | refine State.keeps_of_pair (by assumption) ?_ | refine State.keeps_of_triple (by assumption) ?_
      | split

theorem State.nvFinish_keeps (h : s0.Keeps s) (u : NvUser) (result : Nat) : s0.Keeps (s.nvFinish u result) := by
  unfold State.nvFinish
  repeat' with_reducible first
      | assumption | apply State.keeps_ite | apply State.put_keeps | apply State.setNv_keeps | apply State.raise_keeps
      | apply State.sts_keeps | apply State.nvNext_keeps | apply State.keeps_foldl | apply State.keeps_foldl2
      | apply State.keeps_getD | (intro t x ht) | (intro t ht) | dsimp only
      | refine State.keeps_of_pair (by assumption) ?_ | refine State.keeps_of_triple (by assumption) ?_ | split

theorem State.nvSetPwd_keeps (h : s0.Keeps s) (u : NvUser) : s0.Keeps (s.nvSetPwd u) := by
  unfold State.nvSetPwd
  repeat' with_reducible first
      | assumption | apply State.keeps_ite | apply State.setNv_keeps | apply State.keeps_foldl
      | apply State.keeps_foldl2 | apply State.keeps_getD | (intro t x ht) | (intro t ht) | dsimp only
      | refine State.keeps_of_pair (by assumption) ?_ | refine State.keeps_of_triple (by assumption) ?_ | split

theorem State.nvCut_keeps (h : s0.Keeps s) : s0.Keeps (s.nvCut) := by
  unfold State.nvCut
  repeat' with_reducible first
      | assumption | apply State.keeps_ite | apply State.keeps_ite2 | apply State.keeps_ite3
      | apply State.takeFree_keeps | apply State.nvSetPwd_keeps | apply State.nvRowsWrite_keeps
      | apply State.setNv_keeps | apply State.nvFinish_keeps | apply State.keeps_foldl | apply State.keeps_foldl2
      | apply State.keeps_getD | (intro t x ht) | (intro t ht) | dsimp only
      | refine State.keeps_of_pair (by assumption) ?_ | refine State.keeps_of_triple (by assumption) ?_ | split

theorem State.nvReset_keeps (h : s0.Keeps s) : s0.Keeps (s.nvReset) := by
  unfold State.nvReset
  repeat' with_reducible first
      | assumption | apply State.keeps_ite | apply State.nvCut_keeps | apply State.setNv_keeps | apply State.put_keeps

theorem State.nvCommand_keeps (h : s0.Keeps s) (c : NvCmd) : s0.Keeps (s.nvCommand c) := by
  unfold State.nvCommand
  repeat' with_reducible first
      | assumption | apply State.keeps_ite | apply State.nvSubmit_keeps | apply State.put_keeps

theorem State.nvSlotCmd_keeps (h : s0.Keeps s) (v : Nat) : s0.Keeps (s.nvSlotCmd v) := by
  unfold State.nvSlotCmd
  repeat' with_reducible first
      | assumption | apply State.keeps_ite | apply State.nvSubmit_keeps

theorem State.nvRewrite_keeps (h : s0.Keeps s) (a : Nat) : s0.Keeps (s.nvRewrite a) := by
  unfold State.nvRewrite
  repeat' with_reducible first
      | assumption | apply State.keeps_ite | apply State.count_keeps | apply State.nvRowWrite_keeps
      | apply State.setNv_keeps

theorem State.calEvent_keeps (h : s0.Keeps s) (b : Nat) : s0.Keeps (s.calEvent b) := by
  unfold State.calEvent
  repeat' with_reducible first
      | assumption | apply State.keeps_ite | apply State.raise_keeps | apply State.sts_keeps

theorem State.calReject_keeps (h : s0.Keeps s) (step : Nat) (inst : Nat) (check : Nat) (v : Int) (result : List Nat) :
    s0.Keeps (s.calReject step inst check v result) := by
  unfold State.calReject
  repeat' with_reducible first
      | assumption | apply State.keeps_ite | apply State.wr_keeps | apply State.lifeCount_keeps
      | apply State.calEvent_keeps | apply State.setCal_keeps

theorem State.fillPoint_keeps (h : s0.Keeps s) (p : Nat) (kind : Nat) : s0.Keeps (s.fillPoint p kind) := by
  unfold State.fillPoint
  repeat' with_reducible first
      | assumption | apply State.keeps_ite | apply State.setKnots_keeps | apply State.keeps_foldl
      | apply State.keeps_foldl2 | apply State.keeps_getD | (intro t x ht)

theorem State.calStore_keeps (h : s0.Keeps s) (kind : Nat) (i : Nat) (ks : List Nat) :
    s0.Keeps (s.calStore kind i ks) := by
  unfold State.calStore
  repeat' with_reducible first
      | assumption | apply State.keeps_ite | apply State.fillPoint_keeps | apply State.setKnots_keeps
      | apply State.calEvent_keeps | apply State.put_keeps

theorem State.tdcCreep_keeps (h : s0.Keeps s) (i : Nat) (want : List Int) : s0.Keeps (s.tdcCreep i want) := by
  unfold State.tdcCreep
  repeat' with_reducible first
      | assumption | apply State.keeps_ite | apply State.setKnots_keeps

theorem State.calReform_keeps (h : s0.Keeps s) : s0.Keeps (s.calReform) := by
  unfold State.calReform
  repeat' with_reducible first
      | assumption | apply State.keeps_ite | apply State.reformInst_keeps | apply State.setCal_keeps
      | apply State.keeps_foldl | apply State.keeps_foldl2 | apply State.keeps_getD | (intro t x ht)

theorem State.setTdcOk_keeps (h : s0.Keeps s) (i : Nat) : s0.Keeps (s.setTdcOk i) := by
  unfold State.setTdcOk
  repeat' with_reducible first
      | assumption | apply State.keeps_ite | apply State.putPair_keeps

theorem State.setLinOk_keeps (h : s0.Keeps s) (n : Nat) : s0.Keeps (s.setLinOk n) := by
  unfold State.setLinOk
  repeat' with_reducible first
      | assumption | apply State.keeps_ite | apply State.putPair_keeps

theorem State.seqDropT_keeps (h : s0.Keeps s) (i : Nat) : s0.Keeps (s.seqDropT i) := by
  unfold State.seqDropT
  repeat' with_reducible first
      | assumption | apply State.keeps_ite | apply State.setCal_keeps | apply State.putPair_keeps

theorem State.seqDropO_keeps (h : s0.Keeps s) (n : Nat) : s0.Keeps (s.seqDropO n) := by
  unfold State.seqDropO
  repeat' with_reducible first
      | assumption | apply State.keeps_ite | apply State.setCal_keeps | apply State.putPair_keeps

theorem State.seqDoneT_keeps (h : s0.Keeps s) (i : Nat) : s0.Keeps (s.seqDoneT i) := by
  unfold State.seqDoneT
  repeat' with_reducible first
      | assumption | apply State.keeps_ite | apply State.setCal_keeps

theorem State.seqDoneO_keeps (h : s0.Keeps s) (n : Nat) : s0.Keeps (s.seqDoneO n) := by
  unfold State.seqDoneO
  repeat' with_reducible first
      | assumption | apply State.keeps_ite | apply State.setCal_keeps

theorem State.tdcResult_keeps (h : s0.Keeps s) (i : Nat) (counts : List Nat) (n : Nat) (fore : Bool) (hold : Bool) :
    s0.Keeps (s.tdcResult i counts n fore hold) := by
  unfold State.tdcResult
  repeat' with_reducible first
      | assumption | apply State.keeps_ite | apply State.setCal_keeps | apply State.calReject_keeps
      | apply State.seqDropT_keeps | apply State.setTdcOk_keeps | apply State.seqDoneT_keeps
      | apply State.calStore_keeps | apply State.setKnots_keeps | apply State.tdcCreep_keeps | apply State.keeps_foldl
      | apply State.keeps_foldl2 | apply State.keeps_getD | (intro t x ht) | (intro t ht) | dsimp only
      | refine State.keeps_of_pair (by assumption) ?_ | refine State.keeps_of_triple (by assumption) ?_ | split

theorem State.setFcal_keeps (h : s0.Keeps s) (n : Nat) (v : Int) : s0.Keeps (s.setFcal n v) := by
  unfold State.setFcal
  repeat' with_reducible first
      | assumption | apply State.keeps_ite | apply State.outRetarget_keeps | apply State.put_keeps

theorem State.fcalEval_keeps (h : s0.Keeps s) (n : Nat) (lam : Int) : s0.Keeps (s.fcalEval n lam) := by
  unfold State.fcalEval
  repeat' with_reducible first
      | assumption | apply State.keeps_ite | apply State.calReject_keeps | apply State.setFcal_keeps

theorem State.tdataNext_keeps (h : s0.Keeps s) : s0.Keeps (s.tdataNext) := by
  unfold State.tdataNext
  repeat' with_reducible first
      | assumption | apply State.keeps_ite | apply State.put_keeps

theorem State.tdataWrite_keeps (h : s0.Keeps s) (v : Nat) : s0.Keeps (s.tdataWrite v) := by
  unfold State.tdataWrite
  repeat' with_reducible first
      | assumption | apply State.keeps_ite | apply State.setCal_keeps | apply State.setKnot_keeps
      | apply State.reformInst_keeps

theorem State.echoEvent_keeps (h : s0.Keeps s) (n : Nat) (b : Nat) : s0.Keeps (s.echoEvent n b) := by
  unfold State.echoEvent
  repeat' with_reducible first
      | assumption | apply State.keeps_ite | apply State.raise_keeps | apply State.stsField_keeps

theorem State.modEcho_keeps (h : s0.Keeps s) (n : Nat) (f : EchoSt → EchoSt) : s0.Keeps (s.modEcho n f) := by
  unfold State.modEcho
  repeat' with_reducible first
      | assumption | apply State.keeps_ite | apply State.setSync_keeps

theorem State.echoJump_keeps (h : s0.Keeps s) (n : Nat) (t : Nat) : s0.Keeps (s.echoJump n t).2 := by
  unfold State.echoJump
  repeat' with_reducible first
      | assumption | apply State.keeps_ite | apply State.keeps_ite2 | apply State.keeps_ite3
      | apply State.modEcho_keeps | apply State.echoEvent_keeps

theorem State.echoApply_keeps (h : s0.Keeps s) (n : Nat) (t : Nat) (lam : Int) : s0.Keeps (s.echoApply n t lam) := by
  unfold State.echoApply
  repeat' with_reducible first
      | assumption | apply State.keeps_ite | apply State.outRetarget_keeps | apply State.echoEvent_keeps
      | apply State.put_keeps

theorem State.echoAccept_keeps (h : s0.Keeps s) (n : Nat) (t : Nat) (lam : Int) : s0.Keeps (s.echoAccept n t lam) := by
  unfold State.echoAccept
  repeat' with_reducible first
      | assumption | apply State.keeps_ite | apply State.setCal_keeps | apply State.wr_keeps
      | apply State.echoApply_keeps

theorem State.echoShow_keeps (h : s0.Keeps s) (n : Nat) (lam : Int) (gam : Int) (r : RStat) :
    s0.Keeps (s.echoShow n lam gam r) := by
  unfold State.echoShow
  repeat' with_reducible first
      | assumption | apply State.keeps_ite | apply State.wr_keeps

theorem State.echoSeq_keeps (h : s0.Keeps s) (n : Nat) (t : Nat) (lam : Int) : s0.Keeps (s.echoSeq n t lam) := by
  unfold State.echoSeq
  repeat' with_reducible first
      | assumption | apply State.keeps_ite | apply State.setCal_keeps | apply State.seqDoneO_keeps
      | apply State.echoAccept_keeps | apply State.keeps_foldl | apply State.keeps_foldl2 | apply State.keeps_getD
      | (intro t x ht) | (intro t ht) | dsimp only | refine State.keeps_of_pair (by assumption) ?_
      | refine State.keeps_of_triple (by assumption) ?_ | split

theorem State.seqBreak_keeps (h : s0.Keeps s) (n : Nat) (seq : Bool) : s0.Keeps (s.seqBreak n seq) := by
  unfold State.seqBreak
  repeat' with_reducible first
      | assumption | apply State.keeps_ite | apply State.setCal_keeps

theorem State.echoResult_keeps (h : s0.Keeps s) (n : Nat) (tau : Option Nat) (lam : Int) (gam : Int) (seq : Bool) :
    s0.Keeps (s.echoResult n tau lam gam seq) := by
  unfold State.echoResult
  repeat' with_reducible first
      | assumption | apply State.keeps_ite | apply State.keeps_ite2 | apply State.keeps_ite3
      | apply State.seqBreak_keeps | apply State.echoEvent_keeps | apply State.modEcho_keeps
      | apply State.echoShow_keeps | apply State.echoJump_keeps | apply State.calReject_keeps
      | apply State.seqDropO_keeps | apply State.echoSeq_keeps | apply State.echoAccept_keeps
      | apply State.keeps_foldl | apply State.keeps_foldl2 | apply State.keeps_getD | (intro t x ht) | (intro t ht)
      | dsimp only | refine State.keeps_of_pair (by assumption) ?_ | refine State.keeps_of_triple (by assumption) ?_
      | split

theorem State.seqWign_keeps (h : s0.Keeps s) : s0.Keeps (s.seqWign) := by
  unfold State.seqWign
  repeat' with_reducible first
      | assumption | apply State.keeps_ite | apply State.accRecord_keeps | apply State.setCal_keeps

theorem State.seqStep_keeps (h : s0.Keeps s) (st : Nat) : s0.Keeps (s.seqStep st) := by
  unfold State.seqStep
  repeat' with_reducible first
      | assumption | apply State.keeps_ite | apply State.setCal_keeps | apply State.put_keeps

theorem State.seqStart_keeps (h : s0.Keeps s) (r : Req) (v : Nat) : s0.Keeps (s.seqStart r v) := by
  unfold State.seqStart
  repeat' with_reducible first
      | assumption | apply State.keeps_ite | apply State.seqStep_keeps | apply State.put_keeps
      | apply State.lifeCount_keeps | apply State.setCal_keeps | apply State.seqDropT_keeps | apply State.keeps_foldl
      | apply State.keeps_foldl2 | apply State.keeps_getD | (intro t x ht)

theorem State.seqEnd_keeps (h : s0.Keeps s) (result : Nat) : s0.Keeps (s.seqEnd result) := by
  unfold State.seqEnd
  repeat' with_reducible first
      | assumption | apply State.keeps_ite | apply State.setCal_keeps | apply State.put_keeps
      | apply State.calEvent_keeps

theorem State.seqBegin2_keeps (h : s0.Keeps s) : s0.Keeps (s.seqBegin2) := by
  unfold State.seqBegin2
  repeat' with_reducible first
      | assumption | apply State.keeps_ite | apply State.seqStep_keeps | apply State.setCal_keeps
      | apply State.seqWign_keeps | apply State.seqDropO_keeps | apply State.keeps_foldl | apply State.keeps_foldl2
      | apply State.keeps_getD | (intro t x ht)

theorem State.seqBegin4_keeps (h : s0.Keeps s) : s0.Keeps (s.seqBegin4) := by
  unfold State.seqBegin4
  repeat' with_reducible first
      | assumption | apply State.keeps_ite | apply State.seqStep_keeps | apply State.setCal_keeps
      | apply State.seqWign_keeps | apply State.seqDropO_keeps | apply State.keeps_foldl | apply State.keeps_foldl2
      | apply State.keeps_getD | (intro t x ht)

theorem State.seqFret_keeps (h : s0.Keeps s) (n : Nat) (delays : List Nat) (lam : Int) :
    s0.Keeps (s.seqFret n delays lam) := by
  unfold State.seqFret
  repeat' with_reducible first
      | assumption | apply State.keeps_ite | apply State.seqDropO_keeps | apply State.calReject_keeps
      | apply State.setKnots_keeps | apply State.setLinOk_keeps | apply State.seqDoneO_keeps
      | apply State.setCal_keeps | apply State.keeps_foldl | apply State.keeps_foldl2 | apply State.keeps_getD
      | (intro t x ht) | (intro t ht) | dsimp only | refine State.keeps_of_pair (by assumption) ?_
      | refine State.keeps_of_triple (by assumption) ?_ | split

theorem State.seqDrift_keeps (h : s0.Keeps s) (n : Nat) (lam : Int) : s0.Keeps (s.seqDrift n lam) := by
  unfold State.seqDrift
  repeat' with_reducible first
      | assumption | apply State.keeps_ite | apply State.reformInst_keeps | apply State.fcalEval_keeps
      | apply State.seqDropO_keeps | apply State.seqDoneO_keeps

theorem State.seqFrets_keeps (h : s0.Keeps s) (fret : List (Nat × List Nat × Int)) : s0.Keeps (s.seqFrets fret) := by
  unfold State.seqFrets
  repeat' with_reducible first
      | assumption | apply State.keeps_ite | apply State.seqDrift_keeps | apply State.seqFret_keeps
      | apply State.keeps_foldl | apply State.keeps_foldl2 | apply State.keeps_getD | (intro t x ht) | (intro t ht)
      | dsimp only | refine State.keeps_of_pair (by assumption) ?_ | refine State.keeps_of_triple (by assumption) ?_
      | split

theorem State.seqAfter2_keeps (h : s0.Keeps s) : s0.Keeps (s.seqAfter2) := by
  unfold State.seqAfter2
  repeat' with_reducible first
      | assumption | apply State.keeps_ite | apply State.seqStep_keeps | apply State.seqBegin4_keeps

theorem State.seqStores_keeps (h : s0.Keeps s) : s0.Keeps (s.seqStores) := by
  unfold State.seqStores
  repeat' with_reducible first
      | assumption | apply State.keeps_ite | apply State.calStore_keeps | apply State.setCal_keeps
      | apply State.keeps_foldl | apply State.keeps_foldl2 | apply State.keeps_getD | (intro t x ht)

theorem State.seqCommitted_keeps (h : s0.Keeps s) (j : NvJob) : s0.Keeps (s.seqCommitted j) := by
  unfold State.seqCommitted
  repeat' with_reducible first
      | assumption | apply State.keeps_ite | apply State.nvFinish_keeps | apply State.nvRowsWrite_keeps
      | apply State.seqEnd_keeps | apply State.calEvent_keeps | apply State.lifeCount_keeps
      | apply State.bankInForce_keeps

theorem State.seqCont_keeps (h : s0.Keeps s) : s0.Keeps (s.seqCont) := by
  unfold State.seqCont
  repeat' with_reducible first
      | assumption | apply State.keeps_ite | apply State.seqBegin4_keeps | apply State.calEvent_keeps

theorem State.seqAbort_keeps (h : s0.Keeps s) : s0.Keeps (s.seqAbort) := by
  unfold State.seqAbort
  repeat' with_reducible first
      | assumption | apply State.keeps_ite | apply State.setNv_keeps | apply State.nvCut_keeps
      | apply State.nvFinish_keeps | apply State.seqEnd_keeps | apply State.keeps_foldl | apply State.keeps_foldl2
      | apply State.keeps_getD | (intro t x ht) | (intro t ht) | dsimp only
      | refine State.keeps_of_pair (by assumption) ?_ | refine State.keeps_of_triple (by assumption) ?_ | split

theorem State.seqCmd_keeps (h : s0.Keeps s) (r : Req) (v : Nat) : s0.Keeps (s.seqCmd r v) := by
  unfold State.seqCmd
  repeat' with_reducible first
      | assumption | apply State.keeps_ite | apply State.seqStart_keeps | apply State.seqCont_keeps
      | apply State.seqAbort_keeps

theorem State.calDefaults_keeps (h : s0.Keeps s) : s0.Keeps (s.calDefaults) := by
  unfold State.calDefaults
  repeat' with_reducible first
      | assumption | apply State.keeps_ite | apply State.seqAbort_keeps | apply State.setCal_keeps
      | apply State.setFcal_keeps | apply State.keeps_foldl | apply State.keeps_foldl2 | apply State.keeps_getD
      | (intro t x ht)

theorem State.reformAll_keeps (h : s0.Keeps s) : s0.Keeps (s.reformAll) := by
  unfold State.reformAll
  repeat' with_reducible first
      | assumption | apply State.keeps_ite | apply State.reformInst_keeps | apply State.setCal_keeps
      | apply State.keeps_foldl | apply State.keeps_foldl2 | apply State.keeps_getD | (intro t x ht)

theorem State.loadBank_keeps (h : s0.Keeps s) (b : Nat) : s0.Keeps (s.loadBank b) := by
  unfold State.loadBank
  repeat' with_reducible first
      | assumption | apply State.keeps_ite | apply State.keeps_ite2 | apply State.keeps_ite3
      | apply State.nvTake_keeps | apply State.bankInForce_keeps | apply State.putPair_keeps | apply State.wr_keeps
      | apply State.reformAll_keeps | apply State.setCal_keeps

theorem State.loadFactory_keeps (h : s0.Keeps s) : s0.Keeps (s.loadFactory) := by
  unfold State.loadFactory
  repeat' with_reducible first
      | assumption | apply State.keeps_ite | apply State.keeps_ite2 | apply State.keeps_ite3
      | apply State.nvTake_keeps | apply State.put_keeps | apply State.putPair_keeps | apply State.wr_keeps
      | apply State.setKnots_keeps | apply State.reformAll_keeps | apply State.setCal_keeps | apply State.keeps_foldl
      | apply State.keeps_foldl2 | apply State.keeps_getD | (intro t x ht)

theorem State.bootBank_keeps (h : s0.Keeps s) : s0.Keeps (s.bootBank) := by
  unfold State.bootBank
  repeat' with_reducible first
      | assumption | apply State.keeps_ite | apply State.loadBank_keeps | apply State.raise_keeps
      | apply State.sts_keeps | apply State.loadFactory_keeps | apply State.keeps_foldl | apply State.keeps_foldl2
      | apply State.keeps_getD | (intro t x ht) | (intro t ht) | dsimp only
      | refine State.keeps_of_pair (by assumption) ?_ | refine State.keeps_of_triple (by assumption) ?_ | split

theorem State.hlthEvent_keeps (h : s0.Keeps s) (b : Nat) : s0.Keeps (s.hlthEvent b) := by
  unfold State.hlthEvent
  repeat' with_reducible first
      | assumption | apply State.keeps_ite | apply State.raise_keeps | apply State.sts_keeps

theorem State.pwrEvent_keeps (h : s0.Keeps s) (b : Nat) : s0.Keeps (s.pwrEvent b) := by
  unfold State.pwrEvent
  repeat' with_reducible first
      | assumption | apply State.keeps_ite | apply State.raise_keeps | apply State.sts_keeps

theorem State.ageing_keeps (h : s0.Keeps s) (c : Nat) : s0.Keeps (s.ageing c) := by
  unfold State.ageing
  repeat' with_reducible first
      | assumption | apply State.keeps_ite | apply State.fault_keeps | apply State.hlthEvent_keeps
      | apply State.put_keeps

theorem State.agePair_keeps (h : s0.Keeps s) (i : Nat) (r : Nat) : s0.Keeps (s.agePair i r) := by
  unfold State.agePair
  repeat' with_reducible first
      | assumption | apply State.keeps_ite | apply State.setHlth_keeps | apply State.calReject_keeps
      | apply State.wr_keeps

theorem State.ageReading_keeps (h : s0.Keeps s) (ratios : List Nat) : s0.Keeps (s.ageReading ratios) := by
  unfold State.ageReading
  repeat' with_reducible first
      | assumption | apply State.keeps_ite | apply State.agePair_keeps | apply State.hlthEvent_keeps
      | apply State.setHlth_keeps | apply State.ageing_keeps | apply State.keeps_foldl | apply State.keeps_foldl2
      | apply State.keeps_getD | (intro t x ht)

theorem State.bandApply_keeps (h : s0.Keeps s) (x : Nat) : s0.Keeps (s.bandApply x) := by
  unfold State.bandApply
  repeat' with_reducible first
      | assumption | apply State.keeps_ite | apply State.hlthEvent_keeps | apply State.setHlth_keeps
      | apply State.put_keeps

theorem State.planWritten_keeps (h : s0.Keeps s) : s0.Keeps (s.planWritten) := by
  unfold State.planWritten
  repeat' with_reducible first
      | assumption | apply State.keeps_ite | apply State.keeps_ite2 | apply State.keeps_ite3
      | apply State.setSys_keeps | apply State.put_keeps | apply State.hlthEvent_keeps | apply State.ageing_keeps
      | apply State.bandApply_keeps | apply State.setHlth_keeps | apply State.takeFree_keeps

theorem State.hlthCmd_keeps (h : s0.Keeps s) (v : Nat) : s0.Keeps (s.hlthCmd v) := by
  unfold State.hlthCmd
  repeat' with_reducible first
      | assumption | apply State.keeps_ite | apply State.put_keeps | apply State.setHlth_keeps

theorem State.tempJudge_keeps (h : s0.Keeps s) (t : Int) : s0.Keeps (s.tempJudge t) := by
  unfold State.tempJudge
  repeat' with_reducible first
      | assumption | apply State.keeps_ite | apply State.pwrEvent_keeps | apply State.put_keeps
      | apply State.fault_keeps | apply State.setHlth_keeps

theorem State.bivMinutes_keeps (h : s0.Keeps s) (n : Nat) : s0.Keeps (s.bivMinutes n) := by
  unfold State.bivMinutes
  repeat' with_reducible first
      | assumption | apply State.keeps_ite | apply State.setHlth_keeps | apply State.lifeAdd_keeps

theorem State.lifeNext_keeps (h : s0.Keeps s) : s0.Keeps (s.lifeNext) := by
  unfold State.lifeNext
  repeat' with_reducible first
      | assumption | apply State.keeps_ite | apply State.put_keeps

theorem State.lifeWrite_keeps (h : s0.Keeps s) (v : Nat) : s0.Keeps (s.lifeWrite v) := by
  unfold State.lifeWrite
  repeat' with_reducible first
      | assumption | apply State.keeps_ite | apply State.setHlth_keeps

theorem State.loadRatios_keeps (h : s0.Keeps s) : s0.Keeps (s.loadRatios) := by
  unfold State.loadRatios
  repeat' with_reducible first
      | assumption | apply State.keeps_ite | apply State.keeps_ite2 | apply State.keeps_ite3
      | apply State.nvTake_keeps | apply State.setHlth_keeps

theorem State.hlthKeep_keeps (h : s0.Keeps s) (old : State) : s0.Keeps (State.hlthKeep old s) := by
  unfold State.hlthKeep
  exact State.keeps_foldl (fun _ _ ht => State.wr_keeps ht _ _ _) (State.keeps_foldl (fun _ _ ht => State.wr_keeps ht _ _ _)
    (State.wr_keeps (State.put_keeps (State.put_keeps h _ _ _) _ _ _) _ _ _))

theorem State.ldrShow_keeps (h : s0.Keeps s) : s0.Keeps (s.ldrShow) := by
  unfold State.ldrShow
  repeat' with_reducible first
      | assumption | apply State.keeps_ite | apply State.wr_keeps

theorem State.engEvent_keeps (h : s0.Keeps s) (k : Nat) (bit : Nat) (g : Nat) (cause : Nat) :
    s0.Keeps (s.engEvent k bit g cause) := by
  unfold State.engEvent
  repeat' with_reducible first
      | assumption | apply State.keeps_ite | apply State.raise_keeps | apply State.stsField_keeps

theorem State.ldrReject_keeps (h : s0.Keeps s) (target : Nat) (reason : Nat) (detail : Nat) :
    s0.Keeps (s.ldrReject target reason detail) := by
  unfold State.ldrReject
  repeat' with_reducible first
      | assumption | apply State.keeps_ite | apply State.put_keeps | apply State.sts_keeps | apply State.wr_keeps
      | apply State.engEvent_keeps | apply State.raise_keeps

theorem State.ldrIdle_keeps (h : s0.Keeps s) : s0.Keeps (s.ldrIdle) := by
  unfold State.ldrIdle
  repeat' with_reducible first
      | assumption | apply State.keeps_ite | apply State.nvFinish_keeps | apply State.setNv_keeps
      | apply State.ldrShow_keeps | apply State.setLdr_keeps | apply State.keeps_foldl | apply State.keeps_foldl2
      | apply State.keeps_getD | (intro t x ht) | (intro t ht) | dsimp only
      | refine State.keeps_of_pair (by assumption) ?_ | refine State.keeps_of_triple (by assumption) ?_ | split

theorem State.ldrStart_keeps (h : s0.Keeps s) (target : Nat) (keep : Bool) (src : Nat) (addr : Nat) :
    s0.Keeps (s.ldrStart target keep src addr) := by
  unfold State.ldrStart
  repeat' with_reducible first
      | assumption | apply State.keeps_ite | apply State.ldrShow_keeps | apply State.setLdr_keeps
      | apply State.nvSubmit_keeps

theorem State.ldrCommand_keeps (h : s0.Keeps s) (v : Nat) : s0.Keeps (s.ldrCommand v) := by
  unfold State.ldrCommand
  repeat' with_reducible first
      | assumption | apply State.keeps_ite | apply State.ldrReject_keeps | apply State.ldrStart_keeps

theorem State.ldrRead_keeps (h : s0.Keeps s) : s0.Keeps (s.ldrRead).2 := by
  unfold State.ldrRead
  repeat' with_reducible first
      | assumption | apply State.keeps_ite | apply State.keeps_ite2 | apply State.keeps_ite3
      | apply State.nvCheckAll_keeps | apply State.memLoad_keeps | apply State.memTake_keeps | apply State.keeps_foldl
      | apply State.keeps_foldl2 | apply State.keeps_getD | (intro t x ht) | (intro t ht) | dsimp only
      | refine State.keeps_of_pair (by assumption) ?_ | refine State.keeps_of_triple (by assumption) ?_ | split

theorem State.ldrVerdict_keeps (h : s0.Keeps s) : s0.Keeps (s.ldrVerdict).2 := by
  unfold State.ldrVerdict
  repeat' with_reducible first
      | assumption | apply State.keeps_ite | apply State.keeps_ite2 | apply State.keeps_ite3
      | apply State.ldrRead_keeps | apply State.keeps_foldl | apply State.keeps_foldl2 | apply State.keeps_getD
      | (intro t x ht) | (intro t ht) | dsimp only | refine State.keeps_of_pair (by assumption) ?_
      | refine State.keeps_of_triple (by assumption) ?_ | split

theorem State.bootFail_keeps (h : s0.Keeps s) (cause : Nat) : s0.Keeps (s.bootFail cause) := by
  unfold State.bootFail
  repeat' with_reducible first
      | assumption | apply State.keeps_ite | apply State.raise_keeps | apply State.stsField_keeps

theorem State.bootDone_keeps (h : s0.Keeps s) : s0.Keeps (s.bootDone) := by
  unfold State.bootDone
  repeat' with_reducible first
      | assumption | apply State.keeps_ite | apply State.setSys_keeps | apply State.raise_keeps
      | apply State.sts_keeps | apply State.put_keeps

theorem State.engEmpty_keeps (h : s0.Keeps s) (k : Nat) : s0.Keeps (s.engEmpty k) := by
  unfold State.engEmpty
  split
  · exact h
  · exact State.wr_keeps (State.wr_keeps (State.wr_keeps (State.modEng_keeps h k _ (fun _ _ => Eng.reset_ok k)) _ _ _) _ _ _)
      _ _ _

theorem State.bootNext_keeps (l : List Nat) (h : s0.Keeps s) : s0.Keeps (State.bootNext l s) := by
  induction l generalizing s with
  | nil => exact State.bootDone_keeps (State.setSys_keeps h _)
  | cons k l ih =>
    unfold State.bootNext
    dsimp only
    split
    · exact State.ldrStart_keeps (State.setSys_keeps h _) _ _ _ _
    · split
      · exact ih (State.engEmpty_keeps (State.setSys_keeps h _) k)
      · split
        · exact State.ldrStart_keeps (State.setSys_keeps (State.setSys_keeps h _) _) _ _ _ _
        · split
          · exact State.ldrStart_keeps (State.setSys_keeps h _) _ _ _ _
          · exact ih (State.engEmpty_keeps (State.setSys_keeps h _) k)

theorem State.bootLoadFailed_keeps (h : s0.Keeps s) (k : Nat) : s0.Keeps (s.bootLoadFailed k) := by
  unfold State.bootLoadFailed
  repeat' with_reducible first
      | assumption | apply State.keeps_ite | apply State.setSys_keeps | apply State.put_keeps
      | apply State.bootFail_keeps | apply State.ldrStart_keeps | apply State.bootNext_keeps
      | apply State.engEmpty_keeps | apply State.keeps_foldl | apply State.keeps_foldl2 | apply State.keeps_getD
      | (intro t x ht) | (intro t ht) | dsimp only | refine State.keeps_of_pair (by assumption) ?_
      | refine State.keeps_of_triple (by assumption) ?_ | split

theorem State.engStart_keeps (h : s0.Keeps s) (k : Nat) : s0.Keeps (s.engStart k) :=
  State.modEng_keeps h k _ (fun _ _ => ⟨by simp, by simp, by simp, by simp⟩)

theorem State.bindQueues_keeps (h : s0.Keeps s) (k : Nat) (qs : List QBind) : s0.Keeps (s.bindQueues k qs) := by
  unfold State.bindQueues
  repeat' with_reducible first
      | assumption | apply State.keeps_ite | apply State.put_keeps | apply State.keeps_foldl
      | apply State.keeps_foldl2 | apply State.keeps_getD | (intro t x ht)

/-- Copying bytes into the memories keeps their canonical form. -/
theorem memCopy_wf (l : List Host.Cell) (a : Nat) (bs : List Byte) (h : Memory.wf l = true) :
    Memory.wf (memCopy l a bs) = true := by
  induction bs generalizing l a with
  | nil => exact h
  | cons b bs ih => exact ih _ _ (sparsePut_wf memDefault l a b h)

theorem imageMem_wf (l : List Host.Cell) (k : Nat) (img : Image) (keep : Bool) (h : Memory.wf l = true) :
    Memory.wf (imageMem l k img keep) = true := by
  have clear (m : List Host.Cell) (a b : Nat) (hm : Memory.wf m = true) : Memory.wf (sparseClear m a b) = true :=
    sparseFilter_wf memDefault _ m hm
  have h1 := memCopy_wf _ (engImem k) img.code (clear l (engImem k) (engImem k + engMemSize k) h)
  unfold imageMem
  dsimp only
  split
  · exact h1
  · exact memCopy_wf _ _ _ (clear _ _ _ h1)

theorem State.engCopy_keeps (h : s0.Keeps s) (k : Nat) (img : Image) (keep : Bool) :
    s0.Keeps (s.engCopy k img keep) := by
  have hs (l : List (Nat × Bool)) : s0.Keeps ((s.setMem (imageMem s.mem k img keep)).setEcc l) :=
    State.setEcc_keeps (State.setMem_keeps h _ (imageMem_wf _ k img keep)) l
  unfold State.engCopy
  dsimp only
  refine State.engStart_keeps (State.modEng_keeps (State.bindQueues_keeps ?_ k _) k _ (fun x hx => ?_)) k
  · split
    · exact hs _
    · split
      · exact State.modLp_keeps (State.modBlk_keeps (hs _) _ _) _ _
      · split
        · exact State.setSup_keeps (State.modBlk_keeps (hs _) _ _) _
        · exact State.modBlk_keeps (hs _) _ _
  · exact ⟨hx.1, hx.2.1, hx.2.2.1, hx.2.2.2⟩

end Sys2Proof.Machine
end

