-- ==== Sys2Proof/Laws/KeepsOps4.lean ====
section
/-!
SUPPORT. Keeping the queue and the invariant (State.Keeps), one lemma per operation of Machine/, from State.engCommand to
State.coreRead; each rests on the lemmas before it.
-/

namespace Sys2Proof.Machine

variable {s0 s : State}

theorem State.engCommand_keeps (h : s0.Keeps s) (k : Nat) (v : Nat) : s0.Keeps (s.engCommand k v) := by
  unfold State.engCommand
  repeat' with_reducible first
      | assumption | apply State.keeps_ite | apply State.engHaltNow_keeps | apply State.modEng_keeps
      | apply State.engStart_keeps | apply State.qUnhold_keeps | (intro x hx) | apply Eng.next_ok
      | apply Eng.report_ok | apply Eng.setW_ok | apply Eng.setEntry_ok | apply Eng.branch_ok | apply Eng.ite_ok
      | with_unfolding_all exact hx | apply State.keeps_foldl | apply State.keeps_foldl2 | apply State.keeps_getD
      | (intro t x ht) | (intro t ht) | dsimp only | refine State.keeps_of_pair (by assumption) ?_
      | refine State.keeps_of_triple (by assumption) ?_ | split

theorem State.engReset_keeps (h : s0.Keeps s) (k : Nat) : s0.Keeps (s.engReset k) := by
  unfold State.engReset
  repeat' with_reducible first
      | assumption | apply State.keeps_ite | apply State.qUnhold_keeps | apply State.put_keeps
      | apply State.modEng_keeps | apply State.engStart_keeps | (intro x hx) | apply Eng.next_ok | apply Eng.report_ok
      | apply Eng.setW_ok | apply Eng.setEntry_ok | apply Eng.branch_ok | apply Eng.ite_ok
      | with_unfolding_all exact hx | apply State.keeps_foldl | apply State.keeps_foldl2 | apply State.keeps_getD
      | (intro t x ht) | (intro t ht) | dsimp only | refine State.keeps_of_pair (by assumption) ?_
      | refine State.keeps_of_triple (by assumption) ?_ | split

theorem State.modPort_keeps (h : s0.Keeps s) (p : Nat) (f : GlPort → GlPort) : s0.Keeps (s.modPort p f) := by
  unfold State.modPort
  repeat' with_reducible first
      | assumption | apply State.keeps_ite | apply State.setGl_keeps

theorem State.setLink_keeps (h : s0.Keeps s) (p : Nat) (v : Nat) : s0.Keeps (s.setLink p v) := by
  unfold State.setLink
  repeat' with_reducible first
      | assumption | apply State.keeps_ite | apply State.glEvent_keeps | apply State.put_keeps

theorem State.setRstate_keeps (h : s0.Keeps s) (v : Nat) : s0.Keeps (s.setRstate v) := by
  unfold State.setRstate
  repeat' with_reducible first
      | assumption | apply State.keeps_ite | apply State.glEvent_keeps | apply State.put_keeps

theorem State.putOfs_keeps (h : s0.Keeps s) (o : Option Int) : s0.Keeps (s.putOfs o) := by
  unfold State.putOfs
  repeat' with_reducible first
      | assumption | apply State.keeps_ite | apply State.putPair_keeps

theorem State.glUnjoin_keeps (h : s0.Keeps s) : s0.Keeps (s.glUnjoin) := by
  unfold State.glUnjoin
  repeat' with_reducible first
      | assumption | apply State.keeps_ite | apply State.put_keeps | apply State.setGl_keeps
      | apply State.putOfs_keeps

theorem State.glHop_keeps (h : s0.Keeps s) (hv : Nat) (bad : Bool) : s0.Keeps (s.glHop hv bad) := by
  unfold State.glHop
  repeat' with_reducible first
      | assumption | apply State.keeps_ite | apply State.setGl_keeps | apply State.glUnjoin_keeps
      | apply State.setRstate_keeps

theorem State.glNews_keeps (h : s0.Keeps s) (hv : Nat) (code : Nat) : s0.Keeps (s.glNews hv code) := by
  unfold State.glNews
  repeat' with_reducible first
      | assumption | apply State.keeps_ite | apply State.glBroadcast_keeps

theorem State.glNewsRx_keeps (h : s0.Keeps s) (hv : Nat) (code : Nat) (mask : Nat) (pos : Nat) :
    s0.Keeps (s.glNewsRx hv code mask pos) := by
  unfold State.glNewsRx
  repeat' with_reducible first
      | assumption | apply State.keeps_ite | apply State.setGl_keeps | apply State.glHop_keeps

theorem State.tbModeWrite_keeps (h : s0.Keeps s) (v : Nat) : s0.Keeps (s.tbModeWrite v) := by
  unfold State.tbModeWrite
  repeat' with_reducible first
      | assumption | apply State.keeps_ite | apply State.tbGrant_keeps | apply State.wr_keeps

theorem State.tbSteerWrite_keeps (h : s0.Keeps s) (v : Nat) : s0.Keeps (s.tbSteerWrite v) := by
  unfold State.tbSteerWrite
  repeat' with_reducible first
      | assumption | apply State.keeps_ite | apply State.tbGrant_keeps | apply State.wr_keeps

theorem State.supRing_keeps (h : s0.Keeps s) : s0.Keeps (s.supRing) := by
  unfold State.supRing
  repeat' with_reducible first
      | assumption | apply State.keeps_ite | apply State.tbModeWrite_keeps | apply State.tbSteerWrite_keeps

theorem State.glForm_keeps (h : s0.Keeps s) : s0.Keeps (s.glForm) := by
  unfold State.glForm
  repeat' with_reducible first
      | assumption | apply State.keeps_ite | apply State.setGl_keeps | apply State.setRstate_keeps
      | apply State.glSend_keeps

theorem State.glTable_keeps (h : s0.Keeps s) (ids : List Nat) (broken : Nat) (st : Nat) :
    s0.Keeps (s.glTable ids broken st) := by
  unfold State.glTable
  repeat' with_reducible first
      | assumption | apply State.keeps_ite | apply State.put_keeps | apply State.wr_keeps | apply State.setGl_keeps
      | apply State.glUnjoin_keeps | apply State.setRstate_keeps

theorem State.glFormed_keeps (h : s0.Keeps s) (ids : List Nat) (broken : Nat) (st : Nat) :
    s0.Keeps (s.glFormed ids broken st) := by
  unfold State.glFormed
  repeat' with_reducible first
      | assumption | apply State.keeps_ite | apply State.glEvent_keeps | apply State.setRstate_keeps
      | apply State.glBroadcast_keeps | apply State.glTable_keeps | apply State.supRing_keeps
      | apply State.setGl_keeps

theorem State.glFormedOpen_keeps (h : s0.Keeps s) : s0.Keeps (s.glFormedOpen) := by
  unfold State.glFormedOpen
  repeat' with_reducible first
      | assumption | apply State.keeps_ite | apply State.glFormed_keeps

theorem State.glDisc_keeps (h : s0.Keeps s) (p : Nat) (pl : List Byte) : s0.Keeps (s.glDisc p pl) := by
  unfold State.glDisc
  repeat' with_reducible first
      | assumption | apply State.keeps_ite | apply State.glFormed_keeps | apply State.put_keeps
      | apply State.glSend_keeps | apply State.supRing_keeps | apply State.glTable_keeps | apply State.glNewsRx_keeps
      | apply State.setGl_keeps | apply State.keeps_foldl | apply State.keeps_foldl2 | apply State.keeps_getD
      | (intro t x ht) | (intro t ht) | dsimp only | refine State.keeps_of_pair (by assumption) ?_
      | refine State.keeps_of_triple (by assumption) ?_ | split

theorem State.supForm_keeps (h : s0.Keeps s) : s0.Keeps (s.supForm) := by
  unfold State.supForm
  repeat' with_reducible first
      | assumption | apply State.keeps_ite | apply State.glForm_keeps

theorem State.glDown_keeps (h : s0.Keeps s) (p : Nat) : s0.Keeps (s.glDown p) := by
  unfold State.glDown
  repeat' with_reducible first
      | assumption | apply State.keeps_ite | apply State.setLink_keeps | apply State.modPort_keeps
      | apply State.setGl_keeps | apply State.wr_keeps | apply State.glNews_keeps | apply State.glHop_keeps

theorem State.glDropAll_keeps (h : s0.Keeps s) : s0.Keeps (s.glDropAll) := by
  unfold State.glDropAll
  repeat' with_reducible first
      | assumption | apply State.keeps_ite | apply State.setRstate_keeps | apply State.setLink_keeps
      | apply State.put_keeps | apply State.glUnjoin_keeps | apply State.setGl_keeps

theorem State.glCtlWritten_keeps (h : s0.Keeps s) (old : Nat) : s0.Keeps (s.glCtlWritten old) := by
  unfold State.glCtlWritten
  repeat' with_reducible first
      | assumption | apply State.keeps_ite | apply State.setLink_keeps | apply State.glDropAll_keeps

theorem State.glCmd_keeps (h : s0.Keeps s) (v : Nat) : s0.Keeps (s.glCmd v) := by
  unfold State.glCmd
  repeat' with_reducible first
      | assumption | apply State.keeps_ite | apply State.glForm_keeps | apply State.glUnjoin_keeps

theorem State.glTimeTx_keeps (h : s0.Keeps s) (p : Nat) (init : Bool) (echo : Nat) :
    s0.Keeps (s.glTimeTx p init echo) := by
  unfold State.glTimeTx
  repeat' with_reducible first
      | assumption | apply State.keeps_ite | apply State.glNextSeq_keeps | apply State.setGl_keeps

theorem State.glExchange_keeps (h : s0.Keeps s) (pl : List Byte) (t4 : Nat) : s0.Keeps (s.glExchange pl t4) := by
  unfold State.glExchange
  repeat' with_reducible first
      | assumption | apply State.keeps_ite | apply State.setGl_keeps | apply State.wr_keeps | apply State.keeps_foldl
      | apply State.keeps_foldl2 | apply State.keeps_getD | (intro t x ht) | (intro t ht) | dsimp only
      | refine State.keeps_of_pair (by assumption) ?_ | refine State.keeps_of_triple (by assumption) ?_ | split

theorem State.glMean_keeps (h : s0.Keeps s) (o : Int) : s0.Keeps (s.glMean o) := by
  unfold State.glMean
  repeat' with_reducible first
      | assumption | apply State.keeps_ite | apply State.setGl_keeps | apply State.put_keeps

theorem State.glSample_keeps (h : s0.Keeps s) (o : Int) : s0.Keeps (s.glSample o) := by
  unfold State.glSample
  repeat' with_reducible first
      | assumption | apply State.keeps_ite | apply State.glMean_keeps | apply State.setGl_keeps
      | apply State.putOfs_keeps | apply State.glEvent_keeps | apply State.tbAlign_keeps | apply State.put_keeps

theorem State.glFirst_keeps (h : s0.Keeps s) (o : Int) (epoch : Nat) : s0.Keeps (s.glFirst o epoch) := by
  unfold State.glFirst
  repeat' with_reducible first
      | assumption | apply State.keeps_ite | apply State.put_keeps | apply State.tbStepped_keeps
      | apply State.tbAlign_keeps | apply State.setGl_keeps | apply State.putOfs_keeps

theorem State.glAlign_keeps (h : s0.Keeps s) (p : Nat) (est : Int) (epoch : Nat) :
    s0.Keeps (s.glAlign p est epoch) := by
  unfold State.glAlign
  repeat' with_reducible first
      | assumption | apply State.keeps_ite | apply State.glFirst_keeps | apply State.modPort_keeps
      | apply State.glSample_keeps

theorem State.glClosure_keeps (h : s0.Keeps s) (r : Int) : s0.Keeps (s.glClosure r) := by
  unfold State.glClosure
  repeat' with_reducible first
      | assumption | apply State.keeps_ite | apply State.wr_keeps

theorem State.glRank_keeps (h : s0.Keeps s) (r : Nat) : s0.Keeps (s.glRank r) := by
  unfold State.glRank
  repeat' with_reducible first
      | assumption | apply State.keeps_ite | apply State.rankChanged_keeps | apply State.setGl_keeps

theorem State.glTimeRx_keeps (h : s0.Keeps s) (p : Nat) (pl : List Byte) (arr : Nat) :
    s0.Keeps (s.glTimeRx p pl arr) := by
  unfold State.glTimeRx
  repeat' with_reducible first
      | assumption | apply State.keeps_ite | apply State.glExchange_keeps | apply State.glTimeTx_keeps
      | apply State.wr_keeps | apply State.glRank_keeps | apply State.setGl_keeps | apply State.glClosure_keeps
      | apply State.glAlign_keeps

theorem State.glStepRx_keeps (h : s0.Keeps s) (pl : List Byte) : s0.Keeps (s.glStepRx pl) := by
  unfold State.glStepRx
  split
  · exact h
  · exact State.setGl_keeps (State.tbStepped_keeps (State.setTb_keeps h _ (TbSt.move_ok _ _)) _ _) _

theorem State.glSyncAt_keeps (h : s0.Keeps s) (pl : List Byte) : s0.Keeps (s.glSyncAt pl) := by
  unfold State.glSyncAt
  repeat' with_reducible first
      | assumption | apply State.keeps_ite | apply State.syncRingArm_keeps | apply State.srRingStart_keeps
      | apply State.tevRingArm_keeps | apply State.snapRing_keeps | apply State.keeps_foldl | apply State.keeps_foldl2
      | apply State.keeps_getD | (intro t x ht) | (intro t ht) | dsimp only
      | refine State.keeps_of_pair (by assumption) ?_ | refine State.keeps_of_triple (by assumption) ?_ | split

theorem State.glFaultRx_keeps (h : s0.Keeps s) (src : Nat) (pl : List Byte) : s0.Keeps (s.glFaultRx src pl) := by
  unfold State.glFaultRx
  repeat' with_reducible first
      | assumption | apply State.keeps_ite | apply State.putPair_keeps | apply State.glEvent_keeps
      | apply State.put_keeps | apply State.fault_keeps

theorem State.setToken_keeps (h : s0.Keeps s) (d : Nat) (v : Option (Nat × Nat)) : s0.Keeps (s.setToken d v) := by
  unfold State.setToken
  repeat' with_reducible first
      | assumption | apply State.keeps_ite | apply State.setGl_keeps

theorem State.glTokenIn_keeps (h : s0.Keeps s) (d : Nat) : s0.Keeps (s.glTokenIn d) := by
  unfold State.glTokenIn
  repeat' with_reducible first
      | assumption | apply State.keeps_ite | apply State.setGl_keeps | apply State.setToken_keeps

theorem State.glInsertBulk_keeps (h : s0.Keeps s) (d : Nat) : s0.Keeps (s.glInsertBulk d) := by
  unfold State.glInsertBulk
  repeat' with_reducible first
      | assumption | apply State.keeps_ite | apply State.glNextSeq_keeps | apply State.glEmit_keeps
      | apply State.setToken_keeps | apply State.setGl_keeps | apply State.keeps_foldl | apply State.keeps_foldl2
      | apply State.keeps_getD | (intro t x ht) | (intro t ht) | dsimp only
      | refine State.keeps_of_pair (by assumption) ?_ | refine State.keeps_of_triple (by assumption) ?_ | split

theorem State.glDeparture_keeps (h : s0.Keeps s) (p : Nat) : s0.Keeps (s.glDeparture p).2 := by
  unfold State.glDeparture
  repeat' with_reducible first
      | assumption | apply State.keeps_ite | apply State.keeps_ite2 | apply State.keeps_ite3
      | apply State.takeFree_keeps

theorem State.glLeave_keeps (h : s0.Keeps s) (x : GlTx) (token : Bool) : s0.Keeps (s.glLeave x token) := by
  unfold State.glLeave
  repeat' with_reducible first
      | assumption | apply State.keeps_ite | apply State.keeps_ite2 | apply State.keeps_ite3 | apply State.emit_keeps
      | apply State.glDeparture_keeps | apply State.setGl_keeps | apply State.keeps_foldl | apply State.keeps_foldl2
      | apply State.keeps_getD | (intro t x ht) | (intro t ht) | dsimp only
      | refine State.keeps_of_pair (by assumption) ?_ | refine State.keeps_of_triple (by assumption) ?_ | split

theorem State.glIdleCell_keeps (h : s0.Keeps s) (p : Nat) (token : Bool) : s0.Keeps (s.glIdleCell p token) := by
  unfold State.glIdleCell
  repeat' with_reducible first
      | assumption | apply State.keeps_ite | apply State.glLeave_keeps | apply State.glNextSeq_keeps

theorem State.glSlot_keeps (h : s0.Keeps s) (k : SlotKind) (p : Nat) : s0.Keeps (s.glSlot k p) := by
  unfold State.glSlot
  repeat' with_reducible first
      | assumption | apply State.keeps_ite | apply State.setToken_keeps | apply State.glInsertBulk_keeps
      | apply State.glLeave_keeps | apply State.setGl_keeps | apply State.glIdleCell_keeps | apply State.keeps_foldl
      | apply State.keeps_foldl2 | apply State.keeps_getD | (intro t x ht) | (intro t ht) | dsimp only
      | refine State.keeps_of_pair (by assumption) ?_ | refine State.keeps_of_triple (by assumption) ?_ | split

theorem State.glTurn_keeps (h : s0.Keeps s) (p : Nat) : s0.Keeps (s.glTurn p) := by
  unfold State.glTurn
  repeat' with_reducible first
      | assumption | apply State.keeps_ite | apply State.glTokenIn_keeps | apply State.setToken_keeps

theorem State.glSlots_keeps (h : s0.Keeps s) : s0.Keeps (s.glSlots) := by
  unfold State.glSlots
  repeat' with_reducible first
      | assumption | apply State.keeps_ite | apply State.glSlot_keeps | apply State.glTurn_keeps
      | apply State.setGl_keeps | apply State.keeps_foldl | apply State.keeps_foldl2 | apply State.keeps_getD
      | (intro t x ht)

theorem State.glDeliver_keeps (h : s0.Keeps s) (b : BulkCell) : s0.Keeps (s.glDeliver b) := by
  unfold State.glDeliver
  repeat' with_reducible first
      | assumption | apply State.keeps_ite | apply State.keeps_ite2 | apply State.keeps_ite3 | apply State.setGl_keeps
      | apply State.qPutEngine_keeps | apply State.qDrop_keeps

theorem State.glDeliverAll_keeps (h : s0.Keeps s) : s0.Keeps (s.glDeliverAll) := by
  unfold State.glDeliverAll
  repeat' with_reducible first
      | assumption | apply State.keeps_ite | apply State.glDeliver_keeps | apply State.keeps_foldl
      | apply State.keeps_foldl2 | apply State.keeps_getD | (intro t x ht)

theorem State.glReturnCredits_keeps (h : s0.Keeps s) : s0.Keeps (s.glReturnCredits) := by
  unfold State.glReturnCredits
  repeat' with_reducible first
      | assumption | apply State.keeps_ite | apply State.glNextSeq_keeps | apply State.glQueue_keeps
      | apply State.setGl_keeps | apply State.keeps_foldl | apply State.keeps_foldl2 | apply State.keeps_getD
      | (intro t x ht)

theorem State.glIdle_keeps (h : s0.Keeps s) : s0.Keeps (s.glIdle) := by
  unfold State.glIdle
  repeat' with_reducible first
      | assumption | apply State.keeps_ite | apply State.glSlots_keeps | apply State.glReturnCredits_keeps
      | apply State.glDeliverAll_keeps | apply State.glDrain_keeps

theorem State.fltLatch_keeps (h : s0.Keeps s) (m : FaultMsg) : s0.Keeps (s.fltLatch m) := by
  unfold State.fltLatch
  repeat' with_reducible first
      | assumption | apply State.keeps_ite | apply State.wr_keeps | apply State.putPair_keeps
      | apply State.setFlt_keeps | apply State.count_keeps | apply State.setTev_keeps | apply State.engPend_keeps
      | apply State.raise_keeps | apply State.sts_keeps | apply State.qPutBlock_keeps

theorem State.fltDiscard_keeps (h : s0.Keeps s) : s0.Keeps (s.fltDiscard) := by
  unfold State.fltDiscard
  repeat' with_reducible first
      | assumption | apply State.keeps_ite | apply State.wr_keeps

theorem State.fltAck_keeps (h : s0.Keeps s) (seq : Nat) : s0.Keeps (s.fltAck seq) := by
  unfold State.fltAck
  repeat' with_reducible first
      | assumption | apply State.keeps_ite | apply State.setFlt_keeps | apply State.raise_keeps
      | apply State.sts_keeps

theorem State.fltClrRef_keeps (h : s0.Keeps s) : s0.Keeps (s.fltClrRef) := by
  unfold State.fltClrRef
  repeat' with_reducible first
      | assumption | apply State.keeps_ite | apply State.raise_keeps | apply State.sts_keeps

theorem State.fltToIdle_keeps (h : s0.Keeps s) : s0.Keeps (s.fltToIdle) := by
  unfold State.fltToIdle
  repeat' with_reducible first
      | assumption | apply State.keeps_ite | apply State.raise_keeps | apply State.sts_keeps | apply State.wr_keeps
      | apply State.setFlt_keeps

theorem State.faultInMsg_keeps (h : s0.Keeps s) : s0.Keeps (s.faultInMsg) := by
  unfold State.faultInMsg
  repeat' with_reducible first
      | assumption | apply State.keeps_ite | apply State.fault_keeps

theorem State.fltSoftReset_keeps (h : s0.Keeps s) : s0.Keeps (s.fltSoftReset) := by
  unfold State.fltSoftReset
  repeat' with_reducible first
      | assumption | apply State.keeps_ite | apply State.wr_keeps | apply State.setFlt_keeps

theorem State.resetRegs_keeps (h : s0.Keeps s) (w : Nat) (keep : List Nat) : s0.Keeps (s.resetRegs w keep) :=
  State.setAcc_keeps (State.setPar_keeps (State.setRegs_keeps h _ (sparseFilter_wf regReset _ _)) _) _

theorem State.resetSrc_keeps (h : s0.Keeps s) (n : Nat) : s0.Keeps (s.resetSrc n) := by
  unfold State.resetSrc
  repeat' with_reducible first
      | assumption | apply State.keeps_ite | apply State.srcOff_keeps | apply State.modSrc_keeps
      | apply State.resetRegs_keeps

theorem State.resetDpll_keeps (h : s0.Keeps s) (n : Nat) : s0.Keeps (s.resetDpll n) := by
  unfold State.resetDpll
  repeat' with_reducible first
      | assumption | apply State.keeps_ite | apply State.modDpll_keeps | apply State.resetRegs_keeps
      | apply State.bivTrack_keeps | apply State.estClear_keeps | apply State.modSel_keeps
      | apply State.enterLoop_keeps | apply State.learnCheck_keeps | apply State.brgDeliver_keeps

theorem State.resetBrg_keeps (h : s0.Keeps s) : s0.Keeps (s.resetBrg) := by
  unfold State.resetBrg
  repeat' with_reducible first
      | assumption | apply State.keeps_ite | apply State.resetRegs_keeps | apply State.setBrg_keeps
      | apply State.put_keeps | apply State.brgDeliver_keeps | apply State.keeps_foldl | apply State.keeps_foldl2
      | apply State.keeps_getD | (intro t x ht)

theorem State.resetApll_keeps (h : s0.Keeps s) (n : Nat) : s0.Keeps (s.resetApll n) := by
  unfold State.resetApll
  repeat' with_reducible first
      | assumption | apply State.keeps_ite | apply State.phiDrop_keeps | apply State.modApll_keeps
      | apply State.resetRegs_keeps

theorem State.resetOut_keeps (h : s0.Keeps s) (n : Nat) : s0.Keeps (s.resetOut n) := by
  unfold State.resetOut
  repeat' with_reducible first
      | assumption | apply State.keeps_ite | apply State.modOut_keeps | apply State.resetRegs_keeps

theorem State.resetSync_keeps (h : s0.Keeps s) : s0.Keeps (s.resetSync) := by
  unfold State.resetSync
  repeat' with_reducible first
      | assumption | apply State.keeps_ite | apply State.srDrop_keeps | apply State.setSync_keeps
      | apply State.resetRegs_keeps | apply State.keeps_foldl | apply State.keeps_foldl2 | apply State.keeps_getD
      | (intro t x ht)

theorem State.resetTb_keeps (h : s0.Keeps s) : s0.Keeps (s.resetTb) := by
  unfold State.resetTb
  repeat' with_reducible first
      | assumption | apply State.keeps_ite | apply State.setAcc_keeps | apply State.resetRegs_keeps
      | apply State.tbSoftReset_keeps

theorem State.resetTev_keeps (h : s0.Keeps s) : s0.Keeps (s.resetTev) := by
  unfold State.resetTev
  repeat' with_reducible first
      | assumption | apply State.keeps_ite | apply State.resetRegs_keeps | apply State.tevStop_keeps

theorem State.resetPtp_keeps (h : s0.Keeps s) (n : Nat) : s0.Keeps (s.resetPtp n) := by
  unfold State.resetPtp
  repeat' with_reducible first
      | assumption | apply State.keeps_ite | apply State.tbServoWord_keeps | apply State.putPair_keeps
      | apply State.modPtp_keeps | apply State.resetRegs_keeps

theorem State.resetEth_keeps (h : s0.Keeps s) (n : Nat) : s0.Keeps (s.resetEth n) := by
  unfold State.resetEth
  repeat' with_reducible first
      | assumption | apply State.keeps_ite | apply State.resetRegs_keeps | apply State.ethLinkLost_keeps

theorem State.resetSye_keeps (h : s0.Keeps s) : s0.Keeps (s.resetSye) := by
  unfold State.resetSye
  repeat' with_reducible first
      | assumption | apply State.keeps_ite | apply State.rankChanged_keeps | apply State.setTod_keeps
      | apply State.resetRegs_keeps

theorem State.resetUart_keeps (h : s0.Keeps s) : s0.Keeps (s.resetUart) := by
  unfold State.resetUart
  repeat' with_reducible first
      | assumption | apply State.keeps_ite | apply State.setTod_keeps | apply State.resetRegs_keeps

theorem State.resetDma_keeps (h : s0.Keeps s) : s0.Keeps (s.resetDma) := by
  unfold State.resetDma
  repeat' with_reducible first
      | assumption | apply State.keeps_ite | apply State.modRing_keeps | apply State.qDisable_keeps
      | apply State.resetRegs_keeps | apply State.keeps_foldl | apply State.keeps_foldl2 | apply State.keeps_getD
      | (intro t x ht)

theorem State.resetEvt_keeps (h : s0.Keeps s) : s0.Keeps (s.resetEvt) := by
  unfold State.resetEvt
  repeat' with_reducible first
      | assumption | apply State.keeps_ite | apply State.msixRefresh_keeps | apply State.resetRegs_keeps

theorem State.resetOsc_keeps (h : s0.Keeps s) : s0.Keeps (s.resetOsc) := by
  unfold State.resetOsc
  repeat' with_reducible first
      | assumption | apply State.keeps_ite | apply State.setOsc_keeps | apply State.resetRegs_keeps

theorem State.resetGl_keeps (h : s0.Keeps s) : s0.Keeps (s.resetGl) := by
  unfold State.resetGl
  repeat' with_reducible first
      | assumption | apply State.keeps_ite | apply State.put_keeps | apply State.resetRegs_keeps
      | apply State.glDropAll_keeps

theorem State.resetCal_keeps (h : s0.Keeps s) : s0.Keeps (s.resetCal) := by
  unfold State.resetCal
  repeat' with_reducible first
      | assumption | apply State.keeps_ite | apply State.resetRegs_keeps | apply State.calDefaults_keeps

theorem State.resetHlth_keeps (h : s0.Keeps s) : s0.Keeps (s.resetHlth) := by
  unfold State.resetHlth
  repeat' with_reducible first
      | assumption | apply State.keeps_ite | apply State.hlthKeep_keeps | apply State.resetRegs_keeps

theorem State.resetNvs_keeps (h : s0.Keeps s) : s0.Keeps (s.resetNvs) := by
  unfold State.resetNvs
  repeat' with_reducible first
      | assumption | apply State.keeps_ite | apply State.nvReset_keeps | apply State.resetRegs_keeps
      | apply State.put_keeps

theorem State.resetEng_keeps (h : s0.Keeps s) (k : Nat) : s0.Keeps (s.resetEng k) := by
  unfold State.resetEng
  repeat' with_reducible first
      | assumption | apply State.keeps_ite | apply State.engReset_keeps | apply State.resetRegs_keeps

theorem State.blockReset_keeps (h : s0.Keeps s) (w : Nat) : s0.Keeps (s.blockReset w) := by
  unfold State.blockReset
  repeat' with_reducible first
      | assumption | apply State.keeps_ite | apply State.resetSrc_keeps | apply State.resetDpll_keeps
      | apply State.resetBrg_keeps | apply State.resetApll_keeps | apply State.resetOut_keeps
      | apply State.resetSync_keeps | apply State.resetTb_keeps | apply State.resetTev_keeps
      | apply State.setTev_keeps | apply State.resetRegs_keeps | apply State.resetPtp_keeps
      | apply State.resetEth_keeps | apply State.resetSye_keeps | apply State.resetUart_keeps
      | apply State.resetDma_keeps | apply State.resetEvt_keeps | apply State.resetOsc_keeps
      | apply State.resetGl_keeps | apply State.resetCal_keeps | apply State.resetHlth_keeps
      | apply State.resetNvs_keeps | apply State.resetEng_keeps | apply State.keeps_foldl | apply State.keeps_foldl2
      | apply State.keeps_getD | (intro t x ht) | (intro t ht) | dsimp only
      | refine State.keeps_of_pair (by assumption) ?_ | refine State.keeps_of_triple (by assumption) ?_ | split

theorem State.softEngines_keeps (h : s0.Keeps s) : s0.Keeps (s.softEngines) := by
  unfold State.softEngines
  repeat' with_reducible first
      | assumption | apply State.keeps_ite | apply State.resetEng_keeps | apply State.resetRegs_keeps
      | apply State.setLdr_keeps | apply State.keeps_foldl | apply State.keeps_foldl2 | apply State.keeps_getD
      | (intro t x ht)

theorem State.bootStep4_keeps (h : s0.Keeps s) : s0.Keeps (s.bootStep4) := by
  unfold State.bootStep4
  repeat' with_reducible first
      | assumption | apply State.keeps_ite | apply State.loadRatios_keeps | apply State.bootBank_keeps
      | apply State.setSys_keeps | apply State.put_keeps | apply State.bootFail_keeps

theorem State.loadTrims_keeps (h : s0.Keeps s) : s0.Keeps (s.loadTrims) := by
  unfold State.loadTrims
  repeat' with_reducible first
      | assumption | apply State.keeps_ite | apply State.keeps_ite2 | apply State.keeps_ite3
      | apply State.nvTake_keeps | apply State.wr_keeps

theorem State.softReset_keeps (h : s0.Keeps s) : s0.Keeps (s.softReset) := by
  unfold State.softReset
  repeat' with_reducible first
      | assumption | apply State.keeps_ite | apply State.blockReset_keeps | apply State.resetRegs_keeps
      | apply State.fltSoftReset_keeps | apply State.softEngines_keeps | apply State.setHif_keeps
      | apply State.put_keeps | apply State.loadTrims_keeps | apply State.bootStep4_keeps | apply State.lifeAdd_keeps
      | apply State.setSys_keeps | apply State.keeps_foldl | apply State.keeps_foldl2 | apply State.keeps_getD
      | (intro t x ht)

theorem State.hardReset_keeps (h : s0.Keeps s) (sys : SysSt) : s0.Keeps (s.hardReset sys) := by
  refine ⟨(State.nvCut_keeps h).1, fun _ => ⟨by rfl, by rfl, ?_, ?_, ?_⟩⟩
  · unfold State.Sized
    simp [State.hardReset, State.reset]
  · refine ⟨?_, ?_, ?_⟩
    · change 0 % tickU = 0
      rfl
    · change 0 < 2 ^ 96
      norm_num
    · change 0 < stdWrap
      decide
  · intro x hx
    simp only [State.hardReset, State.reset, List.mem_ofFn] at hx
    obtain ⟨k, rfl⟩ := hx
    exact Eng.reset_ok k.val

theorem State.release_keeps (h : s0.Keeps s) (id : Nat) (boot : Nat) : s0.Keeps (s.release id boot) := by
  unfold State.release
  repeat' with_reducible first
      | assumption | apply State.keeps_ite | apply State.put_keeps | apply State.lifeAdd_keeps
      | apply State.bootStep4_keeps | apply State.loadTrims_keeps

theorem State.forcedResets_keeps (h : s0.Keeps s) : s0.Keeps (s.forcedResets) := by
  unfold State.forcedResets
  repeat' with_reducible first
      | assumption | apply State.keeps_ite | apply State.resetEng_keeps | apply State.resetGl_keeps
      | apply State.resetApll_keeps | apply State.keeps_foldl | apply State.keeps_foldl2 | apply State.keeps_getD
      | (intro t x ht)

theorem State.enterSafe_keeps (h : s0.Keeps s) : s0.Keeps (s.enterSafe) := by
  unfold State.enterSafe
  repeat' with_reducible first
      | assumption | apply State.keeps_ite | apply State.lifeCount_keeps | apply State.raise_keeps
      | apply State.sts_keeps | apply State.setFlt_keeps | apply State.freeze_keeps | apply State.forcedResets_keeps
      | apply State.outSafeCommand_keeps | apply State.keeps_foldl | apply State.keeps_foldl2 | apply State.keeps_getD
      | (intro t x ht)

theorem State.leaveSafe_keeps (h : s0.Keeps s) : s0.Keeps (s.leaveSafe) := by
  unfold State.leaveSafe
  repeat' with_reducible first
      | assumption | apply State.keeps_ite | apply State.unfreeze_keeps | apply State.lolOwed_keeps
      | apply State.keeps_foldl | apply State.keeps_foldl2 | apply State.keeps_getD | (intro t x ht)

theorem State.fltClear_keeps (h : s0.Keeps s) : s0.Keeps (s.fltClear) := by
  unfold State.fltClear
  repeat' with_reducible first
      | assumption | apply State.keeps_ite | apply State.fltClrRef_keeps | apply State.fltToIdle_keeps
      | apply State.leaveSafe_keeps | apply State.outSafeEnd_keeps | apply State.keeps_foldl
      | apply State.keeps_foldl2 | apply State.keeps_getD | (intro t x ht)

theorem State.fltArbiter_keeps (h : s0.Keeps s) (m : FaultMsg) : s0.Keeps (s.fltArbiter m) := by
  unfold State.fltArbiter
  repeat' with_reducible first
      | assumption | apply State.keeps_ite | apply State.fltLatch_keeps | apply State.lifeCount_keeps
      | apply State.glForwardFault_keeps | apply State.fltDiscard_keeps

theorem State.snapBlock_keeps (h : s0.Keeps s) (w : Nat) : s0.Keeps (s.snapBlock w) := by
  unfold State.snapBlock
  repeat' with_reducible first
      | assumption | apply State.keeps_ite | apply State.wr_keeps | apply State.putPair_keeps
      | apply State.keeps_foldl | apply State.keeps_foldl2 | apply State.keeps_getD | (intro t x ht) | (intro t ht)
      | dsimp only | refine State.keeps_of_pair (by assumption) ?_ | refine State.keeps_of_triple (by assumption) ?_
      | split

theorem State.snapLatchAll_keeps (h : s0.Keeps s) : s0.Keeps (s.snapLatchAll) := by
  unfold State.snapLatchAll
  repeat' with_reducible first
      | assumption | apply State.keeps_ite | apply State.snapBlock_keeps | apply State.keeps_foldl
      | apply State.keeps_foldl2 | apply State.keeps_getD | (intro t x ht)

theorem State.snapshot_keeps (h : s0.Keeps s) (c : Nat) : s0.Keeps (s.snapshot c) := by
  unfold State.snapshot
  repeat' with_reducible first
      | assumption | apply State.keeps_ite | apply State.wr_keeps | apply State.putInstant_keeps
      | apply State.snapLatchAll_keeps | apply State.put_keeps | apply State.raise_keeps | apply State.sts_keeps

theorem State.snapMiss_keeps (h : s0.Keeps s) : s0.Keeps (s.snapMiss) := by
  unfold State.snapMiss
  repeat' with_reducible first
      | assumption | apply State.keeps_ite | apply State.raise_keeps | apply State.sts_keeps | apply State.count_keeps

theorem State.stage_keeps (h : s0.Keeps s) (r : Req) (w : Nat) (off : Nat) (v : Nat) :
    s0.Keeps (s.stage r w off v) := by
  unfold State.stage
  repeat' with_reducible first
      | assumption | apply State.keeps_ite | apply State.setAcc_keeps

theorem State.latch_keeps (h : s0.Keeps s) (r : Req) (w : Nat) (offs : List Nat) : s0.Keeps (s.latch r w offs) := by
  unfold State.latch
  repeat' with_reducible first
      | assumption | apply State.keeps_ite | apply State.setAcc_keeps

theorem State.parCheck_keeps (h : s0.Keeps s) (w : Nat) (off : Nat) : s0.Keeps (s.parCheck w off) := by
  unfold State.parCheck
  repeat' with_reducible first
      | assumption | apply State.keeps_ite | apply State.setPar_keeps | apply State.fault_keeps
      | apply State.raise_keeps | apply State.sts_keeps | apply State.wr_keeps

theorem State.dpllRefuses_keeps (h : s0.Keeps s) {r : Req} {n : Nat} {off : Nat} {old : Nat} {v : Nat} {t : State}
    (e : State.dpllRefuses s r n off old v = some t) : s0.Keeps t := by
  unfold State.dpllRefuses at e
  dsimp only at e
  repeat' first | (split at e) | (injection e with e; subst e) | contradiction
  · exact State.sts_keeps h _ _ _
  · exact h
  · exact State.pstepRef_keeps h _

theorem State.dmaRefuses_keeps (h : s0.Keeps s) {off : Nat} {old : Nat} {v : Nat} {t : State}
    (e : State.dmaRefuses s off old v = some t) : s0.Keeps t := by
  unfold State.dmaRefuses at e
  dsimp only at e
  repeat' first | (split at e) | (injection e with e; subst e) | contradiction
  all_goals with_reducible first | exact State.qEvent_keeps h _ _ | exact State.sts_keeps h _ _ _ | exact h

theorem State.refuses_keeps (h : s0.Keeps s) {r : Req} {w : Nat} {off : Nat} {old : Nat} {v : Nat} {t : State}
    (e : State.refuses s r w off old v = some t) :
    s0.Keeps t := by
  unfold State.refuses at e
  repeat' first | (split at e) | (injection e with e; subst e) | contradiction
  all_goals
    repeat' with_reducible first
        | assumption | apply State.keeps_ite | apply State.keeps_ite2 | apply State.keeps_ite3
        | exact State.dpllRefuses_keeps (by assumption) (by assumption) | apply State.sts_keeps
        | apply State.outEvent_keeps | exact State.tbBacken_keeps (by assumption) (by assumption)
        | apply State.ptpCfgRef_keeps | exact State.dmaRefuses_keeps (by assumption) (by assumption)
        | apply State.tdataNext_keeps

theorem State.pstepWrite_keeps (h : s0.Keeps s) (r : Req) (n : Nat) (v : Nat) : s0.Keeps (s.pstepWrite r n v) := by
  unfold State.pstepWrite
  repeat' with_reducible first
      | assumption | apply State.keeps_ite | apply State.pstep_keeps | apply State.wr_keeps

theorem State.tbStepWrite_keeps (h : s0.Keeps s) (r : Req) (v : Nat) : s0.Keeps (s.tbStepWrite r v) := by
  unfold State.tbStepWrite
  repeat' with_reducible first
      | assumption | apply State.keeps_ite | apply State.tbGrant_keeps | apply State.putTriple_keeps

theorem State.ptpOfsWrite_keeps (h : s0.Keeps s) (r : Req) (n : Nat) (v : Nat) : s0.Keeps (s.ptpOfsWrite r n v) := by
  unfold State.ptpOfsWrite
  repeat' with_reducible first
      | assumption | apply State.keeps_ite | apply State.wr_keeps | apply State.ofsCommit_keeps

theorem State.nvCmdWrite_keeps (h : s0.Keeps s) (r : Req) (v : Nat) : s0.Keeps (s.nvCmdWrite r v) := by
  unfold State.nvCmdWrite
  repeat' with_reducible first
      | assumption | apply State.keeps_ite | apply State.nvCommand_keeps

theorem State.evtAck_keeps (h : s0.Keeps s) (g : Nat) (v : Nat) : s0.Keeps (s.evtAck g v) := by
  unfold State.evtAck
  repeat' with_reducible first
      | assumption | apply State.keeps_ite | apply State.msixRefresh_keeps | apply State.wr_keeps

theorem State.hold_keeps (h : s0.Keeps s) (r : Req) (w : Nat) (off : Nat) (v : Nat) : s0.Keeps (s.hold r w off v) := by
  unfold State.hold
  repeat' with_reducible first
      | assumption | apply State.keeps_ite | apply State.setAcc_keeps

theorem State.cmdAct_keeps (h : s0.Keeps s) (r : Req) (w : Nat) (off : Nat) (v : Nat) :
    s0.Keeps (s.cmdAct r w off v) := by
  unfold State.cmdAct
  repeat' with_reducible first
      | assumption | apply State.keeps_ite | apply State.keeps_ite2 | apply State.keeps_ite3
      | apply State.srcCmd_keeps | apply State.srcVerdict_keeps | apply State.pstepWrite_keeps
      | apply State.stepAbort_keeps | apply State.lpstatWritten_keeps | apply State.wr_keeps
      | apply State.selCmd_keeps | apply State.oscGen_keeps | apply State.outResume_keeps
      | apply State.syncCtlWritten_keeps | apply State.syncCmd_keeps | apply State.srCmd_keeps
      | apply State.tbStepWrite_keeps | apply State.tbResync_keeps
      | exact State.tbBacken_keeps (by assumption) (by assumption) | apply State.tevDisarmAll_keeps
      | apply State.tevCmd_keeps | apply State.snapCmd_keeps | apply State.ptpOfsWrite_keeps
      | apply State.ptpCmd_keeps | apply State.syeRx_keeps | apply State.glCmd_keeps | apply State.engCommand_keeps
      | apply State.ldrCommand_keeps | apply State.evtAck_keeps | apply State.fltAck_keeps | apply State.seqCmd_keeps
      | apply State.hlthCmd_keeps | apply State.nvCmdWrite_keeps | apply State.nvSlotCmd_keeps
      | apply State.softReset_keeps | apply State.blockReset_keeps | apply State.keeps_foldl
      | apply State.keeps_foldl2 | apply State.keeps_getD | (intro t x ht) | (intro t ht) | dsimp only
      | refine State.keeps_of_pair (by assumption) ?_ | refine State.keeps_of_triple (by assumption) ?_ | split

theorem State.cmdEffect_keeps (h : s0.Keeps s) (r : Req) (w : Nat) (off : Nat) (v : Nat) :
    s0.Keeps (s.cmdEffect r w off v) := by
  unfold State.cmdEffect
  repeat' with_reducible first
      | assumption | apply State.keeps_ite | apply State.hold_keeps | apply State.wr_keeps | apply State.cmdAct_keeps

theorem State.selWritten_keeps (h : s0.Keeps s) (n : Nat) (off : Nat) (old : Nat) :
    s0.Keeps (s.selWritten n off old) := by
  unfold State.selWritten
  repeat' with_reducible first
      | assumption | apply State.keeps_ite | apply State.selTrigger_keeps

theorem State.commitPair_keeps (h : s0.Keeps s) (r : Req) (w : Nat) (off : Nat) : s0.Keeps (s.commitPair r w off) := by
  unfold State.commitPair
  repeat' with_reducible first
      | assumption | apply State.keeps_ite | apply State.wr_keeps

theorem State.dpllWritten_keeps (h : s0.Keeps s) (r : Req) (n : Nat) (off : Nat) (old : Nat) :
    s0.Keeps (s.dpllWritten r n off old) := by
  unfold State.dpllWritten
  repeat' with_reducible first
      | assumption | apply State.keeps_ite | apply State.dpllEnabled_keeps | apply State.dpllDisabled_keeps
      | apply State.tiedSet_keeps | apply State.tiedCleared_keeps | apply State.modDpll_keeps
      | apply State.dcowCommit_keeps | apply State.commitPair_keeps | apply State.howordCommit_keeps
      | apply State.selWritten_keeps

theorem State.dmaWritten_keeps (h : s0.Keeps s) (off : Nat) (old : Nat) : s0.Keeps (s.dmaWritten off old) := by
  unfold State.dmaWritten
  repeat' with_reducible first
      | assumption | apply State.keeps_ite | apply State.modRing_keeps | apply State.setDidx_keeps
      | apply State.wr_keeps | apply State.ringClearErr_keeps | apply State.qDisable_keeps
      | apply State.qReleaseAll_keeps

theorem State.ptpEnWritten_keeps (h : s0.Keeps s) (n : Nat) (old : Nat) : s0.Keeps (s.ptpEnWritten n old) := by
  unfold State.ptpEnWritten
  repeat' with_reducible first
      | assumption | apply State.keeps_ite | apply State.put_keeps | apply State.ptpCtlWritten_keeps

theorem State.written_keeps (h : s0.Keeps s) (r : Req) (w : Nat) (off : Nat) (old : Nat) :
    s0.Keeps (s.written r w off old) := by
  unfold State.written
  repeat' with_reducible first
      | assumption | apply State.keeps_ite | apply State.srcEnWritten_keeps | apply State.dpllWritten_keeps
      | apply State.learnStart_keeps | apply State.oscTsel_keeps | apply State.apllOnNow_keeps
      | apply State.bandApply_keeps | apply State.apllOffNow_keeps | apply State.brgMapWritten_keeps
      | apply State.outCtlWritten_keeps | apply State.outRetarget_keeps | apply State.setFcal_keeps
      | apply State.syncCtlWritten_keeps | apply State.hold_keeps | apply State.tbGrant_keeps
      | apply State.commitPair_keeps | apply State.tbServoWord_keeps | apply State.tevDisarmAll_keeps
      | apply State.ptpEnWritten_keeps | apply State.pstateWritten_keeps | apply State.ethCtlWritten_keeps
      | apply State.uartCfgWritten_keeps | apply State.glCtlWritten_keeps | apply State.dmaWritten_keeps
      | apply State.msixRefresh_keeps | apply State.faultInMsg_keeps | apply State.calReform_keeps
      | apply State.tdataNext_keeps | apply State.tdataWrite_keeps | apply State.planWritten_keeps
      | apply State.lifeNext_keeps | apply State.lifeWrite_keeps | apply State.keeps_foldl | apply State.keeps_foldl2
      | apply State.keeps_getD | (intro t x ht) | (intro t ht) | dsimp only
      | refine State.keeps_of_pair (by assumption) ?_ | refine State.keeps_of_triple (by assumption) ?_ | split

theorem State.stsWrite_keeps (h : s0.Keeps s) (w : Nat) (off : Nat) (v : Nat) : s0.Keeps (s.stsWrite w off v) := by
  unfold State.stsWrite
  repeat' with_reducible first
      | assumption | apply State.keeps_ite | apply State.fltClear_keeps | apply State.wr_keeps

theorem State.guardWrite_keeps (h : s0.Keeps s) (f : Form) (v : Nat) : s0.Keeps (s.guardWrite f v).2 := by
  unfold State.guardWrite
  repeat' with_reducible first
      | assumption | apply State.keeps_ite | apply State.keeps_ite2 | apply State.keeps_ite3 | apply State.wr_keeps

theorem State.runTake_keeps (h : s0.Keeps s) (r : Req) (w : Nat) (off : Nat) (old : Nat) (v : Nat) :
    s0.Keeps (s.runTake r w off old v) := by
  unfold State.runTake
  repeat' with_reducible first
      | assumption | apply State.keeps_ite | apply State.stage_keeps | apply State.srvRef_keeps
      | apply State.written_keeps | apply State.wr_keeps

theorem State.runWrite_keeps (h : s0.Keeps s) (r : Req) (w : Nat) (off : Nat) (row : RegRow) (f : Form) (v : Nat) :
    s0.Keeps (s.runWrite r w off row f v).2 := by
  unfold State.runWrite
  repeat' with_reducible first
      | assumption | apply State.keeps_ite | apply State.keeps_ite2 | apply State.keeps_ite3
      | exact State.refuses_keeps (by assumption) (by assumption) | apply State.runTake_keeps
      | apply State.keeps_foldl | apply State.keeps_foldl2 | apply State.keeps_getD | (intro t x ht) | (intro t ht)
      | dsimp only | refine State.keeps_of_pair (by assumption) ?_ | refine State.keeps_of_triple (by assumption) ?_
      | split

theorem State.cmdWrite_keeps (h : s0.Keeps s) (r : Req) (w : Nat) (off : Nat) (f : Form) (v : Nat) :
    s0.Keeps (s.cmdWrite r w off f v).2 := by
  unfold State.cmdWrite
  repeat' with_reducible first
      | assumption | apply State.keeps_ite | apply State.keeps_ite2 | apply State.keeps_ite3
      | exact State.refuses_keeps (by assumption) (by assumption) | apply State.stage_keeps
      | apply State.cmdEffect_keeps | apply State.keeps_foldl | apply State.keeps_foldl2 | apply State.keeps_getD
      | (intro t x ht) | (intro t ht) | dsimp only | refine State.keeps_of_pair (by assumption) ?_
      | refine State.keeps_of_triple (by assumption) ?_ | split

theorem State.regWrite_keeps (h : s0.Keeps s) (r : Req) (w : Nat) (off : Nat) (f : Form) (v : Nat) :
    s0.Keeps (s.regWrite r w off f v).2 := by
  unfold State.regWrite
  repeat' with_reducible first
      | assumption | apply State.keeps_ite | apply State.keeps_ite2 | apply State.keeps_ite3
      | apply State.guardWrite_keeps | apply State.runWrite_keeps | apply State.cmdWrite_keeps
      | apply State.stsWrite_keeps | apply State.keeps_foldl | apply State.keeps_foldl2 | apply State.keeps_getD
      | (intro t x ht) | (intro t ht) | dsimp only | refine State.keeps_of_pair (by assumption) ?_
      | refine State.keeps_of_triple (by assumption) ?_ | split

theorem State.blockWrite_keeps (h : s0.Keeps s) (r : Req) (a : Nat) (v : Nat) : s0.Keeps (s.blockWrite r a v).2 := by
  unfold State.blockWrite
  repeat' with_reducible first
      | assumption | apply State.keeps_ite | apply State.keeps_ite2 | apply State.keeps_ite3
      | apply State.memStore_keeps | apply State.regWrite_keeps | apply State.keeps_foldl | apply State.keeps_foldl2
      | apply State.keeps_getD | (intro t x ht) | (intro t ht) | dsimp only
      | refine State.keeps_of_pair (by assumption) ?_ | refine State.keeps_of_triple (by assumption) ?_ | split

theorem State.pwrSample_keeps (h : s0.Keeps s) (w : Nat) (off : Nat) : s0.Keeps (s.pwrSample w off) := by
  unfold State.pwrSample
  repeat' with_reducible first
      | assumption | apply State.keeps_ite | apply State.keeps_ite2 | apply State.keeps_ite3
      | apply State.takeFree_keeps | apply State.wr_keeps

theorem State.readEffect_keeps (h : s0.Keeps s) (r : Req) (w : Nat) (off : Nat) : s0.Keeps (s.readEffect r w off) := by
  unfold State.readEffect
  repeat' with_reducible first
      | assumption | apply State.keeps_ite | apply State.latch_keeps | apply State.lsRead_keeps
      | apply State.tdataNext_keeps | apply State.lifeNext_keeps

theorem State.regRead_keeps (h : s0.Keeps s) (r : Req) (w : Nat) (off : Nat) : s0.Keeps (s.regRead r w off).2 := by
  unfold State.regRead
  repeat' with_reducible first
      | assumption | apply State.keeps_ite | apply State.keeps_ite2 | apply State.keeps_ite3
      | apply State.pwrSample_keeps | apply State.parCheck_keeps | apply State.readEffect_keeps
      | apply State.keeps_foldl | apply State.keeps_foldl2 | apply State.keeps_getD | (intro t x ht) | (intro t ht)
      | dsimp only | refine State.keeps_of_pair (by assumption) ?_ | refine State.keeps_of_triple (by assumption) ?_
      | split

theorem State.imemWord_keeps (h : s0.Keeps s) (k : Nat) (off : Nat) : s0.Keeps (s.imemWord k off).2 := by
  unfold State.imemWord
  repeat' with_reducible first
      | assumption | apply State.keeps_ite | apply State.keeps_ite2 | apply State.keeps_ite3
      | apply State.memLoad_keeps | apply State.keeps_foldl | apply State.keeps_foldl2 | apply State.keeps_getD
      | (intro t x ht) | (intro t ht) | dsimp only | refine State.keeps_of_pair (by assumption) ?_
      | refine State.keeps_of_triple (by assumption) ?_ | split

theorem State.blockRead_keeps (h : s0.Keeps s) (r : Req) (a : Nat) : s0.Keeps (s.blockRead r a).2 := by
  unfold State.blockRead
  repeat' with_reducible first
      | assumption | apply State.keeps_ite | apply State.keeps_ite2 | apply State.keeps_ite3
      | apply State.imemWord_keeps | apply State.memLoad_keeps | apply State.regRead_keeps | apply State.keeps_foldl
      | apply State.keeps_foldl2 | apply State.keeps_getD | (intro t x ht) | (intro t ht) | dsimp only
      | refine State.keeps_of_pair (by assumption) ?_ | refine State.keeps_of_triple (by assumption) ?_ | split

theorem State.coreWrite_keeps (h : s0.Keeps s) (r : Req) (a : Nat) (be : BitVec 4) (v : Nat) :
    s0.Keeps (s.coreWrite r a be v).2 := by
  unfold State.coreWrite
  repeat' with_reducible first
      | assumption | apply State.keeps_ite | apply State.keeps_ite2 | apply State.keeps_ite3
      | apply State.accRecord_keeps | apply State.blockWrite_keeps | apply State.keeps_foldl
      | apply State.keeps_foldl2 | apply State.keeps_getD | (intro t x ht) | (intro t ht) | dsimp only
      | refine State.keeps_of_pair (by assumption) ?_ | refine State.keeps_of_triple (by assumption) ?_ | split

theorem State.coreRead_keeps (h : s0.Keeps s) (r : Req) (a : Nat) (be : BitVec 4) :
    s0.Keeps (s.coreRead r a be).2.2 := by
  unfold State.coreRead
  repeat' with_reducible first
      | assumption | apply State.keeps_ite | apply State.keeps_ite2 | apply State.keeps_ite3
      | apply State.accRecord_keeps | apply State.blockRead_keeps | apply State.keeps_foldl | apply State.keeps_foldl2
      | apply State.keeps_getD | (intro t x ht) | (intro t ht) | dsimp only
      | refine State.keeps_of_pair (by assumption) ?_ | refine State.keeps_of_triple (by assumption) ?_ | split

end Sys2Proof.Machine
end

