-- ==== Sys2Proof/Laws/KeepsOps5.lean ====
section
/-!
SUPPORT. Keeping the queue and the invariant (State.Keeps), one lemma per operation of Machine/, from State.timeoutAccess to
State.idle; each rests on the lemmas before it.
-/

namespace Sys2Proof.Machine

variable {s0 s : State}

theorem State.timeoutAccess_keeps (h : s0.Keeps s) (r : Req) (a : Nat) (v : Option Word) :
    s0.Keeps (s.timeoutAccess r a v).2.2 := by
  unfold State.timeoutAccess
  repeat' with_reducible first
      | assumption | apply State.keeps_ite | apply State.keeps_ite2 | apply State.keeps_ite3
      | apply State.accRecord_keeps | apply State.setAcc_keeps | apply State.keeps_foldl | apply State.keeps_foldl2
      | apply State.keeps_getD | (intro t x ht) | (intro t ht) | dsimp only
      | refine State.keeps_of_pair (by assumption) ?_ | refine State.keeps_of_triple (by assumption) ?_ | split

theorem State.scriptRun_keeps (l : List (Nat × Nat)) (i : Nat) (h : s0.Keeps s) :
    s0.Keeps (State.scriptRun l i s).2 := by
  induction l generalizing s i with
  | nil => exact h
  | cons e l ih =>
    unfold State.scriptRun
    have hw := State.coreWrite_keeps h .script e.1 15 e.2
    split
    · exact h
    · dsimp only
      split
      · exact ih (i + 1) hw
      · exact hw

theorem State.scriptFail_keeps (h : s0.Keeps s) (i : Nat) : s0.Keeps (s.scriptFail i) := by
  unfold State.scriptFail
  repeat' with_reducible first
      | assumption | apply State.keeps_ite | apply State.put_keeps | apply State.bootFail_keeps

theorem State.bootScript_keeps (h : s0.Keeps s) : s0.Keeps (s.bootScript) := by
  unfold State.bootScript
  repeat' with_reducible first
      | assumption | apply State.keeps_ite | apply State.keeps_ite2 | apply State.keeps_ite3
      | apply State.nvTake_keeps | apply State.takeFree_keeps | apply State.scriptFail_keeps
      | apply State.scriptRun_keeps | apply State.raise_keeps | apply State.sts_keeps | apply State.put_keeps
      | apply State.keeps_foldl | apply State.keeps_foldl2 | apply State.keeps_getD | (intro t x ht) | (intro t ht)
      | dsimp only | refine State.keeps_of_pair (by assumption) ?_ | refine State.keeps_of_triple (by assumption) ?_
      | split

theorem State.bootStep5_keeps (h : s0.Keeps s) : s0.Keeps (s.bootStep5) := by
  unfold State.bootStep5
  repeat' with_reducible first
      | assumption | apply State.keeps_ite | apply State.bootScript_keeps | apply State.bootNext_keeps
      | apply State.setSys_keeps

theorem State.softResume_keeps (h : s0.Keeps s) : s0.Keeps (s.softResume) := by
  unfold State.softResume
  repeat' with_reducible first
      | assumption | apply State.keeps_ite | apply State.bootStep5_keeps

theorem State.busWrite_keeps (h : s0.Keeps s) (r : Req) (a : Nat) (be : BitVec 4) (v : Nat) :
    s0.Keeps (s.busWrite r a be v).2 := by
  unfold State.busWrite
  repeat' with_reducible first
      | assumption | apply State.keeps_ite | apply State.keeps_ite2 | apply State.keeps_ite3
      | apply State.coreWrite_keeps | apply State.softResume_keeps

theorem State.busRead_keeps (h : s0.Keeps s) (r : Req) (a : Nat) (be : BitVec 4) : s0.Keeps (s.busRead r a be).2.2 := by
  unfold State.busRead
  repeat' with_reducible first
      | assumption | apply State.keeps_ite | apply State.keeps_ite2 | apply State.keeps_ite3
      | apply State.coreRead_keeps

theorem State.doorWrite_keeps (h : s0.Keeps s) (r : Req) (a : Nat) (be : BitVec 4) (v : Nat) :
    s0.Keeps (s.doorWrite r a be v) := by
  unfold State.doorWrite
  repeat' with_reducible first
      | assumption | apply State.keeps_ite | apply State.keeps_ite2 | apply State.keeps_ite3
      | apply State.busWrite_keeps | apply State.emit_keeps

theorem State.doorRead_keeps (h : s0.Keeps s) (r : Req) (a : Nat) (be : BitVec 4) : s0.Keeps (s.doorRead r a be) := by
  unfold State.doorRead
  repeat' with_reducible first
      | assumption | apply State.keeps_ite | apply State.keeps_ite2 | apply State.keeps_ite3
      | apply State.busRead_keeps | apply State.emit_keeps

theorem State.supplyRegs_keeps (h : s0.Keeps s) : s0.Keeps (s.supplyRegs) := by
  unfold State.supplyRegs
  repeat' with_reducible first
      | assumption | apply State.keeps_ite | apply State.put_keeps

theorem State.engWrite_keeps (h : s0.Keeps s) (k : Nat) (w : Nat) (off : Nat) (v : Nat) :
    s0.Keeps (s.engWrite k w off v) := by
  unfold State.engWrite
  repeat' with_reducible first
      | assumption | apply State.keeps_ite | apply State.keeps_ite2 | apply State.keeps_ite3
      | apply State.busWrite_keeps

theorem State.lpStat_keeps (h : s0.Keeps s) (n : Nat) (lsb : Nat) (width : Nat) (v : Nat) :
    s0.Keeps (s.lpStat n lsb width v) := by
  unfold State.lpStat
  repeat' with_reducible first
      | assumption | apply State.keeps_ite | apply State.engWrite_keeps

theorem State.blkReject_keeps (h : s0.Keeps s) (k : Nat) (rom : Nat) (reason : Nat) :
    s0.Keeps (s.blkReject k rom reason) := by
  unfold State.blkReject
  repeat' with_reducible first
      | assumption | apply State.keeps_ite | apply State.memStore_keeps | apply State.lpStat_keeps

theorem State.blkTake_keeps (h : s0.Keeps s) (k : Nat) (rom : Nat) (bs : List Byte) :
    s0.Keeps (s.blkTake k rom bs) := by
  unfold State.blkTake
  repeat' with_reducible first
      | assumption | apply State.keeps_ite | apply State.modBlk_keeps | apply State.blkReject_keeps
      | apply State.memStore_keeps

theorem State.blkStart_keeps (h : s0.Keeps s) (k : Nat) (rom : Nat) : s0.Keeps (s.blkStart k rom) := by
  unfold State.blkStart
  repeat' with_reducible first
      | assumption | apply State.keeps_ite | apply State.keeps_ite2 | apply State.keeps_ite3
      | apply State.wordsTake_keeps | apply State.blkTake_keeps | apply State.modBlk_keeps
      | apply State.blkReject_keeps | apply State.memFill_keeps

theorem State.blkJudge_keeps (h : s0.Keeps s) (k : Nat) (rom : Nat) : s0.Keeps (s.blkJudge k rom) := by
  unfold State.blkJudge
  repeat' with_reducible first
      | assumption | apply State.keeps_ite | apply State.keeps_ite2 | apply State.keeps_ite3
      | apply State.memLoad_keeps | apply State.wordsTake_keeps | apply State.blkTake_keeps | apply State.modBlk_keeps
      | apply State.blkReject_keeps

theorem State.applyKinds_keeps (h : s0.Keeps s) : s0.Keeps (s.applyKinds) := by
  unfold State.applyKinds
  repeat' with_reducible first
      | assumption | apply State.keeps_ite | apply State.modSrc_keeps | apply State.consLow_keeps
      | apply State.keeps_foldl | apply State.keeps_foldl2 | apply State.keeps_getD | (intro t x ht)

theorem State.consShow_keeps (h : s0.Keeps s) (before : State) (n : Nat) (w : Nat) :
    s0.Keeps (s.consShow before n w) := by
  unfold State.consShow
  repeat' with_reducible first
      | assumption | apply State.keeps_ite | apply State.wr_keeps | apply State.modSrc_keeps | apply State.put_keeps
      | apply State.keeps_foldl | apply State.keeps_foldl2 | apply State.keeps_getD | (intro t x ht)

theorem State.consensus_keeps (h : s0.Keeps s) (w : Nat) : s0.Keeps (s.consensus w) := by
  unfold State.consensus
  repeat' with_reducible first
      | assumption | apply State.keeps_ite | apply State.applyKinds_keeps | apply State.consShow_keeps
      | apply State.keeps_foldl | apply State.keeps_foldl2 | apply State.keeps_getD | (intro t x ht)

theorem State.monVerdicts_keeps (h : s0.Keeps s) (k : Nat) (w : Nat) : s0.Keeps (s.monVerdicts k w) := by
  unfold State.monVerdicts
  repeat' with_reducible first
      | assumption | apply State.keeps_ite | apply State.engWrite_keeps | apply State.keeps_foldl
      | apply State.keeps_foldl2 | apply State.keeps_getD | (intro t x ht)

theorem State.monRun_keeps (h : s0.Keeps s) (k : Nat) (ev : Nat) : s0.Keeps (s.monRun k ev) := by
  unfold State.monRun
  repeat' with_reducible first
      | assumption | apply State.keeps_ite | apply State.blkStart_keeps | apply State.blkJudge_keeps
      | apply State.monVerdicts_keeps | apply State.consensus_keeps

theorem State.lpWrite_keeps (h : s0.Keeps s) (n : Nat) (off : Nat) (v : Nat) : s0.Keeps (s.lpWrite n off v) := by
  unfold State.lpWrite
  repeat' with_reducible first
      | assumption | apply State.keeps_ite | apply State.engWrite_keeps

theorem State.lpCommit_keeps (h : s0.Keeps s) (n : Nat) (w : Int) : s0.Keeps (s.lpCommit n w) := by
  unfold State.lpCommit
  repeat' with_reducible first
      | assumption | apply State.keeps_ite | apply State.modLp_keeps | apply State.lpWrite_keeps

theorem State.lpHoword_keeps (h : s0.Keeps s) (n : Nat) (w : Int) : s0.Keeps (s.lpHoword n w) := by
  unfold State.lpHoword
  repeat' with_reducible first
      | assumption | apply State.keeps_ite | apply State.lpWrite_keeps

theorem State.lpStage_keeps (h : s0.Keeps s) (n : Nat) (j : Nat) : s0.Keeps (s.lpStage n j) := by
  unfold State.lpStage
  repeat' with_reducible first
      | assumption | apply State.keeps_ite | apply State.lpStat_keeps | apply State.modLp_keeps

theorem State.lpSchedule_keeps (h : s0.Keeps s) (n : Nat) : s0.Keeps (s.lpSchedule n) := by
  unfold State.lpSchedule
  repeat' with_reducible first
      | assumption | apply State.keeps_ite | apply State.modLp_keeps | apply State.lpStage_keeps

theorem State.lpFilter_keeps (h : s0.Keeps s) (n : Nat) : s0.Keeps (s.lpFilter n) := by
  unfold State.lpFilter
  repeat' with_reducible first
      | assumption | apply State.keeps_ite | apply State.keeps_ite2 | apply State.keeps_ite3
      | apply State.lpSchedule_keeps | apply State.modSrc_keeps | apply State.takeFree_keeps
      | apply State.lpCommit_keeps | apply State.lpStat_keeps | apply State.modLp_keeps | apply State.keeps_foldl
      | apply State.keeps_foldl2 | apply State.keeps_getD | (intro t x ht) | (intro t ht) | dsimp only
      | refine State.keeps_of_pair (by assumption) ?_ | refine State.keeps_of_triple (by assumption) ?_ | split

theorem State.lpOwed_keeps (h : s0.Keeps s) (n : Nat) : s0.Keeps (s.lpOwed n) := by
  unfold State.lpOwed
  repeat' with_reducible first
      | assumption | apply State.keeps_ite | apply State.modLp_keeps | apply State.lpStage_keeps
      | apply State.lpStat_keeps

theorem State.lpTrack_keeps (h : s0.Keeps s) (n : Nat) : s0.Keeps (s.lpTrack n) := by
  unfold State.lpTrack
  repeat' with_reducible first
      | assumption | apply State.keeps_ite | apply State.modLp_keeps | apply State.lpStage_keeps
      | apply State.lpCommit_keeps | apply State.lpFilter_keeps | apply State.lpOwed_keeps

theorem State.lpBvq_keeps (h : s0.Keeps s) (n : Nat) (b : BivCase) : s0.Keeps (s.lpBvq n b) := by
  unfold State.lpBvq
  repeat' with_reducible first
      | assumption | apply State.keeps_ite | apply State.engWrite_keeps

theorem State.lpBivouac_keeps (h : s0.Keeps s) (n : Nat) (gen : Bool) : s0.Keeps (s.lpBivouac n gen) := by
  unfold State.lpBivouac
  repeat' with_reducible first
      | assumption | apply State.keeps_ite | apply State.lpCommit_keeps | apply State.modLp_keeps
      | apply State.lpBvq_keeps

theorem State.lpLearn_keeps (h : s0.Keeps s) (n : Nat) (st : Nat) : s0.Keeps (s.lpLearn n st) := by
  unfold State.lpLearn
  repeat' with_reducible first
      | assumption | apply State.keeps_ite | apply State.modLp_keeps | apply State.lpHoword_keeps

theorem State.lpHoTick_keeps (h : s0.Keeps s) (n : Nat) : s0.Keeps (s.lpHoTick n) := by
  unfold State.lpHoTick
  repeat' with_reducible first
      | assumption | apply State.keeps_ite | apply State.modLp_keeps | apply State.lpHoword_keeps
      | apply State.keeps_foldl | apply State.keeps_foldl2 | apply State.keeps_getD | (intro t x ht) | (intro t ht)
      | dsimp only | refine State.keeps_of_pair (by assumption) ?_ | refine State.keeps_of_triple (by assumption) ?_
      | split

theorem State.lpUpdate_keeps (h : s0.Keeps s) (n : Nat) : s0.Keeps (s.lpUpdate n) := by
  unfold State.lpUpdate
  repeat' with_reducible first
      | assumption | apply State.keeps_ite | apply State.lpWrite_keeps | apply State.lpStat_keeps
      | apply State.modLp_keeps | apply State.lpStage_keeps | apply State.lpBvq_keeps | apply State.lpBivouac_keeps
      | apply State.lpCommit_keeps | apply State.lpTrack_keeps | apply State.lpLearn_keeps

theorem State.lpStart_keeps (h : s0.Keeps s) (n : Nat) : s0.Keeps (s.lpStart n) := by
  unfold State.lpStart
  repeat' with_reducible first
      | assumption | apply State.keeps_ite | apply State.blkStart_keeps | apply State.lpStage_keeps
      | apply State.modLp_keeps

theorem State.lpRun_keeps (h : s0.Keeps s) (n : Nat) (ev : Nat) : s0.Keeps (s.lpRun n ev) := by
  unfold State.lpRun
  repeat' with_reducible first
      | assumption | apply State.keeps_ite | apply State.lpStart_keeps | apply State.lpUpdate_keeps
      | apply State.blkJudge_keeps

theorem State.modProg_keeps (h : s0.Keeps s) (n : Nat) (f : PtProg → PtProg) : s0.Keeps (s.modProg n f) := by
  unfold State.modProg
  repeat' with_reducible first
      | assumption | apply State.keeps_ite | apply State.modPtp_keeps

theorem State.ptWrite_keeps (h : s0.Keeps s) (n : Nat) (w : Nat) (off : Nat) (v : Nat) :
    s0.Keeps (s.ptWrite n w off v) := by
  unfold State.ptWrite
  repeat' with_reducible first
      | assumption | apply State.keeps_ite | apply State.engWrite_keeps

theorem State.ptHold_keeps (h : s0.Keeps s) (n : Nat) (delta : Int) : s0.Keeps (s.ptHold n delta) := by
  unfold State.ptHold
  repeat' with_reducible first
      | assumption | apply State.keeps_ite | apply State.ptWrite_keeps | apply State.modProg_keeps

theorem State.ptAcceptDelay_keeps (h : s0.Keeps s) (n : Nat) (mpd : Int) : s0.Keeps (s.ptAcceptDelay n mpd) := by
  unfold State.ptAcceptDelay
  repeat' with_reducible first
      | assumption | apply State.keeps_ite | apply State.modProg_keeps | apply State.ptWrite_keeps

theorem State.ptDelay_keeps (h : s0.Keeps s) (n : Nat) (mpd : Int) (epoch : Nat) :
    s0.Keeps (s.ptDelay n mpd epoch) := by
  unfold State.ptDelay
  repeat' with_reducible first
      | assumption | apply State.keeps_ite | apply State.modProg_keeps | apply State.ptHold_keeps
      | apply State.ptAcceptDelay_keeps

theorem State.ptWindow_keeps (h : s0.Keeps s) (n : Nat) (o : Int) : s0.Keeps (s.ptWindow n o) := by
  unfold State.ptWindow
  repeat' with_reducible first
      | assumption | apply State.keeps_ite | apply State.modProg_keeps | apply State.ptHold_keeps
      | apply State.keeps_foldl | apply State.keeps_foldl2 | apply State.keeps_getD | (intro t x ht) | (intro t ht)
      | dsimp only | refine State.keeps_of_pair (by assumption) ?_ | refine State.keeps_of_triple (by assumption) ?_
      | split

theorem State.ptCommit_keeps (h : s0.Keeps s) (n : Nat) (epoch : Nat) (mpd : Int) (o : Int) :
    s0.Keeps (s.ptCommit n epoch mpd o) := by
  unfold State.ptCommit
  repeat' with_reducible first
      | assumption | apply State.keeps_ite | apply State.ptWrite_keeps

theorem State.ptOffset_keeps (h : s0.Keeps s) (n : Nat) : s0.Keeps (s.ptOffset n) := by
  unfold State.ptOffset
  repeat' with_reducible first
      | assumption | apply State.keeps_ite | apply State.ptWindow_keeps | apply State.ptCommit_keeps
      | apply State.keeps_foldl | apply State.keeps_foldl2 | apply State.keeps_getD | (intro t x ht) | (intro t ht)
      | dsimp only | refine State.keeps_of_pair (by assumption) ?_ | refine State.keeps_of_triple (by assumption) ?_
      | split

theorem State.ptSync_keeps (h : s0.Keeps s) (n : Nat) (t1 : Int) (t2 : PtpStamp) : s0.Keeps (s.ptSync n t1 t2) := by
  unfold State.ptSync
  repeat' with_reducible first
      | assumption | apply State.keeps_ite | apply State.ptOffset_keeps | apply State.modProg_keeps

theorem State.ptDelayResp_keeps (h : s0.Keeps s) (n : Nat) (seq : Nat) (t4 : Int) :
    s0.Keeps (s.ptDelayResp n seq t4) := by
  unfold State.ptDelayResp
  repeat' with_reducible first
      | assumption | apply State.keeps_ite | apply State.modProg_keeps | apply State.ptDelay_keeps
      | apply State.keeps_foldl | apply State.keeps_foldl2 | apply State.keeps_getD | (intro t x ht) | (intro t ht)
      | dsimp only | refine State.keeps_of_pair (by assumption) ?_ | refine State.keeps_of_triple (by assumption) ?_
      | split

theorem State.ptPeer_keeps (h : s0.Keeps s) (n : Nat) (t4 : PtpStamp) (turn : Int) : s0.Keeps (s.ptPeer n t4 turn) := by
  unfold State.ptPeer
  repeat' with_reducible first
      | assumption | apply State.keeps_ite | apply State.modProg_keeps | apply State.ptDelay_keeps
      | apply State.keeps_foldl | apply State.keeps_foldl2 | apply State.keeps_getD | (intro t x ht) | (intro t ht)
      | dsimp only | refine State.keeps_of_pair (by assumption) ?_ | refine State.keeps_of_triple (by assumption) ?_
      | split

theorem State.ptMessage_keeps (h : s0.Keeps s) (n : Nat) (f : List Byte) (hv : Nat) (t : PtpStamp) :
    s0.Keeps (s.ptMessage n f hv t) := by
  unfold State.ptMessage
  repeat' with_reducible first
      | assumption | apply State.keeps_ite | apply State.modProg_keeps | apply State.ptSync_keeps
      | apply State.ptDelayResp_keeps | apply State.ptPeer_keeps | apply State.keeps_foldl | apply State.keeps_foldl2
      | apply State.keeps_getD | (intro t x ht) | (intro t ht) | dsimp only
      | refine State.keeps_of_pair (by assumption) ?_ | refine State.keeps_of_triple (by assumption) ?_ | split

theorem State.ptSend_keeps (h : s0.Keeps s) (n : Nat) (f : List Byte) : s0.Keeps (s.ptSend n f) := by
  unfold State.ptSend
  repeat' with_reducible first
      | assumption | apply State.keeps_ite | apply State.keeps_ite2 | apply State.keeps_ite3
      | apply State.modProg_keeps | apply State.memFill_keeps | apply State.qPutEngine_keeps

theorem State.ptEsmc_keeps (h : s0.Keeps s) (n : Nat) (event : Bool) : s0.Keeps (s.ptEsmc n event) := by
  unfold State.ptEsmc
  repeat' with_reducible first
      | assumption | apply State.keeps_ite | apply State.ptSend_keeps

theorem State.ptTake_keeps (h : s0.Keeps s) (n : Nat) (e : BitVec 256) : s0.Keeps (s.ptTake n e) := by
  unfold State.ptTake
  repeat' with_reducible first
      | assumption | apply State.keeps_ite | apply State.keeps_ite2 | apply State.keeps_ite3
      | apply State.memLoad_keeps | apply State.memTake_keeps | apply State.ptMessage_keeps
      | apply State.modProg_keeps | apply State.ptWrite_keeps

theorem State.ptRun_keeps (h : s0.Keeps s) (k : Nat) (ev : Nat) : s0.Keeps (s.ptRun k ev) := by
  unfold State.ptRun
  repeat' with_reducible first
      | assumption | apply State.keeps_ite | apply State.keeps_ite2 | apply State.keeps_ite3
      | apply State.modProg_keeps | apply State.blkStart_keeps | apply State.blkJudge_keeps | apply State.ptEsmc_keeps
      | apply State.qPop_keeps | apply State.ptTake_keeps

theorem State.supWrite_keeps (h : s0.Keeps s) (w : Nat) (off : Nat) (v : Nat) : s0.Keeps (s.supWrite w off v) := by
  unfold State.supWrite
  repeat' with_reducible first
      | assumption | apply State.keeps_ite | apply State.engWrite_keeps

theorem State.modelSave_keeps (h : s0.Keeps s) : s0.Keeps (s.modelSave) := by
  unfold State.modelSave
  repeat' with_reducible first
      | assumption | apply State.keeps_ite | apply State.setSup_keeps | apply State.nvSubmit_keeps

theorem State.modelWrite_keeps (h : s0.Keeps s) (x : OscSet) (lstate : Nat) : s0.Keeps (s.modelWrite x lstate) := by
  unfold State.modelWrite
  repeat' with_reducible first
      | assumption | apply State.keeps_ite | apply State.supWrite_keeps | apply State.keeps_foldl
      | apply State.keeps_foldl2 | apply State.keeps_getD | (intro t x ht)

theorem State.modelFit_keeps (h : s0.Keeps s) (at_ : Nat) : s0.Keeps (s.modelFit at_) := by
  unfold State.modelFit
  repeat' with_reducible first
      | assumption | apply State.keeps_ite | apply State.modelWrite_keeps | apply State.modelSave_keeps

theorem State.learnBegin_keeps (h : s0.Keeps s) : s0.Keeps (s.learnBegin) := by
  unfold State.learnBegin
  repeat' with_reducible first
      | assumption | apply State.keeps_ite | apply State.setSup_keeps | apply State.modelSave_keeps
      | apply State.modelWrite_keeps

theorem State.modelRestart_keeps (h : s0.Keeps s) (bins : List FitBin) : s0.Keeps (s.modelRestart bins) := by
  unfold State.modelRestart
  repeat' with_reducible first
      | assumption | apply State.keeps_ite | apply State.setSup_keeps | apply State.raise_keeps
      | apply State.sts_keeps | apply State.modelWrite_keeps | apply State.modelSave_keeps

theorem State.modelBin_keeps (h : s0.Keeps s) : s0.Keeps (s.modelBin) := by
  unfold State.modelBin
  repeat' with_reducible first
      | assumption | apply State.keeps_ite | apply State.setSup_keeps | apply State.modelRestart_keeps
      | apply State.modelFit_keeps

theorem State.supSample_keeps (h : s0.Keeps s) : s0.Keeps (s.supSample) := by
  unfold State.supSample
  repeat' with_reducible first
      | assumption | apply State.keeps_ite | apply State.keeps_ite2 | apply State.keeps_ite3
      | apply State.busRead_keeps | apply State.setSup_keeps | apply State.modelBin_keeps

theorem State.supDrift_keeps (h : s0.Keeps s) : s0.Keeps (s.supDrift) := by
  unfold State.supDrift
  repeat' with_reducible first
      | assumption | apply State.keeps_ite | apply State.setSup_keeps | apply State.modelFit_keeps
      | apply State.keeps_foldl | apply State.keeps_foldl2 | apply State.keeps_getD | (intro t x ht) | (intro t ht)
      | dsimp only | refine State.keeps_of_pair (by assumption) ?_ | refine State.keeps_of_triple (by assumption) ?_
      | split

theorem State.modelRestore_keeps (h : s0.Keeps s) : s0.Keeps (s.modelRestore) := by
  unfold State.modelRestore
  repeat' with_reducible first
      | assumption | apply State.keeps_ite | apply State.modelWrite_keeps | apply State.supWrite_keeps
      | apply State.setSup_keeps | apply State.keeps_foldl | apply State.keeps_foldl2 | apply State.keeps_getD
      | (intro t x ht) | (intro t ht) | dsimp only | refine State.keeps_of_pair (by assumption) ?_
      | refine State.keeps_of_triple (by assumption) ?_ | split

theorem State.lifeRestore_keeps (h : s0.Keeps s) (i : Nat) : s0.Keeps (s.lifeRestore i) := by
  unfold State.lifeRestore
  repeat' with_reducible first
      | assumption | apply State.keeps_ite | apply State.supWrite_keeps | apply State.setHlth_keeps

theorem State.lifeCommit_keeps (h : s0.Keeps s) (i : Nat) : s0.Keeps (s.lifeCommit i) := by
  unfold State.lifeCommit
  repeat' with_reducible first
      | assumption | apply State.keeps_ite | apply State.supWrite_keeps | apply State.setHlth_keeps

theorem State.lifeCommits_keeps (h : s0.Keeps s) : s0.Keeps (s.lifeCommits) := by
  unfold State.lifeCommits
  repeat' with_reducible first
      | assumption | apply State.keeps_ite | apply State.lifeCommit_keeps | apply State.setHlth_keeps
      | apply State.keeps_foldl | apply State.keeps_foldl2 | apply State.keeps_getD | (intro t x ht)

theorem State.supPlan_keeps (h : s0.Keeps s) : s0.Keeps (s.supPlan) := by
  unfold State.supPlan
  repeat' with_reducible first
      | assumption | apply State.keeps_ite | apply State.keeps_ite2 | apply State.keeps_ite3
      | apply State.takeFree_keeps | apply State.setSup_keeps | apply State.supWrite_keeps

theorem State.supPath_keeps (h : s0.Keeps s) (n : Nat) : s0.Keeps (s.supPath n) := by
  unfold State.supPath
  repeat' with_reducible first
      | assumption | apply State.keeps_ite | apply State.keeps_ite2 | apply State.keeps_ite3
      | apply State.takeFree_keeps | apply State.supWrite_keeps

theorem State.supPort_keeps (h : s0.Keeps s) (n : Nat) : s0.Keeps (s.supPort n) := by
  unfold State.supPort
  repeat' with_reducible first
      | assumption | apply State.keeps_ite | apply State.keeps_ite2 | apply State.keeps_ite3
      | apply State.takeFree_keeps | apply State.supWrite_keeps | apply State.setSup_keeps | apply State.keeps_foldl
      | apply State.keeps_foldl2 | apply State.keeps_getD | (intro t x ht) | (intro t ht) | dsimp only
      | refine State.keeps_of_pair (by assumption) ?_ | refine State.keeps_of_triple (by assumption) ?_ | split

theorem State.supClass_keeps (h : s0.Keeps s) : s0.Keeps (s.supClass) := by
  unfold State.supClass
  repeat' with_reducible first
      | assumption | apply State.keeps_ite | apply State.setSup_keeps

theorem State.supRoutes_keeps (h : s0.Keeps s) : s0.Keeps (s.supRoutes) := by
  unfold State.supRoutes
  repeat' with_reducible first
      | assumption | apply State.keeps_ite | apply State.keeps_ite2 | apply State.keeps_ite3
      | apply State.takeFree_keeps | apply State.supWrite_keeps | apply State.keeps_foldl | apply State.keeps_foldl2
      | apply State.keeps_getD | (intro t x ht)

theorem State.supStart_keeps (h : s0.Keeps s) : s0.Keeps (s.supStart) := by
  unfold State.supStart
  repeat' with_reducible first
      | assumption | apply State.keeps_ite | apply State.supRoutes_keeps | apply State.setSup_keeps
      | apply State.blkStart_keeps | apply State.lifeRestore_keeps | apply State.supWrite_keeps
      | apply State.modelRestore_keeps | apply State.keeps_foldl | apply State.keeps_foldl2 | apply State.keeps_getD
      | (intro t x ht)

theorem State.supTickRun_keeps (h : s0.Keeps s) : s0.Keeps (s.supTickRun) := by
  unfold State.supTickRun
  repeat' with_reducible first
      | assumption | apply State.keeps_ite | apply State.lifeCommits_keeps | apply State.supPlan_keeps
      | apply State.supClass_keeps | apply State.supPort_keeps | apply State.supPath_keeps
      | apply State.modelSave_keeps

theorem State.supRun_keeps (h : s0.Keeps s) (ev : Nat) : s0.Keeps (s.supRun ev) := by
  unfold State.supRun
  repeat' with_reducible first
      | assumption | apply State.keeps_ite | apply State.supStart_keeps | apply State.supDrift_keeps
      | apply State.learnBegin_keeps | apply State.blkJudge_keeps | apply State.supTickRun_keeps
      | apply State.supSample_keeps

theorem State.stockRun_keeps (h : s0.Keeps s) (k : Nat) (ev : Nat) : s0.Keeps (s.stockRun k ev) := by
  unfold State.stockRun
  repeat' with_reducible first
      | assumption | apply State.keeps_ite | apply State.supRun_keeps | apply State.lpRun_keeps
      | apply State.monRun_keeps | apply State.ptRun_keeps | apply State.keeps_foldl | apply State.keeps_foldl2
      | apply State.keeps_getD | (intro t x ht) | (intro t ht) | dsimp only
      | refine State.keeps_of_pair (by assumption) ?_ | refine State.keeps_of_triple (by assumption) ?_ | split

theorem State.evDiscard_keeps (h : s0.Keeps s) (k : Nat) : s0.Keeps (s.evDiscard k) := by
  unfold State.evDiscard
  repeat' with_reducible first
      | assumption | apply State.keeps_ite | apply State.raise_keeps | apply State.sts_keeps | apply State.count_keeps

theorem State.insnEnd_keeps (h : s0.Keeps s) (k : Nat) (f : Eng → Eng) (hf : ∀ x, x.Ok → (f x).Ok) :
    s0.Keeps (s.insnEnd k f) :=
  State.modEng_keeps h k _ (fun x hx => Eng.ite_ok (Eng.next_ok (hf x hx)) hx)

theorem State.armEntry_keeps (h : s0.Keeps s) (k : Nat) (base : Bool) (target : Nat) (act : AtAction) :
    s0.Keeps (s.armEntry k base target act) := by
  have put (p : PStat) (l : List AtEntry) (hl : (s.eng k).ats.length + l.length ≤ 8 ∨ l = []) : s0.Keeps (s.insnEnd k (fun x =>
      Eng.report { x with atPrefix := none, ats := x.ats ++ l } p)) := by
    refine State.modEng_at_keeps h k _ (fun hx => Eng.ite_ok (Eng.next_ok ⟨hx.1, hx.2.1, hx.2.2.1, ?_⟩) hx)
    have h8 := hx.2.2.2
    rcases hl with hl | rfl
    · simpa [Eng.report] using hl
    · simpa [Eng.report] using h8
  unfold State.armEntry
  dsimp only
  generalize diff64 target _ = d
  split
  · exact put _ _ (.inr rfl)
  · split
    · exact put _ _ (.inr rfl)
    · next hn =>
      have hn' : (s.eng k).ats.length + 1 ≤ 8 := by omega
      split
      · exact put _ _ (.inl hn')
      · exact put _ _ (.inl hn')

theorem State.orArm_keeps (h : s0.Keeps s) (k : Nat) (act : AtAction) (f : State → State)
    (hf : ∀ t, s0.Keeps t → s0.Keeps (f t)) : s0.Keeps (s.orArm k act f) := by
  unfold State.orArm
  split
  · exact State.armEntry_keeps h k _ _ act
  · exact hf s h

theorem State.portWrite_keeps (h : s0.Keeps s) (r : Req) (p : Nat) (off : Nat) (v : Word64) :
    s0.Keeps (s.portWrite r p off v).2 := by
  unfold State.portWrite
  repeat' with_reducible first
      | assumption | apply State.keeps_ite | apply State.keeps_ite2 | apply State.keeps_ite3
      | apply State.accRecord_keeps | apply State.busWrite_keeps

theorem State.portRead_keeps (h : s0.Keeps s) (r : Req) (p : Nat) (off : Nat) : s0.Keeps (s.portRead r p off).2.2 := by
  unfold State.portRead
  repeat' with_reducible first
      | assumption | apply State.keeps_ite | apply State.keeps_ite2 | apply State.keeps_ite3
      | apply State.accRecord_keeps | apply State.busRead_keeps

theorem State.portTimeout_keeps (h : s0.Keeps s) (k : Nat) (a : Nat) (v : Option Word) (rd : Nat) :
    s0.Keeps (s.portTimeout k a v rd) := by
  unfold State.portTimeout
  repeat' with_reducible first
      | assumption | apply State.keeps_ite | apply State.keeps_ite2 | apply State.keeps_ite3 | apply State.insn_keeps
      | apply State.engExcept_keeps | apply State.timeoutAccess_keeps | apply State.insnEnd_keeps | (intro x hx)
      | apply Eng.next_ok | apply Eng.report_ok | apply Eng.setW_ok | apply Eng.setEntry_ok | apply Eng.branch_ok
      | apply Eng.ite_ok

theorem State.qput_keeps (h : s0.Keeps s) (k : Nat) (q : Nat) (e : BitVec 256) (wait : Bool) :
    s0.Keeps (s.qput k q e wait) := by
  unfold State.qput
  repeat' with_reducible first
      | assumption | apply State.keeps_ite | apply State.keeps_ite2 | apply State.keeps_ite3
      | apply State.insnEnd_keeps | apply State.qPutEngine_keeps | apply State.qHold_keeps | (intro x hx)
      | apply Eng.next_ok | apply Eng.report_ok | apply Eng.setW_ok | apply Eng.setEntry_ok | apply Eng.branch_ok
      | apply Eng.ite_ok | with_unfolding_all exact hx | apply State.keeps_foldl | apply State.keeps_foldl2
      | apply State.keeps_getD | (intro t x ht) | (intro t ht) | dsimp only
      | refine State.keeps_of_pair (by assumption) ?_ | refine State.keeps_of_triple (by assumption) ?_ | split

theorem State.instrSnap_keeps (h : s0.Keeps s) : s0.Keeps (s.instrSnap) := by
  unfold State.instrSnap
  repeat' with_reducible first
      | assumption | apply State.keeps_ite | apply State.snapTrigger_keeps

theorem State.raiseAct_keeps (h : s0.Keeps s) (k : Nat) (target : Nat) (code : Nat) :
    s0.Keeps (s.raiseAct k target code) := by
  unfold State.raiseAct
  repeat' with_reducible first
      | assumption | apply State.keeps_ite | apply State.raise_keeps | apply State.sts_keeps | apply State.wr_keeps
      | apply State.engPend_keeps

theorem State.atAct_keeps (h : s0.Keeps s) (k : Nat) (a2 : AtAction) : s0.Keeps (s.atAct k a2) := by
  unfold State.atAct
  repeat' with_reducible first
      | assumption | apply State.keeps_ite | apply State.keeps_ite2 | apply State.keeps_ite3
      | apply State.portWrite_keeps | apply State.instrSnap_keeps | apply State.raiseAct_keeps
      | apply State.keeps_foldl | apply State.keeps_foldl2 | apply State.keeps_getD | (intro t x ht) | (intro t ht)
      | dsimp only | refine State.keeps_of_pair (by assumption) ?_ | refine State.keeps_of_triple (by assumption) ?_
      | split

theorem State.complete_keeps (h : s0.Keeps s) (r : Req) (write : Bool) (a : Nat) (o : AccOut) (v : Word) :
    s0.Keeps (s.complete r write a o v) := by
  unfold State.complete
  repeat' with_reducible first
      | assumption | apply State.keeps_ite | apply State.setHif_keeps | apply State.emit_keeps

theorem State.ownAccess_keeps (h : s0.Keeps s) (r : Req) (a : Nat) (be : BitVec 4) (w : Option Word) :
    s0.Keeps (s.ownAccess r a be w) := by
  unfold State.ownAccess
  repeat' with_reducible first
      | assumption | apply State.keeps_ite | apply State.keeps_ite2 | apply State.keeps_ite3
      | apply State.busWrite_keeps | apply State.complete_keeps | apply State.busRead_keeps | apply State.keeps_foldl
      | apply State.keeps_foldl2 | apply State.keeps_getD | (intro t x ht) | (intro t ht) | dsimp only
      | refine State.keeps_of_pair (by assumption) ?_ | refine State.keeps_of_triple (by assumption) ?_ | split

theorem State.glTo_keeps (h : s0.Keeps s) (m : Nat) (cls : Nat) (pl : List Byte) : s0.Keeps (s.glTo m cls pl) := by
  unfold State.glTo
  repeat' with_reducible first
      | assumption | apply State.keeps_ite | apply State.glSend_keeps

theorem State.glAbsent_keeps (h : s0.Keeps s) (r : Req) (m : Nat) (a : Nat) (w : Option Word) :
    s0.Keeps (s.glAbsent r m a w) := by
  unfold State.glAbsent
  repeat' with_reducible first
      | assumption | apply State.keeps_ite | apply State.complete_keeps | apply State.put_keeps
      | apply State.glEvent_keeps

theorem State.tunIssue_keeps (h : s0.Keeps s) (x : TunAcc) : s0.Keeps (s.tunIssue x) := by
  unfold State.tunIssue
  repeat' with_reducible first
      | assumption | apply State.keeps_ite | apply State.glAbsent_keeps | apply State.glTo_keeps
      | apply State.setGl_keeps

theorem State.tunnel_keeps (h : s0.Keeps s) (r : Req) (m : Nat) (a : Nat) (be : BitVec 4) (w : Option Word) :
    s0.Keeps (s.tunnel r m a be w) := by
  unfold State.tunnel
  repeat' with_reducible first
      | assumption | apply State.keeps_ite | apply State.setGl_keeps | apply State.tunIssue_keeps

theorem State.hostAccess_keeps (h : s0.Keeps s) (r : Req) (a : Nat) (be : BitVec 4) (w : Option Word) :
    s0.Keeps (s.hostAccess r a be w) := by
  unfold State.hostAccess
  repeat' with_reducible first
      | assumption | apply State.keeps_ite | apply State.ownAccess_keeps | apply State.complete_keeps
      | apply State.accRecord_keeps | apply State.tunnel_keeps | apply State.glAbsent_keeps | apply State.keeps_foldl
      | apply State.keeps_foldl2 | apply State.keeps_getD | (intro t x ht) | (intro t ht) | dsimp only
      | refine State.keeps_of_pair (by assumption) ?_ | refine State.keeps_of_triple (by assumption) ?_ | split

theorem State.tunServe_keeps (h : s0.Keeps s) (src : Nat) (pl : List Byte) : s0.Keeps (s.tunServe src pl) := by
  unfold State.tunServe
  repeat' with_reducible first
      | assumption | apply State.keeps_ite | apply State.keeps_ite2 | apply State.keeps_ite3
      | apply State.busWrite_keeps | apply State.glTo_keeps | apply State.busRead_keeps

theorem State.tunDone_keeps (h : s0.Keeps s) (src : Nat) (pl : List Byte) : s0.Keeps (s.tunDone src pl) := by
  unfold State.tunDone
  repeat' with_reducible first
      | assumption | apply State.keeps_ite | apply State.complete_keeps | apply State.accRecord_keeps
      | apply State.setGl_keeps | apply State.keeps_foldl | apply State.keeps_foldl2 | apply State.keeps_getD
      | (intro t x ht) | (intro t ht) | dsimp only | refine State.keeps_of_pair (by assumption) ?_
      | refine State.keeps_of_triple (by assumption) ?_ | split

theorem State.glCrcErr_keeps (h : s0.Keeps s) (p : Nat) : s0.Keeps (s.glCrcErr p) := by
  unfold State.glCrcErr
  repeat' with_reducible first
      | assumption | apply State.keeps_ite | apply State.put_keeps

theorem State.glBad_keeps (h : s0.Keeps s) (p : Nat) : s0.Keeps (s.glBad p) := by
  unfold State.glBad
  repeat' with_reducible first
      | assumption | apply State.keeps_ite | apply State.modPort_keeps | apply State.glCrcErr_keeps
      | apply State.glDown_keeps

theorem State.glForward_keeps (h : s0.Keeps s) (q : Nat) (hv : Nat) (credits : Bool) (pl : List Byte) :
    s0.Keeps (s.glForward q hv credits pl) := by
  unfold State.glForward
  repeat' with_reducible first
      | assumption | apply State.keeps_ite | apply State.glQueue_keeps

theorem State.glSaw_keeps (h : s0.Keeps s) (hv : Nat) : s0.Keeps (s.glSaw hv) := by
  unfold State.glSaw
  repeat' with_reducible first
      | assumption | apply State.keeps_ite | apply State.setGl_keeps

theorem State.glCellAct_keeps (h : s0.Keeps s) (p : Nat) (hv : Nat) (pl : List Byte) (arr : Nat) :
    s0.Keeps (s.glCellAct p hv pl arr) := by
  unfold State.glCellAct
  repeat' with_reducible first
      | assumption | apply State.keeps_ite | apply State.glTimeRx_keeps | apply State.glSyncAt_keeps
      | apply State.glFaultRx_keeps | apply State.glStepRx_keeps | apply State.tunServe_keeps
      | apply State.tunDone_keeps | apply State.glDeliverAll_keeps | apply State.setGl_keeps
      | apply State.glDisc_keeps | apply State.keeps_foldl | apply State.keeps_foldl2 | apply State.keeps_getD
      | (intro t x ht) | (intro t ht) | dsimp only | refine State.keeps_of_pair (by assumption) ?_
      | refine State.keeps_of_triple (by assumption) ?_ | split

theorem State.glCredits_keeps (h : s0.Keeps s) (q : Nat) (hv : Nat) (ends : Bool) :
    s0.Keeps (s.glCredits q hv ends) := by
  unfold State.glCredits
  repeat' with_reducible first
      | assumption | apply State.keeps_ite | apply State.glQueue_keeps | apply State.setGl_keeps

theorem State.glBcastRx_keeps (h : s0.Keeps s) (p : Nat) (hv : Nat) (pl : List Byte) (arr : Nat) :
    s0.Keeps (s.glBcastRx p hv pl arr) := by
  unfold State.glBcastRx
  repeat' with_reducible first
      | assumption | apply State.keeps_ite | apply State.glCellAct_keeps | apply State.glSaw_keeps
      | apply State.glForward_keeps

theorem State.glCell_keeps (h : s0.Keeps s) (p : Nat) (hv : Nat) (pl : List Byte) (arr : Nat) :
    s0.Keeps (s.glCell p hv pl arr) := by
  unfold State.glCell
  repeat' with_reducible first
      | assumption | apply State.keeps_ite | apply State.glTokenIn_keeps | apply State.glCredits_keeps
      | apply State.glCellAct_keeps | apply State.glBcastRx_keeps | apply State.glForward_keeps

theorem State.bar0Dw_keeps (h : s0.Keeps s) (write : Bool) (a : Nat) (be : BitVec 4) (v : Word) :
    s0.Keeps (s.bar0Dw write a be v) := by
  unfold State.bar0Dw
  repeat' with_reducible first
      | assumption | apply State.keeps_ite | apply State.complete_keeps | apply State.hostAccess_keeps

theorem State.bar0_keeps (h : s0.Keeps s) (write : Bool) (a : Nat) (l : List (BitVec 4 × Word)) :
    s0.Keeps (s.bar0 write a l) := by
  induction l generalizing s a with
  | nil => exact h
  | cons e l ih => exact ih (State.bar0Dw_keeps h write a e.1 e.2) (a + 4)

theorem State.bar2Dw_keeps (h : s0.Keeps s) (a : Nat) (be : BitVec 4) (v : Word) : s0.Keeps (s.bar2Dw a be v) := by
  unfold State.bar2Dw
  repeat' with_reducible first
      | assumption | apply State.keeps_ite | apply State.memStore_keeps | apply State.keeps_foldl
      | apply State.keeps_foldl2 | apply State.keeps_getD | (intro t x ht)

theorem State.bar2Write_keeps (h : s0.Keeps s) (a : Nat) (l : List (BitVec 4 × Word)) :
    s0.Keeps (s.bar2Write a l) := by
  fun_induction State.bar2Write s a l with
  | case1 s a => exact h
  | case2 s a be v hl => exact State.bar2Dw_keeps h a be v
  | case3 s a be v hl => exact h
  | case4 s a be v be2 v2 ds hl => exact h
  | case5 s a be v be2 v2 ds hl hc ih => exact ih (State.memStore_keeps h _ _ _)
  | case6 s a be v be2 v2 ds hl hc ih => exact ih (State.bar2Dw_keeps h a be v)

theorem State.bar2Read_keeps (h : s0.Keeps s) (a : Nat) (dws : List (BitVec 4 × Word)) :
    s0.Keeps (s.bar2Read a dws).2 := by
  unfold State.bar2Read
  repeat' with_reducible first
      | assumption | apply State.keeps_ite | apply State.keeps_ite2 | apply State.keeps_ite3
      | apply State.memTake_keeps

theorem State.setLinkState_keeps (h : s0.Keeps s) (up : Bool) (speed : Nat) (width : Nat) (bme : Bool) (d3 : Bool) :
    s0.Keeps (s.setLinkState up speed width bme d3) := by
  unfold State.setLinkState
  repeat' with_reducible first
      | assumption | apply State.keeps_ite | apply State.put_keeps | apply State.raise_keeps | apply State.sts_keeps

theorem State.ringsOff_keeps (h : s0.Keeps s) : s0.Keeps (s.ringsOff) := by
  unfold State.ringsOff
  repeat' with_reducible first
      | assumption | apply State.keeps_ite | apply State.ringClearErr_keeps | apply State.wr_keeps
      | apply State.keeps_foldl | apply State.keeps_foldl2 | apply State.keeps_getD | (intro t x ht)

theorem State.spiAccess_keeps (h : s0.Keeps s) (sram : Bool) (badHigh : Bool) (a : Nat) (w : Option Word) :
    s0.Keeps (s.spiAccess sram badHigh a w) := by
  unfold State.spiAccess
  repeat' with_reducible first
      | assumption | apply State.keeps_ite | apply State.keeps_ite2 | apply State.keeps_ite3
      | apply State.complete_keeps | apply State.accRecord_keeps | apply State.hostAccess_keeps
      | apply State.memStore_keeps | apply State.memLoad_keeps | apply State.keeps_foldl | apply State.keeps_foldl2
      | apply State.keeps_getD | (intro t x ht) | (intro t ht) | dsimp only
      | refine State.keeps_of_pair (by assumption) ?_ | refine State.keeps_of_triple (by assumption) ?_ | split

theorem State.i2cWrites_keeps (h : s0.Keeps s) (a : Nat) (l : List Byte) : s0.Keeps (s.i2cWrites a l) := by
  fun_induction State.i2cWrites s a l with
  | case1 s a b0 b1 b2 b3 bs ih => exact ih (State.ownAccess_keeps h _ _ _ _)
  | case2 s a => exact h
  | case3 s a l h1 h2 => exact State.ownAccess_keeps h _ _ _ _

theorem State.i2cReads_keeps (n : Nat) (h : s0.Keeps s) (a : Nat) : s0.Keeps (State.i2cReads n s a) := by
  induction n generalizing s a with
  | zero => exact h
  | succ n ih => exact ih (State.ownAccess_keeps h _ _ _ _) _

theorem State.msixRelease_keeps (h : s0.Keeps s) (v : Nat) : s0.Keeps (s.msixRelease v) := by
  unfold State.msixRelease
  repeat' with_reducible first
      | assumption | apply State.keeps_ite | apply State.setHif_keeps | apply State.emit_keeps

theorem State.spiWriteGone_keeps (h : s0.Keeps s) (a : Nat) (v : Word) : s0.Keeps (s.spiWriteGone a v) := by
  unfold State.spiWriteGone
  repeat' with_reducible first
      | assumption | apply State.keeps_ite | apply State.setHif_keeps | apply State.keeps_foldl
      | apply State.keeps_foldl2 | apply State.keeps_getD | (intro t x ht) | (intro t ht) | dsimp only
      | refine State.keeps_of_pair (by assumption) ?_ | refine State.keeps_of_triple (by assumption) ?_ | split

theorem State.spiReadGone_keeps (h : s0.Keeps s) (a : Nat) : s0.Keeps (s.spiReadGone a) := by
  unfold State.spiReadGone
  repeat' with_reducible first
      | assumption | apply State.keeps_ite | apply State.setHif_keeps | apply State.keeps_foldl
      | apply State.keeps_foldl2 | apply State.keeps_getD | (intro t x ht) | (intro t ht) | dsimp only
      | refine State.keeps_of_pair (by assumption) ?_ | refine State.keeps_of_triple (by assumption) ?_ | split

theorem State.atGone_keeps (h : s0.Keeps s) (k a : Nat) (v : Word) : s0.Keeps (s.atGone k a v) := by
  unfold State.atGone
  split
  · exact State.modEng_keeps h _ _ (fun _ hx =>
      ⟨hx.1, hx.2.1, hx.2.2.1, Nat.le_trans (List.length_erase_le ..) hx.2.2.2⟩)
  · exact h

theorem State.accessGone_keeps (h : s0.Keeps s) (r : Req) (a : Nat) (w : Option Word) :
    s0.Keeps (s.accessGone r a w) := by
  unfold State.accessGone
  repeat' with_reducible first
      | assumption | apply State.keeps_ite | apply State.spiWriteGone_keeps | apply State.spiReadGone_keeps
      | apply State.atGone_keeps | apply State.keeps_foldl | apply State.keeps_foldl2 | apply State.keeps_getD
      | (intro t x ht) | (intro t ht) | dsimp only | refine State.keeps_of_pair (by assumption) ?_
      | refine State.keeps_of_triple (by assumption) ?_ | split

theorem State.parUpset_keeps (h : s0.Keeps s) (a u : Nat) : s0.Keeps (s.parUpset a u) := by
  have h1 := State.setRegs_keeps h (sparsePut regReset s.regs a
    (BitVec.ofNat 32 (Nat.xor (sparseGet regReset s.regs a).toNat (u % 2 ^ 32)))) (sparsePut_wf regReset _ _ _)
  unfold State.parUpset
  dsimp only
  split
  · exact h1
  · split
    · exact State.setPar_keeps h1 _
    · exact State.setPar_keeps h1 _

theorem State.eccUpset_keeps (h : s0.Keeps s) (a : Nat) (n : Nat) : s0.Keeps (s.eccUpset a n) := by
  unfold State.eccUpset
  repeat' with_reducible first
      | assumption | apply State.keeps_ite | apply State.setEcc_keeps

theorem State.wrReg_keeps (h : s0.Keeps s) (r : Req) (w : Nat) (off : Nat) (v : Word) :
    s0.Keeps (s.wrReg r w off v) := by
  unfold State.wrReg
  repeat' with_reducible first
      | assumption | apply State.keeps_ite | apply State.doorWrite_keeps

theorem State.wrFld_keeps (h : s0.Keeps s) (r : Req) (w : Nat) (f : Fld) (x : Nat) (v : Word) :
    s0.Keeps (s.wrFld r w f x v) := by
  unfold State.wrFld
  repeat' with_reducible first
      | assumption | apply State.keeps_ite | apply State.doorWrite_keeps

theorem State.wrNv_keeps (h : s0.Keeps s) (r : Req) (op : Nat) (v : Word) : s0.Keeps (s.wrNv r op v) := by
  unfold State.wrNv
  repeat' with_reducible first
      | assumption | apply State.keeps_ite | apply State.wrFld_keeps

theorem State.nvUpset_keeps (h : s0.Keeps s) (l : List (Nat × Bool)) : s0.Keeps (s.nvUpset l) := by
  unfold State.nvUpset
  repeat' with_reducible first
      | assumption | apply State.keeps_ite | apply State.setNv_keeps

theorem TbSt.tick_ok (x : TbSt) (h : x.Ok) : x.tick.Ok := by
  have h1 : x.c % 65536 = 0 := h.1
  refine ⟨?_, ?_, ?_⟩
  · change (x.c + 65536) % 2 ^ 96 % 65536 = 0
    omega
  · exact Nat.mod_lt _ (by decide)
  · change (if x.ring then x.t else (x.t + x.incr) % stdWrap) < stdWrap
    split
    · exact h.2.2
    · exact Nat.mod_lt _ (by decide)

theorem State.idle_keeps (h : s0.Keeps s) : s0.Keeps s.idle := by
  unfold State.idle
  split
  · exact State.syeRefresh_keeps (State.glIdle_keeps (State.capDrain_keeps (State.srTick_keeps (State.outTick_keeps
      (State.tbServoTick_keeps (State.setTb_keeps h _ (TbSt.tick_ok _)))))))
  · exact h

end Sys2Proof.Machine
end

