-- ==== Sys2Proof/Laws/PerInstr.lean ====
section
/-!
SUPPORT. Laws of one command each: a well-formed command that is a register access has a requester that the device has
(R375).
-/

namespace Sys2Proof.Laws.Sender

/-- The requester of a well-formed access is one of the device's. -/
def Statement (i : Instr) : Prop := i.wf = true → ∀ r, i.sender = some r → r.ok = true

/-- The same for every command whatever its constructor. -/
theorem of_wf (i : Instr) : Statement i := by
  intro h r hr
  unfold Instr.wf at h
  rw [hr] at h
  simp only [Bool.and_eq_true] at h
  exact h.1

theorem registerWrite (r : Req) (a : Nat) (be : BitVec 4) (v : Word) : Statement (.registerWrite r a be v) := of_wf _
theorem latchingRead (r : Req) (a : Nat) (be : BitVec 4) : Statement (.latchingRead r a be) := of_wf _
theorem stagedWrite (r : Req) (a : Nat) (v : Word) : Statement (.stagedWrite r a v) := of_wf _
theorem setAliasWrite (r : Req) (a : Nat) (v : Word) : Statement (.setAliasWrite r a v) := of_wf _
theorem clrAliasWrite (r : Req) (a : Nat) (v : Word) : Statement (.clrAliasWrite r a v) := of_wf _
theorem tglAliasWrite (r : Req) (a : Nat) (v : Word) : Statement (.tglAliasWrite r a v) := of_wf _
theorem stsSeqClear (r : Req) (a : Nat) (v : Word) : Statement (.stsSeqClear r a v) := of_wf _
theorem guardLockWrite (r : Req) (v : Word) : Statement (.guardLockWrite r v) := of_wf _
theorem blockTimeout (r : Req) (a : Nat) (w : Option Word) (x : Nat) : Statement (.blockTimeout r a w x) := of_wf _
theorem lateBlockAnswer (i : Nat) : Statement (.lateBlockAnswer i) := of_wf _
theorem heldCrossingEffect : Statement (.heldCrossingEffect) := of_wf _
theorem parityScrub (a : Nat) (upset : BitVec 33) : Statement (.parityScrub a upset) := of_wf _
theorem sramScrub (a : Nat) (upset : Fin 3) : Statement (.sramScrub a upset) := of_wf _
theorem handlerEntry (k : EngId) : Statement (.handlerEntry k) := of_wf _
theorem supTick : Statement (.supTick) := of_wf _
theorem handlerOverrun (k : EngId) : Statement (.handlerOverrun k) := of_wf _
theorem qputWaitEnd (k : EngId) : Statement (.qputWaitEnd k) := of_wf _
theorem sendWaitEnd (k : EngId) : Statement (.sendWaitEnd k) := of_wf _
theorem atEntryFiring (k : EngId) : Statement (.atEntryFiring k) := of_wf _
theorem add (k : EngId) (rd : Reg) (ra : Reg) (rb : Reg) : Statement (.add k rd ra rb) := of_wf _
theorem sub (k : EngId) (rd : Reg) (ra : Reg) (rb : Reg) : Statement (.sub k rd ra rb) := of_wf _
theorem and (k : EngId) (rd : Reg) (ra : Reg) (rb : Reg) : Statement (.and k rd ra rb) := of_wf _
theorem or (k : EngId) (rd : Reg) (ra : Reg) (rb : Reg) : Statement (.or k rd ra rb) := of_wf _
theorem xor (k : EngId) (rd : Reg) (ra : Reg) (rb : Reg) : Statement (.xor k rd ra rb) := of_wf _
theorem shl (k : EngId) (rd : Reg) (ra : Reg) (rb : Reg) : Statement (.shl k rd ra rb) := of_wf _
theorem shr (k : EngId) (rd : Reg) (ra : Reg) (rb : Reg) : Statement (.shr k rd ra rb) := of_wf _
theorem sar (k : EngId) (rd : Reg) (ra : Reg) (rb : Reg) : Statement (.sar k rd ra rb) := of_wf _
theorem adds (k : EngId) (rd : Reg) (ra : Reg) (rb : Reg) : Statement (.adds k rd ra rb) := of_wf _
theorem subs (k : EngId) (rd : Reg) (ra : Reg) (rb : Reg) : Statement (.subs k rd ra rb) := of_wf _
theorem min (k : EngId) (rd : Reg) (ra : Reg) (rb : Reg) : Statement (.min k rd ra rb) := of_wf _
theorem max (k : EngId) (rd : Reg) (ra : Reg) (rb : Reg) : Statement (.max k rd ra rb) := of_wf _
theorem minu (k : EngId) (rd : Reg) (ra : Reg) (rb : Reg) : Statement (.minu k rd ra rb) := of_wf _
theorem maxu (k : EngId) (rd : Reg) (ra : Reg) (rb : Reg) : Statement (.maxu k rd ra rb) := of_wf _
theorem mul (k : EngId) (rd : Reg) (ra : Reg) (rb : Reg) : Statement (.mul k rd ra rb) := of_wf _
theorem mulhs (k : EngId) (rd : Reg) (ra : Reg) (rb : Reg) : Statement (.mulhs k rd ra rb) := of_wf _
theorem cmp (k : EngId) (ra : Reg) (rb : Reg) : Statement (.cmp k ra rb) := of_wf _
theorem abs (k : EngId) (rd : Reg) (ra : Reg) : Statement (.abs k rd ra) := of_wf _
theorem negs (k : EngId) (rd : Reg) (ra : Reg) : Statement (.negs k rd ra) := of_wf _
theorem clz (k : EngId) (rd : Reg) (ra : Reg) : Statement (.clz k rd ra) := of_wf _
theorem sxt (k : EngId) (rd : Reg) (ra : Reg) (b : BitVec 6) : Statement (.sxt k rd ra b) := of_wf _
theorem addi (k : EngId) (rd : Reg) (ra : Reg) (imm : BitVec 16) : Statement (.addi k rd ra imm) := of_wf _
theorem andi (k : EngId) (rd : Reg) (ra : Reg) (imm : BitVec 16) : Statement (.andi k rd ra imm) := of_wf _
theorem ori (k : EngId) (rd : Reg) (ra : Reg) (imm : BitVec 16) : Statement (.ori k rd ra imm) := of_wf _
theorem xori (k : EngId) (rd : Reg) (ra : Reg) (imm : BitVec 16) : Statement (.xori k rd ra imm) := of_wf _
theorem shli (k : EngId) (rd : Reg) (ra : Reg) (sh : BitVec 6) : Statement (.shli k rd ra sh) := of_wf _
theorem shri (k : EngId) (rd : Reg) (ra : Reg) (sh : BitVec 6) : Statement (.shri k rd ra sh) := of_wf _
theorem sari (k : EngId) (rd : Reg) (ra : Reg) (sh : BitVec 6) : Statement (.sari k rd ra sh) := of_wf _
theorem cmpi (k : EngId) (ra : Reg) (imm : BitVec 16) : Statement (.cmpi k ra imm) := of_wf _
theorem ldk (k : EngId) (rd : Reg) (imm : BitVec 16) : Statement (.ldk k rd imm) := of_wf _
theorem shin (k : EngId) (rd : Reg) (imm : BitVec 16) : Statement (.shin k rd imm) := of_wf _
theorem mulq (k : EngId) (rd : Reg) (ra : Reg) (rb : Reg) (sh : BitVec 6) : Statement (.mulq k rd ra rb sh) := of_wf _
theorem macq (k : EngId) (rd : Reg) (ra : Reg) (rb : Reg) (sh : BitVec 6) : Statement (.macq k rd ra rb sh) := of_wf _
theorem msuq (k : EngId) (rd : Reg) (ra : Reg) (rb : Reg) (sh : BitVec 6) : Statement (.msuq k rd ra rb sh) := of_wf _
theorem divs (k : EngId) (rd : Reg) (ra : Reg) (rb : Reg) : Statement (.divs k rd ra rb) := of_wf _
theorem sqrtu (k : EngId) (rd : Reg) (ra : Reg) : Statement (.sqrtu k rd ra) := of_wf _
theorem ld8u (k : EngId) (rd : Reg) (ra : Reg) (imm : BitVec 16) : Statement (.ld8u k rd ra imm) := of_wf _
theorem ld8s (k : EngId) (rd : Reg) (ra : Reg) (imm : BitVec 16) : Statement (.ld8s k rd ra imm) := of_wf _
theorem ld16u (k : EngId) (rd : Reg) (ra : Reg) (imm : BitVec 16) : Statement (.ld16u k rd ra imm) := of_wf _
theorem ld16s (k : EngId) (rd : Reg) (ra : Reg) (imm : BitVec 16) : Statement (.ld16s k rd ra imm) := of_wf _
theorem ld32u (k : EngId) (rd : Reg) (ra : Reg) (imm : BitVec 16) : Statement (.ld32u k rd ra imm) := of_wf _
theorem ld32s (k : EngId) (rd : Reg) (ra : Reg) (imm : BitVec 16) : Statement (.ld32s k rd ra imm) := of_wf _
theorem ld64 (k : EngId) (rd : Reg) (ra : Reg) (imm : BitVec 16) : Statement (.ld64 k rd ra imm) := of_wf _
theorem st8 (k : EngId) (rs : Reg) (ra : Reg) (imm : BitVec 16) : Statement (.st8 k rs ra imm) := of_wf _
theorem st16 (k : EngId) (rs : Reg) (ra : Reg) (imm : BitVec 16) : Statement (.st16 k rs ra imm) := of_wf _
theorem st32 (k : EngId) (rs : Reg) (ra : Reg) (imm : BitVec 16) : Statement (.st32 k rs ra imm) := of_wf _
theorem st64 (k : EngId) (rs : Reg) (ra : Reg) (imm : BitVec 16) : Statement (.st64 k rs ra imm) := of_wf _
theorem fwd (k : EngId) (cond : BitVec 4) (off : BitVec 16) : Statement (.fwd k cond off) := of_wf _
theorem loop (k : EngId) (count : Nat) (len : BitVec 14) : Statement (.loop k count len) := of_wf _
theorem call (k : EngId) (target : BitVec 16) : Statement (.call k target) := of_wf _
theorem ret (k : EngId) : Statement (.ret k) := of_wf _
theorem done (k : EngId) : Statement (.done k) := of_wf _
theorem nop (k : EngId) : Statement (.nop k) := of_wf _
theorem pin (k : EngId) (rd : Reg) (ra : Reg) (port : BitVec 8) (off8 : BitVec 8) : Statement (.pin k rd ra port off8) := of_wf _
theorem pout (k : EngId) (rs : Reg) (ra : Reg) (port : BitVec 8) (off8 : BitVec 8) : Statement (.pout k rs ra port off8) := of_wf _
theorem qput (k : EngId) (rg : Reg) (q : Queue) (w : Bool) : Statement (.qput k rg q w) := of_wf _
theorem qget (k : EngId) (rg : Reg) (q : Queue) (w : Bool) : Statement (.qget k rg q w) := of_wf _
theorem send (k : EngId) (rg : Reg) (m : Fin 8) (q : Queue) (w : Bool) : Statement (.send k rg m q w) := of_wf _
theorem armAt (k : EngId) (ra : Reg) (baseC : Bool) : Statement (.armAt k ra baseC) := of_wf _
theorem tnow (k : EngId) (rd : Reg) (baseC : Bool) : Statement (.tnow k rd baseC) := of_wf _
theorem snap (k : EngId) : Statement (.snap k) := of_wf _
theorem raise (k : EngId) (target : BitVec 4) (code : BitVec 16) : Statement (.raise k target code) := of_wf _
theorem mfs (k : EngId) (rd : Reg) (sreg : BitVec 5) : Statement (.mfs k rd sreg) := of_wf _
theorem mts (k : EngId) (ra : Reg) (sreg : BitVec 5) : Statement (.mts k ra sreg) := of_wf _
theorem loaderLoad (r : Req) (v : Word) : Statement (.loaderLoad r v) := of_wf _
theorem loadCheckComplete : Statement (.loadCheckComplete) := of_wf _
theorem loadTargetHold : Statement (.loadTargetHold) := of_wf _
theorem loadCopyComplete : Statement (.loadCopyComplete) := of_wf _
theorem engineHalt (r : Req) (k : EngId) (v : Word) : Statement (.engineHalt r k v) := of_wf _
theorem engineRun (r : Req) (k : EngId) (v : Word) : Statement (.engineRun r k v) := of_wf _
theorem engineRestart (r : Req) (k : EngId) (v : Word) : Statement (.engineRestart r k v) := of_wf _
theorem pcieBar0Request (write : Bool) (a : Nat) (dws : List (BitVec 4 × Word)) : Statement (.pcieBar0Request write a dws) := of_wf _
theorem pcieBar2Access (write : Bool) (a : Nat) (dws : List (BitVec 4 × Word)) : Statement (.pcieBar2Access write a dws) := of_wf _
theorem pcieLinkChange (up : Bool) (speed : Fin 4) (width : Fin 4) (bme : Bool) (d3 : Bool) : Statement (.pcieLinkChange up speed width bme d3) := of_wf _
theorem perstAssert : Statement (.perstAssert) := of_wf _
theorem pcieAerError (bit : Fin 32) : Statement (.pcieAerError bit) := of_wf _
theorem spiAddressFrame (f : Word) : Statement (.spiAddressFrame f) := of_wf _
theorem spiWriteFrame (v : Word) : Statement (.spiWriteFrame v) := of_wf _
theorem spiBufferedWrite : Statement (.spiBufferedWrite) := of_wf _
theorem spiReadAccess : Statement (.spiReadAccess) := of_wf _
theorem spiCsRise (part : Bool) : Statement (.spiCsRise part) := of_wf _
theorem i2cWrite (a : Word) (bytes : List Byte) : Statement (.i2cWrite a bytes) := of_wf _
theorem i2cRead (a : Word) (n : Nat) : Statement (.i2cRead a n) := of_wf _
theorem queueEnable (r : Req) (n : Queue) (v : Word) : Statement (.queueEnable r n v) := of_wf _
theorem queueDisable (r : Req) (n : Queue) (v : Word) : Statement (.queueDisable r n v) := of_wf _
theorem queueModeWrite (r : Req) (n : Queue) (v : Word) : Statement (.queueModeWrite r n v) := of_wf _
theorem queueDeadline (n : Queue) : Statement (.queueDeadline n) := of_wf _
theorem ringEnable (r : Req) (n : Queue) (v : Word) : Statement (.ringEnable r n v) := of_wf _
theorem ringDisable (r : Req) (n : Queue) (v : Word) : Statement (.ringDisable r n v) := of_wf _
theorem ringHidxWrite (r : Req) (n : Queue) (v : Word) : Statement (.ringHidxWrite r n v) := of_wf _
theorem dmaD2hMove (n : Queue) (count : Nat) : Statement (.dmaD2hMove n count) := of_wf _
theorem dmaH2dMove (n : Queue) (elems : List (BitVec 256)) : Statement (.dmaH2dMove n elems) := of_wf _
theorem qdataAgeExpiry (n : Queue) : Statement (.qdataAgeExpiry n) := of_wf _
theorem dmaRingError (n : Queue) (bus : Word64) : Statement (.dmaRingError n bus) := of_wf _
theorem evtAckWrite (r : Req) (g : Fin 16) (v : Word) : Statement (.evtAckWrite r g v) := of_wf _
theorem msixUnmask (vec : Option (Fin 64)) : Statement (.msixUnmask vec) := of_wf _
theorem faultMessage (i : Nat) : Statement (.faultMessage i) := of_wf _
theorem faultPulseEnd : Statement (.faultPulseEnd) := of_wf _
theorem escalationExpiry : Statement (.escalationExpiry) := of_wf _
theorem fltAckWrite (r : Req) (v : Word) : Statement (.fltAckWrite r v) := of_wf _
theorem faultClear (r : Req) (v : Word) : Statement (.faultClear r v) := of_wf _
theorem faultInFall : Statement (.faultInFall) := of_wf _
theorem faultInRise : Statement (.faultInRise) := of_wf _
theorem faultInjection : Statement (.faultInjection) := of_wf _
theorem aerStatusClear (mask : Word) : Statement (.aerStatusClear mask) := of_wf _
theorem perstRelease : Statement (.perstRelease) := of_wf _
theorem sourceEdge (n : Src) (e : SrcEdge) : Statement (.sourceEdge n e) := of_wf _
theorem missedNominalEdge (n : Src) : Statement (.missedNominalEdge n) := of_wf _
theorem xoLoss : Statement (.xoLoss) := of_wf _
theorem xoReturn : Statement (.xoReturn) := of_wf _
theorem basisChange : Statement (.basisChange) := of_wf _
theorem binClose (w : Fin 3) : Statement (.binClose w) := of_wf _
theorem mtieBinClose (i : Fin 5) : Statement (.mtieBinClose i) := of_wf _
theorem tdevStride (i : Fin 5) : Statement (.tdevStride i) := of_wf _
theorem srcEnable (r : Req) (n : Src) (v : Word) : Statement (.srcEnable r n v) := of_wf _
theorem srcDisable (r : Req) (n : Src) (v : Word) : Statement (.srcDisable r n v) := of_wf _
theorem srcForceWrite (r : Req) (n : Src) (v : Word) : Statement (.srcForceWrite r n v) := of_wf _
theorem srcVerdictWrite (r : Req) (n : Src) (v : Word) : Statement (.srcVerdictWrite r n v) := of_wf _
theorem pendTimerExpiry (n : Src) : Statement (.pendTimerExpiry n) := of_wf _
theorem verdictStale (n : Src) : Statement (.verdictStale n) := of_wf _
theorem srcAccept (r : Req) (n : Src) (v : Word) : Statement (.srcAccept r n v) := of_wf _
theorem srcHold (r : Req) (n : Src) (v : Word) : Statement (.srcHold r n v) := of_wf _
theorem srcClrstat (r : Req) (n : Src) (v : Word) : Statement (.srcClrstat r n v) := of_wf _
theorem selectorEvaluation (n : Loop) : Statement (.selectorEvaluation n) := of_wf _
theorem selReeval (r : Req) (n : Loop) (v : Word) : Statement (.selReeval r n v) := of_wf _
theorem selAbsorb (r : Req) (n : Loop) (v : Word) : Statement (.selAbsorb r n v) := of_wf _
theorem switchFirstSample (n : Loop) : Statement (.switchFirstSample n) := of_wf _
theorem retargetFirstSample (n : Loop) : Statement (.retargetFirstSample n) := of_wf _
theorem returnFirstSample (n : Loop) : Statement (.returnFirstSample n) := of_wf _
theorem dpllUpdate (n : Loop) (baw : Int) : Statement (.dpllUpdate n baw) := of_wf _
theorem dcowCommit (r : Req) (n : Loop) (v : Word) : Statement (.dcowCommit r n v) := of_wf _
theorem howordCommit (r : Req) (n : Loop) (v : Word) : Statement (.howordCommit r n v) := of_wf _
theorem phaseStepCommand (r : Req) (n : Loop) (v : Word) : Statement (.phaseStepCommand r n v) := of_wf _
theorem psabort (r : Req) (n : Loop) (v : Word) : Statement (.psabort r n v) := of_wf _
theorem dpllEnable (r : Req) (n : Loop) (v : Word) : Statement (.dpllEnable r n v) := of_wf _
theorem dpllDisable (r : Req) (n : Loop) (v : Word) : Statement (.dpllDisable r n v) := of_wf _
theorem tiedSet (r : Req) (v : Word) : Statement (.tiedSet r v) := of_wf _
theorem tiedClear (r : Req) (v : Word) : Statement (.tiedClear r v) := of_wf _
theorem lpstatWrite (r : Req) (n : Loop) (v : Word) : Statement (.lpstatWrite r n v) := of_wf _
theorem flockWindowEnd (n : Loop) : Statement (.flockWindowEnd n) := of_wf _
theorem oscEvaluation : Statement (.oscEvaluation) := of_wf _
theorem thermistorSample (code : BitVec 16) : Statement (.thermistorSample code) := of_wf _
theorem learningSample : Statement (.learningSample) := of_wf _
theorem oscGenCommit (r : Req) (v : Word) : Statement (.oscGenCommit r v) := of_wf _
theorem lsInfoRead (r : Req) : Statement (.lsInfoRead r) := of_wf _
theorem teestUpdate : Statement (.teestUpdate) := of_wf _
theorem bawFail (amp : Bool) (off : Int) : Statement (.bawFail amp off) := of_wf _
theorem clkCountCheck (diff : Int) : Statement (.clkCountCheck diff) := of_wf _
theorem apllEnable (r : Req) (n : Apll) (v : Word) : Statement (.apllEnable r n v) := of_wf _
theorem apllDisable (r : Req) (n : Apll) (v : Word) : Statement (.apllDisable r n v) := of_wf _
theorem bandSearchDone (n : Apll) (band : Fin 128) : Statement (.bandSearchDone n band) := of_wf _
theorem apllLockAcquired (n : Apll) : Statement (.apllLockAcquired n) := of_wf _
theorem vtuneSample (n : Apll) (mv : BitVec 12) : Statement (.vtuneSample n mv) := of_wf _
theorem apllLossOfLock (n : Apll) : Statement (.apllLossOfLock n) := of_wf _
theorem brgMapWrite (r : Req) (v : Word) : Statement (.brgMapWrite r v) := of_wf _
theorem outEnable (r : Req) (n : Chan) (v : Word) : Statement (.outEnable r n v) := of_wf _
theorem outStartOnLock (n : Chan) : Statement (.outStartOnLock n) := of_wf _
theorem outDisable (r : Req) (n : Chan) (v : Word) : Statement (.outDisable r n v) := of_wf _
theorem fretMove (n : Chan) : Statement (.fretMove n) := of_wf _
theorem outResume (r : Req) (n : Chan) (v : Word) : Statement (.outResume r n v) := of_wf _
theorem safeActionApply (n : Chan) : Statement (.safeActionApply n) := of_wf _
theorem driverFaultDetection (d : DrvBad) : Statement (.driverFaultDetection d) := of_wf _
theorem dividerTerminalCount (n : Chan) (equal : Bool) : Statement (.dividerTerminalCount n equal) := of_wf _
theorem syncArm (r : Req) (v : Word) : Statement (.syncArm r v) := of_wf _
theorem syncDisarm (r : Req) (v : Word) : Statement (.syncDisarm r v) := of_wf _
theorem syncPlacement : Statement (.syncPlacement) := of_wf _
theorem syncReset : Statement (.syncReset) := of_wf _
theorem syncInEdge (code : Fin 2048) (rising : Bool) : Statement (.syncInEdge code rising) := of_wf _
theorem apllTrim (n : Apll) : Statement (.apllTrim n) := of_wf _
theorem trimSaturation (n : Apll) : Statement (.trimSaturation n) := of_wf _
theorem srStart (r : Req) (g : SrGen) (v : Word) : Statement (.srStart r g v) := of_wf _
theorem srStop (r : Req) (g : SrGen) (v : Word) : Statement (.srStop r g v) := of_wf _
theorem srGateOpen (g : SrGen) : Statement (.srGateOpen g) := of_wf _
theorem srPatternEnd (g : SrGen) : Statement (.srPatternEnd g) := of_wf _
theorem echoResult (n : Chan) (tau : Option Nat) (lam : Int) (gam : Int) : Statement (.echoResult n tau lam gam) := of_wf _
theorem tbIncrCommit (r : Req) (v : Word) : Statement (.tbIncrCommit r v) := of_wf _
theorem tbIncrEffect : Statement (.tbIncrEffect) := of_wf _
theorem tbSrvwCommit (r : Req) (v : Word) : Statement (.tbSrvwCommit r v) := of_wf _
theorem tbSteerWrite (r : Req) (v : Word) : Statement (.tbSteerWrite r v) := of_wf _
theorem tbSteerEffect : Statement (.tbSteerEffect) := of_wf _
theorem tbModeWrite (r : Req) (v : Word) : Statement (.tbModeWrite r v) := of_wf _
theorem tbModeEffect : Statement (.tbModeEffect) := of_wf _
theorem tbStepCommand (r : Req) (v : Word) : Statement (.tbStepCommand r v) := of_wf _
theorem tbStepEffect : Statement (.tbStepEffect) := of_wf _
theorem tbBackenWrite (r : Req) (v : Word) : Statement (.tbBackenWrite r v) := of_wf _
theorem backarmExpiry : Statement (.backarmExpiry) := of_wf _
theorem tbResync (r : Req) (v : Word) : Statement (.tbResync r v) := of_wf _
theorem tbDupMismatch : Statement (.tbDupMismatch) := of_wf _
theorem tevArm (r : Req) (g : Gen) (v : Word) : Statement (.tevArm r g v) := of_wf _
theorem tevDisarm (r : Req) (g : Gen) (v : Word) : Statement (.tevDisarm r g v) := of_wf _
theorem tevDisable (r : Req) (v : Word) : Statement (.tevDisable r v) := of_wf _
theorem timedEventFiring (g : Gen) : Statement (.timedEventFiring g) := of_wf _
theorem tevPinPulseEnd (p : Fin 8) : Statement (.tevPinPulseEnd p) := of_wf _
theorem capture (p : Cap) (code : Fin 2048) (falling : Bool) : Statement (.capture p code falling) := of_wf _
theorem snapInEdge (code : Fin 2048) (falling : Bool) : Statement (.snapInEdge code falling) := of_wf _
theorem snapshotTrigger : Statement (.snapshotTrigger) := of_wf _
theorem snapRelease (r : Req) (v : Word) : Statement (.snapRelease r v) := of_wf _
theorem snapRinggo (r : Req) (v : Word) : Statement (.snapRinggo r v) := of_wf _
theorem ringSnapshot : Statement (.ringSnapshot) := of_wf _
theorem ethLinkChange (n : Port) (link : Bool) (hiber : Bool) (fecLock : Bool) : Statement (.ethLinkChange n link hiber fecLock) := of_wf _
theorem ethFrameRx (n : Port) (frame : List Byte) (fcsOk : Bool) (t : Nat) (cor : Nat) (unc : Nat) : Statement (.ethFrameRx n frame fcsOk t cor unc) := of_wf _
theorem eventRateWindow (n : Port) : Statement (.eventRateWindow n) := of_wf _
theorem ptpTxDescriptor (n : Port) : Statement (.ptpTxDescriptor n) := of_wf _
theorem ptpFrameTx (n : Port) (t : Nat) : Statement (.ptpFrameTx n t) := of_wf _
theorem originatedFrameTimeout (n : Port) : Statement (.originatedFrameTimeout n) := of_wf _
theorem ptpEnable (r : Req) (n : Port) (v : Word) : Statement (.ptpEnable r n v) := of_wf _
theorem ptpSrvenWrite (r : Req) (n : Port) (v : Word) : Statement (.ptpSrvenWrite r n v) := of_wf _
theorem ptpPstateWrite (r : Req) (n : Port) (v : Word) : Statement (.ptpPstateWrite r n v) := of_wf _
theorem ptpOffsetCommit (r : Req) (n : Port) (v : Word) : Statement (.ptpOffsetCommit r n v) := of_wf _
theorem ptpPathhold (r : Req) (n : Port) (v : Word) : Statement (.ptpPathhold r n v) := of_wf _
theorem ptpPathaccept (r : Req) (n : Port) (v : Word) : Statement (.ptpPathaccept r n v) := of_wf _
theorem ptpPathreject (r : Req) (n : Port) (v : Word) : Statement (.ptpPathreject r n v) := of_wf _
theorem ptpParentchg (r : Req) (n : Port) (v : Word) : Statement (.ptpParentchg r n v) := of_wf _
theorem ptpSrvreset (r : Req) (n : Port) (v : Word) : Statement (.ptpSrvreset r n v) := of_wf _
theorem pathHoldTimeout (n : Port) : Statement (.pathHoldTimeout n) := of_wf _
theorem syeRxssmWrite (r : Req) (p : Port) (v : Word) : Statement (.syeRxssmWrite r p v) := of_wf _
theorem esmcTimeout (p : Port) : Statement (.esmcTimeout p) := of_wf _
theorem esmcTick : Statement (.esmcTick) := of_wf _
theorem uartMessage (bytes : List Byte) (framing : Bool) (start : Nat) : Statement (.uartMessage bytes framing start) := of_wf _
theorem uartTodAssociation : Statement (.uartTodAssociation) := of_wf _
theorem uartTxStart : Statement (.uartTxStart) := of_wf _
theorem uartTxEnd : Statement (.uartTxEnd) := of_wf _
theorem glCellRx (p : Port) (header : Word64) (payload : List Byte) (arr : Nat) : Statement (.glCellRx p header payload arr) := of_wf _
theorem glTimeInitiation : Statement (.glTimeInitiation) := of_wf _
theorem glAlignedCheck : Statement (.glAlignedCheck) := of_wf _
theorem glLaneRangingResult (p : Port) (tau : Option Nat) (gam : Int) : Statement (.glLaneRangingResult p tau gam) := of_wf _
theorem glTokenRegen : Statement (.glTokenRegen) := of_wf _
theorem glTokenHoldEnd (d : Port) : Statement (.glTokenHoldEnd d) := of_wf _
theorem glPortUp (p : Port) : Statement (.glPortUp p) := of_wf _
theorem glMeasuringEnd (p : Port) : Statement (.glMeasuringEnd p) := of_wf _
theorem glPortDown (p : Port) : Statement (.glPortDown p) := of_wf _
theorem glLinkFault (p : Port) : Statement (.glLinkFault p) := of_wf _
theorem glForm (r : Req) (v : Word) : Statement (.glForm r v) := of_wf _
theorem glRejoin (r : Req) (v : Word) : Statement (.glRejoin r v) := of_wf _
theorem src20RankTimeout : Statement (.src20RankTimeout) := of_wf _
theorem tunnelledAccess (r : Req) (a : Nat) (w : Option Word) : Statement (.tunnelledAccess r a w) := of_wf _
theorem tunnelIssue : Statement (.tunnelIssue) := of_wf _
theorem tunnelTimeout : Statement (.tunnelTimeout) := of_wf _
theorem gangEnable (r : Req) (v : Word) : Statement (.gangEnable r v) := of_wf _
theorem tdcLinearisation (i : Fin 38) (counts : List Nat) : Statement (.tdcLinearisation i counts) := of_wf _
theorem fretTableReform : Statement (.fretTableReform) := of_wf _
theorem fcalUpdate (n : Chan) (lam : Int) : Statement (.fcalUpdate n lam) := of_wf _
theorem calseqStart (r : Req) (v : Word) : Statement (.calseqStart r v) := of_wf _
theorem calseqCont (r : Req) (v : Word) : Statement (.calseqCont r v) := of_wf _
theorem calseqAbort (r : Req) (v : Word) : Statement (.calseqAbort r v) := of_wf _
theorem calseqStepDone (fret : List (Nat × List Nat × Int)) : Statement (.calseqStepDone fret) := of_wf _
theorem calTptsWrite (r : Req) (j : Fin 2) (v : Word) : Statement (.calTptsWrite r j v) := of_wf _
theorem calTdataAccess (r : Req) (w : Option Word) : Statement (.calTdataAccess r w) := of_wf _
theorem ageReading (ratios : List Nat) : Statement (.ageReading ratios) := of_wf _
theorem hlthPlanWrite (r : Req) (v : Word) : Statement (.hlthPlanWrite r v) := of_wf _
theorem hlthAgeack (r : Req) (v : Word) : Statement (.hlthAgeack r v) := of_wf _
theorem hlthAgenow (r : Req) (v : Word) : Statement (.hlthAgenow r v) := of_wf _
theorem vcoreOffsetStep : Statement (.vcoreOffsetStep) := of_wf _
theorem dieTempReading (temps : List Int) : Statement (.dieTempReading temps) := of_wf _
theorem lifedataAccess (r : Req) (w : Option Word) : Statement (.lifedataAccess r w) := of_wf _
theorem nvRead (r : Req) (v : Word) (upset : List (Nat × Bool)) : Statement (.nvRead r v upset) := of_wf _
theorem nvWrite (r : Req) (v : Word) : Statement (.nvWrite r v) := of_wf _
theorem nvCopyout (r : Req) (v : Word) (upset : List (Nat × Bool)) : Statement (.nvCopyout r v upset) := of_wf _
theorem nvCopyin (r : Req) (v : Word) : Statement (.nvCopyin r v) := of_wf _
theorem nvUnlock (r : Req) (v : Word) : Statement (.nvUnlock r v) := of_wf _
theorem nvRelock (r : Req) (v : Word) : Statement (.nvRelock r v) := of_wf _
theorem nvSetpwd (r : Req) (v : Word) : Statement (.nvSetpwd r v) := of_wf _
theorem nvScannow (r : Req) (v : Word) : Statement (.nvScannow r v) := of_wf _
theorem nvOperationDone : Statement (.nvOperationDone) := of_wf _
theorem nvWaitingCommandStart : Statement (.nvWaitingCommandStart) := of_wf _
theorem nvRefreshRow (cond : Fin 4) : Statement (.nvRefreshRow cond) := of_wf _
theorem nvSlotUpdate (r : Req) (v : Word) : Statement (.nvSlotUpdate r v) := of_wf _
theorem nvSlotFetch (r : Req) (v : Word) : Statement (.nvSlotFetch r v) := of_wf _
theorem vinOn : Statement (.vinOn) := of_wf _
theorem porRelease (id : Fin 8) (boot : Fin 4) : Statement (.porRelease id boot) := of_wf _
theorem tbPllLock : Statement (.tbPllLock) := of_wf _
theorem supplyDetection (cond : Fin 7) : Statement (.supplyDetection cond) := of_wf _
theorem vinlowArmTimeout : Statement (.vinlowArmTimeout) := of_wf _
theorem vinFail : Statement (.vinFail) := of_wf _
theorem vinOff : Statement (.vinOff) := of_wf _
theorem thermalReset : Statement (.thermalReset) := of_wf _
theorem thermalResetRelease : Statement (.thermalResetRelease) := of_wf _
theorem resetNAssert : Statement (.resetNAssert) := of_wf _
theorem resetNRelease (id : Fin 8) (boot : Fin 4) : Statement (.resetNRelease id boot) := of_wf _
theorem softReset (r : Req) (v : Word) : Statement (.softReset r v) := of_wf _
theorem blockReset (r : Req) (v : Word) : Statement (.blockReset r v) := of_wf _
theorem apllPhaseMeasurement (n : Apll) (raw : Int) : Statement (.apllPhaseMeasurement n raw) := of_wf _
theorem supplyConditionEnd (cond : Fin 8) : Statement (.supplyConditionEnd cond) := of_wf _
theorem drvbadClear (d : DrvGood) : Statement (.drvbadClear d) := of_wf _
theorem heldOffsetSample (n : Port) : Statement (.heldOffsetSample n) := of_wf _
theorem todAssociationTimeout : Statement (.todAssociationTimeout) := of_wf _
theorem discReturnDeadline : Statement (.discReturnDeadline) := of_wf _
theorem lifetimeHour (vin : BitVec 16) : Statement (.lifetimeHour vin) := of_wf _

end Sys2Proof.Laws.Sender
end

