-- ==== Sys2Proof/Laws/Regs.lean ====
section
/-!
SUPPORT. The laws of the registers: a read after a write, fields of one register and of others, and what events and
fault messages leave as it was.
-/

namespace Sys2Proof.Machine

/-! ### Bit fields -/

/-- A field just written reads as written. -/
theorem bitsOf_putBits_same (v l w x : Nat) : bitsOf (putBits v l w x) l w = x % 2 ^ w := by
  unfold bitsOf putBits
  have h1 : v % 2 ^ l + x % 2 ^ w * 2 ^ l + v / 2 ^ (l + w) * 2 ^ (l + w) =
      v % 2 ^ l + 2 ^ l * (x % 2 ^ w + 2 ^ w * (v / 2 ^ (l + w))) := by rw [pow_add]; ring
  rw [h1, Nat.add_mul_div_left _ _ (Nat.two_pow_pos l), Nat.div_eq_of_lt (Nat.mod_lt _ (Nat.two_pow_pos l)), Nat.zero_add,
    Nat.add_mul_mod_self_left, Nat.mod_mod]

/-- Bit `i` of a number with one field replaced. -/
theorem putBits_testBit (v l w x i : Nat) :
    (putBits v l w x).testBit i = if l ≤ i ∧ i < l + w then x.testBit (i - l) else v.testBit i := by
  have h1 : putBits v l w x = 2 ^ (l + w) * (v / 2 ^ (l + w)) + (2 ^ l * (x % 2 ^ w) + v % 2 ^ l) := by
    unfold putBits; ring
  have hx : x % 2 ^ w < 2 ^ w := Nat.mod_lt _ (Nat.two_pow_pos w)
  have hv : v % 2 ^ l < 2 ^ l := Nat.mod_lt _ (Nat.two_pow_pos l)
  have hb : 2 ^ l * (x % 2 ^ w) + v % 2 ^ l < 2 ^ (l + w) := by
    rw [pow_add]
    calc 2 ^ l * (x % 2 ^ w) + v % 2 ^ l < 2 ^ l * (x % 2 ^ w) + 2 ^ l * 1 := by omega
      _ = 2 ^ l * (x % 2 ^ w + 1) := by ring
      _ ≤ 2 ^ l * 2 ^ w := Nat.mul_le_mul_left _ hx
  rw [h1, Nat.testBit_two_pow_mul_add _ hb]
  by_cases h2 : i < l + w
  · simp only [h2, if_true]
    rw [Nat.testBit_two_pow_mul_add _ hv]
    by_cases h3 : i < l
    · have : ¬ l ≤ i := by omega
      simp [h3, this]
    · have h4 : l ≤ i := by omega
      have h5 : i - l < w := by omega
      simp [h3, h4, h5]
  · have h5 : l + w ≤ i := by omega
    have h6 : ¬ (l ≤ i ∧ i < l + w) := by omega
    rw [if_neg h2, if_neg h6, Nat.testBit_div_two_pow, Nat.sub_add_cancel h5]

/-- Bit `i` of a field. -/
theorem bitsOf_testBit (v l w i : Nat) : (bitsOf v l w).testBit i = (decide (i < w) && v.testBit (i + l)) := by
  unfold bitsOf
  rw [Nat.testBit_mod_two_pow, Nat.testBit_div_two_pow, Nat.add_comm]

/-- A field beside the one written reads as before. -/
theorem bitsOf_putBits_other (v l w x l' w' : Nat) (h : l' + w' ≤ l ∨ l + w ≤ l') :
    bitsOf (putBits v l w x) l' w' = bitsOf v l' w' := by
  apply Nat.eq_of_testBit_eq
  intro i
  rw [bitsOf_testBit, bitsOf_testBit, putBits_testBit]
  by_cases hi : i < w'
  · have : ¬ (l ≤ i + l' ∧ i + l' < l + w) := by omega
    simp [this]
  · simp [hi]

/-- A field of a 32-bit number does not depend on what is above. -/
theorem bitsOf_mod32 (v l w : Nat) (h : l + w ≤ 32) : bitsOf (v % 2 ^ 32) l w = bitsOf v l w := by
  apply Nat.eq_of_testBit_eq
  intro i
  rw [bitsOf_testBit, bitsOf_testBit, Nat.testBit_mod_two_pow]
  by_cases hi : i < w
  · have : i + l < 32 := by omega
    simp [this]
  · simp [hi]

/-- A field of a number made by setting bits (R360). -/
theorem bitsOf_or (v m l w : Nat) : bitsOf (v ||| m) l w = bitsOf v l w ||| bitsOf m l w := by
  apply Nat.eq_of_testBit_eq
  intro i
  simp only [bitsOf_testBit, Nat.testBit_or]
  cases decide (i < w) <;> simp

/-! ### Reading a register -/

/-- Every address but the one written reads as before, whatever the list. -/
theorem sparseGet_put_ne {α : Type} [DecidableEq α] (d : Nat → α) (l : List (Nat × α)) (k j : Nat) (v : α) (hj : k ≠ j) :
    sparseGet d (sparsePut d l k v) j = sparseGet d l j := by
  induction l with
  | nil => by_cases hv : v = d k <;> simp [sparsePut, sparseGet, hv, hj]
  | cons e t ih =>
    obtain ⟨k', v'⟩ := e
    unfold sparsePut
    split
    · split <;> simp [sparseGet, hj]
    · split
      · rename_i he
        subst he
        split <;> simp [sparseGet, hj]
      · simp only [sparseGet]
        rw [ih]

/-- The register bank is in its canonical form. -/
def State.Canon (s : State) : Prop := sparseWf regReset s.regs = true

theorem State.Inv.canon {s : State} (h : s.Inv) : s.Canon := h.1

theorem State.keeps_inv {s t : State} (h : s.Inv) (k : s.Keeps t) : t.Inv := k.2 h

/-- Two registers have two addresses. -/
theorem regAddr_ne {w off w' off' : Nat} (h : off < 0x4000) (h' : off' < 0x4000) (hne : w ≠ w' ∨ off ≠ off') :
    regAddr w off ≠ regAddr w' off' := by
  unfold regAddr
  omega

variable (s : State)

/-- A register just written reads as its low 32 bits. -/
theorem State.rn_wr_same (h : s.Canon) (w off v : Nat) : (s.wr w off v).rn w off = v % 2 ^ 32 := by
  have e : sparseGet regReset (sparsePut regReset s.regs (regAddr w off) (BitVec.ofNat 32 v)) (regAddr w off) =
    BitVec.ofNat 32 v := sparseGet_put_same regReset s.regs (regAddr w off) 0 _ h
  change (sparseGet regReset (sparsePut regReset s.regs (regAddr w off) (BitVec.ofNat 32 v)) (regAddr w off)).toNat = _
  rw [e, BitVec.toNat_ofNat]

/-- Every other register reads as before. -/
theorem State.rn_wr_other (w off v w' off' : Nat) (h : regAddr w off ≠ regAddr w' off') :
    (s.wr w off v).rn w' off' = s.rn w' off' := by
  change (sparseGet regReset (sparsePut regReset s.regs (regAddr w off) (BitVec.ofNat 32 v)) (regAddr w' off')).toNat = _
  rw [sparseGet_put_ne _ _ _ _ _ h]
  rfl

theorem State.rn_lt (w off : Nat) : s.rn w off < 2 ^ 32 := (s.rd w off).isLt

theorem State.wr_canon {s : State} (h : s.Canon) (w off v : Nat) : (s.wr w off v).Canon := sparsePut_wf regReset _ _ _ h
theorem State.put_canon {s : State} (h : s.Canon) (w : Nat) (f : Fld) (v : Nat) : (s.put w f v).Canon := State.wr_canon h _ _ _
theorem State.sts_canon {s : State} (h : s.Canon) (w off m : Nat) : (s.sts w off m).Canon := State.wr_canon h _ _ _
theorem State.count_canon {s : State} (h : s.Canon) (w off n : Nat) : (s.count w off n).Canon := State.wr_canon h _ _ _

/-- A field just written reads as the low bits of its value. -/
theorem State.get_put_same (h : s.Canon) (w : Nat) (f : Fld) (v : Nat) (hf : f.lsb + f.width ≤ 32) :
    (s.put w f v).get w f = v % 2 ^ f.width := by
  unfold State.get State.put
  rw [State.rn_wr_same s h, bitsOf_mod32 _ _ _ hf, bitsOf_putBits_same]

/-- A field beside it in the same register reads as before. -/
theorem State.get_put_beside (h : s.Canon) (w : Nat) (f g : Fld) (v : Nat) (ho : g.off = f.off)
    (hg : g.lsb + g.width ≤ 32) (hd : g.lsb + g.width ≤ f.lsb ∨ f.lsb + f.width ≤ g.lsb) :
    (s.put w f v).get w g = s.get w g := by
  unfold State.get State.put
  rw [ho, State.rn_wr_same s h, bitsOf_mod32 _ _ _ hg, bitsOf_putBits_other _ _ _ _ _ _ hd]

/-- A field of another register reads as before. -/
theorem State.get_wr_other (w off v w' : Nat) (f : Fld) (h : regAddr w off ≠ regAddr w' f.off) :
    (s.wr w off v).get w' f = s.get w' f := by
  unfold State.get
  rw [State.rn_wr_other s w off v w' f.off h]

theorem State.rn_put_other (w : Nat) (f : Fld) (v w' off' : Nat) (h : regAddr w f.off ≠ regAddr w' off') :
    (s.put w f v).rn w' off' = s.rn w' off' := State.rn_wr_other s _ _ _ _ _ h
theorem State.rn_sts_other (w off m w' off' : Nat) (h : regAddr w off ≠ regAddr w' off') :
    (s.sts w off m).rn w' off' = s.rn w' off' := State.rn_wr_other s _ _ _ _ _ h
theorem State.rn_count_other (w off n w' off' : Nat) (h : regAddr w off ≠ regAddr w' off') :
    (s.count w off n).rn w' off' = s.rn w' off' := State.rn_wr_other s _ _ _ _ _ h
theorem State.get_put_other (w : Nat) (f : Fld) (v w' : Nat) (g : Fld) (h : regAddr w f.off ≠ regAddr w' g.off) :
    (s.put w f v).get w' g = s.get w' g := State.get_wr_other s _ _ _ _ _ h
theorem State.get_sts_other (w off m w' : Nat) (g : Fld) (h : regAddr w off ≠ regAddr w' g.off) :
    (s.sts w off m).get w' g = s.get w' g := State.get_wr_other s _ _ _ _ _ h
theorem State.get_count_other (w off n w' : Nat) (g : Fld) (h : regAddr w off ≠ regAddr w' g.off) :
    (s.count w off n).get w' g = s.get w' g := State.get_wr_other s _ _ _ _ _ h

/-- A count goes up by what is added, within 32 bits. -/
theorem State.rn_count_same (h : s.Canon) (w off n : Nat) : (s.count w off n).rn w off = (s.rn w off + n) % 2 ^ 32 := by
  unfold State.count
  rw [State.rn_wr_same s h, Nat.mod_mod]

/-- R360: an STS register after an event: its bits set below SEQ, SEQ one up. -/
theorem State.rn_sts_same (h : s.Canon) (w off m : Nat) :
    (s.sts w off m).rn w off = putBits (s.rn w off ||| m) 24 8 (s.rn w off / 2 ^ 24 + 1) % 2 ^ 32 := by
  unfold State.sts
  rw [State.rn_wr_same s h]

/-- A flag of an STS register after an event. -/
theorem State.get_sts_low (h : s.Canon) (w : Nat) (f : Fld) (m : Nat) (hf : f.lsb + f.width ≤ 24) :
    (s.sts w f.off m).get w f = s.get w f ||| bitsOf m f.lsb f.width := by
  unfold State.get
  rw [State.rn_sts_same s h, bitsOf_mod32 _ _ _ (by omega), bitsOf_putBits_other _ _ _ _ _ _ (.inl hf), bitsOf_or]

/-! ### What small updates leave of the registers -/

@[simp] theorem State.setPar_rn (l : List (Nat × Bool)) (a b : Nat) : (s.setPar l).rn a b = s.rn a b := rfl
@[simp] theorem State.setPar_get (l : List (Nat × Bool)) (a : Nat) (g : Fld) : (s.setPar l).get a g = s.get a g := rfl
@[simp] theorem State.setPar_flag (l : List (Nat × Bool)) (a : Nat) (g : Fld) : (s.setPar l).flag a g = s.flag a g := rfl
@[simp] theorem State.setMem_rn (l : List Host.Cell) (a b : Nat) : (s.setMem l).rn a b = s.rn a b := rfl
@[simp] theorem State.setMem_get (l : List Host.Cell) (a : Nat) (g : Fld) : (s.setMem l).get a g = s.get a g := rfl
@[simp] theorem State.setMem_flag (l : List Host.Cell) (a : Nat) (g : Fld) : (s.setMem l).flag a g = s.flag a g := rfl
@[simp] theorem State.setEcc_rn (l : List (Nat × Bool)) (a b : Nat) : (s.setEcc l).rn a b = s.rn a b := rfl
@[simp] theorem State.setEcc_get (l : List (Nat × Bool)) (a : Nat) (g : Fld) : (s.setEcc l).get a g = s.get a g := rfl
@[simp] theorem State.setEcc_flag (l : List (Nat × Bool)) (a : Nat) (g : Fld) : (s.setEcc l).flag a g = s.flag a g := rfl
@[simp] theorem State.setAcc_rn (x : AccSt) (a b : Nat) : (s.setAcc x).rn a b = s.rn a b := rfl
@[simp] theorem State.setAcc_get (x : AccSt) (a : Nat) (g : Fld) : (s.setAcc x).get a g = s.get a g := rfl
@[simp] theorem State.setAcc_flag (x : AccSt) (a : Nat) (g : Fld) : (s.setAcc x).flag a g = s.flag a g := rfl
@[simp] theorem State.setHif_rn (x : HifSt) (a b : Nat) : (s.setHif x).rn a b = s.rn a b := rfl
@[simp] theorem State.setHif_get (x : HifSt) (a : Nat) (g : Fld) : (s.setHif x).get a g = s.get a g := rfl
@[simp] theorem State.setHif_flag (x : HifSt) (a : Nat) (g : Fld) : (s.setHif x).flag a g = s.flag a g := rfl
@[simp] theorem State.setFlt_rn (x : FltSt) (a b : Nat) : (s.setFlt x).rn a b = s.rn a b := rfl
@[simp] theorem State.setFlt_get (x : FltSt) (a : Nat) (g : Fld) : (s.setFlt x).get a g = s.get a g := rfl
@[simp] theorem State.setFlt_flag (x : FltSt) (a : Nat) (g : Fld) : (s.setFlt x).flag a g = s.flag a g := rfl
@[simp] theorem State.setTb_rn (x : TbSt) (a b : Nat) : (s.setTb x).rn a b = s.rn a b := rfl
@[simp] theorem State.setTb_get (x : TbSt) (a : Nat) (g : Fld) : (s.setTb x).get a g = s.get a g := rfl
@[simp] theorem State.setTb_flag (x : TbSt) (a : Nat) (g : Fld) : (s.setTb x).flag a g = s.flag a g := rfl
@[simp] theorem State.setTev_rn (x : TevSt) (a b : Nat) : (s.setTev x).rn a b = s.rn a b := rfl
@[simp] theorem State.setTev_get (x : TevSt) (a : Nat) (g : Fld) : (s.setTev x).get a g = s.get a g := rfl
@[simp] theorem State.setTev_flag (x : TevSt) (a : Nat) (g : Fld) : (s.setTev x).flag a g = s.flag a g := rfl
@[simp] theorem State.setLdr_rn (x : LdrSt) (a b : Nat) : (s.setLdr x).rn a b = s.rn a b := rfl
@[simp] theorem State.setLdr_get (x : LdrSt) (a : Nat) (g : Fld) : (s.setLdr x).get a g = s.get a g := rfl
@[simp] theorem State.setLdr_flag (x : LdrSt) (a : Nat) (g : Fld) : (s.setLdr x).flag a g = s.flag a g := rfl
@[simp] theorem State.setPending_rn (l : List Instr) (a b : Nat) : (s.setPending l).rn a b = s.rn a b := rfl
@[simp] theorem State.setPending_get (l : List Instr) (a : Nat) (g : Fld) : (s.setPending l).get a g = s.get a g := rfl
@[simp] theorem State.setPending_flag (l : List Instr) (a : Nat) (g : Fld) : (s.setPending l).flag a g = s.flag a g := rfl
@[simp] theorem State.modQueue_rn (n : Nat) (f : QueueSt → QueueSt) (a b : Nat) : (s.modQueue n f).rn a b = s.rn a b := rfl
@[simp] theorem State.modQueue_get (n : Nat) (f : QueueSt → QueueSt) (a : Nat) (g : Fld) : (s.modQueue n f).get a g = s.get a g := rfl
@[simp] theorem State.modQueue_flag (n : Nat) (f : QueueSt → QueueSt) (a : Nat) (g : Fld) : (s.modQueue n f).flag a g = s.flag a g := rfl
@[simp] theorem State.modRing_rn (n : Nat) (f : RingSt → RingSt) (a b : Nat) : (s.modRing n f).rn a b = s.rn a b := rfl
@[simp] theorem State.modRing_get (n : Nat) (f : RingSt → RingSt) (a : Nat) (g : Fld) : (s.modRing n f).get a g = s.get a g := rfl
@[simp] theorem State.modRing_flag (n : Nat) (f : RingSt → RingSt) (a : Nat) (g : Fld) : (s.modRing n f).flag a g = s.flag a g := rfl
@[simp] theorem State.modEng_rn (k : Nat) (f : Eng → Eng) (a b : Nat) : (s.modEng k f).rn a b = s.rn a b := rfl
@[simp] theorem State.modEng_get (k : Nat) (f : Eng → Eng) (a : Nat) (g : Fld) : (s.modEng k f).get a g = s.get a g := rfl
@[simp] theorem State.modEng_flag (k : Nat) (f : Eng → Eng) (a : Nat) (g : Fld) : (s.modEng k f).flag a g = s.flag a g := rfl
@[simp] theorem State.modSrc_rn (n : Nat) (f : SrcSt → SrcSt) (a b : Nat) : (s.modSrc n f).rn a b = s.rn a b := rfl
@[simp] theorem State.modSrc_get (n : Nat) (f : SrcSt → SrcSt) (a : Nat) (g : Fld) : (s.modSrc n f).get a g = s.get a g := rfl
@[simp] theorem State.modSrc_flag (n : Nat) (f : SrcSt → SrcSt) (a : Nat) (g : Fld) : (s.modSrc n f).flag a g = s.flag a g := rfl
@[simp] theorem State.setMon_rn (x : MonSt) (a b : Nat) : (s.setMon x).rn a b = s.rn a b := rfl
@[simp] theorem State.setMon_get (x : MonSt) (a : Nat) (g : Fld) : (s.setMon x).get a g = s.get a g := rfl
@[simp] theorem State.setMon_flag (x : MonSt) (a : Nat) (g : Fld) : (s.setMon x).flag a g = s.flag a g := rfl
@[simp] theorem State.modSel_rn (n : Nat) (f : SelSt → SelSt) (a b : Nat) : (s.modSel n f).rn a b = s.rn a b := rfl
@[simp] theorem State.modSel_get (n : Nat) (f : SelSt → SelSt) (a : Nat) (g : Fld) : (s.modSel n f).get a g = s.get a g := rfl
@[simp] theorem State.modSel_flag (n : Nat) (f : SelSt → SelSt) (a : Nat) (g : Fld) : (s.modSel n f).flag a g = s.flag a g := rfl
@[simp] theorem State.modDpll_rn (n : Nat) (f : DpllSt → DpllSt) (a b : Nat) : (s.modDpll n f).rn a b = s.rn a b := rfl
@[simp] theorem State.modDpll_get (n : Nat) (f : DpllSt → DpllSt) (a : Nat) (g : Fld) : (s.modDpll n f).get a g = s.get a g := rfl
@[simp] theorem State.modDpll_flag (n : Nat) (f : DpllSt → DpllSt) (a : Nat) (g : Fld) : (s.modDpll n f).flag a g = s.flag a g := rfl
@[simp] theorem State.setOsc_rn (x : OscSt) (a b : Nat) : (s.setOsc x).rn a b = s.rn a b := rfl
@[simp] theorem State.setOsc_get (x : OscSt) (a : Nat) (g : Fld) : (s.setOsc x).get a g = s.get a g := rfl
@[simp] theorem State.setOsc_flag (x : OscSt) (a : Nat) (g : Fld) : (s.setOsc x).flag a g = s.flag a g := rfl
@[simp] theorem State.setBrg_rn (x : BrgSt) (a b : Nat) : (s.setBrg x).rn a b = s.rn a b := rfl
@[simp] theorem State.setBrg_get (x : BrgSt) (a : Nat) (g : Fld) : (s.setBrg x).get a g = s.get a g := rfl
@[simp] theorem State.setBrg_flag (x : BrgSt) (a : Nat) (g : Fld) : (s.setBrg x).flag a g = s.flag a g := rfl
@[simp] theorem State.modApll_rn (n : Nat) (f : ApllSt → ApllSt) (a b : Nat) : (s.modApll n f).rn a b = s.rn a b := rfl
@[simp] theorem State.modApll_get (n : Nat) (f : ApllSt → ApllSt) (a : Nat) (g : Fld) : (s.modApll n f).get a g = s.get a g := rfl
@[simp] theorem State.modApll_flag (n : Nat) (f : ApllSt → ApllSt) (a : Nat) (g : Fld) : (s.modApll n f).flag a g = s.flag a g := rfl
@[simp] theorem State.modOut_rn (n : Nat) (f : OutSt → OutSt) (a b : Nat) : (s.modOut n f).rn a b = s.rn a b := rfl
@[simp] theorem State.modOut_get (n : Nat) (f : OutSt → OutSt) (a : Nat) (g : Fld) : (s.modOut n f).get a g = s.get a g := rfl
@[simp] theorem State.modOut_flag (n : Nat) (f : OutSt → OutSt) (a : Nat) (g : Fld) : (s.modOut n f).flag a g = s.flag a g := rfl
@[simp] theorem State.setGl_rn (x : GlSt) (a b : Nat) : (s.setGl x).rn a b = s.rn a b := rfl
@[simp] theorem State.setGl_get (x : GlSt) (a : Nat) (g : Fld) : (s.setGl x).get a g = s.get a g := rfl
@[simp] theorem State.setGl_flag (x : GlSt) (a : Nat) (g : Fld) : (s.setGl x).flag a g = s.flag a g := rfl
@[simp] theorem State.setSync_rn (x : SyncSt) (a b : Nat) : (s.setSync x).rn a b = s.rn a b := rfl
@[simp] theorem State.setSync_get (x : SyncSt) (a : Nat) (g : Fld) : (s.setSync x).get a g = s.get a g := rfl
@[simp] theorem State.setSync_flag (x : SyncSt) (a : Nat) (g : Fld) : (s.setSync x).flag a g = s.flag a g := rfl
@[simp] theorem State.modPtp_rn (n : Nat) (f : PtpSt → PtpSt) (a b : Nat) : (s.modPtp n f).rn a b = s.rn a b := rfl
@[simp] theorem State.modPtp_get (n : Nat) (f : PtpSt → PtpSt) (a : Nat) (g : Fld) : (s.modPtp n f).get a g = s.get a g := rfl
@[simp] theorem State.modPtp_flag (n : Nat) (f : PtpSt → PtpSt) (a : Nat) (g : Fld) : (s.modPtp n f).flag a g = s.flag a g := rfl
@[simp] theorem State.setTod_rn (x : TodSt) (a b : Nat) : (s.setTod x).rn a b = s.rn a b := rfl
@[simp] theorem State.setTod_get (x : TodSt) (a : Nat) (g : Fld) : (s.setTod x).get a g = s.get a g := rfl
@[simp] theorem State.setTod_flag (x : TodSt) (a : Nat) (g : Fld) : (s.setTod x).flag a g = s.flag a g := rfl
@[simp] theorem State.setCal_rn (x : CalSt) (a b : Nat) : (s.setCal x).rn a b = s.rn a b := rfl
@[simp] theorem State.setCal_get (x : CalSt) (a : Nat) (g : Fld) : (s.setCal x).get a g = s.get a g := rfl
@[simp] theorem State.setCal_flag (x : CalSt) (a : Nat) (g : Fld) : (s.setCal x).flag a g = s.flag a g := rfl
@[simp] theorem State.setHlth_rn (x : HlthSt) (a b : Nat) : (s.setHlth x).rn a b = s.rn a b := rfl
@[simp] theorem State.setHlth_get (x : HlthSt) (a : Nat) (g : Fld) : (s.setHlth x).get a g = s.get a g := rfl
@[simp] theorem State.setHlth_flag (x : HlthSt) (a : Nat) (g : Fld) : (s.setHlth x).flag a g = s.flag a g := rfl
@[simp] theorem State.setNv_rn (x : NvSt) (a b : Nat) : (s.setNv x).rn a b = s.rn a b := rfl
@[simp] theorem State.setNv_get (x : NvSt) (a : Nat) (g : Fld) : (s.setNv x).get a g = s.get a g := rfl
@[simp] theorem State.setNv_flag (x : NvSt) (a : Nat) (g : Fld) : (s.setNv x).flag a g = s.flag a g := rfl
@[simp] theorem State.setSys_rn (x : SysSt) (a b : Nat) : (s.setSys x).rn a b = s.rn a b := rfl
@[simp] theorem State.setSys_get (x : SysSt) (a : Nat) (g : Fld) : (s.setSys x).get a g = s.get a g := rfl
@[simp] theorem State.setSys_flag (x : SysSt) (a : Nat) (g : Fld) : (s.setSys x).flag a g = s.flag a g := rfl
@[simp] theorem State.setSup_rn (x : SupSt) (a b : Nat) : (s.setSup x).rn a b = s.rn a b := rfl
@[simp] theorem State.setSup_get (x : SupSt) (a : Nat) (g : Fld) : (s.setSup x).get a g = s.get a g := rfl
@[simp] theorem State.setSup_flag (x : SupSt) (a : Nat) (g : Fld) : (s.setSup x).flag a g = s.flag a g := rfl
@[simp] theorem State.modLp_rn (n : Nat) (f : LpSt → LpSt) (a b : Nat) : (s.modLp n f).rn a b = s.rn a b := rfl
@[simp] theorem State.modLp_get (n : Nat) (f : LpSt → LpSt) (a : Nat) (g : Fld) : (s.modLp n f).get a g = s.get a g := rfl
@[simp] theorem State.modLp_flag (n : Nat) (f : LpSt → LpSt) (a : Nat) (g : Fld) : (s.modLp n f).flag a g = s.flag a g := rfl
@[simp] theorem State.modBlk_rn (k : Nat) (f : StockBlk → StockBlk) (a b : Nat) : (s.modBlk k f).rn a b = s.rn a b := rfl
@[simp] theorem State.modBlk_get (k : Nat) (f : StockBlk → StockBlk) (a : Nat) (g : Fld) : (s.modBlk k f).get a g = s.get a g := rfl
@[simp] theorem State.modBlk_flag (k : Nat) (f : StockBlk → StockBlk) (a : Nat) (g : Fld) : (s.modBlk k f).flag a g = s.flag a g := rfl
@[simp] theorem State.emit_rn (x : Output) (a b : Nat) : (s.emit x).rn a b = s.rn a b := rfl
@[simp] theorem State.emit_get (x : Output) (a : Nat) (g : Fld) : (s.emit x).get a g = s.get a g := rfl
@[simp] theorem State.emit_flag (x : Output) (a : Nat) (g : Fld) : (s.emit x).flag a g = s.flag a g := rfl
@[simp] theorem State.takeFree_rn (a b : Nat) : (s.takeFree).2.rn a b = s.rn a b := rfl
@[simp] theorem State.takeFree_get (a : Nat) (g : Fld) : (s.takeFree).2.get a g = s.get a g := rfl

/-! ### What register writes leave of the rest -/

@[simp] theorem State.wr_pending (w off v : Nat) : (s.wr w off v).pending = s.pending := rfl
@[simp] theorem State.wr_mem (w off v : Nat) : (s.wr w off v).mem = s.mem := rfl
@[simp] theorem State.wr_ecc (w off v : Nat) : (s.wr w off v).ecc = s.ecc := rfl
@[simp] theorem State.wr_acc (w off v : Nat) : (s.wr w off v).acc = s.acc := rfl
@[simp] theorem State.wr_hif (w off v : Nat) : (s.wr w off v).hif = s.hif := rfl
@[simp] theorem State.wr_queues (w off v : Nat) : (s.wr w off v).queues = s.queues := rfl
@[simp] theorem State.wr_rings (w off v : Nat) : (s.wr w off v).rings = s.rings := rfl
@[simp] theorem State.wr_flt (w off v : Nat) : (s.wr w off v).flt = s.flt := rfl
@[simp] theorem State.wr_tb (w off v : Nat) : (s.wr w off v).tb = s.tb := rfl
@[simp] theorem State.wr_tev (w off v : Nat) : (s.wr w off v).tev = s.tev := rfl
@[simp] theorem State.wr_srcs (w off v : Nat) : (s.wr w off v).srcs = s.srcs := rfl
@[simp] theorem State.wr_mon (w off v : Nat) : (s.wr w off v).mon = s.mon := rfl
@[simp] theorem State.wr_sels (w off v : Nat) : (s.wr w off v).sels = s.sels := rfl
@[simp] theorem State.wr_dplls (w off v : Nat) : (s.wr w off v).dplls = s.dplls := rfl
@[simp] theorem State.wr_osc (w off v : Nat) : (s.wr w off v).osc = s.osc := rfl
@[simp] theorem State.wr_brg (w off v : Nat) : (s.wr w off v).brg = s.brg := rfl
@[simp] theorem State.wr_aplls (w off v : Nat) : (s.wr w off v).aplls = s.aplls := rfl
@[simp] theorem State.wr_outs (w off v : Nat) : (s.wr w off v).outs = s.outs := rfl
@[simp] theorem State.wr_sync (w off v : Nat) : (s.wr w off v).sync = s.sync := rfl
@[simp] theorem State.wr_gl (w off v : Nat) : (s.wr w off v).gl = s.gl := rfl
@[simp] theorem State.wr_ptps (w off v : Nat) : (s.wr w off v).ptps = s.ptps := rfl
@[simp] theorem State.wr_tod (w off v : Nat) : (s.wr w off v).tod = s.tod := rfl
@[simp] theorem State.wr_engs (w off v : Nat) : (s.wr w off v).engs = s.engs := rfl
@[simp] theorem State.wr_ldr (w off v : Nat) : (s.wr w off v).ldr = s.ldr := rfl
@[simp] theorem State.wr_cal (w off v : Nat) : (s.wr w off v).cal = s.cal := rfl
@[simp] theorem State.wr_hlth (w off v : Nat) : (s.wr w off v).hlth = s.hlth := rfl
@[simp] theorem State.wr_nv (w off v : Nat) : (s.wr w off v).nv = s.nv := rfl
@[simp] theorem State.wr_sys (w off v : Nat) : (s.wr w off v).sys = s.sys := rfl
@[simp] theorem State.wr_lps (w off v : Nat) : (s.wr w off v).lps = s.lps := rfl
@[simp] theorem State.wr_blks (w off v : Nat) : (s.wr w off v).blks = s.blks := rfl
@[simp] theorem State.wr_sup (w off v : Nat) : (s.wr w off v).sup = s.sup := rfl
@[simp] theorem State.wr_out (w off v : Nat) : (s.wr w off v).out = s.out := rfl
@[simp] theorem State.wr_freeCtr (w off v : Nat) : (s.wr w off v).freeCtr = s.freeCtr := rfl
@[simp] theorem State.put_pending (w : Nat) (f : Fld) (v : Nat) : (s.put w f v).pending = s.pending := rfl
@[simp] theorem State.put_mem (w : Nat) (f : Fld) (v : Nat) : (s.put w f v).mem = s.mem := rfl
@[simp] theorem State.put_ecc (w : Nat) (f : Fld) (v : Nat) : (s.put w f v).ecc = s.ecc := rfl
@[simp] theorem State.put_acc (w : Nat) (f : Fld) (v : Nat) : (s.put w f v).acc = s.acc := rfl
@[simp] theorem State.put_hif (w : Nat) (f : Fld) (v : Nat) : (s.put w f v).hif = s.hif := rfl
@[simp] theorem State.put_queues (w : Nat) (f : Fld) (v : Nat) : (s.put w f v).queues = s.queues := rfl
@[simp] theorem State.put_rings (w : Nat) (f : Fld) (v : Nat) : (s.put w f v).rings = s.rings := rfl
@[simp] theorem State.put_flt (w : Nat) (f : Fld) (v : Nat) : (s.put w f v).flt = s.flt := rfl
@[simp] theorem State.put_tb (w : Nat) (f : Fld) (v : Nat) : (s.put w f v).tb = s.tb := rfl
@[simp] theorem State.put_tev (w : Nat) (f : Fld) (v : Nat) : (s.put w f v).tev = s.tev := rfl
@[simp] theorem State.put_srcs (w : Nat) (f : Fld) (v : Nat) : (s.put w f v).srcs = s.srcs := rfl
@[simp] theorem State.put_mon (w : Nat) (f : Fld) (v : Nat) : (s.put w f v).mon = s.mon := rfl
@[simp] theorem State.put_sels (w : Nat) (f : Fld) (v : Nat) : (s.put w f v).sels = s.sels := rfl
@[simp] theorem State.put_dplls (w : Nat) (f : Fld) (v : Nat) : (s.put w f v).dplls = s.dplls := rfl
@[simp] theorem State.put_osc (w : Nat) (f : Fld) (v : Nat) : (s.put w f v).osc = s.osc := rfl
@[simp] theorem State.put_brg (w : Nat) (f : Fld) (v : Nat) : (s.put w f v).brg = s.brg := rfl
@[simp] theorem State.put_aplls (w : Nat) (f : Fld) (v : Nat) : (s.put w f v).aplls = s.aplls := rfl
@[simp] theorem State.put_outs (w : Nat) (f : Fld) (v : Nat) : (s.put w f v).outs = s.outs := rfl
@[simp] theorem State.put_sync (w : Nat) (f : Fld) (v : Nat) : (s.put w f v).sync = s.sync := rfl
@[simp] theorem State.put_gl (w : Nat) (f : Fld) (v : Nat) : (s.put w f v).gl = s.gl := rfl
@[simp] theorem State.put_ptps (w : Nat) (f : Fld) (v : Nat) : (s.put w f v).ptps = s.ptps := rfl
@[simp] theorem State.put_tod (w : Nat) (f : Fld) (v : Nat) : (s.put w f v).tod = s.tod := rfl
@[simp] theorem State.put_engs (w : Nat) (f : Fld) (v : Nat) : (s.put w f v).engs = s.engs := rfl
@[simp] theorem State.put_ldr (w : Nat) (f : Fld) (v : Nat) : (s.put w f v).ldr = s.ldr := rfl
@[simp] theorem State.put_cal (w : Nat) (f : Fld) (v : Nat) : (s.put w f v).cal = s.cal := rfl
@[simp] theorem State.put_hlth (w : Nat) (f : Fld) (v : Nat) : (s.put w f v).hlth = s.hlth := rfl
@[simp] theorem State.put_nv (w : Nat) (f : Fld) (v : Nat) : (s.put w f v).nv = s.nv := rfl
@[simp] theorem State.put_sys (w : Nat) (f : Fld) (v : Nat) : (s.put w f v).sys = s.sys := rfl
@[simp] theorem State.put_lps (w : Nat) (f : Fld) (v : Nat) : (s.put w f v).lps = s.lps := rfl
@[simp] theorem State.put_blks (w : Nat) (f : Fld) (v : Nat) : (s.put w f v).blks = s.blks := rfl
@[simp] theorem State.put_sup (w : Nat) (f : Fld) (v : Nat) : (s.put w f v).sup = s.sup := rfl
@[simp] theorem State.put_out (w : Nat) (f : Fld) (v : Nat) : (s.put w f v).out = s.out := rfl
@[simp] theorem State.put_freeCtr (w : Nat) (f : Fld) (v : Nat) : (s.put w f v).freeCtr = s.freeCtr := rfl
@[simp] theorem State.sts_pending (w off m : Nat) : (s.sts w off m).pending = s.pending := rfl
@[simp] theorem State.sts_mem (w off m : Nat) : (s.sts w off m).mem = s.mem := rfl
@[simp] theorem State.sts_ecc (w off m : Nat) : (s.sts w off m).ecc = s.ecc := rfl
@[simp] theorem State.sts_acc (w off m : Nat) : (s.sts w off m).acc = s.acc := rfl
@[simp] theorem State.sts_hif (w off m : Nat) : (s.sts w off m).hif = s.hif := rfl
@[simp] theorem State.sts_queues (w off m : Nat) : (s.sts w off m).queues = s.queues := rfl
@[simp] theorem State.sts_rings (w off m : Nat) : (s.sts w off m).rings = s.rings := rfl
@[simp] theorem State.sts_flt (w off m : Nat) : (s.sts w off m).flt = s.flt := rfl
@[simp] theorem State.sts_tb (w off m : Nat) : (s.sts w off m).tb = s.tb := rfl
@[simp] theorem State.sts_tev (w off m : Nat) : (s.sts w off m).tev = s.tev := rfl
@[simp] theorem State.sts_srcs (w off m : Nat) : (s.sts w off m).srcs = s.srcs := rfl
@[simp] theorem State.sts_mon (w off m : Nat) : (s.sts w off m).mon = s.mon := rfl
@[simp] theorem State.sts_sels (w off m : Nat) : (s.sts w off m).sels = s.sels := rfl
@[simp] theorem State.sts_dplls (w off m : Nat) : (s.sts w off m).dplls = s.dplls := rfl
@[simp] theorem State.sts_osc (w off m : Nat) : (s.sts w off m).osc = s.osc := rfl
@[simp] theorem State.sts_brg (w off m : Nat) : (s.sts w off m).brg = s.brg := rfl
@[simp] theorem State.sts_aplls (w off m : Nat) : (s.sts w off m).aplls = s.aplls := rfl
@[simp] theorem State.sts_outs (w off m : Nat) : (s.sts w off m).outs = s.outs := rfl
@[simp] theorem State.sts_sync (w off m : Nat) : (s.sts w off m).sync = s.sync := rfl
@[simp] theorem State.sts_gl (w off m : Nat) : (s.sts w off m).gl = s.gl := rfl
@[simp] theorem State.sts_ptps (w off m : Nat) : (s.sts w off m).ptps = s.ptps := rfl
@[simp] theorem State.sts_tod (w off m : Nat) : (s.sts w off m).tod = s.tod := rfl
@[simp] theorem State.sts_engs (w off m : Nat) : (s.sts w off m).engs = s.engs := rfl
@[simp] theorem State.sts_ldr (w off m : Nat) : (s.sts w off m).ldr = s.ldr := rfl
@[simp] theorem State.sts_cal (w off m : Nat) : (s.sts w off m).cal = s.cal := rfl
@[simp] theorem State.sts_hlth (w off m : Nat) : (s.sts w off m).hlth = s.hlth := rfl
@[simp] theorem State.sts_nv (w off m : Nat) : (s.sts w off m).nv = s.nv := rfl
@[simp] theorem State.sts_sys (w off m : Nat) : (s.sts w off m).sys = s.sys := rfl
@[simp] theorem State.sts_lps (w off m : Nat) : (s.sts w off m).lps = s.lps := rfl
@[simp] theorem State.sts_blks (w off m : Nat) : (s.sts w off m).blks = s.blks := rfl
@[simp] theorem State.sts_sup (w off m : Nat) : (s.sts w off m).sup = s.sup := rfl
@[simp] theorem State.sts_out (w off m : Nat) : (s.sts w off m).out = s.out := rfl
@[simp] theorem State.sts_freeCtr (w off m : Nat) : (s.sts w off m).freeCtr = s.freeCtr := rfl
@[simp] theorem State.count_pending (w off n : Nat) : (s.count w off n).pending = s.pending := rfl
@[simp] theorem State.count_mem (w off n : Nat) : (s.count w off n).mem = s.mem := rfl
@[simp] theorem State.count_ecc (w off n : Nat) : (s.count w off n).ecc = s.ecc := rfl
@[simp] theorem State.count_acc (w off n : Nat) : (s.count w off n).acc = s.acc := rfl
@[simp] theorem State.count_hif (w off n : Nat) : (s.count w off n).hif = s.hif := rfl
@[simp] theorem State.count_queues (w off n : Nat) : (s.count w off n).queues = s.queues := rfl
@[simp] theorem State.count_rings (w off n : Nat) : (s.count w off n).rings = s.rings := rfl
@[simp] theorem State.count_flt (w off n : Nat) : (s.count w off n).flt = s.flt := rfl
@[simp] theorem State.count_tb (w off n : Nat) : (s.count w off n).tb = s.tb := rfl
@[simp] theorem State.count_tev (w off n : Nat) : (s.count w off n).tev = s.tev := rfl
@[simp] theorem State.count_srcs (w off n : Nat) : (s.count w off n).srcs = s.srcs := rfl
@[simp] theorem State.count_mon (w off n : Nat) : (s.count w off n).mon = s.mon := rfl
@[simp] theorem State.count_sels (w off n : Nat) : (s.count w off n).sels = s.sels := rfl
@[simp] theorem State.count_dplls (w off n : Nat) : (s.count w off n).dplls = s.dplls := rfl
@[simp] theorem State.count_osc (w off n : Nat) : (s.count w off n).osc = s.osc := rfl
@[simp] theorem State.count_brg (w off n : Nat) : (s.count w off n).brg = s.brg := rfl
@[simp] theorem State.count_aplls (w off n : Nat) : (s.count w off n).aplls = s.aplls := rfl
@[simp] theorem State.count_outs (w off n : Nat) : (s.count w off n).outs = s.outs := rfl
@[simp] theorem State.count_sync (w off n : Nat) : (s.count w off n).sync = s.sync := rfl
@[simp] theorem State.count_gl (w off n : Nat) : (s.count w off n).gl = s.gl := rfl
@[simp] theorem State.count_ptps (w off n : Nat) : (s.count w off n).ptps = s.ptps := rfl
@[simp] theorem State.count_tod (w off n : Nat) : (s.count w off n).tod = s.tod := rfl
@[simp] theorem State.count_engs (w off n : Nat) : (s.count w off n).engs = s.engs := rfl
@[simp] theorem State.count_ldr (w off n : Nat) : (s.count w off n).ldr = s.ldr := rfl
@[simp] theorem State.count_cal (w off n : Nat) : (s.count w off n).cal = s.cal := rfl
@[simp] theorem State.count_hlth (w off n : Nat) : (s.count w off n).hlth = s.hlth := rfl
@[simp] theorem State.count_nv (w off n : Nat) : (s.count w off n).nv = s.nv := rfl
@[simp] theorem State.count_sys (w off n : Nat) : (s.count w off n).sys = s.sys := rfl
@[simp] theorem State.count_lps (w off n : Nat) : (s.count w off n).lps = s.lps := rfl
@[simp] theorem State.count_blks (w off n : Nat) : (s.count w off n).blks = s.blks := rfl
@[simp] theorem State.count_sup (w off n : Nat) : (s.count w off n).sup = s.sup := rfl
@[simp] theorem State.count_out (w off n : Nat) : (s.count w off n).out = s.out := rfl
@[simp] theorem State.count_freeCtr (w off n : Nat) : (s.count w off n).freeCtr = s.freeCtr := rfl
@[simp] theorem State.putPair_pending (w off v : Nat) : (s.putPair w off v).pending = s.pending := rfl
@[simp] theorem State.putPair_mem (w off v : Nat) : (s.putPair w off v).mem = s.mem := rfl
@[simp] theorem State.putPair_ecc (w off v : Nat) : (s.putPair w off v).ecc = s.ecc := rfl
@[simp] theorem State.putPair_acc (w off v : Nat) : (s.putPair w off v).acc = s.acc := rfl
@[simp] theorem State.putPair_hif (w off v : Nat) : (s.putPair w off v).hif = s.hif := rfl
@[simp] theorem State.putPair_queues (w off v : Nat) : (s.putPair w off v).queues = s.queues := rfl
@[simp] theorem State.putPair_rings (w off v : Nat) : (s.putPair w off v).rings = s.rings := rfl
@[simp] theorem State.putPair_flt (w off v : Nat) : (s.putPair w off v).flt = s.flt := rfl
@[simp] theorem State.putPair_tb (w off v : Nat) : (s.putPair w off v).tb = s.tb := rfl
@[simp] theorem State.putPair_tev (w off v : Nat) : (s.putPair w off v).tev = s.tev := rfl
@[simp] theorem State.putPair_srcs (w off v : Nat) : (s.putPair w off v).srcs = s.srcs := rfl
@[simp] theorem State.putPair_mon (w off v : Nat) : (s.putPair w off v).mon = s.mon := rfl
@[simp] theorem State.putPair_sels (w off v : Nat) : (s.putPair w off v).sels = s.sels := rfl
@[simp] theorem State.putPair_dplls (w off v : Nat) : (s.putPair w off v).dplls = s.dplls := rfl
@[simp] theorem State.putPair_osc (w off v : Nat) : (s.putPair w off v).osc = s.osc := rfl
@[simp] theorem State.putPair_brg (w off v : Nat) : (s.putPair w off v).brg = s.brg := rfl
@[simp] theorem State.putPair_aplls (w off v : Nat) : (s.putPair w off v).aplls = s.aplls := rfl
@[simp] theorem State.putPair_outs (w off v : Nat) : (s.putPair w off v).outs = s.outs := rfl
@[simp] theorem State.putPair_sync (w off v : Nat) : (s.putPair w off v).sync = s.sync := rfl
@[simp] theorem State.putPair_gl (w off v : Nat) : (s.putPair w off v).gl = s.gl := rfl
@[simp] theorem State.putPair_ptps (w off v : Nat) : (s.putPair w off v).ptps = s.ptps := rfl
@[simp] theorem State.putPair_tod (w off v : Nat) : (s.putPair w off v).tod = s.tod := rfl
@[simp] theorem State.putPair_engs (w off v : Nat) : (s.putPair w off v).engs = s.engs := rfl
@[simp] theorem State.putPair_ldr (w off v : Nat) : (s.putPair w off v).ldr = s.ldr := rfl
@[simp] theorem State.putPair_cal (w off v : Nat) : (s.putPair w off v).cal = s.cal := rfl
@[simp] theorem State.putPair_hlth (w off v : Nat) : (s.putPair w off v).hlth = s.hlth := rfl
@[simp] theorem State.putPair_nv (w off v : Nat) : (s.putPair w off v).nv = s.nv := rfl
@[simp] theorem State.putPair_sys (w off v : Nat) : (s.putPair w off v).sys = s.sys := rfl
@[simp] theorem State.putPair_lps (w off v : Nat) : (s.putPair w off v).lps = s.lps := rfl
@[simp] theorem State.putPair_blks (w off v : Nat) : (s.putPair w off v).blks = s.blks := rfl
@[simp] theorem State.putPair_sup (w off v : Nat) : (s.putPair w off v).sup = s.sup := rfl
@[simp] theorem State.putPair_out (w off v : Nat) : (s.putPair w off v).out = s.out := rfl
@[simp] theorem State.putPair_freeCtr (w off v : Nat) : (s.putPair w off v).freeCtr = s.freeCtr := rfl
@[simp] theorem State.putTriple_pending (w off v : Nat) : (s.putTriple w off v).pending = s.pending := rfl
@[simp] theorem State.putTriple_mem (w off v : Nat) : (s.putTriple w off v).mem = s.mem := rfl
@[simp] theorem State.putTriple_ecc (w off v : Nat) : (s.putTriple w off v).ecc = s.ecc := rfl
@[simp] theorem State.putTriple_acc (w off v : Nat) : (s.putTriple w off v).acc = s.acc := rfl
@[simp] theorem State.putTriple_hif (w off v : Nat) : (s.putTriple w off v).hif = s.hif := rfl
@[simp] theorem State.putTriple_queues (w off v : Nat) : (s.putTriple w off v).queues = s.queues := rfl
@[simp] theorem State.putTriple_rings (w off v : Nat) : (s.putTriple w off v).rings = s.rings := rfl
@[simp] theorem State.putTriple_flt (w off v : Nat) : (s.putTriple w off v).flt = s.flt := rfl
@[simp] theorem State.putTriple_tb (w off v : Nat) : (s.putTriple w off v).tb = s.tb := rfl
@[simp] theorem State.putTriple_tev (w off v : Nat) : (s.putTriple w off v).tev = s.tev := rfl
@[simp] theorem State.putTriple_srcs (w off v : Nat) : (s.putTriple w off v).srcs = s.srcs := rfl
@[simp] theorem State.putTriple_mon (w off v : Nat) : (s.putTriple w off v).mon = s.mon := rfl
@[simp] theorem State.putTriple_sels (w off v : Nat) : (s.putTriple w off v).sels = s.sels := rfl
@[simp] theorem State.putTriple_dplls (w off v : Nat) : (s.putTriple w off v).dplls = s.dplls := rfl
@[simp] theorem State.putTriple_osc (w off v : Nat) : (s.putTriple w off v).osc = s.osc := rfl
@[simp] theorem State.putTriple_brg (w off v : Nat) : (s.putTriple w off v).brg = s.brg := rfl
@[simp] theorem State.putTriple_aplls (w off v : Nat) : (s.putTriple w off v).aplls = s.aplls := rfl
@[simp] theorem State.putTriple_outs (w off v : Nat) : (s.putTriple w off v).outs = s.outs := rfl
@[simp] theorem State.putTriple_sync (w off v : Nat) : (s.putTriple w off v).sync = s.sync := rfl
@[simp] theorem State.putTriple_gl (w off v : Nat) : (s.putTriple w off v).gl = s.gl := rfl
@[simp] theorem State.putTriple_ptps (w off v : Nat) : (s.putTriple w off v).ptps = s.ptps := rfl
@[simp] theorem State.putTriple_tod (w off v : Nat) : (s.putTriple w off v).tod = s.tod := rfl
@[simp] theorem State.putTriple_engs (w off v : Nat) : (s.putTriple w off v).engs = s.engs := rfl
@[simp] theorem State.putTriple_ldr (w off v : Nat) : (s.putTriple w off v).ldr = s.ldr := rfl
@[simp] theorem State.putTriple_cal (w off v : Nat) : (s.putTriple w off v).cal = s.cal := rfl
@[simp] theorem State.putTriple_hlth (w off v : Nat) : (s.putTriple w off v).hlth = s.hlth := rfl
@[simp] theorem State.putTriple_nv (w off v : Nat) : (s.putTriple w off v).nv = s.nv := rfl
@[simp] theorem State.putTriple_sys (w off v : Nat) : (s.putTriple w off v).sys = s.sys := rfl
@[simp] theorem State.putTriple_lps (w off v : Nat) : (s.putTriple w off v).lps = s.lps := rfl
@[simp] theorem State.putTriple_blks (w off v : Nat) : (s.putTriple w off v).blks = s.blks := rfl
@[simp] theorem State.putTriple_sup (w off v : Nat) : (s.putTriple w off v).sup = s.sup := rfl
@[simp] theorem State.putTriple_out (w off v : Nat) : (s.putTriple w off v).out = s.out := rfl
@[simp] theorem State.putTriple_freeCtr (w off v : Nat) : (s.putTriple w off v).freeCtr = s.freeCtr := rfl
@[simp] theorem State.stsField_pending (w : Nat) (f : Fld) (m v : Nat) : (s.stsField w f m v).pending = s.pending := rfl
@[simp] theorem State.stsField_mem (w : Nat) (f : Fld) (m v : Nat) : (s.stsField w f m v).mem = s.mem := rfl
@[simp] theorem State.stsField_ecc (w : Nat) (f : Fld) (m v : Nat) : (s.stsField w f m v).ecc = s.ecc := rfl
@[simp] theorem State.stsField_acc (w : Nat) (f : Fld) (m v : Nat) : (s.stsField w f m v).acc = s.acc := rfl
@[simp] theorem State.stsField_hif (w : Nat) (f : Fld) (m v : Nat) : (s.stsField w f m v).hif = s.hif := rfl
@[simp] theorem State.stsField_queues (w : Nat) (f : Fld) (m v : Nat) : (s.stsField w f m v).queues = s.queues := rfl
@[simp] theorem State.stsField_rings (w : Nat) (f : Fld) (m v : Nat) : (s.stsField w f m v).rings = s.rings := rfl
@[simp] theorem State.stsField_flt (w : Nat) (f : Fld) (m v : Nat) : (s.stsField w f m v).flt = s.flt := rfl
@[simp] theorem State.stsField_tb (w : Nat) (f : Fld) (m v : Nat) : (s.stsField w f m v).tb = s.tb := rfl
@[simp] theorem State.stsField_tev (w : Nat) (f : Fld) (m v : Nat) : (s.stsField w f m v).tev = s.tev := rfl
@[simp] theorem State.stsField_srcs (w : Nat) (f : Fld) (m v : Nat) : (s.stsField w f m v).srcs = s.srcs := rfl
@[simp] theorem State.stsField_mon (w : Nat) (f : Fld) (m v : Nat) : (s.stsField w f m v).mon = s.mon := rfl
@[simp] theorem State.stsField_sels (w : Nat) (f : Fld) (m v : Nat) : (s.stsField w f m v).sels = s.sels := rfl
@[simp] theorem State.stsField_dplls (w : Nat) (f : Fld) (m v : Nat) : (s.stsField w f m v).dplls = s.dplls := rfl
@[simp] theorem State.stsField_osc (w : Nat) (f : Fld) (m v : Nat) : (s.stsField w f m v).osc = s.osc := rfl
@[simp] theorem State.stsField_brg (w : Nat) (f : Fld) (m v : Nat) : (s.stsField w f m v).brg = s.brg := rfl
@[simp] theorem State.stsField_aplls (w : Nat) (f : Fld) (m v : Nat) : (s.stsField w f m v).aplls = s.aplls := rfl
@[simp] theorem State.stsField_outs (w : Nat) (f : Fld) (m v : Nat) : (s.stsField w f m v).outs = s.outs := rfl
@[simp] theorem State.stsField_sync (w : Nat) (f : Fld) (m v : Nat) : (s.stsField w f m v).sync = s.sync := rfl
@[simp] theorem State.stsField_gl (w : Nat) (f : Fld) (m v : Nat) : (s.stsField w f m v).gl = s.gl := rfl
@[simp] theorem State.stsField_ptps (w : Nat) (f : Fld) (m v : Nat) : (s.stsField w f m v).ptps = s.ptps := rfl
@[simp] theorem State.stsField_tod (w : Nat) (f : Fld) (m v : Nat) : (s.stsField w f m v).tod = s.tod := rfl
@[simp] theorem State.stsField_engs (w : Nat) (f : Fld) (m v : Nat) : (s.stsField w f m v).engs = s.engs := rfl
@[simp] theorem State.stsField_ldr (w : Nat) (f : Fld) (m v : Nat) : (s.stsField w f m v).ldr = s.ldr := rfl
@[simp] theorem State.stsField_cal (w : Nat) (f : Fld) (m v : Nat) : (s.stsField w f m v).cal = s.cal := rfl
@[simp] theorem State.stsField_hlth (w : Nat) (f : Fld) (m v : Nat) : (s.stsField w f m v).hlth = s.hlth := rfl
@[simp] theorem State.stsField_nv (w : Nat) (f : Fld) (m v : Nat) : (s.stsField w f m v).nv = s.nv := rfl
@[simp] theorem State.stsField_sys (w : Nat) (f : Fld) (m v : Nat) : (s.stsField w f m v).sys = s.sys := rfl
@[simp] theorem State.stsField_lps (w : Nat) (f : Fld) (m v : Nat) : (s.stsField w f m v).lps = s.lps := rfl
@[simp] theorem State.stsField_blks (w : Nat) (f : Fld) (m v : Nat) : (s.stsField w f m v).blks = s.blks := rfl
@[simp] theorem State.stsField_sup (w : Nat) (f : Fld) (m v : Nat) : (s.stsField w f m v).sup = s.sup := rfl
@[simp] theorem State.stsField_out (w : Nat) (f : Fld) (m v : Nat) : (s.stsField w f m v).out = s.out := rfl
@[simp] theorem State.stsField_freeCtr (w : Nat) (f : Fld) (m v : Nat) : (s.stsField w f m v).freeCtr = s.freeCtr := rfl

/-! ### What a fault message leaves -/

@[simp] theorem State.fault_pending (src kind addr : Nat) : (s.fault src kind addr).pending = s.pending := rfl
@[simp] theorem State.fault_regs (src kind addr : Nat) : (s.fault src kind addr).regs = s.regs := rfl
@[simp] theorem State.fault_mem (src kind addr : Nat) : (s.fault src kind addr).mem = s.mem := rfl
@[simp] theorem State.fault_ecc (src kind addr : Nat) : (s.fault src kind addr).ecc = s.ecc := rfl
@[simp] theorem State.fault_par (src kind addr : Nat) : (s.fault src kind addr).par = s.par := rfl
@[simp] theorem State.fault_acc (src kind addr : Nat) : (s.fault src kind addr).acc = s.acc := rfl
@[simp] theorem State.fault_hif (src kind addr : Nat) : (s.fault src kind addr).hif = s.hif := rfl
@[simp] theorem State.fault_queues (src kind addr : Nat) : (s.fault src kind addr).queues = s.queues := rfl
@[simp] theorem State.fault_rings (src kind addr : Nat) : (s.fault src kind addr).rings = s.rings := rfl
@[simp] theorem State.fault_flt (src kind addr : Nat) : (s.fault src kind addr).flt = { s.flt with msgs := s.flt.msgs ++ [⟨src, kind, addr, false⟩] } := rfl
@[simp] theorem State.fault_tb (src kind addr : Nat) : (s.fault src kind addr).tb = s.tb := rfl
@[simp] theorem State.fault_tev (src kind addr : Nat) : (s.fault src kind addr).tev = s.tev := rfl
@[simp] theorem State.fault_srcs (src kind addr : Nat) : (s.fault src kind addr).srcs = s.srcs := rfl
@[simp] theorem State.fault_mon (src kind addr : Nat) : (s.fault src kind addr).mon = s.mon := rfl
@[simp] theorem State.fault_sels (src kind addr : Nat) : (s.fault src kind addr).sels = s.sels := rfl
@[simp] theorem State.fault_dplls (src kind addr : Nat) : (s.fault src kind addr).dplls = s.dplls := rfl
@[simp] theorem State.fault_osc (src kind addr : Nat) : (s.fault src kind addr).osc = s.osc := rfl
@[simp] theorem State.fault_brg (src kind addr : Nat) : (s.fault src kind addr).brg = s.brg := rfl
@[simp] theorem State.fault_aplls (src kind addr : Nat) : (s.fault src kind addr).aplls = s.aplls := rfl
@[simp] theorem State.fault_outs (src kind addr : Nat) : (s.fault src kind addr).outs = s.outs := rfl
@[simp] theorem State.fault_sync (src kind addr : Nat) : (s.fault src kind addr).sync = s.sync := rfl
@[simp] theorem State.fault_gl (src kind addr : Nat) : (s.fault src kind addr).gl = s.gl := rfl
@[simp] theorem State.fault_ptps (src kind addr : Nat) : (s.fault src kind addr).ptps = s.ptps := rfl
@[simp] theorem State.fault_tod (src kind addr : Nat) : (s.fault src kind addr).tod = s.tod := rfl
@[simp] theorem State.fault_engs (src kind addr : Nat) : (s.fault src kind addr).engs = s.engs := rfl
@[simp] theorem State.fault_ldr (src kind addr : Nat) : (s.fault src kind addr).ldr = s.ldr := rfl
@[simp] theorem State.fault_cal (src kind addr : Nat) : (s.fault src kind addr).cal = s.cal := rfl
@[simp] theorem State.fault_hlth (src kind addr : Nat) : (s.fault src kind addr).hlth = s.hlth := rfl
@[simp] theorem State.fault_nv (src kind addr : Nat) : (s.fault src kind addr).nv = s.nv := rfl
@[simp] theorem State.fault_sys (src kind addr : Nat) : (s.fault src kind addr).sys = s.sys := rfl
@[simp] theorem State.fault_lps (src kind addr : Nat) : (s.fault src kind addr).lps = s.lps := rfl
@[simp] theorem State.fault_blks (src kind addr : Nat) : (s.fault src kind addr).blks = s.blks := rfl
@[simp] theorem State.fault_sup (src kind addr : Nat) : (s.fault src kind addr).sup = s.sup := rfl
@[simp] theorem State.fault_out (src kind addr : Nat) : (s.fault src kind addr).out = s.out := rfl
@[simp] theorem State.fault_freeCtr (src kind addr : Nat) : (s.fault src kind addr).freeCtr = s.freeCtr := rfl
@[simp] theorem State.fault_rn (src kind addr a b : Nat) : (s.fault src kind addr).rn a b = s.rn a b := rfl
@[simp] theorem State.fault_get (src kind addr a : Nat) (g : Fld) : (s.fault src kind addr).get a g = s.get a g := rfl
@[simp] theorem State.fault_flag (src kind addr a : Nat) (g : Fld) : (s.fault src kind addr).flag a g = s.flag a g := rfl

/-! ### What an event leaves (R346 to R348) -/

/-- Whatever does not read the registers, the parities, the MSI-X state, the engines or the output is left as it was. -/
theorem State.raise_proj {α : Type} (p : State → α) (hw : ∀ (t : State) w off v, p (t.wr w off v) = p t)
    (hh : ∀ (t : State) x, p (t.setHif x) = p t) (ho : ∀ (t : State) x, p (t.emit x) = p t)
    (he : ∀ (t : State) k f, p (t.modEng k f) = p t) (g b : Nat) : p (s.raise g b) = p s := by
  have hsend (t : State) (v : Nat) : p (t.msixSend v) = p t := by
    unfold State.msixSend
    split
    · exact hh _ _
    · split
      · exact ho _ _
      · rfl
  have hpend (t : State) (k e : Nat) (arg : Word64) : p (t.engPend k e arg) = p t := by
    unfold State.engPend
    split
    · exact hw _ _ _ _
    · exact he _ _ _
  have hfold (l : List (Nat × Nat)) (t : State) (n : Nat) :
      p (l.foldl (fun t ki => t.engPend ki.1 (16 + ki.2) (BitVec.ofNat 64 n)) t) = p t := by
    induction l generalizing t with
    | nil => rfl
    | cons x l ih =>
      rw [List.foldl_cons, ih]
      exact hpend _ _ _ _
  unfold State.raise State.raiseNo
  dsimp only
  rw [hfold]
  split
  · rw [hsend, hh]
    exact hw _ _ _ _
  · exact hw _ _ _ _

@[simp] theorem State.raise_pending (g b : Nat) : (s.raise g b).pending = s.pending :=
  s.raise_proj (·.pending) (fun _ _ _ _ => rfl) (fun _ _ => rfl) (fun _ _ => rfl) (fun _ _ _ => rfl) g b
@[simp] theorem State.raise_mem (g b : Nat) : (s.raise g b).mem = s.mem :=
  s.raise_proj (·.mem) (fun _ _ _ _ => rfl) (fun _ _ => rfl) (fun _ _ => rfl) (fun _ _ _ => rfl) g b
@[simp] theorem State.raise_ecc (g b : Nat) : (s.raise g b).ecc = s.ecc :=
  s.raise_proj (·.ecc) (fun _ _ _ _ => rfl) (fun _ _ => rfl) (fun _ _ => rfl) (fun _ _ _ => rfl) g b
@[simp] theorem State.raise_acc (g b : Nat) : (s.raise g b).acc = s.acc :=
  s.raise_proj (·.acc) (fun _ _ _ _ => rfl) (fun _ _ => rfl) (fun _ _ => rfl) (fun _ _ _ => rfl) g b
@[simp] theorem State.raise_queues (g b : Nat) : (s.raise g b).queues = s.queues :=
  s.raise_proj (·.queues) (fun _ _ _ _ => rfl) (fun _ _ => rfl) (fun _ _ => rfl) (fun _ _ _ => rfl) g b
@[simp] theorem State.raise_rings (g b : Nat) : (s.raise g b).rings = s.rings :=
  s.raise_proj (·.rings) (fun _ _ _ _ => rfl) (fun _ _ => rfl) (fun _ _ => rfl) (fun _ _ _ => rfl) g b
@[simp] theorem State.raise_flt (g b : Nat) : (s.raise g b).flt = s.flt :=
  s.raise_proj (·.flt) (fun _ _ _ _ => rfl) (fun _ _ => rfl) (fun _ _ => rfl) (fun _ _ _ => rfl) g b
@[simp] theorem State.raise_tb (g b : Nat) : (s.raise g b).tb = s.tb :=
  s.raise_proj (·.tb) (fun _ _ _ _ => rfl) (fun _ _ => rfl) (fun _ _ => rfl) (fun _ _ _ => rfl) g b
@[simp] theorem State.raise_tev (g b : Nat) : (s.raise g b).tev = s.tev :=
  s.raise_proj (·.tev) (fun _ _ _ _ => rfl) (fun _ _ => rfl) (fun _ _ => rfl) (fun _ _ _ => rfl) g b
@[simp] theorem State.raise_srcs (g b : Nat) : (s.raise g b).srcs = s.srcs :=
  s.raise_proj (·.srcs) (fun _ _ _ _ => rfl) (fun _ _ => rfl) (fun _ _ => rfl) (fun _ _ _ => rfl) g b
@[simp] theorem State.raise_mon (g b : Nat) : (s.raise g b).mon = s.mon :=
  s.raise_proj (·.mon) (fun _ _ _ _ => rfl) (fun _ _ => rfl) (fun _ _ => rfl) (fun _ _ _ => rfl) g b
@[simp] theorem State.raise_sels (g b : Nat) : (s.raise g b).sels = s.sels :=
  s.raise_proj (·.sels) (fun _ _ _ _ => rfl) (fun _ _ => rfl) (fun _ _ => rfl) (fun _ _ _ => rfl) g b
@[simp] theorem State.raise_dplls (g b : Nat) : (s.raise g b).dplls = s.dplls :=
  s.raise_proj (·.dplls) (fun _ _ _ _ => rfl) (fun _ _ => rfl) (fun _ _ => rfl) (fun _ _ _ => rfl) g b
@[simp] theorem State.raise_osc (g b : Nat) : (s.raise g b).osc = s.osc :=
  s.raise_proj (·.osc) (fun _ _ _ _ => rfl) (fun _ _ => rfl) (fun _ _ => rfl) (fun _ _ _ => rfl) g b
@[simp] theorem State.raise_brg (g b : Nat) : (s.raise g b).brg = s.brg :=
  s.raise_proj (·.brg) (fun _ _ _ _ => rfl) (fun _ _ => rfl) (fun _ _ => rfl) (fun _ _ _ => rfl) g b
@[simp] theorem State.raise_aplls (g b : Nat) : (s.raise g b).aplls = s.aplls :=
  s.raise_proj (·.aplls) (fun _ _ _ _ => rfl) (fun _ _ => rfl) (fun _ _ => rfl) (fun _ _ _ => rfl) g b
@[simp] theorem State.raise_outs (g b : Nat) : (s.raise g b).outs = s.outs :=
  s.raise_proj (·.outs) (fun _ _ _ _ => rfl) (fun _ _ => rfl) (fun _ _ => rfl) (fun _ _ _ => rfl) g b
@[simp] theorem State.raise_sync (g b : Nat) : (s.raise g b).sync = s.sync :=
  s.raise_proj (·.sync) (fun _ _ _ _ => rfl) (fun _ _ => rfl) (fun _ _ => rfl) (fun _ _ _ => rfl) g b
@[simp] theorem State.raise_gl (g b : Nat) : (s.raise g b).gl = s.gl :=
  s.raise_proj (·.gl) (fun _ _ _ _ => rfl) (fun _ _ => rfl) (fun _ _ => rfl) (fun _ _ _ => rfl) g b
@[simp] theorem State.raise_ptps (g b : Nat) : (s.raise g b).ptps = s.ptps :=
  s.raise_proj (·.ptps) (fun _ _ _ _ => rfl) (fun _ _ => rfl) (fun _ _ => rfl) (fun _ _ _ => rfl) g b
@[simp] theorem State.raise_tod (g b : Nat) : (s.raise g b).tod = s.tod :=
  s.raise_proj (·.tod) (fun _ _ _ _ => rfl) (fun _ _ => rfl) (fun _ _ => rfl) (fun _ _ _ => rfl) g b
@[simp] theorem State.raise_ldr (g b : Nat) : (s.raise g b).ldr = s.ldr :=
  s.raise_proj (·.ldr) (fun _ _ _ _ => rfl) (fun _ _ => rfl) (fun _ _ => rfl) (fun _ _ _ => rfl) g b
@[simp] theorem State.raise_cal (g b : Nat) : (s.raise g b).cal = s.cal :=
  s.raise_proj (·.cal) (fun _ _ _ _ => rfl) (fun _ _ => rfl) (fun _ _ => rfl) (fun _ _ _ => rfl) g b
@[simp] theorem State.raise_hlth (g b : Nat) : (s.raise g b).hlth = s.hlth :=
  s.raise_proj (·.hlth) (fun _ _ _ _ => rfl) (fun _ _ => rfl) (fun _ _ => rfl) (fun _ _ _ => rfl) g b
@[simp] theorem State.raise_nv (g b : Nat) : (s.raise g b).nv = s.nv :=
  s.raise_proj (·.nv) (fun _ _ _ _ => rfl) (fun _ _ => rfl) (fun _ _ => rfl) (fun _ _ _ => rfl) g b
@[simp] theorem State.raise_sys (g b : Nat) : (s.raise g b).sys = s.sys :=
  s.raise_proj (·.sys) (fun _ _ _ _ => rfl) (fun _ _ => rfl) (fun _ _ => rfl) (fun _ _ _ => rfl) g b
@[simp] theorem State.raise_lps (g b : Nat) : (s.raise g b).lps = s.lps :=
  s.raise_proj (·.lps) (fun _ _ _ _ => rfl) (fun _ _ => rfl) (fun _ _ => rfl) (fun _ _ _ => rfl) g b
@[simp] theorem State.raise_blks (g b : Nat) : (s.raise g b).blks = s.blks :=
  s.raise_proj (·.blks) (fun _ _ _ _ => rfl) (fun _ _ => rfl) (fun _ _ => rfl) (fun _ _ _ => rfl) g b
@[simp] theorem State.raise_sup (g b : Nat) : (s.raise g b).sup = s.sup :=
  s.raise_proj (·.sup) (fun _ _ _ _ => rfl) (fun _ _ => rfl) (fun _ _ => rfl) (fun _ _ _ => rfl) g b
@[simp] theorem State.raise_freeCtr (g b : Nat) : (s.raise g b).freeCtr = s.freeCtr :=
  s.raise_proj (·.freeCtr) (fun _ _ _ _ => rfl) (fun _ _ => rfl) (fun _ _ => rfl) (fun _ _ _ => rfl) g b

/-- The MSI-X masks stay. -/
theorem State.raise_masks (g b : Nat) : (s.raise g b).hif.vecMask = s.hif.vecMask ∧ (s.raise g b).hif.perst = s.hif.perst ∧
    (s.raise g b).hif.spi = s.hif.spi ∧ (s.raise g b).hif.spiBuf = s.hif.spiBuf ∧ (s.raise g b).hif.aer = s.hif.aer := by
  have hsend (t : State) (v : Nat) : (t.msixSend v).hif.vecMask = t.hif.vecMask ∧ (t.msixSend v).hif.perst = t.hif.perst ∧
      (t.msixSend v).hif.spi = t.hif.spi ∧ (t.msixSend v).hif.spiBuf = t.hif.spiBuf ∧ (t.msixSend v).hif.aer = t.hif.aer := by
    unfold State.msixSend
    split
    · exact ⟨rfl, rfl, rfl, rfl, rfl⟩
    · split <;> exact ⟨rfl, rfl, rfl, rfl, rfl⟩
  have hfold (l : List (Nat × Nat)) (t : State) (n : Nat) :
      (l.foldl (fun (t : State) ki => t.engPend ki.1 (16 + ki.2) (BitVec.ofNat 64 n)) t).hif = t.hif := by
    induction l generalizing t with
    | nil => rfl
    | cons x l ih =>
      rw [List.foldl_cons, ih]
      unfold State.engPend
      split <;> rfl
  unfold State.raise State.raiseNo
  dsimp only
  rw [hfold]
  split
  · exact hsend _ _
  · exact ⟨rfl, rfl, rfl, rfl, rfl⟩

/-- The registers outside EVT and the engines read as before. -/
theorem State.raise_rn (g b w off : Nat) (hg : evNo g b < 512) (hw : w < W_ENG) (he : w ≠ W_EVT)
    (hoff : off < 0x4000) :
    (s.raise g b).rn w off = s.rn w off := by
  have hw' : w < 0x5c := hw
  have he' : w ≠ 4 := he
  have hsend (t : State) (v : Nat) : (t.msixSend v).rn w off = t.rn w off := by
    unfold State.msixSend
    split
    · rfl
    · split <;> rfl
  have hpend (t : State) (k e : Nat) (arg : Word64) : (t.engPend k e arg).rn w off = t.rn w off := by
    unfold State.engPend
    split
    · refine State.rn_wr_other _ _ _ _ _ _ ?_
      unfold regAddr W_ENG ENG_MERGECNT
      omega
    · rfl
  have hfold (l : List (Nat × Nat)) (t : State) (n : Nat) :
      (l.foldl (fun (t : State) ki => t.engPend ki.1 (16 + ki.2) (BitVec.ofNat 64 n)) t).rn w off = t.rn w off := by
    induction l generalizing t with
    | nil => rfl
    | cons x l ih =>
      rw [List.foldl_cons, ih]
      exact hpend _ _ _ _
  have h1 (v : Nat) : (s.wr W_EVT (EVT_PEND + 4 * (evNo g b / 32)) v).rn w off = s.rn w off := by
    refine State.rn_wr_other _ _ _ _ _ _ (regAddr_ne ?_ hoff (.inl (Ne.symm he)))
    unfold EVT_PEND
    omega
  unfold State.raise State.raiseNo
  dsimp only
  rw [hfold]
  split
  · rw [hsend, State.setHif_rn, h1]
  · exact h1 _

theorem State.raise_get (g b w : Nat) (f : Fld) (hg : evNo g b < 512) (hw : w < W_ENG) (he : w ≠ W_EVT)
    (hoff : f.off < 0x4000) : (s.raise g b).get w f = s.get w f := by
  unfold State.get
  rw [State.raise_rn s g b w f.off hg hw he hoff]

theorem State.raise_canon {s : State} (h : s.Canon) (g b : Nat) : (s.raise g b).Canon := by
  have hsend (t : State) (v : Nat) (ht : t.Canon) : (t.msixSend v).Canon := by
    unfold State.msixSend
    split
    · exact ht
    · split <;> exact ht
  have hpend (t : State) (k e : Nat) (arg : Word64) (ht : t.Canon) : (t.engPend k e arg).Canon := by
    unfold State.engPend
    split
    · exact State.count_canon ht _ _ _
    · exact ht
  have hfold (l : List (Nat × Nat)) (t : State) (n : Nat) (ht : t.Canon) :
      (l.foldl (fun (t : State) ki => t.engPend ki.1 (16 + ki.2) (BitVec.ofNat 64 n)) t).Canon := by
    induction l generalizing t with
    | nil => exact ht
    | cons x l ih => exact ih _ (hpend _ _ _ _ ht)
  unfold State.raise State.raiseNo
  dsimp only
  apply hfold
  split
  · exact hsend _ _ (State.wr_canon h _ _ _)
  · exact State.wr_canon h _ _ _

end Sys2Proof.Machine
end

