-- ==== Sys2Proof/Tests/Slice0.lean ====
section
/-!
SUPPORT. Tests of single commands on small states, expected from the spec's words, and for the obligations named O1 to O60
states and operands that meet their premises (the witness theorems, each named after its obligation).
-/

namespace Sys2Proof.Tests

open Sys2Proof Sys2Proof.Machine

/-! One theorem at a time: elaborated side by side, the kernel evaluations below hold too many threads at once. -/
set_option Elab.async false

/-! ## Small states -/

/-- A device whose clocks run and whose start-up is done; C is 5 s. -/
def live : State :=
  (State.reset.setTb { State.reset.tb with running := true, c := 65536 * 5000000000, t := 5 * 10 ^ 9 * 2 ^ 48 }).setSys
    { State.reset.sys with phase := .done, vinOn := true }

/-- `live` with start-up reported as done. -/
def booted : State := live.put W_SYS SYS_STATE_BOOTST 1

/-- `live` with a handler at index `pc` of engine `k`, changed by `f`. -/
def busy (k pc : Nat) (f : Eng → Eng) : State := live.modEng k (fun x => f { x with st := .busy, pc := pc })

/-- Registers of the numbers 1 to 4 of an engine. -/
def withW (a b c d : Word64) (x : Eng) : Eng := { x with w := [0, a, b, c, d] ++ List.replicate 27 0 }

/-- Queue `q` enabled with 2^depth entries in the given mode. -/
def queued (s : State) (q depth mode : Nat) : State :=
  ((s.put W_DMA (DMA_QCFG_DEPTH.up (qOff q)) depth).put W_DMA (DMA_QCTL_MODE.up (qOff q)) mode).put W_DMA
    (DMA_QCTL_ENABLE.up (qOff q)) 1

/-- The invariant, the premise `Ready`, and that an engine executes, as the kernel evaluates them; the three lemmas say that
they are the premises of the statements. -/
def ok (s : State) : Bool :=
  sparseWf regReset s.regs && Memory.wf s.mem && s.queues.length == 64 && s.rings.length == 64 && s.srcs.length == 21 &&
    s.sels.length == 4 && s.dplls.length == 4 && s.aplls.length == 2 && s.outs.length == 40 && s.ptps.length == 2 &&
    s.engs.length == 11 && s.lps.length == 4 && s.blks.length == 11 && s.tb.c % tickU == 0 && decide (s.tb.c < 2 ^ 96) && decide (s.tb.t < stdWrap) &&
    s.engs.all (fun x => x.w.length == 32 && decide (x.loops.length ≤ 4) && decide (x.calls.length ≤ 8) && decide (x.ats.length ≤ 8))
def ready (s : State) : Bool := ok s && !s.sys.soft && s.tbClocked
def runs (s : State) (k : Nat) : Bool := (s.eng k).st == .busy && decide ((s.eng k).pc < imemWords k) && (s.eng k).atPrefix.isNone

theorem ok_iff (s : State) : ok s = true ↔ s.Inv := by
  unfold ok State.Inv State.Sized TbSt.Ok Eng.Ok
  simp only [Bool.and_eq_true, beq_iff_eq, decide_eq_true_eq, List.all_eq_true, and_assoc]

theorem ready_iff (s : State) : ready s = true ↔ s.Ready := by
  unfold ready State.Ready
  simp only [Bool.and_eq_true, ok_iff, Bool.not_eq_true', and_assoc]

theorem runs_iff (s : State) (k : Nat) : runs s k = true ↔ s.Executing k := by
  unfold runs State.Executing
  simp only [Bool.and_eq_true, beq_iff_eq, decide_eq_true_eq, Option.isNone_iff_eq_none, and_assoc]

theorem live_ready : ready live = true := by decide

/-! ## Well-formed and ill-formed commands (WellFormed.lean): one that each check refuses -/

theorem test_wf_accepts : (Instr.registerWrite .pcie 0x12345 6 0).wf = true ∧ (Instr.fwd 3 12 1).wf = true ∧
    (Instr.loop 0 4096 1).wf = true ∧ (Instr.dieTempReading (List.replicate 8 0)).wf = true := by decide
theorem test_wf_sender : (Instr.registerWrite .script 0 15 0).wf = false ∧ (Instr.faultClear (.tunnel 8) 0).wf = false ∧
    (Instr.latchingRead (.eng 11) 0 15).wf = false := by decide
theorem test_wf_addresses : (Instr.registerWrite .pcie (2 ^ 32) 15 0).wf = false ∧ (Instr.latchingRead .spi (2 ^ 32) 15).wf = false ∧
    (Instr.stagedWrite .pcie (2 ^ 32) 0).wf = false ∧ (Instr.setAliasWrite .pcie (2 ^ 32) 0).wf = false ∧
    (Instr.clrAliasWrite .pcie (2 ^ 32) 0).wf = false ∧ (Instr.tglAliasWrite .pcie (2 ^ 32) 0).wf = false ∧
    (Instr.stsSeqClear .pcie (2 ^ 32) 0).wf = false ∧ (Instr.blockTimeout .pcie (2 ^ 32) none 0).wf = false ∧
    (Instr.parityScrub 2 0).wf = false ∧ (Instr.sramScrub 4 1).wf = false ∧ (Instr.tunnelledAccess .pcie (2 ^ 25) none).wf = false := by
  decide
theorem test_wf_engine : (Instr.fwd 0 13 1).wf = false ∧ (Instr.fwd 0 0 0).wf = false ∧ (Instr.loop 0 0 1).wf = false ∧
    (Instr.loop 0 4097 1).wf = false ∧ (Instr.loop 0 1 0).wf = false ∧ (Instr.qput 0 2 0 false).wf = false ∧
    (Instr.qget 0 1 0 false).wf = false ∧ (Instr.qget 0 4 0 true).wf = false ∧ (Instr.send 0 5 0 0 false).wf = false ∧
    (Instr.raise 0 11 0).wf = false := by decide
theorem test_wf_doors : (Instr.pcieBar0Request true 2 [(15, 0)]).wf = false ∧ (Instr.pcieBar0Request true 0 []).wf = false ∧
    (Instr.pcieBar2Access true (2 ^ 23) [(15, 0)]).wf = false ∧ (Instr.pcieBar2Access true 0 []).wf = false := by decide
theorem test_wf_stamps : (Instr.ptpFrameTx 0 (2 ^ 96)).wf = false ∧
    (Instr.uartMessage [] false 0).wf = false ∧ (Instr.ethFrameRx 0 [] true 0 0 0).wf = false ∧
    (Instr.glCellRx 0 0 [] 0).wf = false ∧ (Instr.i2cRead 0 0).wf = false := by decide
theorem test_wf_readings : (Instr.tdcLinearisation 0 [1]).wf = false ∧ (Instr.ageReading []).wf = false ∧
    (Instr.dieTempReading [0]).wf = false := by decide

/-! ## Witnesses: the machine and its engines (O1 to O19) -/

theorem witness_StepKeepsInv : ok live = true ∧ ∃ t, step live = .next t := ⟨by decide, _, rfl⟩

theorem witness_IdleTick : (State.reset.pending = [] ∧ State.reset.tb.running = false) ∧
    (live.pending = [] ∧ live.tb.running = true ∧ live.tb.ring = false) := by decide

/-- Both kinds of engine at the last index of their instruction memory. -/
theorem witness_EngLogicResults : (ok (busy 0 65535 id) = true ∧ runs (busy 0 65535 id) 0 = true) ∧
    (ok (busy 10 8191 id) = true ∧ runs (busy 10 8191 id) 10 = true) := by
  decide

theorem witness_EngSumResults : ok (busy 10 8191 id) = true ∧ runs (busy 10 8191 id) 10 = true := witness_EngLogicResults.2

theorem witness_EngSaturatedResults :
    let s := busy 3 0 (withW (2 ^ 63) 0 5 0)
    ok s = true ∧ runs s 3 = true ∧ ((s.eng 3).rw 2).toInt = 0 ∧ ((s.eng 3).rw 3).toInt ≠ 0 := by
  decide

theorem witness_EngMoveResults : ok (busy 0 65535 id) = true ∧ runs (busy 0 65535 id) 0 = true ∧ 7 ≤ (7 : BitVec 5).toNat ∧
    (31 : BitVec 5) ≠ 0 := ⟨witness_EngLogicResults.1.1, witness_EngLogicResults.1.2, by decide, by decide⟩

/-- The first byte of data memory, the last eight of SRAM, and a word with a double-bit error. -/
theorem witness_EngLoads :
    let s := busy 0 7 (withW 0x107f_fff8 0 0 0)
    let t := { s with ecc := [(engDmem 0, true)] }
    (ok s = true ∧ runs s 0 = true ∧ ok t = true ∧ runs t 0 = true) ∧
    (dataKey 0 (s.eng 0).profile (dataAddr (s.eng 0) 0 0) = some (engDmem 0) ∧
      dataKey 0 (s.eng 0).profile (dataAddr (s.eng 0) 1 0) = some (SRAM + sramSize - 8) ∧ (∀ e ∈ s.ecc, e.1 ≠ engDmem 0 / 8 * 8)) ∧
    (dataAddr (s.eng 0) 0 0 % 8 = 0 ∧ dataAddr (s.eng 0) 0 4 % 4 = 0 ∧ dataAddr (s.eng 0) 0 2 % 2 = 0) ∧
    (t.ecc.find? (fun e => e.1 == engDmem 0 / 8 * 8) = some (engDmem 0, true) ∧ (1 : Reg).val ≠ 0) := by
  decide

theorem witness_EngStores :
    let s := busy 10 0 (withW 0x7ffc 0 0 0)
    ok s = true ∧ runs s 10 = true ∧ dataKey 10 (s.eng 10).profile (dataAddr (s.eng 10) 1 0) = some (engDmem 10 + 0x7ffc) ∧
    (∀ e ∈ s.ecc, e.1 ≠ (engDmem 10 + 0x7ffc) / 8 * 8) ∧ dataAddr (s.eng 10) 1 0 % 4 = 0 := by
  decide

/-- One state and instruction for each exception. -/
theorem witness_EngExceptions :
    let s := busy 1 8192 id
    let t := busy 1 8191 (fun x => { x with atPrefix := some (true, 0) })
    let u := busy 1 5 (fun x => { withW 0x8000 1 0 0 x with loops := List.replicate 4 ⟨5, 9, 0, 0⟩, calls := List.replicate 8 1 })
    (ok s = true ∧ (s.eng 1).st = .busy ∧ imemWords 1 ≤ (s.eng 1).pc ∧ (Instr.nop 1).engine = some 1) ∧
    (ok t = true ∧ (t.eng 1).st = .busy ∧ (t.eng 1).pc < imemWords 1 ∧ (t.eng 1).atPrefix.isSome = true ∧ (Instr.nop 1).capturable = false) ∧
    (ok u = true ∧ runs u 1 = true ∧ (Instr.ld64 1 3 1 0).access = some (1, 0, 8) ∧ dataKey 1 1 (dataAddr (u.eng 1) 1 0) = none ∧
      (Instr.st16 1 3 2 0).access = some (2, 0, 2) ∧ dataKey 1 1 (dataAddr (u.eng 1) 2 0) = some (engDmem 1 + 1) ∧
      dataAddr (u.eng 1) 2 0 % 2 ≠ 0 ∧ 4 ≤ (u.eng 1).loops.length ∧ 8 ≤ (u.eng 1).calls.length) ∧
    ((busy 1 5 id).eng 1).calls = [] ∧ 13 ≤ (13 : BitVec 4).toNat ∧ (11 ≤ (11 : BitVec 4).toNat ∧ (14 : BitVec 4).toNat ≤ 14) ∧
    mayPin 10 0 = false ∧ mayPout 10 0 = false := by
  decide

theorem witness_EngControlFlow :
    let f : LoopFrame := ⟨3, 5, 1, 0⟩
    let s := busy 2 5 (fun x => { x with loops := [f] })
    let t := busy 2 5 (fun x => { x with loops := [{ f with left := 0 }], calls := [] })
    let u := busy 2 4 (fun x => { x with loops := [{ f with depth := 7 }], calls := List.replicate 7 9, haltReq := true })
    (ok s = true ∧ runs s 2 = true ∧ (s.eng 2).loops.length < 4 ∧ f.depth = (s.eng 2).calls.length ∧ f.last = (s.eng 2).pc ∧ 0 < f.left) ∧
    (ok t = true ∧ runs t 2 = true ∧ (t.eng 2).haltReq = false) ∧
    (ok u = true ∧ runs u 2 = true ∧ f.last ≠ (u.eng 2).pc ∧ (u.eng 2).calls.length < 8 ∧ (u.eng 2).haltReq = true) ∧
    ((busy 2 5 id).eng 2).loops = [] ∧ ((busy 2 5 (fun x => { x with calls := [8 + 1] })).eng 2).calls = [8 + 1] := by
  decide

/-- Targets at distance 0, 1, 2^60 and beyond, with room and without. -/
theorem witness_EngTime :
    let s := fun (d : Nat) (l : List AtEntry) =>
      busy 4 0 (fun x => { x with atPrefix := some (true, (live.tb.c + d) % 2 ^ 64), ats := l })
    let dist := fun (d : Nat) => (BitVec.ofNat 64 ((live.tb.c + d) % 2 ^ 64) - BitVec.ofNat 64 live.tb.c).toInt
    (ok (busy 4 0 id) = true ∧ runs (busy 4 0 id) 4 = true) ∧
    (ok (s 1 []) = true ∧ ((s 1 []).eng 4).st = .busy ∧ ((s 1 []).eng 4).atPrefix = some (true, (live.tb.c + 1) % 2 ^ 64)) ∧
    dist 0 ≤ 0 ∧ 1 ≤ dist 1 ∧ dist (2 ^ 60) ≤ 2 ^ 60 ∧ 2 ^ 60 < dist (2 ^ 60 + 1) ∧
    8 ≤ ((s 1 (List.replicate 8 ⟨true, 0, false, .snap⟩)).eng 4).ats.length ∧ mayPout 4 43 = true := by
  decide

theorem witness_EngPorts :
    let s := busy 0 0 (withW 0x3ffc 0 0 0)
    let q := s.busRead (.eng 0) (regAddr 2 0) 15
    let p := s.busWrite (.eng 0) (regAddr 2 0) 15 5
    ok s = true ∧ runs s 0 = true ∧ (((s.eng 0).rw 1).toNat + 4 * 0) % 2 ^ 64 = 0x3ffc ∧ mayPin 0 2 = true ∧ (q.2.2.eng 0).st = .busy ∧
    mayPout 0 2 = true ∧ (p.2.eng 0).st = .busy ∧ p.1 ≠ .width ∧ p.1 ≠ .reach := by
  decide

theorem witness_EngQueues :
    let bind := fun (x : Eng) => { x with queues := [⟨63, true, true, 8⟩] }
    let s := queued (busy 0 0 bind) 63 1 0
    let full := fun (m fill : Nat) => (queued (busy 0 0 bind) 63 1 m).modQueue 63 (fun u => { u with fill := fill })
    (ok s = true ∧ runs s 0 = true ∧ (s.eng 0).produces 63 = true ∧ (s.eng 0).consumes 63 = true ∧ s.qEnabled 63 = true ∧
      s.qFull 63 = false ∧ (s.queue 63).fill = 0) ∧
    (ok (full 0 2) = true ∧ (full 0 2).qFull 63 = true ∧ (full 0 2).qMode 63 = .stall ∧ mayWait 0 = true ∧ (full 1 2).qMode 63 = .dropNew) ∧
    (0 < ((full 0 2).queue 63).fill ∧ s.ecc = [] ∧ (s.eng 0).produces 5 = false ∧ s.qEnabled 5 = false) := by
  decide

theorem witness_EngSend :
    let ring := (((live.put W_GL GL_CTL_ENABLE 1).put W_GL GL_STATE_RSTATE 2).put W_GL GL_MEMBERS_PRESENT 128)
    let s := (ring.modEng 0 (fun x => { x with st := .busy })).setGl { ring.gl with credits := List.replicate 8 1 }
    let w := s.modEng 0 (fun x => { x with st := .waitq, wait := .send 7 3 0 })
    let p := s.modEng 5 (fun x => { x with st := .waitq, wait := .queue 3 })
    (ok s = true ∧ runs s 0 = true ∧ (7 : Nat) ≠ s.glId ∧ s.glReaches 7 = true ∧ 0 < s.glCredit 7 ∧ s.glReaches 6 = false) ∧
    ((s.setGl { s.gl with credits := List.replicate 8 0 }).glCredit 7 = 0) ∧ ((w.eng 0).wait = .send 7 3 0 ∧ w.glReaches 7 = true) ∧
    ((p.eng 5).wait = .queue 3 ∧ p.qFull 3 = false ∧
      ((p.modQueue 3 (fun u => { u with held := [⟨5, 9⟩] })).queue 3).held = [⟨5, 9⟩]) := by
  decide

theorem witness_EngEvents :
    let s := live.modEng 3 (fun x => { x with st := .idle, pend := [(63, 1), (2, 5)], hands := [(63, 16), (2, 40)] })
    let u := live.modEng 3 (fun x => { x with st := .idle, pend := [(7, 5)], hands := [(7, 40)] })
    let d := live.modEng 3 (fun x => { x with st := .idle, pend := [(63, 1)], hands := [] })
    let o := busy 3 0 (fun x => { x with evt := 2, hbounds := [(2, 5)], runAt := 0, ats := [⟨true, live.tb.c, false, .snap⟩] })
    (ok s = true ∧ (s.eng 3).st = .idle ∧ s.engHeld 3 = false ∧ (s.eng 3).rom = none ∧ s.pendingOf 3 63 = some 1 ∧
      s.handlerOf 3 63 = some 16 ∧ s.sys.supStart = false) ∧
    (ok u = true ∧ u.pendingOf 3 7 = some 5 ∧ u.handlerOf 3 7 = some 40 ∧ u.pendingOf 3 63 = none ∧
      ∀ j, j < 7 → u.pendingOf 3 j = none ∧ (u.queueEvents 3).contains j = false) ∧
    (ok d = true ∧ d.pendingOf 3 63 ≠ none ∧ d.handlerOf 3 63 = none) ∧
    (live.tb.tickIdx < live.tb.c / 65536000000 ∧ ∀ p ∈ (live.eng 0).pend, p.1 ≠ 0) ∧
    (ok o = true ∧ runs o 3 = true ∧ (o.eng 3).overran = false ∧ o.overBound 3 = true ∧ (∀ p ∈ (o.eng 4).pend, p.1 ≠ 48 + 3) ∧
      (o.eng 3).ats.find? (fun e => o.atDue e) = some ⟨true, live.tb.c, false, .snap⟩) := by
  decide

/-! ## Witnesses: register accesses (O20 to O25) -/

/-- Each of the refusals: reach, alignment, width, a guard lock, a read-only register, a foreign writer, an enabled block's
CFG register, an alias of a command register. -/
theorem witness_AccessRefusals :
    let s := (live.wr W_GUARD GUARD_LOCK 4).put (wSrc 0) SRC_EN_ENABLE 1
    ok s = true ∧ s.sys.soft = false ∧ Req.i2c ≠ .script ∧ inReach .i2c true (regAddr W_NVS NVS_CMD) = false ∧
    inReach .i2c false (regAddr W_CAL CAL_CTL) = false ∧ inReach .pcie true 2 = true ∧
    (s.guarded W_PWR PWR_TRIM = true ∧ (regRow W_PWR PWR_TRIM).isSome = true) ∧
    ((regRow W_SYS SYS_STATE).map (fun x => x.cls) = some .ro ∧ s.guarded W_SYS SYS_STATE = false) ∧
    ((regRow W_HLTH HLTH_PLAN).map (fun x => x.cls) = some .run ∧ mayWrite .pcie W_HLTH HLTH_PLAN = false) ∧
    ((regRow (wSrc 0) SRC_CFG).map (fun x => x.cls) = some .cfg ∧ s.cfgHeld (wSrc 0) SRC_CFG = true) ∧
    ((regRow W_HLTH HLTH_CMD).map (fun x => x.cls) = some .cmd ∧ stagedReg W_TB TB_STEP_W0 = true) := by decide

/-- A RUN register, and a CFG register of a block that is not enabled. -/
theorem witness_RegisterWrites : let c : RegRow := ⟨0x4, 1, 0, .cfg, (regRow (wSrc 20) SRC_CFG).elim 0 (fun x => x.rsv), 0⟩
    ready live = true ∧ plainReg W_PWR PWR_TLIM = true ∧ regRow W_PWR PWR_TLIM = some ⟨0x28, 1, 0, .run, 0xff000000, 0x13c2b3⟩ ∧
    live.Takes .i2c W_PWR PWR_TLIM 0xffffffff ∧ plainReg (wSrc 20) SRC_CFG = true ∧ c.cls = .cfg ∧
    live.cfgHeld (wSrc 20) SRC_CFG = false := by
  refine ⟨by decide, by decide, by decide, ⟨by decide, by decide, by decide, ?_, by decide⟩, by decide, by decide, by decide⟩
  intro row h hc
  have e : regRow W_PWR PWR_TLIM = some ⟨0x28, 1, 0, .run, 0xff000000, 0x13c2b3⟩ := by decide
  rw [e] at h
  cases h
  cases hc

theorem witness_RegisterReads : (regRow W_TB TB_STS).isSome = true ∧ inReach .pcie false (regAddr W_TB TB_STS) = true ∧
    live.par = [] ∧ W_TB ≠ W_PWR ∧ W_TB ≠ W_OSC ∧ (∃ o, o ∈ latchesOf W_CAL CAL_SEQTDC_LO ∨ o = 0) :=
  ⟨by decide, by decide, by decide, by decide, by decide, 0, .inr rfl⟩

theorem witness_StagedAndSticky : ready live = true ∧ stagedReg W_NVS NVS_PWD_LO = true ∧ live.Takes .pcie W_NVS NVS_PWD_LO 5 ∧
    (regRow W_HLTH HLTH_STS).map (fun x => x.cls) = some .sts ∧ inReach .i2c true (regAddr W_HLTH HLTH_STS) = true := by
  refine ⟨by decide, by decide, ⟨by decide, by decide, by decide, ?_, by decide⟩, by decide, by decide⟩
  intro row h hc
  have e : (regRow W_NVS NVS_PWD_LO).map (fun x => x.cls) = some .cmd := by decide
  rw [h] at e
  simp only [Option.map_some, Option.some.injEq] at e
  rw [hc] at e
  cases e

theorem witness_Timeouts : let x : Abandoned := ⟨.pcie, regAddr W_PWR PWR_TLIM, 0xffffffff⟩
    let s := live.setAcc { live.acc with abandoned := [x], held := [(.pcie, regAddr W_TEV (TEV_G_CMD + 0x40 * 15), 2)] }
    ready s = true ∧ blockAnswers (regAddr W_NVS NVS_CTL) = true ∧ regAddr W_NVS NVS_CTL % 4 = 0 ∧
    inReach .pcie true (regAddr W_NVS NVS_CTL) = true ∧ plainReg W_PWR PWR_TLIM = true ∧ s.acc.abandoned[0]? = some x ∧
    s.acc.held = (.pcie, regAddr W_TEV (TEV_G_CMD + 0x40 * 15), 2) :: [] := by decide

theorem witness_Scrubbers : ok live = true ∧ (regRow W_PWR PWR_TLIM).map (fun x => x.cls) = some .run ∧ live.par = [] ∧
    ones01 33 (1 : BitVec 33).toNat % 2 = 1 ∧ ones01 33 (3 : BitVec 33).toNat % 2 = 0 ∧ inMemory (SRAM + sramSize - 1) = true ∧
    (∀ e ∈ live.ecc, e.1 ≠ (SRAM + sramSize - 1) / 8 * 8) := by decide

/-! ## Witnesses: sources and selectors (O26 to O32) -/

/-- `live` with source `n` in state `q`, beside its registers as `f` makes it. -/
def src (n q : Nat) (f : SrcSt → SrcSt) : State :=
  (((live.put (wSrc n) SRC_STATE_QSTATE q).put (wSrc n) SRC_EN_ENABLE 1).modSrc n f)

theorem witness_SourceVerdicts : let s := fun (q first wtr : Nat) => ((src 20 q id).put (wSrc 20) SRC_STATE_FIRST first).put (wSrc 20) SRC_WTR_WTR wtr
    (ready (s 2 1 0) = true ∧ (s 2 1 0).srcForce 20 = 0 ∧ (s 2 1 0).qstate 20 = 2 ∧ (s 2 1 0).flag (wSrc 20) SRC_STATE_FIRST = true) ∧
    ((s 2 0 0).get (wSrc 20) SRC_WTR_WTR = 0 ∧ (s 2 0 5).get (wSrc 20) SRC_WTR_WTR ≠ 0) ∧
    (∀ q, q < 6 → (s q 0 0).qstate 20 = q) ∧ ((s 3 0 0).src 20).timer = none ∧
    ((src 20 3 (fun x => { x with expired := true })).src 20).expired = true ∧
    (decide ((0x80000000 : Word).toNat % 2 ^ 19 = 0) && (0x80000000 : Word).msb) = true ∧ (1 : Word).toNat % 2 ^ 19 ≠ 0 := by decide

theorem witness_SourceCommands : let s := fun (q : Nat) => src 3 q id
    (ready live = true ∧ live.qstate 3 = 0 ∧ live.flag (wSrc 3) SRC_EN_ENABLE = false) ∧
    (ready (s 4) = true ∧ (s 4).qstate 3 = 4 ∧ (s 4).flag (wSrc 3) SRC_EN_ENABLE = true ∧ (s 4).srcForce 3 = 0) ∧
    ((s 5).qstate 3 = 5 ∧ (s 3).qstate 3 = 3) ∧ ((0x11 : Word).getLsbD 0 = true ∧ bitsOf (0x11 : Word).toNat 4 2 = 1) := by decide

theorem witness_SourceTimers : let c := live.tb.c
    let p := src 0 3 (fun x => { x with timer := some c, verdict := some ⟨true, true, c - secU⟩ })
    let q := fun (st at_ : Nat) => src 0 st (fun x => { x with verdict := some ⟨true, true, at_⟩, since := 0 })
    (ready p = true ∧ p.qstate 0 = 3 ∧ (p.src 0).timer = some c ∧ p.due c = true ∧ signedDiff 96 c (c - secU) ≤ secU) ∧
    ((src 0 3 (fun x => { x with timer := some (c + 1) })).due (c + 1) = false ∧ (live.src 0).verdict = none) ∧
    (ready (q 4 (c - secU)) = true ∧ (q 4 (c - secU)).qstate 0 = 4 ∧ (q 2 (c - secU)).qstate 0 = 2 ∧
      (q 4 (c - secU)).due ((c - secU + secU) % 2 ^ 96) = true ∧ (q 4 0).srcForce 0 = 0 ∧ ((q 4 0).put (wSrc 0) SRC_EN_FORCE 1).srcForce 0 = 1) ∧
    (q 4 (c - secU + 1)).due ((c - secU + 1 + secU) % 2 ^ 96) = false := by decide

theorem witness_SourceActivity :
    let s := fun (q : Nat) (f : SrcSt → SrcSt) => (((src 17 q f).putPair (wSrc 17) SRC_PER_LO (2 ^ 42)).put (wSrc 17) SRC_CFG_FMT 0).put (wEth 1) ETH_STATE_LINK 1
    let a := s 1 (fun x => { x with bucket := 1, lastEdge := some 0 })
    let fresh := ((src 15 2 id).putPair (wSrc 15) SRC_PER_LO (2 ^ 42)).put (wSrc 15) SRC_CFG_FMT 3
    let xo := fun (b : Bool) (i : Option Nat) => live.setMon { live.mon with xoLost := b, basisDue := i }
    (ready a = true ∧ a.qstate 17 ≠ 0 ∧ (a.src 17).lastEdge = some 0 ∧
      ((a.srcPer 17 * (((a.src 17).missed + 1) * 256 + a.get (wSrc 17) SRC_ACT_ACT_TOL) : Nat) : Int) ≤ signedDiff 96 a.tb.c 0 * 2 ^ 24) ∧
    (a.flag (W_ETH + (17 - 16)) ETH_STATE_LINK = true ∧ 0 < a.srcPer 17 ∧ (a.src 17).missed = 0 ∧ (a.src 17).bucket ≤ 1 ∧ a.srcForce 17 ≠ 2 ∧
      a.shortInterval 17 (signedDiff 96 (a.tdcCount 17 1984) 0) = false) ∧
    (ready fresh = true ∧ fresh.qstate 15 = 2 ∧ fresh.get (wSrc 15) SRC_CFG_FMT < 4 ∧ 0 < fresh.srcPer 15 ∧ (fresh.src 15).lastEdge = none ∧
      (fresh.src 15).index = none) ∧
    (live.mon.xoLost = false ∧ ready (xo true none) = true ∧ (xo true none).mon.xoLost = true ∧ ready (xo true (some 4999)) = true ∧
      (xo true (some 4999)).mon.basisDue = some 4999 ∧ 4999 < live.tb.c / msU) := by decide +kernel

theorem witness_SourceBins : let s := ((src 20 4 id).putPair (wSrc 20) SRC_PER_LO (65536 * msU)).modEng 8 (fun x => { x with rom := some 2 })
    let u := { s with blks := s.blks.set 8 { s.blk 8 with bytes := List.replicate 0x11 1 } }
    (ready u = true ∧ ∀ w, w < 3 → lget 0 u.mon.binIdx w < u.tb.c / binU w ∨ u.tb.c / binU w ≤ lget 0 u.mon.binIdx w) ∧
    (lget 0 u.mon.binIdx 0 < u.tb.c / binU 0 ∧ 2 ≤ u.qstate 20 ∧ u.statsOn 20 = true ∧ statActive (u.srcPer 20) 0 = true) ∧
    (lget 0 u.mon.mtieIdx 0 < u.tb.c / mtieU 0 ∧ lget 0 u.mon.tdevIdx 0 < u.tb.c / tdevU 0) ∧
    ((u.src 20).mtie[0]?.isSome = true ∧ (u.src 20).tdev[0]?.isSome = true) := by decide

/-- Loop 1 with the selector in state `st` on source `cur`; sources 2 and 3 are QUAL with priorities 1 and 2. -/
def sel (st cur : Nat) : State :=
  let s := ((((src 2 4 id).put (wSrc 3) SRC_STATE_QSTATE 4).put (wDpll 1) DPLL_SEL_CTL_REVERT 1).put (wDpll 1) DPLL_SEL_STATE_ST st).put
    (wDpll 1) DPLL_SEL_STATE_CUR cur
  s.wr (wDpll 1) DPLL_SEL_PRIO0 0x2100

theorem witness_SelectorChoices : let s := sel 3 3
    (ready s = true ∧ s.selIdle 1 = false ∧ (s.sel 1).trig ≠ .untie ∧ (s.sel 1).trig ≠ .unfreeze) ∧
    (s.selMode 1 = 0 ∧ s.flag (wDpll 1) DPLL_SEL_CTL_REVERT = true ∧ s.candidate 1 2 = true ∧
      ∀ j, j < 21 → j ≠ 2 → s.candidate 1 j = true → s.before 1 2 j = true ∧ s.before 1 j 2 = false) ∧
    (s.selSt 1 = 3 ∧ s.selCur 1 = 3 ∧ (sel 0 31).selSt 1 = 0 ∧ (sel 1 3).selSt 1 = 1 ∧ (sel 2 3).selSt 1 = 2 ∧ (sel 3 2).selCur 1 = 2) ∧
    ((s.put (wDpll 1) DPLL_SEL_CTL_MODE 2).selMode 1 = 2 ∧ ((s.put (wDpll 1) DPLL_SEL_CTL_MODE 1).put (wDpll 1) DPLL_SEL_CTL_FSRC 20).qstate 20 ≠ 4) := by
  decide

theorem witness_SelectorSamples : let s := fun (st : Nat) (back : Bool) =>
      ((sel st 2).modSrc 2 (fun x => { x with samples := 1 })).modSel 1 (fun x => { x with returning := back, retarget := true, mark := 0, follow := 20 })
    let j := (((s 1 true).put (wDpll 1) DPLL_SEL_CTL_RMODE_FREQ 1).wr (wDpll 1) DPLL_SEL_JGUARD 1).put (wDpll 1) DPLL_SEL_CTL_RMODE_TIME 1
    (ready (s 1 false) = true ∧ (s 1 false).selIdle 1 = false ∧ (s 1 false).freshSample 1 = true ∧ (s 1 false).selSt 1 = 1 ∧
      ((s 1 false).sel 1).returning = false) ∧
    (ready (s 2 false) = true ∧ (s 2 false).selSt 1 = 2 ∧ ((s 2 false).sel 1).retarget = true ∧ ((s 2 false).sel 1).follow ≤ 20 ∧
      (s 2 false).freshSample 1 = true) ∧
    ((s 1 true).followMode 1 2 = false ∧ ((s 1 true).sel 1).returning = true ∧ j.followMode 1 2 = true ∧ j.rn (wDpll 1) DPLL_SEL_JGUARD = 1 ∧
      (let z := j.putPair (wSrc 2) SRC_PHASE_LO (2 ^ 40)
       z.rn (wDpll 1) DPLL_SEL_JGUARD * 65536 < (z.srcError 1 2).natAbs ∧ z.hasPass 1 2 = false ∧ z.srcForce 2 = 0 ∧ z.qstate 2 = 4)) := by decide

/-! ## Witnesses: loops, oscillator, synthesisers, channels and alignment (O33 to O42) -/

theorem witness_LoopCommands :
    let on := (live.put (wDpll 3) DPLL_CTL_ENABLE 1).put W_DPLL DPLL_CTL_TIED 1
    (ready live = true ∧ (live.dpll 3).frozen = false ∧ live.flag (wDpll 3) DPLL_CTL_ENABLE = false ∧
      live.get (W_ENG + 1 + 3) ENG_BOUND_V ≤ 285 * live.uper 3 ∧ live.flag W_DPLL DPLL_CTL_TIED = false) ∧
    (ready on = true ∧ on.flag (wDpll 3) DPLL_CTL_ENABLE = true ∧ on.flag W_DPLL DPLL_CTL_TIED = true ∧
      on.psrem 3 + toSigned 48 (2 ^ 47 - 1) < 2 ^ 47 ∧ 2 ^ 47 ≤ (on.putPair (wDpll 3) DPLL_PSREM_LO 1).psrem 3 + toSigned 48 (2 ^ 47 - 1)) ∧
    285 * (live.put (W_ENG + 4) ENG_BOUND_V (2 ^ 24 - 1)).uper 3 < (live.put (W_ENG + 4) ENG_BOUND_V (2 ^ 24 - 1)).get (W_ENG + 4) ENG_BOUND_V ∧
    ((live.put (wDpll 3) DPLL_SEL_STATE_ST 3).selSt 3 = 3 ∧ live.selMode 3 ≠ 2 ∧ live.selSt 3 = 0) := by decide

theorem witness_LoopUpdates :
    let s := ((live.put (wDpll 0) DPLL_CTL_ENABLE 1).put (wDpll 0) DPLL_SEL_STATE_ST 3).modDpll 0
      (fun x => { x with granted := true, committed := true, flEnd := live.tb.c, flGood := 1 })
    let late := s.modDpll 0 (fun x => { x with updIdx := live.tb.c / (s.uper 0 * usU) })
    (ready s = true ∧ (s.dpll 0).updIdx < s.tb.c / (s.uper 0 * usU) ∧ s.dpllOn 0 = true ∧ (s.dpll 0).granted = true ∧
      (s.dpll 0).frozen = false ∧ s.tied 0 = false ∧ s.selMode 0 ≠ 2 ∧ s.selSt 0 = 3 ∧ s.psrem 0 = 0 ∧
      (s.wr (wDpll 0) DPLL_FSLEW 0).rn (wDpll 0) DPLL_FSLEW = 0 ∧ -s.flim 0 ≤ s.dcow 0 ∧ s.dcow 0 ≤ s.flim 0) ∧
    (ready late = true ∧ late.tb.c / (late.uper 0 * usU) ≤ (late.dpll 0).updIdx) ∧
    (live.dpllOn 0 = false ∧ (s.wr (wDpll 0) DPLL_UPDCNT 1).rn (wDpll 0) DPLL_UPDCNT ≠ 0) ∧
    (s.due (s.dpll 0).flEnd = true ∧ s.flag (wDpll 0) DPLL_STATE_FLOCK = false ∧ 1 ≤ (s.dpll 0).flGood ∧
      (s.dco 0 - (s.dpll 0).flWord).natAbs * 4096 * 10 ^ 9 ≤ s.rn (wDpll 0) DPLL_FLTHR * 2 ^ 48 ∧
      2 * (s.rn (wDpll 0) DPLL_FLTHR * 2 ^ 48) <
        (s.dco 0 - ((s.modDpll 0 (fun x => { x with flWord := 2 ^ 47 })).dpll 0).flWord).natAbs * 4096 * 10 ^ 9) := by decide

theorem witness_OscillatorModel :
    let s := (live.put W_OSC OSC_CTL_EVAL 1).put W_OSC OSC_CTL_LSAMP 1
    let p := live.setOsc { live.osc with pend := [(live.tb.c - msU - 1, live.osc.inForce)], unread := true }
    ready s = true ∧ s.osc.evalIdx < s.tb.c / msU ∧ ready p = true ∧ p.osc.pend = (live.tb.c - msU - 1, live.osc.inForce) :: [] ∧
    live.tb.c - msU - 1 < live.tb.c / msU * msU ∧ live.flag W_OSC OSC_CTL_EVAL = false ∧
    (s.flag W_OSC OSC_CTL_EVAL = true ∧ s.osc.pend = [] ∧ (s.put W_OSC OSC_CFG_TSEL 2).tempOn = false) ∧
    (s.osc.tempIdx < s.tb.c / (10 * msU) ∧ (s.put W_OSC OSC_CFG_TSEL 0).tsel = 0 ∧ tsValid 0 = false ∧ tsValid 0x8000 = true ∧
      s.flag W_OSC OSC_STATE_TSBAD = false ∧ (s.put W_OSC OSC_TLAG_V 0).get W_OSC OSC_TLAG_V = 0) ∧
    (s.flag W_OSC OSC_CTL_LSAMP = true ∧ s.osc.learnIdx < (s.setTb { s.tb with c := 4000 * secU }).tb.c / s.lint ∧ p.osc.unread = true) ∧
    (s.osc.estIdx < s.tb.c / secU ∧ s.learned = false) := by decide

theorem witness_BridgeChecks :
    let s := live.wr W_BRG BRG_SLEW 1
    (ready s = true ∧ s.mon.xoLost = false ∧ 200000 * 4096 < (-(200000 * 4096 + 1) : Int).natAbs ∧ ¬ 1 < (-1 : Int).natAbs) ∧
    (s.safe = false ∧ s.rn W_BRG BRG_SLEW ≠ 0 ∧ bitsOf s.brg.map (2 * 6) 2 ≠ bitsOf (0x1000 : Word).toNat (2 * 6) 2) ∧
    (live.setFlt { live.flt with st := .safe }).safe = true := by decide

theorem witness_SynthesiserCommands :
    let on := (live.put (wApll 1) APLL_CTL_ENABLE 1)
    let ok' := on.put (wApll 1) APLL_STATE_BANDOK 1
    let lk := (ok'.put (wApll 1) APLL_STATE_LOCK 1).modApll 1 (fun x => { x with locked := true })
    ready live = true ∧ live.apllOn 1 = false ∧ (live.apllRangeBad 1 = true ∨ live.apllRangeBad 1 = false) ∧
    (ready on = true ∧ on.apllOn 1 = true ∧ on.flag (wApll 1) APLL_CFG_BANDMODE = false ∧ on.flag (wApll 1) APLL_STATE_BANDOK = false) ∧
    (ok'.flag (wApll 1) APLL_STATE_BANDOK = true ∧ ok'.apllLock 1 = false) ∧
    (lk.apllLock 1 = true ∧ (lk.apll 1).locked = true ∧ lk.safe = false ∧ (lk.setFlt { lk.flt with st := .safe }).safe = true) := by decide

/-- Channel 39 over 1000 on the TB clock, in OUTST `st`, with its divider's last restart `ago` periods of the TB clock before now. -/
def chan39 (st ago : Nat) : State :=
  let s := ((live.put (wOut 39) OUT_DIV_V 1000).put (wOut 39) OUT_CFG_CLKSEL 2).put (wOut 39) OUT_STATE_OUTST st
  s.modOut 39 (fun x => { x with start := some (s.phaseNow 39 - ago * clkK) })

theorem witness_ChannelControl :
    let s := (live.put (wOut 39) OUT_DIV_V 1000).put (wOut 39) OUT_CFG_CLKSEL 2
    let on := fun (st ago : Nat) => (chan39 st ago).put (wOut 39) OUT_CTL_ENABLE 1
    let act := fun (m ago : Nat) => (on 3 ago).put (wOut 39) OUT_STATE_SAFEACT m
    let rsm := (act 2 500).modOut 39 (fun x => { x with resume := true })
    let pend := fun (m ago a : Nat) => (act m ago).modOut 39 (fun x => { x with safePend := some a })
    let wait := (live.put (wOut 0) OUT_STATE_OUTST 2).put (wOut 0) OUT_CFG_CLKSEL 1
    let safe := s.setFlt { s.flt with st := .safe }
    (ready s = true ∧ s.flag (wOut 39) OUT_CTL_ENABLE = false ∧ s.outRangeBad 39 = false ∧ ¬ s.clksel 39 < 2) ∧
    ((s.put (wOut 39) OUT_CFG_CLKSEL 0).outRangeBad 39 = true ∧ ready safe = true ∧ safe.safe = true ∧ safe.gated 39 = false ∧
      (safe.chan 39).safePend = none ∧ (safe.chan 39).safeCap = none ∧
      ((safe.modOut 39 (fun x => { x with safeCap := some 2 })).chan 39).safeCap = some 2) ∧
    (ready wait = true ∧ wait.outst 0 = 2 ∧ wait.clksel 0 < 2 ∧ wait.apllLock 1 = false ∧
      (wait.put (wApll 1) APLL_STATE_LOCK 1).apllLock 1 = true) ∧
    (ready (on 3 0) = true ∧ (on 3 0).flag (wOut 39) OUT_CTL_ENABLE = true ∧ ((on 3 0).chan 39).start ≠ none ∧
      ((s.put (wOut 39) OUT_CTL_ENABLE 1).chan 39).start = none) ∧
    (ready (on 4 500) = true ∧ (on 4 500).outst 39 = 4 ∧ (on 4 500).outHigh 39 = false ∧ (on 4 499).outHigh 39 = true ∧
      ((on 4 499).chan 39).resume = false) ∧
    (ready (pend 0 500 2) = true ∧ ((pend 0 500 2).chan 39).safePend = some 2 ∧ (pend 0 500 2).outRun 39 = true ∧
      (pend 0 500 2).outHigh 39 = false ∧ (pend 0 499 0).outHigh 39 = true ∧ (pend 2 500 0).gated 39 = true ∧ (on 4 0).outRun 39 = false) ∧
    (ready (act 2 500) = true ∧ (act 2 500).gated 39 = true ∧ (act 2 500).flt.st = .idle ∧
      (act 2 500).outLevel 39 ((act 2 500).phaseNow 39) = false ∧ (act 2 499).outLevel 39 ((act 2 499).phaseNow 39) = true ∧
      (on 3 0).gated 39 = false) ∧
    (ready rsm = true ∧ (rsm.chan 39).start ≠ none ∧ rsm.outst 39 ≠ 4 ∧ (rsm.chan 39).resume = true ∧
      rsm.outLevel 39 (rsm.phaseNow 39) = false) := by decide +kernel

theorem witness_ChannelWatch :
    let s := (chan39 3 500).put (wOut 39) OUT_FRETAPP_T 511
    let dfn := s.put (wOut 39) OUT_DFCFG_DFN 4
    (ready s = true ∧ s.outRun 39 = true ∧ s.gated 39 = false ∧ s.outHigh 39 = false ∧ (s.chan 39).start.getD 0 ≤ s.phaseNow 39 ∧
      (s.chan 39).fretNext = none ∧ s.fretA 39 ≠ s.fretT 39) ∧
    (((s.modOut 39 (fun x => { x with fretNext := some (live.tb.c + 1) })).chan 39).fretNext = some (live.tb.c + 1) ∧ s.due (live.tb.c + 1) = false) ∧
    ((s.put (wOut 39) OUT_FRETAPP_A 510).fretA 39 + 1 = (s.put (wOut 39) OUT_FRETAPP_A 510).fretT 39) ∧
    (s.flag (wOut 39) OUT_STATE_DRVBAD = false ∧ (s.put (wOut 39) OUT_STATE_DRVBAD 1).flag (wOut 39) OUT_STATE_DRVBAD = true ∧
      live.outRun 39 = false ∧ max 1 (dfn.get (wOut 39) OUT_DFCFG_DFN) = 4 ∧
      max 1 ((s.put (wOut 39) OUT_DFCFG_DFN 0).get (wOut 39) OUT_DFCFG_DFN) ≤ (s.chan 39).bad + 1 ∧ (dfn.chan 39).bad + 3 < 4 ∧
      (dfn.chan 39).good + 3 < 4) := by decide +kernel

/-- Channel `n` in RUN, ungated, linearised, on the BAW clock over 1000, with SYNC enabled. -/
def running (n : Nat) : State :=
  (((((live.put W_SYNC SYNC_CTL_ENABLE 1).put (wOut n) OUT_STATE_OUTST 3).put (wOut n) OUT_DIV_V 1000).put (wOut n) OUT_CFG_CLKSEL 2).put
    (wOut n) OUT_DRV_FMT 0).putPair W_CAL CAL_LINOK_LO (2 ^ n)

/-- SYNC enabled, its instant `d` TB units after now. -/
def syncAt (d : Nat) : State := (live.put W_SYNC SYNC_CTL_ENABLE 1).putTriple W_SYNC SYNC_AT_W0 (fmtTime false (live.now + d))

theorem witness_SyncArms :
    let s := syncAt (200 * 65536)
    let a := (s.put W_SYNC SYNC_STATE_ARMED 1).setSync { s.sync with t := some s.now }
    let p := (((chan39 3 0).put W_SYNC SYNC_CTL_ENABLE 1).putPair W_SYNC SYNC_CHMASK_LO (2 ^ 39)).put W_SYNC SYNC_STATE_ARMED 1
    let d := (p.put W_SYNC SYNC_STATE_PLACED 1).setSync { p.sync with t := some p.now, resetAt := some p.tb.c }
    let each := (d.put W_SYNC SYNC_STATE_TRIGARM 1).put W_SYNC SYNC_CFG_PINMODE 1
    (ready s = true ∧ s.syncOn = true ∧ s.syncArmed = false ∧ live.syncOn = false) ∧
    (200 * 65536 ≤ s.tdiff (s.instant W_SYNC SYNC_AT_W0) s.now ∧
      (syncAt (199 * 65536)).tdiff ((syncAt (199 * 65536)).instant W_SYNC SYNC_AT_W0) (syncAt (199 * 65536)).now < 200 * 65536) ∧
    (((0 : Word).getLsbD 3 && s.glMayBroadcast) = false ∧ bitsOf (2 : Word).toNat 1 2 = 1 ∧ 2 ≤ bitsOf (6 : Word).toNat 1 2) ∧
    (ready a = true ∧ a.placeDue = true ∧ a.syncPlaced = false ∧ a.sync.t = some s.now ∧ s.placeDue = false) ∧
    (ready d = true ∧ d.sync.resetAt = some d.tb.c ∧ d.sync.t = some d.now ∧ d.syncPlaced = true ∧ d.due d.tb.c = true ∧
      d.get W_SYNC SYNC_STATE_TRIGARM ≠ 1 ∧ each.get W_SYNC SYNC_STATE_TRIGARM = 1 ∧ each.flag W_SYNC SYNC_CFG_PINMODE = true ∧
      d.syncMask 39 = true ∧ d.outRun 39 = true ∧ d.syncMask 0 = false) ∧
    (s.syncPinWait = false ∧ (∀ g, g < 4 → s.srPinWait g = false) ∧
      ((s.put W_SYNC SYNC_STATE_ARMED 1).put W_SYNC SYNC_STATE_TRIGARM 1).syncPinWait = true) := by decide +kernel

/-- Channel 39 runs in SYSREF mode on generator 3, which stands in SRST `st` with the pattern of ONESHOT 1; `sr` is the channel's gate. -/
def sysref (st d ago : Nat) (sr : Option (Nat × Int)) : State :=
  let c := ((((chan39 3 ago).put W_SYNC SYNC_CTL_ENABLE 1).put (wOut 39) OUT_CFG_MODE 2).wr W_SYNC (SYNC_SRMAP0 + 8) 0xc000).put W_SYNC
    (SYNC_SR_STATE_SRST.up (srOff 3)) st
  (c.modSr 3 (fun x => { x with ts := some (c.now + d), kind := 1, on := 1 })).modOut 39 (fun x => { x with sr := sr })

/-- The START clauses on generator 3, which is free; then STOP, the gate and the pattern's end on channel 39 (R175 to R177). -/
theorem witness_SysrefGenerators :
    let s := fun (start : Nat) => (syncAt 0).put W_SYNC (SYNC_SR_CFG_START.up (srOff 3)) start
    let arm := fun (d : Nat) => ((s 2).put W_SYNC SYNC_STATE_ARMED 1).setSync { (s 2).sync with t := some ((s 2).now + d) }
    let z := (s 0).putTriple W_SYNC (SYNC_SR_AT_W0 + srOff 3) (fmtTime false ((s 0).now + 200 * 65536))
    let run := fun (ago : Nat) => sysref 2 0 ago (some (0, (sysref 2 0 ago none).phaseNow 39 - ago * clkK))
    let stop := (run 500).put W_SYNC (SYNC_SR_STATE_SRST.up (srOff 3)) 3
    (ready (s 1) = true ∧ (s 1).syncOn = true ∧ (s 1).srst 3 = 0 ∧ (s 1).get W_SYNC (SYNC_SR_CFG_START.up (srOff 3)) = 1 ∧
      (s 3).get W_SYNC (SYNC_SR_CFG_START.up (srOff 3)) = 3 ∧ (s 2).get W_SYNC (SYNC_SR_CFG_START.up (srOff 3)) = 2 ∧
      (s 2).syncArmed = false ∧ live.syncOn = false ∧ z.glMayBroadcast = false) ∧
    ((s 0).tdiff ((s 0).instant W_SYNC (SYNC_SR_AT_W0 + srOff 3)) (s 0).now < 200 * 65536 ∧ ready z = true ∧
      200 * 65536 ≤ z.tdiff (z.instant W_SYNC (SYNC_SR_AT_W0 + srOff 3)) z.now) ∧
    (ready (arm 0) = true ∧ (arm 0).syncArmed = true ∧ (arm 0).sync.t = some ((s 2).now + 0) ∧
      (arm 0).tdiff ((s 2).now + 0) (arm 0).now < 200 * 65536 ∧
      200 * 65536 ≤ (arm (200 * 65536)).tdiff ((s 2).now + 200 * 65536) (arm (200 * 65536)).now) ∧
    (ready (sysref 1 0 0 none) = true ∧ (sysref 1 0 0 none).srst 3 = 1 ∧ ((sysref 1 0 0 none).sr 3).ts = some (sysref 1 0 0 none).now ∧
      (sysref 1 0 0 none).tdiff (sysref 1 0 0 none).now (sysref 1 0 0 none).now ≤ 0 ∧ 39 ∈ (sysref 1 0 0 none).srChans 3 ∧
      (sysref 1 0 0 none).firstEdge 39 ((sysref 1 0 0 none).tsPhase 39) ≤ (sysref 1 0 0 none).phaseNow 39 ∧
      0 < (sysref 1 1 0 none).tdiff ((sysref 1 1 0 none).now + 1) (sysref 1 1 0 none).now) ∧
    (ready (run 500) = true ∧ (run 500).srst 3 = 2 ∧ ((run 500).sr 3).kind = 1 ∧ (run 500).srEnded 3 = true ∧ (run 499).srEnded 3 = false ∧
      (run 500).srChan 3 = some 39 ∧ ((run 500).chan 39).srLimit = none ∧ ((run 500).sr 3).on < 2 ^ 24) ∧
    (ready stop = true ∧ stop.srst 3 = 3 ∧ (stop.sr 3).ts ≠ none ∧ stop.srEnded 3 = true) := by decide +kernel

theorem witness_TrimsAndEcho :
    let s := ((live.put (wApll 0) APLL_CTL_ENABLE 1).put (wApll 0) APLL_STATE_LOCK 1)
    let t := fun (e : Int) => ((s.put W_SYNC SYNC_CTL_ENABLE 1).wr W_SYNC SYNC_TRIMCTL ((s.rn W_SYNC SYNC_TRIMCTL) ||| 1)).setSync
      { live.sync with phi := [some (e * 2 ^ 16), none] }
    let on := fun (z : State) => z.put (wDpll 0) DPLL_CTL_ENABLE 1
    let tb := (t 100).setTb { live.tb with steer := 1 }
    let sat := (t 700).setSync { (t 700).sync with satSince := [some (live.tb.c - secU), none], satDone := [false, false] }
    let e := fun (ago : Nat) => ((((running 39).put W_SYNC SYNC_ECTL_AVG 0).put W_SYNC SYNC_ECTL_ECHOEN 1).put W_SYNC (SYNC_ECFG_EN.up (0x10 * 39)) 1).setSync
      { (running 39).sync with echo := List.replicate 40 { EchoSt.reset with at_ := some (live.tb.c - ago) } }
    let hint := (e secU).put W_SYNC (SYNC_ENOM_ENOM.up (0x10 * 39)) 1
    (ready s = true ∧ s.apllLock 0 = true ∧ live.apllLock 0 = false ∧ 0 < s.vcoPeriod 0) ∧
    (ready (t 100) = true ∧ (t 100).trimOn 0 = true ∧ lget 0 (t 100).sync.trimIdx 0 < (t 100).tb.c / (t 100).trimInt ∧
      (t 100).aperr 0 = some 100 ∧ (t 1).aperr 0 = some 1 ∧ 1 * 1000 ≤ (t 1).trimThr * 16384 ∧ (t 100).trimThr * 16384 < 100 * 1000 ∧
      (t 100).psrem ((t 100).destLoop 0) = 0 ∧ (on (t 100)).pstepRefused 0 (-1526) = false ∧ (on (t 100)).steersTb 0 = false) ∧
    ((tb.put W_DPLL DPLL_CTL_TIED 0).steersTb (tb.destLoop 2) = true) ∧
    (ready sat = true ∧ sat.trimOn 0 = true ∧ lget none sat.sync.satSince 0 = some (live.tb.c - secU) ∧ lget false sat.sync.satDone 0 = false ∧
      (sat.aperr 0).isSome = true ∧ sat.due ((live.tb.c - secU + secU) % 2 ^ 96) = true) ∧
    (ready (e secU) = true ∧ (e secU).rangeRuns 39 = true ∧ (e secU).rangeRefused 39 = false ∧ (e secU).seqSt ≠ 4 ∧
      (e secU).flag W_SYNC SYNC_ECTL_ECHOEN = true ∧ (e secU).flag W_SYNC (SYNC_ECFG_EN.up (0x10 * 39)) = true ∧
      (e secU).since ((e secU).echoSt 39).at_ (e secU).echoAvg = true ∧ (e 0).since ((e 0).echoSt 39).at_ (e 0).echoAvg = false ∧
      (e secU).rn W_SYNC (SYNC_ETAU + 0x10 * 39) = 2 ^ 32 - 1 ∧
      ((e secU).put W_CAL CAL_CTL_ECHOCHK 0).flag W_CAL CAL_CTL_ECHOCHK = false) ∧
    ((e secU).echoInWindow 39 6554 = true ∧ (e secU).echoInWindow 39 294912 = true ∧ ready hint = true ∧ hint.rangeRefused 39 = false ∧
      hint.echoInWindow 39 294912 = true ∧ hint.echoInWindow 39 (65536 * 200) = false) ∧
    ((-1966 : Int).natAbs * 100 < 3 * 65536 ∧ 3 * 65536 ≤ (-1967 : Int).natAbs * 100 ∧ (49151 : Int).natAbs * 4 < 3 * 65536 ∧
      65536 ≤ 6554 * 10 ∧ 294912 * 10 ≤ 45 * 65536) := by decide +kernel

/-! ## Witnesses: timebase, timed events and network time (O43 to O50) -/

/-- `live` with change `c` granted, steering `st` and format `ring`. -/
def granted (c : TbChange) (st : Nat) (ring : Bool) : State :=
  live.setTb { live.tb with changes := [c], steer := st, ring := ring }

theorem witness_TimebaseWrites : ready live = true ∧ live.safe = false ∧ live.tb.dupbad = false ∧
    ready (live.setTb { live.tb with dupbad := true }) = true ∧ live.tb.steer ≠ 1 := by decide

theorem witness_TimebaseRates :
    let incr := fun (st : Nat) (ring : Bool) => granted (.incr (2 ^ 48 + 1)) st ring
    let steer := fun (v st : Nat) (ring : Bool) => granted (.steer v) st ring
    let set := fun (s : State) => (s.tb.incrInForce - 2 ^ 48).natAbs < 2 ^ 35
    let up := granted (.mode true) 0 false
    let down := granted (.mode false) 0 true
    let far := down.setTb { down.tb with ofs := 2 ^ 95, cr := down.tb.c }
    (ready (incr 0 false) = true ∧ (incr 0 false).tb.changes = [.incr (2 ^ 48 + 1)] ∧ (incr 0 false).tb.ring = false ∧
      ready (incr 0 true) = true ∧ (incr 0 true).tb.steer ≠ 2 ∧ (incr 1 false).tb.steer = 1 ∧ (incr 2 true).tb.ring = true) ∧
    (ready (steer 0 1 false) = true ∧ (steer 0 1 false).tb.steer = 1 ∧ set (steer 0 1 false) ∧ set (steer 0 2 true) ∧ set (granted (.steer 3) 0 true) ∧
      ready (steer 1 0 false) = true ∧ (steer 1 0 false).tb.steer ≠ 1 ∧ ready (steer 2 0 true) = true ∧ (steer 2 0 false).tb.steer = 0 ∧
      (steer 2 2 false).tb.steer = 2) ∧
    (ready up = true ∧ up.tb.changes = .mode true :: [] ∧ (granted (.mode false) 0 false).tb.ring = false) ∧
    (ready down = true ∧ down.tb.ring = true ∧ down.now < 2 ^ 48 * 10 ^ 9 * 65536 ∧ ready far = true ∧
      2 ^ 48 * 10 ^ 9 * 65536 ≤ far.now) := by decide

theorem witness_TimebaseSteps :
    let arm := fun (s : State) => s.setTb { s.tb with backarm := some live.tb.c }
    let f := fun (a : Int) => granted (.step a) 0 false
    (ready (arm live) = true ∧ (arm live).tb.backarm = some live.tb.c ∧ (arm live).due live.tb.c = true ∧ live.due (live.tb.c + 1) = false) ∧
    (ready (arm (f (-1))) = true ∧ (arm (f (-1))).tb.changes = [.step (-1)] ∧ 0 ≤ (live.tb.t : Int) + (-1) * 2 ^ 32 ∧
      (live.tb.t : Int) + (-1) * 2 ^ 32 < stdWrap ∧ (f 5).tb.steer ≠ 2 ∧ (f 5).tb.ring = false ∧ (f (-1)).tb.backarm = none) ∧
    ((granted (.step 7) 2 true).tb.steer = 2 ∧ (granted (.step 7) 2 true).tb.ring = true ∧ (f 0).tb.changes = [.step 0] ∧
      (arm (granted (.step (-1)) 0 true)).tb.ring = true ∧ ready (arm (granted (.step (-1)) 0 true)) = true) := by decide

theorem witness_TimedEvents :
    let s := fun (d : Nat) => (live.put W_TEV TEV_CTL_ENABLE 1).putTriple W_TEV (TEV_G_AT_W0 + genOff 15) (fmtTime false (live.now + d))
    let g := fun (d : Nat) (f : Option Nat) => (s 0).setTev
      { live.tev with gens := live.tev.gens.map (fun x => { x with phase := .armed, t0 := live.now + d, replayTo := -1, firedAt := f }) }
    let cap := (live.put W_TEV (TEV_CAP_CFG_EN.up (capOff 3)) 1).put W_TEV (TEV_CAP_CFG_EDGE.up (capOff 3)) 2
    let seen := fun (c : Nat) (l : List (BitVec 256)) => cap.setTev { cap.tev with caps := List.replicate 8 ⟨l, some c⟩ }
    (ready (s 0) = true ∧ (s 0).flag W_TEV TEV_CTL_ENABLE = true ∧ ((s 0).gen 15).phase = .idle ∧ live.glMayBroadcast = false ∧
      200 * 65536 ≤ (s 13107200).tdiff ((s 13107200).instant W_TEV (TEV_G_AT_W0 + genOff 15)) (s 13107200).now ∧
      (s 13107199).tdiff ((s 13107199).instant W_TEV (TEV_G_AT_W0 + genOff 15)) (s 13107199).now < 200 * 65536) ∧
    (ready (g 0 none) = true ∧ ((g 0 none).gen 15).phase ≠ .idle ∧ ((g 0 none).gen 15).firedAt ≠ some live.tb.c ∧
      (g 0 none).tdiff ((g 0 none).genInstant 15) (g 0 none).now ≤ 0 ∧ ((g 0 none).gen 15).replayTo < 0 ∧
      0 < (g 1 none).tdiff ((g 1 none).genInstant 15) (g 1 none).now ∧ ((g 0 (some live.tb.c)).gen 15).firedAt = some live.tb.c) ∧
    (lget none (live.setTev { live.tev with pins := List.replicate 4 (some live.tb.c) }).tev.pins 3 = some live.tb.c ∧ live.due live.tb.c = true) ∧
    (ready cap = true ∧ cap.flag W_TEV (TEV_CAP_CFG_EN.up (capOff 3)) = true ∧ capTakes 2 true = true ∧ (cap.capSt 3).lastEdge = none ∧
      (cap.capSt 3).fifo.length < 16 ∧ cap.tdcCount (22 + 3) 0 = live.tb.c ∧ live.flag W_TEV (TEV_CAP_CFG_EN.up (capOff 3)) = false) ∧
    (((seen (live.tb.c - 20 * 65536 + 1) []).capSt 3).lastEdge = some (live.tb.c - 20 * 65536 + 1) ∧
      signedDiff 96 live.tb.c (live.tb.c - 20 * 65536 + 1) < 20 * 65536 ∧ ¬ signedDiff 96 live.tb.c (live.tb.c - 20 * 65536) < 20 * 65536 ∧
      16 ≤ ((seen 0 (List.replicate 16 0)).capSt 3).fifo.length) := by decide +kernel

theorem witness_Snapshots :
    let s := (live.put W_SNAP SNAP_CTL_PIN 1).put W_SNAP SNAP_CTL_RING 1
    let held := s.put W_SNAP SNAP_INFO_HELD 1
    let trig := fun (z : State) => z.setTev { z.tev with triggers := [(7, 5)] }
    let anchor := ((((s.put W_GL GL_CTL_ENABLE 1).put W_GL GL_STATE_RSTATE 2).put W_GL GL_STATE_ANCHOR 1).putTriple W_SNAP SNAP_RINGAT_W0
      (fmtTime false (live.now + 20 * usU)))
    (ready s = true ∧ s.flag W_SNAP SNAP_CTL_PIN = true ∧ s.flag W_SNAP SNAP_CTL_PINEDGE = false ∧ s.flag W_SNAP SNAP_INFO_HELD = false ∧
      held.flag W_SNAP SNAP_INFO_HELD = true ∧ live.flag W_SNAP SNAP_CTL_PIN = false) ∧
    (ready (trig s) = true ∧ (trig s).tev.triggers = [(7, 5)] ∧ (trig held).tev.triggers = [(7, 5)] ∧ bitOf 5 2 = true) ∧
    (ready anchor = true ∧ anchor.glMayBroadcast = true ∧ s.glMayBroadcast = false ∧ anchor.gl.tq.length < 16 ∧
      20 * usU ≤ anchor.tdiff (anchor.instant W_SNAP SNAP_RINGAT_W0) anchor.now ∧ s.tdiff (s.instant W_SNAP SNAP_RINGAT_W0) s.now < 20 * usU) ∧
    (let r := s.setTev { s.tev with ringAt := some s.now }
     r.tev.ringAt = some s.now ∧ r.tdiff s.now r.now ≤ 0) := by decide

/-- A PTP Sync of 44 octets directly over Ethernet, to 01-1B-19-00-00-00, and a queue of port 0's engine. -/
def syncFrame : List Byte := [1, 0x1b, 0x19, 0, 0, 0, 2, 0, 0, 0, 0, 1, 0x88, 0xf7] ++ [0, 2, 0, 44] ++ List.replicate 40 0
def ptpOnline : State :=
  (((live.put (wEth 0) ETH_CTL_ENABLE 1).put (wEth 0) ETH_STATE_LINK 1).put (wPtp 0) PTP_CTL_ENABLE 1)

theorem witness_PtpFrames :
    let s := ptpOnline
    let q := (queued (queued s 8 1 0) 9 1 0)
    let d := fun (since : Nat) => (⟨0, false, false, none, 0, since⟩ : TxDesc)
    let line := s.put (wEth 0) ETH_CFG_MODE 1
    (ready s = true ∧ s.ethOn 0 = true ∧ s.ethLink 0 = true ∧ s.ptpOn 0 = true ∧ s.get (wPtp 0) PTP_QCFG_RXQ = 8 ∧
      s.get (wPtp 0) PTP_QCFG_TXQ = 9 ∧ live.ethOn 0 = false) ∧
    (s.classify 0 syncFrame = .ptp 14 false ∧ isEventMsg syncFrame 14 = true ∧ ¬ 254 < syncFrame.length ∧ (s.ptp 0).rxEv < 128 ∧
      s.classify 0 [0, 1] = .other) ∧
    (q.qEnabled 8 = true ∧ q.qFull 8 = false ∧ s.qEnabled 8 = false ∧ (q.modQueue 9 (fun u => { u with fill := 1 })).qEmpty 9 = false ∧
      s.qEmpty 9 = true) ∧
    (s.gridDue secU (s.ptp 0).winIdx = true ∧ (s.txFirst [d 0]).isSome = true ∧ line.inline 0 = true ∧
      (line.txLate [d (s.tb.c - 2 * msU)]).isSome = true ∧ line.txLate [d (s.tb.c - 2 * msU + 1)] = none) := by decide

theorem witness_PtpServo :
    let off := live
    let on := live.put (wPtp 1) PTP_CTL_ENABLE 1
    let sl := on.put (wPtp 1) PTP_PSTATE_PORTST 9
    let held := ((((live.put (wPtp 1) PTP_CTL_ENABLE 1).put (wPtp 1) PTP_CTL_VSRCEN 1).put (wPtp 1) PTP_PSTATE_PORTST 9).put (wPtp 1) PTP_STATE_SRCHELD 1).modPtp 1
      (fun x => { x with heldOfs := 1, lastAt := some live.tb.c, sampleAt := 0, interval := 1 })
    let path := (on.put (wPtp 1) PTP_STATE_PATHST 1).modPtp 1 (fun x => { x with pathEnd := some live.tb.c })
    (ready off = true ∧ off.ptpOn 1 = false ∧ off.ptpEnableRefused 1 = false ∧ on.ptpOn 1 = true ∧ on.srvEn 1 = false) ∧
    (ready sl = true ∧ sl.slave 1 = true ∧ sl.stagedVal (.eng 10) (wPtp 1) PTP_OFSEP % 2 ^ 16 = sl.tb.epoch ∧ sl.pathSt 1 ≠ 1) ∧
    (path.pathSt 1 = 1 ∧ (path.ptp 1).pathEnd = some live.tb.c ∧ (path.ptp 1).pathTo = false ∧ path.due live.tb.c = true) ∧
    (held.vsrcEn 1 = true ∧ held.slave 1 = true ∧ held.flag (wPtp 1) PTP_STATE_SRCHELD = true ∧ held.due (((held.ptp 1).sampleAt + (held.ptp 1).interval) % 2 ^ 96) = true) := by
  decide

theorem witness_SyncEAndTimeOfDay :
    let on := (live.wr W_SYE SYE_CTL 15).setTod { live.tod with esmcEnd := [some live.tb.c, none] }
    let u := ((live.put W_UART UART_CTL_RXEN 1).put W_UART UART_CTL_TXEN 1).put W_UART UART_CFG_TODREF 1
    let m := fun (edge : List (Int × Nat)) => u.setTod { u.tod with msgs := [⟨5, live.tb.c⟩], edges := edge, txBytes := some [1] }
    let met := m [((live.tb.c : Int) + 10 * msU, 5 * secU)]
    (ready on = true ∧ bitOf (live.rn W_SYE SYE_CTL) 0 = false ∧ bitOf (on.rn W_SYE SYE_CTL) 0 = true ∧ lget none on.tod.esmcEnd 0 = some live.tb.c ∧
      on.due live.tb.c = true ∧ on.gridDue secU on.tod.esmcIdx = true) ∧
    (ready u = true ∧ u.flag W_UART UART_CTL_RXEN = true ∧ u.flag W_UART UART_CFG_TODREF = true ∧ u.flag W_UART UART_CTL_TXEN = true ∧
      u.txDly ≤ (u.setTb { u.tb with t := (4 * secU + secU / 2) * 2 ^ 32 }).now % secU ∧ u.tod.txSec = none ∧ u.tod.txBytes = none) ∧
    (ready met = true ∧ (met.tod.msgs.find? (fun x => (met.todNextEdge x.stop).isSome)) = some ⟨5, live.tb.c⟩ ∧
      (met.todNextEdge live.tb.c).map (fun y => y.2) = some (5 * secU) ∧ met.tod.txBytes = some [1]) ∧
    ((m []).todNextEdge live.tb.c = none ∧ ((m []).setTb { live.tb with c := live.tb.c + secU }).due ((live.tb.c + 990 * msU) % 2 ^ 96) = true) := by
  decide

/-! ## Witnesses: the ring, the loader, the host and the fault path (O51 to O56) -/

/-- A member of a formed ring (RSTATE `rs`) with ID `id`, both ports UP, the members of `set` present. -/
def member (rs id set : Nat) : State :=
  (((((live.put W_GL GL_CTL_ENABLE 1).put W_GL GL_STATE_RSTATE rs).put W_GL GL_STATE_ID id).put W_GL GL_STATE_ANCHOR (b2n (id == 0))).put W_GL
    GL_MEMBERS_PRESENT set).put W_GL (GL_PORTA_LINK.up 0) 2 |>.put W_GL (GL_PORTA_LINK.up 4) 2

theorem witness_RingFormation :
    let a := member 1 0 1
    let f := a.setGl { a.gl with okSince := some (a.tb.c - 50 * usU), discDn := [3, 5], discUp := [6] }
    let dup := a.setGl { a.gl with okSince := some (a.tb.c - 50 * usU), discDn := [3, 3], discUp := [] }
    let early := a.setGl { a.gl with okSince := some (a.tb.c - 50 * usU + 1) }
    let m := fun (id : Nat) => (member 3 id 7).setGl { live.gl with broken := 1, ports := live.gl.ports.map (fun x => { x with measEnd := some live.tb.c }) }
    let meas := ((m 0).put W_GL (GL_PORTA_LINK.up 0) 3).put W_GL GL_STATE_ALIGNHOLD 1
    let down := ((member 3 2 7).put W_GL (GL_PORTA_LINK.up 0) 0).setGl { live.gl with ports := live.gl.ports.map (fun x =>
      { x with everUp := true, downAt := some 0 }) }
    (ready a = true ∧ a.glOn = true ∧ a.glAnchor = true ∧ a.rstate = 1 ∧ (member 2 2 7).glAnchor = false) ∧
    (ready f = true ∧ f.gl.okSince = some (live.tb.c - 50 * usU) ∧ f.due ((live.tb.c - 50 * usU + 50 * usU) % 2 ^ 96) = true ∧
      early.due ((live.tb.c - 50 * usU + 1 + 50 * usU) % 2 ^ 96) = false ∧ [f.glId] ++ f.gl.discDn ++ f.gl.discUp.reverse = [0, 3, 5, 6] ∧
      [0, 3, 5, 6].eraseDups.length = 4 ∧ ([dup.glId] ++ dup.gl.discDn ++ dup.gl.discUp.reverse).eraseDups.length < 3) ∧
    (ready meas = true ∧ meas.glLink 0 = 3 ∧ (meas.glPort 0).measEnd = some live.tb.c ∧ meas.due live.tb.c = true ∧ 2 ≤ meas.rstate ∧
      meas.gl.broken = 2 ^ meas.glHopOf 0 ∧ meas.flag W_GL GL_STATE_ALIGNHOLD = true ∧ live.glOn = false ∧
      (meas.glNext 0 == 0 && !meas.glAnchor) = false ∧ ((m 2).glNext 0 == 0 && !(m 2).glAnchor) = true) ∧
    (a.glUp 0 = true ∧ (live.put W_GL GL_CTL_ENABLE 1).glUp 1 = false ∧ live.stockSup = false ∧ 2 ≤ a.glLink 0) ∧
    (ready down = true ∧ 2 ≤ down.rstate ∧ down.glLink 0 < 2 ∧ (down.glPort 0).everUp = true ∧ down.flag W_GL (linkBadFld 0) = false ∧
      (down.glPort 0).downAt = some 0 ∧ (down.linkFlt : Int) ≤ signedDiff 96 down.tb.c 0) := by decide

/-- A cell's header of class `cls` from `src` to `dst` with its own CRC (R256). -/
def header (cls tok bc src dst : Nat) : Word64 :=
  let n := 0xa5 + cls * 2 ^ 8 + tok * 2 ^ 12 + bc * 2 ^ 13 + src * 2 ^ 14 + dst * 2 ^ 17
  BitVec.ofNat 64 (n + hcrc n * 2 ^ 56)

/-- Headers with their CRC, a payload of zeros with its own. -/
theorem witness_RingCells :
    let m := member 2 2 7
    let pl := glPayload []
    (cellGood (header GL_TIME 0 0 1 2).toNat pl = true ∧ cellGood 0 pl = false ∧ ready m = true ∧ m.glOn = true ∧ m.glUp 0 = true ∧ m.glUp 1 = true) ∧
    (let h := (header GL_TUNREQ 0 0 1 7).toNat
     cellGood h pl = true ∧ hopLocal h pl = false ∧ hBcast h = false ∧ hDst h ≠ m.glId ∧ hCls h ≠ GL_IDLE) ∧
    (let h := (header GL_IDLE 1 0 1 2).toNat
     cellGood h pl = true ∧ hToken h = true ∧ hCls h = GL_IDLE ∧ hBcast h = false ∧ m.glTokenOf 1 = none) ∧
    (let h := (header GL_FAULT 0 1 1 0).toNat
     cellGood h pl = true ∧ hBcast h = true ∧ hCls h = GL_FAULT ∧ hSrc h ≠ m.glId ∧ m.glFresh h = true) := by decide +kernel

theorem witness_RingTraffic :
    let m := member 2 2 7
    let a := member 2 0 7
    let tun : TunAcc := ⟨1, .pcie, 0x40_0000, 15, none, 0, live.tb.c⟩
    let full := fun (n : Nat) => m.setGl { m.gl with ports := m.gl.ports.map (fun x => { x with bad := List.replicate n m.tb.c }) }
    let cell : GlTx := ⟨1, glHeader GL_TUNRSP false 2 7 0 0 0, glPayload [], true, none⟩
    let ga := (m.put W_GL GL_GANG_GANG 1).put W_HIF HIF_STATE_GANGBAR 1
    (ready m = true ∧ m.glOn = true ∧ m.glUp 0 = true ∧ m.glUp 1 = true ∧ m.formed = true) ∧
    (ready (full 14) = true ∧ (full 14).glLink 0 ≠ 0 ∧ (((full 14).glPort 0).bad.filter (fun c => (full 14).within c msU)).length < 15 ∧
      15 ≤ (((full 15).glPort 0).bad.filter (fun c => (full 15).within c msU)).length ∧ (full 15).glUp 0 = true ∧
      (m.put W_GL (GL_PORTA_LINK.up 0) 1).glUp 0 = false ∧ (m.put W_GL (GL_PORTA_LINK.up 0) 0).glLink 0 = 0) ∧
    (let z := m.setGl { m.gl with tx := [cell], tokens := [none, some (0, 0)] }
     ready z = true ∧ z.glWaiting .control 1 false = some cell ∧ cell.time = none ∧ z.glTokenLeaves 1 = true ∧ m.glTokenLeaves 1 = false) ∧
    (let z := a.setGl { a.gl with tokens := [none, none], tokSeen := [a.tb.c - msU, a.tb.c - msU + 1] }
     ready z = true ∧ z.formed = true ∧ z.glTokenOf 0 = none ∧ z.due ((lget 0 z.gl.tokSeen 0 + msU) % 2 ^ 96) = true ∧
     z.due ((lget 0 z.gl.tokSeen 1 + msU) % 2 ^ 96) = false) ∧
    (let z := a.setGl { a.gl with initAt := some (a.tb.c - msU), rankAt := some (a.tb.c - 10 * msU), okSince := some (a.tb.c - secU), tokens := [some (0, 0), none] }
     ready z = true ∧ z.gl.initAt = some (a.tb.c - msU) ∧ z.due ((a.tb.c - msU + msU) % 2 ^ 96) = true ∧ z.gl.rankAt = some (a.tb.c - 10 * msU) ∧
     z.due ((a.tb.c - 10 * msU + 10 * msU) % 2 ^ 96) = true ∧ z.glTokenOf 0 = some (0, 0) ∧
     z.due ((0 + max 1 (z.get W_GL GL_CFG_TOKMAX) * usU) % 2 ^ 96) = true ∧
     (z.put W_GL GL_STATE_JOINED 1).flag W_GL GL_STATE_JOINED = true ∧ z.gl.okSince = some (a.tb.c - secU) ∧
     (secU : Int) ≤ signedDiff 96 z.tb.c (a.tb.c - secU) ∧ (z.put W_GL GL_CTL_LRANGE 1).flag W_GL GL_CTL_LRANGE = true) ∧
    (ready ga = true ∧ ga.gangTo .pcie 0x40_0000 = .member 1 ∧ ga.glReaches 1 = true ∧ ga.tunCount 1 < 4 ∧ ga.gl.tunWait = [] ∧
      ga.gangTo .pcie 0x140_0000 = .absent 5 ∧
      4 ≤ (ga.setGl { ga.gl with tun := List.replicate 4 tun }).tunCount 1) ∧
    (let z := ga.setGl { ga.gl with tun := [tun], tunWait := [tun] }
     z.gl.tunWait.find? (fun y => decide (z.tunCount y.member < 4)) = some tun ∧ z.gl.tun.find? (fun y => z.due y.due) = some tun) := by decide +kernel

theorem witness_LoaderAndEngineCommands :
    let s := fun (l : LdrSt) (st : EngSt) => (live.setLdr l).modEng 5 (fun x => { x with st := st })
    let idle : LdrSt := ⟨.idle, 0, false, 0, 0, none⟩
    (ready (s idle .idle) = true ∧ (s idle .idle).ldr.phase = .idle ∧ 10 < bitsOf (0xb0 : Word).toNat 4 4 ∧ bitsOf (0xa0 : Word).toNat 4 4 ≤ 10) ∧
    ((s ⟨.check, 9, false, 2, 4, none⟩ .idle).ldrVerdict.1.toOption = none ∧ (s ⟨.check, 9, false, 2, 0, none⟩ .idle).ldrVerdict.1.toOption = none ∧
      0 ≠ profileOf 9 ∧ live.sys.phase ≠ .loading ∧ (s ⟨.check, 9, false, 2, profileOf 9, none⟩ .idle).ldrVerdict.1.toOption.isSome = true) ∧
    (ready (s ⟨.wait, 5, false, 0, 0, none⟩ .idle) = true ∧ ((s ⟨.wait, 5, false, 0, 0, none⟩ .idle).eng 5).st = .idle) ∧
    ((s idle .halted).loading 5 = false ∧ ((s idle .halted).eng 5).st ≠ .empty ∧ ((s idle .empty).eng 5).st = .empty) := by decide

/-- The copy of an image of two instructions and one word, to engine 10. -/
theorem witness_LoadCopyComplete :
    let img : Image := ⟨0, List.replicate 8 3, [1, 2, 3, 4], [(0, 0)], [], [], 7, 9, 100, false, none⟩
    let s := live.setLdr ⟨.copy, 10, false, 0, 0, some img⟩
    ready s = true ∧ s.ldr.img = some img ∧ s.ldr.phase = .copy ∧ s.sys.phase ≠ .loading ∧ s.ldr.target ≤ 10 ∧
    img.code.length ≤ engMemSize 10 ∧ img.data.length ≤ engMemSize 10 := by decide

theorem witness_HostDoors :
    let i2c := live.put W_HIF HIF_CTL_I2CEN 1
    let spi := live.put W_HIF HIF_CTL_SPIEN 1
    let txn := fun (rnw : Bool) => spi.setHif { spi.hif with spi := some ⟨rnw, true, false, false, 0x7f_fffc⟩ }
    let full := spi.setHif { spi.hif with spiBuf := List.replicate 8 ⟨true, false, 0, 1⟩, perst := true }
    (ok live = true ∧ live.sys.soft = false ∧ 0x10_0000 % 4 = 0 ∧ live.gangTo .pcie 0x10_0000 = .own ∧ live.ecc = [] ∧
      live.hif.perst = false ∧ bitOf live.hif.aer 31 = false ∧ bitOf (live.setHif { live.hif with aer := 2 ^ 31 }).hif.aer 31 = true) ∧
    (spi.spiOn = true ∧ (spi.put W_HIF HIF_CTL_SPIEN 0).spiOn = false ∧ (txn true).spiOn = true ∧ (txn true).hif.spiBuf = [] ∧
      (txn true).spiWaits = false ∧ 0x7f_fffc % 4 = 0 ∧ 0x7f_fffc < sramSize) ∧
    (8 ≤ full.hif.spiBuf.length ∧ full.hif.spiBuf.head? = some ⟨true, false, 0, 1⟩ ∧ full.spiWaits = false ∧ full.hif.perst = true) ∧
    (i2c.i2cOn = true ∧ (i2c.put W_HIF HIF_CTL_I2CEN 0).i2cOn = false) := by decide

theorem witness_QueuesRingsAndEvents :
    let off := live.put W_DMA (DMA_QCFG_DEPTH.up (qOff 63)) 4
    let on := off.put W_DMA (DMA_QCTL_ENABLE.up (qOff 63)) 1
    let ring := ((on.put W_DMA (DMA_R_CFG_SIZE.up (ringOff 63)) 12).put W_DMA (DMA_QCFG_CONS.up (qOff 63)) 1).put W_DMA DMA_CTL_ENABLE 1
    let run := ((((ring.put W_DMA (DMA_R_CTL_ENABLE.up (ringOff 63)) 1).put W_HIF HIF_STATE_LINKUP 1).put W_HIF HIF_STATE_BME 1).modQueue 63
      (fun q => { q with fill := 3, drain := some live.tb.c })).modRing 63 (fun x => { x with oldest := some 0 })
    let h2d := ((run.put W_DMA (DMA_R_CFG_DIR.up (ringOff 63)) 1).put W_DMA (DMA_R_HIDX_V.up (ringOff 63)) 5)
    (ready off = true ∧ off.qEnabled 63 = false ∧ off.qEnableRefused 63 = false ∧ live.qEnableRefused 63 = true ∧ off.qStallRefused 63 = false ∧
      (off.put W_DMA (DMA_QCFG_CONS.up (qOff 63)) 3 |>.put W_DMA (DMA_QCFG_CONSID.up (qOff 63)) 2).qStallRefused 63 = true) ∧
    (ready on = true ∧ on.qEnabled 63 = true ∧ on.ringEnabled 63 = false ∧ (on.queue 63).drain = none) ∧
    (ready ring = true ∧ ring.ringEnableRefused 63 = false ∧ on.ringEnableRefused 63 = true) ∧
    (ready run = true ∧ run.ringEnabled 63 = true ∧ (run.ring 63).err = false ∧ run.ringMoves 63 false = true ∧ (run.queue 63).fill ≠ 0 ∧
      (run.didx 63 + 1) % run.ringN 63 ≠ run.hidx 63 ∧ run.ringN 63 = 128 ∧ run.ecc = [] ∧ (run.queue 63).drain = some live.tb.c ∧
      run.due live.tb.c = true ∧ (run.queue 63).fired = false ∧ (run.ring 63).oldest = some 0 ∧
      (let t := run.put W_DMA (DMA_R_CTL_TIME.up (ringOff 63)) 5
       t.rGet 63 DMA_R_CTL_TIME ≠ 0 ∧ t.due ((0 + 5 * usU) % 2 ^ 96) = true)) ∧
    (h2d.ringMoves 63 true = true ∧ h2d.didx 63 ≠ h2d.hidx 63 ∧ h2d.qFull 63 = false) ∧
    (let z := live.setHif { live.hif with pba := List.replicate 64 true, funcMask := false, vecMask := List.replicate 64 false }
     lget false z.hif.pba 63 = true ∧ z.hif.funcMask = false ∧ lget true z.hif.vecMask 63 = false) := by decide

theorem witness_FaultPath :
    let m : FaultMsg := ⟨W_TB, K_TB_DUP, 4, false⟩
    let s := fun (st : FltState) (esc : Option Nat) => live.setFlt { live.flt with st := st, msgs := [m], esc := esc, pulse := some live.tb.c }
    let inj := fun (k : Nat) => ((((queued (live.put W_FLT FLT_CTL_INJEN 1) 3 1 0).modQueue 3 (fun q => { q with fill := 1 })).put W_DMA
      (DMA_QCFG_CONS.up (qOff 3)) 3).put W_DMA (DMA_QCFG_CONSID.up (qOff 3)) W_FLT).setMem [⟨SRAM + 1, BitVec.ofNat 8 k⟩]
    (ready (s .idle none) = true ∧ (s .idle none).flt.msgs[0]? = some m ∧ (s .latched none).flt.st ≠ .idle) ∧
    ((s .idle none).flt.pulse = some live.tb.c ∧ live.due live.tb.c = true ∧ live.due (live.tb.c + 1) = false) ∧
    (ready (s .latched (some live.tb.c)) = true ∧ (s .latched (some live.tb.c)).flt.esc = some live.tb.c ∧ (0 : Word).toNat % 256 = (s .latched none).get W_FLT FLT_STATUS_SEQ ∧
      (0 : Word).toNat / 2 ^ 24 = (s .safe none).get W_FLT FLT_STATUS_SEQ) ∧
    ((s .safe none).causePresent = false ∧
      (let z := (s .latched none).wr W_FLT FLT_REC_W2 (K_FAULT_IN * 256)
       (z.setFlt { z.flt with finLow := true }).causePresent = true)) ∧
    (ready (inj K_TB_DUP) = true ∧ (inj 0).flag W_FLT FLT_CTL_INJEN = true ∧ (inj 0).qEnabled 3 = true ∧ (inj 0).qEmpty 3 = false ∧ (inj 0).qCons 3 = 3 ∧
      (inj 0).qConsId 3 = W_FLT ∧ (inj 0).get W_FLT FLT_CTL_INJQ = 3 ∧ faultKinds.contains (bitsOf ((inj K_TB_DUP).qPop 3).1.toNat 8 8) = true ∧
      faultKinds.contains (bitsOf ((inj 7).qPop 3).1.toNat 8 8) = false) := by decide

/-! ## Witnesses: calibration, health, NV storage, power and reset (O57 to O60) -/

/-- A uniform linearisation of the instance 37, in the background and as CALSEQ's step 1; a missing code fails check 1. -/
theorem witness_CalibrationTdc :
    let flat := List.replicate 2048 2048
    let hole := 0 :: 4096 :: List.replicate 2046 2048
    let s := (live.put W_CAL CAL_CTL_BGEN 1).put W_CAL CAL_CTL_TDCEN 1
    let f := ((live.put W_CAL CAL_STATE_SEQST 1).put W_CAL CAL_STATE_INSERV 0).setCal { live.cal with todoT := 2 ^ 20 }
    (ready s = true ∧ s.par = [] ∧ s.seqSt ≠ 1 ∧ s.flag W_CAL CAL_CTL_BGEN = true ∧ s.flag W_CAL CAL_CTL_TDCEN = true ∧
      s.since (lget none s.cal.tdcAt 37) s.tdcInt = true ∧ s.filled.length < 2) ∧
    (flat.length = 2048 ∧ flat.foldl (· + ·) 0 = 2 ^ 22 ∧ s.tdcFails flat (tdcKnots flat (2 ^ 22)) (2 ^ 22) = none ∧
      hole.length = 2048 ∧ hole.foldl (· + ·) 0 = 2 ^ 22 ∧ (s.tdcFails hole (tdcKnots hole (2 ^ 22)) (2 ^ 22)).isSome = true) ∧
    (ready f = true ∧ f.seqSt = 1 ∧ f.inServ = false ∧ bitOf f.cal.todoT 20 = true ∧ f.tdcOn 20 = false ∧
      (f.put (W_SRC + 20) SRC_EN_ENABLE 1).tdcOn 20 = true ∧ (List.replicate 2048 8192).foldl (· + ·) 0 = 2 ^ 24 ∧
      f.tdcFails (List.replicate 2048 8192) (tdcKnots (List.replicate 2048 8192) (2 ^ 24)) (2 ^ 24) = none) := by decide +kernel

theorem witness_Calibration :
    let bg := ((live.put W_CAL CAL_CTL_BGEN 1).put W_CAL CAL_CTL_FDRIFTEN 1).setCal { live.cal with formT := 32768 }
    let ch := ((running 39).put W_CAL CAL_CTL_BGEN 1).put W_CAL CAL_CTL_FDRIFTEN 1
    let q := fun (st todoO : Nat) => (live.put W_CAL CAL_STATE_SEQST st).setCal { live.cal with todoT := 0, todoO := todoO, noCommit := true }
    let delays := (List.range 768).map (fun k => k * 100)
    let commit := (q 6 0).setNv { live.nv with job := some ⟨.commit, [], 0⟩ }
    (ready bg = true ∧ bg.par = [] ∧ 32768 ≤ (bg.tdie - bg.cal.formT).natAbs ∧ bg.since (some bg.cal.formAt) (100 * msU) = true) ∧
    (ready ch = true ∧ ch.rangeRuns 39 = true ∧ ch.rangeRefused 39 = false ∧ ch.since (lget none ch.cal.fcalAt 39) ch.fretInt = true ∧
      ch.echoComp 39 = false ∧ ch.fcal 39 = 0 ∧
      ((ch.put W_SYNC (SYNC_ECFG_EN.up (0x10 * 39)) 1).put W_SYNC SYNC_ECTL_APPLY 1).echoComp 39 = true) ∧
    (live.seqSt = 0 ∧ ready (q 1 0) = true ∧ (q 2 (2 ^ 39)).cal.todoO = 2 ^ 39 ∧ (q 2 0).inServ = false ∧ (q 5 0).cal.noCommit = true ∧
      (live.put W_CAL CAL_STATE_SEQST 5).cal.noCommit = false ∧ commit.seqSt = 6 ∧ (commit.nv.job.map (fun j => j.user)) = some .commit ∧
      live.fretFails delays (fretKnots delays) = none ∧ (live.fretFails [] (fretKnots [])).isSome = true) ∧
    (live.tptsBad 1 0xffffffff = true ∧ live.tptsBad 1 (live.rn W_CAL CAL_TPTS1) = false ∧ live.latched .pcie W_CAL CAL_TDATA = none ∧
      (live.put W_CAL CAL_TIDX_POINT 9).get W_CAL CAL_TIDX_POINT = 9 ∧ live.get W_CAL CAL_TIDX_ENTRY < calEntries 0 ∧ live.tdcOn 0 = false) := by
  decide +kernel

theorem witness_Health :
    let due := (live.put W_HLTH HLTH_CTL_AGEEN 1).setHlth { live.hlth with ageNow := true, r0 := List.replicate 24 (some 1000000) }
    let cold := (live.put W_HLTH HLTH_CTL_AGEEN 0).setHlth { live.hlth with ageNow := false }
    let step := live.setSys { live.sys with vstPlan := 3, vstAt := none }
    let hot := List.replicate 8 (9000000 : Int)
    (ready due = true ∧ due.par = [] ∧ due.guarded W_HLTH HLTH_PLAN = false ∧ due.hlth.ageNow = true ∧ cold.hlth.ageNow = false ∧
      cold.flag W_HLTH HLTH_CTL_AGEEN = false ∧ lget none (due.setHlth { due.hlth with r0 := [] }).hlth.r0 23 = none) ∧
    (bitsOf (0xfc00ff : Word).toNat 10 2 = 0 ∧ (0xcff : Word).getLsbD 10 = true ∧ (0xcff : Word).getLsbD 11 = true ∧
      live.get W_CAL CAL_LIMAGE_VSTMAX < (0xcff : Word).toNat % 2 ^ 8 ∧ live.apllOn 1 = false) ∧
    (ready step = true ∧ step.get W_PWR PWR_STATE_VSTOFS < step.sys.vstPlan ∧
      step.since step.sys.vstAt (if step.sys.vstFirst then msU else 3600 * secU) = true) ∧
    (hot.length = 8 ∧ live.gridDue (10 * msU) live.hlth.tempIdx = true ∧ live.tlim PWR_TLIM_TFLT < quotFree (hot.foldl (· + ·) 0) 8 ∧
      (live.setHlth { live.hlth with beyond := true }).hlth.beyond = true ∧ live.flag W_PWR PWR_STATE_TEMPBAD = false) ∧
    (inReach .pcie false (regAddr W_HLTH HLTH_LIFEDATA) = true ∧ live.latched .pcie W_HLTH HLTH_LIFEDATA = none ∧
      (live.setTb { live.tb with c := 3600 * secU }).gridDue (3600 * secU) live.hlth.hourIdx = true ∧
      (live.put W_HLTH HLTH_CTL_LIFEEN 1).flag W_HLTH HLTH_CTL_LIFEEN = true) := by decide +kernel

theorem witness_Storage :
    let cmd := fun (a len m : Nat) => ((live.wr W_NVS NVS_ADDR a).wr W_NVS NVS_LEN len).wr W_NVS NVS_SRAM m
    let s := (cmd 0x40 64 0x100).put W_GUARD GUARD_LOCK_NVKEY 0
    let key := (s.setNv { s.nv with pwds := List.replicate 10 5 })
    let busy := s.put W_NVS NVS_STATE_BUSY 1
    let work := s.setNv { s.nv with job := some ⟨.cmd (s.nvCmdOf 1 0 0), [], 0⟩ }
    let waits := s.setNv { s.nv with wait := [.cmd (s.nvCmdOf 1 0 0)] }
    let scan := fun (i : Nat) => s.setNv { s.nv with scanAt := some i }
    let no := fun (z : State) (k : Nat) => z.nvRefuse (z.nvCmdOf k 0 0)
    (ready s = true ∧ s.ecc = [] ∧ s.nv.job = none ∧ s.nv.wait = [] ∧ s.nvBusy = false ∧ s.flag W_GUARD GUARD_LOCK_NVKEY = false ∧ s.nv.bad = [] ∧
      s.pwrHold = false ∧ (no s 1, no s 2, no s 3, no s 4) = (0, 0, 0, 0)) ∧
    (s.nvLocked 4 = false ∧ s.nvPwd 4 1 = 0 ∧ key.nvPwd 4 1 = 5 ∧ s.nvClosed 4 1 = false ∧ key.nvAttempts 4 < 8 ∧
      (no (cmd 0x40 65 0) 1 = 1 ∧ no key 1 ≠ 0 ∧ no key 2 ≠ 0)) ∧
    (busy.nvBusy = true ∧ work.nv.job ≠ none ∧ (work.nv.job.any (fun j => j.user == .commit || j.user == .loader)) = false ∧
      (waits.nv.wait.head?.map NvUser.internal) = some false) ∧
    (ready (scan 32767) = true ∧ (scan 32767).nv.scanAt = some 32767 ∧ (scan 32767).nv.sched = [] ∧ (scan 0).nv.bad = []) ∧
    ((s.slotValid 63).all (fun x => decide (x.2.2 < 2 ^ 32 - 1)) = true ∧ s.nvLocked 2 = false) := by decide +kernel

theorem witness_PowerAndReset :
    let at_ := fun (p : BootPhase) (low : Bool) => State.reset.setSys { State.reset.sys with phase := p, vinOn := true, rstLow := low }
    let job := live.setNv { live.nv with job := some ⟨.slotPut 0 5, [(0, [1])], 0⟩ }
    (ok (at_ .rails false) = true ∧ State.reset.sys.vinOn = false ∧ (at_ .rails false).sys.phase = .rails ∧ (at_ .rails false).sys.thermal = false ∧
      State.reset.dirCopy = none ∧ State.reset.flag W_SYS SYS_BOOTSRC_OVR = false) ∧
    ((at_ .held true).sys.rstLow = true ∧ (at_ .released false).sys.phase = .released ∧ (at_ .released false).tb.running = false ∧
      bitOf (at_ .released false).bootSettings 0 = false ∧ (at_ .released false).get W_SYS SYS_STATE_SRCUSED ≠ 2 ∧
      ((at_ .released false).put W_SYS SYS_STATE_SRCUSED 2).get W_SYS SYS_STATE_SRCUSED = 2) ∧
    (ok live = true ∧ live.sys.soft = false ∧ live.released = true ∧ live.sys.conds.contains 6 = false ∧ live.sys.armed = false ∧
      State.reset.released = false) ∧
    (ok job = true ∧ job.nv.job.isSome = true ∧ job.nv.wait = [] ∧ (live.setSys { live.sys with thermal := true }).sys.thermal = true) ∧
    (ok booted = true ∧ inReach .pcie true (regAddr W_SYS SYS_SOFTRST) = true ∧ booted.get W_SYS SYS_STATE_BOOTST = 1 ∧
      bitOf booted.bootSettings 0 = false ∧ booted.nv.job = none ∧ inReach .pcie true (regAddr W_SYS SYS_BLKRST) = true ∧
      winBlock (wSrc 20) ≠ none ∧ (0x10 ≤ wSrc 20 ∧ wSrc 20 < 0x25) ∧ booted.keepsReg (wSrc 20) SRC_CFG = false) := by decide +kernel

/-! ## Single commands, with the numbers of the spec's worked examples and of its rules -/

/-- A value of the state that a command leaves. -/
def got {α : Type} (c : Instr) (s : State) (f : State → α) : Option α :=
  match exec c s with
  | .next t => some (f t)
  | _ => none

/-- R11, worked example: OUT5_FRET. -/
theorem test_address : regAddr (wOut 5) OUT_FRET = 0xc4024 := by decide +kernel

/-- Chapter 12, the step on LP0: w10, w20, w4 as given, then w4 × w21 (here in w1 to w3). -/
theorem test_macq : got (.macq 1 1 2 3 32) (busy 1 0 (withW 645636030464 4294967 (-118179) 0)) (fun t => (t.eng 1).rw 1) =
    some 645636030346 := by decide +kernel
theorem test_mulq : got (.mulq 1 4 1 2 32) (busy 1 0 (withW 4294967 (-142488) 0 0)) (fun t => ((t.eng 1).rw 4).toInt) = some (-142) := by
  decide
theorem test_sari : got (.sari 1 2 1 16) (busy 1 0 (withW 645636030346 0 0 0)) (fun t => (t.eng 1).rw 2) = some 9851623 := by decide +kernel
theorem test_adds : got (.adds 1 3 1 2) (busy 1 0 (withW 9851623 (-142) 0 0)) (fun t => (t.eng 1).rw 3) = some 9851481 := by decide +kernel
/-- The word is committed by the write of DCOW_HI and shows as the pair. -/
theorem test_dcow : got (.dcowCommit (.eng 1) 0 0) (live.setAcc { live.acc with staged := [(.eng 1, regAddr (wDpll 0) DPLL_DCOW_LO, 0x00965259)] })
    (fun t => t.pair (wDpll 0) DPLL_DCOW_LO) = some 9851481 := by decide +kernel

/-- R288: 2^64 - 1 + 1: zero, a carry, no overflow; and the most positive number plus one: an overflow, no carry. -/
theorem test_add_wraps : got (.add 0 3 1 2) (busy 0 0 (withW (2 ^ 64 - 1) 1 0 0))
    (fun t => ((t.eng 0).rw 3, (t.eng 0).flags.z, (t.eng 0).flags.c, (t.eng 0).flags.v)) = some (0, true, true, false) := by decide +kernel
theorem test_add_overflows : got (.add 0 1 1 2) (busy 0 0 (withW (2 ^ 63 - 1) 1 0 0))
    (fun t => ((t.eng 0).flags.n, (t.eng 0).flags.c, (t.eng 0).flags.v)) = some (true, false, true) := by decide +kernel
/-- R288: a subtraction leaves C set when no borrow was needed. -/
theorem test_cmp_borrow : got (.cmp 0 1 2) (busy 0 0 (withW 1 2 0 0)) (fun t => ((t.eng 0).flags.c, (t.eng 0).flags.n)) =
    some (false, true) := by decide +kernel

/-- Chapter 9, worked example: -2.5 s, written as three words, as a granted step, and its effect: the epoch from 7 to 8. -/
theorem test_step_grant : got (.tbStepCommand .pcie 0xffffffff)
    (live.setAcc { live.acc with staged := [(.pcie, regAddr W_TB TB_STEP_W0, 0x07000000), (.pcie, regAddr W_TB TB_STEP_W1, 0xffff6afd)] })
    (fun t => t.tb.changes) = some [.step (-163840000000000)] := by decide +kernel
theorem test_step_effect : got .tbStepEffect (live.setTb { live.tb with
      changes := [.step (-163840000000000)], backarm := some (live.tb.c + 1), epoch := 7 })
    (fun t => (t.now, t.tb.epoch, t.tb.backarm)) = some (5 * secU - 163840000000000, 8, none) := by decide +kernel

/-- Chapter 16, worked example: the record of APLLA's lost lock, 1,000.0000105 s, sequence 1. -/
theorem test_fault_record : got (.faultMessage 0) ((live.setTb { live.tb with t := 0xe8d4a539040000 * 2 ^ 32 }).setFlt
      { live.flt with msgs := [⟨wApll 0, K_APLL_LOL, regAddr (wApll 0) APLL_STATE, false⟩] })
    (fun t => [t.rn W_FLT FLT_REC_W0, t.rn W_FLT FLT_REC_W1, t.rn W_FLT FLT_REC_W2, t.rn W_FLT FLT_REC_W3]) =
    some [0x39040000, 0x00e8d4a5, 0x00011026, 0x00098018] := by decide +kernel

/-- Chapter 17, worked example: OUT12's knots at 35, 47.5 °C, and the tap of FRET 122. -/
theorem test_fret_tap : tapOf [0, 184, 368, 552, 740, 924] 122 = 159 ∧ tapOf [0, 190, 379, 569, 762, 952] 122 = 154 := by decide +kernel
theorem test_interpolation :
    let s := (live.wr W_CAL CAL_TFILL 0x18).setCal { live.cal with trims := [(trimKey 3 1 12 3, 552), (trimKey 4 1 12 3, 586), (trimKey 3 1 12 4, 740), (trimKey 4 1 12 4, 784)] }
    (s.tpt 3, s.tpt 4) = (35, 60) ∧ s.interpKnot 1 12 3 (47 * 65536 + 32768) = 569 ∧ s.interpKnot 1 12 4 (47 * 65536 + 32768) = 762 := by decide +kernel

/-- R370: a locked register refuses a write with LOCKED and keeps its value. -/
theorem test_guarded_write : got (.registerWrite .pcie (regAddr W_PWR PWR_TRIM) 15 5) (live.wr W_GUARD GUARD_LOCK 4)
    (fun t => (t.rn W_PWR PWR_TRIM, t.out)) = some (0, [.answer .pcie (regAddr W_PWR PWR_TRIM) .locked 5]) := by decide +kernel
/-- R199: 0xB4C5 and nothing else arms a backward step. -/
theorem test_backen : got (.tbBackenWrite .pcie 0xb4c4) live (fun t => t.tb.backarm) = some none := by decide +kernel
/-- R336: an entry put comes out again. -/
theorem test_qput_qget : (got (.qput 0 4 5 false) ((queued (busy 0 0 (fun x => { withW 1 2 3 4 x with
      queues := [⟨5, true, true, 8⟩], w := [0, 0, 0, 0, 11, 22, 33, 44] ++ List.replicate 24 0 })) 5 4 0)) (fun t => t)).bind
    (fun t => got (.qget 0 8 5 false) t (fun u => ((u.eng 0).rw 8, (u.eng 0).rw 11, (u.queue 5).fill))) = some (11, 44, 0) := by decide +kernel

end Sys2Proof.Tests
end

/-!
PROOF. A late block answer (R25) does all that the abandoned write would have done. ETH_CTL counts as a `plainReg`, yet
clearing its ENABLE powers the port down (R251), which clears ETH_STATE as well.
-/

namespace Sys2Proof.Machine

/-- A command completes in one next state only, of which all that is said of it holds together. -/
theorem State.To.and {s : State} {i : Instr} {P Q : State → Prop} (hp : s.To i P) (hq : s.To i Q) : ∃ t, P t ∧ Q t := by
  obtain ⟨t, ht, pt⟩ := hp
  obtain ⟨u, hu, qu⟩ := hq
  rw [ht] at hu
  cases hu
  exact ⟨t, pt, qu⟩

/-- The clocks run, C is 5 s, ETH0 is enabled with its link up, and a PCIe write of 0 to ETH0_CTL has been abandoned. -/
def portDownAbandoned : State :=
  let clocked := State.reset.setTb { State.reset.tb with running := true, c := 65536 * 5000000000 }
  ((clocked.wr W_ETH ETH_CTL 1).wr W_ETH ETH_STATE 1).setAcc
    { State.reset.acc with abandoned := [⟨.pcie, regAddr W_ETH ETH_CTL, 0⟩] }

theorem portDownAbandoned_ready : portDownAbandoned.Ready := by
  unfold State.Ready State.Inv State.Sized TbSt.Ok Eng.Ok
  decide

/-- Nothing stands in the way of the write: ETH0_CTL is a RUN register without a guard lock. -/
theorem portDownAbandoned_takes : portDownAbandoned.Takes .pcie W_ETH ETH_CTL 0 := by
  refine ⟨rfl, by decide, rfl, ?_, rfl⟩
  intro row hrow hcfg
  have hrun : (regRow W_ETH ETH_CTL).map (·.cls) = some .run := rfl
  rw [hrow] at hrun
  simp [hcfg] at hrun

theorem portDownAbandoned_link : portDownAbandoned.rd W_ETH ETH_STATE = 1 := by decide

/-- The late answer powers the port down: its LINK falls with the write of ETH0_CTL. -/
theorem portDownAbandoned_lateAnswer :
    portDownAbandoned.To (.lateBlockAnswer 0) fun t => t.rd W_ETH ETH_STATE = 0 :=
  ⟨_, rfl, by decide⟩

/-- Refutes O24: the clause of the late answer says that no register but the one written changes. With ETH0 enabled and its
link up, an abandoned write of 0 to ETH0_CTL that is carried out late also takes ETH0_STATE from 1 to 0. -/
theorem not_timeouts : ¬ Obligations.Timeouts := by
  unfold Obligations.Timeouts
  intro h
  obtain ⟨-, late, -⟩ := h portDownAbandoned .pcie .pcie 0 W_ETH ETH_CTL 0 0 0 0 [] portDownAbandoned_ready
  have frame := late rfl portDownAbandoned_takes rfl
  obtain ⟨t, ⟨-, -, others⟩, cleared⟩ := frame.and portDownAbandoned_lateAnswer
  have kept : t.rd W_ETH ETH_STATE = portDownAbandoned.rd W_ETH ETH_STATE := others _ _ (by decide) (by decide)
  rw [cleared, portDownAbandoned_link] at kept
  exact absurd kept (by decide)

end Sys2Proof.Machine

/-!
PROOF. Events and source registers: what raising an event leaves pending (R346), and what of a source a register write, an
engine event and an update of its record leave.
-/

namespace Sys2Proof.Machine

/-! ### Bits -/

theorem bitOf_eq_testBit (v b : Nat) : bitOf v b = v.testBit b := Nat.testBit_eq_decide_div_mod_eq.symm

theorem bitOf_toNat (v : Word) (b : Nat) : bitOf v.toNat b = v.getLsbD b := by
  rw [bitOf_eq_testBit, BitVec.testBit_toNat]

/-- A bit beside the field written stays. -/
theorem bitOf_putBits_other (v l w x b : Nat) (h : b < l ∨ l + w ≤ b) : bitOf (putBits v l w x) b = bitOf v b := by
  have out : ¬ (l ≤ b ∧ b < l + w) := by omega
  rw [bitOf_eq_testBit, bitOf_eq_testBit, putBits_testBit, if_neg out]

theorem bitOf_putBits_one (v b x : Nat) : bitOf (putBits v b 1 x) b = bitOf x 0 := by
  rw [bitOf_eq_testBit, bitOf_eq_testBit, putBits_testBit, if_pos (by omega), Nat.sub_self]

/-- A field of a register within the field's own range. -/
theorem bitsOf_lt (v l w : Nat) : bitsOf v l w < 2 ^ w := Nat.mod_lt _ (Nat.two_pow_pos w)

/-! ### Pending events (R346) -/

variable {s t : State}

/-- A write outside EVT leaves what is pending. -/
theorem State.wr_evPending (w off v e : Nat) (hw : w ≠ W_EVT) (ho : off < 0x4000) (he : e < 512) :
    (s.wr w off v).evPending e = s.evPending e := by
  unfold State.evPending
  rw [State.rn_wr_other s w off v _ _ (regAddr_ne ho (by unfold EVT_PEND; omega) (.inl hw))]

/-- A merged event is counted among the engines' registers. -/
theorem State.engPend_rn (k e : Nat) (arg : Word64) (w off : Nat) (hw : w < W_ENG) (ho : off < 0x4000) :
    (s.engPend k e arg).rn w off = s.rn w off := by
  unfold State.engPend
  split
  · refine State.rn_count_other s _ _ _ _ _ (regAddr_ne (by decide) ho (.inl ?_))
    omega
  · rfl

theorem State.engPend_get (k e : Nat) (arg : Word64) (w : Nat) (f : Fld) (hw : w < W_ENG) (ho : f.off < 0x4000) :
    (s.engPend k e arg).get w f = s.get w f := by
  unfold State.get
  rw [State.engPend_rn k e arg w f.off hw ho]

theorem State.engPend_evPending (k e : Nat) (arg : Word64) (n : Nat) (hn : n < 512) :
    (s.engPend k e arg).evPending n = s.evPending n := by
  unfold State.evPending
  rw [State.engPend_rn k e arg _ _ (by decide) (by unfold EVT_PEND; omega)]

/-- What an event at an engine leaves of whatever reads neither the registers, the parities nor the engines. -/
theorem State.engPend_proj {α : Type} (p : State → α) (hw : ∀ (t : State) w off v, p (t.wr w off v) = p t)
    (he : ∀ (t : State) k f, p (t.modEng k f) = p t) (k e : Nat) (arg : Word64) : p (s.engPend k e arg) = p s := by
  unfold State.engPend
  split
  · exact hw _ _ _ _
  · exact he _ _ _

theorem State.msixSend_rn (v w off : Nat) : (s.msixSend v).rn w off = s.rn w off := by
  unfold State.msixSend
  split
  · rfl
  · split <;> rfl

/-- Beside its own bit of EVT_PEND an event changes no register below the engines'. -/
theorem State.raise_rn_pend (g b w off : Nat) (hw : w < W_ENG) (ho : off < 0x4000) :
    (s.raise g b).rn w off =
      (s.wr W_EVT (EVT_PEND + 4 * (evNo g b / 32)) (s.rn W_EVT (EVT_PEND + 4 * (evNo g b / 32)) ||| 2 ^ (evNo g b % 32))).rn w off := by
  unfold State.raise State.raiseNo
  dsimp only
  refine List.foldlRecOn (motive := fun u => State.rn u w off = _) _ _ ?_ (fun u hu ki _ => ?_)
  · split
    · rw [State.msixSend_rn, State.setHif_rn]
    · rfl
  · rw [State.engPend_rn _ _ _ w off hw ho, hu]

/-- R346: raising an event makes it pending and leaves every other as it was. -/
theorem State.raise_evPending (hs : s.Canon) (g b e : Nat) (hg : evNo g b < 512) (he : e < 512) :
    (s.raise g b).evPending e = (decide (e = evNo g b) || s.evPending e) := by
  have hr : evNo g b % 32 < 32 := Nat.mod_lt _ (by decide)
  unfold State.evPending
  rw [State.raise_rn_pend g b _ _ (by decide) (by unfold EVT_PEND; omega)]
  by_cases hword : e / 32 = evNo g b / 32
  · have hlt : s.rn W_EVT (EVT_PEND + 4 * (evNo g b / 32)) ||| 2 ^ (evNo g b % 32) < 2 ^ 32 :=
      Nat.or_lt_two_pow (State.rn_lt s _ _) (Nat.pow_lt_pow_right (by decide) hr)
    have hbit : evNo g b % 32 = e % 32 ↔ e = evNo g b := by omega
    rw [hword, State.rn_wr_same s hs, Nat.mod_eq_of_lt hlt, bitOf_eq_testBit, bitOf_eq_testBit, Nat.testBit_or,
      Nat.testBit_two_pow, Bool.or_comm]
    simp only [hbit]
  · have hne : e ≠ evNo g b := fun h => hword (by rw [h])
    rw [State.rn_wr_other s _ _ _ _ _ (regAddr_ne (by unfold EVT_PEND; omega) (by unfold EVT_PEND; omega) (.inr (by omega)))]
    simp [hne]

/-! ### A source's window and record -/

theorem wSrc_lt (n : Src) : wSrc n < W_ENG := by unfold wSrc W_SRC W_ENG; omega
theorem wSrc_ne_evt (n : Src) : wSrc n ≠ W_EVT := by unfold wSrc W_SRC W_EVT; omega

/-- Two registers of a source's window. -/
theorem regAddr_src_ne (m : Nat) {off off' : Nat} (h : off < 0x4000) (h' : off' < 0x4000) (hne : off ≠ off') :
    regAddr (wSrc m) off ≠ regAddr (wSrc m) off' := regAddr_ne h h' (.inr hne)

/-- The events of source `n` (R51) are among those of EVT. -/
theorem evNo_src_lt (n : Src) (e : Nat) (he : e < 5) : evNo (1 + n / 6) (5 * (n % 6) + e) < 512 := by
  unfold evNo
  omega

theorem State.Inv.srcs_length (h : s.Inv) : s.srcs.length = 21 := h.2.2.1.2.2.1

theorem State.Inv.modSrc (h : s.Inv) (m : Nat) (f : SrcSt → SrcSt) : (s.modSrc m f).Inv :=
  State.keeps_inv h (State.modSrc_keeps (State.keeps_refl s) m f)

/-- Source `n` after an update of a source's record. -/
theorem State.modSrc_src (h : s.Inv) (m : Nat) (n : Src) (f : SrcSt → SrcSt) :
    (s.modSrc m f).src n = if n.val = m then f (s.src n) else s.src n := by
  have hl := h.srcs_length
  unfold State.src State.modSrc
  rw [lget_lmod]
  by_cases e : n.val = m
  · subst e
    simp [hl]
  · simp [e]

theorem State.modSrc_src_same (h : s.Inv) (n : Src) (f : SrcSt → SrcSt) : (s.modSrc n f).src n = f (s.src n) := by
  rw [State.modSrc_src h, if_pos rfl]

@[simp] theorem State.modSrc_qstate (m n : Nat) (f : SrcSt → SrcSt) : (s.modSrc m f).qstate n = s.qstate n := rfl
@[simp] theorem State.modSrc_evPending (m e : Nat) (f : SrcSt → SrcSt) : (s.modSrc m f).evPending e = s.evPending e := rfl
@[simp] theorem State.emit_qstate (o : Output) (n : Nat) : (s.emit o).qstate n = s.qstate n := rfl
@[simp] theorem State.emit_src (o : Output) (n : Nat) : (s.emit o).src n = s.src n := rfl
@[simp] theorem State.emit_evPending (o : Output) (e : Nat) : (s.emit o).evPending e = s.evPending e := rfl

/-- A write of another register of the window leaves the source's state. -/
theorem State.wr_qstate (m : Nat) {off : Nat} (v : Nat) (h : off < 0x4000) (hne : off ≠ SRC_STATE) :
    (s.wr (wSrc m) off v).qstate m = s.qstate m :=
  State.get_wr_other s _ _ _ _ _ (regAddr_src_ne m h (by decide) hne)

theorem State.srcEvent_get (n : Src) (e : Nat) (he : e < 5) (f : Fld) (ho : f.off < 0x4000) :
    (s.srcEvent n e).get (wSrc n) f = s.get (wSrc n) f :=
  State.raise_get s _ _ _ _ (evNo_src_lt n e he) (wSrc_lt n) (wSrc_ne_evt n) ho

theorem State.srcEvent_evPending (h : s.Canon) (n : Src) (e : Nat) (he : e < 5) :
    (s.srcEvent n e).evPending (evNo (1 + n / 6) (5 * (n % 6) + e)) = true := by
  unfold State.srcEvent
  rw [State.raise_evPending h _ _ _ (evNo_src_lt n e he) (evNo_src_lt n e he)]
  simp

end Sys2Proof.Machine

/-!
PROOF. The moves of a source's qualification (R46 to R50): what every one of them leaves of the source, and for each the
state, the event and the cause it leads to.
-/

namespace Sys2Proof.Machine

/-! ### What the moves leave -/

/-- What the activity monitor and the verdicts keep of a source, which no move of its qualification changes. -/
def SrcSt.activity (x : SrcSt) : Nat × Nat × Option Nat × Option Verdict := (x.bucket, x.missed, x.lastEdge, x.verdict)

/-- `t` comes of `s` by moves of source `n`'s qualification: time, the monitor, its settings, checks and edges, the basis and
the activity record are as they were, and what was pending is pending still. SRCn_STATE, SRCn_STS and the results from
SRCn_FOFF0 on may differ. -/
structure State.SrcMoves (s : State) (n : Src) (t : State) : Prop where
  inv : t.Inv
  tb : t.tb = s.tb
  mon : t.mon = s.mon
  sys : t.sys = s.sys
  reg : ∀ off, off < SRC_FOFF0 → off ≠ SRC_STATE → off ≠ SRC_STS → t.rn (wSrc n) off = s.rn (wSrc n) off
  basis : t.get (wSrc n) SRC_STATE_FBASIS = s.get (wSrc n) SRC_STATE_FBASIS
  event : ∀ e, e < 512 → s.evPending e = true → t.evPending e = true
  activity : (t.src n).activity = (s.src n).activity

namespace State.SrcMoves

variable {s t u : State} {n : Src}

theorem refl (h : s.Inv) : s.SrcMoves n s :=
  ⟨h, rfl, rfl, rfl, fun _ _ _ _ => rfl, rfl, fun _ _ h => h, rfl⟩

theorem trans (h : s.SrcMoves n t) (k : t.SrcMoves n u) : s.SrcMoves n u where
  inv := k.inv
  tb := k.tb.trans h.tb
  mon := k.mon.trans h.mon
  sys := k.sys.trans h.sys
  reg off h1 h2 h3 := (k.reg off h1 h2 h3).trans (h.reg off h1 h2 h3)
  basis := k.basis.trans h.basis
  event e he hp := k.event e he (h.event e he hp)
  activity := k.activity.trans h.activity

/-- A field of a register that stays. -/
theorem get (h : s.SrcMoves n t) (f : Fld) (h1 : f.off < SRC_FOFF0) (h2 : f.off ≠ SRC_STATE) (h3 : f.off ≠ SRC_STS) :
    t.get (wSrc n) f = s.get (wSrc n) f := by
  unfold State.get
  rw [h.reg f.off h1 h2 h3]

theorem flag (h : s.SrcMoves n t) (f : Fld) (h1 : f.off < SRC_FOFF0) (h2 : f.off ≠ SRC_STATE) (h3 : f.off ≠ SRC_STS) :
    t.flag (wSrc n) f = s.flag (wSrc n) f := by
  unfold State.flag
  rw [h.get f h1 h2 h3]

theorem srcForce (h : s.SrcMoves n t) : t.srcForce n = s.srcForce n := by
  unfold State.srcForce
  rw [h.get SRC_EN_FORCE (by decide) (by decide) (by decide)]

theorem bucket (h : s.SrcMoves n t) : (t.src n).bucket = (s.src n).bucket := congrArg (·.1) h.activity
theorem missed (h : s.SrcMoves n t) : (t.src n).missed = (s.src n).missed := congrArg (·.2.1) h.activity
theorem lastEdge (h : s.SrcMoves n t) : (t.src n).lastEdge = (s.src n).lastEdge := congrArg (·.2.2.1) h.activity
theorem verdict (h : s.SrcMoves n t) : (t.src n).verdict = (s.src n).verdict := congrArg (·.2.2.2) h.activity

/-! The small updates that moves are made of. -/

/-- A write of SRCn_STS or of a result. -/
theorem wr (h : s.SrcMoves n t) {off v : Nat} (ho : off = SRC_STS ∨ SRC_FOFF0 ≤ off) (hlt : off < 0x4000) :
    s.SrcMoves n (t.wr (wSrc n) off v) := by
  have hst : off ≠ SRC_STATE := by unfold SRC_STS SRC_FOFF0 at ho; unfold SRC_STATE; omega
  refine h.trans ⟨State.keeps_inv h.inv (State.wr_keeps (State.keeps_refl t) _ _ _), rfl, rfl, rfl, ?_, ?_, ?_, rfl⟩
  · intro o h1 h2 h3
    refine State.rn_wr_other t _ _ _ _ _ (regAddr_src_ne _ hlt ?_ ?_)
    · unfold SRC_FOFF0 at h1; omega
    · unfold SRC_STS SRC_FOFF0 at *; omega
  · exact State.get_wr_other t _ _ _ _ _ (regAddr_src_ne _ hlt (by decide) hst)
  · intro e he hp
    rwa [State.wr_evPending _ _ _ _ (wSrc_ne_evt n) hlt he]

theorem sts (h : s.SrcMoves n t) (m : Nat) : s.SrcMoves n (t.sts (wSrc n) SRC_STS m) := h.wr (.inl rfl) (by decide)

theorem stsField (h : s.SrcMoves n t) (m v : Nat) : s.SrcMoves n (t.stsField (wSrc n) SRC_STS_CAUSE m v) :=
  (h.sts m).wr (.inl rfl) (by decide)

/-- A write of a field of SRCn_STATE beside FBASIS. -/
theorem putState (h : s.SrcMoves n t) (f : Fld) (v : Nat) (hf : f.off = SRC_STATE) (hd : f.lsb + f.width ≤ 6 ∨ 7 ≤ f.lsb) :
    s.SrcMoves n (t.put (wSrc n) f v) := by
  refine h.trans ⟨State.keeps_inv h.inv (State.put_keeps (State.keeps_refl t) _ _ _), rfl, rfl, rfl, ?_, ?_, ?_, rfl⟩
  · intro o h1 h2 _
    refine State.rn_put_other t _ _ _ _ _ (regAddr_src_ne _ ?_ ?_ ?_)
    · rw [hf]; decide
    · unfold SRC_FOFF0 at h1; omega
    · rw [hf]; exact Ne.symm h2
  · refine State.get_put_beside t h.inv.canon _ _ _ _ ?_ (by decide) ?_
    · rw [hf]; rfl
    · exact hd.symm
  · intro e he hp
    unfold State.put
    rwa [State.wr_evPending _ _ _ _ (wSrc_ne_evt n) (by rw [hf]; decide) he]

theorem modSrc (h : s.SrcMoves n t) {f : SrcSt → SrcSt} (hf : ∀ x, (f x).activity = x.activity) :
    s.SrcMoves n (t.modSrc n f) := by
  refine h.trans ⟨h.inv.modSrc _ _, rfl, rfl, rfl,
    fun _ _ _ _ => rfl, rfl, fun _ _ hp => hp, ?_⟩
  rw [State.modSrc_src_same h.inv, hf]

theorem engPend (h : s.SrcMoves n t) (k e : Nat) (arg : Word64) : s.SrcMoves n (t.engPend k e arg) := by
  refine h.trans ⟨State.keeps_inv h.inv (State.engPend_keeps (State.keeps_refl t) _ _ _),
    State.engPend_proj (·.tb) (fun _ _ _ _ => rfl) (fun _ _ _ => rfl) _ _ _,
    State.engPend_proj (·.mon) (fun _ _ _ _ => rfl) (fun _ _ _ => rfl) _ _ _,
    State.engPend_proj (·.sys) (fun _ _ _ _ => rfl) (fun _ _ _ => rfl) _ _ _, ?_, ?_, ?_, ?_⟩
  · intro o h1 _ _
    exact State.engPend_rn _ _ _ _ _ (wSrc_lt n) (by unfold SRC_FOFF0 at h1; omega)
  · exact State.engPend_get _ _ _ _ _ (wSrc_lt n) (by decide)
  · intro e' he hp
    rwa [State.engPend_evPending _ _ _ _ he]
  · exact State.engPend_proj (fun t => (t.src n).activity) (fun _ _ _ _ => rfl) (fun _ _ _ => rfl) _ _ _

theorem raise (h : s.SrcMoves n t) {g b : Nat} (hg : evNo g b < 512) : s.SrcMoves n (t.raise g b) := by
  refine h.trans ⟨State.keeps_inv h.inv (State.raise_keeps (State.keeps_refl t) _ _), State.raise_tb _ _ _,
    State.raise_mon _ _ _, State.raise_sys _ _ _, ?_, ?_, ?_, ?_⟩
  · intro o h1 _ _
    exact State.raise_rn _ _ _ _ _ hg (wSrc_lt n) (wSrc_ne_evt n) (by unfold SRC_FOFF0 at h1; omega)
  · exact State.raise_get _ _ _ _ _ hg (wSrc_lt n) (wSrc_ne_evt n) (by decide)
  · intro e he hp
    rw [State.raise_evPending h.inv.canon _ _ _ hg he, hp, Bool.or_true]
  · unfold State.src
    rw [State.raise_srcs]

theorem srcEvent (h : s.SrcMoves n t) (e : Nat) (he : e < 5) : s.SrcMoves n (t.srcEvent n e) := h.raise (evNo_src_lt n e he)

theorem setSup (h : s.SrcMoves n t) (x : SupSt) : s.SrcMoves n (t.setSup x) :=
  h.trans ⟨h.inv, rfl, rfl, rfl, fun _ _ _ _ => rfl, rfl, fun _ _ hp => hp, rfl⟩

theorem ite {c : Prop} [Decidable c] (ht : c → s.SrcMoves n t) (hu : ¬ c → s.SrcMoves n u) :
    s.SrcMoves n (if c then t else u) := by
  split
  · exact ht ‹_›
  · exact hu ‹_›

/-! The moves. -/

theorem consLow (h : s.SrcMoves n t) (kind before : Nat) : s.SrcMoves n (t.consLow kind before) :=
  .ite (fun _ => .ite (fun _ => h.raise (by decide)) fun _ => .ite (fun _ => h.raise (by decide)) fun _ => h) fun _ => h

theorem setQ (h : s.SrcMoves n t) (q : Nat) : s.SrcMoves n (t.setQ n q) := by
  refine .ite (fun _ => h) fun _ => ?_
  have h1 : s.SrcMoves n (if t.qstate n = 4 then t.modSrc n (fun x => { x with pass := List.replicate 4 false }) else t) :=
    .ite (fun _ => h.modSrc fun _ => rfl) fun _ => h
  exact ((h1.putState SRC_STATE_QSTATE q rfl (by decide)).engPend _ _ _).consLow _ _

theorem srcDisq (h : s.SrcMoves n t) (cause : Nat) : s.SrcMoves n (t.srcDisq n cause) :=
  (h.stsField 4 cause).srcEvent 2 (by decide)

theorem srcRecord (h : s.SrcMoves n t) (m cause : Nat) : s.SrcMoves n (t.srcRecord n m cause) :=
  .ite (fun _ => h) fun _ => h.stsField m cause

theorem srcClearWait (h : s.SrcMoves n t) : s.SrcMoves n (t.srcClearWait n) :=
  (h.modSrc (f := fun x => { x with timer := none, expired := false }) fun _ => rfl).putState SRC_STATE_HOLDCAUSE 0 rfl (by decide)

theorem toQual (h : s.SrcMoves n t) : s.SrcMoves n (t.toQual n) :=
  (((h.srcClearWait.setQ 4).putState SRC_STATE_FIRST 0 rfl (by decide)).sts 2).srcEvent 1 (by decide)

theorem toUnqual (h : s.SrcMoves n t) : s.SrcMoves n (t.toUnqual n) := h.srcClearWait.setQ 2

theorem srcClearHist (h : s.SrcMoves n t) (next : Bool) : s.SrcMoves n (t.srcClearHist n next) := by
  have h1 := (h.modSrc (f := fun x =>
    { x with wins := (List.range 3).map (fun i => { WinSt.empty with start := t.tb.c / binU i + b2n next }), xw := 0,
             lastX := none, ys := [], mtie := List.replicate 5 MtieSt.empty, tdev := List.replicate 5 TdevSt.empty,
             pdFrom := 0, consFail := 0, gRef := t.steerAhead n }) (fun _ => rfl)).wr (off := SRC_PDRIFT) (v := 0x8000_0000)
    (by decide) (by decide)
  refine List.foldlRecOn _ _ (List.foldlRecOn _ _ h1 fun u hu i hi => ?_) fun u hu i hi => ?_
  · have := List.mem_range.mp hi
    exact (hu.wr (.inr (by omega)) (by unfold SRC_FOFF0; omega)).wr (.inr (by unfold SRC_FOFF0 SRC_COFF0; omega))
      (by unfold SRC_COFF0; omega)
  · have := List.mem_range.mp hi
    exact (hu.wr (.inr (by unfold SRC_FOFF0 SRC_MTIE0; omega)) (by unfold SRC_MTIE0; omega)).wr
      (.inr (by unfold SRC_FOFF0 SRC_TDEV0; omega)) (by unfold SRC_TDEV0; omega)

theorem srcClrStat (h : s.SrcMoves n t) : s.SrcMoves n (t.srcClrStat n) := by
  have h1 := (h.modSrc (f := fun x =>
    { x with mtie := List.replicate 5 MtieSt.empty, tdev := List.replicate 5 TdevSt.empty, pdFrom := t.tb.c })
    (fun _ => rfl)).wr (off := SRC_PDRIFT) (v := 0x8000_0000) (by decide) (by decide)
  refine List.foldlRecOn _ _ h1 fun u hu i hi => ?_
  have := List.mem_range.mp hi
  exact (hu.wr (.inr (by unfold SRC_FOFF0 SRC_MTIE0; omega)) (by unfold SRC_MTIE0; omega)).wr
    (.inr (by unfold SRC_FOFF0 SRC_TDEV0; omega)) (by unfold SRC_TDEV0; omega)

theorem toLost (h : s.SrcMoves n t) : s.SrcMoves n (t.toLost n) := by
  refine .ite (fun _ => h) fun _ => ?_
  have h1 := (((h.srcClearWait.setQ 1).srcClearHist false).sts 1).srcEvent 0 (by decide)
  exact .ite (fun _ => h1.srcDisq 0) fun _ => h1

theorem srcReturn (h : s.SrcMoves n t) : s.SrcMoves n (t.srcReturn n) :=
  have h1 := (h.srcClearHist false).modSrc (f := fun x => { x with index := none }) fun _ => rfl
  .ite (fun _ => h1.toQual) fun _ => h1.toUnqual

theorem startPend (h : s.SrcMoves n t) : s.SrcMoves n (t.startPend n) :=
  .ite (fun _ => h.modSrc fun _ => rfl) fun _ => h.modSrc fun _ => rfl

theorem toPend (h : s.SrcMoves n t) : s.SrcMoves n (t.toPend n) :=
  .ite (fun _ => h.toQual) fun _ => (h.setQ 3).startPend

theorem driftSeen (h : s.SrcMoves n t) : s.SrcMoves n (t.driftSeen n) := .ite (fun _ => h.setSup _) fun _ => h

theorem srcFail (h : s.SrcMoves n t) (fail : Nat) : s.SrcMoves n (t.srcFail n fail) :=
  have h1 := h.toUnqual.srcDisq (lowestBit fail)
  .ite (fun _ => ((h1.sts 8).srcEvent 3 (by decide)).driftSeen) fun _ => h1

theorem srcAccept (h : s.SrcMoves n t) : s.SrcMoves n (t.srcAccept n) := by
  refine .ite (fun _ => h) fun _ => ?_
  have h1 : s.SrcMoves n (if t.get (wSrc n) SRC_STATE_HOLDCAUSE = 1 then
      t.modSrc n (fun x => { x with pass := List.replicate 4 true }) else t) :=
    .ite (fun _ => h.modSrc fun _ => rfl) fun _ => h
  dsimp only
  split
  · exact .ite (fun _ => h1.toQual) fun _ => h1.toUnqual
  · exact h1.toUnqual

theorem srcHoldAs (h : s.SrcMoves n t) (cause : Nat) : s.SrcMoves n (t.srcHoldAs n cause) := by
  have h1 := (h.srcClearWait.setQ 5).putState SRC_STATE_HOLDCAUSE cause rfl (by decide)
  exact .ite (fun _ => .ite (fun _ => .ite (fun _ => (h1.sts 16).srcEvent 4 (by decide)) fun _ => h1)
    fun _ => .ite (fun _ => h.srcRecord _ _) fun _ => h) fun _ => h

theorem srcCmd (h : s.SrcMoves n t) (v : Nat) : s.SrcMoves n (t.srcCmd n v) :=
  have h1 : s.SrcMoves n (if bitOf v 0 then t.srcAccept n else t) := .ite (fun _ => h.srcAccept) fun _ => h
  have h2 : s.SrcMoves n (if bitOf v 1 then (if bitOf v 0 then t.srcAccept n else t).srcHoldAs n 2
      else (if bitOf v 0 then t.srcAccept n else t)) := .ite (fun _ => h1.srcHoldAs 2) fun _ => h1
  .ite (fun _ => h2.srcClrStat) fun _ => h2

theorem srcForced (h : s.SrcMoves n t) (f : Nat) : s.SrcMoves n (t.srcForced n f) :=
  .ite (fun _ => .ite (fun _ => h.toUnqual.srcDisq 0x20) fun _ => .ite (fun _ => h.toUnqual) fun _ => h)
    fun _ => .ite (fun _ => .ite (fun _ => h.toQual) fun _ => h) fun _ => h.modSrc fun _ => rfl

theorem srcOff (h : s.SrcMoves n t) : s.SrcMoves n (t.srcOff n) :=
  .ite (fun _ => (h.srcClearWait.setQ 0).srcDisq 0x21) fun _ => h.srcClearWait.setQ 0

end State.SrcMoves

end Sys2Proof.Machine

namespace Sys2Proof.Machine

/-! ### Where each move leads -/

section
variable {s : State} {n : Src}

theorem State.sts_qstate (m : Nat) : (s.sts (wSrc n) SRC_STS m).qstate n = s.qstate n :=
  State.wr_qstate _ _ (by decide) (by decide)

theorem State.srcEvent_qstate (e : Nat) (he : e < 5) : (s.srcEvent n e).qstate n = s.qstate n :=
  State.srcEvent_get n e he _ (by decide)

theorem State.srcEvent_src (e m : Nat) : (s.srcEvent n e).src m = s.src m := by
  unfold State.src State.srcEvent
  rw [State.raise_srcs]

theorem State.consLow_rn (kind before w off : Nat) (hw : w < W_ENG) (he : w ≠ W_EVT) (ho : off < 0x4000) :
    (s.consLow kind before).rn w off = s.rn w off := by
  unfold State.consLow
  split
  · split
    · exact State.raise_rn s _ _ _ _ (by decide) hw he ho
    · split
      · exact State.raise_rn s _ _ _ _ (by decide) hw he ho
      · rfl
  · rfl

theorem State.consLow_srcs (kind before : Nat) : (s.consLow kind before).srcs = s.srcs := by
  unfold State.consLow
  split
  · split
    · exact State.raise_srcs _ _ _
    · split
      · exact State.raise_srcs _ _ _
      · rfl
  · rfl

/-- R42: CONS_LOW_FREQ and CONS_LOW_TIME are no source's events. -/
theorem State.consLow_evPending (h : s.Canon) (kind before e : Nat) (he : e < evNo 4 20) :
    (s.consLow kind before).evPending e = s.evPending e := by
  have hlow (b : Nat) (hb : b = 20 ∨ b = 21) : (s.raise 4 b).evPending e = s.evPending e := by
    have hne : e ≠ evNo 4 b := by unfold evNo at *; omega
    rw [State.raise_evPending h _ _ _ (by unfold evNo; omega) (by unfold evNo at he; omega)]
    simp [hne]
  unfold State.consLow
  split
  · split
    · exact hlow 20 (.inl rfl)
    · split
      · exact hlow 21 (.inr rfl)
      · rfl
  · rfl

/-- SRCn_STATE with QSTATE alone set to `q`. -/
theorem State.setQ_stateReg (h : s.Inv) (q : Nat) (hne : s.qstate n ≠ q) :
    (s.setQ n q).rn (wSrc n) SRC_STATE = putBits (s.rn (wSrc n) SRC_STATE) 0 3 q % 2 ^ 32 := by
  unfold State.setQ
  dsimp only
  rw [if_neg hne, State.consLow_rn _ _ _ _ (wSrc_lt n) (wSrc_ne_evt n) (by decide),
    State.engPend_rn _ _ _ _ _ (wSrc_lt n) (by decide)]
  split
  · exact State.rn_wr_same (s.modSrc n _) h.canon _ _ _
  · exact State.rn_wr_same s h.canon _ _ _

theorem State.setQ_qstate (h : s.Inv) (q : Nat) (hq : q < 8) : (s.setQ n q).qstate n = q := by
  by_cases hne : s.qstate n = q
  · unfold State.setQ
    rw [if_pos hne, hne]
  · unfold State.qstate State.get
    change bitsOf (State.rn _ _ SRC_STATE) 0 3 = q
    rw [State.setQ_stateReg h q hne, bitsOf_mod32 _ _ _ (by decide), bitsOf_putBits_same,
      Nat.mod_eq_of_lt (show q < 2 ^ 3 from hq)]

/-- The fields of SRCn_STATE beside QSTATE stay. -/
theorem State.setQ_get (h : s.Inv) (q : Nat) (f : Fld) (ho : f.off = SRC_STATE) (hl : 3 ≤ f.lsb) (hw : f.lsb + f.width ≤ 32) :
    (s.setQ n q).get (wSrc n) f = s.get (wSrc n) f := by
  by_cases hne : s.qstate n = q
  · unfold State.setQ
    rw [if_pos hne]
  · unfold State.get
    rw [ho, State.setQ_stateReg h q hne, bitsOf_mod32 _ _ _ hw, bitsOf_putBits_other _ _ _ _ _ _ (.inr hl)]

/-- R71: beside its jump passes the source's record stays. -/
theorem State.setQ_src (h : s.Inv) (q : Nat) : ∃ p, (s.setQ n q).src n = { s.src n with pass := p } := by
  have hsrcs (u : State) (w : Nat) (f : Fld) (k b m e : Nat) (arg : Word64) :
      (((u.put w f q).engPend m e arg).consLow k b).src n = u.src n := by
    unfold State.src
    rw [State.consLow_srcs, State.engPend_proj (·.srcs) (fun _ _ _ _ => rfl) (fun _ _ _ => rfl)]
    rfl
  unfold State.setQ
  dsimp only
  split
  · exact ⟨_, rfl⟩
  · rw [hsrcs]
    split
    · exact ⟨_, State.modSrc_src_same h n _⟩
    · exact ⟨_, rfl⟩

theorem State.setQ_timer (h : s.Inv) (q : Nat) : ((s.setQ n q).src n).timer = (s.src n).timer := by
  obtain ⟨p, hp⟩ := State.setQ_src (n := n) h q
  rw [hp]

theorem State.setQ_evPending (h : s.Inv) (q e : Nat) (he : e < evNo 4 20) : (s.setQ n q).evPending e = s.evPending e := by
  have he' : e < 512 := by unfold evNo at he; omega
  have hput (u : State) : (u.put (wSrc n) SRC_STATE_QSTATE q).evPending e = u.evPending e :=
    State.wr_evPending _ _ _ _ (wSrc_ne_evt n) (by decide) he'
  have h1 : State.SrcMoves s n
      (if s.qstate n = 4 then s.modSrc n (fun x => { x with pass := List.replicate 4 false }) else s) :=
    .ite (fun _ => (State.SrcMoves.refl h).modSrc fun _ => rfl) fun _ => .refl h
  unfold State.setQ
  dsimp only
  split
  · rfl
  · rw [State.consLow_evPending ((h1.putState SRC_STATE_QSTATE q rfl (by decide)).engPend _ _ _).inv.canon _ _ _ he,
      State.engPend_evPending _ _ _ _ he', hput]
    split <;> rfl

theorem State.putState_qstate (h : s.Inv) (f : Fld) (v : Nat) (ho : f.off = SRC_STATE) (hl : 3 ≤ f.lsb) :
    (s.put (wSrc n) f v).qstate n = s.qstate n :=
  State.get_put_beside s h.canon _ _ _ _ ho.symm (by decide) (.inl hl)

theorem State.srcClearWait_timer (h : s.Inv) : ((s.srcClearWait n).src n).timer = none := by
  change ((s.modSrc n _).src n).timer = none
  rw [State.modSrc_src_same h]

theorem State.toUnqual_qstate (h : s.Inv) : (s.toUnqual n).qstate n = 2 :=
  State.setQ_qstate (State.SrcMoves.refl h).srcClearWait.inv 2 (by decide)

theorem State.toUnqual_timer (h : s.Inv) : ((s.toUnqual n).src n).timer = none :=
  (State.setQ_timer (State.SrcMoves.refl h).srcClearWait.inv 2).trans (State.srcClearWait_timer h)

/-- R46: entry to QUAL. -/
theorem State.toQual_qstate (h : s.Inv) : (s.toQual n).qstate n = 4 := by
  have h1 := (State.SrcMoves.refl (n := n) h).srcClearWait.inv
  have h2 := ((State.SrcMoves.refl (n := n) h).srcClearWait.setQ 4).inv
  unfold State.toQual
  rw [State.srcEvent_qstate 1 (by decide), State.sts_qstate, State.putState_qstate h2 _ _ rfl (by decide),
    State.setQ_qstate h1 4 (by decide)]

theorem State.toQual_first (h : s.Inv) : (s.toQual n).get (wSrc n) SRC_STATE_FIRST = 0 := by
  have h2 := ((State.SrcMoves.refl (n := n) h).srcClearWait.setQ 4).inv
  unfold State.toQual
  rw [State.srcEvent_get n 1 (by decide) _ (by decide),
    State.get_sts_other _ _ _ _ _ _ (regAddr_src_ne _ (by decide) (by decide) (by decide)),
    State.get_put_same _ h2.canon _ _ _ (by decide)]
  rfl

theorem State.toQual_timer (h : s.Inv) : ((s.toQual n).src n).timer = none := by
  have h1 := (State.SrcMoves.refl (n := n) h).srcClearWait.inv
  unfold State.toQual
  rw [State.srcEvent_src]
  exact (State.setQ_timer h1 4).trans (State.srcClearWait_timer h)

theorem State.toQual_evPending (h : s.Inv) : (s.toQual n).evPending (evNo (1 + n / 6) (5 * (n % 6) + 1)) = true :=
  State.srcEvent_evPending ((((State.SrcMoves.refl (n := n) h).srcClearWait.setQ 4).putState SRC_STATE_FIRST 0 rfl
    (by decide)).sts 2).inv.canon n 1 (by decide)

theorem State.srcDisq_qstate (cause : Nat) : (s.srcDisq n cause).qstate n = s.qstate n := by
  unfold State.srcDisq
  rw [State.srcEvent_qstate 2 (by decide)]
  exact (State.wr_qstate _ _ (by decide) (by decide)).trans (State.sts_qstate _)

theorem State.srcDisq_src (cause : Nat) : (s.srcDisq n cause).src n = s.src n := State.srcEvent_src _ _

theorem State.stsField_cause (h : s.Inv) (m cause : Nat) (hc : cause < 256) :
    (s.stsField (wSrc n) SRC_STS_CAUSE m cause).get (wSrc n) SRC_STS_CAUSE = cause := by
  unfold State.stsField
  rw [State.get_put_same _ (State.sts_canon h.canon _ _ _) _ _ _ (by decide)]
  exact Nat.mod_eq_of_lt hc

theorem State.srcDisq_cause (h : s.Inv) (cause : Nat) (hc : cause < 256) :
    (s.srcDisq n cause).get (wSrc n) SRC_STS_CAUSE = cause := by
  unfold State.srcDisq
  rw [State.srcEvent_get n 2 (by decide) _ (by decide), State.stsField_cause h _ _ hc]

theorem State.srcDisq_evPending (h : s.Inv) (cause : Nat) :
    (s.srcDisq n cause).evPending (evNo (1 + n / 6) (5 * (n % 6) + 2)) = true :=
  State.srcEvent_evPending ((State.SrcMoves.refl (n := n) h).stsField 4 cause).inv.canon n 2 (by decide)

theorem State.srcRecord_qstate (m cause : Nat) : (s.srcRecord n m cause).qstate n = s.qstate n := by
  unfold State.srcRecord
  split
  · rfl
  · exact (State.wr_qstate _ _ (by decide) (by decide)).trans (State.sts_qstate _)

theorem State.srcRecord_cause (h : s.Inv) (m cause : Nat) (hc : cause < 256) :
    (s.srcRecord n m cause).get (wSrc n) SRC_STS_CAUSE = cause := by
  unfold State.srcRecord
  split
  · rename_i hold
    exact hold.1
  · exact State.stsField_cause h _ _ hc

/-- The results' registers are all that clearing the histories writes. -/
theorem State.srcClearHist_rn (m : Nat) (next : Bool) (w off : Nat) (ho : off < 0x4000)
    (hne : w ≠ wSrc m ∨ off < SRC_FOFF0) : (s.srcClearHist m next).rn w off = s.rn w off := by
  have hwr (u : State) (o v : Nat) (h1 : SRC_FOFF0 ≤ o) (h2 : o < 0x4000) : (u.wr (wSrc m) o v).rn w off = u.rn w off := by
    refine State.rn_wr_other u _ _ _ _ _ (regAddr_ne h2 ho ?_)
    rcases hne with hw | hlt
    · exact .inl (Ne.symm hw)
    · exact .inr (by omega)
  unfold State.srcClearHist
  dsimp only
  refine List.foldlRecOn (motive := fun u => State.rn u w off = _) _ _
    (List.foldlRecOn (motive := fun u => State.rn u w off = _) _ _ ?_ fun u hu i hi => ?_) fun u hu i hi => ?_
  · rw [hwr _ _ _ (by decide) (by decide), State.modSrc_rn]
  · have := List.mem_range.mp hi
    rw [hwr _ _ _ (by unfold SRC_FOFF0 SRC_COFF0; omega) (by unfold SRC_COFF0; omega),
      hwr _ _ _ (by omega) (by unfold SRC_FOFF0; omega), hu]
  · have := List.mem_range.mp hi
    rw [hwr _ _ _ (by unfold SRC_FOFF0 SRC_TDEV0; omega) (by unfold SRC_TDEV0; omega),
      hwr _ _ _ (by unfold SRC_FOFF0 SRC_MTIE0; omega) (by unfold SRC_MTIE0; omega), hu]

theorem State.srcClearHist_qstate (next : Bool) : (s.srcClearHist n next).qstate n = s.qstate n := by
  unfold State.qstate State.get
  rw [State.srcClearHist_rn n next _ _ (by decide) (.inr (by decide))]

/-- R46: loss of activity of an active source. -/
theorem State.toLost_qstate (h : s.Inv) (hq : 2 ≤ s.qstate n) : (s.toLost n).qstate n = 1 := by
  have h1 := (State.SrcMoves.refl (n := n) h).srcClearWait.inv
  have hlost : (((((s.srcClearWait n).setQ n 1).srcClearHist n false).sts (wSrc n) SRC_STS 1).srcEvent n 0).qstate n = 1 := by
    rw [State.srcEvent_qstate 0 (by decide), State.sts_qstate, State.srcClearHist_qstate, State.setQ_qstate h1 1 (by decide)]
  unfold State.toLost
  dsimp only
  rw [if_neg (by omega)]
  split
  · rw [State.srcDisq_qstate, hlost]
  · exact hlost

theorem State.toLost_of_inactive (hq : s.qstate n < 2) : s.toLost n = s := by
  unfold State.toLost
  exact if_pos hq

theorem State.toLost_events (h : s.Inv) (hq : 2 ≤ s.qstate n) :
    (s.toLost n).evPending (evNo (1 + n / 6) (5 * (n % 6) + 0)) = true ∧
      (s.qstate n = 4 → (s.toLost n).evPending (evNo (1 + n / 6) (5 * (n % 6) + 2)) = true ∧
        (s.toLost n).get (wSrc n) SRC_STS_CAUSE = 0) := by
  have h1 := (((State.SrcMoves.refl (n := n) h).srcClearWait.setQ 1).srcClearHist false).sts 1
  have h2 := h1.srcEvent 0 (by decide)
  have hlos := State.srcEvent_evPending h1.inv.canon n 0 (by decide)
  unfold State.toLost
  dsimp only
  rw [if_neg (by omega)]
  split
  · exact ⟨((State.SrcMoves.refl h2.inv).srcDisq 0).event _ (evNo_src_lt n 0 (by decide)) hlos,
      fun _ => ⟨State.srcDisq_evPending h2.inv 0, State.srcDisq_cause h2.inv 0 (by decide)⟩⟩
  · rename_i hq4
    exact ⟨hlos, fun h4 => absurd h4 hq4⟩

/-- R46, R50: activity returns, but for FORCE = QUAL to UNQUAL. -/
theorem State.srcReturn_qstate (h : s.Inv) (hf : s.srcForce n ≠ 2) : (s.srcReturn n).qstate n = 2 := by
  unfold State.srcReturn
  dsimp only
  rw [if_neg hf]
  exact State.toUnqual_qstate (((State.SrcMoves.refl (n := n) h).srcClearHist false).inv.modSrc _ _)

/-- R46, R47: a source with a wait enters PEND with its timer. -/
theorem State.toPend_waits (h : s.Inv) (hw : s.flag (wSrc n) SRC_STATE_FIRST = true ∨ s.get (wSrc n) SRC_WTR_WTR ≠ 0) :
    (s.toPend n).qstate n = 3 ∧ ((s.toPend n).src n).timer = some (s.after
      (if s.flag (wSrc n) SRC_STATE_FIRST then max 1 (s.get (wSrc n) SRC_QCTL_FIRSTQ) * msU
        else s.get (wSrc n) SRC_WTR_WTR * secU)) := by
  have h1 := (State.SrcMoves.refl (n := n) h).setQ 3
  have hno : ¬ (¬ s.flag (wSrc n) SRC_STATE_FIRST = true ∧ s.get (wSrc n) SRC_WTR_WTR = 0) := fun ⟨a, b⟩ => hw.elim a (fun c => c b)
  have hfirst : (s.setQ n 3).flag (wSrc n) SRC_STATE_FIRST = s.flag (wSrc n) SRC_STATE_FIRST := by
    unfold State.flag
    rw [State.setQ_get h 3 _ rfl (by decide) (by decide)]
  have hafter (u : Nat) : (s.setQ n 3).after u = s.after u := by
    unfold State.after
    rw [h1.tb]
  unfold State.toPend State.startPend
  dsimp only
  rw [if_neg hno, hfirst, h1.get SRC_QCTL_FIRSTQ (by decide) (by decide) (by decide),
    h1.get SRC_WTR_WTR (by decide) (by decide) (by decide), hafter, hafter]
  split
  · exact ⟨State.setQ_qstate h 3 (by decide), by rw [State.modSrc_src_same h1.inv]⟩
  · exact ⟨State.setQ_qstate h 3 (by decide), by rw [State.modSrc_src_same h1.inv]⟩

theorem State.toPend_at_once (hf : s.flag (wSrc n) SRC_STATE_FIRST = false) (hw : s.get (wSrc n) SRC_WTR_WTR = 0) :
    s.toPend n = s.toQual n := by
  unfold State.toPend
  exact if_pos ⟨by simp [hf], hw⟩

end

end Sys2Proof.Machine

namespace Sys2Proof.Machine

/-! ### Writes at a source's window (R356, R363) -/

section
variable {s : State} {r : Req} {n : Src}

theorem winBlock_src : ∀ n : Src, winBlock (wSrc n) = some (.src n) := by decide

theorem State.src_writeLocked (off v : Nat) : s.writeLocked (wSrc n) off .plain v = false := by
  have hgroup : guardGroup (wSrc n) off = none := by
    unfold guardGroup wSrc W_SRC W_OUT W_ETH W_FLT W_PWR W_NVS W_ENG W_SYS W_GL W_CAL
    repeat rw [if_neg (by omega)]
  have hnvs : (wSrc n == W_NVS) = false := by
    rw [beq_eq_false_iff_ne]
    unfold wSrc W_SRC W_NVS
    omega
  simp [State.writeLocked, State.guarded, hgroup, hnvs]

theorem State.src_refuses (off old v : Nat) : s.refuses r (wSrc n) off old v = none := by
  simp only [State.refuses, winBlock_src]

theorem src_stagedReg (off : Nat) : stagedReg (wSrc n) off = false := by
  simp only [stagedReg, winBlock_src]

theorem src_mayWrite {off : Nat} (h : off ≠ SRC_VERDICT) : mayWrite r (wSrc n) off = true := by
  simp [mayWrite, winBlock_src, h]

/-- R48: the verdict's single writer. -/
theorem src_mayWrite_verdict : ∀ n : Src, mayWrite (.eng (monOf n)) (wSrc n) SRC_VERDICT = true := by decide

theorem inReach_of_ne_i2c (hr : r ≠ .i2c) (write : Bool) (a : Nat) : inReach r write a = true := by
  unfold inReach
  split
  · exact absurd rfl hr
  · rfl

/-- A write that a source's register takes is its answer at the door, and `t` is what it leaves. -/
theorem State.doorWrite_src {off v : Nat} {t : State} (hr : r ≠ .i2c) (h4 : off % 4 = 0) (ho : off < 0x1000)
    (hw : s.regWrite r (wSrc n) off .plain v = (.ok, t)) (hsoft : t.sys.soft = false) :
    s.doorWrite r (regAddr (wSrc n) off) 15 v =
      t.emit (.answer r (regAddr (wSrc n) off) .ok (BitVec.ofNat 32 v)) := by
  have hlt := wSrc_lt n
  have hcore := s.coreWrite_reg (v := v) (inReach_of_ne_i2c hr true (regAddr (wSrc n) off)) h4
    (by unfold W_ENG at hlt; omega) ho
  rw [hw, State.accRecord_ok] at hcore
  simp only [State.doorWrite, State.busWrite, hcore, State.softResume_of hsoft]

/-- A command register of a source that `r` may write does its command (R356). -/
theorem State.regWrite_src_cmd {off v : Nat} {row : RegRow} (hrow : regRow (wSrc n) off = some row) (hc : row.cls = .cmd)
    (hm : mayWrite r (wSrc n) off = true) :
    s.regWrite r (wSrc n) off .plain v = (.ok, s.cmdAct r (wSrc n) off v) := by
  have hguard : wSrc n ≠ W_GUARD := by unfold wSrc W_SRC W_GUARD; omega
  have hcal : ¬ (wSrc n = W_CAL ∧ off = CAL_SEQCMD ∧ s.seqStartWign v) := by unfold wSrc W_SRC W_CAL; omega
  have hcross : tbCrossing (wSrc n) off = false := by
    unfold tbCrossing wSrc W_SRC W_TEV W_SYNC W_FLT W_SNAP W_TB
    simp only [beq_eq_false_iff_ne.mpr (show 16 + n.val ≠ 13 by omega), beq_eq_false_iff_ne.mpr (show 16 + n.val ≠ 14 by omega),
      beq_eq_false_iff_ne.mpr (show 16 + n.val ≠ 2 by omega), beq_eq_false_iff_ne.mpr (show 16 + n.val ≠ 3 by omega),
      beq_eq_false_iff_ne.mpr (show 16 + n.val ≠ 12 by omega), Bool.false_and, Bool.or_false]
  rw [State.regWrite_cmd hrow hc hguard (State.src_writeLocked _ _) hm (State.src_refuses _ _ _) (src_stagedReg _),
    if_neg hcal]
  simp [State.cmdEffect, hcross]

theorem regRow_srcEn : ∀ n : Src, regRow (wSrc n) SRC_EN = some ⟨0x0, 1, 0, .run, 0xfffffcce, 0⟩ := by decide
theorem regRow_srcCmd : ∀ n : Src, regRow (wSrc n) SRC_CMD = some ⟨0x68, 1, 0, .cmd, 0xfffffff8, 0⟩ := by decide
theorem regRow_srcVerdict : ∀ n : Src, regRow (wSrc n) SRC_VERDICT = some ⟨0x6c, 1, 0, .cmd, 0x7ff80000, 0⟩ := by decide

/-- R49: a write of SRCn_CMD. -/
theorem State.doorWrite_srcCmd (hs : s.Ready) (hr : r ≠ .i2c) (v : Nat) :
    ∃ o, s.doorWrite r (regAddr (wSrc n) SRC_CMD) 15 v = (s.srcCmd n v).emit o := by
  have hact : s.cmdAct r (wSrc n) SRC_CMD v = s.srcCmd n v := by
    simp only [State.cmdAct, winBlock_src, if_true]
  refine ⟨_, State.doorWrite_src hr (by decide) (by decide) ?_ ?_⟩
  · rw [State.regWrite_src_cmd (regRow_srcCmd n) rfl (src_mayWrite (by decide)), hact]
  · rw [((State.SrcMoves.refl hs.1).srcCmd v).sys]
    exact hs.2.1

/-- R46, R50: a write of SRCn_EN. -/
theorem State.doorWrite_srcEn (hr : r ≠ .i2c) (v : Nat)
    (hsoft : ((s.wr (wSrc n) SRC_EN v).srcEnWritten n (s.rn (wSrc n) SRC_EN)).sys.soft = false) :
    ∃ o, s.doorWrite r (regAddr (wSrc n) SRC_EN) 15 v =
      ((s.wr (wSrc n) SRC_EN v).srcEnWritten n (s.rn (wSrc n) SRC_EN)).emit o := by
  have hview : s.view (wSrc n) SRC_EN = s.rn (wSrc n) SRC_EN := by
    have hlive : s.live (wSrc n) SRC_EN = none := by
      simp only [State.live, winBlock_src]
      rfl
    simp only [State.view, hlive, regRow_srcEn]
    rfl
  have hguard : wSrc n ≠ W_GUARD := by unfold wSrc W_SRC W_GUARD; omega
  refine ⟨_, State.doorWrite_src hr (by decide) (by decide) ?_ hsoft⟩
  have htake : s.runTake r (wSrc n) SRC_EN (s.rn (wSrc n) SRC_EN) v =
      (s.wr (wSrc n) SRC_EN v).srcEnWritten n (s.rn (wSrc n) SRC_EN) := by
    simp only [State.runTake, src_stagedReg, State.srvIgnored, winBlock_src, State.written, if_true]
    rfl
  simp [State.regWrite, regRow_srcEn, State.src_writeLocked, hguard, State.runWrite, src_mayWrite (show SRC_EN ≠ SRC_VERDICT by decide),
    State.src_refuses, hview, aliasValue, htake]

end

end Sys2Proof.Machine

namespace Sys2Proof.Machine

/-! ### Verdicts (O26) -/

/-- A command that ends with an answer at its door completes in what it leaves before the answer. -/
theorem State.To.of_emit {s u : State} {i : Instr} {P : State → Prop} (h : ∃ o, exec i s = .next (u.emit o))
    (hP : ∀ o, P (u.emit o)) : s.To i P := by
  obtain ⟨o, ho⟩ := h
  exact ⟨_, ho, hP o⟩

/-- R46, R48: a verdict recorded: SRCn_CHK takes the failing checks. -/
def State.srcSeen (s : State) (n fail : Nat) (hyst : Bool) : State :=
  (s.wr (wSrc n) SRC_CHK fail).modSrc n (fun x => { x with verdict := some ⟨fail == 0, hyst, s.tb.c⟩ })

section
variable {s : State} {n : Src}

theorem State.srcSeen_inv (h : s.Inv) (fail : Nat) (hyst : Bool) : (s.srcSeen n fail hyst).Inv :=
  (State.keeps_inv h (State.wr_keeps (State.keeps_refl s) _ _ _)).modSrc _ _

theorem State.srcSeen_qstate (fail : Nat) (hyst : Bool) : (s.srcSeen n fail hyst).qstate n = s.qstate n :=
  State.wr_qstate _ _ (by decide) (by decide)

/-- Beside SRCn_CHK the source's registers stay. -/
theorem State.srcSeen_get (fail : Nat) (hyst : Bool) (f : Fld) (ho : f.off < 0x4000) (hne : f.off ≠ SRC_CHK) :
    (s.srcSeen n fail hyst).get (wSrc n) f = s.get (wSrc n) f :=
  State.get_wr_other s _ _ _ _ _ (regAddr_src_ne _ (by decide) ho (Ne.symm hne))

theorem State.srcSeen_flag (fail : Nat) (hyst : Bool) (f : Fld) (ho : f.off < 0x4000) (hne : f.off ≠ SRC_CHK) :
    (s.srcSeen n fail hyst).flag (wSrc n) f = s.flag (wSrc n) f := by
  unfold State.flag
  rw [State.srcSeen_get fail hyst f ho hne]

theorem State.srcSeen_chk (h : s.Inv) (fail : Nat) (hyst : Bool) (hlt : fail < 2 ^ 32) :
    (s.srcSeen n fail hyst).rn (wSrc n) SRC_CHK = fail :=
  (State.rn_wr_same s h.canon _ _ _).trans (Nat.mod_eq_of_lt hlt)

theorem State.srcSeen_verdict (h : s.Inv) (fail : Nat) (hyst : Bool) :
    ((s.srcSeen n fail hyst).src n).verdict = some ⟨decide (fail = 0), hyst, s.tb.c⟩ := by
  unfold State.srcSeen
  rw [State.modSrc_src_same (State.keeps_inv h (State.wr_keeps (State.keeps_refl s) _ _ _))]
  rfl

theorem State.srcSeen_after (fail : Nat) (hyst : Bool) (u : Nat) : (s.srcSeen n fail hyst).after u = s.after u := rfl

/-- R46: an OFF or LOST source ignores a verdict. -/
theorem State.srcVerdict_of_inactive (v : Nat) (hq : s.qstate n < 2) : s.srcVerdict n v = s := by
  unfold State.srcVerdict
  exact if_pos hq

/-- Whatever the state, a verdict taken is recorded, and the source moves from there. -/
theorem State.srcVerdict_moves (h : s.Inv) (v : Nat) (hq : 2 ≤ s.qstate n) :
    (s.srcSeen n (v % 2 ^ 19) (bitOf v 31)).SrcMoves n (s.srcVerdict n v) := by
  have h1 := State.SrcMoves.refl (n := n) (State.srcSeen_inv (n := n) h (v % 2 ^ 19) (bitOf v 31))
  unfold State.srcVerdict
  dsimp only
  rw [if_neg (by omega)]
  refine .ite (fun _ => .ite (fun _ => h1) fun _ => h1.srcRecord _ _) fun _ => ?_
  refine .ite (fun _ => .ite (fun _ => h1.toPend) fun _ => h1) fun _ => .ite (fun _ => ?_) fun _ => ?_
  · refine .ite (fun _ => ?_) fun _ => h1.toUnqual
    split
    · exact .ite (fun _ => h1.toQual) fun _ => h1.toPend
    · exact h1
  · exact .ite (fun _ => .ite (fun _ => h1) fun _ => h1.srcFail _) fun _ => .ite (fun _ => h1) fun _ => h1.toUnqual

theorem State.srcVerdict_unqual (v : Nat) (hf : s.srcForce n = 0) (hq : s.qstate n = 2) :
    s.srcVerdict n v =
      if v % 2 ^ 19 = 0 ∧ bitOf v 31 then (s.srcSeen n (v % 2 ^ 19) (bitOf v 31)).toPend n
      else s.srcSeen n (v % 2 ^ 19) (bitOf v 31) := by
  simp only [State.srcVerdict, hf, hq]
  rfl

theorem State.srcVerdict_pend (v : Nat) (hf : s.srcForce n = 0) (hq : s.qstate n = 3) :
    s.srcVerdict n v =
      if v % 2 ^ 19 = 0 ∧ bitOf v 31 then
        match (s.src n).timer with
        | none => if (s.src n).expired then (s.srcSeen n (v % 2 ^ 19) (bitOf v 31)).toQual n
            else (s.srcSeen n (v % 2 ^ 19) (bitOf v 31)).toPend n
        | some _ => s.srcSeen n (v % 2 ^ 19) (bitOf v 31)
      else (s.srcSeen n (v % 2 ^ 19) (bitOf v 31)).toUnqual n := by
  simp only [State.srcVerdict, hf, hq]
  rfl

theorem State.srcVerdict_qual (v : Nat) (hf : s.srcForce n = 0) (hq : s.qstate n = 4) :
    s.srcVerdict n v =
      if v % 2 ^ 19 = 0 then s.srcSeen n (v % 2 ^ 19) (bitOf v 31)
      else (s.srcSeen n (v % 2 ^ 19) (bitOf v 31)).srcFail n (v % 2 ^ 19) := by
  simp only [State.srcVerdict, hf, hq]
  rfl

theorem State.srcVerdict_held (v : Nat) (hf : s.srcForce n = 0) (hq : s.qstate n = 5) :
    s.srcVerdict n v =
      if v % 2 ^ 19 = 0 then s.srcSeen n (v % 2 ^ 19) (bitOf v 31)
      else (s.srcSeen n (v % 2 ^ 19) (bitOf v 31)).toUnqual n := by
  simp only [State.srcVerdict, hf, hq]
  rfl

/-- R46: the cause is the lowest failing check. -/
theorem lowestBit_spec {fail : Nat} (hlt : fail < 2 ^ 19) (hne : fail ≠ 0) :
    lowestBit fail < 19 ∧ bitOf fail (lowestBit fail) = true ∧ ∀ b, b < lowestBit fail → bitOf fail b = false := by
  obtain ⟨i, hi⟩ := Nat.exists_testBit_of_ne_zero hne
  have hi19 : i < 19 := by
    by_contra hge
    have := Nat.ge_two_pow_of_testBit hi
    have := Nat.pow_le_pow_right (show 0 < 2 by decide) (Nat.le_of_not_lt hge)
    omega
  unfold lowestBit
  cases hfind : (List.range 19).find? (fun b => bitOf fail b) with
  | none =>
    have := List.find?_eq_none.mp hfind i (List.mem_range.mpr hi19)
    rw [bitOf_eq_testBit, hi] at this
    exact absurd rfl this
  | some c =>
    rw [Option.getD_some]
    rw [List.find?_range_eq_some] at hfind
    obtain ⟨hc, hmem, hlow⟩ := hfind
    exact ⟨List.mem_range.mp hmem, hc, fun b hb => by simpa using hlow b hb⟩

/-- R46: a failing check disqualifies a QUAL source, with the lowest as its cause. -/
theorem State.srcFail_spec (h : s.Inv) (fail : Nat) (hc : lowestBit fail < 256) :
    (s.srcFail n fail).qstate n = 2 ∧ (s.srcFail n fail).evPending (evNo (1 + n / 6) (5 * (n % 6) + 2)) = true ∧
      (s.srcFail n fail).get (wSrc n) SRC_STS_CAUSE = lowestBit fail := by
  have hu := (State.SrcMoves.refl (n := n) h).toUnqual
  have hd := hu.srcDisq (lowestBit fail)
  have hq : ((s.toUnqual n).srcDisq n (lowestBit fail)).qstate n = 2 := by
    rw [State.srcDisq_qstate, State.toUnqual_qstate h]
  have hev := State.srcDisq_evPending (n := n) hu.inv (lowestBit fail)
  have hcause := State.srcDisq_cause (n := n) hu.inv (lowestBit fail) hc
  have hdrift (u : State) (f : Fld) : (u.driftSeen n).get (wSrc n) f = u.get (wSrc n) f := by
    unfold State.driftSeen
    split <;> rfl
  unfold State.srcFail
  dsimp only
  split
  · refine ⟨?_, (((State.SrcMoves.refl hd.inv).sts 8).srcEvent 3 (by decide)).driftSeen.event _
      (evNo_src_lt n 2 (by decide)) hev, ?_⟩
    · unfold State.qstate
      rw [hdrift]
      exact (State.srcEvent_qstate 3 (by decide)).trans ((State.sts_qstate 8).trans hq)
    · rw [hdrift, State.srcEvent_get n 3 (by decide) _ (by decide),
        show SRC_STS = SRC_STS_CAUSE.off from rfl, State.get_sts_low _ hd.inv.canon _ _ _ (by decide), hcause]
      exact Nat.or_zero _
  · exact ⟨hq, hev, hcause⟩

theorem exec_srcVerdictWrite (hs : s.Ready) (v : Word) :
    ∃ o, exec (.srcVerdictWrite (.eng (monOf n)) n v) s = .next ((s.srcVerdict n v.toNat).emit o) := by
  have hact : s.cmdAct (.eng (monOf n)) (wSrc n) SRC_VERDICT v.toNat = s.srcVerdict n v.toNat := by
    simp only [State.cmdAct, winBlock_src, if_neg (show SRC_VERDICT ≠ SRC_CMD by decide), if_true]
  have hsoft : (s.srcVerdict n v.toNat).sys.soft = false := by
    by_cases hq : s.qstate n < 2
    · rw [State.srcVerdict_of_inactive _ hq]
      exact hs.2.1
    · rw [(State.srcVerdict_moves hs.1 v.toNat (by omega)).sys]
      exact hs.2.1
  refine ⟨_, congrArg _ (State.doorWrite_src (by nofun) (by decide) (by decide) ?_ hsoft)⟩
  rw [State.regWrite_src_cmd (regRow_srcVerdict n) rfl (src_mayWrite_verdict n), hact]

end

end Sys2Proof.Machine

namespace Sys2Proof.Machine

/-- Settles O26: a verdict taken is recorded first (`srcSeen`), and each state's branch is one move from there. -/
theorem sourceVerdicts : Obligations.SourceVerdicts := by
  unfold Obligations.SourceVerdicts
  intro s n v hs hf q w fail pass first wait V
  have hi := hs.1
  have hV {P : State → Prop} (hP : ∀ o, P ((s.srcVerdict n v.toNat).emit o)) : V P := .of_emit (exec_srcVerdictWrite hs v) hP
  have hmsb : bitOf v.toNat 31 = v.msb := by rw [bitOf_toNat, BitVec.msb_eq_getLsbD_last]
  have hlt : fail < 2 ^ 19 := Nat.mod_lt _ (by decide)
  have hpass : (v.toNat % 2 ^ 19 = 0 ∧ bitOf v.toNat 31 = true) ↔ pass = true := by simp [pass, fail, hmsb]
  have hseen := State.srcSeen_inv (n := n) hi fail (bitOf v.toNat 31)
  have hqseen := State.srcSeen_qstate (s := s) (n := n) fail (bitOf v.toNat 31)
  have hfirst := State.srcSeen_flag (s := s) (n := n) fail (bitOf v.toNat 31) SRC_STATE_FIRST (by decide) (by decide)
  have hwtr := State.srcSeen_get (s := s) (n := n) fail (bitOf v.toNat 31) SRC_WTR_WTR (by decide) (by decide)
  have hfq := State.srcSeen_get (s := s) (n := n) fail (bitOf v.toNat 31) SRC_QCTL_FIRSTQ (by decide) (by decide)
  refine ⟨fun hq => hV ?_, fun hq => hV ?_, fun hq hp => hV ?_, fun hq hp hw => hV ?_, fun hq hp h1 hw => hV ?_,
    fun hq hp => hV ?_, fun hq hp ht he => hV ?_, fun hq h0 => hV ?_, fun hq h0 => hV ?_, fun hq => hV ?_⟩
  · intro o
    rw [State.srcVerdict_of_inactive _ hq]
    exact ⟨rfl, rfl, rfl⟩
  · intro o
    have hm := State.srcVerdict_moves hi v.toNat hq
    rw [State.emit_rn, State.emit_src]
    refine ⟨(hm.reg SRC_CHK (by decide) (by decide) (by decide)).trans (State.srcSeen_chk hi _ _ (by omega)), ?_⟩
    rw [hm.verdict, State.srcSeen_verdict hi, hmsb]
  · intro o
    rw [State.emit_qstate, State.srcVerdict_unqual _ hf hq, if_neg (by rw [hpass, hp]; decide), hqseen]
    exact hq
  · intro o
    have hto := State.toPend_waits hseen (by rw [hfirst, hwtr]; exact hw)
    rw [hfirst, hfq, hwtr, State.srcSeen_after] at hto
    rw [State.emit_qstate, State.emit_src, State.srcVerdict_unqual _ hf hq, if_pos (hpass.mpr hp)]
    exact hto
  · intro o
    rw [State.emit_qstate, State.emit_evPending, State.srcVerdict_unqual _ hf hq, if_pos (hpass.mpr hp),
      State.toPend_at_once (hfirst.trans h1) (hwtr.trans hw)]
    exact ⟨State.toQual_qstate hseen, State.toQual_evPending hseen⟩
  · intro o
    rw [State.emit_qstate, State.emit_src, State.srcVerdict_pend _ hf hq, if_neg (by rw [hpass, hp]; decide)]
    exact ⟨State.toUnqual_qstate hseen, State.toUnqual_timer hseen⟩
  · intro o
    rw [State.emit_qstate, State.srcVerdict_pend _ hf hq, if_pos (hpass.mpr hp), ht]
    dsimp only
    rw [if_pos he]
    exact State.toQual_qstate hseen
  · intro o
    rw [State.emit_qstate, State.srcVerdict_qual _ hf hq, if_pos h0, hqseen]
    exact hq
  · intro o
    obtain ⟨hc19, hset, hlow⟩ := lowestBit_spec hlt h0
    obtain ⟨hun, hev, hcause⟩ := State.srcFail_spec (n := n) hseen fail (by omega)
    have hbit (b : Nat) (hb : b < 19) : v.getLsbD b = bitOf fail b := by
      rw [← bitOf_toNat, bitOf_eq_testBit, bitOf_eq_testBit, Nat.testBit_mod_two_pow, decide_eq_true hb, Bool.true_and]
    rw [State.emit_qstate, State.emit_evPending, State.emit_get, State.srcVerdict_qual _ hf hq, if_neg h0, hcause]
    refine ⟨hun, hev, ?_, fun b hb => ?_⟩
    · rw [hbit _ hc19, hset]
    · rw [hbit _ (by omega), hlow b hb]
  · intro o
    rw [State.emit_qstate, State.srcVerdict_held _ hf hq]
    split
    · rw [hqseen]
      exact hq
    · exact State.toUnqual_qstate hseen

end Sys2Proof.Machine

namespace Sys2Proof.Machine

/-! ### The source's commands (O27) -/

section
variable {s : State} {r : Req} {n : Src}

/-- What a FORCE field acts as: 3 acts as AUTO (R50). -/
theorem State.srcForce_eq (s : State) (n : Nat) :
    s.srcForce n = if bitsOf (s.rn (wSrc n) SRC_EN) 4 2 = 3 then 0 else bitsOf (s.rn (wSrc n) SRC_EN) 4 2 := rfl

theorem State.srcEnable_flag (s : State) (n : Nat) : s.flag (wSrc n) SRC_EN_ENABLE = bitOf (s.rn (wSrc n) SRC_EN) 0 := by
  have hlt := bitsOf_lt (s.rn (wSrc n) SRC_EN) 0 1
  have hbit : (bitsOf (s.rn (wSrc n) SRC_EN) 0 1 != 0) = decide (bitsOf (s.rn (wSrc n) SRC_EN) 0 1 = 1) := by
    rw [Bool.eq_iff_iff, bne_iff_ne, decide_eq_true_iff]
    omega
  exact hbit

/-- R49: ACCEPT. -/
theorem State.srcAccept_qstate (h : s.Inv) :
    (s.srcAccept n).qstate n = if s.qstate n = 5 ∧ s.srcForce n = 0 then
      (if (s.src n).verdict.any (fun x => x.pass) then 4 else 2) else s.qstate n := by
  unfold State.srcAccept
  by_cases hheld : s.qstate n = 5 ∧ s.srcForce n = 0
  · rw [if_neg (by simp [hheld]), if_pos hheld]
    dsimp only
    have h1 : (if s.get (wSrc n) SRC_STATE_HOLDCAUSE = 1 then s.modSrc n (fun x => { x with pass := List.replicate 4 true })
        else s).Inv := by
      split
      · exact h.modSrc _ _
      · exact h
    cases (s.src n).verdict with
    | none => exact State.toUnqual_qstate h1
    | some v =>
      simp only [Option.any_some]
      split
      · exact State.toQual_qstate h1
      · exact State.toUnqual_qstate h1
  · rw [if_pos (by omega), if_neg hheld]

/-- R46, R49: a hold by the host. -/
theorem State.srcHoldAs_host (h : s.Inv) :
    (s.srcHoldAs n 2).qstate n = (if (s.qstate n = 3 ∨ s.qstate n = 4) ∧ s.srcForce n = 0 then 5 else s.qstate n) ∧
      (s.qstate n = 3 ∨ s.qstate n = 4 → s.srcForce n = 0 → (s.srcHoldAs n 2).get (wSrc n) SRC_STATE_HOLDCAUSE = 2) := by
  have h1 := (State.SrcMoves.refl (n := n) h).srcClearWait.inv
  have h2 := ((State.SrcMoves.refl (n := n) h).srcClearWait.setQ 5).inv
  unfold State.srcHoldAs
  dsimp only
  by_cases hq : s.qstate n = 3 ∨ s.qstate n = 4
  · by_cases hf : s.srcForce n = 0
    · rw [if_pos hq, if_pos hf, if_neg (by decide), if_pos ⟨hq, hf⟩]
      refine ⟨?_, fun _ _ => State.get_put_same _ h2.canon _ _ _ (by decide)⟩
      rw [State.putState_qstate h2 _ _ rfl (by decide), State.setQ_qstate h1 5 (by decide)]
    · rw [if_pos hq, if_neg hf, if_neg (by decide), if_neg (fun hc => hf hc.2)]
      exact ⟨rfl, fun _ hc => absurd hc hf⟩
  · rw [if_neg hq, if_neg (fun hc => hq hc.1)]
    exact ⟨rfl, fun hc => absurd hc hq⟩

/-- The first `k` of SRCn_MTIEi and SRCn_TDEVi all ones, as CLRSTAT and a cleared history leave all five. -/
def State.statsOnes (s : State) (n k : Nat) : State :=
  (List.range k).foldl (fun t i => (t.wr (wSrc n) (SRC_MTIE0 + 4 * i) (2 ^ 32 - 1)).wr (wSrc n) (SRC_TDEV0 + 4 * i) (2 ^ 32 - 1)) s

theorem State.statsOnes_succ (s : State) (n k : Nat) : s.statsOnes n (k + 1) =
    ((s.statsOnes n k).wr (wSrc n) (SRC_MTIE0 + 4 * k) (2 ^ 32 - 1)).wr (wSrc n) (SRC_TDEV0 + 4 * k) (2 ^ 32 - 1) := by
  unfold State.statsOnes
  rw [List.range_succ, List.foldl_append]
  rfl

theorem State.statsOnes_canon (h : s.Canon) (m k : Nat) : (s.statsOnes m k).Canon := by
  induction k with
  | zero => exact h
  | succ k ih =>
    rw [State.statsOnes_succ]
    exact State.wr_canon (State.wr_canon ih _ _ _) _ _ _

/-- The registers before the statistics stay. -/
theorem State.statsOnes_rn (m k off : Nat) (hk : k ≤ 5) (ho : off < SRC_MTIE0) :
    (s.statsOnes m k).rn (wSrc m) off = s.rn (wSrc m) off := by
  unfold SRC_MTIE0 at ho
  induction k with
  | zero => rfl
  | succ k ih =>
    rw [State.statsOnes_succ, State.rn_wr_other _ _ _ _ _ _ (regAddr_src_ne _ (by unfold SRC_TDEV0; omega) (by omega)
        (by unfold SRC_TDEV0; omega)),
      State.rn_wr_other _ _ _ _ _ _ (regAddr_src_ne _ (by unfold SRC_MTIE0; omega) (by omega) (by unfold SRC_MTIE0; omega)),
      ih (by omega)]

theorem State.statsOnes_ones (h : s.Canon) (m k i : Nat) (hk : k ≤ 5) (hi : i < k) :
    (s.statsOnes m k).rn (wSrc m) (SRC_MTIE0 + 4 * i) = 2 ^ 32 - 1 ∧
      (s.statsOnes m k).rn (wSrc m) (SRC_TDEV0 + 4 * i) = 2 ^ 32 - 1 := by
  induction k with
  | zero => omega
  | succ k ih =>
    have hc := State.statsOnes_canon h m k
    have haddr (o o' : Nat) (h1 : o < 0x4000) (h2 : o' < 0x4000) (hne : o ≠ o') := regAddr_src_ne m h1 h2 hne
    rw [State.statsOnes_succ]
    by_cases hik : i = k
    · subst hik
      refine ⟨?_, State.rn_wr_same _ (State.wr_canon hc _ _ _) _ _ _⟩
      rw [State.rn_wr_other _ _ _ _ _ _ (haddr _ _ (by unfold SRC_TDEV0; omega) (by unfold SRC_MTIE0; omega)
        (by unfold SRC_TDEV0 SRC_MTIE0; omega)), State.rn_wr_same _ hc]
      decide
    · have hlow (o : Nat) (h1 : o < 0x4000) (h2 : o ≠ SRC_MTIE0 + 4 * k) (h3 : o ≠ SRC_TDEV0 + 4 * k) (u : State) :
          ((u.wr (wSrc m) (SRC_MTIE0 + 4 * k) (2 ^ 32 - 1)).wr (wSrc m) (SRC_TDEV0 + 4 * k) (2 ^ 32 - 1)).rn (wSrc m) o =
            u.rn (wSrc m) o := by
        rw [State.rn_wr_other _ _ _ _ _ _ (haddr _ _ (by unfold SRC_TDEV0; omega) h1 (Ne.symm h3)),
          State.rn_wr_other _ _ _ _ _ _ (haddr _ _ (by unfold SRC_MTIE0; omega) h1 (Ne.symm h2))]
      obtain ⟨hm, ht⟩ := ih (by omega) (by omega)
      rw [hlow _ (by unfold SRC_MTIE0; omega) (by omega) (by unfold SRC_MTIE0 SRC_TDEV0; omega),
        hlow _ (by unfold SRC_TDEV0; omega) (by unfold SRC_MTIE0 SRC_TDEV0; omega) (by omega)]
      exact ⟨hm, ht⟩

/-- R49: CLRSTAT. -/
theorem State.srcClrStat_eq (s : State) (n : Nat) :
    s.srcClrStat n = ((s.modSrc n (fun x =>
      { x with mtie := List.replicate 5 MtieSt.empty, tdev := List.replicate 5 TdevSt.empty, pdFrom := s.tb.c })).wr
        (wSrc n) SRC_PDRIFT 0x8000_0000).statsOnes n 5 := rfl

theorem State.srcClrStat_get (f : Fld) (ho : f.off < SRC_PDRIFT) : (s.srcClrStat n).get (wSrc n) f = s.get (wSrc n) f := by
  unfold SRC_PDRIFT at ho
  unfold State.get
  rw [State.srcClrStat_eq, State.statsOnes_rn _ _ _ (by decide) (by unfold SRC_MTIE0; omega),
    State.rn_wr_other _ _ _ _ _ _ (regAddr_src_ne _ (by decide) (by omega) (by unfold SRC_PDRIFT; omega)), State.modSrc_rn]

theorem State.srcClrStat_results (h : s.Inv) : (s.srcClrStat n).rn (wSrc n) SRC_PDRIFT = 0x8000_0000 ∧
    ∀ i, i < 5 → (s.srcClrStat n).rn (wSrc n) (SRC_MTIE0 + 4 * i) = 2 ^ 32 - 1 ∧
      (s.srcClrStat n).rn (wSrc n) (SRC_TDEV0 + 4 * i) = 2 ^ 32 - 1 := by
  rw [State.srcClrStat_eq]
  refine ⟨?_, fun i hi => State.statsOnes_ones (State.wr_canon (h.modSrc _ _).canon _ _ _) n 5 i (by decide) hi⟩
  rw [State.statsOnes_rn _ _ _ (by decide) (by decide), State.rn_wr_same _ (h.modSrc _ _).canon]
  decide

/-- R49: the state that ACCEPT and HOLD, where written, leave a source in. -/
def cmdState (q force : Nat) (passed accept hold : Bool) : Nat :=
  let q1 := if accept = true ∧ q = 5 ∧ force = 0 then (if passed then 4 else 2) else q
  if hold = true ∧ (q1 = 3 ∨ q1 = 4) ∧ force = 0 then 5 else q1

/-- R49: the bits of SRCn_CMD act in their order. -/
theorem State.srcCmd_qstate (h : s.Inv) (v : Nat) :
    (s.srcCmd n v).qstate n =
      cmdState (s.qstate n) (s.srcForce n) ((s.src n).verdict.any (fun x => x.pass)) (bitOf v 0) (bitOf v 1) := by
  have h1 : s.SrcMoves n (if bitOf v 0 then s.srcAccept n else s) := .ite (fun _ => (State.SrcMoves.refl h).srcAccept) fun _ => .refl h
  have hq1 : (if bitOf v 0 then s.srcAccept n else s).qstate n = if bitOf v 0 = true ∧ s.qstate n = 5 ∧ s.srcForce n = 0 then
      (if (s.src n).verdict.any (fun x => x.pass) then 4 else 2) else s.qstate n := by
    cases bitOf v 0
    · simp
    · simp [State.srcAccept_qstate h]
  have hclr (u : State) : (if bitOf v 2 then u.srcClrStat n else u).qstate n = u.qstate n := by
    split
    · exact State.srcClrStat_get _ (by decide)
    · rfl
  unfold State.srcCmd cmdState
  dsimp only
  rw [hclr]
  cases bitOf v 1
  · simp [hq1]
  · simp [(State.srcHoldAs_host h1.inv).1, h1.srcForce, hq1]

/-- R49: a HOLD without ACCEPT shows its cause, HOST. -/
theorem State.srcCmd_hold (h : s.Inv) (v : Nat) (ha : bitOf v 0 = false) (hh : bitOf v 1 = true)
    (hq : s.qstate n = 3 ∨ s.qstate n = 4) (hf : s.srcForce n = 0) : (s.srcCmd n v).get (wSrc n) SRC_STATE_HOLDCAUSE = 2 := by
  have hcause := (State.srcHoldAs_host h).2 hq hf
  unfold State.srcCmd
  simp only [ha, hh, if_true, Bool.false_eq_true, if_false]
  split
  · rw [State.srcClrStat_get _ (by decide), hcause]
  · exact hcause

theorem State.srcCmd_clrstat (h : s.Inv) (v : Nat) (hc : bitOf v 2 = true) : ∃ u : State, u.Inv ∧ s.srcCmd n v = u.srcClrStat n := by
  have h1 : s.SrcMoves n (if bitOf v 0 then s.srcAccept n else s) := .ite (fun _ => (State.SrcMoves.refl h).srcAccept) fun _ => .refl h
  have h2 : s.SrcMoves n (if bitOf v 1 then (if bitOf v 0 then s.srcAccept n else s).srcHoldAs n 2
      else (if bitOf v 0 then s.srcAccept n else s)) := .ite (fun _ => h1.srcHoldAs 2) fun _ => h1
  exact ⟨_, h2.inv, if_pos hc⟩

end

end Sys2Proof.Machine

namespace Sys2Proof.Machine

/-! ### Enabling, disabling and forcing a source (O27) -/

section
variable {s : State} {r : Req} {n : Src}

theorem State.Inv.wr (h : s.Inv) (w off v : Nat) : (s.wr w off v).Inv :=
  State.keeps_inv h (State.wr_keeps (State.keeps_refl s) w off v)

theorem State.Inv.put (h : s.Inv) (w : Nat) (f : Fld) (v : Nat) : (s.put w f v).Inv := h.wr _ _ _

theorem State.Inv.putPair (h : s.Inv) (w off v : Nat) : (s.putPair w off v).Inv := (h.wr _ _ _).wr _ _ _

theorem State.Inv.count (h : s.Inv) (w off k : Nat) : (s.count w off k).Inv := h.wr _ _ _

/-- What ENABLE = 1 makes of a source: LOST, FIRST = 1, its counts cleared, its bucket full; no event of its own. -/
structure State.EnabledFrom (s : State) (n : Src) (t : State) : Prop where
  sys : t.sys = s.sys
  qstate : t.qstate n = 1
  first : t.get (wSrc n) SRC_STATE_FIRST = 1
  edges : t.rn (wSrc n) SRC_EDGES = 0
  chk : t.rn (wSrc n) SRC_CHK = 0
  en : t.rn (wSrc n) SRC_EN = s.rn (wSrc n) SRC_EN
  bucket : (t.src n).bucket = s.actLim n
  event : ∀ e, e < evNo 4 20 → t.evPending e = s.evPending e

theorem State.srcClearHist_evPending (next : Bool) (e : Nat) (he : e < 512) :
    (s.srcClearHist n next).evPending e = s.evPending e := by
  unfold State.evPending
  rw [State.srcClearHist_rn n next _ _ (by unfold EVT_PEND; omega) (.inl (Ne.symm (wSrc_ne_evt n)))]

theorem State.srcOn_enabled (h : s.Inv) : s.EnabledFrom n (s.srcOn n) := by
  have ha : (s.put (wSrc n) SRC_STATE_FBASIS (b2n s.mon.xoLost)).Inv := h.put _ _ _
  have hb := (State.SrcMoves.refl (n := n) ha).srcClearHist false
  have hc := hb.inv.modSrc n (fun x => { x with
    bucket := s.actLim n, missed := 0, lastEdge := none, index := none, verdict := none, since := s.tb.c,
    pass := List.replicate 4 false, newest := [] })
  have hd := (State.SrcMoves.refl (n := n) hc).setQ 1
  have he := hd.putState SRC_STATE_FIRST 1 rfl (by decide)
  have hwr (u : State) (off o v : Nat) (h1 : off < 0x4000) (h2 : o < 0x4000) (hne : o ≠ off) :
      (u.wr (wSrc n) o v).rn (wSrc n) off = u.rn (wSrc n) off :=
    State.rn_wr_other u _ _ _ _ _ (regAddr_src_ne _ h2 h1 hne)
  unfold State.srcOn
  dsimp only
  refine ⟨he.sys.trans hb.sys, ?_, ?_, ?_, ?_, ?_, ?_, fun e hlt => ?_⟩
  · rw [State.wr_qstate _ _ (by decide) (by decide), State.wr_qstate _ _ (by decide) (by decide),
      State.putState_qstate hd.inv _ _ rfl (by decide), State.setQ_qstate hc 1 (by decide)]
  · rw [State.get_wr_other _ _ _ _ _ _ (regAddr_src_ne _ (by decide) (by decide) (by decide)),
      State.get_wr_other _ _ _ _ _ _ (regAddr_src_ne _ (by decide) (by decide) (by decide)),
      State.get_put_same _ hd.inv.canon _ _ _ (by decide)]
    rfl
  · rw [hwr _ _ _ _ (by decide) (by decide) (by decide), State.rn_wr_same _ he.inv.canon]
    rfl
  · rw [State.rn_wr_same _ (State.wr_canon he.inv.canon _ _ _)]
    rfl
  · rw [hwr _ _ _ _ (by decide) (by decide) (by decide), hwr _ _ _ _ (by decide) (by decide) (by decide),
      he.reg SRC_EN (by decide) (by decide) (by decide), State.modSrc_rn, hb.reg SRC_EN (by decide) (by decide) (by decide)]
    exact hwr _ _ _ _ (by decide) (by decide) (by decide)
  · refine he.bucket.trans ?_
    rw [State.modSrc_src_same hb.inv]
  · have he512 : e < 512 := by unfold evNo at hlt; omega
    have hout (u : State) (o v : Nat) (h2 : o < 0x4000) := State.wr_evPending (s := u) (wSrc n) o v e (wSrc_ne_evt n) h2 he512
    rw [hout _ _ _ (by decide), hout _ _ _ (by decide)]
    refine (hout _ _ _ (by decide)).trans ?_
    rw [State.setQ_evPending hc _ _ hlt, State.modSrc_evPending, State.srcClearHist_evPending _ _ he512]
    exact hout _ _ _ (by decide)

/-- R46: ENABLE = 0. -/
theorem State.srcOff_spec (h : s.Inv) : (s.srcOff n).qstate n = 0 ∧ ((s.srcOff n).src n).timer = none ∧
    (s.qstate n = 4 → (s.srcOff n).evPending (evNo (1 + n / 6) (5 * (n % 6) + 2)) = true ∧
      (s.srcOff n).get (wSrc n) SRC_STS_CAUSE = 0x21) := by
  have h1 := (State.SrcMoves.refl (n := n) h).srcClearWait
  have h2 := h1.setQ 0
  have hq := State.setQ_qstate (n := n) h1.inv 0 (by decide)
  have ht := (State.setQ_timer (n := n) h1.inv 0).trans (State.srcClearWait_timer h)
  unfold State.srcOff
  dsimp only
  split
  · rw [State.srcDisq_qstate, State.srcDisq_src]
    exact ⟨hq, ht, fun _ => ⟨State.srcDisq_evPending h2.inv _, State.srcDisq_cause h2.inv _ (by decide)⟩⟩
  · rename_i h4
    exact ⟨hq, ht, fun hc => absurd hc h4⟩

/-- R50: FORCE = OFF. -/
theorem State.srcForced_off (h : s.Inv) :
    (s.srcForced n 1).qstate n = (if 2 ≤ s.qstate n ∧ s.qstate n ≤ 5 then 2 else s.qstate n) ∧
      (s.qstate n = 4 → (s.srcForced n 1).evPending (evNo (1 + n / 6) (5 * (n % 6) + 2)) = true ∧
        (s.srcForced n 1).get (wSrc n) SRC_STS_CAUSE = 0x20) := by
  have hu := (State.SrcMoves.refl (n := n) h).toUnqual
  have hq := State.toUnqual_qstate (n := n) h
  unfold State.srcForced
  dsimp only
  rw [if_pos rfl]
  by_cases h4 : s.qstate n = 4
  · rw [if_pos h4, State.srcDisq_qstate, hq, h4]
    exact ⟨rfl, fun _ => ⟨State.srcDisq_evPending hu.inv _, State.srcDisq_cause hu.inv _ (by decide)⟩⟩
  · refine ⟨?_, fun hc => absurd hc h4⟩
    rw [if_neg h4]
    split
    · rw [hq, if_pos (by omega)]
    · split
      · omega
      · rfl

/-- R50: FORCE = QUAL. -/
theorem State.srcForced_qual (h : s.Inv) :
    (s.srcForced n 2).qstate n = (if s.qstate n = 2 ∨ s.qstate n = 3 ∨ s.qstate n = 5 then 4 else s.qstate n) ∧
      (s.qstate n = 2 ∨ s.qstate n = 3 ∨ s.qstate n = 5 →
        (s.srcForced n 2).evPending (evNo (1 + n / 6) (5 * (n % 6) + 1)) = true ∧
        (s.srcForced n 2).get (wSrc n) SRC_STATE_FIRST = 0) := by
  unfold State.srcForced
  dsimp only
  rw [if_neg (by decide), if_pos rfl]
  split
  · exact ⟨State.toQual_qstate h, fun _ => ⟨State.toQual_evPending h, State.toQual_first h⟩⟩
  · rename_i hno
    exact ⟨rfl, fun hc => absurd hc hno⟩

/-- R50: FORCE = AUTO. -/
theorem State.srcForced_auto (h : s.Inv) :
    (s.srcForced n 0).qstate n = s.qstate n ∧ ((s.srcForced n 0).src n).timer = none := by
  unfold State.srcForced
  dsimp only
  rw [if_neg (by decide), if_neg (by decide), State.modSrc_src_same h]
  exact ⟨rfl, rfl⟩

/-- A LOST source stays as it is whatever FORCE becomes, but for its timer. -/
theorem State.EnabledFrom.srcForced {t : State} (e : s.EnabledFrom n t) (ht : t.Inv) (f : Nat) : s.EnabledFrom n (t.srcForced n f) := by
  unfold State.srcForced
  simp only [e.qstate]
  split
  · exact e
  · split
    · exact e
    · refine ⟨e.sys, e.qstate, e.first, e.edges, e.chk, e.en, ?_, e.event⟩
      rw [State.modSrc_src_same ht]
      exact e.bucket

/-- What a write of SRCn_EN that sets ENABLE does (R46). -/
theorem State.srcEnWritten_enable (h : s.Inv) (old : Nat) (hon : s.flag (wSrc n) SRC_EN_ENABLE = true)
    (hold : bitOf old 0 = false) : s.EnabledFrom n (s.srcEnWritten n old) := by
  have hinv : (s.srcOn n).Inv := State.keeps_inv h (State.srcOn_keeps (State.keeps_refl s) n)
  unfold State.srcEnWritten
  generalize (if bitsOf old 4 2 = 3 then 0 else bitsOf old 4 2) = f0
  simp only [hon, hold, Bool.false_eq_true, not_false_eq_true, and_self, if_true, true_and]
  split
  · exact (State.srcOn_enabled h).srcForced hinv _
  · exact State.srcOn_enabled h

theorem State.srcEnWritten_disable (old : Nat) (hon : s.flag (wSrc n) SRC_EN_ENABLE = false) (hold : bitOf old 0 = true) :
    s.srcEnWritten n old = s.srcOff n := by
  unfold State.srcEnWritten
  simp [hon, hold]

theorem State.srcEnWritten_force (old : Nat) (hon : s.flag (wSrc n) SRC_EN_ENABLE = true) (hold : bitOf old 0 = true)
    (hf : s.srcForce n ≠ if bitsOf old 4 2 = 3 then 0 else bitsOf old 4 2) :
    s.srcEnWritten n old = s.srcForced n (s.srcForce n) := by
  unfold State.srcEnWritten
  simp [hon, hold, hf]

end

end Sys2Proof.Machine

namespace Sys2Proof.Machine

section
variable {s : State} {r : Req} {n : Src}

/-- R49: each command of SRCn_CMD is a write of that register with its bit set. -/
theorem exec_srcCmdBit (hs : s.Ready) (hr : r ≠ .i2c) (b : Nat) (v : Word) :
    ∃ o, s.wrFld r (wSrc n) ⟨SRC_CMD, b, 1⟩ 1 v = (s.srcCmd n (putBits v.toNat b 1 1)).emit o :=
  State.doorWrite_srcCmd hs hr _

/-- R46, R50: what a write of SRCn_EN leaves, once the register holds the value written. -/
theorem exec_srcEnWrite (hr : r ≠ .i2c) (x : Nat) {P : State → Prop} {i : Instr}
    (hexec : exec i s = .next (s.doorWrite r (regAddr (wSrc n) SRC_EN) 15 x))
    (hsoft : ((s.wr (wSrc n) SRC_EN x).srcEnWritten n (s.rn (wSrc n) SRC_EN)).sys.soft = false)
    (hP : ∀ o, P (((s.wr (wSrc n) SRC_EN x).srcEnWritten n (s.rn (wSrc n) SRC_EN)).emit o)) : s.To i P := by
  obtain ⟨o, ho⟩ := State.doorWrite_srcEn (s := s) (n := n) hr x hsoft
  exact .of_emit ⟨o, hexec.trans (congrArg _ ho)⟩ hP

/-- SRCn_EN just written. -/
theorem State.srcEn_written (h : s.Inv) (x : Nat) :
    (s.wr (wSrc n) SRC_EN x).flag (wSrc n) SRC_EN_ENABLE = bitOf x 0 ∧
      (s.wr (wSrc n) SRC_EN x).srcForce n = if bitsOf x 4 2 = 3 then 0 else bitsOf x 4 2 := by
  rw [State.srcEnable_flag, State.srcForce_eq, State.rn_wr_same s h.canon, bitsOf_mod32 _ _ _ (by decide), bitOf_eq_testBit,
    bitOf_eq_testBit, Nat.testBit_mod_two_pow]
  exact ⟨by simp, rfl⟩

end

/-- Settles O27: SRCn_CMD acts bit by bit (`cmdState`); a write of SRCn_EN enables, disables or forces. -/
theorem sourceCommands : Obligations.SourceCommands := by
  unfold Obligations.SourceCommands
  intro s r n v hs hr w q f ev f' passed Q
  have hi := hs.1
  have hbit (b : Nat) : bitOf v.toNat b = v.getLsbD b := bitOf_toNat v b
  have hone (b : Nat) : bitOf (putBits v.toNat b 1 1) b = true := by rw [bitOf_putBits_one]; rfl
  have hother (b c : Nat) (hne : c < b ∨ b + 1 ≤ c) : bitOf (putBits v.toNat b 1 1) c = v.getLsbD c := by
    rw [bitOf_putBits_other _ _ _ _ _ hne, hbit]
  have hev (x e : Nat) (he : e < 5) : (s.wr (wSrc n) SRC_EN x).evPending (evNo (1 + n / 6) (5 * (n % 6) + e)) = ev s e :=
    State.wr_evPending _ _ _ _ (wSrc_ne_evt n) (by decide) (evNo_src_lt n e he)
  have hqw (x : Nat) : (s.wr (wSrc n) SRC_EN x).qstate n = q := State.wr_qstate _ _ (by decide) (by decide)
  refine ⟨fun _ hoff => ?_, fun hon => ?_, fun hon hset hne => ?_, ?_, ?_, ?_⟩
  · have hw := State.srcEn_written (s := s) (n := n) hi (putBits v.toNat 0 1 1)
    have hen := State.srcEnWritten_enable (hi.wr (wSrc n) SRC_EN (putBits v.toNat 0 1 1)) (s.rn (wSrc n) SRC_EN)
      (hw.1.trans (hone 0)) (by rw [← State.srcEnable_flag, hoff])
    refine exec_srcEnWrite hr (putBits v.toNat 0 1 1) rfl (by rw [hen.sys]; exact hs.2.1) fun o => ?_
    refine ⟨hen.qstate, ?_, hen.first, hen.edges, hen.chk, hen.bucket.trans ?_, ?_⟩
    · rw [State.emit_flag, State.srcEnable_flag, hen.en, ← State.srcEnable_flag, hw.1, hone]
    · exact congrArg (max 1) (State.get_wr_other s _ _ _ _ _ (regAddr_src_ne _ (by decide) (by decide) (by decide)))
    · exact (hen.event _ (by unfold evNo; omega)).trans (hev _ 0 (by decide))
  · have hw := State.srcEn_written (s := s) (n := n) hi (putBits v.toNat 0 1 0)
    have hzero : bitOf (putBits v.toNat 0 1 0) 0 = false := by rw [bitOf_putBits_one]; rfl
    have hdis := State.srcEnWritten_disable (n := n) (s.rn (wSrc n) SRC_EN) (hw.1.trans hzero)
      (by rw [← State.srcEnable_flag]; exact hon)
    have hm := (State.SrcMoves.refl (n := n) (hi.wr (wSrc n) SRC_EN (putBits v.toNat 0 1 0))).srcOff
    obtain ⟨h0, htimer, hdisq⟩ := State.srcOff_spec (n := n) (hi.wr (wSrc n) SRC_EN (putBits v.toNat 0 1 0))
    rw [hqw] at hdisq
    refine exec_srcEnWrite hr (putBits v.toNat 0 1 0) rfl (by rw [hdis, hm.sys]; exact hs.2.1) fun o => ?_
    rw [hdis]
    refine ⟨h0, ?_, htimer, hdisq⟩
    rw [State.emit_flag, hm.flag SRC_EN_ENABLE (by decide) (by decide) (by decide), hw.1, hzero]
  · have hu := hi.wr (wSrc n) SRC_EN v.toNat
    obtain ⟨hwon, hwf⟩ := State.srcEn_written (s := s) (n := n) hi v.toNat
    have hforced := State.srcEnWritten_force (n := n) (s.rn (wSrc n) SRC_EN) (hwon.trans ((hbit 0).trans hset))
      (by rw [← State.srcEnable_flag]; exact hon) (by rw [hwf]; exact hne)
    rw [show (s.wr (wSrc n) SRC_EN v.toNat).srcForce n = f' from hwf] at hforced
    have hm := (State.SrcMoves.refl (n := n) hu).srcForced f'
    refine exec_srcEnWrite hr _ rfl (by rw [hforced, hm.sys]; exact hs.2.1) fun o => ?_
    rw [hforced]
    refine ⟨hm.srcForce.trans hwf, fun h1 => ?_, fun h2 => ?_, fun h0 => ?_⟩
    · rw [h1, ← hqw v.toNat]
      exact State.srcForced_off hu
    · rw [h2, ← hqw v.toNat]
      exact State.srcForced_qual hu
    · rw [h0, ← hqw v.toNat]
      exact State.srcForced_auto hu
  · refine .of_emit ((exec_srcCmdBit hs hr 0 v).imp fun _ => congrArg _) fun o => ?_
    rw [State.emit_qstate, State.srcCmd_qstate hi, hone, hother _ _ (by decide)]
    rfl
  · refine .of_emit ((exec_srcCmdBit hs hr 1 v).imp fun _ => congrArg _) fun o => ⟨?_, fun ha hf hq => ?_⟩
    · rw [State.emit_qstate, State.srcCmd_qstate hi, hone, hother _ _ (by decide)]
      rfl
    · exact State.srcCmd_hold hi _ ((hother _ _ (by decide)).trans ha) (hone 1) hq hf
  · refine .of_emit ((exec_srcCmdBit hs hr 2 v).imp fun _ => congrArg _) fun o => ⟨?_, ?_⟩
    · rw [State.emit_qstate, State.srcCmd_qstate hi, hother _ _ (by decide), hother _ _ (by decide)]
      rfl
    · obtain ⟨u, hu, he⟩ := State.srcCmd_clrstat (n := n) hi _ (hone 2)
      simp only [State.emit_rn, he]
      exact State.srcClrStat_results hu

end Sys2Proof.Machine

namespace Sys2Proof.Machine

/-! ### The timers of a source (O28) -/

section
variable {s : State} {n : Src}

/-- R47: the last verdict passed with HYSTOK within the last second. -/
theorem State.freshPass_iff (n : Nat) : s.freshPass n = true ↔
    ∃ v, (s.src n).verdict = some v ∧ v.pass = true ∧ v.hyst = true ∧ signedDiff 96 s.tb.c v.at_ ≤ secU := by
  unfold State.freshPass
  cases (s.src n).verdict with
  | none => simp
  | some v => simp [and_assoc]

/-- The PEND timer's end (R47): the timer gone, its end kept. -/
def State.pendEnded (s : State) (n : Nat) : State := s.modSrc n (fun x => { x with timer := none, expired := true })

theorem exec_pendTimerExpiry_due {d : Nat} (hq : s.qstate n = 3) (ht : (s.src n).timer = some d) (hd : s.due d = true) :
    exec (.pendTimerExpiry n) s = .next (if s.freshPass n then (s.pendEnded n).toQual n else s.pendEnded n) := by
  change execPendTimerExpiry n s = _
  simp only [execPendTimerExpiry, ht, hq, hd, and_self, if_true]
  rfl

theorem exec_pendTimerExpiry_early {d : Nat} (ht : (s.src n).timer = some d) (hd : s.due d = false) :
    exec (.pendTimerExpiry n) s = .next s := by
  change execPendTimerExpiry n s = _
  simp [execPendTimerExpiry, ht, hd]

/-- The count from which the second of R46 runs: the last verdict, or the enable before the first. -/
def State.verdictSince (s : State) (n : Nat) : Nat :=
  match (s.src n).verdict with
  | some v => v.at_
  | none => (s.src n).since

theorem exec_verdictStale (s : State) (n : Src) :
    exec (.verdictStale n) s = .next (if 2 ≤ s.qstate n ∧ s.due ((s.verdictSince n + secU) % 2 ^ 96) then
      let s1 := s.put (wSrc n) SRC_CHK_STALE 1
      if s.srcForce n ≠ 0 then s1.srcRecord n 0 18
      else if s.qstate n = 4 then (s1.toUnqual n).srcDisq n 18 else s1
    else s) := rfl

/-- R46, R55: STALE shown; it disqualifies a QUAL source, and under FORCE it is recorded only (R50). -/
theorem State.stale_shown (h : s.Inv) {t : State} (m : (s.put (wSrc n) SRC_CHK_STALE 1).SrcMoves n t) :
    t.get (wSrc n) SRC_CHK_STALE = 1 := by
  rw [m.get SRC_CHK_STALE (by decide) (by decide) (by decide), State.get_put_same s h.canon _ _ _ (by decide)]
  rfl

end

/-- Settles O28: the timer's end judges the last verdict (`freshPass`); a stale verdict acts by FORCE and state. -/
theorem sourceTimers : Obligations.SourceTimers := by
  unfold Obligations.SourceTimers
  intro s n d v hs w since
  have hi := hs.1
  have hend : (s.pendEnded n).Inv := hi.modSrc _ _
  have hsrc : (s.pendEnded n).src n = { s.src n with timer := none, expired := true } := State.modSrc_src_same hi n _
  refine ⟨fun hq ht hd => ?_, fun ht hd => ⟨s, exec_pendTimerExpiry_early ht hd, rfl⟩, fun hq hd => ?_, fun hd => ?_⟩
  · have hexec := exec_pendTimerExpiry_due hq ht hd
    by_cases hfresh : s.freshPass n = true
    · rw [if_pos hfresh] at hexec
      obtain ⟨x, hx, hpass⟩ := State.freshPass_iff n |>.mp hfresh
      refine ⟨_, hexec, State.toQual_timer hend, fun _ _ _ _ =>
        ⟨State.toQual_qstate hend, State.toQual_first hend, State.toQual_evPending hend⟩, fun hnone => ?_, fun hv hno => ?_⟩
      · rw [hnone] at hx
        cases hx
      · rw [hv] at hx
        cases hx
        exact absurd hpass hno
    · rw [if_neg hfresh] at hexec
      refine ⟨_, hexec, by rw [hsrc], fun hv hp hh hd => absurd (State.freshPass_iff n |>.mpr ⟨v, hv, hp, hh, hd⟩) hfresh,
        fun _ => ⟨hq, by rw [hsrc]⟩, fun _ _ => ⟨hq, by rw [hsrc]⟩⟩
  · have hq1 : (s.put (wSrc n) SRC_CHK_STALE 1).qstate n = s.qstate n := State.wr_qstate _ _ (by decide) (by decide)
    have hi1 := hi.put (wSrc n) SRC_CHK_STALE 1
    have hm := State.SrcMoves.refl (n := n) hi1
    have hexec := exec_verdictStale s n
    dsimp only at hexec
    rw [if_pos ⟨hq, hd⟩] at hexec
    by_cases hf : s.srcForce n = 0
    · rw [if_neg (by simpa using hf)] at hexec
      by_cases h4 : s.qstate n = 4
      · rw [if_pos h4] at hexec
        refine ⟨_, hexec, State.stale_shown hi (hm.toUnqual.srcDisq 18), fun _ _ => ⟨?_, State.srcDisq_cause hm.toUnqual.inv 18
          (by decide), State.srcDisq_evPending hm.toUnqual.inv 18⟩, fun _ hne => absurd h4 hne, fun hne => absurd hf hne⟩
        rw [State.srcDisq_qstate, State.toUnqual_qstate hi1]
      · rw [if_neg h4] at hexec
        exact ⟨_, hexec, State.stale_shown hi hm, fun _ h => absurd h h4, fun _ _ => hq1, fun hne => absurd hf hne⟩
    · rw [if_pos hf] at hexec
      refine ⟨_, hexec, State.stale_shown hi (hm.srcRecord 0 18), fun h0 => absurd h0 hf, fun h0 => absurd h0 hf, fun _ => ⟨?_,
        State.srcRecord_cause hi1 0 18 (by decide)⟩⟩
      rw [State.srcRecord_qstate, hq1]
  · refine ⟨s, ?_, rfl⟩
    have hnot : ¬ (2 ≤ s.qstate n ∧ s.due ((s.verdictSince n + secU) % 2 ^ 96) = true) := fun hc => by
      rw [show s.due ((s.verdictSince n + secU) % 2 ^ 96) = false from hd] at hc
      exact absurd hc.2 (by decide)
    rw [exec_verdictStale, if_neg hnot]

end Sys2Proof.Machine

namespace Sys2Proof.Machine

/-! ### Activity and edges (O29) -/

section
variable {s : State} {n : Src}

/-- R37: the bucket after a bad interval. -/
def State.badBucket (s : State) (n : Nat) : Nat := min (s.actLim n) ((s.src n).bucket + s.get (wSrc n) SRC_ACT_ACT_INC)

theorem State.actBad_moves (h : s.Inv) :
    (s.modSrc n (fun x => { x with bucket := s.badBucket n })).SrcMoves n (s.actBad n) :=
  have h1 := State.SrcMoves.refl (n := n) (h.modSrc n (fun x => { x with bucket := s.badBucket n }))
  .ite (fun _ => h1.toLost) fun _ => h1

theorem State.actGood_moves (h : s.Inv) :
    (s.modSrc n (fun x => { x with bucket := (s.src n).bucket - 1 })).SrcMoves n (s.actGood n) :=
  have h1 := State.SrcMoves.refl (n := n) (h.modSrc n (fun x => { x with bucket := (s.src n).bucket - 1 }))
  .ite (fun _ => h1.srcReturn) fun _ => h1

/-- R37, R46: the bucket at ACT_LIM loses an active source. -/
theorem State.actBad_spec (h : s.Inv) (hq : s.qstate n ≠ 0) :
    (s.actBad n).qstate n = (if s.badBucket n = s.actLim n then 1 else s.qstate n) ∧
      (s.badBucket n = s.actLim n → 2 ≤ s.qstate n →
        (s.actBad n).evPending (evNo (1 + n / 6) (5 * (n % 6) + 0)) = true ∧
          (s.qstate n = 4 → (s.actBad n).evPending (evNo (1 + n / 6) (5 * (n % 6) + 2)) = true ∧
            (s.actBad n).get (wSrc n) SRC_STS_CAUSE = 0)) := by
  have h1 := h.modSrc n (fun x => { x with bucket := s.badBucket n })
  have hbad : s.actBad n = if s.badBucket n = s.actLim n then
      (s.modSrc n (fun x => { x with bucket := s.badBucket n })).toLost n
    else s.modSrc n (fun x => { x with bucket := s.badBucket n }) := rfl
  rw [hbad]
  split
  · refine ⟨?_, fun _ h2 => State.toLost_events h1 h2⟩
    by_cases h2 : 2 ≤ s.qstate n
    · exact State.toLost_qstate h1 h2
    · rw [State.toLost_of_inactive (s := s.modSrc n _) (by rw [State.modSrc_qstate]; omega), State.modSrc_qstate]
      omega
  · rename_i hne
    exact ⟨rfl, fun hc => absurd hc hne⟩

/-- R37: a LOST source whose bucket empties returns. -/
theorem State.actGood_returns (h : s.Inv) (hq : s.qstate n = 1) (hb : (s.src n).bucket ≤ 1) (hf : s.srcForce n ≠ 2) :
    (s.actGood n).qstate n = 2 := by
  have hzero : (s.src n).bucket - 1 = 0 := by omega
  unfold State.actGood
  dsimp only
  rw [if_pos ⟨hq, hzero⟩]
  exact State.srcReturn_qstate (h.modSrc _ _) hf

/-- R37: an edge at count `time` begins the next interval. -/
def State.edgeKept (s : State) (n time : Nat) : State := s.modSrc n (fun v => { v with missed := 0, lastEdge := some time })

theorem State.edgeKept_src (h : s.Inv) (time : Nat) :
    (s.edgeKept n time).src n = { s.src n with missed := 0, lastEdge := some time } := State.modSrc_src_same h n _

/-- R37: however the interval is judged, the edge is kept and SRCn_EDGES stays. -/
theorem State.actEdge_keepsEdge (h : s.Inv) (time : Nat) :
    (s.actEdge n time).Inv ∧ ((s.actEdge n time).src n).lastEdge = some time ∧
      (s.actEdge n time).rn (wSrc n) SRC_EDGES = s.rn (wSrc n) SRC_EDGES := by
  have hk : (s.edgeKept n time).Inv := h.modSrc _ _
  have hsrc := State.edgeKept_src (n := n) h time
  have hkept : (s.edgeKept n time).Inv ∧ ((s.edgeKept n time).src n).lastEdge = some time ∧
      (s.edgeKept n time).rn (wSrc n) SRC_EDGES = s.rn (wSrc n) SRC_EDGES := ⟨hk, by rw [hsrc], rfl⟩
  have hmoved (b : Nat) (t : State) (m : ((s.edgeKept n time).modSrc n (fun x => { x with bucket := b })).SrcMoves n t) :
      t.Inv ∧ (t.src n).lastEdge = some time ∧ t.rn (wSrc n) SRC_EDGES = s.rn (wSrc n) SRC_EDGES :=
    ⟨m.inv, by rw [m.lastEdge, State.modSrc_src_same hk, hsrc], m.reg SRC_EDGES (by decide) (by decide) (by decide)⟩
  unfold State.actEdge
  dsimp only
  split
  · split
    · exact hmoved _ _ (State.actBad_moves hk)
    · exact hkept
  · split
    · exact hmoved _ _ (State.actBad_moves hk)
    · split
      · exact hmoved _ _ (State.actGood_moves hk)
      · exact hkept

theorem State.actEdge_first (hp : s.srcPer n ≠ 0) (hl : (s.src n).lastEdge = none) (time : Nat) :
    s.actEdge n time = s.edgeKept n time := by
  unfold State.actEdge
  simp only [hl, if_neg hp]
  rfl

theorem State.actEdge_good {t0 time : Nat} (hl : (s.src n).lastEdge = some t0)
    (hs : s.shortInterval n (signedDiff 96 time t0) = false) (hm : (s.src n).missed = 0) :
    s.actEdge n time = (s.edgeKept n time).actGood n := by
  unfold State.actEdge
  simp only [hl, hs, hm, Bool.false_eq_true, if_false, if_true]
  rfl

/-- R36: a phase sample is a result: it leaves the qualification. -/
theorem State.SrcMoves.srcSample {t : State} (h : s.SrcMoves n t) (c fc : Nat) (x mon : Int) :
    s.SrcMoves n (t.srcSample n c fc x mon) :=
  ((h.wr (off := SRC_PHASE_LO) (by decide) (by decide)).wr (off := SRC_PHASE_LO + 4) (by decide) (by decide)).modSrc fun _ => rfl

theorem State.srcSample_qstate (c fc : Nat) (x mon : Int) : (s.srcSample n c fc x mon).qstate n = s.qstate n :=
  (State.wr_qstate _ _ (by decide) (by decide)).trans (State.wr_qstate _ _ (by decide) (by decide))

theorem State.srcSample_samples (h : s.Inv) (c fc : Nat) (x mon : Int) :
    ((s.srcSample n c fc x mon).src n).samples = (s.src n).samples + 1 := by
  unfold State.srcSample
  dsimp only
  rw [State.modSrc_src_same (h.putPair _ _ _)]
  rfl

theorem ofSigned_lt (w : Nat) (i : Int) : ofSigned w i < 2 ^ w := by
  unfold ofSigned
  have hpos : (0 : Int) < 2 ^ w := by positivity
  have hlt := Int.emod_lt_of_pos i hpos
  have hge := Int.emod_nonneg i (ne_of_gt hpos)
  zify
  rwa [Int.toNat_of_nonneg hge]

/-- A pair just written reads as its low 64 bits. -/
theorem State.pair_putPair (h : s.Canon) (w off v : Nat) (ho : off + 4 < 0x4000) : (s.putPair w off v).pair w off = v % 2 ^ 64 := by
  unfold State.pair State.putPair
  rw [State.rn_wr_other _ _ _ _ _ _ (regAddr_ne ho (by omega) (.inr (by omega))), State.rn_wr_same _ h,
    State.rn_wr_same _ (State.wr_canon h _ _ _)]
  omega

theorem State.modSrc_pair (m w off : Nat) (f : SrcSt → SrcSt) : (s.modSrc m f).pair w off = s.pair w off := rfl

theorem State.srcSample_phase (h : s.Inv) (c fc : Nat) (x mon : Int) :
    (s.srcSample n c fc x mon).pair (wSrc n) SRC_PHASE_LO = ofSigned 64 x := by
  unfold State.srcSample
  dsimp only
  rw [State.modSrc_pair, State.pair_putPair h.canon _ _ _ (by decide), Nat.mod_eq_of_lt (ofSigned_lt 64 x)]

/-- R36, R37: after its judgement by the activity monitor an edge gives at most a phase sample. -/
theorem State.srcEdge_moves (h : s.Inv) (t : Nat) :
    ((s.count (wSrc n) SRC_EDGES 1).actEdge n t).SrcMoves n (s.srcEdge n t) ∧
      (s.srcEdge n t).qstate n = ((s.count (wSrc n) SRC_EDGES 1).actEdge n t).qstate n := by
  have h1 := State.SrcMoves.refl (n := n) (State.actEdge_keepsEdge (n := n) (h.count (wSrc n) SRC_EDGES 1) t).1
  have h2 (k : Int) := h1.modSrc (f := fun v => { v with index := some k }) fun _ => rfl
  unfold State.srcEdge
  dsimp only
  split
  · exact ⟨h1, rfl⟩
  · split
    · exact ⟨h1, rfl⟩
    · exact ⟨(h2 _).srcSample _ _ _ _, State.srcSample_qstate _ _ _ _⟩

end

end Sys2Proof.Machine

namespace Sys2Proof.Machine

/-! ### What happens to all sources at once (O29, O30) -/

/-- `t` is `s` as far as source `n` goes: its window and record, time, the monitor, the engines and their parameter blocks. -/
structure State.SameSource (s : State) (n : Src) (t : State) : Prop where
  inv : t.Inv
  tb : t.tb = s.tb
  mon : t.mon = s.mon
  engs : t.engs = s.engs
  blks : t.blks = s.blks
  rn : ∀ off, off < 0x4000 → t.rn (wSrc n) off = s.rn (wSrc n) off
  src : t.src n = s.src n

namespace State.SameSource

variable {s t u : State} {n : Src}

theorem refl (h : s.Inv) : s.SameSource n s := ⟨h, rfl, rfl, rfl, rfl, fun _ _ => rfl, rfl⟩

theorem trans (h : s.SameSource n t) (k : t.SameSource n u) : s.SameSource n u :=
  ⟨k.inv, k.tb.trans h.tb, k.mon.trans h.mon, k.engs.trans h.engs, k.blks.trans h.blks,
    fun off ho => (k.rn off ho).trans (h.rn off ho), k.src.trans h.src⟩

theorem qstate (h : s.SameSource n t) : t.qstate n = s.qstate n :=
  congrArg (bitsOf · _ _) (h.rn SRC_STATE (by decide))

theorem srcPer (h : s.SameSource n t) : t.srcPer n = s.srcPer n := by
  unfold State.srcPer State.pair
  rw [h.rn _ (by decide), h.rn _ (by decide)]

theorem statsOn (h : s.SameSource n t) : t.statsOn n = s.statsOn n := by
  unfold State.statsOn State.eng State.blk
  rw [h.engs, h.blks]

/-- A register of another source's window. -/
theorem wr {m : Nat} (h : s.SameSource n t) (hm : m ≠ n) (off v : Nat) (ho : off < 0x4000) :
    s.SameSource n (t.wr (wSrc m) off v) := by
  have hw : wSrc m ≠ wSrc n := by unfold wSrc; omega
  exact h.trans ⟨h.inv.wr _ _ _, rfl, rfl, rfl, rfl,
    fun o ho' => State.rn_wr_other t _ _ _ _ _ (regAddr_ne ho ho' (.inl hw)), rfl⟩

/-- Another source's record. -/
theorem modSrc {m : Nat} (h : s.SameSource n t) (hm : m ≠ n) (f : SrcSt → SrcSt) : s.SameSource n (t.modSrc m f) := by
  refine h.trans ⟨h.inv.modSrc _ _, rfl, rfl, rfl, rfl, fun _ _ => rfl, ?_⟩
  rw [State.modSrc_src h.inv, if_neg (Ne.symm hm)]

theorem ite {c : Prop} [Decidable c] (ht : c → s.SameSource n t) (hu : ¬ c → s.SameSource n u) :
    s.SameSource n (if c then t else u) := by
  split
  · exact ht ‹_›
  · exact hu ‹_›

theorem foldl {α : Type} {op : State → α → State} {l : List α}
    (hop : ∀ (t : State) i, i ∈ l → t.Inv → t.SameSource n (op t i)) (h : s.SameSource n t) : s.SameSource n (l.foldl op t) :=
  List.foldlRecOn _ _ h fun u hu i hi => hu.trans (hop u i hi hu.inv)

end State.SameSource

section
variable {s : State} {n : Src}

/-- What is done to every source is done to source `n` once, on a state that is the first as far as source `n` goes, and the
others' turns leave source `n` as its own turn left it. -/
theorem State.foldl_sources (h : s.Inv) (n : Src) {op : State → Nat → State} (hinv : ∀ t : State, t.Inv → (op t n).Inv)
    (hop : ∀ (t : State) (m : Nat), m ≠ n → m < 21 → t.Inv → t.SameSource n (op t m)) :
    ∃ u, s.SameSource n u ∧ (op u n).SameSource n ((List.range 21).foldl op s) := by
  obtain ⟨before, after, hsplit⟩ := List.append_of_mem (List.mem_range.mpr n.isLt)
  have hnodup : (before ++ n.val :: after).Nodup := hsplit ▸ List.nodup_range
  have hlt (m : Nat) (hm : m ∈ before ++ n.val :: after) : m < 21 := List.mem_range.mp (hsplit ▸ hm)
  obtain ⟨-, hafter, hdisj⟩ := List.nodup_append.mp hnodup
  have hu : s.SameSource n (before.foldl op s) := .foldl (fun t m hm ht =>
    hop t m (hdisj m hm _ List.mem_cons_self) (hlt m (List.mem_append_left _ hm)) ht) (.refl h)
  refine ⟨before.foldl op s, hu, ?_⟩
  rw [hsplit, List.foldl_append, List.foldl_cons]
  exact .foldl (fun t m hm ht => hop t m (fun e => (List.nodup_cons.mp hafter).1 (e ▸ hm))
    (hlt m (List.mem_append_right _ (List.mem_cons_of_mem _ hm))) ht) (.refl (hinv _ hu.inv))

/-- Another source's histories. -/
theorem State.SameSource.srcClearHist {m : Nat} (h : s.Inv) (hm : m ≠ n) (next : Bool) :
    s.SameSource n (s.srcClearHist m next) := by
  unfold State.srcClearHist
  refine .foldl (fun t i hi ht => ?_) (.foldl (fun t i hi ht => ?_) ((((State.SameSource.refl h).modSrc hm _)).wr hm _ _ (by decide)))
  · have := List.mem_range.mp hi
    exact ((State.SameSource.refl ht).wr hm (SRC_MTIE0 + 4 * i) _ (by unfold SRC_MTIE0; omega)).wr hm (SRC_TDEV0 + 4 * i) _
      (by unfold SRC_TDEV0; omega)
  · have := List.mem_range.mp hi
    exact ((State.SameSource.refl ht).wr hm (SRC_FOFF0 + 4 * i) _ (by unfold SRC_FOFF0; omega)).wr hm (SRC_COFF0 + 4 * i) _
      (by unfold SRC_COFF0; omega)

/-- A cleared history leaves PDRIFT invalid. -/
theorem State.srcClearHist_pdrift (h : s.Inv) (next : Bool) : (s.srcClearHist n next).rn (wSrc n) SRC_PDRIFT = 0x8000_0000 := by
  have hofs (u : State) (o v : Nat) (h1 : o < SRC_PDRIFT) : (u.wr (wSrc n) o v).rn (wSrc n) SRC_PDRIFT = u.rn (wSrc n) SRC_PDRIFT := by
    unfold SRC_PDRIFT at h1
    exact State.rn_wr_other u _ _ _ _ _ (regAddr_src_ne _ (by omega) (by decide) (by unfold SRC_PDRIFT; omega))
  unfold State.srcClearHist
  dsimp only
  refine (State.statsOnes_rn n 5 SRC_PDRIFT (by decide) (by decide)).trans ?_
  refine List.foldlRecOn (motive := fun u => State.rn u (wSrc n) SRC_PDRIFT = 0x8000_0000) _ _ ?_ fun u hu i hi => ?_
  · rw [State.rn_wr_same _ (h.modSrc _ _).canon]
    decide
  · have := List.mem_range.mp hi
    rw [hofs _ _ _ (by unfold SRC_PDRIFT SRC_COFF0; omega), hofs _ _ _ (by unfold SRC_PDRIFT SRC_FOFF0; omega), hu]

/-! ### The basis (R35) -/

theorem State.srcBasis_other {m : Nat} (h : s.Inv) (hm : m ≠ n) : s.SameSource n (s.srcBasis m) :=
  .ite (fun _ => .refl h) fun _ =>
    have hput : s.SameSource n (s.put (wSrc m) SRC_STATE_FBASIS (b2n s.mon.xoLost)) := (State.SameSource.refl h).wr hm _ _ (by decide)
    hput.trans (.srcClearHist hput.inv hm true)

/-- R35: the source takes the basis the XO's state asks for, and its histories begin anew. -/
theorem State.srcBasis_spec (h : s.Inv) :
    (s.srcBasis n).mon = s.mon ∧ (s.srcBasis n).qstate n = s.qstate n ∧ (s.qstate n ≠ 0 →
      (s.srcBasis n).get (wSrc n) SRC_STATE_FBASIS = b2n s.mon.xoLost ∧ (s.srcBasis n).rn (wSrc n) SRC_PDRIFT = 0x8000_0000) := by
  unfold State.srcBasis
  split
  · rename_i h0
    exact ⟨rfl, rfl, fun hc => absurd h0 hc⟩
  · have hput := h.put (wSrc n) SRC_STATE_FBASIS (b2n s.mon.xoLost)
    have hm := (State.SrcMoves.refl (n := n) hput).srcClearHist true
    refine ⟨hm.mon, ?_, fun _ => ⟨?_, State.srcClearHist_pdrift hput _⟩⟩
    · rw [State.srcClearHist_qstate, State.putState_qstate h _ _ rfl (by decide)]
    · rw [hm.basis, State.get_put_same s h.canon _ _ _ (by decide)]
      cases s.mon.xoLost <;> rfl

theorem exec_basisChange {i : Nat} (hi : s.mon.basisDue = some i) (hd : s.gridDue msU i = true) :
    exec .basisChange s = .next ((List.range 21).foldl (fun t n => t.srcBasis n) (s.setMon { s.mon with basisDue := none })) := by
  change execBasisChange s = _
  simp only [execBasisChange, hi, hd, if_true]

theorem State.gridDue_eq (hs : s.Ready) (u i : Nat) : s.gridDue u i = decide (i < s.tb.c / u) := by
  have hrun : s.tb.running = true := by
    have hc := hs.2.2
    unfold State.tbClocked at hc
    exact (Bool.and_eq_true_iff.mp hc).1
  unfold State.gridDue
  rw [hrun, Bool.true_and]

/-- R35: XO_LOS or XO_ACT (bit `b`), and XOHELD. -/
theorem State.xoHeld_spec (h : s.Inv) (b v : Nat) (hb : b < 32) (hv : v < 2) :
    ((s.raise 4 b).put W_BRG BRG_STATE_XOHELD v).evPending (evNo 4 b) = true ∧
      ((s.raise 4 b).put W_BRG BRG_STATE_XOHELD v).get W_BRG BRG_STATE_XOHELD = v := by
  have hlt : evNo 4 b < 512 := by unfold evNo; omega
  constructor
  · refine (State.wr_evPending _ _ _ _ (by decide) (by decide) hlt).trans ?_
    rw [State.raise_evPending h.canon _ _ _ hlt hlt]
    simp
  · rw [State.get_put_same _ (State.raise_canon h.canon 4 b) _ _ _ (by decide)]
    exact Nat.mod_eq_of_lt hv

theorem exec_xoLoss (hx : s.mon.xoLost = false) :
    exec .xoLoss s = .next ((((s.setMon { s.mon.due s.tb.c with xoLost := true }).raise 4 15).put W_BRG BRG_STATE_XOHELD 1).learnCheck) := by
  change execXoLoss s = _
  simp [execXoLoss, hx]

theorem exec_xoReturn (hx : s.mon.xoLost = true) :
    exec .xoReturn s = .next (((s.setMon { s.mon.due s.tb.c with xoLost := false }).raise 4 16).put W_BRG BRG_STATE_XOHELD 0) := by
  change execXoReturn s = _
  simp [execXoReturn, hx]

/-! ### An edge's command (R34) -/

/-- The newest sample of the XO's own TDC kept: none while the XO is lost. -/
def State.edgeXo (s : State) (xo : Int) : Int := if s.mon.xoLost then s.mon.xo else xo

/-- The state in which an edge is judged: the XO's phase and the PPS source's edge (R245) are kept. -/
def State.beforeEdge (s : State) (xo : Int) (tod : TodSt) : State := (s.setMon { s.mon with xo := s.edgeXo xo }).setTod tod

theorem State.beforeEdge_inv (h : s.Inv) (xo : Int) (tod : TodSt) : (s.beforeEdge xo tod).Inv :=
  State.keeps_inv h (State.setTod_keeps (State.setMon_keeps (State.keeps_refl s) _) _)

theorem exec_sourceEdge (hs : s.Ready) (e : SrcEdge) (hsees : s.srcSees n = true) (hdiv : e.inputs = s.srcDiv n)
    (hpol : e.falling = s.flag (wSrc n) SRC_CFG_EDGE) :
    ∃ tod, exec (.sourceEdge n e) s = .next ((s.beforeEdge e.xo tod).srcEdge n (s.tdcCount n e.code)) := by
  have hrun : s.tb.running = true := by
    have hc := hs.2.2
    unfold State.tbClocked at hc
    exact (Bool.and_eq_true_iff.mp hc).1
  have hmon : (if s.mon.xoLost then s else s.setMon { s.mon with xo := e.xo }) = s.setMon { s.mon with xo := s.edgeXo e.xo } := by
    unfold State.edgeXo
    cases s.mon.xoLost <;> rfl
  have hpps (u : State) (t : Nat) : ∃ tod, u.ppsEdge n t = u.setTod tod := by
    unfold State.ppsEdge
    split
    · exact ⟨_, rfl⟩
    · exact ⟨u.tod, rfl⟩
  obtain ⟨tod, htod⟩ := hpps (s.setMon { s.mon with xo := s.edgeXo e.xo }) (s.tdcCount n e.code)
  refine ⟨tod, ?_⟩
  change execSourceEdge n e s = _
  unfold execSourceEdge
  dsimp only
  rw [if_pos ⟨hrun, hsees, hdiv, hpol⟩, hmon, htod]
  rfl

theorem State.srcSees_of (hq : s.qstate n ≠ 0) (h18 : n.val ≠ 18) (h19 : n.val ≠ 19)
    (hfmt : 16 ≤ n.val ∨ s.get (wSrc n) SRC_CFG_FMT < 4)
    (hlink : n.val = 16 ∨ n.val = 17 → s.flag (W_ETH + (n - 16)) ETH_STATE_LINK = true) : s.srcSees n = true := by
  have hactive : (s.qstate n != 0) = true := bne_iff_ne.mpr hq
  have hreal : (n.val == 18 || n.val == 19) = false := by simp [h18, h19]
  have hbuffer : (decide (n.val < 16) && decide (4 ≤ s.get (wSrc n) SRC_CFG_FMT)) = false := by
    rw [← Bool.decide_and]
    exact decide_eq_false (by omega)
  have hclock : ((n.val == 16 || n.val == 17) && !s.flag (W_ETH + (n - 16)) ETH_STATE_LINK) = false := by
    by_cases hport : n.val = 16 ∨ n.val = 17
    · rw [hlink hport]
      exact Bool.and_false _
    · have hno : (n.val == 16 || n.val == 17) = false := by simpa using hport
      rw [hno]
      rfl
  unfold State.srcSees
  rw [hactive, hreal, hbuffer, hclock]
  rfl

/-- R36: the phase of the first edge of a history: its time in the basis less the nearest nominal time, a tie upwards. -/
def firstPhase (x : Int) (per : Nat) : Int := quotFree (x * 2 ^ 16 - (2 * x * 2 ^ 16 + per) / (2 * per) * per) (2 ^ 16)

/-- R36, R37: the first edge of a history gives one sample and no judgement. -/
theorem State.srcEdge_first (h : s.Inv) (t : Nat) (hp : s.srcPer n ≠ 0) (hl : (s.src n).lastEdge = none) (hx : (s.src n).index = none)
    (h20 : n.val ≠ 20) : (s.srcEdge n t).qstate n = s.qstate n ∧ ((s.srcEdge n t).src n).samples = (s.src n).samples + 1 ∧
      (s.srcEdge n t).pair (wSrc n) SRC_PHASE_LO = ofSigned 64
        (firstPhase ((t : Int) - (if s.flag (wSrc n) SRC_STATE_FBASIS then 0 else s.mon.xo)) (s.srcPer n)) := by
  have hcount := h.count (wSrc n) SRC_EDGES 1
  have hper : (s.count (wSrc n) SRC_EDGES 1).srcPer n = s.srcPer n := by
    unfold State.srcPer State.pair
    rw [State.rn_count_other _ _ _ _ _ _ (regAddr_src_ne _ (by decide) (by decide) (by decide)),
      State.rn_count_other _ _ _ _ _ _ (regAddr_src_ne _ (by decide) (by decide) (by decide))]
  have hact := State.actEdge_first (s := s.count (wSrc n) SRC_EDGES 1) (n := n) (by rw [hper]; exact hp) hl t
  have hkept : ((s.count (wSrc n) SRC_EDGES 1).edgeKept n t).Inv := hcount.modSrc _ _
  have hsrc := State.edgeKept_src (n := n) hcount t
  have htime : s.edgeTime n t = some ((t : Int) - (if s.flag (wSrc n) SRC_STATE_FBASIS then 0 else s.mon.xo)) := if_neg h20
  have hq : (s.count (wSrc n) SRC_EDGES 1).qstate n = s.qstate n := State.wr_qstate _ _ (by decide) (by decide)
  refine ⟨?_, ?_, ?_⟩
  · rw [(State.srcEdge_moves h t).2, hact]
    exact hq
  · unfold State.srcEdge
    simp only [htime, if_neg hp, hact]
    rw [State.srcSample_samples (hkept.modSrc _ _), State.modSrc_src_same hkept, hsrc]
    rfl
  · unfold State.srcEdge
    simp only [htime, if_neg hp, hact]
    rw [State.srcSample_phase (hkept.modSrc _ _), hsrc]
    rw [show ((s.count (wSrc n) SRC_EDGES 1).src n).index = none from hx]
    rfl

end

end Sys2Proof.Machine

namespace Sys2Proof.Machine

section
variable {s : State} {n : Src}

/-- R37: a nominal edge missed. -/
theorem exec_missedNominalEdge {t0 : Nat} (hq : s.qstate n ≠ 0) (hl : (s.src n).lastEdge = some t0)
    (hp : ((s.srcPer n * (((s.src n).missed + 1) * 256 + s.get (wSrc n) SRC_ACT_ACT_TOL) : Nat) : Int) ≤
      signedDiff 96 s.tb.c t0 * 2 ^ 24) :
    exec (.missedNominalEdge n) s = .next ((s.modSrc n (fun x => { x with missed := x.missed + 1 })).actBad n) := by
  have hpassed : s.nominalPassed n = true := by
    unfold State.nominalPassed
    simp only [hl]
    exact decide_eq_true hp
  change execMissedNominalEdge n s = _
  unfold execMissedNominalEdge
  rw [if_pos ⟨hq, hpassed⟩]

theorem sourceActivity_missed (hs : s.Ready) {t0 : Nat} (hq : s.qstate n ≠ 0) (hl : (s.src n).lastEdge = some t0)
    (hp : ((s.srcPer n * (((s.src n).missed + 1) * 256 + s.get (wSrc n) SRC_ACT_ACT_TOL) : Nat) : Int) ≤
      signedDiff 96 s.tb.c t0 * 2 ^ 24) :
    s.To (.missedNominalEdge n) fun t =>
      (t.src n).bucket = s.badBucket n ∧ (t.src n).missed = (s.src n).missed + 1 ∧
        t.qstate n = (if s.badBucket n = s.actLim n then 1 else s.qstate n) ∧
        (s.badBucket n = s.actLim n → 2 ≤ s.qstate n →
          t.evPending (evNo (1 + n / 6) (5 * (n % 6) + 0)) = true ∧
            (s.qstate n = 4 → t.evPending (evNo (1 + n / 6) (5 * (n % 6) + 2)) = true ∧ t.get (wSrc n) SRC_STS_CAUSE = 0)) := by
  have hi := hs.1
  have hi1 := hi.modSrc n (fun x => { x with missed := x.missed + 1 })
  have hsrc := State.modSrc_src_same hi n (fun x => { x with missed := x.missed + 1 })
  have hbad : (s.modSrc n (fun x => { x with missed := x.missed + 1 })).badBucket n = s.badBucket n := by
    unfold State.badBucket
    rw [hsrc]
    rfl
  have hm := State.actBad_moves (n := n) hi1
  obtain ⟨hstate, hevents⟩ := State.actBad_spec (n := n) hi1 hq
  rw [hbad] at hstate hevents hm
  refine ⟨_, exec_missedNominalEdge hq hl hp, ?_, ?_, hstate, hevents⟩
  · rw [hm.bucket, State.modSrc_src_same hi1]
  · rw [hm.missed, State.modSrc_src_same hi1, hsrc]

/-- R34, R37: an edge is counted and kept. -/
theorem State.srcEdge_counted (h : s.Inv) (t : Nat) :
    (s.srcEdge n t).rn (wSrc n) SRC_EDGES = (s.rn (wSrc n) SRC_EDGES + 1) % 2 ^ 32 ∧ ((s.srcEdge n t).src n).lastEdge = some t := by
  obtain ⟨-, hlast, hedges⟩ := State.actEdge_keepsEdge (n := n) (h.count (wSrc n) SRC_EDGES 1) t
  have hm := (State.srcEdge_moves (n := n) h t).1
  rw [hm.reg SRC_EDGES (by decide) (by decide) (by decide), hm.lastEdge, hedges, State.rn_count_same s h.canon]
  exact ⟨rfl, hlast⟩

/-- R37: an edge that ends a good interval. -/
theorem State.srcEdge_good (h : s.Inv) {t t0 : Nat} (hl : (s.src n).lastEdge = some t0)
    (hs : s.shortInterval n (signedDiff 96 t t0) = false) (hm : (s.src n).missed = 0) :
    ((s.srcEdge n t).src n).bucket = (s.src n).bucket - 1 ∧
      (s.qstate n = 1 → (s.src n).bucket ≤ 1 → s.srcForce n ≠ 2 → (s.srcEdge n t).qstate n = 2) := by
  have hcount := h.count (wSrc n) SRC_EDGES 1
  have hkept : ((s.count (wSrc n) SRC_EDGES 1).edgeKept n t).Inv := hcount.modSrc _ _
  have hother (f : Fld) (hf : f.off < 0x4000) (hne : f.off ≠ SRC_EDGES) :
      (s.count (wSrc n) SRC_EDGES 1).get (wSrc n) f = s.get (wSrc n) f :=
    State.get_count_other s _ _ _ _ _ (regAddr_src_ne _ (by decide) hf (Ne.symm hne))
  have hper : (s.count (wSrc n) SRC_EDGES 1).srcPer n = s.srcPer n := by
    unfold State.srcPer State.pair
    rw [State.rn_count_other _ _ _ _ _ _ (regAddr_src_ne _ (by decide) (by decide) (by decide)),
      State.rn_count_other _ _ _ _ _ _ (regAddr_src_ne _ (by decide) (by decide) (by decide))]
  have hshort : (s.count (wSrc n) SRC_EDGES 1).shortInterval n (signedDiff 96 t t0) = false := by
    unfold State.shortInterval at hs ⊢
    rwa [hper, hother SRC_ACT_ACT_TOL (by decide) (by decide)]
  have hact := State.actEdge_good (s := s.count (wSrc n) SRC_EDGES 1) (n := n) hl hshort hm
  have hsrc := State.edgeKept_src (n := n) hcount t
  have hbucket : (((s.count (wSrc n) SRC_EDGES 1).edgeKept n t).src n).bucket = (s.src n).bucket := by
    rw [hsrc]
    rfl
  obtain ⟨hmoves, hstate⟩ := State.srcEdge_moves (n := n) h t
  rw [hact] at hmoves hstate
  refine ⟨?_, fun hq hb hf => ?_⟩
  · rw [hmoves.bucket, (State.actGood_moves hkept).bucket, State.modSrc_src_same hkept, hbucket]
  · rw [hstate]
    refine State.actGood_returns hkept ?_ (by rw [hbucket]; exact hb) ?_
    · exact (State.wr_qstate _ _ (by decide) (by decide)).trans hq
    · change (s.count (wSrc n) SRC_EDGES 1).srcForce n ≠ 2
      unfold State.srcForce at hf ⊢
      rwa [hother SRC_EN_FORCE (by decide) (by decide)]

/-- R35: the basis changes for every source at once. -/
theorem sourceActivity_basis (hs : s.Ready) {i : Nat} (hb : s.mon.basisDue = some i) (hlt : i < s.tb.c / msU) :
    s.To .basisChange fun t => t.mon.basisDue = none ∧ t.qstate n = s.qstate n ∧
      (s.qstate n ≠ 0 → t.get (wSrc n) SRC_STATE_FBASIS = b2n s.mon.xoLost ∧ t.rn (wSrc n) SRC_PDRIFT = 0x8000_0000) := by
  have h1 : (s.setMon { s.mon with basisDue := none }).Inv :=
    State.keeps_inv hs.1 (State.setMon_keeps (State.keeps_refl s) _)
  obtain ⟨u, hu, hfold⟩ := State.foldl_sources h1 n (op := fun t m => t.srcBasis m)
    (fun t ht => State.keeps_inv ht (State.srcBasis_keeps (State.keeps_refl t) n)) fun t m hm _ ht => State.srcBasis_other ht hm
  obtain ⟨hmon, hq, hbasis⟩ := State.srcBasis_spec (n := n) hu.inv
  rw [hu.qstate, hu.mon] at hbasis
  refine ⟨_, exec_basisChange hb (by rw [State.gridDue_eq hs]; exact decide_eq_true hlt), ?_, ?_, fun h0 => ?_⟩
  · rw [hfold.mon, hmon, hu.mon]
    rfl
  · rw [hfold.qstate, hq, hu.qstate]
    rfl
  · obtain ⟨hf, hp⟩ := hbasis h0
    refine ⟨?_, ?_⟩
    · unfold State.get at hf ⊢
      rw [hfold.rn _ (by decide)]
      exact hf
    · rw [hfold.rn _ (by decide)]
      exact hp

end

/-- Settles O29: an edge is judged on the state in which the XO's phase is kept (`beforeEdge`), and a change of basis is one
turn of each source (`foldl_sources`). -/
theorem sourceActivity : Obligations.SourceActivity := by
  unfold Obligations.SourceActivity
  intro s n hs w q lim b ev
  have hi := hs.1
  refine ⟨fun t0 hq hl hp => sourceActivity_missed hs hq hl hp, fun code xo => ?_, fun hx => ?_, fun hx => ?_,
    fun i hb hlt => sourceActivity_basis hs hb hlt⟩
  · intro c x E hq h18 h19 hfmt hlink
    obtain ⟨tod, hexec⟩ := exec_sourceEdge (n := n) hs ⟨max 1 (s.get w SRC_DIV_DIV), s.flag w SRC_CFG_EDGE, code, xo⟩
      (State.srcSees_of hq h18 h19 hfmt hlink) rfl rfl
    have hu := State.beforeEdge_inv hi xo tod
    refine ⟨⟨_, hexec, State.srcEdge_counted hu c⟩, fun hp hl hx h20 => ⟨_, hexec, ?_⟩,
      fun t0 _ hl hshort hm => ⟨_, hexec, State.srcEdge_good hu hl hshort hm⟩⟩
    exact State.srcEdge_first hu c (ne_of_gt hp) hl hx h20
  · have h1 : (s.setMon { s.mon.due s.tb.c with xoLost := true }).Inv :=
      State.keeps_inv hi (State.setMon_keeps (State.keeps_refl s) _)
    obtain ⟨hev, hheld⟩ := State.xoHeld_spec h1 15 1 (by decide) (by decide)
    have hmon := State.raise_mon (s.setMon { s.mon.due s.tb.c with xoLost := true }) 4 15
    exact ⟨_, exec_xoLoss hx, congrArg MonSt.xoLost hmon, congrArg MonSt.basisDue hmon, hev, hheld⟩
  · have h1 : (s.setMon { s.mon.due s.tb.c with xoLost := false }).Inv :=
      State.keeps_inv hi (State.setMon_keeps (State.keeps_refl s) _)
    obtain ⟨hev, hheld⟩ := State.xoHeld_spec h1 16 0 (by decide) (by decide)
    have hmon := State.raise_mon (s.setMon { s.mon.due s.tb.c with xoLost := false }) 4 16
    exact ⟨_, exec_xoReturn hx, congrArg MonSt.xoLost hmon, congrArg MonSt.basisDue hmon, hev, hheld⟩

end Sys2Proof.Machine

namespace Sys2Proof.Machine

/-! ### Bins and strides (O30) -/

theorem lget_of_getElem? {α : Type} (d : α) {l : List α} {i : Nat} {x : α} (h : l[i]? = some x) : lget d l i = x := by
  rw [lget, List.getD_eq_getElem?_getD, h]
  rfl

theorem fit32_lt (i : Int) : fit32 i < 2 ^ 32 := by
  unfold fit32
  split
  · exact ofSigned_lt 32 i
  · exact Nat.mod_lt _ (by decide)

section
variable {s : State} {n : Src}

theorem State.gridDue_of_lt (hs : s.Ready) {u i : Nat} (h : i < s.tb.c / u) : s.gridDue u i = true := by
  rw [State.gridDue_eq hs]
  exact decide_eq_true h

/-! The engines' event. -/

theorem State.engPend_pends (h : s.Inv) (k : Nat) (hk : k < 11) (e : Nat) (arg : Word64) :
    ((s.engPend k e arg).eng k).pend.any (fun p => p.1 == e) = true := by
  have hlen : k < s.engs.length := by
    obtain ⟨-, -, ⟨-, -, -, -, -, -, -, -, h11, -, -⟩, -⟩ := h
    omega
  unfold State.engPend
  split
  · assumption
  · rw [State.modEng_eng k hlen]
    simp

/-- A pending event stays pending (R302). -/
theorem State.engPend_keepsPending (k e : Nat) (arg : Word64) (j e' : Nat)
    (hp : (s.eng j).pend.any (fun p => p.1 == e') = true) :
    ((s.engPend k e arg).eng j).pend.any (fun p => p.1 == e') = true := by
  unfold State.engPend
  split
  · exact hp
  · by_cases hj : j = k
    · subst hj
      by_cases hlen : j < s.engs.length
      · rw [State.modEng_eng j hlen]
        simp only [List.any_append, hp, Bool.true_or]
      · have hsame : s.modEng j (fun x => { x with pend := x.pend ++ [(e, arg)] }) = s := by
          have hmod : lmod s.engs j (fun x => { x with pend := x.pend ++ [(e, arg)] }) = s.engs :=
            List.modify_eq_self (by omega)
          unfold State.modEng
          rw [hmod]
        rw [hsame]
        exact hp
    · rw [State.modEng_other k j hj]
      exact hp

/-- The event BINw at the MON engines (R301). -/
theorem State.binEvents_pend (h : s.Inv) (w : Nat) (l : List Nat) (hl : ∀ m ∈ l, m < 4) :
    ∀ m ∈ l, ((l.foldl (fun t m => t.engPend (5 + m) w 0) s).eng (5 + m)).pend.any (fun e => e.1 == w) = true := by
  induction l generalizing s with
  | nil => nofun
  | cons m l ih =>
    have hinv : (s.engPend (5 + m) w 0).Inv := State.keeps_inv h (State.engPend_keeps (State.keeps_refl s) _ _ _)
    have hm : m < 4 := hl m List.mem_cons_self
    have hl' : ∀ x ∈ l, x < 4 := fun x hx => hl x (List.mem_cons_of_mem _ hx)
    intro x hx
    rcases List.mem_cons.mp hx with rfl | hx
    · refine (List.foldlRecOn (motive := fun t : State => t.Inv ∧ (t.eng (5 + x)).pend.any (fun e => e.1 == w) = true) l _
        ⟨hinv, State.engPend_pends h _ (by omega) _ _⟩ fun t ht y _ =>
          ⟨State.keeps_inv ht.1 (State.engPend_keeps (State.keeps_refl t) _ _ _), State.engPend_keepsPending _ _ _ _ _ ht.2⟩).2
    · exact ih hinv hl' x hx

/-- The event leaves the sources and the monitor. -/
theorem State.binEvents_frame (w : Nat) (l : List Nat) :
    (l.foldl (fun t m => t.engPend (5 + m) w 0) s).mon = s.mon ∧ (l.foldl (fun t m => t.engPend (5 + m) w 0) s).src n = s.src n ∧
      ∀ off, off < 0x4000 → (l.foldl (fun t m => t.engPend (5 + m) w 0) s).rn (wSrc n) off = s.rn (wSrc n) off :=
  List.foldlRecOn (motive := fun t : State => t.mon = s.mon ∧ t.src n = s.src n ∧
      ∀ off, off < 0x4000 → t.rn (wSrc n) off = s.rn (wSrc n) off) l _ ⟨rfl, rfl, fun _ _ => rfl⟩
    fun _ ⟨hmon, hsrc, hrn⟩ _ _ =>
      ⟨(State.engPend_proj (·.mon) (fun _ _ _ _ => rfl) (fun _ _ _ => rfl) _ _ _).trans hmon,
        (State.engPend_proj (fun t => t.src n) (fun _ _ _ _ => rfl) (fun _ _ _ => rfl) _ _ _).trans hsrc,
        fun off ho => (State.engPend_rn _ _ _ _ _ (wSrc_lt n) ho).trans (hrn off ho)⟩

/-! One source's turn. -/

theorem State.srcBinClose_other {m : Nat} (h : s.Inv) (hm : m ≠ n) (w k : Nat) (hw : w < 3) :
    s.SameSource n (s.srcBinClose m w k) := by
  have h0 := State.SameSource.refl (n := n) h
  unfold State.srcBinClose
  dsimp only
  exact .ite (fun _ => h0) fun _ => .ite
    (fun _ => ((h0.wr hm _ _ (by unfold SRC_FOFF0; omega)).modSrc hm _).wr hm _ _ (by decide))
    fun _ => (h0.wr hm _ _ (by unfold SRC_FOFF0; omega)).modSrc hm _

theorem State.srcBinClose_mon (m w k : Nat) : (s.srcBinClose m w k).mon = s.mon := by
  unfold State.srcBinClose
  dsimp only
  split
  · rfl
  · split <;> rfl

/-- What FOFF shows for the offset of a window (R38). -/
def foffOf : Option Int → Nat
  | none => 0x8000_0000
  | some v => fit32 v

theorem foffOf_lt (y : Option Int) : foffOf y < 2 ^ 32 := by
  cases y with
  | none => decide
  | some v => exact fit32_lt v

/-- FOFF of window `w` showing `y`, with what `f` makes of the record; at W1 PDRIFT shows `v`. -/
def State.foffShown (s : State) (n w : Nat) (y : Option Int) (f : SrcSt → SrcSt) (v : Nat) : State :=
  let t := (s.wr (wSrc n) (SRC_FOFF0 + 4 * w) (foffOf y)).modSrc n f
  if w = 1 then t.wr (wSrc n) SRC_PDRIFT v else t

theorem State.foffShown_spec (h : s.Inv) {w : Nat} (y : Option Int) {f : SrcSt → SrcSt} (hf : ∀ x, (f x).wins = x.wins)
    (v : Nat) : ((s.foffShown n w y f v).src n).wins = (s.src n).wins ∧
      (s.foffShown n w y f v).rn (wSrc n) (SRC_FOFF0 + 4 * w) = foffOf y := by
  have hwins : (((s.wr (wSrc n) (SRC_FOFF0 + 4 * w) (foffOf y)).modSrc n f).src n).wins = (s.src n).wins := by
    rw [State.modSrc_src_same (h.wr _ _ _), hf]
    rfl
  have hfoff : ((s.wr (wSrc n) (SRC_FOFF0 + 4 * w) (foffOf y)).modSrc n f).rn (wSrc n) (SRC_FOFF0 + 4 * w) = foffOf y := by
    rw [State.modSrc_rn, State.rn_wr_same s h.canon, Nat.mod_eq_of_lt (foffOf_lt y)]
  unfold State.foffShown
  dsimp only
  split
  · refine ⟨hwins, (State.rn_wr_other _ _ _ _ _ _ (regAddr_src_ne _ (by decide) ?_ ?_)).trans hfoff⟩
    · unfold SRC_FOFF0
      omega
    · unfold SRC_PDRIFT SRC_FOFF0
      omega
  · exact ⟨hwins, hfoff⟩

/-- What FOFF of window `w` is to show once bin `k` has closed. -/
def State.foffAt (s : State) (n w k : Nat) (v : WinSt) : Option Int :=
  if winActive (s.srcPer n) w then v.offset (s.srcPer n) w k else none

/-- R38: an active source's turn shows the offset over the bin that has closed. -/
theorem State.srcBinClose_active (w k : Nat) (hq : 2 ≤ s.qstate n) : ∃ (f : SrcSt → SrcSt) (v : Nat), (∀ x, (f x).wins = x.wins) ∧
    s.srcBinClose n w k = s.foffShown n w (s.foffAt n w k (lget WinSt.empty (s.src n).wins w)) f v := by
  unfold State.srcBinClose State.foffAt State.foffShown
  dsimp only
  rw [if_neg (by omega)]
  generalize (if winActive (s.srcPer n) w then (lget WinSt.empty (s.src n).wins w).offset (s.srcPer n) w k else none) = y
  cases y with
  | none => refine ⟨_, _, ?_, rfl⟩; exact fun _ => rfl
  | some v => refine ⟨_, _, ?_, rfl⟩; exact fun _ => rfl

theorem exec_binClose (hs : s.Ready) (w : Fin 3) (hd : lget 0 s.mon.binIdx w < s.tb.c / binU w) :
    exec (.binClose w) s = .next ((List.range 4).foldl (fun t m => t.engPend (5 + m) w 0)
      ((List.range 21).foldl (fun t n => t.srcBinClose n w (s.tb.c / binU w - 1))
        ((s.setMon { s.mon with binIdx := lput 0 s.mon.binIdx w (s.tb.c / binU w) }).yBinClose w))) := by
  change execBinClose w s = _
  unfold execBinClose
  rw [if_pos (State.gridDue_of_lt hs hd)]

/-- R38: the bins of a window close. -/
theorem sourceBins_window (hs : s.Ready) (w : Fin 3) (hd : lget 0 s.mon.binIdx w < s.tb.c / binU w) :
    s.To (.binClose w) fun t => t.mon.binIdx = lput 0 s.mon.binIdx w (s.tb.c / binU w) ∧
      (2 ≤ s.qstate n → (t.src n).wins = (s.src n).wins ∧ ∀ v, (s.src n).wins[w.val]? = some v →
        t.rn (wSrc n) (SRC_FOFF0 + 4 * w) =
          foffOf (s.foffAt n w (s.tb.c / binU w - 1) v)) ∧
      (∀ m, m < 4 → (t.eng (5 + m)).pend.any (fun e => e.1 == w.val) = true) := by
  have h1 : ((s.setMon { s.mon with binIdx := lput 0 s.mon.binIdx w (s.tb.c / binU w) }).yBinClose w).Inv :=
    State.keeps_inv hs.1 (State.setOsc_keeps (State.setMon_keeps (State.keeps_refl s) _) _)
  obtain ⟨u, hu, hfold⟩ := State.foldl_sources h1 n (op := fun t m => t.srcBinClose m w (s.tb.c / binU w - 1))
    (fun t ht => State.keeps_inv ht (State.srcBinClose_keeps (State.keeps_refl t) _ _ _))
    fun t m hm _ ht => State.srcBinClose_other ht hm _ _ w.isLt
  refine ⟨_, exec_binClose hs w hd, ?_, fun hq => ?_, fun m hm => State.binEvents_pend hfold.inv w _
    (fun x hx => List.mem_range.mp hx) m (List.mem_range.mpr hm)⟩
  · rw [(State.binEvents_frame (n := n) _ _).1, hfold.mon, State.srcBinClose_mon, hu.mon]
    rfl
  · obtain ⟨-, hsrc, hrn⟩ := State.binEvents_frame (s := (List.range 21).foldl (fun t m => t.srcBinClose m w (s.tb.c / binU w - 1))
        ((s.setMon { s.mon with binIdx := lput 0 s.mon.binIdx w (s.tb.c / binU w) }).yBinClose w)) (n := n) w (List.range 4)
    obtain ⟨f, x, hf, hturn⟩ := State.srcBinClose_active (n := n) w (s.tb.c / binU w - 1) (by rw [hu.qstate]; exact hq)
    obtain ⟨hwins, hfoff⟩ := State.foffShown_spec (n := n) hu.inv (w := w)
      (u.foffAt n w (s.tb.c / binU w - 1) (lget WinSt.empty (u.src n).wins w)) hf x
    rw [← hturn] at hwins hfoff
    refine ⟨by rw [hsrc, hfold.src, hwins, hu.src]; rfl, fun v hv => ?_⟩
    have hold : u.foffAt n w (s.tb.c / binU w - 1) (lget WinSt.empty (u.src n).wins w) =
        s.foffAt n w (s.tb.c / binU w - 1) v := by
      have hwin : lget WinSt.empty (u.src n).wins w = v := by
        rw [hu.src]
        exact lget_of_getElem? _ hv
      have hper : u.srcPer n = s.srcPer n := hu.srcPer
      unfold State.foffAt
      rw [hwin, hper]
    rw [hrn _ (by unfold SRC_FOFF0; omega), hfold.rn _ (by unfold SRC_FOFF0; omega), hfoff, hold]

/-- The offset R38 gives, as the register holds it. -/
theorem foffOf_eq_match (y : Option Int) : foffOf y = match y with
    | none => 0x8000_0000
    | some v => fit32 v := by
  cases y <;> rfl

/-- Before the boundary nothing closes. -/
theorem sourceBins_before (hs : s.Ready) (w : Fin 3) (hd : s.tb.c / binU w ≤ lget 0 s.mon.binIdx w) :
    s.To (.binClose w) (· = s) := by
  refine ⟨s, ?_, rfl⟩
  change execBinClose w s = _
  unfold execBinClose
  rw [State.gridDue_eq hs, decide_eq_false (by omega), if_neg Bool.false_ne_true]

/-! ### The wander statistics (R44, R45) -/

/-- One source's turn at the boundary of a statistic: its record becomes `f` of itself and the register at `off` shows `g` of it,
where the source is active and its monitor computes the statistic. -/
def State.statTurn (s : State) (n i off : Nat) (f : SrcSt → SrcSt) (g : SrcSt → Nat) : State :=
  if s.statsOn n ∧ statActive (s.srcPer n) i ∧ 2 ≤ s.qstate n then
    (s.modSrc n f).wr (wSrc n) off (g ((s.modSrc n f).src n))
  else s

theorem State.statTurn_mon (m i off : Nat) (f : SrcSt → SrcSt) (g : SrcSt → Nat) : (s.statTurn m i off f g).mon = s.mon := by
  unfold State.statTurn
  split <;> rfl

theorem State.Inv.statTurn (h : s.Inv) (m i off : Nat) (f : SrcSt → SrcSt) (g : SrcSt → Nat) : (s.statTurn m i off f g).Inv := by
  unfold State.statTurn
  split
  · exact (h.modSrc m f).wr _ _ _
  · exact h

theorem State.statTurn_other {m : Nat} (h : s.Inv) (hm : m ≠ n) (i : Nat) {off : Nat} (ho : off < 0x4000) (f : SrcSt → SrcSt)
    (g : SrcSt → Nat) : s.SameSource n (s.statTurn m i off f g) :=
  .ite (fun _ => ((State.SameSource.refl h).modSrc hm f).wr hm off _ ho) fun _ => .refl h

theorem State.statTurn_own (h : s.Inv) {i off : Nat} (f : SrcSt → SrcSt) (g : SrcSt → Nat) (hon : s.statsOn n = true)
    (hact : statActive (s.srcPer n) i = true) (hq : 2 ≤ s.qstate n) :
    (s.statTurn n i off f g).src n = f (s.src n) ∧ (s.statTurn n i off f g).rn (wSrc n) off = g (f (s.src n)) % 2 ^ 32 := by
  have hsrc : (s.modSrc n f).src n = f (s.src n) := State.modSrc_src_same h n f
  unfold State.statTurn
  rw [if_pos ⟨hon, hact, hq⟩, hsrc]
  exact ⟨hsrc, State.rn_wr_same _ (h.modSrc n f).canon _ _ _⟩

/-- All sources' turns once the monitor holds `d`, seen from source `n`. -/
theorem State.statTurns_spec (h : s.Inv) (n : Src) (d : MonSt) {i off : Nat} (ho : off < 0x4000) (f : SrcSt → SrcSt)
    (g : SrcSt → Nat) : ((List.range 21).foldl (fun t m => t.statTurn m i off f g) (s.setMon d)).mon = d ∧
      (s.statsOn n = true → statActive (s.srcPer n) i = true → 2 ≤ s.qstate n →
        ((List.range 21).foldl (fun t m => t.statTurn m i off f g) (s.setMon d)).src n = f (s.src n) ∧
        ((List.range 21).foldl (fun t m => t.statTurn m i off f g) (s.setMon d)).rn (wSrc n) off = g (f (s.src n)) % 2 ^ 32) := by
  have hmon : (s.setMon d).Inv := State.keeps_inv h (State.setMon_keeps (State.keeps_refl s) d)
  obtain ⟨u, hu, hfold⟩ := State.foldl_sources hmon n (op := fun t m => t.statTurn m i off f g)
    (fun t ht => ht.statTurn n i off f g) fun t m hm _ ht => State.statTurn_other ht hm i ho f g
  refine ⟨by rw [hfold.mon, State.statTurn_mon, hu.mon]; rfl, fun hon hact hq => ?_⟩
  obtain ⟨hsrc, hrn⟩ := State.statTurn_own hu.inv f g (off := off) (hu.statsOn.trans hon) (hu.srcPer ▸ hact) (hu.qstate ▸ hq)
  rw [hfold.src, hfold.rn _ ho, hsrc, hrn, hu.src]
  exact ⟨rfl, rfl⟩

/-- The MTIE bin `k` of τ_i closes in the record. -/
def SrcSt.mtieClosed (i k : Nat) (x : SrcSt) : SrcSt := { x with mtie := x.mtie.modify i fun m => m.close k }

/-- The TDEV stride `k` of τ_i closes in the record. -/
def SrcSt.tdevClosed (i k : Nat) (x : SrcSt) : SrcSt := { x with tdev := x.tdev.modify i fun m => m.close k }

theorem SrcSt.mtieClosed_mtie {x : SrcSt} {i : Nat} (k : Nat) {m : MtieSt} (hm : x.mtie[i]? = some m) :
    (x.mtieClosed i k).mtie[i]? = some (m.close k) := by
  simp [SrcSt.mtieClosed, hm]

theorem SrcSt.tdevClosed_tdev {x : SrcSt} {i : Nat} (k : Nat) {m : TdevSt} (hm : x.tdev[i]? = some m) :
    (x.tdevClosed i k).tdev[i]? = some (m.close k) := by
  simp [SrcSt.tdevClosed, hm]

theorem exec_mtieBinClose (hs : s.Ready) (i : Fin 5) (hd : lget 0 s.mon.mtieIdx i < s.tb.c / mtieU i) :
    exec (.mtieBinClose i) s = .next ((List.range 21).foldl (fun t m => t.statTurn m i (SRC_MTIE0 + 4 * i)
        (SrcSt.mtieClosed i (s.tb.c / mtieU i - 1)) fun x => (lget MtieSt.empty x.mtie i).value)
      (s.setMon { s.mon with mtieIdx := lput 0 s.mon.mtieIdx i (s.tb.c / mtieU i) })) := by
  change execMtieBinClose i s = _
  unfold execMtieBinClose
  rw [if_pos (State.gridDue_of_lt hs hd)]
  rfl

theorem exec_tdevStride (hs : s.Ready) (i : Fin 5) (hd : lget 0 s.mon.tdevIdx i < s.tb.c / tdevU i) :
    exec (.tdevStride i) s = .next ((List.range 21).foldl (fun t m => t.statTurn m i (SRC_TDEV0 + 4 * i)
        (SrcSt.tdevClosed i (s.tb.c / tdevU i - 1)) fun x => (lget TdevSt.empty x.tdev i).value)
      (s.setMon { s.mon with tdevIdx := lput 0 s.mon.tdevIdx i (s.tb.c / tdevU i) })) := by
  change execTdevStride i s = _
  unfold execTdevStride
  rw [if_pos (State.gridDue_of_lt hs hd)]
  rfl

/-- R44: the bins of τ_i close. -/
theorem sourceBins_mtie (hs : s.Ready) (n : Src) (i : Fin 5) (hd : lget 0 s.mon.mtieIdx i < s.tb.c / mtieU i) :
    s.To (.mtieBinClose i) fun t => t.mon.mtieIdx = lput 0 s.mon.mtieIdx i (s.tb.c / mtieU i) ∧
      (s.statsOn n = true → statActive (s.srcPer n) i = true → 2 ≤ s.qstate n → ∀ m, (s.src n).mtie[i.val]? = some m →
        (t.src n).mtie[i.val]? = some (m.close (s.tb.c / mtieU i - 1)) ∧
          t.rn (wSrc n) (SRC_MTIE0 + 4 * i) = (m.close (s.tb.c / mtieU i - 1)).value % 2 ^ 32) := by
  obtain ⟨hmon, hturn⟩ := State.statTurns_spec hs.1 n { s.mon with mtieIdx := lput 0 s.mon.mtieIdx i (s.tb.c / mtieU i) }
    (i := i) (off := SRC_MTIE0 + 4 * i) (by unfold SRC_MTIE0; omega) (SrcSt.mtieClosed i (s.tb.c / mtieU i - 1))
    fun x => (lget MtieSt.empty x.mtie i).value
  refine ⟨_, exec_mtieBinClose hs i hd, by rw [hmon], fun hon hact hq m hm => ?_⟩
  obtain ⟨hsrc, hrn⟩ := hturn hon hact hq
  have hclosed := SrcSt.mtieClosed_mtie (s.tb.c / mtieU i - 1) hm
  rw [hsrc, hrn]
  exact ⟨hclosed, by rw [lget_of_getElem? _ hclosed]⟩

/-- R45: the strides of τ_i close. -/
theorem sourceBins_tdev (hs : s.Ready) (n : Src) (i : Fin 5) (hd : lget 0 s.mon.tdevIdx i < s.tb.c / tdevU i) :
    s.To (.tdevStride i) fun t => t.mon.tdevIdx = lput 0 s.mon.tdevIdx i (s.tb.c / tdevU i) ∧
      (s.statsOn n = true → statActive (s.srcPer n) i = true → 2 ≤ s.qstate n → ∀ m, (s.src n).tdev[i.val]? = some m →
        (t.src n).tdev[i.val]? = some (m.close (s.tb.c / tdevU i - 1)) ∧
          t.rn (wSrc n) (SRC_TDEV0 + 4 * i) = (m.close (s.tb.c / tdevU i - 1)).value % 2 ^ 32) := by
  obtain ⟨hmon, hturn⟩ := State.statTurns_spec hs.1 n { s.mon with tdevIdx := lput 0 s.mon.tdevIdx i (s.tb.c / tdevU i) }
    (i := i) (off := SRC_TDEV0 + 4 * i) (by unfold SRC_TDEV0; omega) (SrcSt.tdevClosed i (s.tb.c / tdevU i - 1))
    fun x => (lget TdevSt.empty x.tdev i).value
  refine ⟨_, exec_tdevStride hs i hd, by rw [hmon], fun hon hact hq m hm => ?_⟩
  obtain ⟨hsrc, hrn⟩ := hturn hon hact hq
  have hclosed := SrcSt.tdevClosed_tdev (s.tb.c / tdevU i - 1) hm
  rw [hsrc, hrn]
  exact ⟨hclosed, by rw [lget_of_getElem? _ hclosed]⟩

end

/-- Settles O30: at a boundary every source has one turn, and the other sources' turns leave the register and the record of the
source looked at. -/
theorem sourceBins : Obligations.SourceBins := by
  unfold Obligations.SourceBins
  intro s n w i hs
  refine ⟨sourceBins_before hs w, fun hd => ?_, sourceBins_mtie hs n i, sourceBins_tdev hs n i⟩
  obtain ⟨t, hexec, hidx, hfoff, hpend⟩ := sourceBins_window (n := n) hs w hd
  refine ⟨t, hexec, hidx, fun hq => ?_, hpend⟩
  obtain ⟨hwins, hshown⟩ := hfoff hq
  refine ⟨hwins, fun v hv => ?_⟩
  have hv := hshown v hv
  unfold State.foffAt at hv
  generalize (if winActive (s.srcPer n) w then v.offset (s.srcPer n) w (s.tb.c / binU w - 1) else none) = y at hv ⊢
  exact hv.trans (foffOf_eq_match y)

end Sys2Proof.Machine

/-!
PROOF. An evaluation in AUTO without a candidate (R63). With REVERT = 0 the current choice is kept while it is a candidate (R61), and
the model asks that of any number that CUR may hold, 21 to 30 too, which name no source.
-/

namespace Sys2Proof.Machine

/-- The clocks run; selector 1 is in AUTO with REVERT = 0 and in TRACK on number 24, which names no source. Window 40, where the
SRCn_STATE of a source 24 would lie, is DPLL0's, and its UPDCNT of 4 there reads as QUAL; the priority of 24 is read from the field
Q0 of SEL_QL0, 14 from reset. -/
def choiceBeyondSources : State :=
  let clocked := State.reset.setTb { State.reset.tb with running := true, c := 65536 * 5000000000 }
  (((clocked.put (wDpll 1) DPLL_SEL_CTL_REVERT 0).put (wDpll 1) DPLL_SEL_STATE_CUR 24).put (wDpll 1) DPLL_SEL_STATE_ST 3).wr
    (wDpll 0) DPLL_UPDCNT 4

theorem choiceBeyondSources_ready : choiceBeyondSources.Ready := by
  unfold State.Ready State.Inv State.Sized TbSt.Ok Eng.Ok
  decide

/-- All sources are OFF. -/
theorem choiceBeyondSources_noCandidate : choiceBeyondSources.selMode 1 = 0 ∧
    ∀ j, j < 21 → choiceBeyondSources.candidate 1 j = false := by
  decide

/-- The number 24 stays the choice. -/
theorem choiceBeyondSources_kept : choiceBeyondSources.To (.selectorEvaluation 1) fun t => t.selCur 1 = 24 :=
  ⟨_, rfl, by decide⟩

/-- Refutes O31: the clause of an evaluation without a choice asks only that no source be a candidate. Where CUR holds 24, which no
step of the selector puts there, an evaluation in AUTO with REVERT = 0 and no source QUAL keeps it and does not enter NONE. -/
theorem not_selectorChoices : ¬ Obligations.SelectorChoices := by
  unfold Obligations.SelectorChoices
  intro h
  obtain ⟨-, nothing⟩ := h choiceBeyondSources 1 0 choiceBeyondSources_ready (by decide) (by decide) (by decide)
  have left := nothing (.inr (.inr choiceBeyondSources_noCandidate)) (by decide)
  obtain ⟨t, ⟨hnone, -⟩, hkept⟩ := left.and choiceBeyondSources_kept
  exact absurd (hnone.symm.trans hkept) (by decide)

end Sys2Proof.Machine

/-!
PROOF. The selectors' state: what an operation of selector n leaves of the registers, the events and the system, and what of
SEL_STATE and the residual O a write of one of its fields leaves.
-/

namespace Sys2Proof.Machine

/-! ### A selector's window -/

theorem wDpll_lt (n : Loop) : wDpll n < W_ENG := by unfold wDpll W_DPLL W_ENG; omega
theorem wDpll_ne_evt (n : Loop) : wDpll n ≠ W_EVT := by unfold wDpll W_DPLL W_EVT; omega
theorem wSrc_ne_wDpll (k : Src) (n : Loop) : wSrc k ≠ wDpll n := by unfold wSrc wDpll W_SRC W_DPLL; omega

/-- The events of selector `n` (R75) are among those of EVT. -/
theorem evNo_sel_lt (n : Loop) (e : Nat) (he : e < 4) : evNo 5 (8 * n + e) < 512 := by
  unfold evNo
  omega

/-- Two registers of a selector's window. -/
theorem regAddr_dpll_ne (n : Nat) {off off' : Nat} (h : off < 0x4000) (h' : off' < 0x4000) (hne : off ≠ off') :
    regAddr (wDpll n) off ≠ regAddr (wDpll n) off' := regAddr_ne h h' (.inr hne)

theorem State.Inv.modSel {s : State} (h : s.Inv) (m : Nat) (f : SelSt → SelSt) : (s.modSel m f).Inv :=
  State.keeps_inv h (State.modSel_keeps (State.keeps_refl s) m f)

theorem State.Inv.sels_length {s : State} (h : s.Inv) : s.sels.length = 4 := by
  obtain ⟨-, -, ⟨-, -, -, hlen, -⟩, -⟩ := h
  exact hlen

/-- Selector `n` after an update of its record. -/
theorem State.modSel_sel {s : State} (h : s.Inv) (n : Loop) (f : SelSt → SelSt) : (s.modSel n f).sel n = f (s.sel n) := by
  have hlen := h.sels_length
  unfold State.sel State.modSel
  rw [lget_lmod, if_pos ⟨rfl, by omega⟩]

/-- A choice given up (R63): SEL_STATE, and the count and the cause where there was a choice. -/
def State.selGivenUp (s : State) (n cause : Nat) : State :=
  let t := s.putSel n
    (putBits (putBits (putBits (putBits (s.rn (wDpll n) DPLL_SEL_STATE) 0 5 noSrc) 8 2 0) 10 1 0) 16 5 (s.selCur n))
  if s.selCur n = noSrc then t else (t.count (wDpll n) DPLL_SEL_SWCNT 1).put (wDpll n) DPLL_SEL_STS_CAUSE cause

theorem State.selNone_eq (s : State) (n cause : Nat) :
    s.selNone n cause = ((if s.selIdle n then s.selGivenUp n cause else (s.selGivenUp n cause).setO n 0).modSel n fun x =>
      { x with retarget := false, follow := noSrc, returning := false, frac := 0 }).selEvent n 3 := rfl

/-- The source held by the jump guard of selector `n`, with JHOLD shown (R70). -/
def State.jumpHeld (s : State) (n k : Nat) : State := (s.srcHoldAs k 1).sts (wDpll n) DPLL_SEL_STS 16

/-! ### What a selector's operations leave -/

/-- `t` comes of `s` by operations of selector `n`: the registers of every other window below the engines' but EVT are as they
were, and what was pending is pending still. -/
structure State.SelMoves (s : State) (n : Loop) (t : State) : Prop where
  inv : t.Inv
  sys : t.sys = s.sys
  rn : ∀ w off, w < W_ENG → w ≠ W_EVT → w ≠ wDpll n → off < 0x4000 → t.rn w off = s.rn w off
  event : ∀ e, e < 512 → s.evPending e = true → t.evPending e = true

namespace State.SelMoves

variable {s t u : State} {n : Loop}

theorem refl (h : s.Inv) : s.SelMoves n s := ⟨h, rfl, fun _ _ _ _ _ _ => rfl, fun _ _ h => h⟩

theorem trans (h : s.SelMoves n t) (k : t.SelMoves n u) : s.SelMoves n u where
  inv := k.inv
  sys := k.sys.trans h.sys
  rn w off h1 h2 h3 h4 := (k.rn w off h1 h2 h3 h4).trans (h.rn w off h1 h2 h3 h4)
  event e he hp := k.event e he (h.event e he hp)

/-- A field of a source's register. -/
theorem getSrc (h : s.SelMoves n t) (k : Src) (f : Fld) (ho : f.off < 0x4000) : t.get (wSrc k) f = s.get (wSrc k) f := by
  unfold State.get
  rw [h.rn _ _ (wSrc_lt k) (wSrc_ne_evt k) (wSrc_ne_wDpll k n) ho]

theorem ite {c : Prop} [Decidable c] (ht : c → s.SelMoves n t) (hu : ¬ c → s.SelMoves n u) :
    s.SelMoves n (if c then t else u) := by
  split
  · exact ht ‹_›
  · exact hu ‹_›

/-! The small updates that they are made of. -/

theorem wr (h : s.SelMoves n t) {off : Nat} (v : Nat) (ho : off < 0x4000) : s.SelMoves n (t.wr (wDpll n) off v) :=
  h.trans ⟨h.inv.wr _ _ _, rfl,
    fun _ _ _ _ hw ho' => State.rn_wr_other t _ _ _ _ _ (regAddr_ne ho ho' (.inl (Ne.symm hw))),
    fun e he hp => by rwa [State.wr_evPending _ _ _ _ (wDpll_ne_evt n) ho he]⟩

theorem put (h : s.SelMoves n t) (f : Fld) (v : Nat) (ho : f.off < 0x4000) : s.SelMoves n (t.put (wDpll n) f v) := h.wr _ ho

theorem sts (h : s.SelMoves n t) (m : Nat) : s.SelMoves n (t.sts (wDpll n) DPLL_SEL_STS m) := h.wr _ (by decide)

theorem count (h : s.SelMoves n t) : s.SelMoves n (t.count (wDpll n) DPLL_SEL_SWCNT 1) := h.wr _ (by decide)

theorem modSel (h : s.SelMoves n t) (m : Nat) (f : SelSt → SelSt) : s.SelMoves n (t.modSel m f) :=
  h.trans ⟨h.inv.modSel _ _, rfl, fun _ _ _ _ _ _ => rfl, fun _ _ hp => hp⟩

theorem modSrc (h : s.SelMoves n t) (m : Nat) (f : SrcSt → SrcSt) : s.SelMoves n (t.modSrc m f) :=
  h.trans ⟨h.inv.modSrc _ _, rfl, fun _ _ _ _ _ _ => rfl, fun _ _ hp => hp⟩

theorem learnCheck (h : s.SelMoves n t) : s.SelMoves n t.learnCheck :=
  h.trans ⟨State.keeps_inv h.inv (State.learnCheck_keeps (State.keeps_refl t)), rfl, fun _ _ _ _ _ _ => rfl, fun _ _ hp => hp⟩

theorem engPend (h : s.SelMoves n t) (k e : Nat) (arg : Word64) : s.SelMoves n (t.engPend k e arg) :=
  h.trans ⟨State.keeps_inv h.inv (State.engPend_keeps (State.keeps_refl t) _ _ _),
    State.engPend_proj (·.sys) (fun _ _ _ _ => rfl) (fun _ _ _ => rfl) _ _ _,
    fun _ _ hw _ _ ho => State.engPend_rn _ _ _ _ _ hw ho, fun e' he hp => by rwa [State.engPend_evPending _ _ _ _ he]⟩

theorem raise (h : s.SelMoves n t) {g b : Nat} (hg : evNo g b < 512) : s.SelMoves n (t.raise g b) :=
  h.trans ⟨State.keeps_inv h.inv (State.raise_keeps (State.keeps_refl t) _ _), State.raise_sys _ _ _,
    fun _ _ hw he _ ho => State.raise_rn _ _ _ _ _ hg hw he ho,
    fun e he hp => by rw [State.raise_evPending h.inv.canon _ _ _ hg he, hp, Bool.or_true]⟩

/-! The operations. -/

theorem setO (h : s.SelMoves n t) (o : Int) : s.SelMoves n (t.setO n o) := (h.wr _ (by decide)).wr _ (by decide)

theorem putSel (h : s.SelMoves n t) (v : Nat) : s.SelMoves n (t.putSel n v) :=
  .ite (fun _ => h) fun _ => ((h.wr _ (by decide)).engPend _ _ _).learnCheck

theorem selEvent (h : s.SelMoves n t) {e : Nat} (he : e < 4) : s.SelMoves n (t.selEvent n e) :=
  (h.sts _).raise (evNo_sel_lt n e he)

theorem selRecord (h : s.SelMoves n t) (b st cause : Nat) : s.SelMoves n (t.selRecord n b st cause) :=
  ((((h.putSel _).count).put _ _ (by decide)).modSel _ _).modSrc _ _

theorem selGivenUp (h : s.SelMoves n t) (cause : Nat) : s.SelMoves n (t.selGivenUp n cause) :=
  .ite (fun _ => h.putSel _) fun _ => (h.putSel _).count.put _ _ (by decide)

theorem selNone (h : s.SelMoves n t) (cause : Nat) : s.SelMoves n (t.selNone n cause) :=
  ((State.SelMoves.ite (fun _ => h.selGivenUp cause) fun _ => (h.selGivenUp cause).setO 0).modSel _ _).selEvent (by decide)

theorem selEval (h : s.SelMoves n t) : s.SelMoves n (t.selEval n) := by
  have switch (b cause : Nat) := h.selRecord b 1 cause
  exact .ite (fun _ => (State.SelMoves.ite (fun _ => h) fun _ => h.selNone _).modSel _ _)
    fun _ => .ite (fun _ => (State.SelMoves.ite (fun _ => h) fun _ => (switch _ _).selEvent (by decide)).modSel _ _)
    fun _ => .ite (fun _ => (((switch _ _).modSel _ _).selEvent (by decide)).modSel _ _)
    fun _ => .ite (fun _ => (((switch _ _).modSel _ _).selEvent (by decide)).modSel _ _)
    fun _ => .ite (fun _ => h.modSel _ _)
    fun _ => .ite (fun _ => (((h.selRecord _ 2 _).modSel _ _).selEvent (by decide)).modSel _ _)
    fun _ => .ite (fun _ => ((switch _ _).selEvent (by decide)).modSel _ _)
    fun _ => (((switch _ _).modSel _ _).selEvent (by decide)).modSel _ _

theorem selTrigger (h : s.SelMoves n t) (x : SelTrig) : s.SelMoves n (t.selTrigger n x) := h.modSel _ _

theorem putSelF (h : s.SelMoves n t) (f : Fld) (v : Nat) : s.SelMoves n (t.putSelF n f v) := h.putSel _

theorem selAbsorb (h : s.SelMoves n t) : s.SelMoves n (t.selAbsorb n) :=
  .ite (fun _ => (h.putSelF _ _).putSelF _ _) fun _ => h

theorem selCmd (h : s.SelMoves n t) (v : Nat) : s.SelMoves n (t.selCmd n v) := by
  have h1 := State.SelMoves.ite (c := bitOf v 0 = true) (fun _ => h.selTrigger .config) fun _ => h
  exact .ite (fun _ => h1.selAbsorb) fun _ => h1

end State.SelMoves

/-! ### SEL_STATE and the residual -/

section
variable {s : State} {n : Loop}

/-- SEL_STATE just written. -/
theorem State.putSel_word (h : s.Canon) (v : Nat) : (s.putSel n v).rn (wDpll n) DPLL_SEL_STATE = v % 2 ^ 32 := by
  unfold State.putSel
  split
  · rename_i hv
    rw [← hv, Nat.mod_eq_of_lt (State.rn_lt _ _ _)]
  · refine (State.setOsc_rn _ _ _ _).trans ?_
    rw [State.engPend_rn _ _ _ _ _ (wDpll_lt n) (by decide), State.rn_wr_same s h]

/-- The window's other registers stay. -/
theorem State.putSel_rn (v : Nat) {off : Nat} (ho : off < 0x4000) (hne : off ≠ DPLL_SEL_STATE) :
    (s.putSel n v).rn (wDpll n) off = s.rn (wDpll n) off := by
  unfold State.putSel
  split
  · rfl
  · refine (State.setOsc_rn _ _ _ _).trans ?_
    rw [State.engPend_rn _ _ _ _ _ (wDpll_lt n) ho, State.rn_wr_other s _ _ _ _ _ (regAddr_dpll_ne n (by decide) ho (Ne.symm hne))]

/-- A field of SEL_STATE just written. -/
theorem State.putSel_get (h : s.Canon) (v : Nat) (f : Fld) (ho : f.off = DPLL_SEL_STATE) (hf : f.lsb + f.width ≤ 32) :
    (s.putSel n v).get (wDpll n) f = bitsOf v f.lsb f.width := by
  unfold State.get
  rw [ho, State.putSel_word h, bitsOf_mod32 _ _ _ hf]

theorem State.putSel_sels (v : Nat) : (s.putSel n v).sels = s.sels := by
  unfold State.putSel
  split
  · rfl
  · exact State.engPend_proj (·.sels) (fun _ _ _ _ => rfl) (fun _ _ _ => rfl) _ _ _

theorem State.putSelF_get (h : s.Canon) (f : Fld) (v : Nat) (ho : f.off = DPLL_SEL_STATE) (hf : f.lsb + f.width ≤ 32) :
    (s.putSelF n f v).get (wDpll n) f = v % 2 ^ f.width := by
  unfold State.putSelF
  rw [State.putSel_get h _ f ho hf, bitsOf_putBits_same]

/-- A field of SEL_STATE beside the one written. -/
theorem State.putSelF_get_beside (h : s.Canon) (f g : Fld) (v : Nat) (ho : g.off = DPLL_SEL_STATE) (hg : g.lsb + g.width ≤ 32)
    (hd : g.lsb + g.width ≤ f.lsb ∨ f.lsb + f.width ≤ g.lsb) : (s.putSelF n f v).get (wDpll n) g = s.get (wDpll n) g := by
  unfold State.putSelF
  rw [State.putSel_get h _ g ho hg, bitsOf_putBits_other _ _ _ _ _ _ hd]
  unfold State.get
  rw [ho]

theorem State.putSelF_pull (f : Fld) (v : Nat) :
    (s.putSelF n f v).pair (wDpll n) DPLL_SEL_PULL_LO = s.pair (wDpll n) DPLL_SEL_PULL_LO := by
  unfold State.pair State.putSelF
  rw [State.putSel_rn _ (by decide) (by decide), State.putSel_rn _ (by decide) (by decide)]

theorem State.modSel_pair (m w off : Nat) (f : SelSt → SelSt) : (s.modSel m f).pair w off = s.pair w off := rfl

/-- O just set. -/
theorem State.setO_pull (h : s.Canon) (o : Int) : (s.setO n o).pair (wDpll n) DPLL_SEL_PULL_LO = ofSigned 64 o := by
  unfold State.setO
  rw [State.pair_putPair h _ _ _ (by decide), Nat.mod_eq_of_lt (ofSigned_lt 64 o)]

theorem State.setO_get (o : Int) (f : Fld) (ho : f.off = DPLL_SEL_STATE) : (s.setO n o).get (wDpll n) f = s.get (wDpll n) f := by
  have hne (off : Nat) (hlt : off < 0x4000) (h : off ≠ DPLL_SEL_STATE) : regAddr (wDpll n) off ≠ regAddr (wDpll n) f.off := by
    rw [ho]
    exact regAddr_dpll_ne n hlt (by decide) h
  unfold State.setO State.putPair
  rw [State.get_wr_other _ _ _ _ _ _ (hne _ (by decide) (by decide)),
    State.get_wr_other _ _ _ _ _ _ (hne _ (by decide) (by decide))]

/-- An event of the selector leaves its registers but SEL_STS. -/
theorem State.selEvent_rn {e off : Nat} (he : e < 4) (ho : off < 0x4000) (hne : off ≠ DPLL_SEL_STS) :
    (s.selEvent n e).rn (wDpll n) off = s.rn (wDpll n) off := by
  unfold State.selEvent
  rw [State.raise_rn _ _ _ _ _ (evNo_sel_lt n e he) (wDpll_lt n) (wDpll_ne_evt n) ho,
    State.rn_sts_other s _ _ _ _ _ (regAddr_dpll_ne n (by decide) ho (Ne.symm hne))]

theorem State.selEvent_evPending (h : s.Canon) {e : Nat} (he : e < 4) :
    (s.selEvent n e).evPending (evNo 5 (8 * n + e)) = true := by
  unfold State.selEvent
  rw [State.raise_evPending (State.sts_canon h _ _ _) _ _ _ (evNo_sel_lt n e he) (evNo_sel_lt n e he)]
  simp

end

end Sys2Proof.Machine

/-!
PROOF. What an evaluation chooses (R56 to R62), and O32: the first sample of a choice and the selector's commands (R65 to R71).
-/

namespace Sys2Proof.Machine

/-! ### The choice -/

section
variable {s : State} {n : Loop}

/-- R57: the best candidate is one of the sources, and a candidate. -/
theorem State.bestCandidate_spec (s : State) (n : Nat) :
    s.bestCandidate n = noSrc ∨ s.bestCandidate n < 21 ∧ s.candidate n (s.bestCandidate n) = true := by
  unfold State.bestCandidate
  refine List.foldlRecOn (motive := fun b => b = noSrc ∨ b < 21 ∧ s.candidate n b = true) _ _ (.inl rfl) fun b hb k hk => ?_
  obtain ⟨hlt, hcand⟩ := List.mem_filter.mp hk
  split
  · exact .inr ⟨List.mem_range.mp hlt, hcand⟩
  · exact hb

/-- R56: a candidate is QUAL. -/
theorem State.candidate_qual {k : Nat} (h : s.candidate n k = true) : s.qstate k = 4 := by
  unfold State.candidate at h
  simp only [Bool.and_eq_true, beq_iff_eq] at h
  exact h.1.1

theorem State.selCur_lt (s : State) (n : Nat) : s.selCur n < 32 := bitsOf_lt _ _ _

/-- R60, R61: what an evaluation chooses is QUAL, and CUR can show it. -/
theorem State.choice_spec (s : State) (n : Loop) :
    s.choice n < 32 ∧ (s.choice n = noSrc ∨ s.qstate (s.choice n) = 4) := by
  have hnone : noSrc < 32 ∧ (noSrc = noSrc ∨ s.qstate noSrc = 4) := ⟨by decide, .inl rfl⟩
  have hbest : s.bestCandidate n < 32 ∧ (s.bestCandidate n = noSrc ∨ s.qstate (s.bestCandidate n) = 4) := by
    rcases s.bestCandidate_spec n with hb | ⟨hlt, hcand⟩
    · rw [hb]
      exact hnone
    · exact ⟨by omega, .inr (State.candidate_qual hcand)⟩
  unfold State.choice
  dsimp only
  split
  · exact hnone
  · split
    · split
      · rename_i hf
        exact ⟨by omega, .inr hf.2⟩
      · exact hnone
    · split
      · exact hbest
      · rename_i hkeep
        have hcand : s.candidate n (s.selCur n) = true := by
          by_contra hno
          exact hkeep (.inr (.inr hno))
        split
        · exact hbest
        · exact ⟨s.selCur_lt n, .inr (State.candidate_qual hcand)⟩

/-! ### What an evaluation records -/

theorem State.selEvent_selCur {e : Nat} (he : e < 4) : (s.selEvent n e).selCur n = s.selCur n :=
  congrArg (bitsOf · _ _) (State.selEvent_rn he (by decide) (by decide))

theorem State.modSrc_selCur (m : Nat) (f : SrcSt → SrcSt) : (s.modSrc m f).selCur n = s.selCur n := rfl
theorem State.modSel_selCur (m : Nat) (f : SelSt → SelSt) : (s.modSel m f).selCur n = s.selCur n := rfl

/-- The count and the cause of a change of choice leave CUR. -/
theorem State.selCounted_selCur (cause : Nat) :
    ((s.count (wDpll n) DPLL_SEL_SWCNT 1).put (wDpll n) DPLL_SEL_STS_CAUSE cause).selCur n = s.selCur n := by
  unfold State.selCur
  rw [State.get_put_other _ _ _ _ _ _ (regAddr_dpll_ne n (by decide) (by decide) (by decide)),
    State.get_count_other _ _ _ _ _ _ (regAddr_dpll_ne n (by decide) (by decide) (by decide))]

/-- R65: the choice recorded in CUR. -/
theorem State.selRecord_selCur (h : s.Canon) {b : Nat} (st cause : Nat) (hb : b < 32) : (s.selRecord n b st cause).selCur n = b := by
  unfold State.selRecord
  rw [State.modSrc_selCur, State.modSel_selCur, State.selCounted_selCur]
  refine (State.putSel_get h _ DPLL_SEL_STATE_CUR rfl (by decide)).trans ?_
  rw [bitsOf_putBits_other _ _ _ _ _ _ (by decide), bitsOf_putBits_other _ _ _ _ _ _ (by decide)]
  exact (bitsOf_putBits_same _ 0 5 b).trans (Nat.mod_eq_of_lt hb)

theorem State.selGivenUp_selCur (h : s.Canon) (cause : Nat) : (s.selGivenUp n cause).selCur n = noSrc := by
  have hput (v p : Nat) : (s.putSel n (putBits (putBits (putBits (putBits v 0 5 noSrc) 8 2 0) 10 1 0) 16 5 p)).selCur n = noSrc := by
    refine (State.putSel_get h _ DPLL_SEL_STATE_CUR rfl (by decide)).trans ?_
    rw [bitsOf_putBits_other _ _ _ _ _ _ (by decide), bitsOf_putBits_other _ _ _ _ _ _ (by decide),
      bitsOf_putBits_other _ _ _ _ _ _ (by decide)]
    exact bitsOf_putBits_same _ 0 5 noSrc
  unfold State.selGivenUp
  dsimp only
  split
  · exact hput _ _
  · exact (State.selCounted_selCur cause).trans (hput _ _)

theorem State.setO_selCur (o : Int) : (s.setO n o).selCur n = s.selCur n := State.setO_get o DPLL_SEL_STATE_CUR rfl

/-- R63: CUR after a choice given up. -/
theorem State.selNone_selCur (h : s.Canon) (cause : Nat) : (s.selNone n cause).selCur n = noSrc := by
  rw [State.selNone_eq, State.selEvent_selCur (by decide), State.modSel_selCur]
  split
  · exact State.selGivenUp_selCur h cause
  · exact (State.setO_selCur 0).trans (State.selGivenUp_selCur h cause)

/-- R62: an evaluation leaves in CUR what it chose. -/
theorem State.selEval_selCur (h : s.Canon) : (s.selEval n).selCur n = s.choice n := by
  have hrec (st cause : Nat) : (s.selRecord n (s.choice n) st cause).selCur n = s.choice n :=
    State.selRecord_selCur h st cause (s.choice_spec n).1
  have hevent (u : State) (e : Nat) (he : e < 4) : (u.selEvent n e).selCur n = u.selCur n := State.selEvent_selCur he
  unfold State.selEval
  dsimp only
  split
  · rename_i hb
    rw [State.modSel_selCur, hb]
    split
    · rename_i hcur
      exact hcur.1
    · exact State.selNone_selCur h _
  · split
    · rw [State.modSel_selCur]
      split
      · rename_i hcur
        exact hcur.symm
      · rw [hevent _ _ (by decide), hrec]
    · split
      · rw [State.modSel_selCur, hevent _ _ (by decide), State.modSel_selCur, hrec]
      · split
        · rw [State.modSel_selCur, hevent _ _ (by decide), State.modSel_selCur, hrec]
        · split
          · rename_i hcur
            exact hcur.symm
          · split
            · rw [State.modSel_selCur, hevent _ _ (by decide), State.modSel_selCur, hrec]
            · split
              · rw [State.modSel_selCur, hevent _ _ (by decide), hrec]
              · rw [State.modSel_selCur, hevent _ _ (by decide), State.modSel_selCur, hrec]

/-! ### The first sample of a choice -/

/-- BO and then ST set: the residual and the choice stay. -/
theorem State.putBoSt_spec (h : s.Inv) (n : Loop) (bo st : Nat) :
    let t := (s.putSelF n DPLL_SEL_STATE_BO bo).putSelF n DPLL_SEL_STATE_ST st
    t.pair (wDpll n) DPLL_SEL_PULL_LO = s.pair (wDpll n) DPLL_SEL_PULL_LO ∧ t.selCur n = s.selCur n ∧ t.selSt n = st % 4 ∧
      t.get (wDpll n) DPLL_SEL_STATE_BO = bo % 2 := by
  have h1 := ((State.SelMoves.refl (n := n) h).putSelF DPLL_SEL_STATE_BO bo).inv.canon
  have hbeside (f : Fld) := State.putSelF_get_beside (n := n) h1 DPLL_SEL_STATE_ST f st
  exact ⟨(State.putSelF_pull _ _).trans (State.putSelF_pull _ _),
    (hbeside DPLL_SEL_STATE_CUR rfl (by decide) (by decide)).trans
      (State.putSelF_get_beside h.canon DPLL_SEL_STATE_BO DPLL_SEL_STATE_CUR bo rfl (by decide) (by decide)),
    State.putSelF_get h1 DPLL_SEL_STATE_ST st rfl (by decide),
    (hbeside DPLL_SEL_STATE_BO rfl (by decide) (by decide)).trans
      (State.putSelF_get h.canon DPLL_SEL_STATE_BO bo rfl (by decide))⟩

/-- R65, R66: loop `n` begins with residual `o` on choice `k`: in PULL, in TRACK when O = 0, or in TRACK with BO where O is kept. -/
def State.Started (t : State) (n : Loop) (k : Nat) (o : Int) (keep : Bool) : Prop :=
  t.pair (wDpll n) DPLL_SEL_PULL_LO = ofSigned 64 o ∧ t.selCur n = k ∧ t.selSt n = (if keep = true ∨ o = 0 then 3 else 2) ∧
    t.flag (wDpll n) DPLL_SEL_STATE_BO = keep

theorem State.selStart_started (h : s.Inv) (o : Int) (keep : Bool) : (s.selStart n o keep).Started n (s.selCur n) o keep := by
  have h1 := ((State.SelMoves.refl (n := n) h).setO o).modSel n
    fun x => { x with returning := false, retarget := false, follow := noSrc, frac := 0 }
  obtain ⟨hpull, hcur, hst, hbo⟩ := State.putBoSt_spec h1.inv n (b2n keep) (if keep = true ∨ o = 0 then 3 else 2)
  refine ⟨hpull.trans ((State.modSel_pair _ _ _ _).trans (State.setO_pull h.canon o)),
    (hcur.trans (State.modSel_selCur _ _)).trans (State.setO_selCur o), hst.trans ?_, ?_⟩
  · split <;> rfl
  · unfold State.flag State.selStart
    dsimp only
    rw [hbo]
    cases keep <;> rfl

theorem State.SelMoves.selStart {t : State} (h : s.SelMoves n t) (o : Int) (keep : Bool) : s.SelMoves n (t.selStart n o keep) :=
  (((h.setO o).modSel _ _).putSelF _ _).putSelF _ _

/-- R71: a pass spent changes nothing of it. -/
theorem State.Started.spendPass {k : Nat} {o : Int} {keep : Bool} (h : s.Started n k o keep) (j : Nat) :
    (s.spendPass n j).Started n k o keep := h

theorem State.Started.selEvent {k e : Nat} {o : Int} {keep : Bool} (h : s.Started n k o keep) (he : e < 4) :
    (s.selEvent n e).Started n k o keep := by
  have hget (f : Fld) (ho : f.off = DPLL_SEL_STATE) : (s.selEvent n e).get (wDpll n) f = s.get (wDpll n) f := by
    unfold State.get
    rw [ho, State.selEvent_rn he (by decide) (by decide)]
  obtain ⟨hpull, hcur, hst, hbo⟩ := h
  refine ⟨?_, (hget DPLL_SEL_STATE_CUR rfl).trans hcur, (hget DPLL_SEL_STATE_ST rfl).trans hst,
    (congrArg (· != 0) (hget DPLL_SEL_STATE_BO rfl)).trans hbo⟩
  rw [← hpull]
  unfold State.pair
  rw [State.selEvent_rn he (by decide) (by decide), State.selEvent_rn he (by decide) (by decide)]

/-- R67: the effective error while a re-target waits is that of the source followed until then. -/
theorem State.effError_retarget (hr : (s.sel n).retarget = true) (hf : (s.sel n).follow ≤ 20) :
    s.effError n = s.srcError n (s.sel n).follow - s.selO n := by
  have hsteer : s.selSteer n = (s.sel n).follow := if_pos hr
  unfold State.effError
  rw [hsteer, if_neg (by omega)]

theorem exec_switchFirstSample (hi : s.selIdle n = false) (hf : s.freshSample n = true) (hst : s.selSt n = 1)
    (hr : (s.sel n).returning = false) : exec (.switchFirstSample n) s =
      .next (s.selStart n (s.srcError n (s.selCur n) - (s.sel n).eLast) (s.flag (wDpll n) DPLL_SEL_CTL_SWMODE)) := by
  change execSwitchFirstSample n s = _
  unfold execSwitchFirstSample
  rw [if_pos ⟨hst, by simp [hr], hf, by simp [hi]⟩]
  rfl

theorem exec_retargetFirstSample (hi : s.selIdle n = false) (hf : s.freshSample n = true) (hst : s.selSt n = 2)
    (hr : (s.sel n).retarget = true) : exec (.retargetFirstSample n) s =
      .next (if s.srcError n (s.selCur n) - s.effError n = 0 ∧ ¬ s.flag (wDpll n) DPLL_SEL_STATE_BO = true then
        (s.selStart n (s.srcError n (s.selCur n) - s.effError n) (s.flag (wDpll n) DPLL_SEL_STATE_BO)).selEvent n 2
      else s.selStart n (s.srcError n (s.selCur n) - s.effError n) (s.flag (wDpll n) DPLL_SEL_STATE_BO)) := by
  change execRetargetFirstSample n s = _
  simp only [execRetargetFirstSample, hst, hr, hf, hi, Bool.false_eq_true, not_false_eq_true, true_and, and_self, if_true]

theorem exec_returnFirstSample (hi : s.selIdle n = false) (hf : s.freshSample n = true) (hst : s.selSt n = 1)
    (hr : (s.sel n).returning = true) : exec (.returnFirstSample n) s = .next (s.selReturn n) := by
  change execReturnFirstSample n s = _
  unfold execReturnFirstSample
  rw [if_pos ⟨hst, hr, hf, by simp [hi]⟩]

/-- R69: under BUILDOUT the whole error is kept. -/
theorem State.selReturn_buildout (hm : s.followMode n (s.selCur n) = false) :
    s.selReturn n = s.selStart n (s.srcError n (s.selCur n)) true := by
  unfold State.selReturn
  exact if_pos (by simp [hm])

/-- R70: within the guard, a FOLLOW return pulls, and spends the source's pass. -/
theorem State.selReturn_within (hm : s.followMode n (s.selCur n) = true) (hg : s.rn (wDpll n) DPLL_SEL_JGUARD = 0 ∨
      (s.srcError n (s.selCur n)).natAbs ≤ s.rn (wDpll n) DPLL_SEL_JGUARD * 65536) :
    s.selReturn n = (s.selStart n (s.srcError n (s.selCur n)) false).spendPass n (s.selCur n) := by
  unfold State.selReturn
  dsimp only
  rw [if_neg (by simp [hm]), if_pos (hg.imp_right .inr)]

/-- R70: beyond the guard the source is held and the selector evaluates again. -/
theorem State.selReturn_beyond (hm : s.followMode n (s.selCur n) = true) (h0 : 0 < s.rn (wDpll n) DPLL_SEL_JGUARD)
    (hg : s.rn (wDpll n) DPLL_SEL_JGUARD * 65536 < (s.srcError n (s.selCur n)).natAbs) (hp : s.hasPass n (s.selCur n) = false) :
    s.selReturn n = (s.jumpHeld n (s.selCur n)).selEval n := by
  have hbeyond : ¬ (s.rn (wDpll n) DPLL_SEL_JGUARD = 0 ∨ s.hasPass n (s.selCur n) = true ∨
      (s.srcError n (s.selCur n)).natAbs ≤ s.rn (wDpll n) DPLL_SEL_JGUARD * 65536) := by
    rw [hp]
    simp only [Bool.false_eq_true, false_or, not_or, not_le]
    exact ⟨Nat.ne_of_gt h0, hg⟩
  unfold State.selReturn
  dsimp only
  rw [if_neg (by simp [hm]), if_neg hbeyond]
  rfl

/-- R46, R49: a jump hold of a QUAL source. -/
theorem State.srcHoldAs_jump {k : Src} (h : s.Inv) (hq : s.qstate k = 4) (hf : s.srcForce k = 0) :
    (s.srcHoldAs k 1).qstate k = 5 ∧ (s.srcHoldAs k 1).get (wSrc k) SRC_STATE_HOLDCAUSE = 1 ∧
      (s.srcHoldAs k 1).evPending (evNo (1 + k / 6) (5 * (k % 6) + 4)) = true := by
  have h1 := (State.SrcMoves.refl (n := k) h).srcClearWait
  have h2 := h1.setQ 5
  have h3 := h2.putState SRC_STATE_HOLDCAUSE 1 rfl (by decide)
  unfold State.srcHoldAs
  dsimp only
  rw [if_pos (.inr hq), if_pos hf, if_pos rfl]
  refine ⟨?_, ?_, State.srcEvent_evPending (h3.sts 16).inv.canon k 4 (by decide)⟩
  · rw [State.srcEvent_qstate 4 (by decide), State.sts_qstate, State.putState_qstate h2.inv _ _ rfl (by decide),
      State.setQ_qstate h1.inv 5 (by decide)]
  · rw [State.srcEvent_get k 4 (by decide) _ (by decide),
      State.get_sts_other _ _ _ _ _ _ (regAddr_src_ne _ (by decide) (by decide) (by decide)),
      State.get_put_same _ h2.inv.canon _ _ _ (by decide)]
    rfl

/-- R70, R72: a source held by the guard is no longer the selector's choice. -/
theorem State.jumpHeld_selEval {k : Src} (h : s.Inv) (hq : s.qstate k = 4) (hf : s.srcForce k = 0) :
    let t := (s.jumpHeld n k).selEval n
    t.qstate k = 5 ∧ t.get (wSrc k) SRC_STATE_HOLDCAUSE = 1 ∧ t.selCur n ≠ k ∧
      t.evPending (evNo (1 + k / 6) (5 * (k % 6) + 4)) = true := by
  obtain ⟨hheld, hcause, hevent⟩ := State.srcHoldAs_jump h hq hf
  have hj : (s.srcHoldAs k 1).SelMoves n (s.jumpHeld n k) :=
    (State.SelMoves.refl ((State.SrcMoves.refl (n := k) h).srcHoldAs 1).inv).sts 16
  have hm := hj.selEval
  have hjq : (s.jumpHeld n k).qstate k = 5 := (hj.getSrc k _ (by decide)).trans hheld
  refine ⟨(hm.getSrc k _ (by decide)).trans hheld, (hm.getSrc k _ (by decide)).trans hcause, ?_,
    hm.event _ (evNo_src_lt k 4 (by decide)) hevent⟩
  rw [State.selEval_selCur hj.inv.canon]
  rcases (State.choice_spec (s.jumpHeld n k) n).2 with hnone | hqual
  · rw [hnone]
    unfold noSrc
    omega
  · intro hk
    rw [hk, hjq] at hqual
    exact absurd hqual (by decide)

/-! ### The selector's commands -/

theorem winBlock_dpll : ∀ n : Loop, winBlock (wDpll n) = some (.dpll n) := by decide

theorem regRow_selCmd : ∀ n : Loop, regRow (wDpll n) DPLL_SEL_CMD = some ⟨0x224, 1, 0, .cmd, 0xfffffffc, 0⟩ := by decide

theorem guardGroup_dpll : ∀ n : Loop, guardGroup (wDpll n) DPLL_SEL_CMD = none := by decide

theorem tbCrossing_selCmd : ∀ n : Loop, tbCrossing (wDpll n) DPLL_SEL_CMD = false := by decide

theorem wDpll_plain : ∀ n : Loop, wDpll n ≠ W_GUARD ∧ wDpll n ≠ W_NVS ∧ wDpll n ≠ W_CAL := by decide

/-- A write of DPLLn_SEL_CMD does its command (R356): whoever writes, nothing refuses it. -/
theorem State.regWrite_selCmd (r : Req) (v : Nat) : s.regWrite r (wDpll n) DPLL_SEL_CMD .plain v = (.ok, s.selCmd n v) := by
  obtain ⟨hguard, hnvs, hcal⟩ := wDpll_plain n
  have hlocked : s.writeLocked (wDpll n) DPLL_SEL_CMD .plain v = false := by
    simp [State.writeLocked, State.guarded, guardGroup_dpll, hnvs]
  have hmay : mayWrite r (wDpll n) DPLL_SEL_CMD = true := by
    simp only [mayWrite, winBlock_dpll]
    rfl
  have hrefuses : s.refuses r (wDpll n) DPLL_SEL_CMD (s.view (wDpll n) DPLL_SEL_CMD) v = none := by
    simp only [State.refuses, winBlock_dpll]
    simp [State.dpllRefuses, DPLL_SEL_CMD, DPLL_CTL, DPLL_DCOW_HI, DPLL_HOWORD_LO, DPLL_HOWORD_HI, DPLL_HORAMP, DPLL_PSTEP_HI]
  have hstaged : stagedReg (wDpll n) DPLL_SEL_CMD = false := by
    simp only [stagedReg, winBlock_dpll]
    rfl
  have hact : s.cmdAct r (wDpll n) DPLL_SEL_CMD v = s.selCmd n v := by
    simp only [State.cmdAct, winBlock_dpll]
    rfl
  rw [State.regWrite_cmd (regRow_selCmd n) rfl hguard hlocked hmay hrefuses hstaged, if_neg fun h => hcal h.1,
    State.cmdEffect, if_neg (by simp [tbCrossing_selCmd]), hact]

/-- R66, R62: a command of SEL_CMD is a write of that register with its bit set. -/
theorem exec_selCmdBit {r : Req} (hs : s.Ready) (hr : r ≠ .i2c) (b : Nat) (v : Word) :
    ∃ o, s.wrFld r (wDpll n) ⟨DPLL_SEL_CMD, b, 1⟩ 1 v = (s.selCmd n (putBits v.toNat b 1 1)).emit o := by
  have hlt := wDpll_lt n
  have hsoft : (s.selCmd n (putBits v.toNat b 1 1)).sys.soft = false := by
    rw [((State.SelMoves.refl (n := n) hs.1).selCmd _).sys]
    exact hs.2.1
  have hcore := s.coreWrite_reg (v := putBits v.toNat b 1 1) (inReach_of_ne_i2c hr true (regAddr (wDpll n) DPLL_SEL_CMD))
    (by decide) (by unfold W_ENG at hlt; omega) (by decide)
  rw [State.regWrite_selCmd, State.accRecord_ok] at hcore
  refine ⟨.answer r (regAddr (wDpll n) DPLL_SEL_CMD) .ok (BitVec.ofNat 32 (putBits v.toNat b 1 1)), ?_⟩
  simp only [State.wrFld, State.doorWrite, State.busWrite, hcore, State.softResume_of hsoft]

/-- R66: ABSORB. -/
theorem State.selAbsorb_spec (h : s.Inv) : (s.selAbsorb n).selCur n = s.selCur n ∧ (s.selAbsorb n).selO n = s.selO n ∧
    (s.selAbsorb n).selSt n = (if s.selSt n = 2 then 3 else s.selSt n) ∧
    (s.selSt n = 2 → (s.selAbsorb n).flag (wDpll n) DPLL_SEL_STATE_BO = true) := by
  unfold State.selAbsorb
  split
  · rename_i hst
    obtain ⟨hpull, hcur, hst3, hbo⟩ := State.putBoSt_spec h n 1 3
    refine ⟨hcur, congrArg (toSigned 64) hpull, hst3, fun _ => ?_⟩
    unfold State.flag
    rw [hbo]
    rfl
  · rename_i hst
    exact ⟨rfl, rfl, rfl, fun h2 => absurd h2 hst⟩

theorem State.selAbsorb_sel : (s.selAbsorb n).sel n = s.sel n := by
  unfold State.sel State.selAbsorb
  split
  · unfold State.putSelF
    rw [State.putSel_sels, State.putSel_sels]
  · rfl

/-- R62: REEVAL asks for an evaluation; a tie's or a freeze's end that waits for one is not overridden. -/
theorem State.selTrigger_trig (h : s.Inv) (x : SelTrig) (hu : (s.sel n).trig ≠ .untie) (hf : (s.sel n).trig ≠ .unfreeze) :
    ((s.selTrigger n x).sel n).trig = x := by
  unfold State.selTrigger
  rw [State.modSel_sel h, if_neg (not_or.mpr ⟨hu, hf⟩)]

/-- What a write of SEL_CMD with ABSORB set leaves. -/
theorem State.selCmd_absorb (h : s.Inv) {v : Nat} (hv : bitOf v 1 = true) :
    (s.selCmd n v).selCur n = s.selCur n ∧ (s.selCmd n v).selO n = s.selO n ∧
      (s.selCmd n v).selSt n = (if s.selSt n = 2 then 3 else s.selSt n) ∧
      (s.selSt n = 2 → (s.selCmd n v).flag (wDpll n) DPLL_SEL_STATE_BO = true) := by
  unfold State.selCmd
  dsimp only
  rw [if_pos hv]
  split
  · exact State.selAbsorb_spec (s := s.selTrigger n .config) (h.modSel _ _)
  · exact State.selAbsorb_spec h

/-- What a write of SEL_CMD with REEVAL set leaves. -/
theorem State.selCmd_reeval (h : s.Inv) {v : Nat} (hv : bitOf v 0 = true) (hu : (s.sel n).trig ≠ .untie)
    (hf : (s.sel n).trig ≠ .unfreeze) : ((s.selCmd n v).sel n).trig = .config ∧ (s.selCmd n v).selCur n = s.selCur n := by
  have htrig := State.selTrigger_trig h .config hu hf
  unfold State.selCmd
  dsimp only
  rw [if_pos hv]
  split
  · rw [State.selAbsorb_sel]
    exact ⟨htrig, (State.selAbsorb_spec (s := s.selTrigger n .config) (h.modSel _ _)).1⟩
  · exact ⟨htrig, rfl⟩

end

/-- Settles O32: a first sample is a `selStart`, but for a return beyond the guard, after which the held source is no choice;
SEL_CMD acts by its bits. -/
theorem selectorSamples : Obligations.SelectorSamples := by
  unfold Obligations.SelectorSamples
  intro s n r v hs w k e f starts
  have hi := hs.1
  have hstart (o : Int) (keep : Bool) : (s.selStart n o keep).Started n k o keep := State.selStart_started hi o keep
  have hone (b : Nat) : bitOf (putBits v.toNat b 1 1) b = true := by rw [bitOf_putBits_one]; rfl
  refine ⟨fun hidle hfresh => ⟨fun hst hret => ?_, fun hst hret hf => ?_, fun hst hret => ?_⟩, fun hr => ⟨?_, fun hu hf => ?_⟩⟩
  · exact ⟨_, exec_switchFirstSample hidle hfresh hst hret, hstart _ _⟩
  · have hexec := exec_retargetFirstSample hidle hfresh hst hret
    rw [State.effError_retarget hret hf] at hexec
    split at hexec
    · exact ⟨_, hexec, (hstart _ _).selEvent (by decide),
        fun _ _ => State.selEvent_evPending ((State.SelMoves.refl hi).selStart _ _).inv.canon (by decide)⟩
    · rename_i hpulls
      refine ⟨_, hexec, hstart _ _, fun heq hbo => absurd ⟨?_, ?_⟩ hpulls⟩
      · exact sub_eq_zero.mpr heq
      · rw [hbo]
        decide
  · have hexec := exec_returnFirstSample hidle hfresh hst hret
    refine ⟨fun hm => ?_, fun hm hg => ?_, fun hm h0 hg hk hp hforce hq => ?_⟩
    · rw [State.selReturn_buildout hm] at hexec
      exact ⟨_, hexec, hstart e true⟩
    · rw [State.selReturn_within hm hg] at hexec
      exact ⟨_, hexec, (hstart e false).spendPass k⟩
    · rw [State.selReturn_beyond hm h0 hg hp] at hexec
      exact ⟨_, hexec, State.jumpHeld_selEval (k := ⟨k, hk⟩) hi hq hforce⟩
  · exact .of_emit ((exec_selCmdBit (n := n) hs hr 1 v).imp fun _ => congrArg _) fun _ => State.selCmd_absorb hi (hone 1)
  · exact .of_emit ((exec_selCmdBit (n := n) hs hr 0 v).imp fun _ => congrArg _) fun _ => State.selCmd_reeval hi (hone 0) hu hf

end Sys2Proof.Machine

/-!
PROOF. A loop's window field by field: what an operation of loop n, of its selector or of the bridge leaves of the loop's registers
and of its update cycle.
-/

namespace Sys2Proof.Machine

/-! ### Fields that an operation leaves -/

/-- The whole register at offset `off`. -/
def Fld.word (off : Nat) : Fld := ⟨off, 0, 32⟩

/-- Two fields share no bit. -/
def Fld.apart (f g : Fld) : Bool :=
  f.off != g.off || decide (g.lsb + g.width ≤ f.lsb) || decide (f.lsb + f.width ≤ g.lsb)

/-- Field `g` of a window's register is beside every field of `fs`. -/
def Fld.clearOf (g : Fld) (fs : List Fld) : Bool :=
  decide (g.off < 0x4000 ∧ 0 < g.width ∧ g.lsb + g.width ≤ 32) && fs.all (·.apart g)

theorem Fld.clearOf_iff (g : Fld) (fs : List Fld) : g.clearOf fs = true ↔
    (g.off < 0x4000 ∧ 0 < g.width ∧ g.lsb + g.width ≤ 32) ∧ ∀ f ∈ fs, f.apart g = true := by
  unfold Fld.clearOf
  rw [Bool.and_eq_true, decide_eq_true_iff, List.all_eq_true]

theorem Fld.apart_iff (f g : Fld) : f.apart g = true ↔
    f.off ≠ g.off ∨ g.lsb + g.width ≤ f.lsb ∨ f.lsb + f.width ≤ g.lsb := by
  simp [Fld.apart, or_assoc]

/-- A field beside a whole register is one of another register. -/
theorem Fld.off_ne_of_clearOf {g : Fld} {fs : List Fld} {off : Nat} (hg : g.clearOf fs = true) (hf : Fld.word off ∈ fs) :
    off ≠ g.off := by
  obtain ⟨⟨-, hpos, hlt⟩, hall⟩ := (Fld.clearOf_iff g fs).mp hg
  rcases (Fld.apart_iff _ _).mp (hall _ hf) with h | h | h <;> unfold Fld.word at h
  · exact h
  all_goals dsimp only at h; omega

/-- What of a loop's record counts its updates and decides its state (R79, R80, R93). -/
def DpllSt.cycle (x : DpllSt) : Nat × Nat × Bool × Bool := (x.updIdx, x.missRun, x.stall, x.frozen)

theorem State.get_word (s : State) (w off : Nat) : s.get w (Fld.word off) = s.rn w off := by
  simpa [State.get, Fld.word, bitsOf] using s.rn_lt w off

theorem State.Inv.modDpll {s : State} (h : s.Inv) (m : Nat) (f : DpllSt → DpllSt) : (s.modDpll m f).Inv :=
  State.keeps_inv h (State.modDpll_keeps (State.keeps_refl s) m f)

/-- Loop `n` after an update of a loop's record. -/
theorem State.modDpll_dpll {s : State} (h : s.Inv) (m : Nat) (n : Loop) (f : DpllSt → DpllSt) :
    (s.modDpll m f).dpll n = if n.val = m then f (s.dpll n) else s.dpll n := by
  obtain ⟨-, -, ⟨-, -, -, -, hlen, -⟩, -⟩ := h
  unfold State.dpll State.modDpll
  rw [lget_lmod]
  by_cases e : n.val = m
  · subst e
    simp [hlen]
  · simp [e]

theorem State.modDpll_dpll_same {s : State} (h : s.Inv) (n : Loop) (f : DpllSt → DpllSt) :
    (s.modDpll n f).dpll n = f (s.dpll n) := by
  rw [State.modDpll_dpll h, if_pos rfl]

/-- `t` comes of `s` by operations that leave loop `n`'s fields beside those of `fs` and the loop's update cycle. -/
structure State.LoopMoves (s : State) (n : Loop) (fs : List Fld) (t : State) : Prop where
  inv : t.Inv
  sys : t.sys = s.sys
  get : ∀ g : Fld, g.clearOf fs = true → t.get (wDpll n) g = s.get (wDpll n) g
  cycle : (t.dpll n).cycle = (s.dpll n).cycle

namespace State.LoopMoves

variable {s t u : State} {n : Loop} {fs : List Fld}

theorem refl (h : s.Inv) : s.LoopMoves n fs s := ⟨h, rfl, fun _ _ => rfl, rfl⟩

theorem trans (h : s.LoopMoves n fs t) (k : t.LoopMoves n fs u) : s.LoopMoves n fs u :=
  ⟨k.inv, k.sys.trans h.sys, fun g hg => (k.get g hg).trans (h.get g hg), k.cycle.trans h.cycle⟩

theorem ite {c : Prop} [Decidable c] (ht : c → s.LoopMoves n fs t) (hu : ¬ c → s.LoopMoves n fs u) :
    s.LoopMoves n fs (if c then t else u) := by
  split
  · exact ht ‹_›
  · exact hu ‹_›

theorem foldl {α : Type} {op : State → α → State} {l : List α} (h : s.LoopMoves n fs t)
    (hop : ∀ (u : State) i, s.LoopMoves n fs u → s.LoopMoves n fs (op u i)) : s.LoopMoves n fs (l.foldl op t) :=
  List.foldlRecOn _ _ h fun u hu i _ => hop u i hu

theorem flag (h : s.LoopMoves n fs t) (g : Fld) (hg : g.clearOf fs = true) : t.flag (wDpll n) g = s.flag (wDpll n) g := by
  unfold State.flag
  rw [h.get g hg]

theorem rn (h : s.LoopMoves n fs t) (off : Nat) (hg : (Fld.word off).clearOf fs = true) :
    t.rn (wDpll n) off = s.rn (wDpll n) off := by
  rw [← State.get_word, ← State.get_word, h.get _ hg]

theorem pair (h : s.LoopMoves n fs t) (off : Nat) (hg : ((Fld.word off).clearOf fs && (Fld.word (off + 4)).clearOf fs) = true) :
    t.pair (wDpll n) off = s.pair (wDpll n) off := by
  rw [Bool.and_eq_true] at hg
  unfold State.pair
  rw [h.rn _ hg.1, h.rn _ hg.2]

theorem frozen (h : s.LoopMoves n fs t) : (t.dpll n).frozen = (s.dpll n).frozen := congrArg (·.2.2.2) h.cycle
theorem stall (h : s.LoopMoves n fs t) : (t.dpll n).stall = (s.dpll n).stall := congrArg (·.2.2.1) h.cycle
theorem missRun (h : s.LoopMoves n fs t) : (t.dpll n).missRun = (s.dpll n).missRun := congrArg (·.2.1) h.cycle
theorem updIdx (h : s.LoopMoves n fs t) : (t.dpll n).updIdx = (s.dpll n).updIdx := congrArg (·.1) h.cycle


/-! The small updates that operations are made of. -/

/-- An update of neither the loop's window nor its record. -/
theorem beyond (h : s.LoopMoves n fs t) (hi : u.Inv) (hsys : u.sys = t.sys) (hd : u.dplls = t.dplls)
    (hrn : ∀ off, off < 0x4000 → u.rn (wDpll n) off = t.rn (wDpll n) off) : s.LoopMoves n fs u := by
  refine h.trans ⟨hi, hsys, fun g hg => ?_, ?_⟩
  · obtain ⟨⟨ho, -⟩, -⟩ := (Fld.clearOf_iff g fs).mp hg
    unfold State.get
    rw [hrn _ ho]
  · unfold State.dpll
    rw [hd]

theorem wrOther (h : s.LoopMoves n fs t) {w off : Nat} (v : Nat) (hw : w ≠ wDpll n) (ho : off < 0x4000) :
    s.LoopMoves n fs (t.wr w off v) :=
  h.beyond (h.inv.wr _ _ _) rfl rfl fun _ ho' => State.rn_wr_other t _ _ _ _ _ (regAddr_ne ho ho' (.inl hw))

theorem engPend (h : s.LoopMoves n fs t) (k e : Nat) (arg : Word64) : s.LoopMoves n fs (t.engPend k e arg) :=
  h.beyond (State.keeps_inv h.inv (State.engPend_keeps (State.keeps_refl t) _ _ _))
    (State.engPend_proj (·.sys) (fun _ _ _ _ => rfl) (fun _ _ _ => rfl) _ _ _)
    (State.engPend_proj (·.dplls) (fun _ _ _ _ => rfl) (fun _ _ _ => rfl) _ _ _)
    fun _ ho => State.engPend_rn _ _ _ _ _ (wDpll_lt n) ho

theorem raise (h : s.LoopMoves n fs t) {g b : Nat} (hg : evNo g b < 512) : s.LoopMoves n fs (t.raise g b) :=
  h.beyond (State.keeps_inv h.inv (State.raise_keeps (State.keeps_refl t) _ _)) (State.raise_sys _ _ _) (State.raise_dplls _ _ _)
    fun _ ho => State.raise_rn _ _ _ _ _ hg (wDpll_lt n) (wDpll_ne_evt n) ho

theorem learnCheck (h : s.LoopMoves n fs t) : s.LoopMoves n fs t.learnCheck := h.beyond h.inv rfl rfl fun _ _ => rfl
theorem setOsc (h : s.LoopMoves n fs t) (x : OscSt) : s.LoopMoves n fs (t.setOsc x) := h.beyond h.inv rfl rfl fun _ _ => rfl
theorem setHlth (h : s.LoopMoves n fs t) (x : HlthSt) : s.LoopMoves n fs (t.setHlth x) := h.beyond h.inv rfl rfl fun _ _ => rfl
theorem setBrg (h : s.LoopMoves n fs t) (x : BrgSt) : s.LoopMoves n fs (t.setBrg x) := h.beyond h.inv rfl rfl fun _ _ => rfl
theorem setFlt (h : s.LoopMoves n fs t) (x : FltSt) : s.LoopMoves n fs (t.setFlt x) := h.beyond h.inv rfl rfl fun _ _ => rfl

theorem setTb (h : s.LoopMoves n fs t) {x : TbSt} (hx : x.Ok) : s.LoopMoves n fs (t.setTb x) :=
  h.beyond (State.keeps_inv h.inv (State.setTb_keeps (State.keeps_refl t) x fun _ => hx)) rfl rfl fun _ _ => rfl

theorem modApll (h : s.LoopMoves n fs t) (m : Nat) (f : ApllSt → ApllSt) : s.LoopMoves n fs (t.modApll m f) :=
  h.beyond (State.keeps_inv h.inv (State.modApll_keeps (State.keeps_refl t) m f)) rfl rfl fun _ _ => rfl

theorem modSel (h : s.LoopMoves n fs t) (m : Nat) (f : SelSt → SelSt) : s.LoopMoves n fs (t.modSel m f) :=
  h.beyond (h.inv.modSel _ _) rfl rfl fun _ _ => rfl

theorem modSrc (h : s.LoopMoves n fs t) (m : Nat) (f : SrcSt → SrcSt) : s.LoopMoves n fs (t.modSrc m f) :=
  h.beyond (h.inv.modSrc _ _) rfl rfl fun _ _ => rfl

/-- The loop's own record, its update cycle kept. -/
theorem modDpll (h : s.LoopMoves n fs t) {f : DpllSt → DpllSt}
    (hf : ∀ x, (f x).cycle = x.cycle := by simp only [DpllSt.cycle, implies_true]) : s.LoopMoves n fs (t.modDpll n f) :=
  h.trans ⟨h.inv.modDpll _ _, rfl, fun _ _ => rfl, by rw [State.modDpll_dpll_same h.inv, hf]⟩

/-- Another loop's record. -/
theorem modOther (h : s.LoopMoves n fs t) {m : Nat} (hm : n.val ≠ m) (f : DpllSt → DpllSt) : s.LoopMoves n fs (t.modDpll m f) :=
  h.trans ⟨h.inv.modDpll _ _, rfl, fun _ _ => rfl, by rw [State.modDpll_dpll h.inv, if_neg hm]⟩

/-- A register of the loop's window, written whole. -/
theorem wr (h : s.LoopMoves n fs t) {off : Nat} (v : Nat) (hf : Fld.word off ∈ fs) (ho : off < 0x4000) :
    s.LoopMoves n fs (t.wr (wDpll n) off v) := by
  refine h.trans ⟨h.inv.wr _ _ _, rfl, fun g hg => ?_, rfl⟩
  obtain ⟨⟨hlt, -⟩, -⟩ := (Fld.clearOf_iff g fs).mp hg
  exact State.get_wr_other t _ _ _ _ _ (regAddr_dpll_ne n ho hlt (Fld.off_ne_of_clearOf hg hf))

/-- A field of the loop's window. -/
theorem put (h : s.LoopMoves n fs t) {f : Fld} (v : Nat) (hf : f ∈ fs) (ho : f.off < 0x4000) :
    s.LoopMoves n fs (t.put (wDpll n) f v) := by
  refine h.trans ⟨h.inv.put _ _ _, rfl, fun g hg => ?_, rfl⟩
  obtain ⟨⟨hlt, -, h32⟩, hall⟩ := (Fld.clearOf_iff g fs).mp hg
  by_cases he : g.off = f.off
  · exact State.get_put_beside t h.inv.canon _ _ _ _ he h32
      (((Fld.apart_iff f g).mp (hall f hf)).resolve_left (Ne.symm · he))
  · exact State.get_put_other t _ _ _ _ _ (regAddr_dpll_ne n ho hlt (Ne.symm he))

/-- A field of a register that is among `fs` whole. -/
theorem putIn (h : s.LoopMoves n fs t) (f : Fld) (v : Nat) (hf : Fld.word f.off ∈ fs) (ho : f.off < 0x4000) :
    s.LoopMoves n fs (t.put (wDpll n) f v) := h.wr _ hf ho

theorem sts (h : s.LoopMoves n fs t) {off : Nat} (m : Nat) (hf : Fld.word off ∈ fs) (ho : off < 0x4000) :
    s.LoopMoves n fs (t.sts (wDpll n) off m) := h.wr _ hf ho

theorem count (h : s.LoopMoves n fs t) {off : Nat} (k : Nat) (hf : Fld.word off ∈ fs) (ho : off < 0x4000) :
    s.LoopMoves n fs (t.count (wDpll n) off k) := h.wr _ hf ho

theorem putPair (h : s.LoopMoves n fs t) {off : Nat} (v : Nat) (hl : Fld.word off ∈ fs) (hh : Fld.word (off + 4) ∈ fs)
    (ho : off + 4 < 0x4000) : s.LoopMoves n fs (t.putPair (wDpll n) off v) := (h.wr _ hl (by omega)).wr _ hh ho

end State.LoopMoves
end Sys2Proof.Machine

/-!
PROOF. What the operations of a loop, of its selector and of the bridge leave of a loop's window and update cycle (R62, R79 to R95).
-/

namespace Sys2Proof.Machine

/-! ### The fields that each group of operations writes -/

/-- R89: both lock flags, and the status with their event. -/
def dpllLockFields : List Fld := [DPLL_STATE_FLOCK, DPLL_STATE_PLOCK, .word DPLL_STS]

/-- R93: the loop state and what its entry clears. -/
def dpllStateFields : List Fld := DPLL_STATE_LOOPST :: dpllLockFields

/-- R91: the step's remainder, and the status with its end. -/
def dpllStepFields : List Fld := [.word DPLL_PSREM_LO, .word DPLL_PSREM_HI, .word DPLL_STS]

/-- R79: the active word. -/
def dpllDcoFields : List Fld := [.word DPLL_DCO_LO, .word DPLL_DCO_HI]

def dpllErrFields : List Fld := [.word DPLL_ERR_LO, .word DPLL_ERR_HI]

/-- R78: what an evaluation or a ramp writes of the selector's registers. -/
def dpllSelFields : List Fld := [DPLL_SEL_STATE_CUR, DPLL_SEL_STATE_ST, DPLL_SEL_STATE_BO, DPLL_SEL_STATE_PREV,
  .word DPLL_SEL_PULL_LO, .word DPLL_SEL_PULL_HI, .word DPLL_SEL_STS, .word DPLL_SEL_SWCNT]

/-- The events of loop `n` (R97) are among those of EVT. -/
theorem evNo_dpll_lt (n : Loop) (e : Nat) (he : e < 4) : evNo 5 (8 * n + 4 + e) < 512 := by
  unfold evNo
  omega

/-- A field beside one replaced reads as before. -/
theorem bitsOf_putBits_apart {f g : Fld} (v x : Nat) (ho : f.off = g.off) (ha : f.apart g = true) :
    bitsOf (putBits v f.lsb f.width x) g.lsb g.width = bitsOf v g.lsb g.width :=
  bitsOf_putBits_other _ _ _ _ _ _ (((Fld.apart_iff f g).mp ha).resolve_left (absurd ho))

/-! ### The entry into a state, step by step (R93, R94) -/

/-- The loop state that the conditions give, shown, with DPLL_BIVOUAC and its cause. -/
def State.loopShown (s : State) (n : Nat) : State :=
  let t := s.put (wDpll n) DPLL_STATE_LOOPST (s.loopState n)
  if 3 ≤ s.loopState n ∧ s.loopState n ≤ 5 then (t.dpllEvent n 1).put (wDpll n) DPLL_STS_CAUSE (s.bivCause n (s.loopState n)) else t

/-- Then the lock windows restart on an entry into TRACK (R89). -/
def State.lockEntered (s : State) (n : Nat) : State :=
  if s.loopState n = 1 ∧ s.loopst n ≠ 6 then (s.loopShown n).lockRestart n else s.loopShown n

theorem State.enterLoop_of_eq {s : State} {n : Nat} (h : s.loopState n = s.loopst n) : s.enterLoop n = s := if_pos h

theorem State.enterLoop_of_ne {s : State} {n : Nat} (h : s.loopState n ≠ s.loopst n) : s.enterLoop n =
    (if s.loopState n = 3 ∨ s.loopst n = 3 then (s.lockEntered n).bivTrack n (s.loopState n == 3) else s.lockEntered n).learnCheck :=
  if_neg h

namespace State.LoopMoves

variable {s t u : State} {n : Loop} {fs : List Fld}

/-! ### The loop -/

theorem dpllEvent (h : s.LoopMoves n fs t) {e : Nat} (he : e < 4) (hs : Fld.word DPLL_STS ∈ fs) :
    s.LoopMoves n fs (t.dpllEvent n e) := (h.sts _ hs (by decide)).raise (evNo_dpll_lt n e he)

theorem setLock (h : s.LoopMoves n fs t) (f p : Bool) (hs : dpllLockFields ⊆ fs := by decide) : s.LoopMoves n fs (t.setLock n f p) :=
  .ite (fun _ => h) fun _ => (((h.put _ (hs (by decide)) (by decide)).put _ (hs (by decide)) (by decide)).dpllEvent (by decide)
    (hs (by decide))).learnCheck

theorem lockRestart (h : s.LoopMoves n fs t) (hs : dpllLockFields ⊆ fs := by decide) : s.LoopMoves n fs (t.lockRestart n) :=
  (h.setLock _ _ hs).modDpll

theorem plockUpdate (h : s.LoopMoves n fs t) (hs : dpllLockFields ⊆ fs := by decide) : s.LoopMoves n fs (t.plockUpdate n) :=
  h.modDpll.setLock _ _ hs

theorem bivTrack (h : s.LoopMoves n fs t) (m : Nat) (inn : Bool) : s.LoopMoves n fs (t.bivTrack m inn) := by
  unfold State.bivTrack
  split
  · exact h.setHlth _
  · exact .ite (fun _ => (h.setHlth _).setHlth _) fun _ => h.setHlth _
  · exact h

theorem loopShown (h : s.LoopMoves n fs t) (hs : dpllStateFields ⊆ fs := by decide) : s.LoopMoves n fs (t.loopShown n) := by
  have h1 := h.put (f := DPLL_STATE_LOOPST) (t.loopState n) (hs (by decide)) (by decide)
  exact .ite (fun _ => (h1.dpllEvent (by decide) (hs (by decide))).putIn _ _ (hs (by decide)) (by decide)) fun _ => h1

/-- After its lock windows an entry counts bivouac episodes and looks at the learning interval (R109, R413). -/
theorem enterLoop_of_lockEntered (h : s.LoopMoves n fs (t.lockEntered n)) (hne : t.loopState n ≠ t.loopst n) :
    s.LoopMoves n fs (t.enterLoop n) := by
  rw [State.enterLoop_of_ne hne]
  exact (State.LoopMoves.ite (fun _ => h.bivTrack n _) fun _ => h).learnCheck

theorem enterLoop (h : s.LoopMoves n fs t) (hs : dpllStateFields ⊆ fs := by decide) : s.LoopMoves n fs (t.enterLoop n) := by
  by_cases hst : t.loopState n = t.loopst n
  · rwa [State.enterLoop_of_eq hst]
  · exact enterLoop_of_lockEntered (.ite (fun _ => (h.loopShown hs).lockRestart fun f hf => hs (List.mem_cons_of_mem _ hf))
      fun _ => h.loopShown hs) hst

theorem setPsrem (h : s.LoopMoves n fs t) (v : Int) (hs : dpllStepFields ⊆ fs := by decide) : s.LoopMoves n fs (t.setPsrem n v) :=
  h.putPair _ (hs (by decide)) (hs (by decide)) (by decide)

theorem stepEnd (h : s.LoopMoves n fs t) (cause : Nat) (hs : dpllStepFields ⊆ fs := by decide) :
    s.LoopMoves n fs (t.stepEnd n cause) :=
  (((h.setPsrem 0 hs).dpllEvent (by decide) (hs (by decide))).putIn _ _ (hs (by decide)) (by decide)).learnCheck

theorem stepAbort (h : s.LoopMoves n fs t) (cause : Nat) (hs : dpllStepFields ⊆ fs := by decide) :
    s.LoopMoves n fs (t.stepAbort n cause) := .ite (fun _ => h) fun _ => h.stepEnd cause hs

theorem setDco (h : s.LoopMoves n fs t) (v : Int) (hs : dpllDcoFields ⊆ fs := by decide) : s.LoopMoves n fs (t.setDco n v) :=
  h.modDpll.putPair _ (hs (by decide)) (hs (by decide)) (by decide)

theorem putErr (h : s.LoopMoves n fs t) (v : Nat) (hs : dpllErrFields ⊆ fs := by decide) :
    s.LoopMoves n fs (t.putPair (wDpll n) DPLL_ERR_LO v) := h.putPair _ (hs (by decide)) (hs (by decide)) (by decide)

theorem dpllErr (h : s.LoopMoves n fs t) (hs : dpllErrFields ⊆ fs := by decide) : s.LoopMoves n fs (t.dpllErr n) :=
  .ite (fun _ => h.putErr _ hs) fun _ => h.putErr _ hs

theorem dpllWordSet (h : s.LoopMoves n fs t) (target prog m : Int) (fr : Nat) (v : Int)
    (hs : dpllStepFields ++ dpllDcoFields ⊆ fs := by decide) : s.LoopMoves n fs (t.dpllWordSet n target prog m fr v) :=
  (h.modDpll.setPsrem _ fun _ hf => hs (List.mem_append_left _ hf)).setDco _
    fun _ hf => hs (List.mem_append_right _ hf)

theorem dpllWord (h : s.LoopMoves n fs t) (st : Nat) (hs : dpllStepFields ++ dpllDcoFields ⊆ fs := by decide) :
    s.LoopMoves n fs (t.dpllWord n st) := by
  have h1 : s.LoopMoves n fs (t.dpllCommitted n) := .ite (fun _ => h.modDpll) fun _ => h
  have h2 (c : Prop) [Decidable c] {u : State} (m : Nat) (hu : s.LoopMoves n fs u) :
      s.LoopMoves n fs (if c then u.sts (wDpll n) DPLL_STS m else u) :=
    .ite (fun _ => hu.sts _ (hs (by decide)) (by decide)) fun _ => hu
  exact .ite (fun _ => (h2 _ _ (h2 _ _ h1)).dpllWordSet _ _ _ _ _ hs) fun _ => h.dpllWordSet _ _ _ _ _ hs

/-! ### The estimate (R118) and the selector (R62 to R67) -/

theorem estUpdate (h : s.LoopMoves n fs t) (m st : Nat) : s.LoopMoves n fs (t.estUpdate m st) := h.setOsc _
theorem estClear (h : s.LoopMoves n fs t) (m : Nat) : s.LoopMoves n fs (t.estClear m) := h.setOsc _

/-- SEL_STATE written with a value that agrees with the old one beside `fs`. -/
theorem putSel (h : s.LoopMoves n fs t) {v : Nat}
    (hv : ∀ g : Fld, g.off = DPLL_SEL_STATE → (∀ f ∈ fs, f.apart g = true) →
      bitsOf v g.lsb g.width = bitsOf (t.rn (wDpll n) DPLL_SEL_STATE) g.lsb g.width) :
    s.LoopMoves n fs (t.putSel n v) := by
  refine h.trans ⟨((State.SelMoves.refl h.inv).putSel v).inv, ((State.SelMoves.refl h.inv).putSel v).sys, fun g hg => ?_, ?_⟩
  · obtain ⟨⟨hlt, -, h32⟩, hall⟩ := (Fld.clearOf_iff g fs).mp hg
    by_cases ho : g.off = DPLL_SEL_STATE
    · rw [State.putSel_get h.inv.canon _ _ ho h32, hv g ho hall, ← ho]
      rfl
    · unfold State.get
      rw [State.putSel_rn _ hlt ho]
  · have hd : (t.putSel n v).dplls = t.dplls := by
      unfold State.putSel
      split
      · rfl
      · exact State.engPend_proj (·.dplls) (fun _ _ _ _ => rfl) (fun _ _ _ => rfl) _ _ _
    unfold State.dpll
    rw [hd]

theorem putSelF (h : s.LoopMoves n fs t) {f : Fld} (v : Nat) (hf : f ∈ fs) (ho : f.off = DPLL_SEL_STATE) :
    s.LoopMoves n fs (t.putSelF n f v) :=
  h.putSel fun _ hg hall => bitsOf_putBits_apart _ _ (ho.trans hg.symm) (hall f hf)

theorem setO (h : s.LoopMoves n fs t) (o : Int) (hs : dpllSelFields ⊆ fs := by decide) : s.LoopMoves n fs (t.setO n o) :=
  h.putPair _ (hs (by decide)) (hs (by decide)) (by decide)

theorem selEvent (h : s.LoopMoves n fs t) {e : Nat} (he : e < 4) (hs : dpllSelFields ⊆ fs := by decide) :
    s.LoopMoves n fs (t.selEvent n e) := (h.sts _ (hs (by decide)) (by decide)).raise (evNo_sel_lt n e he)

theorem selCounted (h : s.LoopMoves n fs t) (cause : Nat) (hs : dpllSelFields ⊆ fs := by decide) :
    s.LoopMoves n fs ((t.count (wDpll n) DPLL_SEL_SWCNT 1).put (wDpll n) DPLL_SEL_STS_CAUSE cause) :=
  (h.count _ (hs (by decide)) (by decide)).putIn _ _ (hs (by decide)) (by decide)

theorem selRecord (h : s.LoopMoves n fs t) (b st cause : Nat) (hs : dpllSelFields ⊆ fs := by decide) :
    s.LoopMoves n fs (t.selRecord n b st cause) := by
  refine (((h.putSel fun g ho hall => ?_).selCounted _ hs).modSel _ _).modSrc _ _
  have beside {f : Fld} (v x : Nat) (hf : f ∈ dpllSelFields) (hoff : f.off = DPLL_SEL_STATE) :=
    bitsOf_putBits_apart v x (hoff.trans ho.symm) (hall f (hs hf))
  exact (beside (f := DPLL_SEL_STATE_PREV) _ _ (by decide) rfl).trans
    ((beside (f := DPLL_SEL_STATE_ST) _ _ (by decide) rfl).trans (beside (f := DPLL_SEL_STATE_CUR) _ _ (by decide) rfl))

theorem selGivenUp (h : s.LoopMoves n fs t) (cause : Nat) (hs : dpllSelFields ⊆ fs := by decide) :
    s.LoopMoves n fs (t.selGivenUp n cause) := by
  have hput := h.putSel (v := putBits (putBits (putBits (putBits (t.rn (wDpll n) DPLL_SEL_STATE) 0 5 noSrc) 8 2 0) 10 1 0) 16 5
    (t.selCur n)) fun g ho hall => by
      have beside {f : Fld} (v x : Nat) (hf : f ∈ dpllSelFields) (hoff : f.off = DPLL_SEL_STATE) :=
        bitsOf_putBits_apart v x (hoff.trans ho.symm) (hall f (hs hf))
      exact (beside (f := DPLL_SEL_STATE_PREV) _ _ (by decide) rfl).trans ((beside (f := DPLL_SEL_STATE_BO) _ _ (by decide) rfl).trans
        ((beside (f := DPLL_SEL_STATE_ST) _ _ (by decide) rfl).trans (beside (f := DPLL_SEL_STATE_CUR) _ _ (by decide) rfl)))
  exact .ite (fun _ => hput) fun _ => hput.selCounted _ hs

theorem selNone (h : s.LoopMoves n fs t) (cause : Nat) (hs : dpllSelFields ⊆ fs := by decide) :
    s.LoopMoves n fs (t.selNone n cause) :=
  ((State.LoopMoves.ite (fun _ => h.selGivenUp cause hs) fun _ => (h.selGivenUp cause hs).setO 0 hs).modSel _ _).selEvent
    (by decide) hs

theorem selEval (h : s.LoopMoves n fs t) (hs : dpllSelFields ⊆ fs := by decide) : s.LoopMoves n fs (t.selEval n) := by
  have record (b st cause : Nat) := h.selRecord b st cause hs
  exact .ite (fun _ => (State.LoopMoves.ite (fun _ => h) fun _ => h.selNone _ hs).modSel _ _)
    fun _ => .ite (fun _ => (State.LoopMoves.ite (fun _ => h) fun _ => (record _ _ _).selEvent (by decide) hs).modSel _ _)
    fun _ => .ite (fun _ => (((record _ _ _).modSel _ _).selEvent (by decide) hs).modSel _ _)
    fun _ => .ite (fun _ => (((record _ _ _).modSel _ _).selEvent (by decide) hs).modSel _ _)
    fun _ => .ite (fun _ => h.modSel _ _)
    fun _ => .ite (fun _ => (((record _ _ _).modSel _ _).selEvent (by decide) hs).modSel _ _)
    fun _ => .ite (fun _ => ((record _ _ _).selEvent (by decide) hs).modSel _ _)
    fun _ => (((record _ _ _).modSel _ _).selEvent (by decide) hs).modSel _ _

theorem pullRamp (h : s.LoopMoves n fs t) (hs : dpllSelFields ⊆ fs := by decide) : s.LoopMoves n fs (t.pullRamp n) :=
  .ite (fun _ => h) fun _ => .ite
    (fun _ => (((h.setO 0 hs).modSel _ _).putSelF 3 (hs (by decide)) rfl).selEvent (by decide) hs)
    fun _ => (h.setO _ hs).modSel _ _

/-! ### The bridge (R81, R134, R135) -/

theorem bawMeasured (h : s.LoopMoves n fs t) (baw : Int) : s.LoopMoves n fs (t.bawMeasured baw) := by
  have hw : W_BRG ≠ wDpll n := by unfold wDpll W_BRG W_DPLL; omega
  exact .ite (fun _ => h.wrOther _ hw (by decide)) fun _ => (h.wrOther _ hw (by decide)).wrOther _ hw (by decide)

theorem brgEvent (h : s.LoopMoves n fs t) (m : Nat) {b : Nat} (hb : b < 32) :
    s.LoopMoves n fs ((t.sts W_BRG BRG_STS m).raise 6 b) :=
  (h.wrOther _ (by unfold wDpll W_BRG W_DPLL; omega) (by decide)).raise (by unfold evNo; omega)

/-- The BLEND bits. -/
theorem putBlend (h : s.LoopMoves n fs t) (v : Nat) : s.LoopMoves n fs (t.put W_BRG BRG_STATE_BLEND v) :=
  h.wrOther _ (by unfold wDpll W_BRG W_DPLL; omega) (by decide)

theorem brgBlend (h : s.LoopMoves n fs t) : s.LoopMoves n fs t.brgBlend :=
  .ite (fun _ => (h.putBlend _).brgEvent 2 (by decide)) fun _ => h.putBlend _

theorem brgApply (h : s.LoopMoves n fs t) (m : Nat) : s.LoopMoves n fs (t.brgApply m) := by
  refine .ite (fun _ => h.setBrg _) fun _ => ?_
  have h1 (l : List Nat) (f : State → Nat → DestSt → DestSt) := ((h.setBrg { t.brg with map := m }).foldl
    (op := fun u d => u.modDest d (f u d)) (l := l) fun u d hu => hu.setBrg _).brgEvent 1 (b := 8) (by decide)
  exact .ite (fun _ => (h1 _ _).brgEvent 2 (by decide)) fun _ => (h1 _ _).brgBlend

theorem brgResume (h : s.LoopMoves n fs t) : s.LoopMoves n fs t.brgResume :=
  .ite (fun _ => (h.wrOther _ (by unfold wDpll W_BRG W_DPLL; omega) (by decide)).brgApply _) fun _ => h

theorem tbClamp (h : s.LoopMoves n fs t) (acts : Bool) : s.LoopMoves n fs (t.tbClamp acts) := by
  have h1 := h.setTb (x := { t.tb with clamp := acts }) h.inv.2.2.2.1
  exact .ite (fun _ => (h1.wrOther _ (by unfold wDpll W_TB W_DPLL; omega) (by decide)).raise (by decide)) fun _ => h1

theorem tbRetune (h : s.LoopMoves n fs t) (raw : Int) : s.LoopMoves n fs (t.tbRetune raw) := by
  refine (h.setTb ?_).tbClamp _
  split <;> exact h.inv.2.2.2.1

theorem tbDeliver (h : s.LoopMoves n fs t) (w : Int) : s.LoopMoves n fs (t.tbDeliver w) := by
  have h1 := h.setTb (x := { t.tb with word := w, servoWait := if t.tb.steer = 1 then false else t.tb.servoWait }) h.inv.2.2.2.1
  exact .ite (fun _ => h1.tbRetune _) fun _ => h1

theorem apllWord (h : s.LoopMoves n fs t) {m : Nat} (hm : m < 2) (w : Int) : s.LoopMoves n fs (t.apllWord m w) := by
  have hw : wApll m ≠ wDpll n := by unfold wApll wDpll W_APLL W_DPLL; omega
  exact .ite (fun _ => ((h.modApll _ _).wrOther _ hw (by decide)).wrOther _ hw (by decide)) fun _ => h

theorem modDest (h : s.LoopMoves n fs t) (d : Nat) (f : DestSt → DestSt) : s.LoopMoves n fs (t.modDest d f) := h.setBrg _
theorem destRatio (h : s.LoopMoves n fs t) (d : Nat) : s.LoopMoves n fs (t.destRatio d) := h.modDest _ _

theorem destTake (h : s.LoopMoves n fs t) (d : Nat) (w : Int) : s.LoopMoves n fs (t.destTake d w) := by
  have h1 := ((State.LoopMoves.ite (c := d = 6) (fun _ => h.setBrg { t.brg with acc := t.dsynAcc t.tb.c, accAt := t.tb.c })
    fun _ => h).modDest d fun x => { x with full := w }).destRatio d
  exact .ite (fun hd => h1.apllWord (by omega) w) fun _ => .ite (fun _ => h1.tbDeliver w) fun _ => h1

theorem brgDeliver (h : s.LoopMoves n fs t) (m uper : Nat) (upd : Bool) : s.LoopMoves n fs (t.brgDeliver m uper upd) :=
  (h.foldl fun _ _ hu => .ite (fun _ => hu) fun _ =>
    ((State.LoopMoves.ite (fun _ => hu.modDest _ _) fun _ => hu).modDest _ _).destTake _ _).brgBlend

/-- R95: DPLL0's word moves no other loop. -/
theorem tiedFollow (h : s.LoopMoves n fs t) (hn : n.val ≠ 0) : s.LoopMoves n fs t.tiedFollow := by
  have hw : wDpll 0 ≠ wDpll n := by unfold wDpll; omega
  exact .ite (fun _ => (((h.modOther hn _).wrOther _ hw (by decide)).wrOther _ hw (by decide)).brgDeliver _ _ _) fun _ => h

/-! ### An access's record (R355) -/

theorem accRecord (h : s.LoopMoves n fs t) (r : Req) (write : Bool) (a : Nat) (o : AccOut) :
    s.LoopMoves n fs (t.accRecord r write a o) := by
  have hw : W_HIF ≠ wDpll n := by unfold wDpll W_HIF W_DPLL; omega
  unfold State.accRecord
  split
  · exact h
  · rename_i b _
    have h1 : s.LoopMoves n fs (((((t.sts W_HIF HIF_ACCSTAT (2 ^ b)).put W_HIF HIF_ACCSTAT_WINDOW (bitsOf a 14 8)).wr W_HIF
        HIF_ACCADDR (a % 2 ^ 25)).wr W_HIF HIF_ACCREQ (reqCode r + b2n write * 2 ^ 8)).count W_HIF HIF_ACCCNT 1) :=
      ((((h.wrOther _ hw (by decide)).wrOther _ hw (by decide)).wrOther _ hw (by decide)).wrOther _ hw (by decide)).wrOther _ hw
        (by decide)
    have h2 := State.LoopMoves.ite (c := r = .script) (fun _ => h) fun _ => .ite (c := b < 5) (fun hb => h1.raise (g := 0) (b := b)
      (by unfold evNo; omega)) fun _ => h1
    exact .ite (fun _ => h2.setFlt _) fun _ => h2

end State.LoopMoves

end Sys2Proof.Machine

/-!
PROOF. Where the operations of a loop lead: its signed registers, the lock flags (R89), the loop state (R93) and the end of a phase
step (R91).
-/

namespace Sys2Proof.Machine

/-! ### Signed registers -/

/-- A signed number within its width survives the registers. -/
theorem toSigned_ofSigned {w : Nat} (hw : 0 < w) {i : Int} (hlo : -2 ^ (w - 1) ≤ i) (hhi : i < 2 ^ (w - 1)) :
    toSigned w (ofSigned w i) = i := by
  obtain ⟨k, rfl⟩ : ∃ k, w = k + 1 := ⟨w - 1, by omega⟩
  rw [Nat.add_sub_cancel] at hlo hhi
  have hpow : (2 : Int) ^ (k + 1) = 2 * 2 ^ k := by ring
  have hlt := ofSigned_lt (k + 1) i
  have hcast : ((2 ^ k : Nat) : Int) = 2 ^ k := by push_cast; rfl
  have hval : (ofSigned (k + 1) i : Int) = i % 2 ^ (k + 1) :=
    Int.toNat_of_nonneg (Int.emod_nonneg _ (by positivity))
  unfold toSigned
  dsimp only
  rw [Nat.mod_eq_of_lt hlt, Nat.add_sub_cancel]
  by_cases hneg : i < 0
  · have hmod : i % 2 ^ (k + 1) = i + 2 ^ (k + 1) := by
      rw [← Int.add_emod_right, Int.emod_eq_of_lt (by omega) (by omega)]
    rw [if_neg (by omega)]
    omega
  · have hmod : i % 2 ^ (k + 1) = i := Int.emod_eq_of_lt (by omega) (by omega)
    rw [if_pos (by omega)]
    omega

/-- What a signed register of `w` bits can hold. -/
theorem toSigned_range {w : Nat} (hw : 0 < w) (v : Nat) : -2 ^ (w - 1) ≤ toSigned w v ∧ toSigned w v < 2 ^ (w - 1) := by
  obtain ⟨k, rfl⟩ : ∃ k, w = k + 1 := ⟨w - 1, by omega⟩
  have hpow : (2 : Int) ^ (k + 1) = 2 * 2 ^ k := by ring
  have hcast : ((2 ^ k : Nat) : Int) = 2 ^ k := by push_cast; rfl
  have hcast1 : ((2 ^ (k + 1) : Nat) : Int) = 2 ^ (k + 1) := by push_cast; rfl
  have hlt := Nat.mod_lt v (Nat.two_pow_pos (k + 1))
  unfold toSigned
  dsimp only
  rw [Nat.add_sub_cancel]
  split <;> omega

section
variable {s t : State} {n : Loop} {fs : List Fld}

theorem State.pair_putPair_signed (h : s.Canon) {b off : Nat} (hb : b ≤ 64) (w : Nat) (i : Int) (ho : off + 4 < 0x4000) :
    (s.putPair w off (ofSigned b i)).pair w off = ofSigned b i :=
  (State.pair_putPair h _ _ _ ho).trans
    (Nat.mod_eq_of_lt (lt_of_lt_of_le (ofSigned_lt b i) (Nat.pow_le_pow_right (by decide) hb)))

theorem State.setPsrem_psrem (h : s.Canon) {i : Int} (hlo : -2 ^ 47 ≤ i) (hhi : i < 2 ^ 47) : (s.setPsrem n i).psrem n = i := by
  unfold State.psrem State.setPsrem
  rw [State.pair_putPair_signed h (by decide) _ _ (by decide)]
  exact toSigned_ofSigned (by decide) hlo hhi

theorem State.setDco_dco (h : s.Canon) {i : Int} (hlo : -2 ^ 47 ≤ i) (hhi : i < 2 ^ 47) : (s.setDco n i).dco n = i := by
  have hsat : satSigned 48 i = i := by
    unfold satSigned clampInt
    rw [if_neg (by omega), if_neg (by omega)]
  unfold State.dco State.setDco
  rw [hsat]
  have hpair := State.pair_putPair_signed (s := s.modDpll n fun x => { x with fb := s.feedback n, fbAt := s.tb.c }) (b := 48)
    (off := DPLL_DCO_LO) h (by decide) (wDpll n) i (by decide)
  exact (congrArg (toSigned 48) hpair).trans (toSigned_ofSigned (by decide) hlo hhi)

/-! ### What a loop's registers show after moves that leave them -/

namespace State.LoopMoves

theorem psrem (h : s.LoopMoves n fs t)
    (hg : ((Fld.word DPLL_PSREM_LO).clearOf fs && (Fld.word (DPLL_PSREM_LO + 4)).clearOf fs) = true := by decide) :
    t.psrem n = s.psrem n := congrArg (toSigned 48) (h.pair DPLL_PSREM_LO hg)

theorem dco (h : s.LoopMoves n fs t)
    (hg : ((Fld.word DPLL_DCO_LO).clearOf fs && (Fld.word (DPLL_DCO_LO + 4)).clearOf fs) = true := by decide) :
    t.dco n = s.dco n := congrArg (toSigned 48) (h.pair DPLL_DCO_LO hg)

theorem dcow (h : s.LoopMoves n fs t)
    (hg : ((Fld.word DPLL_DCOW_LO).clearOf fs && (Fld.word (DPLL_DCOW_LO + 4)).clearOf fs) = true := by decide) :
    t.dcow n = s.dcow n := congrArg (toSigned 48) (h.pair DPLL_DCOW_LO hg)

theorem phoff (h : s.LoopMoves n fs t)
    (hg : ((Fld.word DPLL_PHOFF_LO).clearOf fs && (Fld.word (DPLL_PHOFF_LO + 4)).clearOf fs) = true := by decide) :
    t.phoff n = s.phoff n := congrArg (toSigned 64) (h.pair DPLL_PHOFF_LO hg)

theorem flim (h : s.LoopMoves n fs t) (hg : (Fld.word DPLL_FLIM).clearOf fs = true := by decide) : t.flim n = s.flim n := by
  unfold State.flim
  rw [h.rn _ hg]

theorem dpllOn (h : s.LoopMoves n fs t) (hg : DPLL_CTL_ENABLE.clearOf fs = true := by decide) : t.dpllOn n = s.dpllOn n :=
  h.flag _ hg

theorem tied (h : s.LoopMoves n fs t) (hg : DPLL_CTL_TIED.clearOf fs = true := by decide) : t.tied n = s.tied n := by
  unfold State.tied
  by_cases hn : n.val = 0
  · have hw : wDpll n = W_DPLL := by rw [hn]; rfl
    rw [← hw, h.flag _ hg]
  · rw [beq_false_of_ne hn, Bool.false_and, Bool.false_and]

theorem selSt (h : s.LoopMoves n fs t) (hg : DPLL_SEL_STATE_ST.clearOf fs = true := by decide) : t.selSt n = s.selSt n := h.get _ hg

theorem selMode (h : s.LoopMoves n fs t) (hg : DPLL_SEL_CTL_MODE.clearOf fs = true := by decide) : t.selMode n = s.selMode n := by
  unfold State.selMode
  rw [h.get _ hg]

theorem loopst (h : s.LoopMoves n fs t) (hg : DPLL_STATE_LOOPST.clearOf fs = true := by decide) : t.loopst n = s.loopst n :=
  h.get _ hg

end State.LoopMoves

/-! ### Events and the end of a step -/

theorem State.dpllEvent_evPending (h : s.Canon) {e : Nat} (he : e < 4) :
    (s.dpllEvent n e).evPending (evNo 5 (8 * n + 4 + e)) = true := by
  unfold State.dpllEvent
  rw [State.raise_evPending (State.sts_canon h _ _ _) _ _ _ (evNo_dpll_lt n e he) (evNo_dpll_lt n e he)]
  simp

theorem State.put_dpll_evPending (f : Fld) (v : Nat) (ho : f.off < 0x4000) {e : Nat} (he : e < 512) :
    (s.put (wDpll n) f v).evPending e = s.evPending e := State.wr_evPending _ _ _ _ (wDpll_ne_evt n) ho he

/-- R91: what the end of a step leaves. -/
theorem State.stepEnd_spec (h : s.Inv) {cause : Nat} (hc : cause < 256) :
    (s.stepEnd n cause).psrem n = 0 ∧ (s.stepEnd n cause).get (wDpll n) DPLL_STS_PSCAUSE = cause ∧
      (s.stepEnd n cause).evPending (evNo 5 (8 * n + 7)) = true := by
  have h1 : (s.setPsrem n 0).LoopMoves n [Fld.word DPLL_STS] ((s.setPsrem n 0).dpllEvent n 3) :=
    (State.LoopMoves.refl (h.putPair _ _ _)).dpllEvent (by decide) (by decide)
  have h2 := (h1.putIn DPLL_STS_PSCAUSE cause (by decide) (by decide)).learnCheck
  refine ⟨h2.psrem.trans (State.setPsrem_psrem h.canon (by decide) (by decide)), ?_, ?_⟩
  · exact (State.get_put_same _ h1.inv.canon _ _ _ (by decide)).trans (Nat.mod_eq_of_lt hc)
  · exact (State.put_dpll_evPending _ _ (by decide) (evNo_dpll_lt n 3 (by decide))).trans
      (State.dpllEvent_evPending (s := s.setPsrem n 0) (h.putPair _ _ _).canon (by decide))

/-! ### The lock flags (R89) -/

theorem State.setLock_dplls (f p : Bool) : (s.setLock n f p).dplls = s.dplls := by
  unfold State.setLock
  dsimp only
  split
  · rfl
  · exact State.raise_dplls _ _ _

theorem State.setLock_flags (h : s.Inv) (f p : Bool) :
    (s.setLock n f p).flag (wDpll n) DPLL_STATE_FLOCK = f ∧ (s.setLock n f p).flag (wDpll n) DPLL_STATE_PLOCK = p := by
  unfold State.setLock
  dsimp only
  split
  · assumption
  · have hF := h.put (wDpll n) DPLL_STATE_FLOCK (b2n f)
    have hP := hF.put (wDpll n) DPLL_STATE_PLOCK (b2n p)
    have he := ((State.LoopMoves.refl (n := n) (fs := [.word DPLL_STS]) hP).dpllEvent (e := 0) (by decide) (by decide)).learnCheck
    have bit (b : Bool) : (b2n b % 2 ^ 1 != 0) = b := by cases b <;> rfl
    refine ⟨(he.flag DPLL_STATE_FLOCK (by decide)).trans ?_, (he.flag DPLL_STATE_PLOCK (by decide)).trans ?_⟩ <;> unfold State.flag
    · rw [State.get_put_beside _ hF.canon _ DPLL_STATE_PLOCK DPLL_STATE_FLOCK _ rfl (by decide) (by decide),
        State.get_put_same _ h.canon _ _ _ (by decide)]
      exact bit f
    · rw [State.get_put_same _ hF.canon _ _ _ (by decide)]
      exact bit p

theorem State.setLock_evPending (h : s.Inv) {f p : Bool}
    (hne : ¬ (s.flag (wDpll n) DPLL_STATE_FLOCK = f ∧ s.flag (wDpll n) DPLL_STATE_PLOCK = p)) :
    (s.setLock n f p).evPending (evNo 5 (8 * n + 4)) = true := by
  unfold State.setLock
  dsimp only
  rw [if_neg hne]
  exact State.dpllEvent_evPending ((h.put _ _ _).put _ _ _).canon (e := 0) (by decide)

/-! ### The loop state (R93) -/

theorem State.loopState_lt (n : Nat) : s.loopState n < 8 := by
  unfold State.loopState
  repeat' split
  all_goals decide

theorem State.putLoopst_loopst (h : s.Inv) : (s.put (wDpll n) DPLL_STATE_LOOPST (s.loopState n)).loopst n = s.loopState n :=
  (State.get_put_same _ h.canon _ _ _ (by decide)).trans (Nat.mod_eq_of_lt (State.loopState_lt n))

/-- Beside LOOPST and the status the loop's fields stay as its state is shown. -/
theorem State.loopShown_moves (h : s.Inv) :
    (s.put (wDpll n) DPLL_STATE_LOOPST (s.loopState n)).LoopMoves n [.word DPLL_STS] (s.loopShown n) := by
  have h1 := State.LoopMoves.refl (n := n) (fs := [.word DPLL_STS]) (h.put (wDpll n) DPLL_STATE_LOOPST (s.loopState n))
  exact .ite (fun _ => (h1.dpllEvent (by decide) (by decide)).putIn _ _ (by decide) (by decide)) fun _ => h1

theorem State.loopShown_loopst (h : s.Inv) : (s.loopShown n).loopst n = s.loopState n :=
  (State.loopShown_moves h).loopst.trans (State.putLoopst_loopst h)

/-- The state entered is the one that the conditions give. -/
theorem State.enterLoop_loopst (h : s.Inv) : (s.enterLoop n).loopst n = s.loopState n := by
  by_cases hst : s.loopState n = s.loopst n
  · rw [State.enterLoop_of_eq hst, hst]
  · have h1 := State.LoopMoves.refl (n := n) (fs := dpllLockFields)
      ((State.LoopMoves.refl (n := n) (fs := dpllStateFields) h).loopShown).inv
    exact (State.LoopMoves.enterLoop_of_lockEntered (.ite (fun _ => h1.lockRestart) fun _ => h1) hst).loopst.trans
      (State.loopShown_loopst h)

/-- Neither lock flag is set (R89). -/
def State.Unlocked (s : State) (n : Nat) : Prop :=
  s.flag (wDpll n) DPLL_STATE_FLOCK = false ∧ s.flag (wDpll n) DPLL_STATE_PLOCK = false

theorem State.LoopMoves.unlocked (h : s.LoopMoves n fs t) (hu : s.Unlocked n)
    (hg : (DPLL_STATE_FLOCK.clearOf fs && DPLL_STATE_PLOCK.clearOf fs) = true := by decide) : t.Unlocked n := by
  rw [Bool.and_eq_true] at hg
  exact ⟨(h.flag _ hg.1).trans hu.1, (h.flag _ hg.2).trans hu.2⟩

theorem State.lockRestart_unlocked (h : s.Inv) : (s.lockRestart n).Unlocked n := State.setLock_flags h false false

/-- No entry into a state sets a lock flag. -/
theorem State.enterLoop_unlocked (h : s.Inv) (hu : s.Unlocked n) : (s.enterLoop n).Unlocked n := by
  by_cases hst : s.loopState n = s.loopst n
  · rwa [State.enterLoop_of_eq hst]
  · have hm := State.loopShown_moves (n := n) h
    have hshown : (s.loopShown n).Unlocked n := hm.unlocked
      ((State.LoopMoves.refl (n := n) (fs := [DPLL_STATE_LOOPST]) h).put _ (by decide) (by decide) |>.unlocked hu)
    have hentered : (s.lockEntered n).Unlocked n ∧ (s.lockEntered n).Inv := by
      unfold State.lockEntered
      split
      · exact ⟨State.lockRestart_unlocked hm.inv, ((State.LoopMoves.refl (n := n) (fs := dpllLockFields) hm.inv).lockRestart).inv⟩
      · exact ⟨hshown, hm.inv⟩
    exact (State.LoopMoves.enterLoop_of_lockEntered (fs := []) (.refl hentered.2) hst).unlocked hentered.1

end

end Sys2Proof.Machine

/-!
PROOF. One update of a loop, step by step (R79 to R82), the end of a frequency-lock window (R89), and O34.
-/

namespace Sys2Proof.Machine

/-! ### The phases of an update -/

/-- The update is counted, the move of the period that ends added to Φ (R79, R91). -/
def State.cycleBegun (s : State) (n : Nat) : State :=
  ((s.count (wDpll n) DPLL_UPDCNT 1).setPhoff n (s.phoff n + (s.dpll n).moving)).modDpll n fun x => { x with moving := 0 }

/-- The loop enters its state and forms ERR (R79, R93). -/
def State.errShown (s : State) (n : Nat) : State := (s.enterLoop n).dpllErr n

/-- The sample that ERR came from is noted (R83). -/
def State.sampleSeen (s : State) (n : Nat) : State :=
  s.modDpll n fun x => if s.newSample n then { x with seenSrc := s.selSteer n, seen := (s.src (s.selSteer n)).samples } else x

/-- The word of the coming period in force, and a step that ends with it (R82, R91). -/
def State.wordDone (s : State) (n st : Nat) : State :=
  if s.psrem n ≠ 0 ∧ (s.dpllWord n st).psrem n = 0 then (s.dpllWord n st).stepEnd n 0 else s.dpllWord n st

/-- The word delivered, at DPLL3's instants to a tied DPLL0 as well (R79, R95). -/
def State.wordDelivered (s : State) (n : Nat) : State :=
  if n = 3 then (s.brgDeliver n (s.uper n) true).tiedFollow else s.brgDeliver n (s.uper n) true

/-- The estimate, the selector's ramp, phase lock after a new sample, and UPDATE at the loop's program. -/
def State.cycleEnded (s : State) (n st : Nat) (fresh : Bool) : State :=
  let t := if fresh then ((s.estUpdate n st).pullRamp n).plockUpdate n else (s.estUpdate n st).pullRamp n
  t.engPend (1 + n) 0 (BitVec.ofNat 64 (t.rn (wDpll n) DPLL_UPDCNT))

/-- An update whose commits have been judged, to its end. -/
def State.cycleRest (s : State) (n : Nat) : State :=
  let e := s.errShown n
  (((e.sampleSeen n).wordDone n (e.loopst n)).wordDelivered n).cycleEnded n (e.loopst n) (e.newSample n)

theorem State.dpllUpdate_on {s : State} {n : Nat} (hon : s.brgResume.dpllOn n = true) :
    s.dpllUpdate n = ((s.brgResume.cycleBegun n).dpllCommits n).cycleRest n := by
  unfold State.dpllUpdate
  dsimp only
  rw [if_neg (by simp [hon])]
  rfl

theorem State.dpllUpdate_off {s : State} {n : Nat} (hon : s.brgResume.dpllOn n = false) (hf : (s.brgResume.dpll n).frozen = false) :
    s.dpllUpdate n = s.brgResume.brgDeliver n (s.brgResume.uper n) true := by
  unfold State.dpllUpdate
  dsimp only
  rw [if_pos (by simp [hon, hf])]

/-! ### What they leave -/

/-- What an update writes once its commits have been judged. -/
def dpllCycleFields : List Fld := dpllStateFields ++ dpllErrFields ++ dpllStepFields ++ dpllDcoFields ++ dpllSelFields

section
variable {s t : State} {n : Loop} {fs : List Fld}

namespace State.LoopMoves

theorem errShown (h : s.LoopMoves n fs t) (hs : dpllStateFields ++ dpllErrFields ⊆ fs := by decide) :
    s.LoopMoves n fs (t.errShown n) :=
  (h.enterLoop fun _ hf => hs (List.mem_append_left _ hf)).dpllErr fun _ hf => hs (List.mem_append_right _ hf)

theorem sampleSeen (h : s.LoopMoves n fs t) : s.LoopMoves n fs (t.sampleSeen n) := by
  refine h.modDpll fun x => ?_
  split <;> rfl

theorem wordDone (h : s.LoopMoves n fs t) (st : Nat) (hs : dpllStepFields ++ dpllDcoFields ⊆ fs := by decide) :
    s.LoopMoves n fs (t.wordDone n st) :=
  .ite (fun _ => (h.dpllWord st hs).stepEnd 0 fun _ hf => hs (List.mem_append_left _ hf)) fun _ => h.dpllWord st hs

theorem wordDelivered (h : s.LoopMoves n fs t) : s.LoopMoves n fs (t.wordDelivered n) :=
  .ite (fun hn => (h.brgDeliver _ _ _).tiedFollow (by omega)) fun _ => h.brgDeliver _ _ _

theorem cycleEnded (h : s.LoopMoves n fs t) (st : Nat) (fresh : Bool) (hs : dpllLockFields ++ dpllSelFields ⊆ fs := by decide) :
    s.LoopMoves n fs (t.cycleEnded n st fresh) := by
  have h1 := (h.estUpdate n st).pullRamp fun _ hf => hs (List.mem_append_right _ hf)
  exact (State.LoopMoves.ite (fun _ => h1.plockUpdate fun _ hf => hs (List.mem_append_left _ hf)) fun _ => h1).engPend _ _ _

theorem cycleRest (h : s.LoopMoves n dpllCycleFields t) : s.LoopMoves n dpllCycleFields (t.cycleRest n) :=
  (h.errShown.sampleSeen.wordDone _).wordDelivered.cycleEnded _ _

end State.LoopMoves

/-- UPDATE is pending at the loop's program (R301). -/
theorem State.cycleEnded_pends (h : s.Inv) (st : Nat) (fresh : Bool) :
    ((s.cycleEnded n st fresh).eng (1 + n)).pend.any (fun e => e.1 == 0) = true := by
  have h1 := ((State.LoopMoves.refl (n := n) (fs := dpllLockFields ++ dpllSelFields) h).estUpdate n st).pullRamp
  exact State.engPend_pends (State.LoopMoves.ite (fun _ => h1.plockUpdate) fun _ => h1).inv _ (by omega) _ _

theorem State.cycleRest_pends (h : s.Inv) : ((s.cycleRest n).eng (1 + n)).pend.any (fun e => e.1 == 0) = true :=
  State.cycleEnded_pends
    (((State.LoopMoves.refl (n := n) (fs := dpllCycleFields) h).errShown.sampleSeen.wordDone _).wordDelivered).inv _ _

/-! ### The start of an update and its commits -/

theorem State.cycleBegun_spec (h : s.Inv) :
    s.LoopMoves n [.word DPLL_UPDCNT, .word DPLL_PHOFF_LO, .word DPLL_PHOFF_HI] (s.cycleBegun n) ∧
      (s.cycleBegun n).rn (wDpll n) DPLL_UPDCNT = (s.rn (wDpll n) DPLL_UPDCNT + 1) % 2 ^ 32 ∧
      (s.cycleBegun n).pair (wDpll n) DPLL_PHOFF_LO = ofSigned 64 (s.phoff n + (s.dpll n).moving) ∧
      (s.cycleBegun n).dpll n = { s.dpll n with moving := 0 } := by
  have h1 := (State.LoopMoves.refl (n := n) (fs := [.word DPLL_UPDCNT, .word DPLL_PHOFF_LO, .word DPLL_PHOFF_HI]) h).count
    (off := DPLL_UPDCNT) 1 (by decide) (by decide)
  have h2 (v : Nat) := h1.putPair (off := DPLL_PHOFF_LO) v (by decide) (by decide) (by decide)
  have h3 (v : Nat) := (State.LoopMoves.refl (n := n) (fs := [.word DPLL_PHOFF_LO, .word DPLL_PHOFF_HI]) h1.inv).putPair
    (off := DPLL_PHOFF_LO) v (by decide) (by decide) (by decide)
  unfold State.cycleBegun State.setPhoff
  generalize s.phoff n + (s.dpll n).moving = v
  refine ⟨(h2 _).modDpll, ?_, ?_, State.modDpll_dpll_same (h2 _).inv n _⟩
  · rw [State.modDpll_rn, (h3 _).rn DPLL_UPDCNT (by decide), State.rn_count_same s h.canon]
  · unfold State.pair
    rw [State.modDpll_rn, State.modDpll_rn]
    exact State.pair_putPair_signed h1.inv.canon (by decide) _ _ (by decide)

/-- R80: the commits since the last instant judged. -/
theorem State.dpllCommits_spec (h : s.Inv) :
    (s.dpllCommits n).Inv ∧ (s.dpllCommits n).sys = s.sys ∧
      (∀ g : Fld, g.clearOf [.word DPLL_MISSCNT] = true → (s.dpllCommits n).get (wDpll n) g = s.get (wDpll n) g) ∧
      ((s.dpllCommits n).dpll n).updIdx = (s.dpll n).updIdx ∧ ((s.dpllCommits n).dpll n).frozen = (s.dpll n).frozen ∧
      ((s.dpllCommits n).dpll n).committed = (s.dpll n).committed ∧
      ((s.dpll n).granted = true → ((s.dpllCommits n).dpll n).missRun = 0 ∧ ((s.dpllCommits n).dpll n).stall = false ∧
        (s.dpllCommits n).rn (wDpll n) DPLL_MISSCNT = s.rn (wDpll n) DPLL_MISSCNT) ∧
      ((s.dpll n).granted = false → ((s.dpllCommits n).dpll n).missRun = (s.dpll n).missRun + 1 ∧
        (s.dpllCommits n).rn (wDpll n) DPLL_MISSCNT = (s.rn (wDpll n) DPLL_MISSCNT + 1) % 2 ^ 32) := by
  have hc := (State.LoopMoves.refl (n := n) (fs := [.word DPLL_MISSCNT]) h).count (off := DPLL_MISSCNT) 1 (by decide) (by decide)
  unfold State.dpllCommits
  dsimp only
  split
  · rename_i hg
    rw [State.modDpll_dpll_same h]
    exact ⟨h.modDpll _ _, rfl, fun _ _ => rfl, rfl, rfl, rfl, fun _ => ⟨rfl, rfl, rfl⟩, fun hn => by rw [hg] at hn; cases hn⟩
  · rename_i hg
    rw [State.modDpll_dpll_same hc.inv]
    exact ⟨hc.inv.modDpll _ _, rfl, hc.get, rfl, rfl, rfl, fun hn => absurd hn hg,
      fun _ => ⟨rfl, State.rn_count_same s h.canon _ _ _⟩⟩

/-! ### A committed word in TRACK (R79, R82) -/

theorem State.loopState_track (hf : (s.dpll n).frozen = false) (hon : s.dpllOn n = true) (ht : s.tied n = false)
    (hst : (s.dpll n).stall = false) (hsel : s.selSt n = 3) (hm : s.selMode n ≠ 2) : s.loopState n = 1 := by
  simp [State.loopState, hf, hon, ht, hst, hsel, hm]

theorem quotFree_mul_self (i : Int) {d : Int} (hd : d ≠ 0) : quotFree (i * d) d = i := by
  simp [quotFree, Int.mul_ediv_cancel _ hd]

theorem progUnit_ne_zero : progUnit ≠ 0 := by unfold progUnit; omega

theorem clampSum_zero {base lim : Int} (uper : Nat) (hlo : -lim ≤ base) (hhi : base ≤ lim) :
    clampSum base 0 lim uper = (base, 0, false) := by
  have hff : base - feedFwd 0 uper = base := by simp [feedFwd, quotFree]
  unfold clampSum
  dsimp only
  rw [hff, if_pos ⟨hlo, hhi⟩]

theorem State.dcow_range : -2 ^ 47 ≤ s.dcow n ∧ s.dcow n < 2 ^ 47 := toSigned_range (by decide) _

theorem State.LoopMoves.dpllCommitted (h : s.LoopMoves n fs t) : s.LoopMoves n fs (t.dpllCommitted n) :=
  .ite (fun _ => h.modDpll) fun _ => h

theorem State.dpllCommitted_slewed (h : s.Inv) (hc : (s.dpll n).committed = true) (hs : s.rn (wDpll n) DPLL_FSLEW = 0) :
    (s.dpllCommitted n).slewed n = (s.dcow n * progUnit, false) := by
  have htarget : ((s.dpllCommitted n).dpll n).target = s.dcow n := by
    unfold State.dpllCommitted
    rw [if_pos hc, State.modDpll_dpll_same h]
  unfold State.slewed
  dsimp only
  rw [(State.LoopMoves.refl (fs := []) h).dpllCommitted.rn _ (by decide), hs, htarget, Nat.cast_zero, zero_mul, zero_mul, if_pos rfl]

theorem State.stepMove_idle (hp : s.psrem n = 0) : s.stepMove n = (0, (s.dpll n).stepFrac) := if_pos (.inl hp)

/-- Without a step or a slew limit a committed word within FLIM is the word in force. -/
theorem State.dpllWord_commit (h : s.Inv) (hc : (s.dpll n).committed = true) (hp : s.psrem n = 0)
    (hs : s.rn (wDpll n) DPLL_FSLEW = 0) (hlo : -s.flim n ≤ s.dcow n) (hhi : s.dcow n ≤ s.flim n) :
    (s.dpllWord n 1).dco n = s.dcow n := by
  obtain ⟨hmin, hmax⟩ := State.dcow_range (s := s) (n := n)
  have hcom : (s.dpllCommitted n).Inv := ((State.LoopMoves.refl (n := n) (fs := []) h).dpllCommitted).inv
  unfold State.dpllWord
  dsimp only
  rw [if_pos (.inl rfl), State.stepMove_idle hp, State.dpllCommitted_slewed h hc hs]
  dsimp only
  rw [quotFree_mul_self _ progUnit_ne_zero, clampSum_zero _ hlo hhi]
  dsimp only
  rw [if_neg Bool.false_ne_true, if_neg Bool.false_ne_true]
  exact State.setDco_dco ((hcom.modDpll _ _).putPair _ _ _).canon hmin hmax

/-! The commit stays noted until the word of the period is formed. -/

theorem State.dpll_congr (h : t.dplls = s.dplls) (m : Nat) : t.dpll m = s.dpll m := by
  unfold State.dpll
  rw [h]

theorem State.lockRestart_committed (h : s.Inv) : ((s.lockRestart n).dpll n).committed = (s.dpll n).committed := by
  unfold State.lockRestart
  rw [State.modDpll_dpll_same ((State.LoopMoves.refl (n := n) (fs := dpllLockFields) h).setLock _ _).inv]
  dsimp only
  rw [State.dpll_congr (State.setLock_dplls false false)]

theorem State.loopShown_dplls (n : Nat) : (s.loopShown n).dplls = s.dplls := by
  unfold State.loopShown
  dsimp only
  split
  · exact State.raise_dplls _ _ _
  · rfl

theorem State.bivTrack_dplls (m : Nat) (inn : Bool) : (s.bivTrack m inn).dplls = s.dplls := by
  unfold State.bivTrack
  split
  · rfl
  · dsimp only
    unfold State.lifeCount
    split <;> rfl
  · rfl

theorem State.enterLoop_committed (h : s.Inv) : ((s.enterLoop n).dpll n).committed = (s.dpll n).committed := by
  by_cases hst : s.loopState n = s.loopst n
  · rw [State.enterLoop_of_eq hst]
  · have hshown : ((s.loopShown n).dpll n).committed = (s.dpll n).committed :=
      congrArg DpllSt.committed (State.dpll_congr (State.loopShown_dplls n) n)
    have hentered : ((s.lockEntered n).dpll n).committed = (s.dpll n).committed := by
      unfold State.lockEntered
      split
      · exact (State.lockRestart_committed (State.loopShown_moves h).inv).trans hshown
      · exact hshown
    rw [State.enterLoop_of_ne hst]
    refine Eq.trans ?_ hentered
    split
    · exact congrArg DpllSt.committed (State.dpll_congr (State.bivTrack_dplls _ _) n)
    · rfl

theorem State.dpllErr_dplls (m : Nat) : (s.dpllErr m).dplls = s.dplls := by
  unfold State.dpllErr
  dsimp only
  split <;> rfl

theorem State.errShown_committed (h : s.Inv) : ((s.errShown n).dpll n).committed = (s.dpll n).committed :=
  (congrArg DpllSt.committed (State.dpll_congr (State.dpllErr_dplls _) n)).trans (State.enterLoop_committed h)

theorem State.sampleSeen_committed (h : s.Inv) : ((s.sampleSeen n).dpll n).committed = (s.dpll n).committed := by
  unfold State.sampleSeen
  rw [State.modDpll_dpll_same h]
  split <;> rfl

/-- The loop state shown, and with it the word of a commit in TRACK. -/
theorem State.cycleRest_track (h : s.Inv) (hst : s.loopState n = 1) (hc : (s.dpll n).committed = true) (hp : s.psrem n = 0)
    (hs : s.rn (wDpll n) DPLL_FSLEW = 0) (hlo : -s.flim n ≤ s.dcow n) (hhi : s.dcow n ≤ s.flim n) :
    (s.cycleRest n).loopst n = 1 ∧ (s.cycleRest n).dco n = s.dcow n := by
  have hin := State.LoopMoves.refl (n := n) (fs := dpllStateFields) h
  have he : (s.enterLoop n).LoopMoves n dpllErrFields (s.errShown n) := (State.LoopMoves.refl hin.enterLoop.inv).dpllErr
  have hst' : (s.errShown n).loopst n = 1 := he.loopst.trans ((State.enterLoop_loopst h).trans hst)
  have hv := ((State.LoopMoves.refl (n := n) (fs := dpllStateFields ++ dpllErrFields) h).errShown).sampleSeen
  have hw : ((s.errShown n).sampleSeen n).wordDone n 1 = ((s.errShown n).sampleSeen n).dpllWord n 1 :=
    if_neg fun hne => hne.1 (hv.psrem.trans hp)
  have hcom : (((s.errShown n).sampleSeen n).dpll n).committed = true :=
    (State.sampleSeen_committed he.inv).trans ((State.errShown_committed h).trans hc)
  have hdco : (((s.errShown n).sampleSeen n).dpllWord n 1).dco n = s.dcow n :=
    (State.dpllWord_commit hv.inv hcom (hv.psrem.trans hp) ((hv.rn _ (by decide)).trans hs) (by rw [hv.flim, hv.dcow]; exact hlo)
      (by rw [hv.flim, hv.dcow]; exact hhi)).trans hv.dcow
  have hword := (State.LoopMoves.refl (n := n) (fs := dpllStepFields ++ dpllDcoFields) hv.inv).dpllWord 1
  have hend := ((State.LoopMoves.refl (n := n) (fs := dpllLockFields ++ dpllSelFields) hword.inv).wordDelivered).cycleEnded 1
    ((s.errShown n).newSample n)
  unfold State.cycleRest
  dsimp only
  rw [hst', hw]
  exact ⟨hend.loopst.trans (hword.loopst.trans (((State.LoopMoves.refl (fs := []) he.inv).sampleSeen.loopst).trans hst')),
    hend.dco.trans hdco⟩

/-! ### A whole update (R79) -/

/-- The move in progress, the commits and the counts of an update's record stay through the bridge's part of it. -/
theorem State.brgBlend_dplls : s.brgBlend.dplls = s.dplls := by
  unfold State.brgBlend
  dsimp only
  split
  · exact State.raise_dplls _ _ _
  · rfl

theorem State.dplls_ite {u : State} {c : Prop} [Decidable c] (ht : t.dplls = s.dplls) (hu : u.dplls = s.dplls) :
    (if c then t else u).dplls = s.dplls := by
  split <;> assumption

theorem State.brgApply_dplls (m : Nat) : (s.brgApply m).dplls = s.dplls := by
  have hfold (l : List Nat) (f : State → Nat → DestSt → DestSt) (t : State) :
      (l.foldl (fun u d => u.modDest d (f u d)) t).dplls = t.dplls :=
    List.foldlRecOn (motive := fun u : State => u.dplls = t.dplls) l _ rfl fun u hu d _ => hu
  have hmoved (l : List Nat) (f : State → Nat → DestSt → DestSt) (t : State) :
      (((l.foldl (fun u d => u.modDest d (f u d)) t).sts W_BRG BRG_STS 1).raise 6 8).dplls = t.dplls :=
    (State.raise_dplls _ _ _).trans (hfold l f t)
  exact State.dplls_ite rfl (State.dplls_ite ((State.raise_dplls _ _ _).trans (hmoved _ _ _))
    (State.brgBlend_dplls.trans (hmoved _ _ _)))

theorem State.brgResume_dplls : s.brgResume.dplls = s.dplls := by
  unfold State.brgResume
  split
  · exact State.brgApply_dplls _
  · rfl

theorem State.bawMeasured_dplls (baw : Int) : (s.bawMeasured baw).dplls = s.dplls := by
  unfold State.bawMeasured
  split <;> rfl

theorem State.bawMeasured_modDpll (baw : Int) (m : Nat) (f : DpllSt → DpllSt) :
    (s.bawMeasured baw).modDpll m f = (s.modDpll m f).bawMeasured baw := by
  unfold State.bawMeasured
  rw [State.modDpll_mon]
  split <;> rfl

/-- The conditions of an update: the BAW offset noted (R81) and a map held in the safe state taken over (R135). -/
theorem State.LoopMoves.resumed (h : s.LoopMoves n fs t) (baw : Int) : s.LoopMoves n fs (t.bawMeasured baw).brgResume :=
  (h.bawMeasured baw).brgResume

theorem State.resumed_dpll (baw : Int) (m : Nat) : (s.bawMeasured baw).brgResume.dpll m = s.dpll m :=
  State.dpll_congr (State.brgResume_dplls.trans (State.bawMeasured_dplls baw)) m

/-- An update of a loop that is off delivers its word and leaves the loop (R79). -/
theorem State.dpllUpdate_off_moves (h : s.Inv) (baw : Int) (hon : s.dpllOn n = false) (hf : (s.dpll n).frozen = false) :
    s.LoopMoves n [] ((s.bawMeasured baw).dpllUpdate n) := by
  have hr := (State.LoopMoves.refl (n := n) (fs := []) h).resumed baw
  rw [State.dpllUpdate_off (hr.dpllOn.trans hon) (hr.frozen.trans hf)]
  exact hr.brgDeliver _ _ _

/-- The commits judged, in the update of an enabled loop. -/
def State.judged (s : State) (n : Nat) (baw : Int) : State := ((s.bawMeasured baw).brgResume.cycleBegun n).dpllCommits n

theorem State.dpllUpdate_judged (h : s.Inv) (baw : Int) (hon : s.dpllOn n = true) :
    (s.bawMeasured baw).dpllUpdate n = (s.judged n baw).cycleRest n :=
  State.dpllUpdate_on ((((State.LoopMoves.refl (fs := []) h).resumed baw).dpllOn).trans hon)

/-- The fields that the start of an update and its commits write (R79, R80, R91). -/
def dpllBeginFields : List Fld := [.word DPLL_UPDCNT, .word DPLL_PHOFF_LO, .word DPLL_PHOFF_HI, .word DPLL_MISSCNT]

/-- What the updates and their commits show once the commits are judged (R79, R80, R91). -/
theorem State.judged_spec (h : s.Inv) (baw : Int) :
    (s.modDpll n fun _ => (s.judged n baw).dpll n).LoopMoves n dpllBeginFields (s.judged n baw) ∧
      (s.judged n baw).rn (wDpll n) DPLL_UPDCNT = (s.rn (wDpll n) DPLL_UPDCNT + 1) % 2 ^ 32 ∧
      (s.judged n baw).pair (wDpll n) DPLL_PHOFF_LO = ofSigned 64 (s.phoff n + (s.dpll n).moving) ∧
      ((s.judged n baw).dpll n).updIdx = (s.dpll n).updIdx ∧ ((s.judged n baw).dpll n).frozen = (s.dpll n).frozen ∧
      ((s.judged n baw).dpll n).committed = (s.dpll n).committed ∧
      ((s.dpll n).granted = true → ((s.judged n baw).dpll n).missRun = 0 ∧ ((s.judged n baw).dpll n).stall = false ∧
        (s.judged n baw).rn (wDpll n) DPLL_MISSCNT = s.rn (wDpll n) DPLL_MISSCNT) ∧
      ((s.dpll n).granted = false → ((s.judged n baw).dpll n).missRun = (s.dpll n).missRun + 1 ∧
        (s.judged n baw).rn (wDpll n) DPLL_MISSCNT = (s.rn (wDpll n) DPLL_MISSCNT + 1) % 2 ^ 32) := by
  have hr := (State.LoopMoves.refl (n := n) (fs := []) h).resumed baw
  have hdpll := State.resumed_dpll (s := s) baw n
  obtain ⟨hb, hcnt, hpair, hrec⟩ := State.cycleBegun_spec (n := n) hr.inv
  obtain ⟨hinv, hsys, hget, hupd, hfrz, hcom, hgr, hmiss⟩ := State.dpllCommits_spec (n := n) hb.inv
  have hrn (off : Nat) (ho : (Fld.word off).clearOf [.word DPLL_MISSCNT] = true) :
      (s.judged n baw).rn (wDpll n) off = ((s.bawMeasured baw).brgResume.cycleBegun n).rn (wDpll n) off := by
    rw [← State.get_word, ← State.get_word]
    exact hget _ ho
  rw [hrec, hdpll] at hupd hfrz hcom hgr hmiss
  rw [hb.rn _ (by decide), hr.rn _ (by decide)] at hgr hmiss
  refine ⟨⟨hinv, hsys.trans (hb.sys.trans hr.sys), fun g hg => ?_, ?_⟩, ?_, ?_, hupd, hfrz, hcom, hgr, hmiss⟩
  · obtain ⟨hlt, hall⟩ := (Fld.clearOf_iff _ _).mp hg
    have part (l : List Fld) (hl : l ⊆ dpllBeginFields) : g.clearOf l = true :=
      (Fld.clearOf_iff _ _).mpr ⟨hlt, fun f hf => hall f (hl hf)⟩
    exact (hget g (part _ (by decide))).trans ((hb.get g (part _ (by decide))).trans (hr.get g (part [] (by decide))))
  · rw [State.modDpll_dpll_same h]
  · rw [hrn _ (by decide), hcnt, hr.rn _ (by decide)]
  · unfold State.pair
    rw [hrn _ (by decide), hrn _ (by decide)]
    exact hpair.trans (by rw [hr.phoff, hdpll])

/-- Without a step or a slew limit an update with a commit within FLIM is one of TRACK with that word (R79, R80, R82). -/
theorem State.judged_track (h : s.Inv) (baw : Int) (hon : s.dpllOn n = true) (hf : (s.dpll n).frozen = false) (ht : s.tied n = false)
    (hm : s.selMode n ≠ 2) (hsel : s.selSt n = 3) (hg : (s.dpll n).granted = true) (hc : (s.dpll n).committed = true)
    (hp : s.psrem n = 0) (hsl : s.rn (wDpll n) DPLL_FSLEW = 0) (hlo : -s.flim n ≤ s.dcow n) (hhi : s.dcow n ≤ s.flim n) :
    ((s.judged n baw).cycleRest n).loopst n = 1 ∧ ((s.judged n baw).cycleRest n).dco n = s.dcow n := by
  obtain ⟨hj, -, -, -, hfrz, hcom, hgr, -⟩ := State.judged_spec (n := n) h baw
  obtain ⟨-, hstall, -⟩ := hgr hg
  have hst : (s.judged n baw).loopState n = 1 := State.loopState_track (hfrz.trans hf) (hj.dpllOn.trans hon) (hj.tied.trans ht) hstall
    (hj.selSt.trans hsel) (by rw [hj.selMode]; exact hm)
  obtain ⟨hshown, hword⟩ := State.cycleRest_track hj.inv hst (hcom.trans hc) (hj.psrem.trans hp) ((hj.rn _ (by decide)).trans hsl)
    (by rw [hj.flim, hj.dcow]; exact hlo) (by rw [hj.flim, hj.dcow]; exact hhi)
  exact ⟨hshown, hword.trans hj.dcow⟩

/-! ### The frequency-lock window (R89) -/

/-- The change of the word over the window that ends, scaled as FLTHR is. -/
def State.flockChange (s : State) (n : Nat) : Nat := (s.dco n - (s.dpll n).flWord).natAbs * 4096 * 10 ^ 9

/-- What two windows within FLTHR set and one beyond twice FLTHR clears. -/
def State.flockNext (s : State) (n : Nat) : Bool :=
  if s.flag (wDpll n) DPLL_STATE_FLOCK then decide (s.flockChange n ≤ 2 * (s.rn (wDpll n) DPLL_FLTHR * 2 ^ 48))
  else decide (2 ≤ if s.flockChange n ≤ s.rn (wDpll n) DPLL_FLTHR * 2 ^ 48 then (s.dpll n).flGood + 1 else 0)

theorem State.flockWindow_spec (h : s.Inv) :
    ((s.flockWindow n).dpll n).flEnd = ((s.dpll n).flEnd + s.fltime n) % 2 ^ 96 ∧
      (s.flockWindow n).flag (wDpll n) DPLL_STATE_FLOCK = s.flockNext n ∧
      (s.flockWindow n).flag (wDpll n) DPLL_STATE_PLOCK = s.flag (wDpll n) DPLL_STATE_PLOCK ∧
      (s.flag (wDpll n) DPLL_STATE_FLOCK ≠ s.flockNext n → (s.flockWindow n).evPending (evNo 5 (8 * n + 4)) = true) := by
  have hw (f : DpllSt → DpllSt) (b : Bool) := State.setLock_flags (n := n) (h.modDpll n f) b (s.flag (wDpll n) DPLL_STATE_PLOCK)
  refine ⟨?_, (hw _ _).1, (hw _ _).2, fun hne => State.setLock_evPending (h.modDpll n _) fun hsame => hne hsame.1⟩
  unfold State.flockWindow
  dsimp only
  rw [State.dpll_congr (State.setLock_dplls _ _), State.modDpll_dpll_same h]

theorem State.flockNext_set (hf : s.flag (wDpll n) DPLL_STATE_FLOCK = false)
    (hc : s.flockChange n ≤ s.rn (wDpll n) DPLL_FLTHR * 2 ^ 48) (hg : 1 ≤ (s.dpll n).flGood) : s.flockNext n = true := by
  unfold State.flockNext
  rw [hf, if_neg Bool.false_ne_true, if_pos hc]
  exact decide_eq_true (by omega)

theorem State.flockNext_clear (hf : s.flag (wDpll n) DPLL_STATE_FLOCK = true)
    (hc : 2 * (s.rn (wDpll n) DPLL_FLTHR * 2 ^ 48) < s.flockChange n) : s.flockNext n = false := by
  unfold State.flockNext
  rw [if_pos hf]
  exact decide_eq_false (Nat.not_le.mpr hc)

/-! ### O34 -/

/-- The state that an update starts from: the update instant noted (R79). -/
def State.updateNoted (s : State) (n i : Nat) : State := s.modDpll n fun x => { x with updIdx := i }

theorem exec_dpllUpdate_due (hs : s.Ready) (baw : Int) (hd : (s.dpll n).updIdx < s.tb.c / (s.uper n * usU)) :
    exec (.dpllUpdate n baw) s =
      .next (((s.updateNoted n (s.tb.c / (s.uper n * usU))).bawMeasured baw).dpllUpdate n) :=
  congrArg Host.Outcome.next ((if_pos (State.gridDue_of_lt hs hd)).trans
    (congrArg (State.dpllUpdate · n) (State.bawMeasured_modDpll baw n _)))

theorem exec_dpllUpdate_early (hs : s.Ready) (baw : Int) (hd : s.tb.c / (s.uper n * usU) ≤ (s.dpll n).updIdx) :
    exec (.dpllUpdate n baw) s = .next s := by
  refine congrArg Host.Outcome.next (if_neg ?_)
  rw [State.gridDue_eq hs, decide_eq_true_iff]
  omega

end

/-- Settles O34: an update is followed phase by phase, each phase with the fields of the loop's window that it writes. -/
theorem loopUpdates : Obligations.LoopUpdates := by
  unfold Obligations.LoopUpdates
  intro s n baw hs
  dsimp only
  have hnote (i : Nat) : (s.updateNoted n i).Inv := hs.1.modDpll n _
  have hrec (i : Nat) : (s.updateNoted n i).dpll n = { s.dpll n with updIdx := i } := State.modDpll_dpll_same hs.1 n _
  refine ⟨fun hd => ⟨s, exec_dpllUpdate_early hs baw hd, rfl⟩, fun hd hon hf => ⟨_, exec_dpllUpdate_due hs baw hd, ?_⟩,
    fun hd hon => ⟨_, exec_dpllUpdate_due hs baw hd, ?_⟩,
    fun hon hdue => ⟨_, congrArg Host.Outcome.next (if_pos ⟨hon, hdue⟩), ?_⟩⟩
  · have hoff := State.dpllUpdate_off_moves (hnote (s.tb.c / (s.uper n * usU))) baw hon (by rw [hrec]; exact hf)
    exact ⟨hoff.rn DPLL_UPDCNT (by decide), hoff.dco, hoff.updIdx.trans (by rw [hrec])⟩
  · generalize s.tb.c / (s.uper n * usU) = i
    obtain ⟨hj, hcnt, hpair, hupd, -, -, hgr, hmiss⟩ := State.judged_spec (n := n) (hnote i) baw
    have ht := State.judged_track (n := n) (hnote i) baw hon
    have hrest := (State.LoopMoves.refl (n := n) (fs := dpllCycleFields) hj.inv).cycleRest
    rw [State.dpllUpdate_judged (hnote i) baw hon]
    rw [hrec] at hpair hupd hgr hmiss ht
    refine ⟨(hrest.rn _ (by decide)).trans hcnt, hrest.updIdx.trans hupd, (hrest.pair _ (by decide)).trans hpair,
      State.cycleRest_pends hj.inv, fun hg => ?_, fun hg => ?_, ht⟩
    · obtain ⟨h1, h2, h3⟩ := hgr hg
      exact ⟨hrest.missRun.trans h1, hrest.stall.trans h2, (hrest.rn _ (by decide)).trans h3⟩
    · obtain ⟨h1, h2⟩ := hmiss hg
      exact ⟨hrest.missRun.trans h1, (hrest.rn _ (by decide)).trans h2⟩
  · obtain ⟨hend, hflock, hplock, hev⟩ := State.flockWindow_spec (n := n) hs.1
    refine ⟨hend, hplock, fun hf hch hgood => ?_, fun hf hch => ?_⟩
    · have hnext := State.flockNext_set hf hch hgood
      exact ⟨hflock.trans hnext, hev (by rw [hf, hnext]; decide)⟩
    · have hnext := State.flockNext_clear hf hch
      exact ⟨hflock.trans hnext, hev (by rw [hf, hnext]; decide)⟩

end Sys2Proof.Machine

/-!
PROOF. Writes at a loop's window (R356, R363, R364, R466) and the commits of its pairs (R79, R92).
-/

namespace Sys2Proof.Machine

section
variable {s t : State} {r : Req} {n : Loop} {fs : List Fld}

/-! ### The write at the door -/

/-- No guard lock covers a loop's registers (R369). -/
theorem State.dpll_writeLocked (off v : Nat) : s.writeLocked (wDpll n) off .plain v = false := by
  obtain ⟨-, hnvs, -⟩ := wDpll_plain n
  have hgroup : guardGroup (wDpll n) off = none := by
    unfold guardGroup wDpll W_DPLL W_OUT W_ETH W_FLT W_PWR W_NVS W_ENG W_SYS W_GL W_CAL
    repeat rw [if_neg (by omega)]
  simp [State.writeLocked, State.guarded, hgroup, hnvs]

theorem State.refuses_dpll (off old v : Nat) : s.refuses r (wDpll n) off old v = s.dpllRefuses r n off old v := by
  simp only [State.refuses, winBlock_dpll]

theorem State.srvIgnored_dpll (off old v : Nat) : s.srvIgnored (wDpll n) off old v = false := by
  simp only [State.srvIgnored, winBlock_dpll]

theorem State.written_dpll (off old : Nat) : s.written r (wDpll n) off old = s.dpllWritten r n off old := by
  simp only [State.written, winBlock_dpll]

theorem wDpll_uncrossed : ∀ n : Loop,
    wDpll n ≠ W_TEV ∧ wDpll n ≠ W_SYNC ∧ wDpll n ≠ W_FLT ∧ wDpll n ≠ W_SNAP ∧ wDpll n ≠ W_TB := by decide

/-- No write of a loop crosses to the TB clock (R19). -/
theorem tbCrossing_dpll (off : Nat) : tbCrossing (wDpll n) off = false := by
  obtain ⟨htev, hsync, hflt, hsnap, htb⟩ := wDpll_uncrossed n
  simp [tbCrossing, htev, hsync, hflt, hsnap, htb]

/-- What a write of a loop's register comes to, seen from the door: its effect, its record and its answer. -/
theorem State.doorWrite_dpll {off v : Nat} {o : AccOut} (hr : r ≠ .i2c) (h4 : off % 4 = 0) (ho : off < 0x1000)
    (hw : s.regWrite r (wDpll n) off .plain v = (o, t)) (hsoft : (t.accRecord r true (regAddr (wDpll n) off) o).sys.soft = false) :
    s.doorWrite r (regAddr (wDpll n) off) 15 v =
      (t.accRecord r true (regAddr (wDpll n) off) o).emit (.answer r (regAddr (wDpll n) off) o (BitVec.ofNat 32 v)) := by
  have hlt := wDpll_lt n
  have hcore := s.coreWrite_reg (v := v) (inReach_of_ne_i2c hr true (regAddr (wDpll n) off)) h4 (by unfold W_ENG at hlt; omega) ho
  rw [hw] at hcore
  simp only [State.doorWrite, State.busWrite, hcore, State.softResume_of hsoft]

/-- A register of class RUN takes its value, with what that does (R356). -/
theorem State.regWrite_dpll_run {off v : Nat} (hrow : (regRow (wDpll n) off).map RegRow.cls = some .run)
    (hm : mayWrite r (wDpll n) off = true) (hg : stagedReg (wDpll n) off = false)
    (hn : s.dpllRefuses r n off (s.view (wDpll n) off) v = none) : s.regWrite r (wDpll n) off .plain v =
      (.ok, (s.wr (wDpll n) off v).dpllWritten r n off (s.view (wDpll n) off)) := by
  obtain ⟨hguard, -, -⟩ := wDpll_plain n
  obtain ⟨row, hrow, hc⟩ := Option.map_eq_some_iff.mp hrow
  simp [State.regWrite, hrow, hc, State.dpll_writeLocked, hguard, State.runWrite, hm, State.refuses_dpll, aliasValue, hn,
    State.runTake, hg, State.srvIgnored_dpll, State.written_dpll]

/-- A write of a register of class RUN that the loop refuses is WIGN (R363). -/
theorem State.regWrite_dpll_run_refused {off v : Nat} (hrow : (regRow (wDpll n) off).map RegRow.cls = some .run)
    (hm : mayWrite r (wDpll n) off = true) (hn : s.dpllRefuses r n off (s.view (wDpll n) off) v = some t) :
    s.regWrite r (wDpll n) off .plain v = (.wign, t) := by
  obtain ⟨hguard, -, -⟩ := wDpll_plain n
  obtain ⟨row, hrow, hc⟩ := Option.map_eq_some_iff.mp hrow
  simp [State.regWrite, hrow, hc, State.dpll_writeLocked, hguard, State.runWrite, hm, State.refuses_dpll, aliasValue, hn]

/-- A command register does its command (R356). -/
theorem State.regWrite_dpll_cmd {off v : Nat} (hrow : (regRow (wDpll n) off).map RegRow.cls = some .cmd)
    (hm : mayWrite r (wDpll n) off = true) (hg : stagedReg (wDpll n) off = false)
    (hn : s.dpllRefuses r n off (s.view (wDpll n) off) v = none) :
    s.regWrite r (wDpll n) off .plain v = (.ok, s.cmdAct r (wDpll n) off v) := by
  obtain ⟨hguard, -, hcal⟩ := wDpll_plain n
  obtain ⟨row, hrow, hc⟩ := Option.map_eq_some_iff.mp hrow
  rw [State.regWrite_cmd hrow hc hguard (State.dpll_writeLocked _ _) hm ((State.refuses_dpll _ _ _).trans hn) hg,
    if_neg fun h => hcal h.1, State.cmdEffect, if_neg (by simp [tbCrossing_dpll])]

theorem State.regWrite_dpll_cmd_refused {off v : Nat} (hrow : (regRow (wDpll n) off).map RegRow.cls = some .cmd)
    (hm : mayWrite r (wDpll n) off = true) (hn : s.dpllRefuses r n off (s.view (wDpll n) off) v = some t) :
    s.regWrite r (wDpll n) off .plain v = (.wign, t) := by
  obtain ⟨hguard, -, -⟩ := wDpll_plain n
  obtain ⟨row, hrow, hc⟩ := Option.map_eq_some_iff.mp hrow
  simp [State.regWrite, hrow, hc, State.dpll_writeLocked, hguard, State.cmdWrite, hm, State.refuses_dpll, hn]

/-! ### The registers that the commands write -/

theorem regRow_dpll_run : ∀ n : Loop, ∀ off ∈ [DPLL_CTL, DPLL_DCOW_HI, DPLL_HOWORD_HI],
    (regRow (wDpll n) off).map RegRow.cls = some .run := by decide

theorem regRow_dpll_cmd : ∀ n : Loop, ∀ off ∈ [DPLL_PSTEP_HI, DPLL_CMD, DPLL_LPSTAT],
    (regRow (wDpll n) off).map RegRow.cls = some .cmd := by decide

theorem stagedReg_dpll {off : Nat} (h : off ∉ [DPLL_DCOW_LO, DPLL_HOWORD_LO, DPLL_PSTEP_LO]) :
    stagedReg (wDpll n) off = false := by
  simp only [List.mem_cons, List.not_mem_nil, or_false, not_or] at h
  simp [stagedReg, winBlock_dpll, h]

/-- DCOW and LPSTAT have LPn for their single writer (R79, R87), the other registers none. -/
theorem mayWrite_dpll {off : Nat} (h : off ∉ [DPLL_DCOW_LO, DPLL_DCOW_HI, DPLL_LPSTAT]) : mayWrite r (wDpll n) off = true := by
  simp only [List.mem_cons, List.not_mem_nil, or_false, not_or] at h
  simp [mayWrite, winBlock_dpll, h]

theorem mayWrite_dpll_lp (off : Nat) : mayWrite (.eng (1 + n)) (wDpll n) off = true := by
  simp [mayWrite, winBlock_dpll, ownerOf]

theorem State.view_dpllCtl : s.view (wDpll n) DPLL_CTL = s.rn (wDpll n) DPLL_CTL := by
  obtain ⟨row, hrow, hc⟩ := Option.map_eq_some_iff.mp (regRow_dpll_run n DPLL_CTL (by decide))
  have hlive : s.live (wDpll n) DPLL_CTL = none := by
    simp only [State.live, winBlock_dpll]
    rfl
  simp only [State.view, hlive, hrow, hc]
  rfl

/-- R355: a refused write of a loop's register: what the refusal leaves, its record and WIGN. -/
theorem State.doorWrite_dpll_refused (hs : s.Ready) {off v : Nat} (hr : r ≠ .i2c) (h4 : off % 4 = 0) (ho : off < 0x1000)
    (hw : s.regWrite r (wDpll n) off .plain v = (.wign, t)) (ht : s.LoopMoves n fs t) :
    t.LoopMoves n [] (t.accRecord r true (regAddr (wDpll n) off) .wign) ∧ s.doorWrite r (regAddr (wDpll n) off) 15 v =
      (t.accRecord r true (regAddr (wDpll n) off) .wign).emit (.answer r (regAddr (wDpll n) off) .wign (BitVec.ofNat 32 v)) := by
  have hrec := (State.LoopMoves.refl (n := n) (fs := []) ht.inv).accRecord r true (regAddr (wDpll n) off) .wign
  exact ⟨hrec, State.doorWrite_dpll hr h4 ho hw (by rw [hrec.sys, ht.sys]; exact hs.2.1)⟩

/-- A write of a loop's register that is taken ends with its answer. -/
theorem State.doorWrite_dpll_ok {off v : Nat} (hr : r ≠ .i2c) (h4 : off % 4 = 0) (ho : off < 0x1000)
    (hw : s.regWrite r (wDpll n) off .plain v = (.ok, t)) (hsoft : t.sys.soft = false) :
    ∃ o, s.doorWrite r (regAddr (wDpll n) off) 15 v = t.emit o :=
  ⟨_, State.doorWrite_dpll hr h4 ho hw hsoft⟩

/-! ### Commits (R79, R92, R466) -/

theorem State.stagedVal_lt (r : Req) (w off : Nat) : s.stagedVal r w off < 2 ^ 32 := by
  unfold State.stagedVal
  split
  · exact BitVec.isLt _
  · exact s.rn_lt w off

theorem State.stagedVal_wr (w off w' off' v : Nat) (h : regAddr w' off' ≠ regAddr w off) :
    (s.wr w' off' v).stagedVal r w off = s.stagedVal r w off := by
  unfold State.stagedVal
  rw [State.rn_wr_other s _ _ _ _ _ h]
  rfl

/-- A commit joins the half that is staged and the half written. -/
theorem State.commitPair_pair (h : s.Canon) (w : Nat) {lo hi : Nat} (v : Word) (hhi : hi = lo + 4) (ho : hi < 0x4000) :
    ((s.wr w hi v.toNat).commitPair r w hi).pair w lo = s.stagedVal r w lo + v.toNat * 2 ^ 32 := by
  subst hhi
  have hne : regAddr w (lo + 4) ≠ regAddr w lo := regAddr_ne ho (by omega) (.inr (by omega))
  unfold State.commitPair State.pair
  rw [Nat.add_sub_cancel, State.rn_wr_same _ (State.wr_canon h _ _ _), State.rn_wr_other _ _ _ _ _ _ hne.symm, State.rn_wr_same s h,
    State.stagedVal_wr _ _ _ _ _ hne, Nat.mod_eq_of_lt (State.stagedVal_lt r w lo), Nat.mod_eq_of_lt v.isLt]

theorem State.modDpll_pair (m w off : Nat) (f : DpllSt → DpllSt) : (s.modDpll m f).pair w off = s.pair w off := rfl

theorem State.LoopMoves.commitPair (h : s.LoopMoves n fs t) {off : Nat} (hl : Fld.word (off - 4) ∈ fs) (ho : off < 0x4000) :
    s.LoopMoves n fs (t.commitPair r (wDpll n) off) := h.wr _ hl (by omega)

theorem State.dpllWritten_dcow (old : Nat) : s.dpllWritten r n DPLL_DCOW_HI old =
    (s.commitPair r (wDpll n) DPLL_DCOW_HI).dcowCommit n := by
  unfold State.dpllWritten
  rw [if_neg (by decide), if_neg (by decide), if_pos rfl]

theorem State.dpllWritten_howord (old : Nat) : s.dpllWritten r n DPLL_HOWORD_HI old =
    (s.commitPair r (wDpll n) DPLL_HOWORD_HI).howordCommit n := by
  unfold State.dpllWritten
  rw [if_neg (by decide), if_neg (by decide), if_neg (by decide), if_pos rfl]

/-- R79: LPn's commit of DCOW. -/
theorem State.wrReg_dcow (hs : s.Ready) (hf : (s.dpll n).frozen = false) (v : Word) :
    ∃ o, s.wrReg (.eng (1 + n)) (wDpll n) DPLL_DCOW_HI v =
      (((s.wr (wDpll n) DPLL_DCOW_HI v.toNat).commitPair (.eng (1 + n)) (wDpll n) DPLL_DCOW_HI).dcowCommit n).emit o := by
  have hn (old : Nat) : s.dpllRefuses (.eng (1 + n)) n DPLL_DCOW_HI old v.toNat = none := by
    simp [State.dpllRefuses, State.dpllFrozen, hf, DPLL_DCOW_HI, DPLL_CTL, DPLL_PSTEP_HI]
  have hw := State.regWrite_dpll_run (v := v.toNat) (regRow_dpll_run n DPLL_DCOW_HI (by decide)) (mayWrite_dpll_lp _)
    (stagedReg_dpll (by decide)) (hn _)
  rw [State.dpllWritten_dcow] at hw
  exact State.doorWrite_dpll_ok nofun (by decide) (by decide) hw hs.2.1

/-- R92: a commit of HOWORD. -/
theorem State.wrReg_howord (hs : s.Ready) (hr : r ≠ .i2c) (hf : (s.dpll n).frozen = false) (v : Word) :
    ∃ o, s.wrReg r (wDpll n) DPLL_HOWORD_HI v =
      (((s.wr (wDpll n) DPLL_HOWORD_HI v.toNat).commitPair r (wDpll n) DPLL_HOWORD_HI).howordCommit n).emit o := by
  have hn (old : Nat) : s.dpllRefuses r n DPLL_HOWORD_HI old v.toNat = none := by
    simp [State.dpllRefuses, State.dpllFrozen, hf, DPLL_HOWORD_HI, DPLL_CTL, DPLL_PSTEP_HI]
  have hw := State.regWrite_dpll_run (v := v.toNat) (regRow_dpll_run n DPLL_HOWORD_HI (by decide)) (mayWrite_dpll (by decide))
    (stagedReg_dpll (by decide)) (hn _)
  rw [State.dpllWritten_howord] at hw
  exact State.doorWrite_dpll_ok hr (by decide) (by decide) hw hs.2.1

theorem State.dcowCommit_spec (h : s.Inv) (v : Word) :
    let t := ((s.wr (wDpll n) DPLL_DCOW_HI v.toNat).commitPair r (wDpll n) DPLL_DCOW_HI).dcowCommit n
    (t.dpll n).committed = true ∧ (t.dpll n).granted = true ∧
      t.pair (wDpll n) DPLL_DCOW_LO = s.stagedVal r (wDpll n) DPLL_DCOW_LO + v.toNat * 2 ^ 32 ∧ t.dco n = s.dco n := by
  have hm := ((State.LoopMoves.refl (n := n) (fs := [.word DPLL_DCOW_LO, .word DPLL_DCOW_HI]) h).wr (off := DPLL_DCOW_HI) v.toNat
    (by decide) (by decide)).commitPair (r := r) (off := DPLL_DCOW_HI) (by decide) (by decide)
  have hrec := State.modDpll_dpll_same hm.inv n fun x => { x with committed := true, granted := true }
  exact ⟨congrArg DpllSt.committed hrec, congrArg DpllSt.granted hrec,
    (State.modDpll_pair _ _ _ _).trans (State.commitPair_pair h.canon (wDpll n) v rfl (by decide)), hm.dco⟩

theorem State.howordCommit_spec (h : s.Inv) (v : Word) :
    let t := ((s.wr (wDpll n) DPLL_HOWORD_HI v.toNat).commitPair r (wDpll n) DPLL_HOWORD_HI).howordCommit n
    (t.dpll n).tw = some s.tb.c ∧
      t.pair (wDpll n) DPLL_HOWORD_LO = s.stagedVal r (wDpll n) DPLL_HOWORD_LO + v.toNat * 2 ^ 32 := by
  have hrec := State.modDpll_dpll_same ((h.wr (wDpll n) DPLL_HOWORD_HI v.toNat).wr (wDpll n) DPLL_HOWORD_LO
    ((s.wr (wDpll n) DPLL_HOWORD_HI v.toNat).stagedVal r (wDpll n) DPLL_HOWORD_LO)) n fun x => { x with tw := some s.tb.c }
  exact ⟨congrArg DpllSt.tw hrec,
    (State.modDpll_pair _ _ _ _).trans (State.commitPair_pair h.canon (wDpll n) v rfl (by decide))⟩

end

end Sys2Proof.Machine

/-!
PROOF. Phase steps (R90, R91), refusals that a loop's status notes, and LPSTAT (R87).
-/

namespace Sys2Proof.Machine

section
variable {s t : State} {r : Req} {n : Loop} {fs : List Fld}

/-! ### Phase steps -/

theorem State.LoopMoves.pstep (h : s.LoopMoves n fs t) (a : Int) (hs : dpllStepFields ⊆ fs := by decide) :
    s.LoopMoves n fs (t.pstep n a) := .ite (fun _ => h.stepEnd 0 hs) fun _ => (h.setPsrem _ hs).learnCheck

theorem State.pstep_psrem (h : s.Inv) {a : Int} (hlo : -2 ^ 47 ≤ s.psrem n + a) (hhi : s.psrem n + a < 2 ^ 47) :
    (s.pstep n a).psrem n = s.psrem n + a := by
  unfold State.pstep
  dsimp only
  split
  · rename_i hend
    exact (State.stepEnd_spec h (by decide)).1.trans hend.2.symm
  · exact ((State.LoopMoves.refl (fs := []) (h.putPair _ _ _)).learnCheck.psrem).trans (State.setPsrem_psrem h.canon hlo hhi)

/-- The step that a write of PSTEP_HI asks for, in fs. -/
def State.stepAsked (s : State) (r : Req) (n v : Nat) : Int :=
  toSigned 48 (s.stagedVal r (wDpll n) DPLL_PSTEP_LO + v % 2 ^ 16 * 2 ^ 32)

theorem State.stepAsked_eq (s : State) (r : Req) (n v : Nat) :
    s.stepAsked r n v = toSigned 48 (s.stagedVal r (wDpll n) DPLL_PSTEP_LO + v % 2 ^ 16 * 2 ^ 32) := rfl

/-- PSTEP as the command leaves it, joined of the half staged and the half written. -/
def State.pstepJoined (s : State) (r : Req) (n v : Nat) : State :=
  (s.wr (wDpll n) DPLL_PSTEP_LO (s.stagedVal r (wDpll n) DPLL_PSTEP_LO)).wr (wDpll n) DPLL_PSTEP_HI v

theorem State.LoopMoves.pstepJoined (h : s.Inv) (v : Nat) :
    s.LoopMoves n [.word DPLL_PSTEP_LO, .word DPLL_PSTEP_HI] (s.pstepJoined r n v) :=
  ((State.LoopMoves.refl h).wr _ (by decide) (by decide)).wr _ (by decide) (by decide)

theorem State.pstepWrite_psrem (h : s.Inv) {v : Nat} (hlo : -2 ^ 47 ≤ s.psrem n + s.stepAsked r n v)
    (hhi : s.psrem n + s.stepAsked r n v < 2 ^ 47) : (s.pstepWrite r n v).psrem n = s.psrem n + s.stepAsked r n v := by
  have hj := State.LoopMoves.pstepJoined (n := n) (r := r) h v
  have hp := State.pstep_psrem (n := n) hj.inv (a := s.stepAsked r n v) (by rw [hj.psrem]; exact hlo) (by rw [hj.psrem]; exact hhi)
  rw [hj.psrem] at hp
  exact hp

theorem State.dpllRefuses_pstep (old v : Nat) : s.dpllRefuses r n DPLL_PSTEP_HI old v =
    if s.pstepRefused n (s.stepAsked r n v) then some (s.pstepRef n) else none := by
  have hoff : (s.dpllFrozen n && (DPLL_PSTEP_HI == DPLL_DCOW_HI || DPLL_PSTEP_HI == DPLL_HOWORD_LO ||
      DPLL_PSTEP_HI == DPLL_HOWORD_HI || DPLL_PSTEP_HI == DPLL_HORAMP)) = false := Bool.and_false _
  unfold State.dpllRefuses
  rw [if_neg (by decide), if_neg (by rw [hoff]; exact Bool.false_ne_true), if_pos rfl]
  rfl

/-- R90: a step of an enabled loop whose sum has 48 bits. -/
theorem State.wrReg_pstep (hs : s.Ready) (hr : r ≠ .i2c) (v : Word) (href : s.pstepRefused n (s.stepAsked r n v.toNat) = false) :
    ∃ o, s.wrReg r (wDpll n) DPLL_PSTEP_HI v = (s.pstepWrite r n v.toNat).emit o := by
  have hw := State.regWrite_dpll_cmd (v := v.toNat) (regRow_dpll_cmd n DPLL_PSTEP_HI (by decide)) (mayWrite_dpll (by decide))
    (stagedReg_dpll (by decide)) ((State.dpllRefuses_pstep (r := r) _ _).trans (if_neg (by rw [href]; exact Bool.false_ne_true)))
  have hact : s.cmdAct r (wDpll n) DPLL_PSTEP_HI v.toNat = s.pstepWrite r n v.toNat := by
    simp only [State.cmdAct, winBlock_dpll, if_true]
  rw [hact] at hw
  have hj := State.LoopMoves.pstepJoined (n := n) (r := r) hs.1 v.toNat
  have hstep := (State.LoopMoves.refl (n := n) (fs := dpllStepFields) hj.inv).pstep (s.stepAsked r n v.toNat)
  exact State.doorWrite_dpll_ok hr (by decide) (by decide) hw ((hstep.sys.trans hj.sys) ▸ hs.2.1)

/-- A bit of a status after its event (R360). -/
theorem State.sts_bitOf (h : s.Canon) (w off : Nat) {b : Nat} (hb : b < 24) : bitOf ((s.sts w off (2 ^ b)).rn w off) b = true := by
  rw [State.rn_sts_same s h, bitOf_eq_testBit, Nat.testBit_mod_two_pow, ← bitOf_eq_testBit, bitOf_putBits_other _ _ _ _ _ (.inl hb),
    bitOf_eq_testBit, Nat.testBit_or, Nat.testBit_two_pow_self, Bool.or_true, Bool.and_true]
  exact decide_eq_true (by omega)

/-- A refusal that is noted in bit `b` of DPLLn_STS: WIGN, the bit set, beside the status nothing of the loop changed. -/
theorem State.doorWrite_dpll_noted (hs : s.Ready) {off v b : Nat} (hr : r ≠ .i2c) (h4 : off % 4 = 0) (ho : off < 0x1000)
    (hb : b < 24) (hw : s.regWrite r (wDpll n) off .plain v = (.wign, s.sts (wDpll n) DPLL_STS (2 ^ b))) :
    ∃ t : State, s.doorWrite r (regAddr (wDpll n) off) 15 v =
        t.emit (.answer r (regAddr (wDpll n) off) .wign (BitVec.ofNat 32 v)) ∧
      s.LoopMoves n [.word DPLL_STS] t ∧ bitOf (t.rn (wDpll n) DPLL_STS) b = true := by
  have hsts := (State.LoopMoves.refl (n := n) (fs := [.word DPLL_STS]) hs.1).sts (off := DPLL_STS) (2 ^ b) (by decide) (by decide)
  obtain ⟨hrec, hdoor⟩ := State.doorWrite_dpll_refused hs hr h4 ho hw hsts
  refine ⟨_, hdoor, hsts.accRecord r true (regAddr (wDpll n) off) .wign, ?_⟩
  rw [hrec.rn _ (by decide)]
  exact State.sts_bitOf hs.1.canon _ _ hb

/-- R90: a step refused. -/
theorem State.regWrite_pstepRef (v : Nat) (href : s.pstepRefused n (s.stepAsked r n v) = true) :
    s.regWrite r (wDpll n) DPLL_PSTEP_HI .plain v = (.wign, s.sts (wDpll n) DPLL_STS (2 ^ 4)) :=
  State.regWrite_dpll_cmd_refused (regRow_dpll_cmd n DPLL_PSTEP_HI (by decide)) (mayWrite_dpll (by decide))
    ((State.dpllRefuses_pstep (r := r) _ _).trans (if_pos href))

theorem State.stepAbort_psrem (h : s.Inv) {cause : Nat} (hc : cause < 256) : (s.stepAbort n cause).psrem n = 0 := by
  unfold State.stepAbort
  split
  · assumption
  · exact (State.stepEnd_spec h hc).1

/-- R91: PSABORT. -/
theorem State.wrFld_psabort (hs : s.Ready) (hr : r ≠ .i2c) (v : Word) :
    ∃ o, s.wrFld r (wDpll n) DPLL_CMD_PSABORT 1 v = (s.stepAbort n 1).emit o := by
  have hn (old v : Nat) : s.dpllRefuses r n DPLL_CMD old v = none := by
    simp [State.dpllRefuses, DPLL_CMD, DPLL_CTL, DPLL_DCOW_HI, DPLL_HOWORD_LO, DPLL_HOWORD_HI, DPLL_HORAMP, DPLL_PSTEP_HI]
  have hw := State.regWrite_dpll_cmd (r := r) (v := putBits v.toNat 0 1 1) (regRow_dpll_cmd n DPLL_CMD (by decide))
    (mayWrite_dpll (by decide)) (stagedReg_dpll (by decide)) (hn _ _)
  have hbit : bitOf (putBits v.toNat 0 1 1) 0 = true := bitOf_putBits_one _ _ _
  have hact : s.cmdAct r (wDpll n) DPLL_CMD (putBits v.toNat 0 1 1) = s.stepAbort n 1 := by
    simp only [State.cmdAct, winBlock_dpll, hbit, if_true]
    exact if_neg (by decide)
  rw [hact] at hw
  exact State.doorWrite_dpll_ok hr (by decide) (by decide) hw
    (((State.LoopMoves.refl (n := n) (fs := dpllStepFields) hs.1).stepAbort 1).sys ▸ hs.2.1)

/-! ### LPSTAT (R87) -/

theorem State.LoopMoves.lpstatWritten (h : s.LoopMoves n fs t) (old : Nat) (hs : Fld.word DPLL_STS ∈ fs) :
    s.LoopMoves n fs (t.lpstatWritten n old) := .ite (fun _ => h.dpllEvent (by decide) hs) fun _ => h

theorem State.wrReg_lpstat (hs : s.Ready) (v : Word) : ∃ o, s.wrReg (.eng (1 + n)) (wDpll n) DPLL_LPSTAT v =
    ((s.wr (wDpll n) DPLL_LPSTAT v.toNat).lpstatWritten n (s.rn (wDpll n) DPLL_LPSTAT)).emit o := by
  have hn (old v : Nat) : s.dpllRefuses (.eng (1 + n)) n DPLL_LPSTAT old v = none := by
    simp [State.dpllRefuses, DPLL_LPSTAT, DPLL_CTL, DPLL_DCOW_HI, DPLL_HOWORD_LO, DPLL_HOWORD_HI, DPLL_HORAMP, DPLL_PSTEP_HI]
  have hw := State.regWrite_dpll_cmd (v := v.toNat) (regRow_dpll_cmd n DPLL_LPSTAT (by decide)) (mayWrite_dpll_lp _)
    (stagedReg_dpll (by decide)) (hn _ _)
  have hact : s.cmdAct (.eng (1 + n)) (wDpll n) DPLL_LPSTAT v.toNat =
      (s.wr (wDpll n) DPLL_LPSTAT v.toNat).lpstatWritten n (s.rn (wDpll n) DPLL_LPSTAT) := by
    simp only [State.cmdAct, winBlock_dpll, if_true]
    rw [if_neg (by decide), if_neg (by decide)]
  rw [hact] at hw
  have hwr := hs.1.wr (wDpll n) DPLL_LPSTAT v.toNat
  exact State.doorWrite_dpll_ok nofun (by decide) (by decide) hw
    (((State.LoopMoves.refl (n := n) (fs := [.word DPLL_STS]) hwr).lpstatWritten _ (by decide)).sys ▸ hs.2.1)

theorem State.lpstatWritten_spec (h : s.Inv) (v : Word) (old : Nat) :
    let t := (s.wr (wDpll n) DPLL_LPSTAT v.toNat).lpstatWritten n old
    t.rn (wDpll n) DPLL_LPSTAT = v.toNat ∧ (v.toNat % 8 ≠ old % 8 → t.evPending (evNo 5 (8 * n + 6)) = true) := by
  have hwr := h.wr (wDpll n) DPLL_LPSTAT v.toNat
  have hval : (s.wr (wDpll n) DPLL_LPSTAT v.toNat).rn (wDpll n) DPLL_LPSTAT = v.toNat :=
    (State.rn_wr_same s h.canon _ _ _).trans (Nat.mod_eq_of_lt v.isLt)
  have hm := (State.LoopMoves.refl (n := n) (fs := [.word DPLL_STS]) hwr).lpstatWritten old (by decide)
  refine ⟨(hm.rn _ (by decide)).trans hval, fun hne => ?_⟩
  have hstage : (s.wr (wDpll n) DPLL_LPSTAT v.toNat).get (wDpll n) DPLL_LPSTAT_STAGE = v.toNat % 8 := by
    unfold State.get DPLL_LPSTAT_STAGE
    dsimp only
    rw [show (0x64 : Nat) = DPLL_LPSTAT from rfl, hval]
    simp [bitsOf]
  unfold State.lpstatWritten
  rw [hstage, if_pos hne]
  exact State.dpllEvent_evPending hwr.canon (e := 2) (by decide)

end

end Sys2Proof.Machine

/-!
PROOF. What the enable and the disable of a loop leave (R99).
-/

namespace Sys2Proof.Machine

section
variable {s t : State} {r : Req} {n : Loop} {fs : List Fld}

/-! ### Enabling (R99) -/

/-- The loop's record replaced, by operations that leave its fields beside those of `fs`. -/
theorem State.LoopMoves.recorded (h : s.Inv) (ht : s.LoopMoves n fs t) (f : DpllSt → DpllSt) :
    (s.modDpll n fun _ => f (t.dpll n)).LoopMoves n fs (t.modDpll n f) :=
  ⟨ht.inv.modDpll _ _, ht.sys, ht.get, by rw [State.modDpll_dpll_same ht.inv, State.modDpll_dpll_same h]⟩

/-- What an enable clears: Φ, the step, ERR and the counts. -/
def State.enableCleared (s : State) (n : Nat) : State :=
  ((((s.setPhoff n 0).setPsrem n 0).putPair (wDpll n) DPLL_ERR_LO errInvalid).wr (wDpll n) DPLL_MISSCNT 0).wr (wDpll n) DPLL_UPDCNT 0

/-- The loop's record at an enable that holds the word `v`. -/
def DpllSt.enabledAt (x : DpllSt) (v : Int) : DpllSt :=
  { x with committed := false, granted := false, target := v, prog := v * progUnit, missRun := 0, stall := false, ff := 0,
           moving := 0, stepFrac := 0, seenSrc := 31, seen := 0, enables := x.enables + 1 }

/-- An enable up to the entry into the loop's state. -/
def State.enableStarted (s : State) (n : Nat) : State :=
  (((s.enableCleared n).modDpll n fun x => x.enabledAt (s.dco n)).lockRestart n).estClear n

theorem State.dpllEnabled_eq (n : Nat) : s.dpllEnabled n = (s.enableStarted n).enterLoop n := rfl

def dpllCountFields : List Fld := [.word DPLL_MISSCNT, .word DPLL_UPDCNT]

/-- What an enable writes before it restarts the lock windows. -/
def dpllClearFields : List Fld :=
  [.word DPLL_PHOFF_LO, .word DPLL_PHOFF_HI] ++ [.word DPLL_PSREM_LO, .word DPLL_PSREM_HI] ++ dpllErrFields ++ dpllCountFields

theorem State.LoopMoves.countsCleared (h : s.LoopMoves n fs t) (hs : dpllCountFields ⊆ fs := by decide) :
    s.LoopMoves n fs ((t.wr (wDpll n) DPLL_MISSCNT 0).wr (wDpll n) DPLL_UPDCNT 0) :=
  (h.wr _ (hs (by decide)) (by decide)).wr _ (hs (by decide)) (by decide)

theorem State.LoopMoves.psremPut (h : s.LoopMoves n fs t) (v : Int)
    (hs : [Fld.word DPLL_PSREM_LO, Fld.word DPLL_PSREM_HI] ⊆ fs := by decide) : s.LoopMoves n fs (t.setPsrem n v) :=
  h.putPair _ (hs (by decide)) (hs (by decide)) (by decide)

theorem State.LoopMoves.setPhoff (h : s.LoopMoves n fs t) (v : Int)
    (hs : [Fld.word DPLL_PHOFF_LO, Fld.word DPLL_PHOFF_HI] ⊆ fs := by decide) : s.LoopMoves n fs (t.setPhoff n v) :=
  h.putPair _ (hs (by decide)) (hs (by decide)) (by decide)

theorem State.LoopMoves.enableCleared (h : s.LoopMoves n fs t) (hs : dpllClearFields ⊆ fs := by decide) :
    s.LoopMoves n fs (t.enableCleared n) :=
  (((h.setPhoff 0 fun _ hf => hs (List.mem_append_left _ (List.mem_append_left _ (List.mem_append_left _ hf)))).psremPut 0
    fun _ hf => hs (List.mem_append_left _ (List.mem_append_left _ (List.mem_append_right _ hf)))).putErr errInvalid
    fun _ hf => hs (List.mem_append_left _ (List.mem_append_right _ hf))).countsCleared fun _ hf => hs (List.mem_append_right _ hf)

theorem State.setPhoff_phoff (h : s.Canon) : (s.setPhoff n 0).phoff n = 0 := by
  unfold State.phoff State.setPhoff
  rw [State.pair_putPair_signed h (by decide) _ _ (by decide)]
  rfl

theorem State.putErr_pair (h : s.Canon) : (s.putPair (wDpll n) DPLL_ERR_LO errInvalid).pair (wDpll n) DPLL_ERR_LO = errInvalid :=
  (State.pair_putPair h _ _ _ (by decide)).trans (Nat.mod_eq_of_lt (by decide))

/-- Each register cleared stays so while the next ones are. -/
theorem State.enableCleared_spec (h : s.Inv) :
    (s.enableCleared n).phoff n = 0 ∧ (s.enableCleared n).psrem n = 0 ∧
      (s.enableCleared n).pair (wDpll n) DPLL_ERR_LO = errInvalid ∧ (s.enableCleared n).rn (wDpll n) DPLL_MISSCNT = 0 ∧
      (s.enableCleared n).rn (wDpll n) DPLL_UPDCNT = 0 := by
  have hphoff := (State.LoopMoves.refl (n := n) (fs := [.word DPLL_PHOFF_LO, .word DPLL_PHOFF_HI]) h).setPhoff 0
  have hpsrem := (State.LoopMoves.refl (n := n) (fs := [.word DPLL_PSREM_LO, .word DPLL_PSREM_HI]) hphoff.inv).psremPut 0
  have herr := (State.LoopMoves.refl (n := n) (fs := dpllErrFields) hpsrem.inv).putErr errInvalid
  have hmiss := (State.LoopMoves.refl (n := n) (fs := dpllCountFields) herr.inv).wr (off := DPLL_MISSCNT) 0 (by decide) (by decide)
  have hafterPhoff := (((State.LoopMoves.refl (n := n) (fs := [.word DPLL_PSREM_LO, .word DPLL_PSREM_HI] ++ dpllErrFields ++
    dpllCountFields) hphoff.inv).psremPut 0).putErr errInvalid).countsCleared
  have hafterPsrem := ((State.LoopMoves.refl (n := n) (fs := dpllErrFields ++ dpllCountFields) hpsrem.inv).putErr
    errInvalid).countsCleared
  have hafterErr := (State.LoopMoves.refl (n := n) (fs := dpllCountFields) herr.inv).countsCleared
  have hafterMiss := (State.LoopMoves.refl (n := n) (fs := [.word DPLL_UPDCNT]) hmiss.inv).wr (off := DPLL_UPDCNT) 0 (by decide)
    (by decide)
  refine ⟨hafterPhoff.phoff.trans (State.setPhoff_phoff h.canon),
    hafterPsrem.psrem.trans (State.setPsrem_psrem hphoff.inv.canon (by decide) (by decide)),
    (hafterErr.pair _ (by decide)).trans (State.putErr_pair hpsrem.inv.canon),
    (hafterMiss.rn _ (by decide)).trans (State.rn_wr_same _ herr.inv.canon _ _ _), State.rn_wr_same _ hmiss.inv.canon _ _ _⟩

/-- Up to the entry an enable leaves, beside the loop's record, what it does not clear. -/
theorem State.enableStarted_moves (h : s.Inv) :
    (s.modDpll n fun _ => ((s.enableCleared n).dpll n).enabledAt (s.dco n)).LoopMoves n (dpllClearFields ++ dpllLockFields)
      (s.enableStarted n) :=
  ((State.LoopMoves.recorded h (State.LoopMoves.refl h).enableCleared (·.enabledAt (s.dco n))).lockRestart).estClear n

/-- After its start an enable writes the loop's state. -/
theorem State.dpllEnabled_moves (h : s.Inv) : (s.enableStarted n).LoopMoves n dpllStateFields (s.dpllEnabled n) := by
  rw [State.dpllEnabled_eq]
  exact (State.LoopMoves.refl (State.enableStarted_moves h).inv).enterLoop

theorem State.enableStarted_spec (h : s.Inv) :
    (s.enableStarted n).phoff n = 0 ∧ (s.enableStarted n).psrem n = 0 ∧
      (s.enableStarted n).pair (wDpll n) DPLL_ERR_LO = errInvalid ∧ (s.enableStarted n).rn (wDpll n) DPLL_MISSCNT = 0 ∧
      (s.enableStarted n).rn (wDpll n) DPLL_UPDCNT = 0 ∧ (s.enableStarted n).Unlocked n := by
  obtain ⟨hphoff, hpsrem, herr, hmiss, hupd⟩ := State.enableCleared_spec (n := n) h
  have hnoted := ((State.LoopMoves.refl (n := n) (fs := dpllClearFields) h).enableCleared.inv).modDpll n
    (·.enabledAt (s.dco n))
  have hm := ((State.LoopMoves.refl (n := n) (fs := dpllLockFields) hnoted).lockRestart).estClear n
  have hu := ((State.LoopMoves.refl (n := n) (fs := dpllLockFields) hnoted).lockRestart).inv
  exact ⟨hm.phoff.trans hphoff, hm.psrem.trans hpsrem, (hm.pair _ (by decide)).trans herr, (hm.rn _ (by decide)).trans hmiss,
    (hm.rn _ (by decide)).trans hupd,
    ((State.LoopMoves.refl (fs := []) hu).estClear n).unlocked (State.lockRestart_unlocked hnoted)⟩

theorem State.loopState_bivouac (hf : (s.dpll n).frozen = false) (hon : s.dpllOn n = true) (ht : s.tied n = false)
    (hst : (s.dpll n).stall = false) (hsel : s.selSt n = 0) : s.loopState n = 3 := by
  simp [State.loopState, hf, hon, ht, hst, hsel]

/-- R99: an enabled loop that is neither frozen nor tied enters TRACK or BIVOUAC by its selector. -/
theorem State.dpllEnabled_loopst (h : s.Inv) (hon : s.dpllOn n = true) (hf : (s.dpll n).frozen = false) (ht : s.tied n = false) :
    (s.selMode n ≠ 2 → s.selSt n = 3 → (s.dpllEnabled n).loopst n = 1) ∧ (s.selSt n = 0 → (s.dpllEnabled n).loopst n = 3) := by
  have hm := State.enableStarted_moves (n := n) h
  have hc := (State.LoopMoves.refl (n := n) (fs := dpllClearFields) h).enableCleared
  have hrec := State.modDpll_dpll_same h n fun _ => ((s.enableCleared n).dpll n).enabledAt (s.dco n)
  have hf' : ((s.enableStarted n).dpll n).frozen = false :=
    hm.frozen.trans ((congrArg DpllSt.frozen hrec).trans (hc.frozen.trans hf))
  have hst' : ((s.enableStarted n).dpll n).stall = false := hm.stall.trans (congrArg DpllSt.stall hrec)
  have henter : (s.dpllEnabled n).loopst n = (s.enableStarted n).loopState n := State.enterLoop_loopst hm.inv
  refine ⟨fun hmode hsel => henter.trans (State.loopState_track hf' (hm.dpllOn.trans hon) (hm.tied.trans ht) hst'
    (hm.selSt.trans hsel) ?_), fun hsel => henter.trans (State.loopState_bivouac hf' (hm.dpllOn.trans hon) (hm.tied.trans ht) hst'
    (hm.selSt.trans hsel))⟩
  rw [hm.selMode]
  exact hmode

/-! ### Disabling (R99) -/

def dpllPhoffFields : List Fld := [.word DPLL_PHOFF_LO, .word DPLL_PHOFF_HI]

theorem State.LoopMoves.settleMove (h : s.LoopMoves n fs t) (hs : dpllPhoffFields ⊆ fs := by decide) :
    s.LoopMoves n fs (t.settleMove n) := (h.setPhoff _ hs).modDpll

/-- The loop's record at a disable. -/
def DpllSt.disabled (x : DpllSt) : DpllSt := { x with stall := false, committed := false }

theorem DpllSt.disabled_frozen (x : DpllSt) : x.disabled.frozen = x.frozen := rfl

/-- A disable up to the entry into OFF. -/
def State.disableStarted (s : State) (n : Nat) : State := ((s.settleMove n).stepAbort n 3).modDpll n DpllSt.disabled

theorem State.dpllDisabled_eq (n : Nat) : s.dpllDisabled n =
    (((s.disableStarted n).enterLoop n).putPair (wDpll n) DPLL_ERR_LO errInvalid).estClear n := rfl

theorem State.loopState_off (hf : (s.dpll n).frozen = false) (hon : s.dpllOn n = false) : s.loopState n = 0 := by
  simp [State.loopState, hf, hon]

theorem State.disableStarted_moves (h : s.Inv) :
    (s.modDpll n fun _ => (((s.settleMove n).stepAbort n 3).dpll n).disabled).LoopMoves n (dpllPhoffFields ++ dpllStepFields)
      (s.disableStarted n) :=
  State.LoopMoves.recorded h (((State.LoopMoves.refl h).settleMove).stepAbort 3) DpllSt.disabled

theorem State.disableStarted_psrem (h : s.Inv) : (s.disableStarted n).psrem n = 0 :=
  (congrArg (toSigned 48) (State.modDpll_pair _ _ _ _)).trans
    (State.stepAbort_psrem ((State.LoopMoves.refl (n := n) (fs := dpllPhoffFields) h).settleMove).inv (by decide))

theorem State.disableStarted_loopState (h : s.Inv) (hon : s.dpllOn n = false) (hf : (s.dpll n).frozen = false) :
    (s.disableStarted n).loopState n = 0 := by
  have hm := State.disableStarted_moves (n := n) h
  have hab := ((State.LoopMoves.refl (n := n) (fs := dpllPhoffFields ++ dpllStepFields) h).settleMove).stepAbort 3
  refine State.loopState_off (hm.frozen.trans ?_) (hm.dpllOn.trans hon)
  rw [State.modDpll_dpll_same h, DpllSt.disabled_frozen, hab.frozen, hf]

/-- R99: a loop that is disabled and not frozen is OFF, without a step, its word held. -/
theorem State.dpllDisabled_spec (h : s.Inv) (hon : s.dpllOn n = false) (hf : (s.dpll n).frozen = false) :
    (s.dpllDisabled n).sys = s.sys ∧ (s.dpllDisabled n).dpllOn n = false ∧ (s.dpllDisabled n).loopst n = 0 ∧
      (s.dpllDisabled n).psrem n = 0 ∧ (s.dpllDisabled n).pair (wDpll n) DPLL_ERR_LO = errInvalid ∧
      (s.dpllDisabled n).dco n = s.dco n := by
  have hd := State.disableStarted_moves (n := n) h
  have hin := (State.LoopMoves.refl (n := n) (fs := dpllStateFields) hd.inv).enterLoop
  have hput := (State.LoopMoves.refl (n := n) (fs := dpllErrFields) hin.inv).putErr errInvalid
  have herr := hput.estClear n
  have hclear := (State.LoopMoves.refl (n := n) (fs := []) hput.inv).estClear n
  rw [State.dpllDisabled_eq]
  exact ⟨herr.sys.trans (hin.sys.trans hd.sys), herr.dpllOn.trans (hin.dpllOn.trans (hd.dpllOn.trans hon)),
    herr.loopst.trans ((State.enterLoop_loopst hd.inv).trans (State.disableStarted_loopState h hon hf)),
    herr.psrem.trans (hin.psrem.trans (State.disableStarted_psrem h)),
    (hclear.pair _ (by decide)).trans (State.putErr_pair hin.inv.canon), herr.dco.trans (hin.dco.trans hd.dco)⟩

end

end Sys2Proof.Machine

/-!
PROOF. Writes of a loop's CTL (R95, R96, R99), TIED, and O33.
-/

namespace Sys2Proof.Machine

section
variable {s t : State} {r : Req} {n : Loop} {fs : List Fld}

/-! ### CTL bit by bit -/

theorem State.flag_bit (s : State) (w off b : Nat) : s.flag w ⟨off, b, 1⟩ = bitOf (s.rn w off) b := by
  have hlt := bitsOf_lt (s.rn w off) b 1
  have hbit : (bitsOf (s.rn w off) b 1 != 0) = decide (bitsOf (s.rn w off) b 1 = 1) := by
    rw [Bool.eq_iff_iff, bne_iff_ne, decide_eq_true_iff]
    omega
  exact hbit

theorem State.bitOf_rn_wr (h : s.Canon) (w off v : Nat) {b : Nat} (hb : b < 32) : bitOf ((s.wr w off v).rn w off) b = bitOf v b := by
  rw [State.rn_wr_same s h, bitOf_eq_testBit, bitOf_eq_testBit, Nat.testBit_mod_two_pow, decide_eq_true hb, Bool.true_and]

/-- DPLL0's TIED turned from `old` to `now` (R95). -/
def State.tieTurned (s : State) (n now old : Nat) : State :=
  if n ≠ 0 then s
  else if bitOf now 1 ∧ ¬ bitOf old 1 then s.tiedSet
  else if bitOf old 1 ∧ ¬ bitOf now 1 then s.tiedCleared
  else s

theorem State.tieTurned_same {now old : Nat} (h : n.val = 0 → bitOf now 1 = bitOf old 1) : s.tieTurned n now old = s := by
  unfold State.tieTurned
  by_cases hn : n.val = 0
  · rw [if_neg (not_not_intro hn), h hn, if_neg fun hb => hb.2 hb.1, if_neg fun hb => hb.2 hb.1]
  · exact if_pos hn

theorem State.dpllWritten_ctl (old : Nat) : s.dpllWritten r n DPLL_CTL old =
    (if rises old (s.rn (wDpll n) DPLL_CTL) then s.dpllEnabled n
      else if rises (s.rn (wDpll n) DPLL_CTL) old then s.dpllDisabled n else s).tieTurned n (s.rn (wDpll n) DPLL_CTL) old := by
  unfold State.dpllWritten
  rw [if_pos rfl]
  rfl

theorem rises_iff (old now : Nat) : rises old now = true ↔ bitOf old 0 = false ∧ bitOf now 0 = true := by
  simp [rises]

/-- CTL holds the value `v`. -/
def State.ctlPut (s : State) (n v : Nat) : State := s.wr (wDpll n) DPLL_CTL v

theorem State.ctlPut_moves (h : s.Inv) (v : Nat) : s.LoopMoves n [.word DPLL_CTL] (s.ctlPut n v) :=
  (State.LoopMoves.refl h).wr v (by decide) (by decide)

theorem State.bitOf_ctlPut (h : s.Inv) (v : Nat) {b : Nat} (hb : b < 32) :
    bitOf ((s.ctlPut n v).rn (wDpll n) DPLL_CTL) b = bitOf v b := State.bitOf_rn_wr h.canon _ _ _ hb

theorem State.ctlPut_flag (h : s.Inv) (v : Nat) {b : Nat} (hb : b < 32) :
    (s.ctlPut n v).flag (wDpll n) ⟨DPLL_CTL, b, 1⟩ = bitOf v b :=
  (State.flag_bit _ _ _ _).trans (State.bitOf_ctlPut h v hb)

/-- The write that sets ENABLE with TIED left as it is. -/
theorem State.ctlPut_enable (h : s.Inv) {v old : Nat} (ho : bitOf old 0 = false) (hv : bitOf v 0 = true)
    (ht : n.val = 0 → bitOf v 1 = bitOf old 1) : (s.ctlPut n v).dpllWritten r n DPLL_CTL old = (s.ctlPut n v).dpllEnabled n := by
  rw [State.dpllWritten_ctl, if_pos ((rises_iff _ _).mpr ⟨ho, (State.bitOf_ctlPut h v (by decide)).trans hv⟩),
    State.tieTurned_same fun hn => (State.bitOf_ctlPut h v (by decide)).trans (ht hn)]

/-- The write that clears ENABLE with TIED left as it is. -/
theorem State.ctlPut_disable (h : s.Inv) {v old : Nat} (ho : bitOf old 0 = true) (hv : bitOf v 0 = false)
    (ht : n.val = 0 → bitOf v 1 = bitOf old 1) : (s.ctlPut n v).dpllWritten r n DPLL_CTL old = (s.ctlPut n v).dpllDisabled n := by
  have hnow := State.bitOf_ctlPut (n := n) h v (b := 0) (by decide)
  rw [State.dpllWritten_ctl, if_neg (by rw [rises_iff, ho]; exact fun hb => absurd hb.1 (by decide)),
    if_pos ((rises_iff _ _).mpr ⟨hnow.trans hv, ho⟩),
    State.tieTurned_same fun hn => (State.bitOf_ctlPut h v (by decide)).trans (ht hn)]

/-- A write that leaves ENABLE as it is turns TIED only. -/
theorem State.ctlPut_tie (h : s.Inv) {v old : Nat} (hv : bitOf v 0 = bitOf old 0) : (s.ctlPut n v).dpllWritten r n DPLL_CTL old =
    (s.ctlPut n v).tieTurned n ((s.ctlPut n v).rn (wDpll n) DPLL_CTL) old := by
  have hnow := (State.bitOf_ctlPut (n := n) h v (b := 0) (by decide)).trans hv
  rw [State.dpllWritten_ctl, if_neg (by rw [rises_iff, hnow]; exact fun hb => absurd (hb.1.symm.trans hb.2) (by decide)),
    if_neg (by rw [rises_iff, hnow]; exact fun hb => absurd (hb.1.symm.trans hb.2) (by decide))]

/-- R363: a write of CTL that the loop takes. -/
theorem State.doorWrite_ctl (hr : r ≠ .i2c) {v : Nat} (hb : (rises (s.rn (wDpll n) DPLL_CTL) v && s.budgetBad n) = false)
    (hw : (s.ctlPut n v).dpllWritten r n DPLL_CTL (s.rn (wDpll n) DPLL_CTL) = t) (hsoft : t.sys.soft = false) :
    ∃ o, s.doorWrite r (regAddr (wDpll n) DPLL_CTL) 15 v = t.emit o := by
  have hn : s.dpllRefuses r n DPLL_CTL (s.view (wDpll n) DPLL_CTL) v = none := by
    rw [State.view_dpllCtl]
    unfold State.dpllRefuses
    rw [if_pos rfl, hb, if_neg Bool.false_ne_true]
  have htake := State.regWrite_dpll_run (r := r) (regRow_dpll_run n DPLL_CTL (by decide)) (mayWrite_dpll (by decide))
    (stagedReg_dpll (by decide)) hn
  rw [State.view_dpllCtl] at htake
  exact State.doorWrite_dpll_ok hr (by decide) (by decide) (htake.trans (congrArg _ hw)) hsoft

/-- R96: an enable for which the period is too short for the image. -/
theorem State.regWrite_ctl_refused {v : Nat} (hb : (rises (s.rn (wDpll n) DPLL_CTL) v && s.budgetBad n) = true) :
    s.regWrite r (wDpll n) DPLL_CTL .plain v = (.wign, s.sts (wDpll n) DPLL_STS (2 ^ 5)) := by
  refine State.regWrite_dpll_run_refused (regRow_dpll_run n DPLL_CTL (by decide)) (mayWrite_dpll (by decide)) ?_
  rw [State.view_dpllCtl]
  unfold State.dpllRefuses
  rw [if_pos rfl, if_pos hb]
  rfl

/-! ### TIED (R95, R73) -/

/-- DPLL0 as TIED is cleared: the shadow takes the active word, TIED of SEL_STATE clears. -/
def State.untied (s : State) : State :=
  ((s.putPair (wDpll 0) DPLL_DCOW_LO (ofSigned 48 (s.dco 0))).modDpll 0 fun x =>
    { x with committed := false, target := s.dco 0, prog := s.dco 0 * progUnit }).putSelF 0 DPLL_SEL_STATE_TIED 0

theorem State.tiedCleared_eq : s.tiedCleared = (s.untied.selTrigger 0 .untie).selEval 0 := rfl

/-- What clearing TIED writes of DPLL0's registers. -/
def dpllUntieFields : List Fld := [.word DPLL_DCOW_LO, .word DPLL_DCOW_HI, DPLL_SEL_STATE_TIED] ++ dpllSelFields

theorem State.tiedSet_spec (h : s.Inv) : s.LoopMoves 0 [DPLL_SEL_STATE_TIED] s.tiedSet ∧
    s.tiedSet.get (wDpll 0) DPLL_SEL_STATE_TIED = 1 :=
  ⟨State.LoopMoves.putSelF (n := 0) (State.LoopMoves.refl h) 1 (by decide) rfl,
    State.putSelF_get (n := 0) h.canon DPLL_SEL_STATE_TIED 1 rfl (by decide)⟩

theorem State.tiedCleared_spec (h : s.Inv) : s.LoopMoves 0 dpllUntieFields s.tiedCleared ∧
    s.tiedCleared.get (wDpll 0) DPLL_SEL_STATE_TIED = 0 ∧ s.tiedCleared.dcow 0 = s.dco 0 := by
  have hshadow := (State.LoopMoves.refl (n := 0) (fs := dpllUntieFields) h).putPair (off := DPLL_DCOW_LO) (ofSigned 48 (s.dco 0))
    (by decide) (by decide) (by decide)
  have hnoted := hshadow.modDpll (f := fun x => { x with committed := false, target := s.dco 0, prog := s.dco 0 * progUnit })
  have huntied : s.LoopMoves 0 dpllUntieFields s.untied := hnoted.putSelF (f := DPLL_SEL_STATE_TIED) 0 (by decide) rfl
  have heval := ((State.LoopMoves.refl (n := 0) (fs := dpllSelFields) huntied.inv).modSel 0 fun x =>
    if x.trig = .untie ∨ x.trig = .unfreeze then x else { x with trig := .untie }).selEval
  have htie : s.untied.get (wDpll 0) DPLL_SEL_STATE_TIED = 0 :=
    State.putSelF_get (n := 0) hnoted.inv.canon DPLL_SEL_STATE_TIED 0 rfl (by decide)
  have hrange := toSigned_range (w := 48) (by decide) (s.pair (wDpll 0) DPLL_DCO_LO)
  have hword : s.untied.dcow 0 = s.dco 0 := by
    have hput := State.pair_putPair_signed h.canon (b := 48) (off := DPLL_DCOW_LO) (by decide) (wDpll 0) (s.dco 0) (by decide)
    have hsel := (State.LoopMoves.refl (n := 0) (fs := [DPLL_SEL_STATE_TIED]) hnoted.inv).putSelF (f := DPLL_SEL_STATE_TIED) 0
      (by decide) rfl
    refine hsel.dcow.trans ((congrArg (toSigned 48) ((State.modDpll_pair _ _ _ _).trans hput)).trans ?_)
    exact toSigned_ofSigned (by decide) hrange.1 hrange.2
  rw [State.tiedCleared_eq]
  exact ⟨(huntied.modSel 0 _).selEval, (heval.get _ (by decide)).trans htie, heval.dcow.trans hword⟩

/-! ### The commands on CTL -/

/-- R96: the enable refused. -/
theorem State.wrFld_enable_refused (hs : s.Ready) (hr : r ≠ .i2c) (v : Word) (hon : s.flag (wDpll n) DPLL_CTL_ENABLE = false)
    (hb : 285 * s.uper n < s.get (W_ENG + 1 + n) ENG_BOUND_V) : ∃ (t : State) (o : Output),
      s.wrFld r (wDpll n) DPLL_CTL_ENABLE 1 v = t.emit o ∧ t.flag (wDpll n) DPLL_CTL_ENABLE = false ∧
        bitOf (t.rn (wDpll n) DPLL_STS) 5 = true := by
  have hrise : rises (s.rn (wDpll n) DPLL_CTL) (putBits v.toNat 0 1 1) = true :=
    (rises_iff _ _).mpr ⟨(State.flag_bit s _ _ _).symm.trans hon, bitOf_putBits_one _ _ _⟩
  have hbad : s.budgetBad n = true := decide_eq_true hb
  obtain ⟨t, hdoor, hm, hsts⟩ := State.doorWrite_dpll_noted hs hr (by decide) (by decide) (by decide)
    (State.regWrite_ctl_refused (r := r) (Bool.and_eq_true_iff.mpr ⟨hrise, hbad⟩))
  exact ⟨t, _, hdoor, (hm.flag _ (by decide)).trans hon, hsts⟩

/-- R99: the enable taken. -/
theorem State.wrFld_enable (hs : s.Ready) (hr : r ≠ .i2c) (v : Word) (hon : s.flag (wDpll n) DPLL_CTL_ENABLE = false)
    (hb : s.get (W_ENG + 1 + n) ENG_BOUND_V ≤ 285 * s.uper n)
    (ht : n.val = 0 → v.getLsbD 1 = false ∧ s.flag W_DPLL DPLL_CTL_TIED = false) :
    ∃ o, s.wrFld r (wDpll n) DPLL_CTL_ENABLE 1 v = ((s.ctlPut n (putBits v.toNat 0 1 1)).dpllEnabled n).emit o := by
  have hbad : s.budgetBad n = false := decide_eq_false (by omega)
  have htie (hn : n.val = 0) : bitOf (putBits v.toNat 0 1 1) 1 = bitOf (s.rn (wDpll n) DPLL_CTL) 1 := by
    obtain ⟨hv, hold⟩ := ht hn
    have hw : wDpll n = W_DPLL := by rw [hn]; rfl
    rw [bitOf_putBits_other _ _ _ _ _ (.inr (by decide)), bitOf_toNat, hv, hw]
    exact hold.symm.trans (State.flag_bit s _ _ _)
  have hput := State.ctlPut_moves (n := n) hs.1 (putBits v.toNat 0 1 1)
  refine State.doorWrite_ctl hr (by rw [hbad, Bool.and_false])
    (State.ctlPut_enable hs.1 ((State.flag_bit s _ _ _).symm.trans hon) (bitOf_putBits_one _ _ _) htie) ?_
  rw [(State.dpllEnabled_moves hput.inv).sys, (State.enableStarted_moves hput.inv).sys]
  exact hput.sys ▸ hs.2.1

/-- R99: the disable. -/
theorem State.wrFld_disable (hs : s.Ready) (hr : r ≠ .i2c) (v : Word) (hf : (s.dpll n).frozen = false)
    (hon : s.flag (wDpll n) DPLL_CTL_ENABLE = true) (ht : n.val = 0 → v.getLsbD 1 = s.flag W_DPLL DPLL_CTL_TIED) :
    ∃ o, s.wrFld r (wDpll n) DPLL_CTL_ENABLE 0 v = ((s.ctlPut n (putBits v.toNat 0 1 0)).dpllDisabled n).emit o := by
  have hoff : bitOf (putBits v.toNat 0 1 0) 0 = false := bitOf_putBits_one _ _ _
  have hold : bitOf (s.rn (wDpll n) DPLL_CTL) 0 = true := (State.flag_bit s _ _ _).symm.trans hon
  have hrise : (rises (s.rn (wDpll n) DPLL_CTL) (putBits v.toNat 0 1 0) && s.budgetBad n) = false := by
    unfold rises
    rw [hoff, Bool.and_false, Bool.false_and]
  have htie (hn : n.val = 0) : bitOf (putBits v.toNat 0 1 0) 1 = bitOf (s.rn (wDpll n) DPLL_CTL) 1 := by
    have hw : wDpll n = W_DPLL := by rw [hn]; rfl
    rw [bitOf_putBits_other _ _ _ _ _ (.inr (by decide)), bitOf_toNat, ht hn, hw]
    exact State.flag_bit s _ _ _
  have hput := State.ctlPut_moves (n := n) hs.1 (putBits v.toNat 0 1 0)
  have hdis := State.dpllDisabled_spec (n := n) hput.inv ((State.ctlPut_flag hs.1 _ (by decide)).trans hoff) (hput.frozen.trans hf)
  exact State.doorWrite_ctl hr hrise (State.ctlPut_disable hs.1 hold hoff htie)
    (hdis.1.trans hput.sys ▸ hs.2.1)

/-- A write of DPLL0's CTL that keeps ENABLE turns TIED. -/
theorem State.wrFld_tied (hs : s.Ready) (hr : r ≠ .i2c) (v : Word) (x : Nat) (hon : s.flag W_DPLL DPLL_CTL_ENABLE = v.getLsbD 0)
    (hw : (s.ctlPut 0 (putBits v.toNat 1 1 x)).tieTurned 0 ((s.ctlPut 0 (putBits v.toNat 1 1 x)).rn (wDpll 0) DPLL_CTL)
      (s.rn (wDpll 0) DPLL_CTL) = t) (hsoft : t.sys.soft = false) :
    ∃ o, s.wrFld r (wDpll 0) DPLL_CTL_TIED x v = t.emit o := by
  have hkeep : bitOf (putBits v.toNat 1 1 x) 0 = bitOf (s.rn (wDpll (0 : Loop)) DPLL_CTL) 0 := by
    rw [bitOf_putBits_other _ _ _ _ _ (.inl (by decide)), bitOf_toNat, ← hon]
    exact State.flag_bit s _ _ _
  have hrise : (rises (s.rn (wDpll (0 : Loop)) DPLL_CTL) (putBits v.toNat 1 1 x) && s.budgetBad (0 : Loop)) = false := by
    unfold rises
    rw [hkeep, Bool.not_and_self, Bool.false_and]
  exact State.doorWrite_ctl (n := 0) hr hrise ((State.ctlPut_tie (n := 0) hs.1 hkeep).trans hw) hsoft

/-- What a loop shows after its enable (R99). -/
theorem State.ctlPut_dpllEnabled_spec (h : s.Inv) (v : Nat) (hf : (s.dpll n).frozen = false) (hv : bitOf v 0 = true)
    (ht : n.val = 0 → bitOf v 1 = false) :
    let t := (s.ctlPut n v).dpllEnabled n
    t.flag (wDpll n) DPLL_CTL_ENABLE = true ∧ t.phoff n = 0 ∧ t.psrem n = 0 ∧ t.pair (wDpll n) DPLL_ERR_LO = errInvalid ∧
      t.rn (wDpll n) DPLL_MISSCNT = 0 ∧ t.rn (wDpll n) DPLL_UPDCNT = 0 ∧ t.flag (wDpll n) DPLL_STATE_FLOCK = false ∧
      t.flag (wDpll n) DPLL_STATE_PLOCK = false ∧ t.dco n = s.dco n ∧ (s.selMode n ≠ 2 → s.selSt n = 3 → t.loopst n = 1) ∧
      (s.selSt n = 0 → t.loopst n = 3) := by
  have hput := State.ctlPut_moves (n := n) h v
  have hon : (s.ctlPut n v).dpllOn n = true := (State.ctlPut_flag h v (by decide)).trans hv
  have htied : (s.ctlPut n v).tied n = false := by
    unfold State.tied
    by_cases hn : n.val = 0
    · have hw : W_DPLL = wDpll n := by rw [hn]; rfl
      have hbit : (s.ctlPut n v).flag (wDpll n) DPLL_CTL_TIED = false := (State.ctlPut_flag h v (b := 1) (by decide)).trans (ht hn)
      rw [hw, hbit, Bool.and_false]
    · rw [beq_false_of_ne hn, Bool.false_and]
  have hstart := State.enableStarted_moves (n := n) hput.inv
  have hend := State.dpllEnabled_moves (n := n) hput.inv
  obtain ⟨hphoff, hpsrem, herr, hmiss, hupd, hunl⟩ := State.enableStarted_spec (n := n) hput.inv
  obtain ⟨hflock, hplock⟩ := State.enterLoop_unlocked hstart.inv hunl
  obtain ⟨htrack, hbiv⟩ := State.dpllEnabled_loopst (n := n) hput.inv hon (hput.frozen.trans hf) htied
  rw [hput.selMode, hput.selSt] at htrack
  rw [hput.selSt] at hbiv
  exact ⟨hend.dpllOn.trans (hstart.dpllOn.trans hon), hend.phoff.trans hphoff, hend.psrem.trans hpsrem,
    (hend.pair _ (by decide)).trans herr, (hend.rn _ (by decide)).trans hmiss, (hend.rn _ (by decide)).trans hupd, hflock, hplock,
    hend.dco.trans (hstart.dco.trans hput.dco), htrack, hbiv⟩

/-- R95: TIED set. -/
theorem State.wrFld_tiedSet (hs : s.Ready) (hr : r ≠ .i2c) (v : Word) (hon : s.flag W_DPLL DPLL_CTL_ENABLE = v.getLsbD 0)
    (hold : s.flag W_DPLL DPLL_CTL_TIED = false) : ∃ o, s.wrFld r (wDpll 0) DPLL_CTL_TIED 1 v =
      ((s.ctlPut 0 (putBits v.toNat 1 1 1)).tiedSet).emit o := by
  have hput := State.ctlPut_moves (n := 0) hs.1 (putBits v.toNat 1 1 1)
  have hnow : bitOf ((s.ctlPut 0 (putBits v.toNat 1 1 1)).rn (wDpll 0) DPLL_CTL) 1 = true :=
    (State.bitOf_ctlPut (n := 0) hs.1 _ (by decide)).trans (bitOf_putBits_one _ _ _)
  have hwas : bitOf (s.rn (wDpll 0) DPLL_CTL) 1 = false := (State.flag_bit s _ _ _).symm.trans hold
  refine State.wrFld_tied hs hr v 1 hon ?_ ((State.tiedSet_spec hput.inv).1.sys.trans hput.sys ▸ hs.2.1)
  unfold State.tieTurned
  rw [if_neg (not_not_intro rfl), if_pos ⟨hnow, by rw [hwas]; exact Bool.false_ne_true⟩]

/-- R95, R73: TIED cleared. -/
theorem State.wrFld_tiedClear (hs : s.Ready) (hr : r ≠ .i2c) (v : Word) (hon : s.flag W_DPLL DPLL_CTL_ENABLE = v.getLsbD 0)
    (hold : s.flag W_DPLL DPLL_CTL_TIED = true) : ∃ o, s.wrFld r (wDpll 0) DPLL_CTL_TIED 0 v =
      ((s.ctlPut 0 (putBits v.toNat 1 1 0)).tiedCleared).emit o := by
  have hput := State.ctlPut_moves (n := 0) hs.1 (putBits v.toNat 1 1 0)
  have hnow : bitOf ((s.ctlPut 0 (putBits v.toNat 1 1 0)).rn (wDpll 0) DPLL_CTL) 1 = false :=
    (State.bitOf_ctlPut (n := 0) hs.1 _ (by decide)).trans (bitOf_putBits_one _ _ _)
  have hwas : bitOf (s.rn (wDpll 0) DPLL_CTL) 1 = true := (State.flag_bit s _ _ _).symm.trans hold
  refine State.wrFld_tied hs hr v 0 hon ?_ ((State.tiedCleared_spec hput.inv).1.sys.trans hput.sys ▸ hs.2.1)
  unfold State.tieTurned
  rw [if_neg (not_not_intro rfl), if_neg (by rw [hnow]; exact fun hb => absurd hb.1 (by decide)),
    if_pos ⟨hwas, by rw [hnow]; exact Bool.false_ne_true⟩]

end

section
variable (s : State) (o : Output) (n w off : Nat)

/-! An answer leaves the loop (R354). -/

@[simp] theorem State.emit_dpll : (s.emit o).dpll n = s.dpll n := rfl
@[simp] theorem State.emit_pair : (s.emit o).pair w off = s.pair w off := rfl
@[simp] theorem State.emit_dco : (s.emit o).dco n = s.dco n := rfl
@[simp] theorem State.emit_dcow : (s.emit o).dcow n = s.dcow n := rfl
@[simp] theorem State.emit_psrem : (s.emit o).psrem n = s.psrem n := rfl
@[simp] theorem State.emit_phoff : (s.emit o).phoff n = s.phoff n := rfl
@[simp] theorem State.emit_loopst : (s.emit o).loopst n = s.loopst n := rfl

end

section
variable {s : State} {r : Req} {n : Loop}

/-! ### The clauses of O33 -/

theorem dcowCommit_takes (hs : s.Ready) (hf : (s.dpll n).frozen = false) (v : Word) : s.To (.dcowCommit (.eng (1 + n)) n v) fun t =>
    (t.dpll n).committed = true ∧ (t.dpll n).granted = true ∧ t.pair (wDpll n) DPLL_DCOW_LO =
      s.stagedVal (.eng (1 + n)) (wDpll n) DPLL_DCOW_LO + v.toNat * 2 ^ 32 ∧ t.dco n = s.dco n := by
  refine .of_emit ((State.wrReg_dcow hs hf v).imp fun _ => congrArg Host.Outcome.next) fun _ => ?_
  simp only [State.emit_dpll, State.emit_pair, State.emit_dco]
  exact State.dcowCommit_spec hs.1 v

theorem howordCommit_takes (hs : s.Ready) (hr : r ≠ .i2c) (hf : (s.dpll n).frozen = false) (v : Word) :
    s.To (.howordCommit r n v) fun t => (t.dpll n).tw = some s.tb.c ∧
      t.pair (wDpll n) DPLL_HOWORD_LO = s.stagedVal r (wDpll n) DPLL_HOWORD_LO + v.toNat * 2 ^ 32 := by
  refine .of_emit ((State.wrReg_howord hs hr hf v).imp fun _ => congrArg Host.Outcome.next) fun _ => ?_
  simp only [State.emit_dpll, State.emit_pair]
  exact State.howordCommit_spec hs.1 v

theorem phaseStep_takes (hs : s.Ready) (hr : r ≠ .i2c) (hf : (s.dpll n).frozen = false) (v : Word)
    (hon : s.flag (wDpll n) DPLL_CTL_ENABLE = true) (hlo : -2 ^ 47 ≤ s.psrem n + s.stepAsked r n v.toNat)
    (hhi : s.psrem n + s.stepAsked r n v.toNat < 2 ^ 47) :
    s.To (.phaseStepCommand r n v) fun t => t.psrem n = s.psrem n + s.stepAsked r n v.toNat := by
  have href : s.pstepRefused n (s.stepAsked r n v.toNat) = false := by
    have hon' : s.dpllOn n = true := hon
    unfold State.pstepRefused
    dsimp only
    rw [hon', hf, decide_eq_false (not_or.mpr ⟨not_lt.mpr hlo, not_le.mpr hhi⟩)]
    rfl
  refine .of_emit ((State.wrReg_pstep hs hr v href).imp fun _ => congrArg Host.Outcome.next) fun _ => ?_
  rw [State.emit_psrem]
  exact State.pstepWrite_psrem hs.1 hlo hhi

theorem phaseStep_refused (hs : s.Ready) (hr : r ≠ .i2c) (v : Word)
    (href : s.flag (wDpll n) DPLL_CTL_ENABLE = false ∨ s.psrem n + s.stepAsked r n v.toNat < -2 ^ 47 ∨
      2 ^ 47 ≤ s.psrem n + s.stepAsked r n v.toNat) :
    s.To (.phaseStepCommand r n v) fun t => t.psrem n = s.psrem n ∧ bitOf (t.rn (wDpll n) DPLL_STS) 4 = true ∧
      t.Answered r (regAddr (wDpll n) DPLL_PSTEP_HI) .wign v := by
  have hbad : s.pstepRefused n (s.stepAsked r n v.toNat) = true := by
    unfold State.pstepRefused
    dsimp only
    rcases href with hoff | hout
    · have hoff' : s.dpllOn n = false := hoff
      rw [hoff', Bool.not_false, Bool.or_true, Bool.true_or]
    · rw [decide_eq_true hout, Bool.true_or, Bool.true_or]
  obtain ⟨t, hdoor, hm, hsts⟩ := State.doorWrite_dpll_noted hs hr (by decide) (by decide) (by decide)
    (State.regWrite_pstepRef (r := r) v.toNat hbad)
  refine ⟨_, congrArg Host.Outcome.next hdoor, ?_, hsts, ?_⟩
  · rw [State.emit_psrem]
    exact hm.psrem
  · unfold State.Answered
    rw [State.emit_out, List.getLast?_append, BitVec.ofNat_toNat, BitVec.setWidth_eq]
    rfl

/-- R91: a step in progress ends with its cause and DPLL_PSTEP. -/
theorem State.stepAbort_spec (h : s.Inv) {cause : Nat} (hc : cause < 256) (hne : s.psrem n ≠ 0) :
    (s.stepAbort n cause).get (wDpll n) DPLL_STS_PSCAUSE = cause ∧
      (s.stepAbort n cause).evPending (evNo 5 (8 * n + 7)) = true := by
  obtain ⟨-, hcause, hev⟩ := State.stepEnd_spec (n := n) h hc
  have hend : s.stepAbort n cause = s.stepEnd n cause := if_neg hne
  rw [hend]
  exact ⟨hcause, hev⟩

theorem psabort_ends (hs : s.Ready) (hr : r ≠ .i2c) (v : Word) : s.To (.psabort r n v) fun t => t.psrem n = 0 ∧
    (s.psrem n ≠ 0 → t.get (wDpll n) DPLL_STS_PSCAUSE = 1 ∧ t.evPending (evNo 5 (8 * n + 7)) = true) := by
  refine .of_emit ((State.wrFld_psabort hs hr v).imp fun _ => congrArg Host.Outcome.next) fun _ => ?_
  rw [State.emit_psrem, State.emit_get, State.emit_evPending]
  exact ⟨State.stepAbort_psrem hs.1 (by decide), State.stepAbort_spec hs.1 (by decide)⟩

theorem lpstatWrite_takes (hs : s.Ready) (v : Word) : s.To (.lpstatWrite (.eng (1 + n)) n v) fun t =>
    t.rn (wDpll n) DPLL_LPSTAT = v.toNat ∧
      (v.toNat % 8 ≠ s.rn (wDpll n) DPLL_LPSTAT % 8 → t.evPending (evNo 5 (8 * n + 6)) = true) := by
  refine .of_emit ((State.wrReg_lpstat hs v).imp fun _ => congrArg Host.Outcome.next) fun _ => ?_
  simp only [State.emit_rn, State.emit_evPending]
  exact State.lpstatWritten_spec hs.1 v _

theorem dpllEnable_takes (hs : s.Ready) (hr : r ≠ .i2c) (hf : (s.dpll n).frozen = false) (v : Word)
    (hon : s.flag (wDpll n) DPLL_CTL_ENABLE = false) (hb : s.get (W_ENG + 1 + n) ENG_BOUND_V ≤ 285 * s.uper n)
    (ht : n.val = 0 → v.getLsbD 1 = false ∧ s.flag W_DPLL DPLL_CTL_TIED = false) : s.To (.dpllEnable r n v) fun t =>
      t.flag (wDpll n) DPLL_CTL_ENABLE = true ∧ t.phoff n = 0 ∧ t.psrem n = 0 ∧ t.pair (wDpll n) DPLL_ERR_LO = errInvalid ∧
        t.rn (wDpll n) DPLL_MISSCNT = 0 ∧ t.rn (wDpll n) DPLL_UPDCNT = 0 ∧ t.flag (wDpll n) DPLL_STATE_FLOCK = false ∧
        t.flag (wDpll n) DPLL_STATE_PLOCK = false ∧ t.dco n = s.dco n ∧
        (s.selMode n ≠ 2 → s.selSt n = 3 → t.loopst n = 1) ∧ (s.selSt n = 0 → t.loopst n = 3) := by
  refine .of_emit ((State.wrFld_enable hs hr v hon hb ht).imp fun _ => congrArg Host.Outcome.next) fun _ => ?_
  simp only [State.emit_flag, State.emit_phoff, State.emit_psrem, State.emit_pair, State.emit_rn, State.emit_dco, State.emit_loopst]
  exact State.ctlPut_dpllEnabled_spec hs.1 _ hf (bitOf_putBits_one _ _ _) fun hn =>
    (bitOf_putBits_other _ _ _ _ _ (.inr (by decide))).trans ((bitOf_toNat _ _).trans (ht hn).1)

theorem dpllDisable_takes (hs : s.Ready) (hr : r ≠ .i2c) (hf : (s.dpll n).frozen = false) (v : Word)
    (hon : s.flag (wDpll n) DPLL_CTL_ENABLE = true) (ht : n.val = 0 → v.getLsbD 1 = s.flag W_DPLL DPLL_CTL_TIED) :
    s.To (.dpllDisable r n v) fun t => t.flag (wDpll n) DPLL_CTL_ENABLE = false ∧ t.loopst n = 0 ∧ t.psrem n = 0 ∧
      t.pair (wDpll n) DPLL_ERR_LO = errInvalid ∧ t.dco n = s.dco n := by
  have hput := State.ctlPut_moves (n := n) hs.1 (putBits v.toNat 0 1 0)
  obtain ⟨-, hoff, hstate, hpsrem, herr, hdco⟩ := State.dpllDisabled_spec (n := n) hput.inv
    ((State.ctlPut_flag hs.1 _ (by decide)).trans (bitOf_putBits_one _ _ _)) (hput.frozen.trans hf)
  refine .of_emit ((State.wrFld_disable hs hr v hf hon ht).imp fun _ => congrArg Host.Outcome.next) fun _ => ?_
  simp only [State.emit_flag, State.emit_psrem, State.emit_pair, State.emit_dco, State.emit_loopst]
  exact ⟨hoff, hstate, hpsrem, herr, hdco.trans hput.dco⟩

theorem tiedSet_takes (hs : s.Ready) (hr : r ≠ .i2c) (v : Word) (hon : s.flag W_DPLL DPLL_CTL_ENABLE = v.getLsbD 0)
    (hold : s.flag W_DPLL DPLL_CTL_TIED = false) : s.To (.tiedSet r v) fun t => t.flag W_DPLL DPLL_CTL_TIED = true ∧
      t.get W_DPLL DPLL_SEL_STATE_TIED = 1 ∧ t.dco 0 = s.dco 0 := by
  have hput := State.ctlPut_moves (n := 0) hs.1 (putBits v.toNat 1 1 1)
  have hflag := (State.ctlPut_flag (n := 0) hs.1 (putBits v.toNat 1 1 1) (b := 1) (by decide)).trans (bitOf_putBits_one _ _ _)
  obtain ⟨hm, htie⟩ := State.tiedSet_spec hput.inv
  refine .of_emit ((State.wrFld_tiedSet hs hr v hon hold).imp fun _ => congrArg Host.Outcome.next) fun _ => ?_
  simp only [State.emit_flag, State.emit_get, State.emit_dco]
  exact ⟨(hm.flag DPLL_CTL_TIED (by decide)).trans hflag, htie, hm.dco.trans hput.dco⟩

theorem tiedClear_takes (hs : s.Ready) (hr : r ≠ .i2c) (v : Word) (hon : s.flag W_DPLL DPLL_CTL_ENABLE = v.getLsbD 0)
    (hold : s.flag W_DPLL DPLL_CTL_TIED = true) : s.To (.tiedClear r v) fun t => t.flag W_DPLL DPLL_CTL_TIED = false ∧
      t.get W_DPLL DPLL_SEL_STATE_TIED = 0 ∧ t.dcow 0 = s.dco 0 ∧ t.dco 0 = s.dco 0 := by
  have hput := State.ctlPut_moves (n := 0) hs.1 (putBits v.toNat 1 1 0)
  have hflag := (State.ctlPut_flag (n := 0) hs.1 (putBits v.toNat 1 1 0) (b := 1) (by decide)).trans (bitOf_putBits_one _ _ _)
  obtain ⟨hm, htie, hdcow⟩ := State.tiedCleared_spec hput.inv
  refine .of_emit ((State.wrFld_tiedClear hs hr v hon hold).imp fun _ => congrArg Host.Outcome.next) fun _ => ?_
  simp only [State.emit_flag, State.emit_get, State.emit_dco, State.emit_dcow]
  exact ⟨(hm.flag DPLL_CTL_TIED (by decide)).trans hflag, htie, hdcow.trans hput.dco, hm.dco.trans hput.dco⟩

end

/-- Settles O33: each command is one write of the loop's window, which comes to an operation of the loop or to a refusal. -/
theorem loopCommands : Obligations.LoopCommands := by
  unfold Obligations.LoopCommands
  intro s r n v hs hr hf
  dsimp only
  rw [← State.stepAsked_eq]
  refine ⟨dcowCommit_takes hs hf v, howordCommit_takes hs hr hf v, phaseStep_takes hs hr hf v, phaseStep_refused hs hr v,
    psabort_ends hs hr v, lpstatWrite_takes hs v, fun hon hb => ?_, dpllEnable_takes hs hr hf v, dpllDisable_takes hs hr hf v,
    fun _ hon => ⟨tiedSet_takes hs hr v hon, tiedClear_takes hs hr v hon⟩⟩
  obtain ⟨t, o, hdoor, hflag, hsts⟩ := State.wrFld_enable_refused hs hr v hon hb
  exact ⟨_, congrArg Host.Outcome.next hdoor, hflag, hsts⟩

end Sys2Proof.Machine

/-!
PROOF. The oscillator model (chapter 5): the commit of a set and the evaluation that brings it into force, the thermistor's
readings, the learning samples and their reads, and the estimates while no model is learned.
-/

namespace Sys2Proof.Machine

section
variable {s : State} {r : Req}

/-! ### OSC's window -/

theorem regAddr_osc_ne {off off' : Nat} (h : off < 0x4000) (h' : off' < 0x4000) (hne : off ≠ off') :
    regAddr W_OSC off ≠ regAddr W_OSC off' := regAddr_ne h h' (.inr hne)

theorem State.wr_osc_evPending (off v : Nat) {e : Nat} (ho : off < 0x4000) (he : e < 512) :
    (s.wr W_OSC off v).evPending e = s.evPending e := State.wr_evPending _ _ _ _ (by decide) ho he

theorem State.putPair_osc_evPending (off v : Nat) {e : Nat} (ho : off + 4 < 0x4000) (he : e < 512) :
    (s.putPair W_OSC off v).evPending e = s.evPending e :=
  (State.wr_osc_evPending _ _ ho he).trans (State.wr_osc_evPending _ _ (by omega) he)

theorem State.Inv.setOsc (h : s.Inv) (x : OscSt) : (s.setOsc x).Inv := State.keeps_inv h (State.setOsc_keeps (State.keeps_refl s) x)

/-- An event of OSC changes its status and no other register of its window (R121). -/
theorem State.oscEvent_rn (m : Nat) {b off : Nat} (hb : b < 32) (ho : off < 0x4000) (hne : off ≠ OSC_STS) :
    ((s.sts W_OSC OSC_STS m).raise 12 b).rn W_OSC off = s.rn W_OSC off := by
  rw [State.raise_rn _ _ _ _ _ (by unfold evNo; omega) (by decide) (by decide) ho]
  exact State.rn_sts_other s _ _ _ _ _ (regAddr_osc_ne (by decide) ho hne.symm)

theorem State.oscEvent_evPending (h : s.Canon) (m : Nat) {b e : Nat} (hb : b < 32) (he : e < 512) :
    ((s.sts W_OSC OSC_STS m).raise 12 b).evPending e = (decide (e = evNo 12 b) || s.evPending e) := by
  rw [State.raise_evPending (State.sts_canon h _ _ _) _ _ _ (by unfold evNo; omega) he]
  exact congrArg _ (State.wr_osc_evPending _ _ (by decide) he)

/-! ### The commit of a set (R116) -/

/-- A write of OSC_GEN is taken whoever makes it. -/
theorem State.wrReg_oscGen (hs : s.Ready) (hr : r ≠ .i2c) (v : Word) :
    ∃ o, s.wrReg r W_OSC OSC_GEN v = ((s.wr W_OSC OSC_GEN v.toNat).oscGen).emit o := by
  have hw : s.regWrite r W_OSC OSC_GEN .plain v.toNat = (.ok, (s.wr W_OSC OSC_GEN v.toNat).oscGen) := by
    rw [State.regWrite_cmd (row := ⟨0x50, 1, 0, .cmd, 0xffff0000, 0⟩) (by decide) rfl (by decide) rfl rfl rfl rfl]
    rfl
  have hcore := s.coreWrite_reg (v := v.toNat) (inReach_of_ne_i2c hr true (regAddr W_OSC OSC_GEN)) (by decide) (by decide)
    (by decide)
  rw [hw, State.accRecord_ok] at hcore
  have hsoft : (s.wr W_OSC OSC_GEN v.toNat).oscGen.sys.soft = false := hs.2.1
  refine ⟨.answer r (regAddr W_OSC OSC_GEN) .ok (BitVec.ofNat 32 v.toNat), ?_⟩
  simp only [State.wrReg, State.doorWrite, State.busWrite, hcore, State.softResume_of hsoft]

/-- The write of OSC_GEN leaves the other shadows. -/
theorem State.oscShadows_wr_gen (v : Nat) :
    (s.wr W_OSC OSC_GEN v).oscShadows = { s.oscShadows with gen := (s.wr W_OSC OSC_GEN v).get W_OSC OSC_GEN_V } := by
  have hrn (off : Nat) (ho : off < 0x4000) (hne : off ≠ OSC_GEN) : (s.wr W_OSC OSC_GEN v).rn W_OSC off = s.rn W_OSC off :=
    State.rn_wr_other s _ _ _ _ _ (regAddr_osc_ne (by decide) ho hne.symm)
  have hstate : (s.wr W_OSC OSC_GEN v).get W_OSC OSC_LSTAT_LSTATE = s.get W_OSC OSC_LSTAT_LSTATE :=
    congrArg (bitsOf · 0 2) (hrn OSC_LSTAT (by decide) (by decide))
  unfold State.oscShadows State.pair State.ri
  rw [hstate]
  simp (disch := decide) only [hrn]

/-- R116: a write of OSC_GEN takes the shadows as the newest pending set. -/
theorem oscGenCommit_takes (hs : s.Ready) (hr : r ≠ .i2c) (v : Word) : s.To (.oscGenCommit r v) fun t =>
    t.rn W_OSC OSC_GEN = v.toNat ∧ t.osc.inForce = s.osc.inForce ∧
      ∃ y, t.osc.pend.head? = some (s.tb.c, y) ∧ y.y0 = toSigned 48 (s.pair W_OSC OSC_Y0_LO) ∧ y.age = s.ri W_OSC OSC_AGE ∧
        y.k1 = s.ri W_OSC OSC_K1 ∧ y.k2 = s.ri W_OSC OSC_K2 ∧ y.t0 = s.ri W_OSC OSC_T0 ∧ y.tref = s.rn W_OSC OSC_TREF := by
  refine .of_emit ((State.wrReg_oscGen hs hr v).imp fun _ => congrArg Host.Outcome.next) fun _ => ?_
  refine ⟨(State.rn_wr_same s hs.1.canon _ _ _).trans (Nat.mod_eq_of_lt v.isLt), rfl,
    (s.wr W_OSC OSC_GEN v.toNat).oscShadows, rfl, ?_⟩
  rw [State.oscShadows_wr_gen]
  exact ⟨rfl, rfl, rfl, rfl, rfl, rfl⟩

/-! ### The evaluation (R101, R116) -/

/-- Evaluation instant `i`, with the set that it brings into force, before ŷ is delivered. -/
def State.oscSetTaken (s : State) (i : Nat) : State := ((s.setOsc { s.osc with evalIdx := i }).oscTakeSet i).estMs

theorem State.oscEvaluate_off {i : Nat} (he : (s.oscSetTaken i).flag W_OSC OSC_CTL_EVAL = false) :
    s.oscEvaluate i = (s.oscSetTaken i).putPair W_OSC OSC_PRED_LO 0 := if_neg (ne_true_of_eq_false he)

theorem State.oscEvaluate_on {i : Nat} (he : (s.oscSetTaken i).flag W_OSC OSC_CTL_EVAL = true) : ∃ x : OscSt,
    x.inForce = (s.oscSetTaken i).osc.inForce ∧ x.pend = (s.oscSetTaken i).osc.pend ∧ s.oscEvaluate i =
      ((s.oscSetTaken i).putPair W_OSC OSC_PRED_LO (ofSigned 48 (yWord ((s.oscSetTaken i).yInt (i * msU))))).setOsc x := by
  refine ⟨_, ?_, ?_, if_pos he⟩
  · rfl
  · rfl

/-- The delivery of ŷ leaves the sets and the events. -/
theorem State.oscEvaluate_sets (i : Nat) : (s.oscEvaluate i).osc.inForce = (s.oscSetTaken i).osc.inForce ∧
    (s.oscEvaluate i).osc.pend = (s.oscSetTaken i).osc.pend ∧
    ∀ e, e < 512 → (s.oscEvaluate i).evPending e = (s.oscSetTaken i).evPending e := by
  cases he : (s.oscSetTaken i).flag W_OSC OSC_CTL_EVAL
  case false =>
    rw [State.oscEvaluate_off he]
    exact ⟨rfl, rfl, fun _ h => State.putPair_osc_evPending _ _ (by decide) h⟩
  case true =>
    obtain ⟨x, hx, hp, heq⟩ := State.oscEvaluate_on he
    rw [heq]
    exact ⟨hx, hp, fun _ h => State.putPair_osc_evPending _ _ (by decide) h⟩

/-- The set taken shows in OSC_STATE and the status alone. -/
theorem State.oscTakeSet_rn (i : Nat) {off : Nat} (ho : off < 0x4000) (hstate : off ≠ OSC_STATE) (hsts : off ≠ OSC_STS) :
    (s.oscTakeSet i).rn W_OSC off = s.rn W_OSC off := by
  have hput (u : State) (f : Fld) (v : Nat) (hf : f.off = OSC_STATE) : (u.put W_OSC f v).rn W_OSC off = u.rn W_OSC off :=
    State.rn_put_other u _ _ _ _ _ (by rw [hf]; exact regAddr_osc_ne (by decide) ho hstate.symm)
  unfold State.oscTakeSet
  split
  · rfl
  · dsimp only
    split
    · rw [State.oscEvent_rn _ (by decide) ho hsts, State.oscEvent_rn _ (by decide) ho hsts, hput _ _ _ rfl, hput _ _ _ rfl,
        State.setOsc_rn]
    · rw [State.oscEvent_rn _ (by decide) ho hsts, hput _ _ _ rfl, hput _ _ _ rfl, State.setOsc_rn]

theorem State.oscSetTaken_eval (i : Nat) : (s.oscSetTaken i).flag W_OSC OSC_CTL_EVAL = s.flag W_OSC OSC_CTL_EVAL := by
  have hrn := State.oscTakeSet_rn (s := s.setOsc { s.osc with evalIdx := i }) i (off := OSC_CTL) (by decide) (by decide) (by decide)
  exact congrArg (fun v => bitsOf v 0 1 != 0) hrn

theorem State.oscSetTaken_inv (h : s.Inv) (i : Nat) : (s.oscSetTaken i).Inv :=
  State.keeps_inv h (State.estMs_keeps (State.oscTakeSet_keeps (State.setOsc_keeps (State.keeps_refl s) _) i))

/-- R116, R121: the newest set comes into force if it was granted before the instant, with OSC_MODEL. -/
theorem State.oscTakeSet_newest (h : s.Canon) {i c : Nat} {y : OscSet} {l : List (Nat × OscSet)} (hp : s.osc.pend = (c, y) :: l)
    (hc : c < i * msU) : (s.oscTakeSet i).osc.inForce = y ∧
      (s.oscTakeSet i).osc.pend = s.osc.pend.filter (fun p => decide (i * msU ≤ p.1)) ∧
      (s.oscTakeSet i).evPending (evNo 12 24) = true := by
  have hfind : s.osc.pend.find? (fun p => decide (p.1 < i * msU)) = some (c, y) := by
    rw [hp]
    exact List.find?_cons_of_pos (decide_eq_true hc)
  have hmodel {u : State} (hu : u.Canon) : ((u.sts W_OSC OSC_STS 1).raise 12 24).evPending (evNo 12 24) = true := by
    rw [State.oscEvent_evPending hu _ (by decide) (by decide), decide_eq_true rfl, Bool.true_or]
  have hput := State.put_canon (State.put_canon (s := s.setOsc { s.osc with
    inForce := y, pend := s.osc.pend.filter (fun p => decide (i * msU ≤ p.1)) }) h W_OSC OSC_STATE_LSTATE y.lstate) W_OSC
    OSC_STATE_GENIN y.gen
  unfold State.oscTakeSet
  rw [hfind]
  dsimp only
  split
  · refine ⟨by simp, by simp, ?_⟩
    rw [State.oscEvent_evPending (State.raise_canon (State.sts_canon hput _ _ _) _ _) _ (by decide) (by decide), hmodel hput,
      Bool.or_true]
  · exact ⟨by simp, by simp, hmodel hput⟩

theorem State.oscTakeSet_of_none (i : Nat) (hp : s.osc.pend = []) : s.oscTakeSet i = s := by
  unfold State.oscTakeSet
  rw [hp]
  rfl

theorem State.oscSetTaken_of_none (i : Nat) (hp : s.osc.pend = []) :
    s.oscSetTaken i = (s.setOsc { s.osc with evalIdx := i }).estMs :=
  congrArg State.estMs (State.oscTakeSet_of_none (s := s.setOsc { s.osc with evalIdx := i }) i hp)

theorem exec_oscEvaluation (hs : s.Ready) (hd : s.osc.evalIdx < s.tb.c / msU) :
    exec .oscEvaluation s = .next (s.oscEvaluate (s.tb.c / msU)) :=
  congrArg Host.Outcome.next (if_pos (State.gridDue_of_lt hs hd))

/-- Without a temperature input ŷ is the offset with its ageing (R101, R102). -/
theorem State.yInt_untempered (c : Nat) (ht : s.tempOn = false) : s.yInt c = s.osc.inForce.y0 * 2 ^ 16 +
    quotFree (s.osc.inForce.age * ((c : Int) - s.osc.inForce.tref * secU)) secU := by
  unfold State.yInt
  rw [ht]
  exact add_zero _

/-- R116: the newest set granted before the instant comes into force. -/
theorem oscEvaluation_commits (hs : s.Ready) (hd : s.osc.evalIdx < s.tb.c / msU) {c : Nat} {y : OscSet} {l : List (Nat × OscSet)}
    (hp : s.osc.pend = (c, y) :: l) (hc : c < s.tb.c / msU * msU) : s.To .oscEvaluation fun t => t.osc.inForce = y ∧
      t.evPending (evNo 12 24) = true ∧ ∀ p ∈ t.osc.pend, s.tb.c / msU * msU ≤ p.1 := by
  refine ⟨_, exec_oscEvaluation hs hd, ?_⟩
  obtain ⟨hset, hpend, hev⟩ := State.oscEvaluate_sets (s := s) (s.tb.c / msU)
  obtain ⟨hy, hkept, hmodel⟩ := State.oscTakeSet_newest (s := s.setOsc { s.osc with evalIdx := s.tb.c / msU }) hs.1.canon hp hc
  refine ⟨hset.trans hy, (hev _ (by decide)).trans hmodel, fun p hm => ?_⟩
  rw [hpend] at hm
  have hm' : p ∈ s.osc.pend.filter (fun p => decide (s.tb.c / msU * msU ≤ p.1)) := hkept ▸ hm
  exact of_decide_eq_true (List.mem_filter.mp hm').2

theorem oscEvaluation_off (hs : s.Ready) (hd : s.osc.evalIdx < s.tb.c / msU) (he : s.flag W_OSC OSC_CTL_EVAL = false) :
    s.To .oscEvaluation fun t => t.pair W_OSC OSC_PRED_LO = 0 := by
  refine ⟨_, exec_oscEvaluation hs hd, ?_⟩
  rw [State.oscEvaluate_off ((State.oscSetTaken_eval _).trans he)]
  exact State.pair_putPair (State.oscSetTaken_inv hs.1 _).canon _ _ _ (by decide)

/-- R101: with EVAL = 1 and no temperature input the offset with its ageing is delivered. -/
theorem oscEvaluation_on (hs : s.Ready) (hd : s.osc.evalIdx < s.tb.c / msU) (he : s.flag W_OSC OSC_CTL_EVAL = true)
    (hp : s.osc.pend = []) (ht : s.tempOn = false) : s.To .oscEvaluation fun t => t.pair W_OSC OSC_PRED_LO =
      ofSigned 48 (satSigned 48 ((s.osc.inForce.y0 * 2 ^ 16 + quotFree (s.osc.inForce.age *
        (((s.tb.c / msU * msU : Nat) : Int) - s.osc.inForce.tref * secU)) secU + 2 ^ 15) / 2 ^ 16)) := by
  refine ⟨_, exec_oscEvaluation hs hd, ?_⟩
  generalize s.tb.c / msU = i
  obtain ⟨x, -, -, heq⟩ := State.oscEvaluate_on ((State.oscSetTaken_eval i).trans he)
  rw [heq, State.oscSetTaken_of_none i hp]
  refine (State.pair_putPair_signed (s := (s.setOsc { s.osc with evalIdx := i }).estMs) (b := 48) hs.1.canon (by decide) W_OSC _
    (by decide)).trans (congrArg (fun y => ofSigned 48 (yWord y)) ?_)
  exact State.yInt_untempered (s := (s.setOsc { s.osc with evalIdx := i }).estMs) _ ht

/-! ### The thermistor (R102, R103) -/

/-- What a reading adds to the sums of the learning interval leaves θ and the registers. -/
theorem State.tempSample_thermistor (code : Nat) (ht : s.tsel = 0) : ∃ x : OscSt,
    x.hasTheta = (s.tsReading code).osc.hasTheta ∧ s.tempSample code = (s.tsReading code).setOsc x := by
  unfold State.tempSample
  rw [if_pos ht]
  dsimp only
  split
  · refine ⟨_, ?_, rfl⟩
    rfl
  · exact ⟨(s.tsReading code).osc, rfl, rfl⟩

theorem exec_thermistorSample (hs : s.Ready) (code : BitVec 16) (hd : s.osc.tempIdx < s.tb.c / (10 * msU)) (ht : s.tsel = 0) :
    ∃ x y : OscSt, (x.hasTheta = ((s.setOsc y).tsReading code.toNat).osc.hasTheta) ∧
      exec (.thermistorSample code) s = .next (((s.setOsc y).tsReading code.toNat).setOsc x) := by
  have hexec : exec (.thermistorSample code) s =
      .next ((s.setOsc { s.osc with tempIdx := s.tb.c / (10 * msU) }).tempSample code.toNat) :=
    congrArg Host.Outcome.next (if_pos (State.gridDue_of_lt hs hd))
  obtain ⟨x, hx, heq⟩ := State.tempSample_thermistor (s := s.setOsc { s.osc with tempIdx := s.tb.c / (10 * msU) }) code.toNat ht
  exact ⟨x, _, hx, hexec.trans (congrArg Host.Outcome.next heq)⟩

/-- TSBAD set, with its event (R103). -/
def State.tsBadSet (s : State) : State := ((s.put W_OSC OSC_STATE_TSBAD 1).sts W_OSC OSC_STS 4).raise 12 26

theorem State.tsBadSet_spec (h : s.Canon) : s.tsBadSet.get W_OSC OSC_STATE_TSBAD = 1 ∧
    s.tsBadSet.rn W_OSC OSC_THETA = s.rn W_OSC OSC_THETA ∧ s.tsBadSet.evPending (evNo 12 26) = true := by
  unfold State.tsBadSet
  refine ⟨?_, ?_, ?_⟩
  · rw [State.get, State.oscEvent_rn _ (by decide) (by decide) (by decide)]
    exact State.get_put_same s h W_OSC OSC_STATE_TSBAD 1 (by decide)
  · rw [State.oscEvent_rn _ (by decide) (by decide) (by decide)]
    exact State.rn_put_other s _ _ _ _ _ (by decide)
  · rw [State.oscEvent_evPending (State.put_canon h _ _ _) _ (by decide) (by decide), decide_eq_true rfl, Bool.true_or]

/-- A reading outside the valid window shows in OSC_TRAW and, if it is the first, in TSBAD. -/
theorem State.tsReading_outside {code : Nat} (hv : tsValid code = false) : ∃ x y : OscSt, s.tsReading code =
    if s.flag W_OSC OSC_STATE_TSBAD then (s.wr W_OSC OSC_TRAW (ofSigned 32 (s.tsTemp code))).setOsc x
    else ((s.wr W_OSC OSC_TRAW (ofSigned 32 (s.tsTemp code))).setOsc x).tsBadSet.setOsc y := by
  unfold State.tsReading
  dsimp only
  rw [if_pos (ne_true_of_eq_false hv)]
  exact ⟨_, _, rfl⟩

/-- R103: a reading outside the valid window leaves TSBAD set and θ as it was. -/
theorem State.tsReading_invalid (h : s.Inv) {code : Nat} (hv : tsValid code = false) :
    (s.tsReading code).get W_OSC OSC_STATE_TSBAD = 1 ∧ (s.tsReading code).rn W_OSC OSC_THETA = s.rn W_OSC OSC_THETA ∧
      (s.flag W_OSC OSC_STATE_TSBAD = false → (s.tsReading code).evPending (evNo 12 26) = true) := by
  obtain ⟨x, y, heq⟩ := State.tsReading_outside (s := s) hv
  have htraw (off : Nat) (ho : off < 0x4000) (hne : off ≠ OSC_TRAW) :
      (s.wr W_OSC OSC_TRAW (ofSigned 32 (s.tsTemp code))).rn W_OSC off = s.rn W_OSC off :=
    State.rn_wr_other s _ _ _ _ _ (regAddr_osc_ne (by decide) ho hne.symm)
  rw [heq]
  cases hbad : s.flag W_OSC OSC_STATE_TSBAD
  case true =>
    have hone : s.get W_OSC OSC_STATE_TSBAD = 1 := by
      have hlt : s.get W_OSC OSC_STATE_TSBAD < 2 := bitsOf_lt _ 3 1
      have hne : s.get W_OSC OSC_STATE_TSBAD ≠ 0 := bne_iff_ne.mp hbad
      omega
    rw [if_pos rfl, State.setOsc_get, State.get_wr_other s _ _ _ _ _ (by decide), State.setOsc_rn, htraw _ (by decide) (by decide)]
    exact ⟨hone, rfl, nofun⟩
  case false =>
    obtain ⟨hset, htheta, hev⟩ := State.tsBadSet_spec (s := (s.wr W_OSC OSC_TRAW (ofSigned 32 (s.tsTemp code))).setOsc x)
      (State.wr_canon h.canon _ _ _)
    rw [if_neg Bool.false_ne_true, State.setOsc_get, State.setOsc_rn, htheta, State.setOsc_rn, htraw _ (by decide) (by decide)]
    exact ⟨hset, rfl, fun _ => hev⟩

/-- R102: without a lag θ takes the reading. -/
theorem State.thetaTake_unfiltered (h : s.Canon) (raw : Int) (hl : s.get W_OSC OSC_TLAG_V = 0) :
    (s.thetaTake raw).osc.hasTheta = true ∧ (s.thetaTake raw).rn W_OSC OSC_THETA = ofSigned 32 raw := by
  refine ⟨rfl, ?_⟩
  unfold State.thetaTake
  rw [if_pos hl, ite_self, State.setOsc_rn, State.rn_wr_same s h, Nat.mod_eq_of_lt (ofSigned_lt 32 raw)]

/-- R103: a valid reading while none is bad goes to θ. -/
theorem State.tsReading_valid {code : Nat} (hv : tsValid code = true) (hb : s.flag W_OSC OSC_STATE_TSBAD = false) :
    s.tsReading code = (s.wr W_OSC OSC_TRAW (ofSigned 32 (s.tsTemp code))).thetaTake (s.tsTemp code) := by
  unfold State.tsReading
  dsimp only
  rw [if_neg (not_not_intro hv), if_neg (ne_true_of_eq_false hb)]

theorem thermistorSample_invalid (hs : s.Ready) {code : BitVec 16} (hd : s.osc.tempIdx < s.tb.c / (10 * msU)) (ht : s.tsel = 0)
    (hv : tsValid code.toNat = false) : s.To (.thermistorSample code) fun t => t.get W_OSC OSC_STATE_TSBAD = 1 ∧
      t.rn W_OSC OSC_THETA = s.rn W_OSC OSC_THETA ∧
      (s.flag W_OSC OSC_STATE_TSBAD = false → t.evPending (evNo 12 26) = true) := by
  obtain ⟨x, y, -, hexec⟩ := exec_thermistorSample hs code hd ht
  exact ⟨_, hexec, State.tsReading_invalid (hs.1.setOsc y) hv⟩

theorem thermistorSample_valid (hs : s.Ready) {code : BitVec 16} (hd : s.osc.tempIdx < s.tb.c / (10 * msU)) (ht : s.tsel = 0)
    (hv : tsValid code.toNat = true) (hb : s.flag W_OSC OSC_STATE_TSBAD = false) (hl : s.get W_OSC OSC_TLAG_V = 0) :
    s.To (.thermistorSample code) fun t => t.osc.hasTheta = true ∧ t.rn W_OSC OSC_THETA = ofSigned 32 (s.tsTemp code.toNat) := by
  obtain ⟨x, y, hx, hexec⟩ := exec_thermistorSample hs code hd ht
  have hlag : (s.wr W_OSC OSC_TRAW (ofSigned 32 (s.tsTemp code.toNat))).get W_OSC OSC_TLAG_V = 0 :=
    (State.get_wr_other s _ _ _ _ _ (by decide)).trans hl
  obtain ⟨htheta, hrn⟩ := State.thetaTake_unfiltered
    (s := (s.setOsc y).wr W_OSC OSC_TRAW (ofSigned 32 (s.tsTemp code.toNat))) (State.wr_canon hs.1.canon _ _ _)
    (s.tsTemp code.toNat) hlag
  have hread : (s.setOsc y).tsReading code.toNat =
      ((s.setOsc y).wr W_OSC OSC_TRAW (ofSigned 32 (s.tsTemp code.toNat))).thetaTake (s.tsTemp code.toNat) :=
    State.tsReading_valid (s := s.setOsc y) hv hb
  rw [hread] at hx hexec
  exact ⟨_, hexec, hx.trans htheta, hrn⟩

/-! ### Learning samples (R109, R110) -/

/-- LS_INFO of the sample after one with `info`: of loop `d`, `valid` or not, the one before it `unread` or not. -/
def lsInfoNext (info d : Nat) (valid unread : Bool) : Nat :=
  let i := putBits (putBits (putBits info 0 16 (info + 1)) 16 3 d) 19 1 (b2n valid)
  if unread then putBits i 24 8 (info / 2 ^ 24 + 1) else i

theorem lsInfoNext_count (info d : Nat) (valid unread : Bool) :
    bitsOf (lsInfoNext info d valid unread) 0 16 = (info + 1) % 2 ^ 16 := by
  unfold lsInfoNext
  dsimp only
  split
  · rw [bitsOf_putBits_other _ _ _ _ _ _ (by decide), bitsOf_putBits_other _ _ _ _ _ _ (by decide),
      bitsOf_putBits_other _ _ _ _ _ _ (by decide), bitsOf_putBits_same]
  · rw [bitsOf_putBits_other _ _ _ _ _ _ (by decide), bitsOf_putBits_other _ _ _ _ _ _ (by decide), bitsOf_putBits_same]

theorem lsInfoNext_valid (info d : Nat) (valid unread : Bool) : bitOf (lsInfoNext info d valid unread) 19 = valid := by
  have hbit (v : Nat) : bitOf (putBits v 19 1 (b2n valid)) 19 = valid := by
    rw [bitOf_putBits_one]
    cases valid <;> rfl
  unfold lsInfoNext
  dsimp only
  split
  · rw [bitOf_putBits_other _ _ _ _ _ (by decide), hbit]
  · exact hbit _

theorem lsInfoNext_lost (info d : Nat) (valid : Bool) : bitsOf (lsInfoNext info d valid true) 24 8 = (info / 2 ^ 24 + 1) % 2 ^ 8 :=
  bitsOf_putBits_same _ _ _ _

/-- The registers of a sample, and LSLOST when it overwrites one unread. -/
def State.lsShown (s : State) (y th : Int) (info : Nat) (unread : Bool) : State :=
  let t := ((s.putPair W_OSC OSC_LS_Y_LO (ofSigned 48 y)).wr W_OSC OSC_LS_THETA (ofSigned 32 th)).wr W_OSC OSC_LS_INFO info
  if unread then t.sts W_OSC OSC_STS 16 else t

theorem State.lsShown_spec (h : s.Inv) (y th : Int) (info : Nat) (unread : Bool) : (s.lsShown y th info unread).Inv ∧
    (s.lsShown y th info unread).tb = s.tb ∧ (s.lsShown y th info unread).rn W_OSC OSC_LS_INFO = info % 2 ^ 32 ∧
    (unread = true → bitOf ((s.lsShown y th info unread).rn W_OSC OSC_STS) 4 = true) := by
  have hi := ((h.putPair W_OSC OSC_LS_Y_LO (ofSigned 48 y)).wr W_OSC OSC_LS_THETA (ofSigned 32 th))
  have hinfo := State.rn_wr_same _ hi.canon W_OSC OSC_LS_INFO info
  cases unread
  case false => exact ⟨hi.wr _ _ _, rfl, hinfo, nofun⟩
  case true =>
    exact ⟨(hi.wr _ _ _).wr _ _ _, rfl, (State.rn_sts_other _ _ _ _ _ _ (by decide)).trans hinfo,
      fun _ => State.sts_bitOf (hi.wr _ _ _).canon _ _ (b := 4) (by decide)⟩

/-- The sample waits for its reader, the next interval opens, SUP has its event. -/
def State.lsHanded (s : State) : State := ((s.setOsc { s.osc with unread := true }).learnOpen true).engPend 0 1 0

/-- A sample of whichever loop and value; without a learning loop its value is free. -/
theorem State.learnSample_eq (s : State) : ∃ (u : State) (y th : Int) (d : Nat), (u = s ∨ u = s.takeFree.2) ∧ s.learnSample =
    (u.lsShown y th (lsInfoNext (u.rn W_OSC OSC_LS_INFO) d (s.osc.okA || s.osc.okB) s.osc.unread) s.osc.unread).lsHanded := by
  unfold State.learnSample
  dsimp only
  by_cases hd : (if s.osc.okA = true then s.ldplla else s.ldpllb) ≤ 3
  · simp only [if_pos hd]
    exact ⟨s, _, _, _, .inl rfl, rfl⟩
  · simp only [if_neg hd]
    exact ⟨s.takeFree.2, _, _, _, .inr rfl, rfl⟩

theorem State.lsHanded_spec (h : s.Inv) : s.lsHanded.osc.unread = true ∧ s.lsHanded.osc.start = s.tb.c ∧
    ((s.lsHanded.eng 0).pend.any (fun e => e.1 == 1) = true) ∧
    ∀ off, off < 0x4000 → s.lsHanded.rn W_OSC off = s.rn W_OSC off := by
  have hosc : s.lsHanded.osc = ((s.setOsc { s.osc with unread := true }).learnOpen true).osc :=
    State.engPend_proj (·.osc) (fun _ _ _ _ => rfl) (fun _ _ _ => rfl) _ _ _
  rw [hosc]
  exact ⟨rfl, rfl, State.engPend_pends ((h.setOsc _).setOsc _) 0 (by decide) _ _,
    fun off ho => State.engPend_rn _ _ _ _ _ (by decide) ho⟩

/-- `t` holds the learning sample of the interval that ends in `s`, and the next interval has begun (R109, R110). -/
def State.Sampled (s t : State) : Prop :=
  bitsOf (t.rn W_OSC OSC_LS_INFO) 0 16 = (s.rn W_OSC OSC_LS_INFO + 1) % 2 ^ 16 ∧
    bitOf (t.rn W_OSC OSC_LS_INFO) 19 = (s.osc.okA || s.osc.okB) ∧ t.osc.unread = true ∧
    ((t.eng 0).pend.any (fun e => e.1 == 1) = true) ∧ t.osc.start = s.tb.c ∧
    (s.osc.unread = true → bitOf (t.rn W_OSC OSC_STS) 4 = true ∧
      bitsOf (t.rn W_OSC OSC_LS_INFO) 24 8 = (s.rn W_OSC OSC_LS_INFO / 2 ^ 24 + 1) % 2 ^ 8)

theorem State.learnSample_sampled (h : s.Inv) : s.Sampled s.learnSample := by
  unfold State.Sampled
  obtain ⟨u, y, th, d, hu, heq⟩ := s.learnSample_eq
  have hbase : u.Inv ∧ u.tb = s.tb ∧ u.rn W_OSC OSC_LS_INFO = s.rn W_OSC OSC_LS_INFO := by
    rcases hu with rfl | rfl
    · exact ⟨h, rfl, rfl⟩
    · exact ⟨h, rfl, rfl⟩
  obtain ⟨hinv, htb, hinfo⟩ := hbase
  rw [heq, hinfo]
  obtain ⟨hshown, hclock, hword, hlost⟩ := State.lsShown_spec hinv y th
    (lsInfoNext (s.rn W_OSC OSC_LS_INFO) d (s.osc.okA || s.osc.okB) s.osc.unread) s.osc.unread
  obtain ⟨hunread, hstart, hsup, hrn⟩ := State.lsHanded_spec hshown
  rw [hrn _ (by decide), hrn _ (by decide), hword, bitsOf_mod32 _ _ _ (by decide), bitsOf_mod32 _ _ _ (by decide), bitOf_eq_testBit,
    Nat.testBit_mod_two_pow, ← bitOf_eq_testBit, lsInfoNext_count, lsInfoNext_valid]
  refine ⟨rfl, Bool.true_and _, hunread, hsup, hstart.trans (by rw [hclock, htb]), fun hun => ⟨hlost hun, ?_⟩⟩
  rw [hun]
  exact lsInfoNext_lost _ _ _

/-- The index of the interval is no part of its sample. -/
theorem State.learnSample_noted (h : s.Inv) (i : Nat) : s.Sampled (s.setOsc { s.osc with learnIdx := i }).learnSample := by
  have hsampled := State.learnSample_sampled (h.setOsc { s.osc with learnIdx := i })
  unfold State.Sampled at hsampled
  rw [State.setOsc_rn] at hsampled
  exact hsampled

theorem exec_learningSample (hs : s.Ready) (hl : s.flag W_OSC OSC_CTL_LSAMP = true) (hd : s.osc.learnIdx < s.tb.c / s.lint) :
    exec .learningSample s = .next (s.setOsc { s.osc with learnIdx := s.tb.c / s.lint }).learnSample :=
  congrArg Host.Outcome.next (if_pos ⟨hl, State.gridDue_of_lt hs hd⟩)

/-! ### Reading a sample (R110) -/

/-- A whole-word read in reach of a block's register is the register window's answer (R354). -/
theorem State.doorRead_reg {w off : Nat} (hr : inReach r false (regAddr w off) = true) (h4 : off % 4 = 0) (hw : w < 0x80)
    (ho : off < 0x1000) : s.doorRead r (regAddr w off) 15 =
      (s.regRead r w off).2.emit (.answer r (regAddr w off) .ok (BitVec.ofNat 32 (beLanes 15 (s.regRead r w off).1))) := by
  have ha : regAddr w off % 4 = 0 := by unfold regAddr; omega
  have hm : regAddr w off % 0x40_0000 = regAddr w off := by unfold regAddr; omega
  have hlt : ¬ 0x20_0000 ≤ regAddr w off := by unfold regAddr; omega
  have ho' : off < 0x4000 := by omega
  simp only [State.doorRead, State.busRead, State.coreRead, early_none hr ha, hm, State.blockRead, hlt, if_false, regAddr_div ho',
    regAddr_mod ho]

theorem foldl_range_four (f : Nat → Nat) : (List.range 4).foldl (fun x i => x + f i) 0 = f 0 + f 1 + f 2 + f 3 := by
  simp [List.range_succ]

/-- With all byte enables a value passes whole (R373). -/
theorem beLanes_all (v : Nat) : beLanes 15 v = v % 2 ^ 32 := by
  have hlane (i : Nat) (hi : i < 4) : (15 : BitVec 4).getLsbD i = true := by
    rw [show (15 : BitVec 4) = BitVec.allOnes 4 from rfl, BitVec.getLsbD_allOnes, decide_eq_true hi]
  have hlanes : beLanes 15 v = (List.range 4).foldl (fun x i => x + bitsOf v (8 * i) 8 * 2 ^ (8 * i)) 0 :=
    List.foldl_ext _ _ _ fun _ i hi => if_pos (hlane i (List.mem_range.mp hi))
  rw [hlanes, foldl_range_four fun i => bitsOf v (8 * i) 8 * 2 ^ (8 * i)]
  unfold bitsOf
  omega

/-- The registers of a sample show their stored words. -/
theorem State.view_sample : ∀ off ∈ [OSC_LS_Y_LO, OSC_LS_Y_HI, OSC_LS_THETA, OSC_LS_INFO],
    s.view W_OSC off = s.rn W_OSC off := by
  intro off hoff
  simp only [List.mem_cons, List.not_mem_nil, or_false] at hoff
  rcases hoff with rfl | rfl | rfl | rfl <;> rfl

theorem State.regRead_lsInfo (r : Req) : s.regRead r W_OSC OSC_LS_INFO =
    ((s.latched r W_OSC OSC_LS_INFO).getD (s.rn W_OSC OSC_LS_INFO),
      (s.latch r W_OSC [OSC_LS_Y_LO, OSC_LS_Y_HI, OSC_LS_THETA]).lsRead) := by
  have hrow : regRow W_OSC OSC_LS_INFO = some ⟨0x7c, 1, 0, .ro, 0xf00000, 0⟩ := by decide
  have hsample : s.pwrSample W_OSC OSC_LS_INFO = s := if_neg (by decide)
  have heffect : s.readEffect r W_OSC OSC_LS_INFO = (s.latch r W_OSC [OSC_LS_Y_LO, OSC_LS_Y_HI, OSC_LS_THETA]).lsRead := by
    unfold State.readEffect
    simp only [and_self, if_true]
    rfl
  have hclass : ¬ (RegClass.ro = .cfg ∨ RegClass.ro = .run) := by decide
  simp only [State.regRead, hrow, hsample, if_neg hclass, heffect, State.view_sample OSC_LS_INFO (by decide)]
  cases s.latched r W_OSC OSC_LS_INFO <;> rfl

/-- What has just been latched of a register is its value. -/
theorem State.latched_latch (r : Req) {w off : Nat} {offs : List Nat} (hm : off ∈ offs) (hlt : ∀ o ∈ offs, o < 0x4000) :
    (s.latch r w offs).latched r w off = some (s.view w off % 2 ^ 32) := by
  have hfind (l : List Nat) (hl : ∀ o ∈ l, o < 0x4000) (hm : off ∈ l) (more : List (Req × Nat × Word)) :
      (l.map (fun o => (r, regAddr w o, BitVec.ofNat 32 (s.view w o))) ++ more).find?
        (fun e => e.1 == r && e.2.1 == regAddr w off) = some (r, regAddr w off, BitVec.ofNat 32 (s.view w off)) := by
    induction l with
    | nil => cases hm
    | cons o l ih =>
      rw [List.map_cons, List.cons_append]
      by_cases ho : o = off
      · subst ho
        exact List.find?_cons_of_pos (by simp)
      · have hne : regAddr w o ≠ regAddr w off := by unfold regAddr; omega
        rw [List.find?_cons_of_neg (by simp [hne])]
        exact ih (fun x hx => hl x (List.mem_cons_of_mem _ hx)) ((List.mem_cons.mp hm).resolve_left (Ne.symm ho))
  unfold State.latch State.latched
  dsimp only
  rw [if_neg (by simp [List.ne_nil_of_mem hm])]
  exact (congrArg _ (hfind offs hlt hm _)).trans (congrArg some (BitVec.toNat_ofNat _ _))

/-- R110: a read of LS_INFO answers what the reader has latched of it, else its word; it marks the sample read and latches the
other registers of that sample. -/
theorem lsInfoRead_takes (hr : r ≠ .i2c) : s.To (.lsInfoRead r) fun t => t.osc.unread = false ∧
    t.Answered r (regAddr W_OSC OSC_LS_INFO) .ok
      (BitVec.ofNat 32 ((s.latched r W_OSC OSC_LS_INFO).getD (s.rn W_OSC OSC_LS_INFO))) ∧
    ∀ o ∈ [OSC_LS_Y_LO, OSC_LS_Y_HI, OSC_LS_THETA], t.latched r W_OSC o = some (s.rn W_OSC o) := by
  have hdoor := State.doorRead_reg (s := s) (inReach_of_ne_i2c hr false (regAddr W_OSC OSC_LS_INFO)) (by decide) (by decide)
    (by decide)
  rw [State.regRead_lsInfo, beLanes_all] at hdoor
  have hvalue (x : Nat) : BitVec.ofNat 32 (x % 2 ^ 32) = BitVec.ofNat 32 x := by
    rw [← BitVec.toNat_inj, BitVec.toNat_ofNat, BitVec.toNat_ofNat, Nat.mod_mod]
  rw [hvalue] at hdoor
  refine ⟨_, congrArg Host.Outcome.next hdoor, rfl, List.getLast?_concat .., fun o ho => ?_⟩
  refine (State.latched_latch r ho (by decide)).trans (congrArg some ?_)
  rw [State.view_sample o (List.mem_append_left [OSC_LS_INFO] ho), Nat.mod_eq_of_lt (s.rn_lt _ _)]

/-! ### Estimates while no model is learned (R118, R119) -/

/-- OSC_TEESTn takes its estimate. -/
def State.teestShown (s : State) (n : Nat) : State := s.wr W_OSC (OSC_TEEST0 + 4 * n) (s.teEstReg n)

theorem State.teEstReg_unlearned (hl : s.learned = false) (n : Nat) : s.teEstReg n = 2 ^ 32 - 1 := by
  have hv : s.teValid n = false := by simp [State.teValid, hl]
  unfold State.teEstReg
  dsimp only
  split
  · rfl
  · rw [if_pos (ne_true_of_eq_false hv)]

theorem State.learned_wr_osc (off v : Nat) (ho : off < 0x4000) (hne : off ≠ OSC_CTL) :
    (s.wr W_OSC off v).learned = s.learned := by
  have hflag : (s.wr W_OSC off v).flag W_OSC OSC_CTL_EVAL = s.flag W_OSC OSC_CTL_EVAL :=
    congrArg (· != 0) (State.get_wr_other s _ _ _ _ OSC_CTL_EVAL (regAddr_osc_ne ho (by decide) hne))
  unfold State.learned
  rw [hflag]
  rfl

theorem State.teestShown_unlearned (hl : s.learned = false) (n : Nat) :
    s.teestShown n = s.wr W_OSC (OSC_TEEST0 + 4 * n) (2 ^ 32 - 1) := by
  unfold State.teestShown
  rw [State.teEstReg_unlearned hl]

/-- While no model is learned the first `k` loops' estimates read all ones. -/
theorem State.teests_unlearned (h : s.Canon) (hl : s.learned = false) (k : Nat) (hk : k ≤ 4) :
    ((List.range k).foldl State.teestShown s).Canon ∧ ((List.range k).foldl State.teestShown s).learned = false ∧
      ∀ j, j < k → ((List.range k).foldl State.teestShown s).rn W_OSC (OSC_TEEST0 + 4 * j) = 2 ^ 32 - 1 := by
  have hoff (j : Nat) (hj : j < 4) : OSC_TEEST0 + 4 * j < 0x4000 := by unfold OSC_TEEST0; omega
  induction k with
  | zero => exact ⟨h, hl, nofun⟩
  | succ k ih =>
    obtain ⟨hc, hl', hones⟩ := ih (by omega)
    rw [List.range_succ, List.foldl_append, List.foldl_cons, List.foldl_nil, State.teestShown_unlearned hl']
    refine ⟨State.wr_canon hc _ _ _, (State.learned_wr_osc _ _ (hoff k hk) (by unfold OSC_TEEST0 OSC_CTL; omega)).trans hl',
      fun j hj => ?_⟩
    rcases Nat.lt_succ_iff_lt_or_eq.mp hj with hlt | rfl
    · rw [State.rn_wr_other _ _ _ _ _ _ (regAddr_osc_ne (hoff k hk) (hoff j (by omega)) (by omega))]
      exact hones j hlt
    · exact State.rn_wr_same _ hc _ _ _

theorem exec_teestUpdate (hs : s.Ready) (hd : s.osc.estIdx < s.tb.c / secU) :
    ∃ v, exec .teestUpdate s = .next (((List.range 4).foldl State.teestShown (s.setOsc { s.osc with estIdx := s.tb.c / secU })).wr
      W_OSC OSC_PROJ (if ((List.range 4).foldl State.teestShown (s.setOsc { s.osc with estIdx := s.tb.c / secU })).learned then v
        else 2 ^ 32 - 1)) :=
  ⟨_, congrArg Host.Outcome.next (if_pos (State.gridDue_of_lt hs hd))⟩

theorem teestUpdate_unlearned (hs : s.Ready) (hd : s.osc.estIdx < s.tb.c / secU) (hl : s.learned = false) :
    s.To .teestUpdate fun t => t.rn W_OSC OSC_PROJ = 2 ^ 32 - 1 ∧
      ∀ k, k < 4 → t.rn W_OSC (OSC_TEEST0 + 4 * k) = 2 ^ 32 - 1 := by
  obtain ⟨v, hexec⟩ := exec_teestUpdate hs hd
  obtain ⟨hc, hl', hones⟩ := State.teests_unlearned (s := s.setOsc { s.osc with estIdx := s.tb.c / secU }) hs.1.canon hl 4
    (by decide)
  refine ⟨_, hexec, ?_, fun k hk => ?_⟩
  · rw [hl', State.rn_wr_same _ hc]
    rfl
  · rw [State.rn_wr_other _ _ _ _ _ _
      (regAddr_osc_ne (by decide) (by unfold OSC_TEEST0; omega) (by unfold OSC_PROJ OSC_TEEST0; omega))]
    exact hones k hk

end

/-- Settles O35: each command of the oscillator model is followed to the registers and the record of OSC that it leaves. -/
theorem oscillatorModel : Obligations.OscillatorModel := by
  unfold Obligations.OscillatorModel
  intro s r v code hs
  dsimp only
  exact ⟨fun hr => oscGenCommit_takes hs hr v,
    fun hd => ⟨fun c y l hp hc => oscEvaluation_commits hs hd hp hc, oscEvaluation_off hs hd, oscEvaluation_on hs hd⟩,
    fun hd ht => ⟨thermistorSample_invalid hs hd ht, thermistorSample_valid hs hd ht⟩,
    fun hl hd => ⟨_, exec_learningSample hs hl hd, State.learnSample_noted hs.1 _⟩, lsInfoRead_takes,
    teestUpdate_unlearned hs⟩

end Sys2Proof.Machine

/-!
PROOF. A window field by field: what an operation leaves of the registers of one window, and a write of a register of class RUN as the
door answers it (R354 to R359).
-/

namespace Sys2Proof.Machine

/-! ### What operations leave of a window -/

/-- `t` comes of `s` by operations that leave the fields of window `w` beside those of `fs`; what was pending is pending still. -/
structure State.WinMoves (s : State) (w : Nat) (fs : List Fld) (t : State) : Prop where
  plain : w < W_ENG ∧ w ≠ W_EVT
  inv : t.Inv
  sys : t.sys = s.sys
  get : ∀ g : Fld, g.clearOf fs = true → t.get w g = s.get w g
  event : ∀ e, e < 512 → s.evPending e = true → t.evPending e = true

namespace State.WinMoves

variable {s t u : State} {w : Nat} {fs : List Fld}

theorem refl (h : s.Inv) (hw : w < W_ENG ∧ w ≠ W_EVT) : s.WinMoves w fs s := ⟨hw, h, rfl, fun _ _ => rfl, fun _ _ hp => hp⟩

theorem trans (h : s.WinMoves w fs t) (k : t.WinMoves w fs u) : s.WinMoves w fs u where
  plain := h.plain
  inv := k.inv
  sys := k.sys.trans h.sys
  get g hg := (k.get g hg).trans (h.get g hg)
  event e he hp := k.event e he (h.event e he hp)

theorem ite {c : Prop} [Decidable c] (ht : c → s.WinMoves w fs t) (hu : ¬ c → s.WinMoves w fs u) :
    s.WinMoves w fs (if c then t else u) := by
  split
  · exact ht ‹_›
  · exact hu ‹_›

theorem flag (h : s.WinMoves w fs t) (g : Fld) (hg : g.clearOf fs = true) : t.flag w g = s.flag w g := by
  unfold State.flag
  rw [h.get g hg]

theorem rn (h : s.WinMoves w fs t) (off : Nat) (hg : (Fld.word off).clearOf fs = true) : t.rn w off = s.rn w off := by
  rw [← State.get_word, ← State.get_word, h.get _ hg]

/-- An update of a block beside its registers. -/
theorem beyond (h : s.WinMoves w fs t) (hi : u.Inv) (hsys : u.sys = t.sys) (hr : u.regs = t.regs) : s.WinMoves w fs u := by
  have hrn (w' off : Nat) : u.rn w' off = t.rn w' off := by
    unfold State.rn State.rd
    rw [hr]
  refine h.trans ⟨h.plain, hi, hsys, fun g _ => ?_, fun e _ hp => ?_⟩
  · unfold State.get
    rw [hrn]
  · unfold State.evPending at *
    rwa [hrn]

theorem setBrg (h : s.WinMoves w fs t) (x : BrgSt) : s.WinMoves w fs (t.setBrg x) := h.beyond h.inv rfl rfl
theorem setHlth (h : s.WinMoves w fs t) (x : HlthSt) : s.WinMoves w fs (t.setHlth x) := h.beyond h.inv rfl rfl
theorem setSync (h : s.WinMoves w fs t) (x : SyncSt) : s.WinMoves w fs (t.setSync x) := h.beyond h.inv rfl rfl

theorem fault (h : s.WinMoves w fs t) (src kind addr : Nat) : s.WinMoves w fs (t.fault src kind addr) := h.beyond h.inv rfl rfl

theorem modApll (h : s.WinMoves w fs t) (m : Nat) (f : ApllSt → ApllSt) : s.WinMoves w fs (t.modApll m f) :=
  h.beyond (State.keeps_inv h.inv (State.modApll_keeps (State.keeps_refl t) m f)) rfl rfl

/-- A register of the window, written whole. -/
theorem wr (h : s.WinMoves w fs t) {off : Nat} (v : Nat) (hf : Fld.word off ∈ fs) (ho : off < 0x4000) :
    s.WinMoves w fs (t.wr w off v) := by
  refine h.trans ⟨h.plain, h.inv.wr _ _ _, rfl, fun g hg => ?_, fun e he hp => ?_⟩
  · obtain ⟨⟨hlt, -⟩, -⟩ := (Fld.clearOf_iff g fs).mp hg
    exact State.get_wr_other t _ _ _ _ _ (regAddr_ne ho hlt (.inr (Fld.off_ne_of_clearOf hg hf)))
  · rwa [State.wr_evPending _ _ _ _ h.plain.2 ho he]

/-- A field of the window. -/
theorem put (h : s.WinMoves w fs t) {f : Fld} (v : Nat) (hf : f ∈ fs) (ho : f.off < 0x4000) : s.WinMoves w fs (t.put w f v) := by
  refine h.trans ⟨h.plain, h.inv.put _ _ _, rfl, fun g hg => ?_, fun e he hp => ?_⟩
  · obtain ⟨⟨hlt, -, h32⟩, hall⟩ := (Fld.clearOf_iff g fs).mp hg
    by_cases he : g.off = f.off
    · exact State.get_put_beside t h.inv.canon _ _ _ _ he h32 (((Fld.apart_iff f g).mp (hall f hf)).resolve_left (Ne.symm · he))
    · exact State.get_put_other t _ _ _ _ _ (regAddr_ne ho hlt (.inr (Ne.symm he)))
  · exact (State.wr_evPending _ _ _ _ h.plain.2 ho he).trans hp

theorem sts (h : s.WinMoves w fs t) {off : Nat} (m : Nat) (hf : Fld.word off ∈ fs) (ho : off < 0x4000) :
    s.WinMoves w fs (t.sts w off m) := h.wr _ hf ho

theorem count (h : s.WinMoves w fs t) {off : Nat} (k : Nat) (hf : Fld.word off ∈ fs) (ho : off < 0x4000) :
    s.WinMoves w fs (t.count w off k) := h.wr _ hf ho

theorem putPair (h : s.WinMoves w fs t) {off : Nat} (v : Nat) (hl : Fld.word off ∈ fs) (hh : Fld.word (off + 4) ∈ fs)
    (ho : off + 4 < 0x4000) : s.WinMoves w fs (t.putPair w off v) := (h.wr _ hl (by omega)).wr _ hh ho

/-- A register of another window. -/
theorem wrOther (h : s.WinMoves w fs t) {w' off : Nat} (v : Nat) (hne : w' ≠ w) (hevt : w' ≠ W_EVT) (ho : off < 0x4000) :
    s.WinMoves w fs (t.wr w' off v) := by
  refine h.trans ⟨h.plain, h.inv.wr _ _ _, rfl, fun g hg => ?_, fun e he hp => ?_⟩
  · obtain ⟨⟨hlt, -⟩, -⟩ := (Fld.clearOf_iff g fs).mp hg
    exact State.get_wr_other t _ _ _ _ _ (regAddr_ne ho hlt (.inl hne))
  · rwa [State.wr_evPending _ _ _ _ hevt ho he]

theorem raise (h : s.WinMoves w fs t) {g b : Nat} (hg : evNo g b < 512) : s.WinMoves w fs (t.raise g b) := by
  refine h.trans ⟨h.plain, State.keeps_inv h.inv (State.raise_keeps (State.keeps_refl t) _ _), State.raise_sys _ _ _,
    fun f hf => ?_, fun e he hp => ?_⟩
  · obtain ⟨⟨ho, -⟩, -⟩ := (Fld.clearOf_iff f fs).mp hf
    exact State.raise_get _ _ _ _ _ hg h.plain.1 h.plain.2 ho
  · rw [State.raise_evPending h.inv.canon _ _ _ hg he, hp, Bool.or_true]

/-- R355: the record of an access. -/
theorem accRecord (h : s.WinMoves w fs t) (hw : W_HIF ≠ w) (r : Req) (write : Bool) (a : Nat) (o : AccOut) :
    s.WinMoves w fs (t.accRecord r write a o) := by
  have hif {u : State} (hu : s.WinMoves w fs u) (off v : Nat) (ho : off < 0x4000) : s.WinMoves w fs (u.wr W_HIF off v) :=
    hu.wrOther v hw (by decide) ho
  unfold State.accRecord
  split
  · exact h
  · rename_i b _
    have hrec : s.WinMoves w fs (((((t.sts W_HIF HIF_ACCSTAT (2 ^ b)).put W_HIF HIF_ACCSTAT_WINDOW (bitsOf a 14 8)).wr W_HIF
        HIF_ACCADDR (a % 2 ^ 25)).wr W_HIF HIF_ACCREQ (reqCode r + b2n write * 2 ^ 8)).count W_HIF HIF_ACCCNT 1) :=
      hif (hif (hif (hif (hif h _ _ (by decide)) _ _ (by decide)) _ _ (by decide)) _ _ (by decide)) _ _ (by decide)
    have hevent := State.WinMoves.ite (c := r = .script) (fun _ => h) fun _ => .ite (c := b < 5)
      (fun hb => hrec.raise (g := 0) (b := b) (by unfold evNo; omega)) fun _ => hrec
    exact .ite (fun _ => hevent.fault _ _ _) fun _ => hevent

end State.WinMoves

section
variable {s t : State} {r : Req} {w : Nat} {fs : List Fld}

/-- A flag just written. -/
theorem State.flag_put_same (h : s.Canon) (w : Nat) (f : Fld) (b : Bool) (hw : f.width = 1) (hl : f.lsb + f.width ≤ 32) :
    (s.put w f (b2n b)).flag w f = b := by
  unfold State.flag
  rw [State.get_put_same s h _ _ _ hl, hw]
  cases b <;> rfl

/-- The event that an update of a block's status raises. -/
theorem State.stsRaise_evPending (h : s.Inv) (w off m : Nat) {g b : Nat} (hg : evNo g b < 512) :
    ((s.sts w off m).raise g b).evPending (evNo g b) = true := by
  rw [State.raise_evPending (State.sts_canon h.canon _ _ _) _ _ _ hg hg, decide_eq_true rfl, Bool.true_or]

/-! ### Writes of registers of class RUN -/

/-- A whole-word write at the door: its effect, its record and its answer (R354, R355). -/
theorem State.doorWrite_reg {off v : Nat} {o : AccOut} (hr : r ≠ .i2c) (hlt : w < W_ENG) (h4 : off % 4 = 0) (ho : off < 0x1000)
    (hw : s.regWrite r w off .plain v = (o, t)) (hsoft : (t.accRecord r true (regAddr w off) o).sys.soft = false) :
    s.doorWrite r (regAddr w off) 15 v =
      (t.accRecord r true (regAddr w off) o).emit (.answer r (regAddr w off) o (BitVec.ofNat 32 v)) := by
  have hcore := s.coreWrite_reg (v := v) (inReach_of_ne_i2c hr true (regAddr w off)) h4 (by unfold W_ENG at hlt; omega) ho
  rw [hw] at hcore
  simp only [State.doorWrite, State.busWrite, hcore, State.softResume_of hsoft]

/-- The register at `off` of window `w` is of class RUN, behind no guard lock; whoever asks may write it, a whole word at once. -/
def openRun (r : Req) (w off : Nat) : Bool :=
  (regRow w off).map RegRow.cls == some .run && w != W_GUARD && w != W_NVS && (guardGroup w off).isNone && mayWrite r w off &&
    !stagedReg w off

theorem openRun_iff (r : Req) (w off : Nat) : openRun r w off = true ↔
    (regRow w off).map RegRow.cls = some .run ∧ w ≠ W_GUARD ∧ w ≠ W_NVS ∧ guardGroup w off = none ∧ mayWrite r w off = true ∧
      stagedReg w off = false := by
  simp [openRun, and_assoc]

theorem State.writeLocked_openRun {off : Nat} (h : openRun r w off = true) (v : Nat) : s.writeLocked w off .plain v = false := by
  obtain ⟨-, -, hnvs, hgroup, -⟩ := (openRun_iff r w off).mp h
  simp [State.writeLocked, State.guarded, hgroup, hnvs]

/-- A value that the block takes is stored, with what that does (R356). -/
theorem State.regWrite_openRun {off v : Nat} (h : openRun r w off = true) (hsrv : s.srvIgnored w off (s.view w off) v = false)
    (hn : s.refuses r w off (s.view w off) v = none) :
    s.regWrite r w off .plain v = (.ok, (s.wr w off v).written r w off (s.view w off)) := by
  obtain ⟨hrow, hguard, -, -, hm, hg⟩ := (openRun_iff r w off).mp h
  obtain ⟨row, hrow, hc⟩ := Option.map_eq_some_iff.mp hrow
  simp [State.regWrite, hrow, hc, State.writeLocked_openRun h, hguard, State.runWrite, hm, aliasValue, hn, State.runTake, hg, hsrv]

/-- A value that the block refuses is ignored (R363). -/
theorem State.regWrite_openRun_refused {off v : Nat} (h : openRun r w off = true)
    (hn : s.refuses r w off (s.view w off) v = some t) : s.regWrite r w off .plain v = (.wign, t) := by
  obtain ⟨hrow, hguard, -, -, hm, -⟩ := (openRun_iff r w off).mp h
  obtain ⟨row, hrow, hc⟩ := Option.map_eq_some_iff.mp hrow
  simp [State.regWrite, hrow, hc, State.writeLocked_openRun h, hguard, State.runWrite, hm, aliasValue, hn]

/-- A write that is taken leaves its effect and its answer. -/
theorem State.doorWrite_taken {off v : Nat} (hr : r ≠ .i2c) (hlt : w < W_ENG) (h4 : off % 4 = 0) (ho : off < 0x1000)
    (hw : s.regWrite r w off .plain v = (.ok, t)) (hsoft : t.sys.soft = false) :
    ∃ o, s.doorWrite r (regAddr w off) 15 v = t.emit o :=
  ⟨_, State.doorWrite_reg hr hlt h4 ho hw hsoft⟩

end

end Sys2Proof.Machine

/-!
PROOF. The bridge (R126, R134, R135): its two clock checks, and what a written map comes to.
-/

namespace Sys2Proof.Machine

section
variable {s : State} {r : Req}

theorem brg_plain : W_BRG < W_ENG ∧ W_BRG ≠ W_EVT := by decide

/-! ### The clock checks (R126) -/

/-- A check of the bridge: what is bad clears flag `f` and sends message `k` where the flag was set; what is not sets it. -/
def State.brgCheck (s : State) (f : Fld) (k : Nat) (bad : Prop) [Decidable bad] : State :=
  if bad then (if s.flag W_BRG f then (s.put W_BRG f 0).fault W_BRG k (regAddr W_BRG BRG_STATE) else s) else s.put W_BRG f 1

theorem exec_bawFail (amp : Bool) (off : Int) : exec (.bawFail amp off) s = .next ((s.bawMeasured off).brgCheck BRG_STATE_BAWOK K_BAW_FAIL
    ((amp || (!s.mon.xoLost && decide (bawLimit < off.natAbs))) = true)) := rfl

theorem exec_clkCountCheck (diff : Int) :
    exec (.clkCountCheck diff) s = .next (s.brgCheck BRG_STATE_TBLOCK K_CLK_DISAGREE (1 < diff.natAbs)) := rfl

theorem State.brgCheck_bad (h : s.Canon) {f : Fld} (k : Nat) {bad : Prop} [Decidable bad] (hb : bad) (hw : f.width = 1)
    (hl : f.lsb + f.width ≤ 32) : (s.brgCheck f k bad).flag W_BRG f = false ∧ (s.brgCheck f k bad).flt.msgs =
      s.flt.msgs ++ (if s.flag W_BRG f then [⟨W_BRG, k, regAddr W_BRG BRG_STATE, false⟩] else []) := by
  unfold State.brgCheck
  rw [if_pos hb]
  split
  · exact ⟨State.flag_put_same h _ _ false hw hl, rfl⟩
  · next hclear => exact ⟨eq_false_of_ne_true hclear, (List.append_nil _).symm⟩

theorem State.brgCheck_good (h : s.Canon) {f : Fld} (k : Nat) {bad : Prop} [Decidable bad] (hb : ¬ bad) (hw : f.width = 1)
    (hl : f.lsb + f.width ≤ 32) : (s.brgCheck f k bad).flag W_BRG f = true ∧ (s.brgCheck f k bad).flt = s.flt := by
  unfold State.brgCheck
  rw [if_neg hb]
  exact ⟨State.flag_put_same h _ _ true hw hl, rfl⟩

theorem State.brgCheck_moves (h : s.Inv) (f : Fld) (k : Nat) (bad : Prop) [Decidable bad] (ho : f.off < 0x4000) :
    s.WinMoves W_BRG [f] (s.brgCheck f k bad) :=
  have hm := State.WinMoves.refl (fs := [f]) h brg_plain
  .ite (fun _ => .ite (fun _ => (hm.put 0 (by simp) ho).fault _ _ _) fun _ => hm) fun _ => hm.put 1 (by simp) ho

/-- R81: what a measurement of the BAW's offset writes. -/
theorem State.bawMeasured_moves (h : s.Inv) (off : Int) :
    s.WinMoves W_BRG [.word BRG_BAWOFF, BRG_STATE_XOHELD] (s.bawMeasured off) :=
  have hm := State.WinMoves.refl (fs := [.word BRG_BAWOFF, BRG_STATE_XOHELD]) h brg_plain
  .ite (fun _ => hm.put _ (by decide) (by decide)) fun _ => (hm.wr _ (by decide) (by decide)).put _ (by decide) (by decide)

theorem State.bawMeasured_flt (off : Int) : (s.bawMeasured off).flt = s.flt := by
  unfold State.bawMeasured
  split <;> rfl

theorem State.bawMeasured_bawoff (h : s.Inv) (hx : s.mon.xoLost = false) (off : Int) :
    (s.bawMeasured off).rn W_BRG BRG_BAWOFF = ofSigned 32 off := by
  unfold State.bawMeasured
  rw [if_neg (ne_true_of_eq_false hx), State.rn_put_other _ _ _ _ _ _ (by decide), State.rn_wr_same s h.canon,
    Nat.mod_eq_of_lt (ofSigned_lt 32 off)]

/-- The bad reports of the detector (R126). -/
theorem bawBad_iff (lost amp : Bool) (off : Int) : (amp || (!lost && decide (bawLimit < off.natAbs))) = true ↔
    amp = true ∨ (lost = false ∧ 200000 * 4096 < off.natAbs) := by
  rw [Bool.or_eq_true, Bool.and_eq_true, Bool.not_eq_true', decide_eq_true_iff]
  rfl

theorem bawFail_checks (hs : s.Ready) (amp : Bool) (off : Int) : s.To (.bawFail amp off) fun t =>
    (s.mon.xoLost = false → t.rn W_BRG BRG_BAWOFF = ofSigned 32 off) ∧
    (amp = true ∨ (s.mon.xoLost = false ∧ 200000 * 4096 < off.natAbs) → t.flag W_BRG BRG_STATE_BAWOK = false ∧
      t.flt.msgs = s.flt.msgs ++
        (if s.flag W_BRG BRG_STATE_BAWOK then [⟨W_BRG, K_BAW_FAIL, regAddr W_BRG BRG_STATE, false⟩] else [])) ∧
    (¬ (amp = true ∨ (s.mon.xoLost = false ∧ 200000 * 4096 < off.natAbs)) →
      t.flag W_BRG BRG_STATE_BAWOK = true ∧ t.flt = s.flt) := by
  have hm := State.bawMeasured_moves hs.1 off
  have hmoves := fun (bad : Prop) [Decidable bad] => State.brgCheck_moves hm.inv BRG_STATE_BAWOK K_BAW_FAIL bad (by decide)
  refine ⟨_, exec_bawFail amp off, fun hx => ?_, fun hb => ?_, fun hb => ?_⟩
  · rw [(hmoves _).rn _ (by decide), State.bawMeasured_bawoff hs.1 hx]
  · have hbad := State.brgCheck_bad hm.inv.canon (f := BRG_STATE_BAWOK) K_BAW_FAIL ((bawBad_iff _ _ _).mpr hb) rfl (by decide)
    rw [hm.flag _ (by decide), State.bawMeasured_flt] at hbad
    exact hbad
  · have hgood := State.brgCheck_good hm.inv.canon (f := BRG_STATE_BAWOK) K_BAW_FAIL (mt (bawBad_iff _ _ _).mp hb) rfl (by decide)
    rw [State.bawMeasured_flt] at hgood
    exact hgood

theorem clkCountCheck_checks (hs : s.Ready) (diff : Int) : s.To (.clkCountCheck diff) fun t =>
    (1 < diff.natAbs → t.flag W_BRG BRG_STATE_TBLOCK = false ∧ t.flt.msgs = s.flt.msgs ++
      (if s.flag W_BRG BRG_STATE_TBLOCK then [⟨W_BRG, K_CLK_DISAGREE, regAddr W_BRG BRG_STATE, false⟩] else [])) ∧
    (diff.natAbs ≤ 1 → t.flag W_BRG BRG_STATE_TBLOCK = true ∧ t.flt = s.flt) :=
  ⟨_, exec_clkCountCheck diff, fun hb => State.brgCheck_bad hs.1.canon _ hb rfl (by decide),
    fun hb => State.brgCheck_good hs.1.canon _ (not_lt.mpr hb) rfl (by decide)⟩

/-! ### A map comes into force (R134) -/

/-- What a new map writes of the bridge's registers. -/
def brgMapFields : List Fld := [BRG_STATE_BLEND, .word BRG_STS]

/-- The destinations that map `m` gives another loop than `old`. -/
def brgMoved (old m : Nat) : List Nat := (List.range 7).filter fun d => bitsOf old (2 * d) 2 ≠ bitsOf m (2 * d) 2

/-- Destination `d` goes over to its loop of map `m`: Δ starts as the word last received minus the new loop's, or as 0 with SLEW = 0. -/
def State.destMoved (s : State) (slew0 : Bool) (m d : Nat) : State :=
  s.modDest d fun x => { x with delta := if slew0 then 0 else (x.last - s.dco (bitsOf m (2 * d) 2)) * deltaUnit }

def State.destsMoved (s : State) (slew0 : Bool) (m : Nat) (l : List Nat) : State := l.foldl (fun t d => t.destMoved slew0 m d) s

/-- Map `m` in force, the Δ of the moved destinations started, with BRG_MAP's event. -/
def State.brgRemapped (s : State) (m : Nat) : State :=
  (((s.setBrg { s.brg with map := m }).destsMoved (decide (s.rn W_BRG BRG_SLEW = 0)) m (brgMoved s.brg.map m)).sts W_BRG
    BRG_STS 1).raise 6 8

theorem State.brgApply_of_moved {m : Nat} (hne : brgMoved s.brg.map m ≠ []) : s.brgApply m =
    if (s.brgRemapped m).get W_BRG BRG_STATE_BLEND = 0 ∧ (List.range 7).all (fun d => ((s.brgRemapped m).dest d).delta = 0) then
      ((s.brgRemapped m).sts W_BRG BRG_STS 2).raise 6 9
    else (s.brgRemapped m).brgBlend := by
  unfold State.brgApply
  refine (if_neg (by rwa [List.isEmpty_iff])).trans ?_
  simp only [State.brgRemapped, State.destsMoved, State.destMoved, decide_eq_true_eq]
  rfl

theorem State.brgApply_of_kept {m : Nat} (he : brgMoved s.brg.map m = []) : s.brgApply m = s.setBrg { s.brg with map := m } :=
  if_pos (List.isEmpty_iff.mpr he)

theorem State.destsMoved_snoc (slew0 : Bool) (m : Nat) (l : List Nat) (e : Nat) :
    s.destsMoved slew0 m (l ++ [e]) = (s.destsMoved slew0 m l).destMoved slew0 m e := by
  unfold State.destsMoved
  rw [List.foldl_append]
  rfl

/-- Going over changes the Δ of destinations only. -/
theorem State.destsMoved_keeps (slew0 : Bool) (m : Nat) (l : List Nat) : let t := s.destsMoved slew0 m l
    t = s.setBrg t.brg ∧ t.brg.map = s.brg.map ∧ ∀ d, (t.dest d).last = (s.dest d).last := by
  dsimp only
  refine List.foldlRecOn (motive := fun t : State => t = s.setBrg t.brg ∧ t.brg.map = s.brg.map ∧
    ∀ d, (t.dest d).last = (s.dest d).last) l _ ⟨rfl, rfl, fun _ => rfl⟩ fun t ht e _ => ?_
  obtain ⟨hbrg, hmap, hlast⟩ := ht
  refine ⟨(congrArg (State.setBrg · (t.destMoved slew0 m e).brg) hbrg).trans rfl, hmap, fun d => ?_⟩
  unfold State.destMoved
  rw [State.modDest_dest]
  split
  · next he => rw [he]; exact hlast e
  · exact hlast d

theorem State.destsMoved_dco (slew0 : Bool) (m : Nat) (l : List Nat) (k : Nat) : (s.destsMoved slew0 m l).dco k = s.dco k := by
  rw [(State.destsMoved_keeps slew0 m l).1]
  rfl

/-- R134: with SLEW > 0 each destination that goes over starts from the word it last received. -/
theorem State.destsMoved_delta (m d : Nat) (l : List Nat) (hd : d ∈ l) : ((s.destsMoved false m l).dest d).delta =
    ((s.dest d).last - s.dco (bitsOf m (2 * d) 2)) * deltaUnit := by
  induction l using List.reverseRecOn with
  | nil => cases hd
  | append_singleton l e ih =>
    rw [State.destsMoved_snoc, State.destMoved, State.modDest_dest]
    split
    · next he =>
      obtain ⟨-, -, hlast⟩ := State.destsMoved_keeps (s := s) false m l
      dsimp only
      rw [if_neg Bool.false_ne_true, hlast, State.destsMoved_dco, he]
    · next he => exact ih ((List.mem_append.mp hd).resolve_right fun h => he (List.mem_singleton.mp h))

/-! What a map leaves. -/

namespace State.WinMoves

variable {t : State} {fs : List Fld}

theorem brgEvent (h : s.WinMoves W_BRG fs t) (m : Nat) {b : Nat} (hb : b < 32) (hf : Fld.word BRG_STS ∈ fs) :
    s.WinMoves W_BRG fs ((t.sts W_BRG BRG_STS m).raise 6 b) := (h.sts m hf (by decide)).raise (by unfold evNo; omega)

theorem brgBlend (h : s.WinMoves W_BRG brgMapFields t) : s.WinMoves W_BRG brgMapFields t.brgBlend :=
  have hput := h.put (f := BRG_STATE_BLEND) _ (by decide) (by decide)
  .ite (fun _ => hput.brgEvent 2 (by decide) (by decide)) fun _ => hput

end State.WinMoves

theorem State.brgBlend_brg : s.brgBlend.brg = s.brg := by
  unfold State.brgBlend
  dsimp only
  split
  · exact State.raise_brg _ _ _
  · rfl

theorem State.destsMoved_moves (h : s.Inv) (m : Nat) : s.WinMoves W_BRG brgMapFields
    ((s.setBrg { s.brg with map := m }).destsMoved (decide (s.rn W_BRG BRG_SLEW = 0)) m (brgMoved s.brg.map m)) := by
  rw [(State.destsMoved_keeps _ _ _).1]
  exact ((State.WinMoves.refl h brg_plain).setBrg _).setBrg _

theorem State.brgRemapped_moves (h : s.Inv) (m : Nat) : s.WinMoves W_BRG brgMapFields (s.brgRemapped m) :=
  (State.destsMoved_moves h m).brgEvent 1 (by decide) (by decide)

theorem State.brgRemapped_brg (m : Nat) : (s.brgRemapped m).brg = ((s.setBrg { s.brg with map := m }).destsMoved
    (decide (s.rn W_BRG BRG_SLEW = 0)) m (brgMoved s.brg.map m)).brg := State.raise_brg _ _ _

/-- The events and the BLEND bits after a move change no destination. -/
theorem State.brgApply_moved (h : s.Inv) {m : Nat} (hne : brgMoved s.brg.map m ≠ []) :
    (s.brgRemapped m).WinMoves W_BRG brgMapFields (s.brgApply m) ∧ (s.brgApply m).brg = (s.brgRemapped m).brg := by
  have hm := State.WinMoves.refl (fs := brgMapFields) (State.brgRemapped_moves h m).inv brg_plain
  rw [State.brgApply_of_moved hne]
  split
  · exact ⟨hm.brgEvent 2 (by decide) (by decide), (State.raise_brg _ _ _).trans (State.sts_brg _ _ _ _)⟩
  · exact ⟨hm.brgBlend, State.brgBlend_brg⟩

theorem State.brgApply_moves (h : s.Inv) (m : Nat) : s.WinMoves W_BRG brgMapFields (s.brgApply m) := by
  by_cases hne : brgMoved s.brg.map m = []
  · rw [State.brgApply_of_kept hne]
    exact (State.WinMoves.refl h brg_plain).setBrg _
  · exact (State.brgRemapped_moves h m).trans (State.brgApply_moved h hne).1

theorem State.brgApply_map (h : s.Inv) (m : Nat) : (s.brgApply m).brg.map = m := by
  by_cases hne : brgMoved s.brg.map m = []
  · rw [State.brgApply_of_kept hne]
    rfl
  · rw [(State.brgApply_moved h hne).2, State.brgRemapped_brg]
    exact (State.destsMoved_keeps _ _ _).2.1

/-- R134: a destination that changes its loop. -/
theorem State.brgApply_dest (h : s.Inv) {m d : Nat} (hslew : s.rn W_BRG BRG_SLEW ≠ 0) (hd : d ∈ brgMoved s.brg.map m) :
    ((s.brgApply m).dest d).delta = ((s.dest d).last - s.dco (bitsOf m (2 * d) 2)) * deltaUnit ∧
      (s.brgApply m).evPending (evNo 6 8) = true := by
  obtain ⟨hmoves, hbrg⟩ := State.brgApply_moved h (List.ne_nil_of_mem hd)
  refine ⟨?_, hmoves.event _ (by decide) (State.stsRaise_evPending (State.destsMoved_moves h m).inv _ _ _ (by decide))⟩
  have hdelta := State.destsMoved_delta (s := s.setBrg { s.brg with map := m }) m d _ hd
  unfold State.dest
  rw [hbrg, State.brgRemapped_brg, decide_eq_false hslew]
  exact hdelta

/-! ### A write of the map (R134, R135) -/

theorem bitsOf_bitsOf_low (v w l k : Nat) (h : l + k ≤ w) : bitsOf (bitsOf v 0 w) l k = bitsOf v l k := by
  apply Nat.eq_of_testBit_eq
  intro i
  rw [bitsOf_testBit, bitsOf_testBit, bitsOf_testBit]
  by_cases hi : i < k
  · have : i + l < w := by omega
    simp [this]
  · simp [hi]

/-- BRG_MAP holds `v`. -/
def State.mapPut (s : State) (v : Nat) : State := s.wr W_BRG BRG_MAP v

theorem State.mapPut_loop (h : s.Canon) (v : Nat) {d : Nat} (hd : d < 7) :
    bitsOf ((s.mapPut v).get W_BRG BRG_MAP_V) (2 * d) 2 = bitsOf v (2 * d) 2 := by
  change bitsOf (bitsOf ((s.wr W_BRG BRG_MAP v).rn W_BRG BRG_MAP) 0 14) (2 * d) 2 = _
  rw [State.rn_wr_same s h, bitsOf_bitsOf_low _ _ _ _ (by omega), bitsOf_mod32 _ _ _ (by omega)]

theorem State.mapPut_dco (v k : Nat) : (s.mapPut v).dco k = s.dco k := by
  have hrn (off : Nat) (ho : off < 0x4000) : (s.mapPut v).rn (W_DPLL + k) off = s.rn (W_DPLL + k) off :=
    State.rn_wr_other s _ _ _ _ _ (regAddr_ne (by decide) ho (.inl (by unfold W_BRG W_DPLL; omega)))
  unfold State.dco State.pair
  rw [hrn _ (by decide), hrn _ (by decide)]

/-- R135: a map written in the safe state waits; another one is applied. -/
theorem State.brgMapWritten_of_safe (hsafe : s.safe = true) : s.brgMapWritten = s.put W_BRG BRG_STATE_PENDING 1 := if_pos hsafe

theorem State.brgMapWritten_of_not_safe (hsafe : s.safe = false) : s.brgMapWritten = s.brgApply (s.get W_BRG BRG_MAP_V) :=
  if_neg (ne_true_of_eq_false hsafe)

theorem State.brgMapWritten_sys (h : s.Inv) : s.brgMapWritten.sys = s.sys := by
  unfold State.brgMapWritten
  split
  · rfl
  · exact (State.brgApply_moves h _).sys

theorem State.wrReg_brgMap (hs : s.Ready) (hr : r ≠ .i2c) (v : Word) :
    ∃ o, s.wrReg r W_BRG BRG_MAP v = ((s.mapPut v.toNat).brgMapWritten).emit o :=
  State.doorWrite_taken hr (by decide) (by decide) (by decide) (State.regWrite_openRun rfl rfl rfl)
    ((State.brgMapWritten_sys (hs.1.wr _ _ _)) ▸ hs.2.1)

theorem brgMapWrite_takes (hs : s.Ready) (hr : r ≠ .i2c) (v : Word) : s.To (.brgMapWrite r v) fun t =>
    (s.safe = true → t.flag W_BRG BRG_STATE_PENDING = true ∧ t.brg = s.brg) ∧
    (s.safe = false → t.brg.map = t.get W_BRG BRG_MAP_V) ∧
    (s.safe = false → s.rn W_BRG BRG_SLEW ≠ 0 → ∀ d, d < 7 → bitsOf s.brg.map (2 * d) 2 ≠ bitsOf v.toNat (2 * d) 2 →
      (t.dest d).delta = ((s.dest d).last - s.dco (bitsOf v.toNat (2 * d) 2)) * 10 ^ 15 ∧ t.evPending (evNo 6 8) = true) := by
  refine .of_emit ((State.wrReg_brgMap hs hr v).imp fun _ => congrArg Host.Outcome.next) fun _ => ?_
  have hput : (s.mapPut v.toNat).Inv := hs.1.wr _ _ _
  simp only [State.emit_flag, State.emit_brg, State.emit_get, State.emit_evPending]
  refine ⟨fun hsafe => ?_, fun hsafe => ?_, fun hsafe hslew d hd hne => ?_⟩
  · rw [State.brgMapWritten_of_safe (s := s.mapPut v.toNat) hsafe]
    exact ⟨State.flag_put_same hput.canon _ _ true rfl (by decide), rfl⟩
  · rw [State.brgMapWritten_of_not_safe (s := s.mapPut v.toNat) hsafe, State.brgApply_map hput,
      (State.brgApply_moves hput _).get _ (by decide)]
  · have hloop := State.mapPut_loop hs.1.canon v.toNat hd
    have hmoved : d ∈ brgMoved (s.mapPut v.toNat).brg.map ((s.mapPut v.toNat).get W_BRG BRG_MAP_V) :=
      List.mem_filter.mpr ⟨List.mem_range.mpr hd, decide_eq_true (by rw [hloop]; exact hne)⟩
    have hslew' : (s.mapPut v.toNat).rn W_BRG BRG_SLEW ≠ 0 := by
      rwa [State.mapPut, State.rn_wr_other _ _ _ _ _ _ (by decide)]
    have hdest := State.brgApply_dest hput hslew' hmoved
    rw [hloop, State.mapPut_dco] at hdest
    rw [State.brgMapWritten_of_not_safe (s := s.mapPut v.toNat) hsafe]
    exact hdest

end

/-- Settles O36: both checks set or clear one flag of the bridge; a map that is written waits, or moves the destinations that change
their loop. -/
theorem bridgeChecks : Obligations.BridgeChecks := by
  unfold Obligations.BridgeChecks
  intro s r v amp off diff hs
  exact ⟨bawFail_checks hs amp off, clkCountCheck_checks hs diff, fun hr => brgMapWrite_takes hs hr v⟩

end Sys2Proof.Machine

/-!
PROOF. The synthesisers (R128 to R139): the enable and the disable as writes of APLLn_CTL, and what the band search, the lock, a VTUNE
sample and a loss of lock show.
-/

namespace Sys2Proof.Machine

section
variable {s t : State} {r : Req} {n : Apll} {fs : List Fld}

/-! ### An APLL's window and record -/

theorem wApll_plain (n : Apll) : wApll n < W_ENG ∧ wApll n ≠ W_EVT := by unfold wApll W_APLL W_ENG W_EVT; omega

theorem winBlock_apll : ∀ n : Apll, winBlock (wApll n) = some (.apll n) := by decide

/-- The events of APLL `n` (R137) are among those of EVT. -/
theorem evNo_apll_lt (n : Apll) {e : Nat} (he : e < 4) : evNo 6 (4 * n + e) < 512 := by unfold evNo; omega

theorem State.WinMoves.ofApll (h : s.Inv) (n : Apll) (fs : List Fld) : s.WinMoves (wApll n) fs s := .refl h (wApll_plain n)

theorem State.modApll_apll (h : s.Inv) (n : Apll) (f : ApllSt → ApllSt) : (s.modApll n f).apll n = f (s.apll n) := by
  obtain ⟨-, -, ⟨-, -, -, -, -, hlen, -⟩, -⟩ := h
  unfold State.apll State.modApll
  rw [lget_lmod, if_pos ⟨rfl, by omega⟩]

theorem State.apllEvent_apll (e m : Nat) : (s.apllEvent n e).apll m = s.apll m := by
  unfold State.apll State.apllEvent
  rw [State.raise_aplls]
  rfl

theorem State.apllEvent_flt (e : Nat) : (s.apllEvent n e).flt = s.flt := State.raise_flt _ _ _

theorem State.apllEvent_evPending (h : s.Inv) {e : Nat} (he : e < 4) : (s.apllEvent n e).evPending (evNo 6 (4 * n + e)) = true :=
  State.stsRaise_evPending h _ _ _ (evNo_apll_lt n he)

namespace State.WinMoves

theorem apllEvent (h : s.WinMoves (wApll n) fs t) {e : Nat} (he : e < 4) (hf : Fld.word APLL_STS ∈ fs) :
    s.WinMoves (wApll n) fs (t.apllEvent n e) := (h.sts _ hf (by decide)).raise (evNo_apll_lt n he)

theorem apllWord (h : s.WinMoves (wApll n) fs t) (w : Int) (hl : Fld.word APLL_M_LO ∈ fs) (hh : Fld.word APLL_M_HI ∈ fs) :
    s.WinMoves (wApll n) fs (t.apllWord n w) := .ite (fun _ => (h.modApll _ _).putPair _ hl hh (by decide)) fun _ => h

theorem phiDrop (h : s.WinMoves (wApll n) fs t) (m : Nat) : s.WinMoves (wApll n) fs (t.phiDrop m) := h.setSync _

theorem lolMessage (h : s.WinMoves (wApll n) fs t) (m : Nat) : s.WinMoves (wApll n) fs (t.lolMessage m) :=
  .ite (fun _ => h.modApll _ _) fun _ => h.fault _ _ _

/-- R410: a band of the plan that waits for the disable. -/
theorem bandApply (h : s.WinMoves (wApll n) fs t) (hb : APLL_CFG_BANDF ∈ fs) (hm : APLL_CFG_BANDMODE ∈ fs) :
    s.WinMoves (wApll n) fs (t.bandApply n) := by
  have hne : W_HLTH ≠ wApll n := by unfold wApll W_HLTH W_APLL; omega
  exact .ite (fun _ => ((((h.put _ hb (by decide)).put _ hm (by decide)).setHlth _).wrOther _ hne (by decide) (by decide)).raise
    (by decide)) fun _ => h

end State.WinMoves

/-! ### The band and the lock (R129, R131) -/

theorem exec_bandSearchDone (band : Fin 128) (hon : s.apllOn n = true) (hforced : s.flag (wApll n) APLL_CFG_BANDMODE = false)
    (hok : s.flag (wApll n) APLL_STATE_BANDOK = false) : exec (.bandSearchDone n band) s = .next
      (((s.put (wApll n) APLL_STATE_BAND band).put (wApll n) APLL_STATE_BANDOK 1).apllEvent n 2) :=
  congrArg Host.Outcome.next (if_pos ⟨hon, ne_true_of_eq_false hforced, ne_true_of_eq_false hok⟩)

theorem bandSearchDone_shows (hs : s.Ready) (band : Fin 128) (hon : s.apllOn n = true)
    (hforced : s.flag (wApll n) APLL_CFG_BANDMODE = false) (hok : s.flag (wApll n) APLL_STATE_BANDOK = false) :
    s.To (.bandSearchDone n band) fun t => t.get (wApll n) APLL_STATE_BAND = band ∧ t.flag (wApll n) APLL_STATE_BANDOK = true ∧
      t.evPending (evNo 6 (4 * n + 2)) = true := by
  have hband := hs.1.put (wApll n) APLL_STATE_BAND band
  have hboth := hband.put (wApll n) APLL_STATE_BANDOK 1
  have hput := (State.WinMoves.ofApll hband n [APLL_STATE_BANDOK, .word APLL_STS]).put (f := APLL_STATE_BANDOK) 1 (by decide)
    (by decide)
  have hevent := (State.WinMoves.ofApll hboth n [.word APLL_STS]).apllEvent (e := 2) (by decide) (by decide)
  refine ⟨_, exec_bandSearchDone band hon hforced hok, ?_, ?_, State.apllEvent_evPending hboth (by decide)⟩
  · rw [hevent.get _ (by decide), hput.get _ (by decide), State.get_put_same s hs.1.canon _ _ _ (by decide)]
    exact Nat.mod_eq_of_lt band.isLt
  · exact (hevent.flag _ (by decide)).trans (State.flag_put_same hband.canon _ _ true rfl (by decide))

/-- LOCK set, LOL cleared, the first lock noted (R129). -/
def State.lockShown (s : State) (n : Nat) : State :=
  ((s.put (wApll n) APLL_STATE_LOCK 1).put (wApll n) APLL_STATE_LOL 0).modApll n fun x => { x with locked := true, owed := false }

theorem exec_apllLockAcquired (hon : s.apllOn n = true) (hok : s.flag (wApll n) APLL_STATE_BANDOK = true)
    (hlock : s.apllLock n = false) : exec (.apllLockAcquired n) s = .next ((s.lockShown n).apllEvent n 0) :=
  congrArg Host.Outcome.next (if_pos ⟨hon, hok, ne_true_of_eq_false hlock⟩)

theorem apllLockAcquired_shows (hs : s.Ready) (hon : s.apllOn n = true) (hok : s.flag (wApll n) APLL_STATE_BANDOK = true)
    (hlock : s.apllLock n = false) : s.To (.apllLockAcquired n) fun t => t.apllLock n = true ∧
      t.flag (wApll n) APLL_STATE_LOL = false ∧ (t.apll n).locked = true ∧ t.evPending (evNo 6 (4 * n)) = true := by
  have hset := hs.1.put (wApll n) APLL_STATE_LOCK 1
  have hclear := (State.WinMoves.ofApll hset n [APLL_STATE_LOL]).put (f := APLL_STATE_LOL) 0 (by decide) (by decide)
  have hshown : (s.lockShown n).Inv := (hclear.modApll _ _).inv
  have hevent := (State.WinMoves.ofApll hshown n [.word APLL_STS]).apllEvent (e := 0) (by decide) (by decide)
  refine ⟨_, exec_apllLockAcquired hon hok hlock, ?_, ?_, ?_, State.apllEvent_evPending hshown (e := 0) (by decide)⟩
  · exact (hevent.flag _ (by decide)).trans ((hclear.flag _ (by decide)).trans
      (State.flag_put_same hs.1.canon _ _ true rfl (by decide)))
  · exact (hevent.flag _ (by decide)).trans (State.flag_put_same hset.canon _ _ false rfl (by decide))
  · rw [State.apllEvent_apll, State.lockShown, State.modApll_apll hclear.inv]

/-! ### The margins (R130) -/

/-- APLL_MARGIN, at the onset of a VTUNE outside its window. -/
def State.marginEvent (s : State) (n : Nat) (onset : Bool) : State := if onset then s.apllEvent n 1 else s

/-- VCO_MARGIN, at the onset of a VTUNE far outside. -/
def State.marginFault (s : State) (n : Nat) (onset : Bool) : State :=
  if onset then (s.sts (wApll n) APLL_STS 32).fault (wApll n) K_VCO_MARGIN (regAddr (wApll n) APLL_VTUNE) else s

/-- A sample of `v` mV with its events and both margins. -/
def State.marginsShown (s : State) (n v : Nat) : State :=
  let out1 := decide (v < 250 ∨ 950 < v)
  let out2 := decide (v < 150 ∨ 1050 < v)
  ((((s.wr (wApll n) APLL_VTUNE v).marginEvent n (out1 && !s.flag (wApll n) APLL_STATE_MARGIN)).marginFault n
    (out2 && !s.flag (wApll n) APLL_STATE_MARGFLT)).put (wApll n) APLL_STATE_MARGIN (b2n out1)).put (wApll n) APLL_STATE_MARGFLT
    (b2n out2)

theorem exec_vtuneSample (hon : s.apllOn n = true) (mv : BitVec 12) : exec (.vtuneSample n mv) s = .next
    (if (s.apll n).locked = true then s.marginsShown n mv.toNat else s.wr (wApll n) APLL_VTUNE mv.toNat) :=
  congrArg Host.Outcome.next ((if_neg (not_not_intro hon)).trans (ite_not _ _ _))

theorem State.marginEvent_flt (onset : Bool) : (s.marginEvent n onset).flt = s.flt := by
  unfold State.marginEvent
  split
  · exact State.apllEvent_flt 1
  · rfl

theorem State.marginFault_msgs (onset : Bool) : (s.marginFault n onset).flt.msgs = s.flt.msgs ++
    (if onset then [⟨wApll n, K_VCO_MARGIN, regAddr (wApll n) APLL_VTUNE, false⟩] else []) := by
  unfold State.marginFault
  split
  · rfl
  · exact (List.append_nil _).symm

/-- What a sample writes beside VTUNE. -/
def apllMarginFields : List Fld := [.word APLL_STS, APLL_STATE_MARGIN, APLL_STATE_MARGFLT]

theorem State.WinMoves.marginNoted (h : s.WinMoves (wApll n) apllMarginFields t) (p q : Bool) :
    s.WinMoves (wApll n) apllMarginFields ((t.marginEvent n p).marginFault n q) :=
  have hevent : s.WinMoves (wApll n) apllMarginFields (t.marginEvent n p) :=
    .ite (fun _ => h.apllEvent (by decide) (by decide)) fun _ => h
  .ite (fun _ => (hevent.sts _ (by decide) (by decide)).fault _ _ _) fun _ => hevent

theorem State.vtune_wr (h : s.Canon) (mv : BitVec 12) :
    (s.wr (wApll n) APLL_VTUNE mv.toNat).rn (wApll n) APLL_VTUNE = mv.toNat := by
  rw [State.rn_wr_same s h, Nat.mod_eq_of_lt (by omega)]

theorem State.marginsShown_spec (h : s.Inv) (mv : BitVec 12) : let t := s.marginsShown n mv.toNat
    t.rn (wApll n) APLL_VTUNE = mv.toNat ∧
      t.flag (wApll n) APLL_STATE_MARGIN = decide (mv.toNat < 250 ∨ 950 < mv.toNat) ∧
      t.flag (wApll n) APLL_STATE_MARGFLT = decide (mv.toNat < 150 ∨ 1050 < mv.toNat) ∧
      t.flt.msgs = s.flt.msgs ++
        (if decide (mv.toNat < 150 ∨ 1050 < mv.toNat) && !s.flag (wApll n) APLL_STATE_MARGFLT then
          [⟨wApll n, K_VCO_MARGIN, regAddr (wApll n) APLL_VTUNE, false⟩] else []) := by
  have hnoted := (State.WinMoves.ofApll (h.wr (wApll n) APLL_VTUNE mv.toNat) n apllMarginFields).marginNoted
    (decide (mv.toNat < 250 ∨ 950 < mv.toNat) && !s.flag (wApll n) APLL_STATE_MARGIN)
    (decide (mv.toNat < 150 ∨ 1050 < mv.toNat) && !s.flag (wApll n) APLL_STATE_MARGFLT)
  have hmargin := hnoted.put (f := APLL_STATE_MARGIN) (b2n (decide (mv.toNat < 250 ∨ 950 < mv.toNat))) (by decide) (by decide)
  have hfault := (State.WinMoves.ofApll hmargin.inv n [APLL_STATE_MARGFLT]).put (f := APLL_STATE_MARGFLT)
    (b2n (decide (mv.toNat < 150 ∨ 1050 < mv.toNat))) (by decide) (by decide)
  refine ⟨?_, ?_, State.flag_put_same hmargin.inv.canon _ _ _ rfl (by decide), ?_⟩
  · exact (hfault.rn _ (by decide)).trans ((hmargin.rn _ (by decide)).trans (State.vtune_wr h.canon mv))
  · exact (hfault.flag _ (by decide)).trans (State.flag_put_same hnoted.inv.canon _ _ _ rfl (by decide))
  · refine (State.marginFault_msgs _).trans ?_
    rw [State.marginEvent_flt]
    rfl

theorem vtuneSample_shows (hs : s.Ready) (mv : BitVec 12) (hon : s.apllOn n = true) : s.To (.vtuneSample n mv) fun t =>
    t.rn (wApll n) APLL_VTUNE = mv.toNat ∧
    ((s.apll n).locked = true →
      t.flag (wApll n) APLL_STATE_MARGIN = decide (mv.toNat < 250 ∨ 950 < mv.toNat) ∧
      t.flag (wApll n) APLL_STATE_MARGFLT = decide (mv.toNat < 150 ∨ 1050 < mv.toNat) ∧
      (t.flag (wApll n) APLL_STATE_MARGFLT = true → s.flag (wApll n) APLL_STATE_MARGFLT = false →
        t.flt.msgs = s.flt.msgs ++ [⟨wApll n, K_VCO_MARGIN, regAddr (wApll n) APLL_VTUNE, false⟩])) := by
  refine ⟨_, exec_vtuneSample hon mv, ?_⟩
  obtain ⟨hvtune, hmargin, hfault, hmsgs⟩ := State.marginsShown_spec (n := n) hs.1 mv
  split
  · refine ⟨hvtune, fun _ => ⟨hmargin, hfault, fun hnow hwas => ?_⟩⟩
    rw [hmsgs, ← hfault, hnow, hwas]
    rfl
  · next hlocked => exact ⟨State.vtune_wr hs.1.canon mv, fun h => absurd h hlocked⟩

/-! ### Loss of lock (R131, R386) -/

/-- A loss of lock before its message. -/
def State.lolShown (s : State) (n : Nat) : State :=
  ((((s.put (wApll n) APLL_STATE_LOCK 0).put (wApll n) APLL_STATE_LOL 1).count (wApll n) APLL_LOLCNT 1).sts (wApll n) APLL_STS
    16).phiDrop n

theorem exec_apllLossOfLock (hlock : s.apllLock n = true) :
    exec (.apllLossOfLock n) s = .next ((s.lolShown n).lolMessage n) := congrArg Host.Outcome.next (if_pos hlock)

theorem State.lolShown_spec (h : s.Inv) : (s.lolShown n).Inv ∧ (s.lolShown n).apllLock n = false ∧
    (s.lolShown n).flag (wApll n) APLL_STATE_LOL = true ∧
    (s.lolShown n).rn (wApll n) APLL_LOLCNT = (s.rn (wApll n) APLL_LOLCNT + 1) % 2 ^ 32 := by
  have hlock := (State.WinMoves.ofApll h n [APLL_STATE_LOCK, APLL_STATE_LOL]).put (f := APLL_STATE_LOCK) 0 (by decide) (by decide)
  have hlol := (State.WinMoves.ofApll hlock.inv n [APLL_STATE_LOCK, APLL_STATE_LOL]).put (f := APLL_STATE_LOL) 1 (by decide)
    (by decide)
  have hbeside := (State.WinMoves.ofApll hlock.inv n [APLL_STATE_LOL]).put (f := APLL_STATE_LOL) 1 (by decide) (by decide)
  have hcount := (State.WinMoves.ofApll hlol.inv n [.word APLL_LOLCNT, .word APLL_STS]).count (off := APLL_LOLCNT) 1 (by decide)
    (by decide)
  have hend := ((State.WinMoves.ofApll hcount.inv n [.word APLL_STS]).sts (off := APLL_STS) 16 (by decide) (by decide)).phiDrop n
  refine ⟨hend.inv, ?_, ?_, ?_⟩
  · exact (hend.flag _ (by decide)).trans ((hcount.flag _ (by decide)).trans ((hbeside.flag _ (by decide)).trans
      (State.flag_put_same h.canon _ _ false rfl (by decide))))
  · exact (hend.flag _ (by decide)).trans ((hcount.flag _ (by decide)).trans
      (State.flag_put_same hlock.inv.canon _ _ true rfl (by decide)))
  · refine (hend.rn _ (by decide)).trans ((State.rn_count_same _ hlol.inv.canon _ _ _).trans ?_)
    rw [(hlock.trans hlol).rn _ (by decide)]

theorem State.lolMessage_of_safe (hsafe : s.safe = true) : s.lolMessage n = s.modApll n fun x => { x with owed := true } :=
  if_pos hsafe

theorem State.lolMessage_of_not_safe (hsafe : s.safe = false) :
    s.lolMessage n = s.fault (wApll n) K_APLL_LOL (regAddr (wApll n) APLL_STATE) := if_neg (ne_true_of_eq_false hsafe)

theorem apllLossOfLock_shows (hs : s.Ready) (hlock : s.apllLock n = true) : s.To (.apllLossOfLock n) fun t =>
    t.apllLock n = false ∧ t.flag (wApll n) APLL_STATE_LOL = true ∧
      t.rn (wApll n) APLL_LOLCNT = (s.rn (wApll n) APLL_LOLCNT + 1) % 2 ^ 32 ∧
      (s.safe = false → t.flt.msgs = s.flt.msgs ++ [⟨wApll n, K_APLL_LOL, regAddr (wApll n) APLL_STATE, false⟩]) ∧
      (s.safe = true → (t.apll n).owed = true ∧ t.flt = s.flt) := by
  obtain ⟨hinv, hclear, hlol, hcount⟩ := State.lolShown_spec (n := n) hs.1
  have hmessage := (State.WinMoves.ofApll hinv n []).lolMessage n
  refine ⟨_, exec_apllLossOfLock hlock, (hmessage.flag _ (by decide)).trans hclear, (hmessage.flag _ (by decide)).trans hlol,
    (hmessage.rn _ (by decide)).trans hcount, fun hsafe => ?_, fun hsafe => ?_⟩
  · rw [State.lolMessage_of_not_safe (s := s.lolShown n) hsafe]
    rfl
  · rw [State.lolMessage_of_safe (s := s.lolShown n) hsafe]
    exact ⟨congrArg ApllSt.owed (State.modApll_apll hinv n _), rfl⟩

end

end Sys2Proof.Machine

/-!
PROOF. Enabling and disabling an APLL as writes of APLLn_CTL (R128, R129, R139, R410), and O37.
-/

namespace Sys2Proof.Machine

section
variable (s : State) (o : Output) (n : Nat)

/-! An answer leaves the APLL (R354). -/

@[simp] theorem State.emit_apll : (s.emit o).apll n = s.apll n := rfl
@[simp] theorem State.emit_apllOn : (s.emit o).apllOn n = s.apllOn n := rfl
@[simp] theorem State.emit_apllLock : (s.emit o).apllLock n = s.apllLock n := rfl

end

section
variable {s t : State} {r : Req} {n : Apll}

/-! ### Writes of APLLn_CTL (R128, R139) -/

theorem openRun_apllCtl (r : Req) (n : Apll) : openRun r (wApll n) APLL_CTL = true := by
  match n with
  | 0 => rfl
  | 1 => rfl

theorem State.view_apllCtl : s.view (wApll n) APLL_CTL = s.rn (wApll n) APLL_CTL := by
  match n with
  | 0 => rfl
  | 1 => rfl

theorem State.srvIgnored_apll (off old v : Nat) : s.srvIgnored (wApll n) off old v = false := by
  simp only [State.srvIgnored, winBlock_apll]

theorem State.refuses_apllCtl (old v : Nat) : s.refuses r (wApll n) APLL_CTL old v =
    if rises old v ∧ s.apllRangeBad n then some (s.sts (wApll n) APLL_STS (2 ^ 3)) else none := by
  simp only [State.refuses, winBlock_apll, true_and]
  rfl

theorem State.written_apllCtl (old : Nat) : s.written r (wApll n) APLL_CTL old =
    if rises old (s.rn (wApll n) APLL_CTL) then s.apllOnNow n
    else if rises (s.rn (wApll n) APLL_CTL) old then (s.apllOffNow n).bandApply n else s := by
  simp only [State.written, winBlock_apll]
  exact if_neg (not_not_intro rfl)

/-- The write of CTL with ENABLE being `b`, before what it does. -/
def State.apllCtlPut (s : State) (n : Nat) (v : Word) (b : Bool) : State := s.wr (wApll n) APLL_CTL (putBits v.toNat 0 1 (b2n b))

theorem bitOf_putBits_b2n (v : Nat) (b : Bool) : bitOf (putBits v 0 1 (b2n b)) 0 = b :=
  (bitOf_putBits_one _ _ _).trans (by cases b <;> rfl)

theorem State.apllOn_eq : s.apllOn n = bitOf (s.rn (wApll n) APLL_CTL) 0 := State.flag_bit _ _ _ _

theorem State.apllCtlPut_bit (h : s.Canon) (v : Word) (b : Bool) :
    bitOf ((s.apllCtlPut n v b).rn (wApll n) APLL_CTL) 0 = b :=
  (State.bitOf_rn_wr h _ _ _ (by decide)).trans (bitOf_putBits_b2n _ _)

theorem State.apllCtlPut_on (h : s.Canon) (v : Word) (b : Bool) : (s.apllCtlPut n v b).apllOn n = b :=
  State.apllOn_eq.trans (State.apllCtlPut_bit h v b)

theorem State.apllCtlPut_moves (h : s.Inv) (v : Word) (b : Bool) :
    s.WinMoves (wApll n) [.word APLL_CTL] (s.apllCtlPut n v b) :=
  (State.WinMoves.ofApll h n _).wr _ (by decide) (by decide)

/-- A write of ENABLE that the APLL takes. -/
theorem State.wrFld_apllEnable (hr : r ≠ .i2c) (v : Word) (b : Bool)
    (hn : ¬ (rises (s.rn (wApll n) APLL_CTL) (putBits v.toNat 0 1 (b2n b)) ∧ s.apllRangeBad n))
    (ht : (s.apllCtlPut n v b).written r (wApll n) APLL_CTL (s.rn (wApll n) APLL_CTL) = t) (hsoft : t.sys.soft = false) :
    ∃ o, s.wrFld r (wApll n) APLL_CTL_ENABLE (b2n b) v = t.emit o := by
  have hw := State.regWrite_openRun (s := s) (openRun_apllCtl r n) (State.srvIgnored_apll _ _ _)
    ((State.refuses_apllCtl _ (putBits v.toNat 0 1 (b2n b))).trans (by rw [State.view_apllCtl]; exact if_neg hn))
  rw [State.view_apllCtl] at hw
  exact State.doorWrite_taken hr (wApll_plain n).1 (by decide) (by decide) (hw.trans (congrArg _ ht)) hsoft

/-! ### Enabling (R128, R129) -/

/-- R128: out of range. -/
theorem apllEnable_refused (hs : s.Ready) (hr : r ≠ .i2c) (v : Word) (hoff : s.apllOn n = false) (hbad : s.apllRangeBad n = true) :
    s.To (.apllEnable r n v) fun t => t.apllOn n = false ∧ bitOf (t.rn (wApll n) APLL_STS) 3 = true ∧
      t.Answered r (regAddr (wApll n) APLL_CTL) .wign (BitVec.ofNat 32 (putBits v.toNat 0 1 1)) := by
  have hrise : rises (s.rn (wApll n) APLL_CTL) (putBits v.toNat 0 1 1) = true :=
    (rises_iff _ _).mpr ⟨State.apllOn_eq.symm.trans hoff, bitOf_putBits_one _ _ _⟩
  have hw := State.regWrite_openRun_refused (s := s) (openRun_apllCtl r n)
    ((State.refuses_apllCtl _ (putBits v.toNat 0 1 1)).trans (by rw [State.view_apllCtl]; exact if_pos ⟨hrise, hbad⟩))
  have hsts := (State.WinMoves.ofApll hs.1 n [.word APLL_STS]).sts (off := APLL_STS) (2 ^ 3) (by decide) (by decide)
  have hrec := (State.WinMoves.ofApll hsts.inv n []).accRecord (by unfold wApll W_HIF W_APLL; omega) r true
    (regAddr (wApll n) APLL_CTL) .wign
  have hdoor := State.doorWrite_reg hr (wApll_plain n).1 (by decide) (by decide) hw
    (by rw [hrec.sys, hsts.sys]; exact hs.2.1)
  refine ⟨_, congrArg Host.Outcome.next hdoor, ?_, ?_, List.getLast?_concat ..⟩
  · exact (hrec.flag _ (by decide)).trans ((hsts.flag _ (by decide)).trans hoff)
  · rw [State.emit_rn, hrec.rn _ (by decide)]
    exact State.sts_bitOf hs.1.canon _ _ (by decide)

/-- APLLn_STATE at an enable: BANDOK and BAND as a forced band gives them, everything else clear. -/
def State.bandStart (s : State) (n : Nat) : Nat :=
  if s.flag (wApll n) APLL_CFG_BANDMODE then 16 + s.get (wApll n) APLL_CFG_BANDF * 2 ^ 8 else 0

/-- The enable before the ratio is in force. -/
def State.apllFresh (s : State) (n : Nat) : State :=
  (s.wr (wApll n) APLL_STATE (s.bandStart n)).modApll n fun _ => ⟨false, false, 0, s.tb.c⟩

/-- The enable before the event of a forced band. -/
def State.apllStarted (s : State) (n : Nat) : State := (s.apllFresh n).apllWord n (s.dest n).full

theorem State.apllOnNow_eq : s.apllOnNow n =
    if s.flag (wApll n) APLL_CFG_BANDMODE then (s.apllStarted n).apllEvent n 2 else s.apllStarted n := rfl

theorem State.apllWord_locked (h : s.Inv) (w : Int) : ((s.apllWord n w).apll n).locked = (s.apll n).locked := by
  unfold State.apllWord
  split
  · exact (congrArg ApllSt.locked (State.modApll_apll h n fun x => { x with vco := s.vcoPhase n s.tb.c, vcoAt := s.tb.c }) :)
  · rfl

theorem State.apllFresh_inv (h : s.Inv) : (s.apllFresh n).Inv := ((State.WinMoves.ofApll (h.wr _ _ _) n []).modApll _ _).inv

theorem State.apllFresh_moves (h : s.Inv) : s.WinMoves (wApll n) [.word APLL_STATE] (s.apllFresh n) :=
  ((State.WinMoves.ofApll h n _).wr _ (by decide) (by decide)).modApll _ _

/-- What an enable writes beside APLLn_STATE. -/
def apllStartFields : List Fld := [.word APLL_M_LO, .word APLL_M_HI, .word APLL_STS]

theorem State.apllStarted_moves (h : s.Inv) : (s.apllFresh n).WinMoves (wApll n) apllStartFields (s.apllStarted n) :=
  (State.WinMoves.ofApll (State.apllFresh_inv h) n _).apllWord _ (by decide) (by decide)

theorem State.apllOnNow_moves (h : s.Inv) : (s.apllFresh n).WinMoves (wApll n) apllStartFields (s.apllOnNow n) := by
  rw [State.apllOnNow_eq]
  exact .ite (fun _ => (State.apllStarted_moves h).apllEvent (by decide) (by decide)) fun _ => State.apllStarted_moves h

theorem State.apllOnNow_locked (h : s.Inv) : ((s.apllOnNow n).apll n).locked = false := by
  have hstart : ((s.apllStarted n).apll n).locked = false :=
    (State.apllWord_locked (State.apllFresh_inv h) _).trans
      (congrArg ApllSt.locked (State.modApll_apll (h.wr (wApll n) APLL_STATE (s.bandStart n)) n _))
  rw [State.apllOnNow_eq]
  split
  · rw [State.apllEvent_apll, hstart]
  · exact hstart

/-- A field of APLLn_STATE as an enable leaves it. -/
theorem State.apllOnNow_state (h : s.Inv) (f : Fld) (ho : f.off = APLL_STATE) (hl : f.lsb + f.width ≤ 32)
    (hf : f.clearOf apllStartFields = true) : (s.apllOnNow n).get (wApll n) f = bitsOf (s.bandStart n) f.lsb f.width := by
  rw [(State.apllOnNow_moves h).get f hf]
  change bitsOf ((s.wr (wApll n) APLL_STATE (s.bandStart n)).rn (wApll n) f.off) f.lsb f.width = _
  rw [ho, State.rn_wr_same s h.canon, bitsOf_mod32 _ _ _ hl]

/-- LOCK and BANDOK at an enable. -/
theorem State.bandStart_bits : bitsOf (s.bandStart n) 0 1 = 0 ∧
    (bitsOf (s.bandStart n) 4 1 != 0) = s.flag (wApll n) APLL_CFG_BANDMODE := by
  unfold State.bandStart
  split
  · next hforced =>
    rw [hforced]
    unfold bitsOf
    exact ⟨by omega, bne_iff_ne.mpr (by omega)⟩
  · next hforced => exact ⟨rfl, (eq_false_of_ne_true hforced).symm⟩

/-- BAND at an enable under BANDMODE = FORCED. -/
theorem State.bandStart_band (hforced : s.flag (wApll n) APLL_CFG_BANDMODE = true) :
    bitsOf (s.bandStart n) 8 7 = s.get (wApll n) APLL_CFG_BANDF := by
  have hlt : s.get (wApll n) APLL_CFG_BANDF < 2 ^ 7 := bitsOf_lt _ _ _
  unfold State.bandStart
  rw [if_pos hforced]
  unfold bitsOf
  omega

theorem State.apllOnNow_spec (h : s.Inv) : let t := s.apllOnNow n
    t.apllOn n = s.apllOn n ∧ t.apllLock n = false ∧ (t.apll n).locked = false ∧
      t.flag (wApll n) APLL_STATE_BANDOK = s.flag (wApll n) APLL_CFG_BANDMODE ∧
      (s.flag (wApll n) APLL_CFG_BANDMODE = true → t.get (wApll n) APLL_STATE_BAND = s.get (wApll n) APLL_CFG_BANDF ∧
        t.evPending (evNo 6 (4 * n + 2)) = true) := by
  obtain ⟨hlock, hbandok⟩ := State.bandStart_bits (s := s) (n := n)
  have hstate (f : Fld) := State.apllOnNow_state (n := n) h f
  refine ⟨?_, ?_, State.apllOnNow_locked h, ?_, fun hforced => ⟨?_, ?_⟩⟩
  · exact ((State.apllOnNow_moves h).flag _ (by decide)).trans ((State.apllFresh_moves h).flag _ (by decide))
  · exact congrArg (· != 0) ((hstate APLL_STATE_LOCK rfl (by decide) (by decide)).trans hlock)
  · exact (congrArg (· != 0) (hstate APLL_STATE_BANDOK rfl (by decide) (by decide))).trans hbandok
  · exact (hstate APLL_STATE_BAND rfl (by decide) (by decide)).trans (State.bandStart_band hforced)
  · rw [State.apllOnNow_eq, if_pos hforced]
    exact State.apllEvent_evPending (State.apllStarted_moves h).inv (by decide)

/-- R128: within range. -/
theorem apllEnable_starts (hs : s.Ready) (hr : r ≠ .i2c) (v : Word) (hoff : s.apllOn n = false) (hgood : s.apllRangeBad n = false) :
    s.To (.apllEnable r n v) fun t => t.apllOn n = true ∧ t.apllLock n = false ∧ (t.apll n).locked = false ∧
      t.flag (wApll n) APLL_STATE_BANDOK = s.flag (wApll n) APLL_CFG_BANDMODE ∧
      (s.flag (wApll n) APLL_CFG_BANDMODE = true → t.get (wApll n) APLL_STATE_BAND = s.get (wApll n) APLL_CFG_BANDF ∧
        t.evPending (evNo 6 (4 * n + 2)) = true) := by
  have hput := State.apllCtlPut_moves (n := n) hs.1 v true
  have hwritten : (s.apllCtlPut n v true).written r (wApll n) APLL_CTL (s.rn (wApll n) APLL_CTL) =
      (s.apllCtlPut n v true).apllOnNow n := (State.written_apllCtl _).trans
    (if_pos ((rises_iff _ _).mpr ⟨State.apllOn_eq.symm.trans hoff, State.apllCtlPut_bit hs.1.canon v true⟩))
  have hsys : ((s.apllCtlPut n v true).apllOnNow n).sys = s.sys :=
    (State.apllOnNow_moves hput.inv).sys.trans ((State.apllFresh_moves hput.inv).sys.trans hput.sys)
  have hdoor := State.wrFld_apllEnable hr v true (fun h => absurd (hgood.symm.trans h.2) (by decide)) hwritten (hsys ▸ hs.2.1)
  obtain ⟨hon, hlock, hlocked, hbandok, hband⟩ := State.apllOnNow_spec (n := n) hput.inv
  rw [hput.flag _ (by decide)] at hbandok hband
  rw [hput.get _ (by decide)] at hband
  refine .of_emit (hdoor.imp fun _ => congrArg Host.Outcome.next) fun _ => ?_
  simp only [State.emit_apll, State.emit_apllOn, State.emit_apllLock, State.emit_flag, State.emit_get, State.emit_evPending]
  exact ⟨hon.trans (State.apllCtlPut_on hs.1.canon v true), hlock, hlocked, hbandok, hband⟩

/-! ### Disabling (R139) -/

/-- Flags of window `w` cleared one by one. -/
def State.clearFlags (s : State) (w : Nat) (fs : List Fld) : State := fs.foldl (fun t f => t.put w f 0) s

theorem State.clearFlags_moves {w : Nat} {fs gs : List Fld} (h : s.WinMoves w fs t) (hs : gs ⊆ fs) (ho : ∀ f ∈ gs, f.off < 0x4000) :
    s.WinMoves w fs (t.clearFlags w gs) :=
  List.foldlRecOn (motive := fun u => s.WinMoves w fs u) gs _ h fun _ hu f hf => hu.put 0 (hs hf) (ho f hf)

/-- Distinct flags are all clear in the end: what is cleared later leaves them. -/
theorem State.clearFlags_clear (h : s.Inv) {w : Nat} (hw : w < W_ENG ∧ w ≠ W_EVT) {fs : List Fld}
    (hbit : ∀ f ∈ fs, f.off < 0x4000 ∧ f.width = 1 ∧ f.lsb + f.width ≤ 32) (hapart : fs.Pairwise fun f g => g.apart f = true) :
    ∀ f ∈ fs, (s.clearFlags w fs).flag w f = false := by
  induction fs generalizing s with
  | nil => nofun
  | cons g fs ih =>
    obtain ⟨hg, hfs⟩ := List.forall_mem_cons.mp hbit
    obtain ⟨hlater, hrest⟩ := List.pairwise_cons.mp hapart
    obtain ⟨hoff, hone, hlt⟩ := hg
    refine List.forall_mem_cons.mpr ⟨?_, ih (h.put _ _ _) hfs hrest⟩
    have hm := State.clearFlags_moves (State.WinMoves.refl (h.put w g 0) hw) (List.Subset.refl fs) fun f hf => (hfs f hf).1
    exact (hm.flag g ((Fld.clearOf_iff g fs).mpr ⟨⟨hoff, by omega, hlt⟩, hlater⟩)).trans
      (State.flag_put_same h.canon _ _ false hone hlt)

/-- The flags that a disable clears. -/
def apllOffFlags : List Fld := [APLL_STATE_LOCK, APLL_STATE_LOL, APLL_STATE_MARGIN, APLL_STATE_MARGFLT]

theorem State.apllOffNow_eq : s.apllOffNow n = ((s.clearFlags (wApll n) apllOffFlags).modApll n fun x =>
    { x with locked := false, owed := false }).phiDrop n := rfl

/-- R139: a disable clears its flags; a band of the plan that waited for it goes to APLLn_CFG (R410). -/
theorem State.apllStopped_spec (h : s.Inv) : let t := (s.apllOffNow n).bandApply n
    t.sys = s.sys ∧ t.apllOn n = s.apllOn n ∧ ∀ f ∈ apllOffFlags, t.flag (wApll n) f = false := by
  have hflags := State.clearFlags_moves (State.WinMoves.ofApll h n apllOffFlags) (List.Subset.refl _) (by decide)
  have hoff : (s.clearFlags (wApll n) apllOffFlags).WinMoves (wApll n) [APLL_CFG_BANDF, APLL_CFG_BANDMODE]
      ((s.apllOffNow n).bandApply n) := by
    rw [State.apllOffNow_eq]
    exact (((State.WinMoves.ofApll hflags.inv n _).modApll _ _).phiDrop n).bandApply (by decide) (by decide)
  refine ⟨hoff.sys.trans hflags.sys, (hoff.flag _ (by decide)).trans (hflags.flag _ (by decide)), fun f hf => ?_⟩
  have hbeside : ∀ f ∈ apllOffFlags, f.clearOf [APLL_CFG_BANDF, APLL_CFG_BANDMODE] = true := by decide
  have hclear := State.clearFlags_clear h (wApll_plain n) (fs := apllOffFlags) (by decide) (by decide)
  exact (hoff.flag f (hbeside f hf)).trans (hclear f hf)

theorem apllDisable_stops (hs : s.Ready) (hr : r ≠ .i2c) (v : Word) (hon : s.apllOn n = true) :
    s.To (.apllDisable r n v) fun t => t.apllOn n = false ∧ t.apllLock n = false ∧ t.flag (wApll n) APLL_STATE_LOL = false ∧
      t.flag (wApll n) APLL_STATE_MARGIN = false ∧ t.flag (wApll n) APLL_STATE_MARGFLT = false := by
  have hput := State.apllCtlPut_moves (n := n) hs.1 v false
  have hnow := State.apllCtlPut_bit (n := n) hs.1.canon v false
  have hold : bitOf (s.rn (wApll n) APLL_CTL) 0 = true := State.apllOn_eq.symm.trans hon
  have hfalls {x : Nat} : ¬ rises (s.rn (wApll n) APLL_CTL) x = true := fun h =>
    absurd (hold.symm.trans ((rises_iff _ _).mp h).1) (by decide)
  have hwritten : (s.apllCtlPut n v false).written r (wApll n) APLL_CTL (s.rn (wApll n) APLL_CTL) =
      ((s.apllCtlPut n v false).apllOffNow n).bandApply n := by
    rw [State.written_apllCtl, if_neg hfalls, if_pos ((rises_iff _ _).mpr ⟨hnow, hold⟩)]
  obtain ⟨hsys, hstop, hclear⟩ := State.apllStopped_spec (n := n) hput.inv
  have hdoor := State.wrFld_apllEnable hr v false (fun h => hfalls h.1) hwritten (hsys.trans hput.sys ▸ hs.2.1)
  refine .of_emit (hdoor.imp fun _ => congrArg Host.Outcome.next) fun _ => ?_
  simp only [State.emit_apllOn, State.emit_apllLock, State.emit_flag]
  exact ⟨hstop.trans (State.apllCtlPut_on hs.1.canon v false), hclear APLL_STATE_LOCK (by decide), hclear APLL_STATE_LOL (by decide),
    hclear APLL_STATE_MARGIN (by decide), hclear APLL_STATE_MARGFLT (by decide)⟩

end

/-- Settles O37: each command is one write of APLLn_CTL or one report, followed to the registers and the record that it leaves. -/
theorem synthesiserCommands : Obligations.SynthesiserCommands := by
  unfold Obligations.SynthesiserCommands
  intro s r n v band mv hs
  exact ⟨fun hr => apllEnable_refused hs hr v, fun hr => apllEnable_starts hs hr v, fun hr => apllDisable_stops hs hr v,
    bandSearchDone_shows hs band, apllLockAcquired_shows hs, vtuneSample_shows hs mv, apllLossOfLock_shows hs⟩

end Sys2Proof.Machine

/-!
PROOF. An output channel's window and record (R142 to R164), and O39: a fret move (R149), the driver detector (R159) and the divider's
shadow counter (R160).
-/

namespace Sys2Proof.Machine

section
variable {s t : State} {n : Chan} {fs : List Fld}

/-! ### A channel's window and record -/

theorem wOut_plain (n : Chan) : wOut n < W_ENG ∧ wOut n ≠ W_EVT := by unfold wOut W_OUT W_ENG W_EVT; omega

/-- The event of channel `n` (R161) is among those of EVT. -/
theorem evNo_out_lt (n : Chan) : evNo (if n.val < 32 then 7 else 8) (n % 32) < 512 := by
  unfold evNo
  split <;> omega

theorem State.WinMoves.ofOut (h : s.Inv) (n : Chan) (fs : List Fld) : s.WinMoves (wOut n) fs s := .refl h (wOut_plain n)

theorem State.modOut_chan (h : s.Inv) (n : Chan) (f : OutSt → OutSt) : (s.modOut n f).chan n = f (s.chan n) := by
  obtain ⟨-, -, ⟨-, -, -, -, -, -, hlen, -⟩, -⟩ := h
  unfold State.chan State.modOut
  rw [lget_lmod, if_pos ⟨rfl, by omega⟩]

theorem State.outEvent_outs (m b : Nat) : (s.outEvent m b).outs = s.outs := State.raise_outs _ _ _

theorem State.outEvent_chan (m b k : Nat) : (s.outEvent m b).chan k = s.chan k := by
  unfold State.chan
  rw [State.outEvent_outs]

theorem State.outEvent_flt (m b : Nat) : (s.outEvent m b).flt = s.flt := State.raise_flt _ _ _

namespace State.WinMoves

theorem modOut (h : s.WinMoves (wOut n) fs t) (m : Nat) (f : OutSt → OutSt) : s.WinMoves (wOut n) fs (t.modOut m f) :=
  h.beyond (State.keeps_inv h.inv (State.modOut_keeps (State.keeps_refl t) m f)) rfl rfl

theorem outEvent (h : s.WinMoves (wOut n) fs t) (b : Nat) (hf : Fld.word OUT_STS ∈ fs) : s.WinMoves (wOut n) fs (t.outEvent n b) :=
  (h.sts _ hf (by decide)).raise (evNo_out_lt n)

end State.WinMoves

/-- R161: the event's bit of OUTn_STS. -/
theorem State.outEvent_bit (h : s.Inv) {b : Nat} (hb : b < 24) : bitOf ((s.outEvent n b).rn (wOut n) OUT_STS) b = true := by
  have hsts := (State.WinMoves.ofOut h n [.word OUT_STS]).sts (off := OUT_STS) (2 ^ b) (by decide) (by decide)
  have hraise := (State.WinMoves.ofOut hsts.inv n []).raise (evNo_out_lt n)
  exact (congrArg (bitOf · b) (hraise.rn OUT_STS (by decide))).trans (State.sts_bitOf h.canon _ _ hb)

/-! ### Fret moves (R149) -/

/-- The fret next to the one applied, towards the target. -/
def State.fretNear (s : State) (n : Nat) : Nat := if s.fretA n < s.fretT n then s.fretA n + 1 else s.fretA n - 1

/-- The fret `a` applied, with the wait after a move. -/
def State.fretMoved (s : State) (n a : Nat) : State :=
  (s.fretStep n a).modOut n fun x => { x with fretNext := some (s.after (s.fstep n)) }

theorem exec_fretMove (hrun : s.outRun n = true) (hgate : s.gated n = false) (hlow : s.outHigh n = false)
    (hedge : (s.chan n).start.getD 0 ≤ s.phaseNow n) (hnext : (s.chan n).fretNext = none) (hne : s.fretA n ≠ s.fretT n) :
    exec (.fretMove n) s = .next (if s.fretNear n = s.fretT n then (s.fretMoved n (s.fretNear n)).outEvent n 3
      else s.fretMoved n (s.fretNear n)) := by
  refine congrArg Host.Outcome.next ((if_pos ⟨hrun, ne_true_of_eq_false hgate, ne_true_of_eq_false hlow, hedge, ?_⟩).trans
    (if_pos hne))
  rw [hnext]

/-- A move that still waits for the end of the last one. -/
theorem exec_fretMove_waiting {d : Nat} (hnext : (s.chan n).fretNext = some d) (hd : s.due d = false) :
    exec (.fretMove n) s = .next s := by
  refine congrArg Host.Outcome.next (if_neg fun h => ?_)
  obtain ⟨-, -, -, -, hready⟩ := h
  rw [hnext] at hready
  exact absurd (hd.symm.trans hready) (by decide)

theorem State.fretMoved_moves (h : s.Inv) (a : Nat) : s.WinMoves (wOut n) [OUT_FRETAPP_A] (s.fretMoved n a) :=
  (((State.WinMoves.ofOut h n _).put a (by decide) (by decide)).modOut _ _).modOut _ _

theorem State.fretMoved_spec (h : s.Inv) {a : Nat} (ha : a < 2 ^ 9) : (s.fretMoved n a).fretA n = a ∧
    (s.fretMoved n a).fretT n = s.fretT n ∧
    ((s.fretMoved n a).chan n).fretNext = some ((s.tb.c + s.fstep n) % 2 ^ 96) := by
  have hput := (State.WinMoves.ofOut h n [OUT_FRETAPP_A]).put (f := OUT_FRETAPP_A) a (by decide) (by decide)
  refine ⟨(State.get_put_same s h.canon _ _ _ (by decide)).trans (Nat.mod_eq_of_lt ha),
    (State.fretMoved_moves h a).get OUT_FRETAPP_T (by decide), ?_⟩
  exact congrArg OutSt.fretNext (State.modOut_chan (hput.modOut _ _).inv n _)

theorem State.fretNear_lt : s.fretNear n < 2 ^ 9 := by
  have ha : s.fretA n < 2 ^ 9 := bitsOf_lt _ _ _
  have ht : s.fretT n < 2 ^ 9 := bitsOf_lt _ _ _
  unfold State.fretNear
  split <;> omega

/-- The move that reaches the target. -/
theorem State.fretNear_eq_target (h : s.fretA n + 1 = s.fretT n ∨ s.fretT n + 1 = s.fretA n) : s.fretNear n = s.fretT n := by
  unfold State.fretNear
  split <;> omega

theorem fretMove_moves (hs : s.Ready) (hrun : s.outRun n = true) (hgate : s.gated n = false) (hlow : s.outHigh n = false)
    (hedge : (s.chan n).start.getD 0 ≤ s.phaseNow n) (hnext : (s.chan n).fretNext = none) (hne : s.fretA n ≠ s.fretT n) :
    s.To (.fretMove n) fun t => t.fretA n = (if s.fretA n < s.fretT n then s.fretA n + 1 else s.fretA n - 1) ∧
      t.fretT n = s.fretT n ∧ (t.chan n).fretNext = some ((s.tb.c + s.fstep n) % 2 ^ 96) ∧
      (s.fretA n + 1 = s.fretT n ∨ s.fretT n + 1 = s.fretA n → bitOf (t.rn (wOut n) OUT_STS) 3 = true) := by
  refine ⟨_, exec_fretMove hrun hgate hlow hedge hnext hne, ?_⟩
  obtain ⟨happlied, htarget, hwait⟩ := State.fretMoved_spec (n := n) hs.1 s.fretNear_lt
  have hinv := (State.fretMoved_moves (n := n) hs.1 (s.fretNear n)).inv
  split
  · have hevent := (State.WinMoves.ofOut hinv n [.word OUT_STS]).outEvent 3 (by decide)
    exact ⟨(hevent.get OUT_FRETAPP_A (by decide)).trans happlied, (hevent.get OUT_FRETAPP_T (by decide)).trans htarget,
      (congrArg OutSt.fretNext (State.outEvent_chan _ _ _)).trans hwait, fun _ => State.outEvent_bit hinv (by decide)⟩
  · next hbefore => exact ⟨happlied, htarget, hwait, fun hlast => absurd (State.fretNear_eq_target hlast) hbefore⟩

/-! ### The driver detector (R159) -/

/-- More bad edges in a row. -/
def State.drvBadRun (s : State) (n edges : Nat) : State :=
  s.modOut n fun x => { x with bad := (s.chan n).bad + edges, good := 0 }

/-- More good edges in a row. -/
def State.drvGoodRun (s : State) (n edges : Nat) : State :=
  s.modOut n fun x => { x with bad := 0, good := (s.chan n).good + edges }

/-- DRVBAD is set already, or the run of bad edges is still below DFN. -/
theorem exec_driverFaultDetection_counts {edges : Nat} {static : Bool}
    (h : s.flag (wOut n) OUT_STATE_DRVBAD = true ∨ (static = false ∧ (s.chan n).bad + edges < s.dfn n)) :
    exec (.driverFaultDetection ⟨n, edges, static⟩) s = .next (s.drvBadRun n edges) :=
  congrArg Host.Outcome.next (if_pos (h.imp_right fun hrun => ⟨ne_true_of_eq_false hrun.1, hrun.2⟩))

/-- A failure: detected on a channel that drives its pin, else owed. -/
theorem exec_driverFaultDetection_failure {edges : Nat} {static : Bool} (hclear : s.flag (wOut n) OUT_STATE_DRVBAD = false)
    (hbad : static = true ∨ s.dfn n ≤ (s.chan n).bad + edges) : exec (.driverFaultDetection ⟨n, edges, static⟩) s = .next
      (if s.outRun n = true ∧ ¬ s.gated n = true then (s.drvBadRun n edges).drvDetect n
        else (s.drvBadRun n edges).modOut n fun x => { x with owed := true }) := by
  refine congrArg Host.Outcome.next (if_neg fun h => ?_)
  rcases h with hset | ⟨hdynamic, hfew⟩
  · exact absurd (hclear.symm.trans hset) (by decide)
  · exact hbad.elim hdynamic (Nat.not_le.mpr hfew)

theorem exec_drvbadClear_counts {edges : Nat} (h : (s.chan n).good + edges < s.dfn n) :
    exec (.drvbadClear ⟨n, edges⟩) s = .next (s.drvGoodRun n edges) := congrArg Host.Outcome.next (if_pos h)

theorem exec_drvbadClear_clears {edges : Nat} (h : s.dfn n ≤ (s.chan n).good + edges) : exec (.drvbadClear ⟨n, edges⟩) s = .next
    (((s.drvGoodRun n edges).put (wOut n) OUT_STATE_DRVBAD 0).modOut n fun x => { x with owed := false }) :=
  congrArg Host.Outcome.next (if_neg (Nat.not_lt.mpr h))

theorem State.drvBadRun_moves (h : s.Inv) (edges : Nat) : s.WinMoves (wOut n) [] (s.drvBadRun n edges) :=
  (State.WinMoves.ofOut h n []).modOut _ _

theorem State.drvGoodRun_moves (h : s.Inv) (edges : Nat) : s.WinMoves (wOut n) [] (s.drvGoodRun n edges) :=
  (State.WinMoves.ofOut h n []).modOut _ _

/-- R159: a failure sets DRVBAD, counts and sends one message. -/
theorem State.drvDetect_spec (h : s.Inv) : let t := s.drvDetect n
    t.flag (wOut n) OUT_STATE_DRVBAD = true ∧ t.rn (wOut n) OUT_DRVCNT = (s.rn (wOut n) OUT_DRVCNT + 1) % 2 ^ 32 ∧
      t.outst n = s.outst n ∧ t.flt.msgs = s.flt.msgs ++ [⟨wOut n, K_DRV_FAULT, regAddr (wOut n) OUT_STATE, false⟩] := by
  have hbad := (State.WinMoves.ofOut h n [OUT_STATE_DRVBAD]).put (f := OUT_STATE_DRVBAD) 1 (by decide) (by decide)
  have hcount := (State.WinMoves.ofOut hbad.inv n [.word OUT_DRVCNT]).count (off := OUT_DRVCNT) 1 (by decide) (by decide)
  have hend := (((State.WinMoves.ofOut hcount.inv n [.word OUT_STS]).outEvent 7 (by decide)).modOut n
    fun x => { x with owed := false }).fault (wOut n) K_DRV_FAULT (regAddr (wOut n) OUT_STATE)
  refine ⟨?_, ?_, ?_, ?_⟩
  · exact (hend.flag _ (by decide)).trans ((hcount.flag _ (by decide)).trans (State.flag_put_same h.canon _ _ true rfl (by decide)))
  · refine (hend.rn _ (by decide)).trans ((State.rn_count_same _ hbad.inv.canon _ _ _).trans ?_)
    rw [hbad.rn _ (by decide)]
  · exact (hend.get OUT_STATE_OUTST (by decide)).trans ((hcount.get _ (by decide)).trans (hbad.get _ (by decide)))
  · exact congrArg (·.msgs ++ _) (State.outEvent_flt (s := (s.put _ _ _).count _ _ _) n 7)

/-- A failure on a channel that drives its pin. -/
theorem driverFaultDetection_detects (hs : s.Ready) {edges : Nat} {static : Bool} (hclear : s.flag (wOut n) OUT_STATE_DRVBAD = false)
    (hbad : static = true ∨ s.dfn n ≤ (s.chan n).bad + edges) (hlive : s.outRun n = true ∧ s.gated n = false) :
    s.To (.driverFaultDetection ⟨n, edges, static⟩) fun t => t.flag (wOut n) OUT_STATE_DRVBAD = true ∧
      t.rn (wOut n) OUT_DRVCNT = (s.rn (wOut n) OUT_DRVCNT + 1) % 2 ^ 32 ∧ t.outst n = 3 ∧
      t.flt.msgs = s.flt.msgs ++ [⟨wOut n, K_DRV_FAULT, regAddr (wOut n) OUT_STATE, false⟩] := by
  obtain ⟨hrun, hgate⟩ := hlive
  obtain ⟨hset, hcount, houtst, hmsgs⟩ := State.drvDetect_spec (n := n) (State.drvBadRun_moves (n := n) hs.1 edges).inv
  exact ⟨_, (exec_driverFaultDetection_failure hclear hbad).trans
    (congrArg Host.Outcome.next (if_pos ⟨hrun, ne_true_of_eq_false hgate⟩)), hset, hcount, houtst.trans (eq_of_beq hrun), hmsgs⟩

/-- A failure on a masked channel. -/
theorem driverFaultDetection_owes (hs : s.Ready) {edges : Nat} {static : Bool} (hclear : s.flag (wOut n) OUT_STATE_DRVBAD = false)
    (hbad : static = true ∨ s.dfn n ≤ (s.chan n).bad + edges) (hmasked : ¬ (s.outRun n = true ∧ s.gated n = false)) :
    s.To (.driverFaultDetection ⟨n, edges, static⟩) fun t => (t.chan n).owed = true ∧ t.regs = s.regs ∧ t.flt = s.flt :=
  ⟨_, (exec_driverFaultDetection_failure hclear hbad).trans
    (congrArg Host.Outcome.next (if_neg fun h => hmasked (h.imp_right eq_false_of_ne_true))),
    congrArg OutSt.owed (State.modOut_chan (State.drvBadRun_moves hs.1 edges).inv n _), rfl, rfl⟩

theorem driverFaultDetection_counts (hs : s.Ready) {edges : Nat} {static : Bool}
    (h : s.flag (wOut n) OUT_STATE_DRVBAD = true ∨ (static = false ∧ (s.chan n).bad + edges < s.dfn n)) :
    s.To (.driverFaultDetection ⟨n, edges, static⟩) fun t =>
      (t.chan n).bad = (s.chan n).bad + edges ∧ (t.chan n).good = 0 ∧ t.regs = s.regs ∧ t.flt = s.flt :=
  have hchan := State.modOut_chan hs.1 n fun x => { x with bad := (s.chan n).bad + edges, good := 0 }
  ⟨_, exec_driverFaultDetection_counts h, congrArg OutSt.bad hchan, congrArg OutSt.good hchan, rfl, rfl⟩

/-- DFN good edges in a row. -/
theorem drvbadClear_clears (hs : s.Ready) {edges : Nat} (h : s.dfn n ≤ (s.chan n).good + edges) :
    s.To (.drvbadClear ⟨n, edges⟩) fun t => t.flag (wOut n) OUT_STATE_DRVBAD = false ∧ (t.chan n).owed = false ∧
      (t.chan n).bad = 0 ∧ t.outst n = s.outst n := by
  have hgood := State.drvGoodRun_moves (n := n) hs.1 edges
  have hput := (State.WinMoves.ofOut hgood.inv n [OUT_STATE_DRVBAD]).put (f := OUT_STATE_DRVBAD) 0 (by decide) (by decide)
  have hchan := State.modOut_chan hput.inv n fun x => { x with owed := false }
  refine ⟨_, exec_drvbadClear_clears h, State.flag_put_same hgood.inv.canon _ _ false rfl (by decide), congrArg OutSt.owed hchan,
    (congrArg OutSt.bad hchan).trans ?_, (hput.get _ (by decide)).trans (hgood.get _ (by decide))⟩
  exact congrArg OutSt.bad (State.modOut_chan hs.1 n fun x => { x with bad := 0, good := (s.chan n).good + edges })

theorem drvbadClear_counts (hs : s.Ready) {edges : Nat} (h : (s.chan n).good + edges < s.dfn n) :
    s.To (.drvbadClear ⟨n, edges⟩) fun t => (t.chan n).good = (s.chan n).good + edges ∧ (t.chan n).bad = 0 ∧ t.regs = s.regs :=
  have hchan := State.modOut_chan hs.1 n fun x => { x with bad := 0, good := (s.chan n).good + edges }
  ⟨_, exec_drvbadClear_counts h, congrArg OutSt.good hchan, congrArg OutSt.bad hchan, rfl⟩

/-! ### The shadow counter (R160) -/

theorem dividerTerminalCount_mismatch (hs : s.Ready) (hrun : s.outRun n = true) : s.To (.dividerTerminalCount n false) fun t =>
    t.flag (wOut n) OUT_STATE_DIVBAD = true ∧ t.outst n = 3 ∧
      t.flt.msgs = s.flt.msgs ++ [⟨wOut n, K_DIV_PHASE, regAddr (wOut n) OUT_DIV, false⟩] := by
  have hput := (State.WinMoves.ofOut hs.1 n [OUT_STATE_DIVBAD]).put (f := OUT_STATE_DIVBAD) 1 (by decide) (by decide)
  exact ⟨_, congrArg Host.Outcome.next (if_pos ⟨hrun, Bool.false_ne_true⟩),
    State.flag_put_same hs.1.canon _ _ true rfl (by decide), (hput.get OUT_STATE_OUTST (by decide)).trans (eq_of_beq hrun), rfl⟩

theorem exec_dividerTerminalCount_equal : exec (.dividerTerminalCount n true) s = .next s :=
  congrArg Host.Outcome.next (if_neg fun h => h.2 rfl)

end

/-- Settles O39: each command is one case of its conditions, followed to the fields of OUTn and the record that it leaves. -/
theorem channelWatch : Obligations.ChannelWatch := by
  unfold Obligations.ChannelWatch
  intro s n hs
  refine ⟨fun hlive => fretMove_moves hs hlive.1 hlive.2, fun d hnext hd => ⟨s, exec_fretMove_waiting hnext hd, rfl⟩,
    fun edges static => ⟨fun hclear hbad => ⟨driverFaultDetection_detects hs hclear hbad, driverFaultDetection_owes hs hclear hbad⟩,
      driverFaultDetection_counts hs, drvbadClear_clears hs, drvbadClear_counts hs⟩,
    dividerTerminalCount_mismatch hs, ⟨s, exec_dividerTerminalCount_equal, rfl⟩⟩

end Sys2Proof.Machine

/-!
PROOF. O38: a safe action that no encoding names. The model's record of a channel can hold one, SAFEACT of OUTn_STATE cannot show it.
-/

namespace Sys2Proof.Machine

/-- The clocks run, C is 5 s, the safe state is forced, OUT39 runs on the TB clock once enabled, and its record holds the captured
action 3, which stands for none of SAFE_HOLD, SAFE_STOP and SAFE_HIZ (R155). -/
def actionThreeCaptured : State :=
  let clocked := State.reset.setTb { State.reset.tb with running := true, c := 65536 * 5000000000 }
  ((clocked.put (wOut 39) OUT_CFG_CLKSEL 2).setFlt { State.reset.flt with st := .safe }).modOut 39
    fun x => { x with safeCap := some 3 }

theorem actionThreeCaptured_ready : actionThreeCaptured.Ready := by
  unfold State.Ready State.Inv State.Sized TbSt.Ok Eng.Ok
  decide

/-- The channel can be enabled and starts at once, neither gated nor with an action that waits. -/
theorem actionThreeCaptured_starts : actionThreeCaptured.flag (wOut 39) OUT_CTL_ENABLE = false ∧
    actionThreeCaptured.outRangeBad 39 = false ∧ ¬ actionThreeCaptured.clksel 39 < 2 ∧ actionThreeCaptured.gated 39 = false := by
  decide

/-- The enable command: action 3 would show as 4, of which the two bits of SAFEACT keep 0. -/
theorem actionThreeCaptured_outEnable :
    actionThreeCaptured.To (.outEnable .pcie 39 0) fun t => t.outst 39 = 3 ∧ t.safeAct 39 = 0 :=
  ⟨_, rfl, by decide⟩

/-- Refutes O38: of an enable in the safe state it says that SAFEACT shows the captured action `a` as `a + 1`, without the bound
`a < 3` that it puts on an action that waits. With action 3 captured, which the invariant admits and no safe-state command captures
(`State.safeSel`), the channel starts with SAFEACT 0, not 4. -/
theorem not_channelControl : ¬ Obligations.ChannelControl := by
  unfold Obligations.ChannelControl
  intro h
  obtain ⟨hoff, hrange, hclk, hgate⟩ := actionThreeCaptured_starts
  obtain ⟨-, enable, -⟩ := h actionThreeCaptured .pcie 39 0 actionThreeCaptured_ready (by decide)
  obtain ⟨t, ⟨-, -, -, safe⟩, -, hshown⟩ := (enable hoff hrange).and actionThreeCaptured_outEnable
  obtain ⟨-, captured⟩ := safe (fun hwaits => hclk hwaits.1) rfl hgate rfl
  exact absurd (hshown.symm.trans (captured 3 rfl)) (by decide)

end Sys2Proof.Machine

/-!
PROOF. SYNC's window and record (chapter 8): what its events leave, writes of its command registers (R19, R356), and what a message
to the ring leaves of it (R168, R176, R268).
-/

namespace Sys2Proof.Machine

section
variable {s t u : State} {r : Req} {w : Nat} {fs : List Fld}

/-! ### What operations beside SYNC's window leave of a window -/

namespace State.WinMoves

theorem setGl (h : s.WinMoves w fs t) (x : GlSt) : s.WinMoves w fs (t.setGl x) := h.beyond h.inv rfl rfl
theorem setCal (h : s.WinMoves w fs t) (x : CalSt) : s.WinMoves w fs (t.setCal x) := h.beyond h.inv rfl rfl
theorem learnCheck (h : s.WinMoves w fs t) : s.WinMoves w fs t.learnCheck := h.beyond h.inv rfl rfl

theorem modChan (h : s.WinMoves w fs t) (n : Nat) (f : OutSt → OutSt) : s.WinMoves w fs (t.modOut n f) :=
  h.beyond (State.keeps_inv h.inv (State.modOut_keeps (State.keeps_refl t) n f)) rfl rfl

/-- A field of another window's register. -/
theorem putOther (h : s.WinMoves w fs t) {w' : Nat} {f : Fld} (v : Nat) (hne : w' ≠ w) (hevt : w' ≠ W_EVT) (ho : f.off < 0x4000) :
    s.WinMoves w fs (t.put w' f v) := h.wrOther _ hne hevt ho

theorem foldl {α : Type} {op : State → α → State} {l : List α} (h : s.WinMoves w fs t)
    (hop : ∀ (u : State) i, s.WinMoves w fs u → s.WinMoves w fs (op u i)) : s.WinMoves w fs (l.foldl op t) :=
  List.foldlRecOn _ _ h fun u hu i _ => hop u i hu

theorem mono {gs : List Fld} (h : s.WinMoves w gs t) (hs : gs ⊆ fs) : s.WinMoves w fs t where
  plain := h.plain
  inv := h.inv
  sys := h.sys
  get g hg :=
    have ⟨hfit, hall⟩ := (Fld.clearOf_iff g fs).mp hg
    h.get g ((Fld.clearOf_iff g gs).mpr ⟨hfit, fun f hf => hall f (hs hf)⟩)
  event := h.event

theorem pair (h : s.WinMoves w fs t) (off : Nat) (hl : (Fld.word off).clearOf fs = true)
    (hh : (Fld.word (off + 4)).clearOf fs = true) : t.pair w off = s.pair w off := by
  unfold State.pair
  rw [h.rn _ hl, h.rn _ hh]

theorem triple (h : s.WinMoves w fs t) (off : Nat) (h0 : (Fld.word off).clearOf fs = true)
    (h1 : (Fld.word (off + 4)).clearOf fs = true) (h2 : (Fld.word (off + 8)).clearOf fs = true) :
    t.triple w off = s.triple w off := by
  unfold State.triple
  rw [h.rn _ h0, h.rn _ h1, h.rn _ h2]

/-- A time in three registers of the window. -/
theorem putInstant (h : s.WinMoves w fs t) {off : Nat} (i : Nat) (h0 : Fld.word off ∈ fs) (h1 : Fld.word (off + 4) ∈ fs)
    (h2 : Fld.word (off + 8) ∈ fs) (ho : off + 8 < 0x4000) : s.WinMoves w fs (t.putInstant w off i) :=
  ((h.wr _ h0 (by omega)).wr _ h1 (by omega)).wr _ h2 ho

/-- A cell to the ring, kept or dropped (R268). -/
theorem glTiming (h : s.WinMoves w fs t) (hne : W_GL ≠ w) (cls : Nat) (p : List Byte) : s.WinMoves w fs (t.glTiming cls p).2 := by
  have hqueue {v : State} (hv : s.WinMoves w fs v) (x : GlTx) : s.WinMoves w fs (v.glQueue x) :=
    .ite (fun _ => hv.setGl _) fun _ => hv
  unfold State.glTiming
  split
  · exact (hqueue (hqueue (h.setGl _) _) _).setGl _
  · split
    · exact h.setGl _
    · exact ((h.wrOther _ hne (by decide) (by decide)).wrOther _ hne (by decide) (by decide)).raise (by decide)

end State.WinMoves

theorem State.glQueue_sync (x : GlTx) : (s.glQueue x).sync = s.sync := by
  unfold State.glQueue
  split <;> rfl

theorem State.glTiming_sync (cls : Nat) (p : List Byte) : (s.glTiming cls p).2.sync = s.sync := by
  unfold State.glTiming
  split
  · exact (State.glQueue_sync _).trans (State.glQueue_sync _)
  · split
    · rfl
    · exact State.raise_sync _ _ _

/-! ### SYNC's events (R185) -/

theorem sync_plain : W_SYNC < W_ENG ∧ W_SYNC ≠ W_EVT := by decide

theorem State.WinMoves.ofSync (h : s.Inv) (fs : List Fld) : s.WinMoves W_SYNC fs s := .refl h sync_plain

theorem evNo_sync_lt {b : Nat} (hb : b < 32) : evNo 6 b < 512 := by unfold evNo; omega

theorem State.WinMoves.syncEvent (h : s.WinMoves W_SYNC fs t) (bit : Nat) {b : Nat} (hb : b < 32) (hf : Fld.word SYNC_STS ∈ fs) :
    s.WinMoves W_SYNC fs (t.syncEvent bit b) := (h.sts _ hf (by decide)).raise (evNo_sync_lt hb)

/-- What an event of SYNC leaves of another window. -/
theorem State.WinMoves.syncEventOther (h : s.WinMoves w fs t) (hne : W_SYNC ≠ w) (bit : Nat) {b : Nat} (hb : b < 32) :
    s.WinMoves w fs (t.syncEvent bit b) := (h.wrOther _ hne (by decide) (by decide)).raise (evNo_sync_lt hb)

theorem State.syncEvent_sync (bit b : Nat) : (s.syncEvent bit b).sync = s.sync := State.raise_sync _ _ _

theorem State.syncEvent_chan (bit b n : Nat) : (s.syncEvent bit b).chan n = s.chan n := by
  unfold State.chan State.syncEvent
  rw [State.raise_outs]
  rfl

theorem State.syncEvent_evPending (h : s.Inv) (bit : Nat) {b : Nat} (hb : b < 32) :
    (s.syncEvent bit b).evPending (evNo 6 b) = true := State.stsRaise_evPending h _ _ _ (evNo_sync_lt hb)

theorem State.syncEvent_bit (h : s.Inv) {bit b : Nat} (hbit : bit < 24) (hb : b < 32) :
    bitOf ((s.syncEvent bit b).rn W_SYNC SYNC_STS) bit = true := by
  have hsts := (State.WinMoves.ofSync h [.word SYNC_STS]).sts (off := SYNC_STS) (2 ^ bit) (by decide) (by decide)
  have hraise := (State.WinMoves.ofSync hsts.inv []).raise (evNo_sync_lt hb)
  exact (congrArg (bitOf · bit) (hraise.rn SYNC_STS (by decide))).trans (State.sts_bitOf h.canon _ _ hbit)

/-! ### Writes of command registers (R356) -/

/-- The register at `off` of window `w` is a command behind no guard lock; whoever asks may give it, in a whole word. -/
def openCmd (r : Req) (w off : Nat) : Bool :=
  (regRow w off).map RegRow.cls == some .cmd && w != W_GUARD && w != W_NVS && w != W_CAL && (guardGroup w off).isNone &&
    mayWrite r w off && !stagedReg w off

theorem openCmd_iff (r : Req) (w off : Nat) : openCmd r w off = true ↔
    (regRow w off).map RegRow.cls = some .cmd ∧ w ≠ W_GUARD ∧ w ≠ W_NVS ∧ w ≠ W_CAL ∧ guardGroup w off = none ∧
      mayWrite r w off = true ∧ stagedReg w off = false := by
  simp [openCmd, and_assoc]

/-- A command that nothing refuses is carried out, once the TB clock takes crossings (R19). -/
theorem State.regWrite_openCmd {off v : Nat} (h : openCmd r w off = true) (hclk : s.tbClocked = true)
    (hn : s.refuses r w off (s.view w off) v = none) : s.regWrite r w off .plain v = (.ok, s.cmdAct r w off v) := by
  obtain ⟨hrow, hguard, hnvs, hcal, hgroup, hm, hg⟩ := (openCmd_iff r w off).mp h
  obtain ⟨row, hrow, hc⟩ := Option.map_eq_some_iff.mp hrow
  have hlock : s.writeLocked w off .plain v = false := by simp [State.writeLocked, State.guarded, hgroup, hnvs]
  rw [State.regWrite_cmd hrow hc hguard hlock hm hn hg, if_neg fun hseq => hcal hseq.1, State.cmdEffect,
    if_neg fun hheld => hheld.2 hclk]

/-- A command of SYNC at its door: it is carried out and answered. -/
theorem State.doorWrite_syncCmd (hs : s.Ready) (hr : r ≠ .i2c) {off v : Nat} (ho : off < 0x1000) (h4 : off % 4 = 0)
    (hopen : openCmd r W_SYNC off = true) (hact : s.cmdAct r W_SYNC off v = t) (hsys : t.sys = s.sys) :
    ∃ o, s.doorWrite r (regAddr W_SYNC off) 15 v = t.emit o :=
  State.doorWrite_taken hr (by decide) h4 ho ((State.regWrite_openCmd hopen hs.2.2 rfl).trans (congrArg _ hact)) (hsys ▸ hs.2.1)

end

section
variable (s : State) (o : Output) (g n : Nat)

/-! An answer leaves SYNC (R354). -/

@[simp] theorem State.emit_syncArmed : (s.emit o).syncArmed = s.syncArmed := rfl
@[simp] theorem State.emit_syncPlaced : (s.emit o).syncPlaced = s.syncPlaced := rfl
@[simp] theorem State.emit_srst : (s.emit o).srst g = s.srst g := rfl
@[simp] theorem State.emit_sr : (s.emit o).sr g = s.sr g := rfl
@[simp] theorem State.emit_chan : (s.emit o).chan n = s.chan n := rfl

end

end Sys2Proof.Machine

/-!
PROOF. Arming and disarming a sync reset (R168, R169) and edges of SYNC_IN (R171), as O40 states them.
-/

namespace Sys2Proof.Machine

section
variable {s t u : State} {r : Req} {v : Word}

/-! ### SYNC_STATE -/

/-- SYNC is armed with trigger `g`, not yet placed, at instant `u` where it is known. -/
def State.ArmedFor (t : State) (g : Nat) (u : Option Nat) : Prop :=
  t.syncArmed = true ∧ t.get W_SYNC SYNC_STATE_TRIGARM = g ∧ t.syncPlaced = false ∧ t.sync.t = u

/-- SYNC_STATE at an arm over `x`. -/
def armWord (x trig : Nat) (ring : Bool) : Nat := putBits (putBits (putBits (putBits x 0 1 1) 1 2 trig) 3 1 (b2n ring)) 4 1 0

theorem armWord_fields (x trig : Nat) (ring : Bool) : bitsOf (armWord x trig ring) 0 1 = 1 ∧
    bitsOf (armWord x trig ring) 1 2 = trig % 4 ∧ bitsOf (armWord x trig ring) 4 1 = 0 ∧
    bitsOf (armWord x trig ring) 16 16 = bitsOf x 16 16 := by
  have beside (v l w k l' w' : Nat) := bitsOf_putBits_other v l w k l' w'
  unfold armWord
  refine ⟨?_, ?_, bitsOf_putBits_same _ _ _ _, ?_⟩
  · rw [beside _ _ _ _ _ _ (by decide), beside _ _ _ _ _ _ (by decide), beside _ _ _ _ _ _ (by decide), bitsOf_putBits_same]
    rfl
  · rw [beside _ _ _ _ _ _ (by decide), beside _ _ _ _ _ _ (by decide), bitsOf_putBits_same]
    rfl
  · rw [beside _ _ _ _ _ _ (by decide), beside _ _ _ _ _ _ (by decide), beside _ _ _ _ _ _ (by decide),
      beside _ _ _ _ _ _ (by decide)]

theorem State.syncSet_get (h : s.Canon) (trig : Nat) (ring : Bool) (u : Option Nat) (l w : Nat) (hw : l + w ≤ 32) :
    (s.syncSet trig ring u).get W_SYNC ⟨SYNC_STATE, l, w⟩ = bitsOf (armWord (s.rn W_SYNC SYNC_STATE) trig ring) l w :=
  (congrArg (bitsOf · l w) (State.rn_wr_same s h W_SYNC SYNC_STATE _)).trans (bitsOf_mod32 _ _ _ hw)

theorem State.syncSet_armedFor (h : s.Canon) {trig : Nat} (ht : trig < 4) (ring : Bool) (u : Option Nat) :
    (s.syncSet trig ring u).ArmedFor trig u := by
  obtain ⟨harmed, htrig, hplaced, -⟩ := armWord_fields (s.rn W_SYNC SYNC_STATE) trig ring
  exact ⟨congrArg (· != 0) ((State.syncSet_get h trig ring u 0 1 (by decide)).trans harmed),
    (State.syncSet_get h trig ring u 1 2 (by decide)).trans (htrig.trans (Nat.mod_eq_of_lt ht)),
    congrArg (· != 0) ((State.syncSet_get h trig ring u 4 1 (by decide)).trans hplaced), rfl⟩

theorem State.syncSet_moves (h : s.Inv) (trig : Nat) (ring : Bool) (u : Option Nat) :
    s.WinMoves W_SYNC [.word SYNC_STATE] (s.syncSet trig ring u) :=
  ((State.WinMoves.ofSync h _).wr _ (by decide) (by decide)).setSync _

theorem State.syncClear_get (h : s.Canon) (l w : Nat) (hw : l + w ≤ 32) :
    s.syncClear.get W_SYNC ⟨SYNC_STATE, l, w⟩ = bitsOf (putBits (s.rn W_SYNC SYNC_STATE) 0 5 0) l w :=
  (congrArg (bitsOf · l w) (State.rn_wr_same s h W_SYNC SYNC_STATE _)).trans (bitsOf_mod32 _ _ _ hw)

theorem State.syncClear_armed (h : s.Canon) : s.syncClear.syncArmed = false := by
  have hbit : bitsOf (putBits (s.rn W_SYNC SYNC_STATE) 0 5 0) 0 1 = 0 := by
    unfold bitsOf putBits
    omega
  exact congrArg (· != 0) ((State.syncClear_get h 0 1 (by decide)).trans hbit)

theorem State.syncClear_moves (h : s.Inv) : s.WinMoves W_SYNC [.word SYNC_STATE] s.syncClear :=
  ((State.WinMoves.ofSync h _).wr _ (by decide) (by decide)).setSync _

/-! ### Messages to the ring (R168, R176) -/

/-- `t` comes of `s` by messages to the ring: of SYNC only its status and what the generators wait for may differ. -/
structure State.TellMoves (s t : State) : Prop where
  win : s.WinMoves W_SYNC [.word SYNC_STS] t
  sync : t.sync = { s.sync with srs := t.sync.srs }

namespace State.TellMoves

theorem refl (h : s.Inv) : s.TellMoves s := ⟨.ofSync h _, rfl⟩

theorem trans (h : s.TellMoves t) (k : t.TellMoves u) : s.TellMoves u where
  win := h.win.trans k.win
  sync := by rw [k.sync, h.sync]

theorem modSr (h : s.TellMoves t) (g : Nat) (f : SrSt → SrSt) : s.TellMoves (t.modSr g f) :=
  h.trans ⟨(State.WinMoves.ofSync h.win.inv _).setSync _, rfl⟩

theorem glTiming (h : s.TellMoves t) (cls : Nat) (p : List Byte) : s.TellMoves (t.glTiming cls p).2 :=
  h.trans ⟨(State.WinMoves.ofSync h.win.inv _).glTiming (by decide) _ _, by rw [State.glTiming_sync]⟩

theorem syncEvent (h : s.TellMoves t) (bit : Nat) {b : Nat} (hb : b < 32) : s.TellMoves (t.syncEvent bit b) :=
  h.trans ⟨(State.WinMoves.ofSync h.win.inv _).syncEvent bit hb (by decide), by rw [State.syncEvent_sync]⟩

theorem ite {c : Prop} [Decidable c] (ht : s.TellMoves t) (hu : s.TellMoves u) : s.TellMoves (if c then t else u) := by
  split
  · exact ht
  · exact hu

theorem srTell (h : s.TellMoves t) (g i : Nat) : s.TellMoves (t.srTell g i) :=
  have hcell := (h.modSr g fun x => { x with rb := false }).glTiming GL_SYNCAT (syncAtPayload (.sr g) i)
  .ite (.ite hcell (hcell.syncEvent 9 (by decide))) h

theorem srTellAll (h : s.TellMoves t) (i : Nat) : s.TellMoves (t.srTellAll i) :=
  List.foldlRecOn _ _ h fun _ hu g _ => .ite (hu.srTell g i) hu

theorem armedFor (h : s.TellMoves t) {g : Nat} {i : Option Nat} (ha : s.ArmedFor g i) : t.ArmedFor g i := by
  obtain ⟨harmed, htrig, hplaced, hinstant⟩ := ha
  exact ⟨(h.win.flag _ (by decide)).trans harmed, (h.win.get _ (by decide)).trans htrig, (h.win.flag _ (by decide)).trans hplaced,
    (congrArg SyncSt.t h.sync).trans hinstant⟩

end State.TellMoves

/-! ### An arm (R168, R169) -/

/-- SYNC stays unarmed, with LATE. -/
def State.ArmLate (t : State) : Prop :=
  t.syncArmed = false ∧ bitOf (t.rn W_SYNC SYNC_STS) 1 = true ∧ t.evPending (evNo 6 11) = true

/-- SYNC is enabled and unarmed. -/
def State.SyncFree (s : State) : Prop := s.syncOn = true ∧ s.syncArmed = false

theorem State.SyncFree.not_refused (h : s.SyncFree) : ¬ (¬ s.syncOn = true ∨ s.syncArmed = true) := by
  simp [h.1, h.2]

theorem State.syncArm_of_not_free (h : ¬ s.SyncFree) (trig : Nat) (rb : Bool) : s.syncArm trig rb = s.syncArmRef := by
  refine if_pos ?_
  by_cases hon : s.syncOn = true
  · exact .inr (eq_true_of_ne_false fun harmed => h ⟨hon, harmed⟩)
  · exact .inl hon

theorem State.syncArm_pin (h : s.SyncFree) (rb : Bool) : s.syncArm 1 rb = s.syncSet 1 false none :=
  (if_neg h.not_refused).trans (if_pos rfl)

theorem State.syncArm_now (h : s.SyncFree) {trig : Nat} (ht : 2 ≤ trig) (rb : Bool) :
    s.syncArm trig rb = (s.syncSet 2 false (some (s.tplus s.now usU))).srTellAll (s.tplus s.now usU) :=
  (if_neg h.not_refused).trans ((if_neg (by omega)).trans (if_pos (by omega)))

/-- How far the instant of SYNC_AT lies ahead. -/
def State.atAhead (s : State) : Int := s.tdiff (s.instant W_SYNC SYNC_AT_W0) s.now

theorem State.syncArm_at_late (h : s.SyncFree) (hlate : s.atAhead < 200 * 65536) (rb : Bool) : s.syncArm 0 rb = s.syncLate :=
  (if_neg h.not_refused).trans ((if_neg (by decide)).trans ((if_neg (by decide)).trans (if_pos hlate)))

/-- Armed at SYNC_AT, the generators that wait for the reset told of it. -/
def State.syncSetAt (s : State) (at0 : Nat) : State := (s.syncSet 0 false (some at0)).srTellAll at0

/-- The arm sent to the ring, and taken where there is room for it. -/
def State.syncSetRing (s : State) (at0 : Nat) : State :=
  if (s.glTiming GL_SYNCAT (syncAtPayload .sync at0)).1 then (s.glTiming GL_SYNCAT (syncAtPayload .sync at0)).2.syncSetAt at0
  else (s.glTiming GL_SYNCAT (syncAtPayload .sync at0)).2.syncLate

theorem State.syncArm_at (h : s.SyncFree) (hahead : 200 * 65536 ≤ s.atAhead) (rb : Bool) : s.syncArm 0 rb =
    if rb = true ∧ s.glMayBroadcast = true then
      if s.atAhead < 20 * usU then s.syncLate else s.syncSetRing (s.instant W_SYNC SYNC_AT_W0)
    else s.syncSetAt (s.instant W_SYNC SYNC_AT_W0) :=
  (if_neg h.not_refused).trans ((if_neg (by decide)).trans ((if_neg (by decide)).trans (if_neg (not_lt.mpr hahead))))

theorem State.syncSetAt_armedFor (h : s.Inv) (at0 : Nat) : (s.syncSetAt at0).ArmedFor 0 (some at0) :=
  ((State.TellMoves.refl (State.syncSet_moves h _ _ _).inv).srTellAll at0).armedFor
    (State.syncSet_armedFor h.canon (by decide) false (some at0))

theorem State.syncLate_armLate (h : s.Inv) (hfree : s.syncArmed = false) : s.syncLate.ArmLate :=
  ⟨((State.TellMoves.refl h).syncEvent 1 (b := 11) (by decide)).win.flag SYNC_STATE_ARMED (by decide) |>.trans hfree,
    State.syncEvent_bit h (by decide) (by decide), State.syncEvent_evPending h _ (by decide)⟩

theorem State.syncSetRing_outcome (h : s.Inv) (hfree : s.syncArmed = false) (at0 : Nat) :
    (s.syncSetRing at0).ArmedFor 0 (some at0) ∨ (s.syncSetRing at0).ArmLate := by
  have hcell := (State.TellMoves.refl h).glTiming GL_SYNCAT (syncAtPayload .sync at0)
  unfold State.syncSetRing
  split
  · exact .inl (State.syncSetAt_armedFor hcell.win.inv at0)
  · exact .inr (State.syncLate_armLate hcell.win.inv ((hcell.win.flag _ (by decide)).trans hfree))

/-- An arm writes SYNC_STATE and the status, of SYNC's registers. -/
theorem State.syncArm_sys (h : s.Inv) (trig : Nat) (rb : Bool) : (s.syncArm trig rb).sys = s.sys := by
  have hm := State.TellMoves.refl h
  have hset {x : State} (hx : x.Inv) (k : Nat) (i : Option Nat) (j : Nat) :
      ((x.syncSet k false i).srTellAll j).sys = x.sys :=
    ((State.TellMoves.refl (State.syncSet_moves hx k false i).inv).srTellAll j).win.sys
  have hlate (b : Nat) : (s.syncEvent b 11).sys = s.sys := (hm.syncEvent b (by decide)).win.sys
  have hcell := hm.glTiming GL_SYNCAT (syncAtPayload .sync (s.instant W_SYNC SYNC_AT_W0))
  unfold State.syncArm
  dsimp only
  split_ifs
  · exact hlate 10
  · rfl
  · exact hset h _ _ _
  · exact hlate 1
  · exact hlate 1
  · exact (hset hcell.win.inv _ _ _).trans hcell.win.sys
  · exact (hcell.syncEvent 1 (by decide)).win.sys
  · exact hset h _ _ _

theorem openCmd_sync (r : Req) : openCmd r W_SYNC SYNC_CMD = true := rfl

/-- ARM without DISARM (R168). -/
theorem State.wrFld_syncArm (hs : s.Ready) (hr : r ≠ .i2c) (h4 : v.getLsbD 4 = false) :
    ∃ o, s.wrFld r W_SYNC SYNC_CMD_ARM 1 v = (s.syncArm (bitsOf v.toNat 1 2) (v.getLsbD 3)).emit o := by
  refine State.doorWrite_syncCmd hs hr (by decide) (by decide) (openCmd_sync r) ?_ (State.syncArm_sys hs.1 _ _)
  have hbit (b : Nat) (hb : 0 < b) : bitOf (putBits v.toNat 0 1 1) b = v.getLsbD b :=
    (bitOf_putBits_other _ _ _ _ _ (.inr hb)).trans (bitOf_toNat v b)
  have hact : s.syncCmd (putBits v.toNat 0 1 1) = s.syncArm (bitsOf v.toNat 1 2) (v.getLsbD 3) := by
    simp only [State.syncCmd, bitOf_putBits_one, hbit 3 (by decide), hbit 4 (by decide), h4,
      bitsOf_putBits_other v.toNat 0 1 1 1 2 (.inr (by decide))]
    exact if_neg Bool.false_ne_true
  exact hact

theorem syncArm_completes (hs : s.Ready) (hr : r ≠ .i2c) (h4 : v.getLsbD 4 = false) {P : State → Prop}
    (hP : ∀ o, P ((s.syncArm (bitsOf v.toNat 1 2) (v.getLsbD 3)).emit o)) : s.To (.syncArm r v) P :=
  .of_emit ((State.wrFld_syncArm hs hr h4).imp fun _ => congrArg Host.Outcome.next) hP

/-- An arm that ends armed with trigger `g` at `i`. -/
theorem syncArm_arms (hs : s.Ready) (hr : r ≠ .i2c) (h4 : v.getLsbD 4 = false) {g : Nat} {i : Option Nat}
    (ha : (s.syncArm (bitsOf v.toNat 1 2) (v.getLsbD 3)).ArmedFor g i) : s.To (.syncArm r v) (·.ArmedFor g i) :=
  syncArm_completes hs hr h4 fun _ => ha

theorem syncArm_refuses (hs : s.Ready) (hr : r ≠ .i2c) (h4 : v.getLsbD 4 = false) (hfree : ¬ s.SyncFree) :
    s.To (.syncArm r v) fun t => t.rn W_SYNC SYNC_STATE = s.rn W_SYNC SYNC_STATE ∧ t.sync = s.sync ∧
      bitOf (t.rn W_SYNC SYNC_STS) 10 = true ∧ t.evPending (evNo 6 11) = true := by
  refine syncArm_completes hs hr h4 fun o => ?_
  rw [State.syncArm_of_not_free hfree]
  simp only [State.emit_rn, State.emit_sync, State.emit_evPending]
  exact ⟨((State.TellMoves.refl hs.1).syncEvent 10 (b := 11) (by decide)).win.rn _ (by decide), State.syncEvent_sync 10 11,
    State.syncEvent_bit hs.1 (by decide) (by decide), State.syncEvent_evPending hs.1 10 (by decide)⟩

theorem syncArm_comes_late (hs : s.Ready) (hr : r ≠ .i2c) (h4 : v.getLsbD 4 = false) (hfree : s.SyncFree)
    (htrig : bitsOf v.toNat 1 2 = 0) (hlate : s.atAhead < 200 * 65536) : s.To (.syncArm r v) State.ArmLate := by
  refine syncArm_completes hs hr h4 fun o => ?_
  rw [htrig, State.syncArm_at_late hfree hlate]
  exact State.syncLate_armLate hs.1 hfree.2

theorem syncArm_arms_at (hs : s.Ready) (hr : r ≠ .i2c) (h4 : v.getLsbD 4 = false) (hfree : s.SyncFree)
    (htrig : bitsOf v.toNat 1 2 = 0) (hahead : 200 * 65536 ≤ s.atAhead) (hrb : (v.getLsbD 3 && s.glMayBroadcast) = false) :
    s.To (.syncArm r v) (·.ArmedFor 0 (some (s.instant W_SYNC SYNC_AT_W0))) := by
  refine syncArm_arms hs hr h4 ?_
  rw [htrig, State.syncArm_at hfree hahead, if_neg (by rw [← Bool.and_eq_true, hrb]; exact Bool.false_ne_true)]
  exact State.syncSetAt_armedFor hs.1 _

/-- The anchor's arm that it broadcasts: 20 µs ahead and with room in the timing queue, or late. -/
theorem syncArm_broadcasts (hs : s.Ready) (hr : r ≠ .i2c) (h4 : v.getLsbD 4 = false) (hfree : s.SyncFree)
    (htrig : bitsOf v.toNat 1 2 = 0) (hahead : 200 * 65536 ≤ s.atAhead) (hrb : (v.getLsbD 3 && s.glMayBroadcast) = true) :
    s.To (.syncArm r v) fun t => t.ArmedFor 0 (some (s.instant W_SYNC SYNC_AT_W0)) ∨ t.ArmLate := by
  refine syncArm_completes hs hr h4 fun o => ?_
  rw [htrig, State.syncArm_at hfree hahead, if_pos (by rwa [← Bool.and_eq_true])]
  split
  · exact .inr (State.syncLate_armLate hs.1 hfree.2)
  · exact State.syncSetRing_outcome hs.1 hfree.2 _

theorem syncArm_arms_pin (hs : s.Ready) (hr : r ≠ .i2c) (h4 : v.getLsbD 4 = false) (hfree : s.SyncFree)
    (htrig : bitsOf v.toNat 1 2 = 1) : s.To (.syncArm r v) (·.ArmedFor 1 none) := by
  refine syncArm_arms hs hr h4 ?_
  rw [htrig, State.syncArm_pin hfree]
  exact State.syncSet_armedFor hs.1.canon (by decide) _ _

theorem syncArm_arms_now (hs : s.Ready) (hr : r ≠ .i2c) (h4 : v.getLsbD 4 = false) (hfree : s.SyncFree)
    (htrig : 2 ≤ bitsOf v.toNat 1 2) : s.To (.syncArm r v) (·.ArmedFor 2 (some (s.tplus s.now usU))) := by
  refine syncArm_arms hs hr h4 ?_
  rw [State.syncArm_now hfree htrig]
  exact ((State.TellMoves.refl (State.syncSet_moves hs.1 _ _ _).inv).srTellAll _).armedFor
    (State.syncSet_armedFor hs.1.canon (by decide) _ _)

/-! ### A disarm (R169) -/

theorem State.syncDisarm_sys (h : s.Inv) : s.syncDisarm.sys = s.sys := by
  unfold State.syncDisarm
  split
  · exact (State.syncClear_moves h).sys
  · rfl

/-- DISARM without ARM. -/
theorem State.wrFld_syncDisarm (hs : s.Ready) (hr : r ≠ .i2c) (h0 : v.getLsbD 0 = false) :
    ∃ o, s.wrFld r W_SYNC SYNC_CMD_DISARM 1 v = s.syncDisarm.emit o := by
  refine State.doorWrite_syncCmd hs hr (by decide) (by decide) (openCmd_sync r) ?_ (State.syncDisarm_sys hs.1)
  have harm : bitOf (putBits v.toNat 4 1 1) 0 = false :=
    (bitOf_putBits_other _ _ _ _ _ (.inl (by decide))).trans ((bitOf_toNat v 0).trans h0)
  have hact : s.syncCmd (putBits v.toNat 4 1 1) = s.syncDisarm := by
    simp only [State.syncCmd, harm, bitOf_putBits_one]
    rfl
  exact hact

theorem syncDisarm_acts (hs : s.Ready) (hr : r ≠ .i2c) (h0 : v.getLsbD 0 = false) : s.To (.syncDisarm r v) fun t =>
    (s.syncArmed = true → s.syncPlaced = false → s.placeDue = false → t.syncArmed = false ∧ t.sync.t = none) ∧
    (s.syncPlaced = true ∨ s.placeDue = true → t.regs = s.regs ∧ t.sync = s.sync) := by
  refine .of_emit ((State.wrFld_syncDisarm hs hr h0).imp fun _ => congrArg Host.Outcome.next) fun o => ?_
  simp only [State.emit_syncArmed, State.emit_sync, State.emit_regs]
  refine ⟨fun harmed hplaced hdue => ?_, fun hbegun => ?_⟩
  · have hact : s.syncDisarm = s.syncClear := if_pos ⟨harmed, ne_true_of_eq_false hplaced, ne_true_of_eq_false hdue⟩
    rw [hact]
    exact ⟨State.syncClear_armed hs.1.canon, rfl⟩
  · have hact : s.syncDisarm = s := if_neg fun hopen => hbegun.elim hopen.2.1 hopen.2.2
    rw [hact]
    exact ⟨rfl, rfl⟩

/-! ### Edges of SYNC_IN (R171) -/

theorem srst_clearOf_pinCount : ∀ g : SrGen, (SYNC_SR_STATE_SRST.up (srOff g)).clearOf [.word SYNC_PINCNT] = true := by decide

/-- The edge counted. -/
def State.pinCounted (s : State) : State := s.count W_SYNC SYNC_PINCNT 1

/-- The instant that an edge at `i` stands for. -/
def State.pinInstant (s : State) (i : Nat) : Nat := s.tplus i s.pindly

/-- The edge taken by an arm that waits for it. -/
def State.pinArm (s : State) (i : Nat) : State :=
  if s.syncPinWait then (s.pinCounted.setSync { s.pinCounted.sync with t := some (s.pinInstant i) }).srTellAll (s.pinInstant i)
  else s.pinCounted

/-- The edge taken by generator `g` of `u`, if it waits for it. -/
def State.pinStart (s : State) (i : Nat) (u : State) (g : Nat) : State :=
  if u.srPinWait g then (u.modSr g fun x => { x with ts := some (s.pinInstant i) }).srTell g (s.pinInstant i) else u

theorem State.syncPin_eq (i : Nat) : s.syncPin i =
    if (s.syncPinWait || (List.range 4).any s.srPinWait) = true then (List.range 4).foldl (s.pinStart i) (s.pinArm i)
    else ((List.range 4).foldl (s.pinStart i) (s.pinArm i)).syncEvent 2 12 := rfl

theorem exec_syncInEdge (hs : s.Ready) (code : Fin 2048) :
    exec (.syncInEdge code (!s.flag W_SYNC SYNC_CFG_PINEDGE)) s = .next (s.syncPin (s.tdcStamp 30 code)) := by
  have hrun : s.tb.running = true := (Bool.and_eq_true _ _ |>.mp hs.2.2).1
  refine congrArg Host.Outcome.next (if_neg fun h => ?_)
  rcases h with hstop | hedge
  · exact hstop hrun
  · exact absurd hedge (by cases s.flag W_SYNC SYNC_CFG_PINEDGE <;> decide)

theorem exec_syncInEdge_other (code : Fin 2048) : exec (.syncInEdge code (s.flag W_SYNC SYNC_CFG_PINEDGE)) s = .next s :=
  congrArg Host.Outcome.next (if_pos (.inr rfl))

/-- The generators that take the edge leave SYNC_STATE, PINCNT and the reset's instant. -/
theorem State.TellMoves.pinStarts (h : u.TellMoves t) (i : Nat) : u.TellMoves ((List.range 4).foldl (s.pinStart i) t) :=
  List.foldlRecOn _ _ h fun _ hx g _ => .ite ((hx.modSr g _).srTell g _) hx

theorem State.pinCounted_moves (h : s.Inv) : s.WinMoves W_SYNC [.word SYNC_PINCNT] s.pinCounted :=
  (State.WinMoves.ofSync h _).count 1 (by decide) (by decide)

theorem State.pinArm_moves (h : s.Inv) (i : Nat) : s.pinCounted.WinMoves W_SYNC [.word SYNC_STS] (s.pinArm i) :=
  have hset := (State.WinMoves.ofSync (State.pinCounted_moves h).inv [.word SYNC_STS]).setSync
    { s.pinCounted.sync with t := some (s.pinInstant i) }
  .ite (fun _ => hset.trans ((State.TellMoves.refl hset.inv).srTellAll _).win) fun _ => .ofSync (State.pinCounted_moves h).inv _

theorem State.pinArm_t (h : s.Inv) (i : Nat) (hw : s.syncPinWait = true) : (s.pinArm i).sync.t = some (s.pinInstant i) := by
  have hset := (State.WinMoves.ofSync (State.pinCounted_moves h).inv []).setSync
    { s.pinCounted.sync with t := some (s.pinInstant i) }
  unfold State.pinArm
  rw [if_pos hw, ((State.TellMoves.refl hset.inv).srTellAll _).sync]
  rfl

/-- An edge that nothing waits for is counted only. -/
theorem State.pinStarts_idle (h : s.Inv) (i : Nat) (hw : s.syncPinWait = false) (hg : ∀ g, g < 4 → s.srPinWait g = false) :
    (List.range 4).foldl (s.pinStart i) (s.pinArm i) = s.pinCounted := by
  have harm : s.pinArm i = s.pinCounted := if_neg (ne_true_of_eq_false hw)
  have hwin (g : Nat) (hlt : g < 4) : s.pinCounted.srPinWait g = s.srPinWait g := by
    have hst : s.pinCounted.srst g = s.srst g :=
      (State.pinCounted_moves h).get _ (srst_clearOf_pinCount ⟨g, hlt⟩)
    unfold State.srPinWait
    rw [hst]
    rfl
  rw [harm]
  refine List.foldlRecOn (motive := (· = s.pinCounted)) _ _ rfl fun x hx g hmem => ?_
  have hlt := List.mem_range.mp hmem
  rw [hx]
  exact if_neg (by rw [hwin g hlt, hg g hlt]; exact Bool.false_ne_true)

theorem syncInEdge_takes (hs : s.Ready) (code : Fin 2048) :
    s.To (.syncInEdge code (!s.flag W_SYNC SYNC_CFG_PINEDGE)) fun t =>
      t.rn W_SYNC SYNC_PINCNT = (s.rn W_SYNC SYNC_PINCNT + 1) % 2 ^ 32 ∧
      (s.syncPinWait = true → t.sync.t = some (s.tplus (s.tdcStamp 30 code) s.pindly)) ∧
      (s.syncPinWait = false → (∀ g, g < 4 → s.srPinWait g = false) → t.evPending (evNo 6 12) = true ∧ t.sync = s.sync) := by
  refine ⟨_, exec_syncInEdge hs code, ?_⟩
  have harm := State.pinArm_moves hs.1 (s.tdcStamp 30 code)
  have hstarts := (State.TellMoves.refl harm.inv).pinStarts (s := s) (s.tdcStamp 30 code)
  have hcount : ((List.range 4).foldl (s.pinStart (s.tdcStamp 30 code)) (s.pinArm (s.tdcStamp 30 code))).rn W_SYNC SYNC_PINCNT =
      (s.rn W_SYNC SYNC_PINCNT + 1) % 2 ^ 32 :=
    (hstarts.win.rn _ (by decide)).trans ((harm.rn _ (by decide)).trans (State.rn_count_same s hs.1.canon _ _ _))
  rw [State.syncPin_eq]
  split
  · next htaken =>
    refine ⟨hcount, fun hw => ?_, fun hw hg => ?_⟩
    · rw [hstarts.sync]
      exact State.pinArm_t hs.1 _ hw
    · rw [hw, Bool.false_or, List.any_eq_true] at htaken
      obtain ⟨g, hmem, hwait⟩ := htaken
      exact absurd ((hg g (List.mem_range.mp hmem)).symm.trans hwait) (by decide)
  · next hlost =>
    refine ⟨?_, fun hw => absurd (by rw [hw, Bool.true_or]) hlost, fun hw hg => ?_⟩
    · exact ((hstarts.syncEvent 2 (by decide)).win.rn _ (by decide)).trans
        ((harm.rn _ (by decide)).trans (State.rn_count_same s hs.1.canon _ _ _))
    · rw [State.pinStarts_idle hs.1 _ hw hg]
      exact ⟨State.syncEvent_evPending (State.pinCounted_moves hs.1).inv 2 (by decide), State.syncEvent_sync 2 12⟩

end

end Sys2Proof.Machine

/-!
PROOF. The placement of a sync reset and the reset itself (R170, R171), and O40.
-/

namespace Sys2Proof.Machine

section
variable {s t u : State} {r : Req} {v : Word}

/-! ### The placement (R170) -/

/-- PLACED, the instant on C and the reset edges of the APLLs. -/
def State.placeShown (s : State) (t0 : Nat) : State :=
  (s.put W_SYNC SYNC_STATE_PLACED 1).setSync { s.sync with resetAt := some (s.onC t0), edges := [s.vcoEdge 0 t0, s.vcoEdge 1 t0] }

theorem State.syncPlace_tells (h : s.Inv) {t0 : Nat} (ht : s.sync.t = some t0) : (s.placeShown t0).TellMoves s.syncPlace := by
  have hshown : (s.placeShown t0).Inv := h.put _ _ _
  unfold State.syncPlace
  rw [ht]
  exact List.foldlRecOn _ _ (State.TellMoves.refl hshown) fun _ hu g _ => .ite (hu.modSr g _) hu

theorem State.placeDue_armed (h : s.placeDue = true) : s.syncArmed = true := by
  unfold State.placeDue at h
  split at h
  · exact absurd h (by decide)
  · exact (Bool.and_eq_true _ _ |>.mp h).1

theorem syncPlacement_places (hs : s.Ready) {t0 : Nat} (ht : s.sync.t = some t0) (hdue : s.placeDue = true)
    (hplaced : s.syncPlaced = false) : s.To .syncPlacement fun t => t.syncPlaced = true ∧ t.syncArmed = true ∧ t.sync.t = some t0 ∧
      t.sync.resetAt = some (addSigned 96 s.tb.c (s.tdiff t0 s.now)) ∧
      ∀ n, n < 2 → lget none t.sync.edges n = (s.phi n).map fun phi => (phi - t0 * 2 ^ 16) % s.vcoPeriod n := by
  have htells := State.syncPlace_tells hs.1 ht
  have hput := (State.WinMoves.ofSync hs.1 [SYNC_STATE_PLACED]).put (f := SYNC_STATE_PLACED) 1 (by decide) (by decide)
  refine ⟨_, congrArg Host.Outcome.next (if_pos ⟨hdue, ne_true_of_eq_false hplaced⟩), ?_, ?_, ?_, ?_, fun n hn => ?_⟩
  · exact (htells.win.flag _ (by decide)).trans (State.flag_put_same hs.1.canon _ _ true rfl (by decide))
  · exact (htells.win.flag _ (by decide)).trans ((hput.flag SYNC_STATE_ARMED (by decide)).trans (State.placeDue_armed hdue))
  · exact (congrArg SyncSt.t htells.sync).trans ht
  · exact congrArg SyncSt.resetAt htells.sync
  · have hedges : s.syncPlace.sync.edges = [s.vcoEdge 0 t0, s.vcoEdge 1 t0] := congrArg SyncSt.edges htells.sync
    rw [hedges]
    match n, hn with
    | 0, _ => rfl
    | 1, _ => rfl

theorem exec_syncPlacement_early (hdue : s.placeDue = false) : exec .syncPlacement s = .next s :=
  congrArg Host.Outcome.next (if_neg fun h => absurd (hdue.symm.trans h.1) (by decide))

/-! ### The divider reset of one channel (R158) -/

theorem wOut_ne {m n : Nat} (h : m ≠ n) : wOut m ≠ wOut n := by unfold wOut; omega

theorem wOut_ne_sync (n : Nat) : wOut n ≠ W_SYNC := by unfold wOut W_OUT W_SYNC; omega

theorem wOut_ne_evt (n : Nat) : wOut n ≠ W_EVT := by unfold wOut W_OUT W_EVT; omega

/-- What a divider reset writes of its channel's registers. -/
def outResetFields : List Fld := [OUT_STATE_COARSEAPP, OUT_STATE_DIVBAD, OUT_FRETAPP_A]

/-- The reset but for the jump of a gated channel's fret: COARSE in force, DIVBAD clear, the new restart edge, the pattern. -/
def State.outRestarted (s : State) (n : Nat) (e : Int) (sr : Option (Nat × Int)) : State :=
  (((s.coarseNow n).put (wOut n) OUT_STATE_DIVBAD 0).modOut n fun x => { x with prev := x.start, start := some e }).modOut n
    fun x => { x with sr := sr }

theorem State.outPhaseReset_eq (n : Nat) (e ts : Int) : ∃ sr, s.outPhaseReset n e ts =
    if s.gated n then (s.outRestarted n e sr).fretJump n else s.outRestarted n e sr := ⟨_, rfl⟩

theorem State.outPhaseReset_sync (n : Nat) (e ts : Int) : (s.outPhaseReset n e ts).sync = s.sync := by
  obtain ⟨sr, heq⟩ := s.outPhaseReset_eq n e ts
  rw [heq]
  split <;> rfl

theorem State.outPhaseReset_tb (n : Nat) (e ts : Int) : (s.outPhaseReset n e ts).tb = s.tb := by
  obtain ⟨sr, heq⟩ := s.outPhaseReset_eq n e ts
  rw [heq]
  split <;> rfl

namespace State.WinMoves

variable {w : Nat} {fs : List Fld}

/-- Another window. -/
theorem outRestarted_other (h : s.WinMoves w fs t) {m : Nat} (hne : wOut m ≠ w) (e : Int) (sr : Option (Nat × Int)) :
    s.WinMoves w fs (t.outRestarted m e sr) := by
  unfold State.outRestarted State.coarseNow
  exact (((h.putOther _ hne (wOut_ne_evt m) (by decide)).putOther _ hne (wOut_ne_evt m) (by decide)).modChan m _).modChan m _

theorem fretJump_other (h : s.WinMoves w fs t) {m : Nat} (hne : wOut m ≠ w) : s.WinMoves w fs (t.fretJump m) := by
  unfold State.fretJump
  exact (h.putOther _ hne (wOut_ne_evt m) (by decide)).modChan m _

theorem outPhaseReset_other (h : s.WinMoves w fs t) {m : Nat} (hne : wOut m ≠ w) (e ts : Int) :
    s.WinMoves w fs (t.outPhaseReset m e ts) := by
  obtain ⟨sr, heq⟩ := t.outPhaseReset_eq m e ts
  rw [heq]
  exact .ite (fun _ => (h.outRestarted_other hne e sr).fretJump_other hne) fun _ => h.outRestarted_other hne e sr

/-- The channel's own window. -/
theorem outRestarted {n : Chan} (h : s.WinMoves (wOut n) outResetFields t) (e : Int) (sr : Option (Nat × Int)) :
    s.WinMoves (wOut n) outResetFields (t.outRestarted n e sr) := by
  unfold State.outRestarted State.coarseNow
  exact (((h.put _ (by decide) (by decide)).put _ (by decide) (by decide)).modOut n _).modOut n _

theorem fretJump {n : Chan} (h : s.WinMoves (wOut n) fs t) (hf : OUT_FRETAPP_A ∈ fs) : s.WinMoves (wOut n) fs (t.fretJump n) := by
  unfold State.fretJump
  exact (h.put _ hf (by decide)).modOut n _

theorem outPhaseReset {n : Chan} (h : s.WinMoves (wOut n) outResetFields t) (e ts : Int) :
    s.WinMoves (wOut n) outResetFields (t.outPhaseReset n e ts) := by
  obtain ⟨sr, heq⟩ := t.outPhaseReset_eq n e ts
  rw [heq]
  exact .ite (fun _ => (h.outRestarted e sr).fretJump (by decide)) fun _ => h.outRestarted e sr

end State.WinMoves

theorem State.modOut_chan_other (s : State) {m n : Nat} (h : n ≠ m) (f : OutSt → OutSt) : (s.modOut m f).chan n = s.chan n := by
  unfold State.chan State.modOut
  rw [lget_lmod, if_neg fun hmn => h hmn.1]

theorem State.put_chan (s : State) (w : Nat) (f : Fld) (v n : Nat) : (s.put w f v).chan n = s.chan n := rfl

theorem State.outPhaseReset_chan_other {m n : Nat} (hne : n ≠ m) (e ts : Int) : (s.outPhaseReset m e ts).chan n = s.chan n := by
  obtain ⟨sr, heq⟩ := s.outPhaseReset_eq m e ts
  have hrestart : (s.outRestarted m e sr).chan n = s.chan n := by
    unfold State.outRestarted State.coarseNow
    rw [State.modOut_chan_other _ hne, State.modOut_chan_other _ hne, State.put_chan, State.put_chan]
  rw [heq]
  split
  · unfold State.fretJump
    rw [State.modOut_chan_other _ hne, State.put_chan, hrestart]
  · exact hrestart

/-- R158, R170: what a reset at edge `e` leaves of channel `n` whose COARSE is `c`. -/
def State.Restarted (t : State) (n : Nat) (e : Int) (c : Nat) : Prop :=
  (t.chan n).start = some e ∧ t.flag (wOut n) OUT_STATE_DIVBAD = false ∧ t.get (wOut n) OUT_STATE_COARSEAPP = c % 2 ^ 10

/-- COARSE in force, DIVBAD clear. -/
def State.coarseTaken (s : State) (n : Nat) : State := (s.coarseNow n).put (wOut n) OUT_STATE_DIVBAD 0

theorem State.coarseTaken_spec (h : s.Inv) (n : Chan) : (s.coarseTaken n).Inv ∧
    (s.coarseTaken n).flag (wOut n) OUT_STATE_DIVBAD = false ∧
    (s.coarseTaken n).get (wOut n) OUT_STATE_COARSEAPP = s.get (wOut n) OUT_COARSE_V % 2 ^ 10 := by
  have hcoarse : (s.coarseNow n).Inv := h.put _ _ _
  have hdivbad := (State.WinMoves.ofOut hcoarse n [OUT_STATE_DIVBAD]).put (f := OUT_STATE_DIVBAD) 0 (by decide) (by decide)
  exact ⟨hdivbad.inv, State.flag_put_same hcoarse.canon _ _ false rfl (by decide),
    (hdivbad.get OUT_STATE_COARSEAPP (by decide)).trans (State.get_put_same s h.canon _ _ _ (by decide))⟩

theorem State.outRestarted_restarted (h : s.Inv) (n : Chan) (e : Int) (sr : Option (Nat × Int)) :
    (s.outRestarted n e sr).Restarted n e (s.get (wOut n) OUT_COARSE_V) := by
  obtain ⟨hinv, hdivbad, hcoarse⟩ := State.coarseTaken_spec h n
  have hedge := (State.WinMoves.ofOut hinv n []).modOut n fun x => { x with prev := x.start, start := some e }
  have heq : s.outRestarted n e sr = ((s.coarseTaken n).modOut n fun x => { x with prev := x.start, start := some e }).modOut n
    fun x => { x with sr := sr } := rfl
  refine ⟨?_, ?_, ?_⟩
  · rw [heq, State.modOut_chan hedge.inv, State.modOut_chan hinv]
  · rw [heq, State.modOut_flag, State.modOut_flag, hdivbad]
  · rw [heq, State.modOut_get, State.modOut_get, hcoarse]

theorem State.fretJump_restarted (h : s.Inv) {n : Chan} {e : Int} {c : Nat} (hr : s.Restarted n e c) :
    (s.fretJump n).Restarted n e c := by
  obtain ⟨hstart, hdivbad, hcoarse⟩ := hr
  have hjump := (State.WinMoves.ofOut h n [OUT_FRETAPP_A]).fretJump (by decide)
  have hput := h.put (wOut n) OUT_FRETAPP_A (s.fretT n)
  refine ⟨?_, (hjump.flag _ (by decide)).trans hdivbad, (hjump.get _ (by decide)).trans hcoarse⟩
  exact (congrArg OutSt.start (State.modOut_chan hput n fun x => { x with tap := s.fretTap n (s.fretT n) })).trans hstart

theorem State.outPhaseReset_restarted (h : s.Inv) (n : Chan) (e ts : Int) :
    (s.outPhaseReset n e ts).Restarted n e (s.get (wOut n) OUT_COARSE_V) := by
  obtain ⟨sr, heq⟩ := s.outPhaseReset_eq n e ts
  have hrestart := State.outRestarted_restarted h n e sr
  rw [heq]
  split
  · exact State.fretJump_restarted ((State.WinMoves.ofOut h n _).outRestarted e sr).inv hrestart
  · exact hrestart

/-! ### The reset of all channels in the mask (R170) -/

/-- Divider resets of the channels of `l`, each at its own edge. -/
def State.restartAll (s : State) (e ts : Nat → Int) (l : List Nat) : State :=
  l.foldl (fun u n => u.outPhaseReset n (e n) (ts n)) s

theorem State.restartAll_snoc (e ts : Nat → Int) (l : List Nat) (m : Nat) :
    s.restartAll e ts (l ++ [m]) = (s.restartAll e ts l).outPhaseReset m (e m) (ts m) := by
  unfold State.restartAll
  rw [List.foldl_append]
  rfl

theorem State.restartAll_keeps (e ts : Nat → Int) (l : List Nat) :
    (s.restartAll e ts l).sync = s.sync ∧ (s.restartAll e ts l).tb = s.tb :=
  List.foldlRecOn (motive := fun u : State => u.sync = s.sync ∧ u.tb = s.tb) _ _ ⟨rfl, rfl⟩ fun _ hu _ _ =>
    ⟨(State.outPhaseReset_sync _ _ _).trans hu.1, (State.outPhaseReset_tb _ _ _).trans hu.2⟩

theorem State.restartAll_sync_moves (h : s.Inv) (e ts : Nat → Int) (l : List Nat) : s.WinMoves W_SYNC [] (s.restartAll e ts l) :=
  (State.WinMoves.ofSync h []).foldl fun _ m hu => hu.outPhaseReset_other (wOut_ne_sync m) _ _

theorem State.restartAll_out_moves (h : s.Inv) (n : Chan) (e ts : Nat → Int) (l : List Nat) :
    s.WinMoves (wOut n) outResetFields (s.restartAll e ts l) :=
  (State.WinMoves.ofOut h n _).foldl fun u m hu => by
    by_cases hm : m = n
    · rw [hm]
      exact hu.outPhaseReset _ _
    · exact hu.outPhaseReset_other (wOut_ne hm) _ _

theorem State.restartAll_chan_of_not_mem (e ts : Nat → Int) {l : List Nat} {n : Nat} (hn : n ∉ l) :
    (s.restartAll e ts l).chan n = s.chan n :=
  List.foldlRecOn (motive := fun u : State => u.chan n = s.chan n) _ _ rfl fun _ hu _ hm =>
    (State.outPhaseReset_chan_other (ne_of_mem_of_not_mem hm hn).symm _ _).trans hu

theorem State.restartAll_restarted (h : s.Inv) (n : Chan) (e ts : Nat → Int) {l : List Nat} (hn : n.val ∈ l) :
    (s.restartAll e ts l).Restarted n (e n) (s.get (wOut n) OUT_COARSE_V) := by
  induction l using List.reverseRecOn with
  | nil => cases hn
  | append_singleton l m ih =>
    have hbefore := State.restartAll_out_moves h n e ts l
    rw [State.restartAll_snoc]
    by_cases hm : m = n
    · have hlast := State.outPhaseReset_restarted hbefore.inv n (e n) (ts n)
      rw [hbefore.get _ (by decide)] at hlast
      rwa [hm]
    · obtain ⟨hstart, hdivbad, hcoarse⟩ := ih ((List.mem_append.mp hn).resolve_right fun h => hm (List.mem_singleton.mp h).symm)
      have hother := (State.WinMoves.ofOut hbefore.inv n []).outPhaseReset_other (wOut_ne hm) (e m) (ts m)
      exact ⟨(congrArg OutSt.start (State.outPhaseReset_chan_other (Ne.symm hm) _ _)).trans hstart,
        (hother.flag _ (by decide)).trans hdivbad, (hother.get _ (by decide)).trans hcoarse⟩

/-! ### What the reset shows -/

theorem State.triple_putTriple (h : s.Canon) (w off v : Nat) (ho : off + 8 < 0x4000) :
    (s.putTriple w off v).triple w off = v % 2 ^ 96 := by
  have h0 := State.wr_canon h w off (v % 2 ^ 32)
  have h1 := State.wr_canon h0 w (off + 4) (v / 2 ^ 32 % 2 ^ 32)
  have hne (a b : Nat) (ha : a < 0x4000) (hb : b < 0x4000) (hab : a ≠ b) : regAddr w a ≠ regAddr w b :=
    regAddr_ne ha hb (.inr hab)
  unfold State.triple State.putTriple
  rw [State.rn_wr_same _ h1, State.rn_wr_other _ _ _ _ _ _ (hne (off + 8) (off + 4) ho (by omega) (by omega)),
    State.rn_wr_same _ h0, State.rn_wr_other _ _ _ _ _ _ (hne (off + 8) off ho (by omega) (by omega)),
    State.rn_wr_other _ _ _ _ _ _ (hne (off + 4) off (by omega) (by omega) (by omega)), State.rn_wr_same s h]
  omega

theorem testBit_add_two_pow {v m : Nat} (hv : v < 2 ^ m) (i : Nat) : (v + 2 ^ m).testBit i = (v.testBit i || decide (m = i)) := by
  have hor := Nat.two_pow_add_eq_or_of_lt hv 1
  rw [Nat.mul_one] at hor
  rw [Nat.add_comm, hor, Nat.testBit_or, Nat.testBit_two_pow, Bool.or_comm]

/-- The bits of a set of numbers below `m`. -/
theorem maskOf_testBit (p : Nat → Bool) (m : Nat) : ((List.range m).filter p).foldl (fun v n => v + 2 ^ n) 0 < 2 ^ m ∧
    ∀ i, (((List.range m).filter p).foldl (fun v n => v + 2 ^ n) 0).testBit i = (decide (i < m) && p i) := by
  induction m with
  | zero => simp
  | succ m ih =>
    obtain ⟨hlt, hbits⟩ := ih
    have hlast (i : Nat) : decide (i < m + 1) = (decide (i < m) || decide (m = i)) := by
      rw [← Bool.decide_or]
      exact decide_eq_decide.mpr (by omega)
    rw [List.range_succ, List.filter_append, List.foldl_append]
    cases hp : p m with
    | false =>
      rw [List.filter_cons_of_neg (ne_true_of_eq_false hp)]
      refine ⟨hlt.trans (Nat.pow_lt_pow_right (by decide) (Nat.lt_succ_self m)), fun i => (hbits i).trans ?_⟩
      rw [hlast]
      by_cases hi : m = i
      · simp [← hi, hp]
      · simp [hi]
    | true =>
      rw [List.filter_cons_of_pos hp]
      refine ⟨?_, fun i => (testBit_add_two_pow hlt i).trans ?_⟩
      · exact (Nat.add_lt_add_right hlt _).trans_le (by rw [pow_succ]; omega)
      · rw [hlast, hbits]
        by_cases hi : m = i
        · simp [← hi, hp]
        · simp [hi]

/-- The channels that the reset reaches. -/
def State.reached (s : State) : List Nat := (List.range 40).filter fun n => s.syncMask n && s.outRun n

/-- DONEMASK of the reset. -/
def State.reachedMask (s : State) : Nat := s.reached.foldl (fun v n => v + 2 ^ n) 0

theorem State.reachedMask_spec (s : State) : s.reachedMask < 2 ^ 40 ∧
    ∀ n, n < 40 → bitOf s.reachedMask n = (s.syncMask n && s.outRun n) := by
  obtain ⟨hlt, hbits⟩ := maskOf_testBit (fun n => s.syncMask n && s.outRun n) 40
  refine ⟨hlt, fun n hn => ?_⟩
  rw [bitOf_eq_testBit]
  refine (hbits n).trans ?_
  rw [decide_eq_true hn, Bool.true_and]

/-- DONEMASK, LAST and the count of resets. -/
def State.resetShown (s : State) (mask i : Nat) : State :=
  let t := (s.putPair W_SYNC SYNC_DONEMASK_LO mask).putInstant W_SYNC SYNC_LAST_W0 i
  t.put W_SYNC SYNC_STATE_RSTCNT (t.get W_SYNC SYNC_STATE_RSTCNT + 1)

/-- Armed again for the next edge, or unarmed. -/
def State.resetArmed (s : State) (again : Bool) : State := if again then s.syncSet 1 false none else s.syncClear

/-- The reset before its event. -/
def State.resetDone (s : State) (i c : Nat) : State :=
  ((s.restartAll (s.resetEdge · c) s.tsPhase s.reached).resetShown s.reachedMask i).resetArmed
    (s.get W_SYNC SYNC_STATE_TRIGARM == 1 && s.flag W_SYNC SYNC_CFG_PINMODE)

theorem State.syncReset_eq (i c : Nat) : s.syncReset i c = (s.resetDone i c).syncEvent 0 10 := rfl

theorem exec_syncReset {i c : Nat} (hc : s.sync.resetAt = some c) (ht : s.sync.t = some i) (hplaced : s.syncPlaced = true)
    (hdue : s.due c = true) : exec .syncReset s = .next ((s.resetDone i c).syncEvent 0 10) := by
  refine congrArg Host.Outcome.next ?_
  rw [ht, hc, ← State.syncReset_eq]
  exact if_pos ⟨hplaced, hdue⟩

def resetLastFields : List Fld := [.word SYNC_LAST_W0, .word (SYNC_LAST_W0 + 4), .word (SYNC_LAST_W0 + 8)]

/-- What a reset shows beside its arm. -/
def resetShownFields : List Fld :=
  .word SYNC_DONEMASK_LO :: .word (SYNC_DONEMASK_LO + 4) :: SYNC_STATE_RSTCNT :: resetLastFields

theorem State.resetShown_spec (h : s.Inv) (mask i : Nat) : let t := s.resetShown mask i
    s.WinMoves W_SYNC resetShownFields t ∧ t.pair W_SYNC SYNC_DONEMASK_LO = mask % 2 ^ 64 ∧
      t.triple W_SYNC SYNC_LAST_W0 = fmtTime s.tb.ring i % 2 ^ 96 ∧
      t.get W_SYNC SYNC_STATE_RSTCNT = (s.get W_SYNC SYNC_STATE_RSTCNT + 1) % 2 ^ 16 := by
  have hmask := (State.WinMoves.ofSync h resetShownFields).putPair (off := SYNC_DONEMASK_LO) mask (by decide) (by decide) (by decide)
  have hmasked := (State.WinMoves.ofSync h [.word SYNC_DONEMASK_LO, .word (SYNC_DONEMASK_LO + 4)]).putPair (off := SYNC_DONEMASK_LO)
    mask (by decide) (by decide) (by decide)
  have hlast := (State.WinMoves.ofSync hmask.inv resetLastFields).putInstant (off := SYNC_LAST_W0) i (by decide) (by decide)
    (by decide) (by decide)
  have hcount := (State.WinMoves.ofSync hlast.inv [SYNC_STATE_RSTCNT]).put (f := SYNC_STATE_RSTCNT)
    (((s.putPair W_SYNC SYNC_DONEMASK_LO mask).putInstant W_SYNC SYNC_LAST_W0 i).get W_SYNC SYNC_STATE_RSTCNT + 1) (by decide)
    (by decide)
  refine ⟨(hmask.trans (hlast.mono (by decide))).trans (hcount.mono (by decide)), ?_, ?_, ?_⟩
  · exact (hcount.pair _ (by decide) (by decide)).trans ((hlast.pair _ (by decide) (by decide)).trans
      (State.pair_putPair h.canon _ _ _ (by decide)))
  · exact (hcount.triple _ (by decide) (by decide) (by decide)).trans (State.triple_putTriple hmask.inv.canon _ _ _ (by decide))
  · refine (State.get_put_same _ hlast.inv.canon _ _ _ (by decide)).trans ?_
    rw [hlast.get _ (by decide), hmasked.get _ (by decide)]
    rfl

/-- Showing a reset leaves the channels. -/
theorem State.resetShown_keeps (mask i : Nat) : (s.resetShown mask i).outs = s.outs := rfl

theorem State.WinMoves.resetShown_other {w : Nat} {fs : List Fld} (h : s.WinMoves w fs t) (hne : W_SYNC ≠ w) (mask i : Nat) :
    s.WinMoves w fs (t.resetShown mask i) :=
  have hwr {x : State} (hx : s.WinMoves w fs x) (off a : Nat) (ho : off < 0x4000) : s.WinMoves w fs (x.wr W_SYNC off a) :=
    hx.wrOther a hne (by decide) ho
  hwr (hwr (hwr (hwr (hwr (hwr h _ _ (by decide)) _ _ (by decide)) _ _ (by decide)) _ _ (by decide)) _ _ (by decide)) _ _ (by decide)

theorem State.WinMoves.resetArmed_other {w : Nat} {fs : List Fld} (h : s.WinMoves w fs t) (hne : W_SYNC ≠ w) (again : Bool) :
    s.WinMoves w fs (t.resetArmed again) :=
  .ite (fun _ => (h.wrOther _ hne (by decide) (by decide)).setSync _) fun _ => (h.wrOther _ hne (by decide) (by decide)).setSync _

theorem State.resetArmed_outs (again : Bool) : (s.resetArmed again).outs = s.outs := by
  unfold State.resetArmed
  split <;> rfl

/-- Whether armed again or not, only the arm's bits of SYNC_STATE change. -/
theorem State.resetArmed_spec (h : s.Inv) (again : Bool) : s.WinMoves W_SYNC [.word SYNC_STATE] (s.resetArmed again) ∧
    (s.resetArmed again).get W_SYNC SYNC_STATE_RSTCNT = s.get W_SYNC SYNC_STATE_RSTCNT ∧
    (again = true → (s.resetArmed again).ArmedFor 1 none) ∧ (again = false → (s.resetArmed again).syncArmed = false) := by
  cases again with
  | true =>
    obtain ⟨-, -, -, hcount⟩ := armWord_fields (s.rn W_SYNC SYNC_STATE) 1 false
    exact ⟨State.syncSet_moves h _ _ _, (State.syncSet_get h.canon 1 false none 16 16 (by decide)).trans hcount,
      fun _ => State.syncSet_armedFor h.canon (by decide) _ _, nofun⟩
  | false =>
    exact ⟨State.syncClear_moves h, (State.syncClear_get h.canon 16 16 (by decide)).trans
      (bitsOf_putBits_other _ _ _ _ _ _ (.inr (by decide))), nofun, fun _ => State.syncClear_armed h.canon⟩

/-- The whole reset, seen from SYNC. -/
theorem State.resetDone_shows (h : s.Inv) (i c : Nat) : let t := s.resetDone i c
    t.Inv ∧ t.pair W_SYNC SYNC_DONEMASK_LO = s.reachedMask % 2 ^ 64 ∧
      t.triple W_SYNC SYNC_LAST_W0 = fmtTime s.tb.ring i % 2 ^ 96 ∧
      t.get W_SYNC SYNC_STATE_RSTCNT = (s.get W_SYNC SYNC_STATE_RSTCNT + 1) % 2 ^ 16 ∧
      (s.get W_SYNC SYNC_STATE_TRIGARM ≠ 1 → t.syncArmed = false) ∧
      (s.get W_SYNC SYNC_STATE_TRIGARM = 1 → s.flag W_SYNC SYNC_CFG_PINMODE = true → t.ArmedFor 1 none) := by
  have hall := State.restartAll_sync_moves h (s.resetEdge · c) s.tsPhase s.reached
  have hshown := State.resetShown_spec hall.inv s.reachedMask i
  obtain ⟨hmoves, hmask, hlast, hcount⟩ := hshown
  obtain ⟨harm, hsame, hagain, hend⟩ := State.resetArmed_spec hmoves.inv
    (s.get W_SYNC SYNC_STATE_TRIGARM == 1 && s.flag W_SYNC SYNC_CFG_PINMODE)
  rw [(State.restartAll_keeps _ _ _).2] at hlast
  rw [hall.get _ (by decide)] at hcount
  refine ⟨harm.inv, (harm.pair _ (by decide) (by decide)).trans hmask, (harm.triple _ (by decide) (by decide) (by decide)).trans hlast,
    hsame.trans hcount, fun hne => hend ?_, fun heq hmode => hagain ?_⟩
  · rw [beq_false_of_ne hne, Bool.false_and]
  · rw [heq, hmode]
    rfl

/-- The whole reset, seen from channel `n`. -/
theorem State.resetDone_chan (h : s.Inv) (n : Chan) (i c : Nat) : let u := s.restartAll (s.resetEdge · c) s.tsPhase s.reached
    (s.resetDone i c).chan n = u.chan n ∧ u.WinMoves (wOut n) [] (s.resetDone i c) := by
  have hall := State.restartAll_out_moves h n (s.resetEdge · c) s.tsPhase s.reached
  have hne : W_SYNC ≠ wOut n := (wOut_ne_sync n).symm
  refine ⟨?_, ((State.WinMoves.ofOut hall.inv n []).resetShown_other hne _ _).resetArmed_other hne _⟩
  unfold State.chan State.resetDone
  rw [State.resetArmed_outs, State.resetShown_keeps]

theorem State.mem_reached (n : Chan) : n.val ∈ s.reached ↔ s.syncMask n = true ∧ s.outRun n = true := by
  unfold State.reached
  rw [List.mem_filter, List.mem_range, Bool.and_eq_true]
  exact and_iff_right n.isLt

theorem syncReset_restarts (hs : s.Ready) {i c : Nat} (hc : s.sync.resetAt = some c) (ht : s.sync.t = some i)
    (hplaced : s.syncPlaced = true) (hdue : s.due c = true) : s.To .syncReset fun t =>
      t.get W_SYNC SYNC_STATE_RSTCNT = (s.get W_SYNC SYNC_STATE_RSTCNT + 1) % 2 ^ 16 ∧
      t.triple W_SYNC SYNC_LAST_W0 = fmtTime s.tb.ring i % 2 ^ 96 ∧ t.evPending (evNo 6 10) = true ∧
      (∀ n, n < 40 → bitOf (t.pair W_SYNC SYNC_DONEMASK_LO) n = (s.syncMask n && s.outRun n)) ∧
      (∀ n, n < 40 → s.syncMask n = true → s.outRun n = true →
        t.Restarted n (s.resetEdge n c) (s.get (wOut n) OUT_COARSE_V)) ∧
      (∀ n, n < 40 → s.syncMask n = false ∨ s.outRun n = false → t.chan n = s.chan n) ∧
      (s.get W_SYNC SYNC_STATE_TRIGARM ≠ 1 → t.syncArmed = false) ∧
      (s.get W_SYNC SYNC_STATE_TRIGARM = 1 → s.flag W_SYNC SYNC_CFG_PINMODE = true → t.ArmedFor 1 none) := by
  obtain ⟨hinv, hmask, hlast, hcount, hend, hagain⟩ := State.resetDone_shows hs.1 i c
  have hevent := (State.TellMoves.refl hinv).syncEvent 0 (b := 10) (by decide)
  refine ⟨_, exec_syncReset hc ht hplaced hdue, ?_, ?_, State.syncEvent_evPending hinv 0 (by decide), fun n hn => ?_,
    fun n hn hm hrun => ?_, fun n hn hnot => ?_, fun hne => ?_, fun heq hmode => ?_⟩
  · exact (hevent.win.get _ (by decide)).trans hcount
  · exact (hevent.win.triple _ (by decide) (by decide) (by decide)).trans hlast
  · obtain ⟨hlt, hbits⟩ := s.reachedMask_spec
    rw [hevent.win.pair _ (by decide) (by decide), hmask, Nat.mod_eq_of_lt (hlt.trans (by decide)), hbits n hn]
  · obtain ⟨hchan, hwin⟩ := State.resetDone_chan hs.1 ⟨n, hn⟩ i c
    obtain ⟨hstart, hdivbad, hcoarse⟩ := State.restartAll_restarted hs.1 ⟨n, hn⟩ (s.resetEdge · c) s.tsPhase
      ((State.mem_reached ⟨n, hn⟩).mpr ⟨hm, hrun⟩)
    have hlater := hwin.syncEventOther (wOut_ne_sync n).symm 0 (b := 10) (by decide)
    refine ⟨?_, (hlater.flag _ (by decide)).trans hdivbad, (hlater.get _ (by decide)).trans hcoarse⟩
    rw [State.syncEvent_chan]
    exact (congrArg OutSt.start hchan).trans hstart
  · have hout : n ∉ s.reached := fun hmem => by
      obtain ⟨hm, hrun⟩ := (State.mem_reached ⟨n, hn⟩).mp hmem
      rcases hnot with hm' | hrun'
      · exact absurd (hm'.symm.trans hm) (by decide)
      · exact absurd (hrun'.symm.trans hrun) (by decide)
    rw [State.syncEvent_chan]
    exact (State.resetDone_chan hs.1 ⟨n, hn⟩ i c).1.trans (State.restartAll_chan_of_not_mem _ _ hout)
  · exact (hevent.win.flag _ (by decide)).trans (hend hne)
  · exact hevent.armedFor (hagain heq hmode)

end

/-- Settles O40: an arm, a disarm, the placement, the reset and an edge of SYNC_IN are each followed to SYNC_STATE, the status and the
instant; the reset's channels one by one. -/
theorem syncArms : Obligations.SyncArms := by
  unfold Obligations.SyncArms
  intro s r v t0 code hs hr
  exact ⟨fun hfree h4 => syncArm_refuses hs hr h4 hfree, fun hfree htrig hlate h4 => syncArm_comes_late hs hr h4 hfree htrig hlate,
    fun hfree htrig hahead hrb h4 => syncArm_arms_at hs hr h4 hfree htrig hahead hrb,
    fun hfree htrig hahead hrb h4 => syncArm_broadcasts hs hr h4 hfree htrig hahead hrb,
    fun hfree htrig h4 => syncArm_arms_pin hs hr h4 hfree htrig, fun hfree htrig h4 => syncArm_arms_now hs hr h4 hfree htrig,
    fun h0 => syncDisarm_acts hs hr h0, fun ht hdue hplaced => syncPlacement_places hs ht hdue hplaced,
    fun hdue => ⟨s, exec_syncPlacement_early hdue, rfl⟩,
    fun c0 hc ht hplaced hdue => syncReset_restarts hs hc ht hplaced hdue, syncInEdge_takes hs code,
    ⟨s, exec_syncInEdge_other code, rfl⟩⟩

end Sys2Proof.Machine

/-!
PROOF. The SYSREF generators (R174 to R177): their starts and stops, the gate, and the end of a pattern.
-/

namespace Sys2Proof.Machine

section
variable {s t u : State} {r : Req} {g : SrGen} {v : Word}

/-! ### A generator's register and record -/

/-- SYNC_SRg_STATE. -/
def srStateFld (g : SrGen) : Fld := .word (SYNC_SR_STATE + srOff g)

theorem srStateFld_lt (g : SrGen) : SYNC_SR_STATE + srOff g < 0x4000 := by unfold SYNC_SR_STATE srOff; omega

/-- SRST and PASSED as they are put. -/
theorem State.putSrst_spec (h : s.Canon) {st : Nat} (hst : st < 4) (passed : Nat) : (s.putSrst g st passed).srst g = st ∧
    (s.putSrst g st passed).get W_SYNC (SYNC_SR_STATE_PASSED.up (srOff g)) = passed % 2 ^ 24 := by
  have hrn : (s.putSrst g st passed).rn W_SYNC (SYNC_SR_STATE + srOff g) = (st + 2 ^ 8 * passed) % 2 ^ 32 :=
    State.rn_wr_same s h _ _ _
  refine ⟨(congrArg (bitsOf · 0 2) hrn).trans ?_, (congrArg (bitsOf · 8 24) hrn).trans ?_⟩ <;> unfold bitsOf <;> omega

theorem State.WinMoves.putSrst {fs : List Fld} (h : s.WinMoves W_SYNC fs t) (st passed : Nat) (hf : srStateFld g ∈ fs) :
    s.WinMoves W_SYNC fs (t.putSrst g st passed) := h.wr _ hf (srStateFld_lt g)

/-! ### START (R176) -/

/-- The source of T_s in force: 0 AT, 1 PIN, 2 WITHSYNC, 3 NOW. -/
def State.srSource (s : State) (g : Nat) : Nat := s.get W_SYNC (SYNC_SR_CFG_START.up (srOff g))

/-- `t` has generator `g` armed with its configuration of `s`, at `i` where that is known. -/
def State.StartArmed (s t : State) (g : SrGen) (i : Option Nat) : Prop :=
  t.srst g = 1 ∧ (t.sr g).start = s.srSource g ∧ (t.sr g).ts = i ∧
    (t.sr g).on = max 1 (s.get W_SYNC (SYNC_SR_COUNT_ON.up (srOff g))) ∧
    (t.sr g).off = s.get W_SYNC (SYNC_SR_COUNT_OFF.up (srOff g))

theorem State.srArm_startArmed (h : s.Canon) (i : Option Nat) (rb : Bool) :
    s.StartArmed (s.srArm g (s.srSource g) i rb) g i := by
  have hsr : (s.srArm g (s.srSource g) i rb).sr g = s.srCapture g (s.srSource g) i rb :=
    (State.modSr_sr ..).trans (if_pos rfl)
  refine ⟨(State.putSrst_spec h (by decide) 0).1, ?_⟩
  rw [hsr]
  exact ⟨rfl, rfl, rfl, rfl⟩

/-- SYNC is enabled and the generator IDLE. -/
def State.SrFree (s : State) (g : SrGen) : Prop := s.syncOn = true ∧ s.srst g = 0

/-- Less than 200 ns lie before the instant, where it is known. -/
def State.srTooLate (s : State) (i : Option Nat) : Bool :=
  match i with
  | none => false
  | some i => decide (s.tdiff i s.now < 200 * nsU)

/-- A start that is not refused; one whose instant is known may go to the ring. -/
def State.srStartTaken (s : State) (g : Nat) (tell : Bool) (i : Option Nat) : State :=
  match i with
  | none => s.srArm g (s.srSource g) none tell
  | some i =>
    if tell then
      if (s.glTiming GL_SYNCAT (syncAtPayload (.sr g) i)).1 then
        (s.glTiming GL_SYNCAT (syncAtPayload (.sr g) i)).2.srArm g (s.srSource g) (if s.srSource g = 2 then none else some i) false
      else (s.glTiming GL_SYNCAT (syncAtPayload (.sr g) i)).2.srLate
    else s.srArm g (s.srSource g) (if s.srSource g = 2 then none else some i) false

theorem State.srStart_eq (rb : Bool) : s.srStart g rb =
    if ¬ s.syncOn = true ∨ s.srst g ≠ 0 ∨ s.srTooLate (s.srTs g (s.srSource g)) = true then s.srLate
    else s.srStartTaken g (rb && s.glMayBroadcast) (s.srTs g (s.srSource g)) := by
  unfold State.srStart
  dsimp only
  rw [← State.srSource]
  cases s.srTs g (s.srSource g) <;> rfl

theorem State.srStart_refused {rb : Bool} (h : ¬ s.SrFree g ∨ s.srTooLate (s.srTs g (s.srSource g)) = true) :
    s.srStart g rb = s.srLate := by
  refine (State.srStart_eq rb).trans (if_pos ?_)
  rcases h with hbusy | hlate
  · by_cases hon : s.syncOn = true
    · exact .inr (.inl fun hidle => hbusy ⟨hon, hidle⟩)
    · exact .inl hon
  · exact .inr (.inr hlate)

theorem State.srStart_taken (h : s.SrFree g) (hsoon : s.srTooLate (s.srTs g (s.srSource g)) = false) (rb : Bool) :
    s.srStart g rb = s.srStartTaken g (rb && s.glMayBroadcast) (s.srTs g (s.srSource g)) := by
  refine (State.srStart_eq rb).trans (if_neg ?_)
  simp [h.1, h.2, hsoon]

/-- T_s is known, and is not sent to the ring. -/
theorem State.srStart_known (h : s.SrFree g) {i : Nat} (hi : s.srTs g (s.srSource g) = some i)
    (hahead : 200 * 65536 ≤ s.tdiff i s.now) {rb : Bool} (halone : (rb && s.glMayBroadcast) = false) :
    s.srStart g rb = s.srArm g (s.srSource g) (if s.srSource g = 2 then none else some i) false := by
  have hsoon : s.srTooLate (some i) = false := decide_eq_false (not_lt.mpr hahead)
  rw [State.srStart_taken h (by rw [hi]; exact hsoon), hi, halone]
  rfl

/-- T_s is not known yet. -/
theorem State.srStart_waits (h : s.SrFree g) (hi : s.srTs g (s.srSource g) = none) (rb : Bool) :
    s.srStart g rb = s.srArm g (s.srSource g) none (rb && s.glMayBroadcast) := by
  rw [State.srStart_taken h (by rw [hi]; rfl), hi]
  rfl

theorem State.srStartTaken_sys (h : s.Inv) (tell : Bool) (i : Option Nat) : (s.srStartTaken g tell i).sys = s.sys := by
  cases i with
  | none => rfl
  | some i =>
    have hcell := (State.TellMoves.refl h).glTiming GL_SYNCAT (syncAtPayload (.sr g) i)
    unfold State.srStartTaken
    dsimp only
    split
    · split
      · exact hcell.win.sys
      · exact (hcell.syncEvent 9 (by decide)).win.sys
    · rfl

theorem State.srStart_sys (h : s.Inv) (rb : Bool) : (s.srStart g rb).sys = s.sys := by
  rw [State.srStart_eq]
  split
  · exact ((State.TellMoves.refl h).syncEvent 9 (by decide)).win.sys
  · exact State.srStartTaken_sys h _ _

theorem openCmd_sr (r : Req) (g : SrGen) : openCmd r W_SYNC (SYNC_SR_CMD + 0x20 * g) = true := by
  match g with
  | 0 => rfl
  | 1 => rfl
  | 2 => rfl
  | 3 => rfl

theorem State.cmdAct_sr (a : Nat) : s.cmdAct r W_SYNC (SYNC_SR_CMD + 0x20 * g) a = s.srCmd g a := by
  have hidx : (SYNC_SR_CMD + 0x20 * g.val - SYNC_SR_CMD) / 0x20 = g.val := by omega
  have hact : s.cmdAct r W_SYNC (SYNC_SR_CMD + 0x20 * g) a = s.srCmd ((SYNC_SR_CMD + 0x20 * g.val - SYNC_SR_CMD) / 0x20) a :=
    (if_neg (by unfold SYNC_SR_CMD SYNC_CTL; omega)).trans (if_neg (by unfold SYNC_SR_CMD SYNC_CMD; omega))
  rw [hact, hidx]

/-- A write of SYNC_SRg_CMD. -/
theorem State.doorWrite_srCmd (hs : s.Ready) (hr : r ≠ .i2c) {a : Nat} (hact : s.srCmd g a = t) (hsys : t.sys = s.sys) :
    ∃ o, s.doorWrite r (regAddr W_SYNC (SYNC_SR_CMD + 0x20 * g)) 15 a = t.emit o :=
  State.doorWrite_syncCmd hs hr (by unfold SYNC_SR_CMD; omega) (by unfold SYNC_SR_CMD; omega) (openCmd_sr r g)
    ((State.cmdAct_sr a).trans hact) hsys

/-- START without STOP. -/
theorem srStart_completes (hs : s.Ready) (hr : r ≠ .i2c) (h1 : v.getLsbD 1 = false) {P : State → Prop}
    (hP : ∀ o, P ((s.srStart g (v.getLsbD 2)).emit o)) : s.To (.srStart r g v) P := by
  have hbit (b : Nat) (hb : 0 < b) : bitOf (putBits v.toNat 0 1 1) b = v.getLsbD b :=
    (bitOf_putBits_other _ _ _ _ _ (.inr hb)).trans (bitOf_toNat v b)
  have hact : s.srCmd g (putBits v.toNat 0 1 1) = s.srStart g (v.getLsbD 2) := by
    simp only [State.srCmd, bitOf_putBits_one, hbit 1 (by decide), hbit 2 (by decide), h1]
    exact if_neg Bool.false_ne_true
  exact .of_emit ((State.doorWrite_srCmd hs hr hact (State.srStart_sys hs.1 _)).imp fun _ => congrArg Host.Outcome.next) hP

theorem srStart_refuses (hs : s.Ready) (hr : r ≠ .i2c) (h1 : v.getLsbD 1 = false)
    (hbad : ¬ s.SrFree g ∨ s.srTooLate (s.srTs g (s.srSource g)) = true) : s.To (.srStart r g v) fun t =>
      t.srst g = s.srst g ∧ t.sync = s.sync ∧ bitOf (t.rn W_SYNC SYNC_STS) 9 = true ∧ t.evPending (evNo 6 19) = true := by
  have hclear : ∀ g : SrGen, (SYNC_SR_STATE_SRST.up (srOff g)).clearOf [.word SYNC_STS] = true := by decide
  refine srStart_completes hs hr h1 fun o => ?_
  rw [State.srStart_refused hbad]
  simp only [State.emit_srst, State.emit_sync, State.emit_rn, State.emit_evPending]
  exact ⟨((State.TellMoves.refl hs.1).syncEvent 9 (b := 19) (by decide)).win.get _ (hclear g), State.syncEvent_sync 9 19,
    State.syncEvent_bit hs.1 (by decide) (by decide), State.syncEvent_evPending hs.1 9 (by decide)⟩

/-- A free generator whose T_s comes too early stays IDLE. -/
theorem srStart_comes_late (hs : s.Ready) (hr : r ≠ .i2c) (h1 : v.getLsbD 1 = false) (hfree : s.SrFree g) {i : Nat}
    (hi : s.srTs g (s.srSource g) = some i) (hlate : s.tdiff i s.now < 200 * 65536) :
    s.To (.srStart r g v) fun t => t.srst g = 0 ∧ t.evPending (evNo 6 19) = true := by
  obtain ⟨t, ht, hst, -, -, hev⟩ := srStart_refuses (g := g) hs hr h1 (.inr (by rw [hi]; exact decide_eq_true hlate))
  exact ⟨t, ht, hst.trans hfree.2, hev⟩

/-- T_s is not sent to the ring. -/
theorem alone_iff : v.getLsbD 2 = false ∨ s.glMayBroadcast = false ↔ (v.getLsbD 2 && s.glMayBroadcast) = false :=
  (Bool.and_eq_false_iff).symm

theorem srStart_arms_known (hs : s.Ready) (hr : r ≠ .i2c) (h1 : v.getLsbD 1 = false) (hfree : s.SrFree g) {i : Nat}
    (hi : s.srTs g (s.srSource g) = some i) (hahead : 200 * 65536 ≤ s.tdiff i s.now)
    (halone : v.getLsbD 2 = false ∨ s.glMayBroadcast = false) :
    s.To (.srStart r g v) fun t => s.StartArmed t g (if s.srSource g = 2 then none else some i) := by
  refine srStart_completes hs hr h1 fun o => ?_
  rw [State.srStart_known hfree hi hahead (alone_iff.mp halone)]
  exact State.srArm_startArmed hs.1.canon _ _

theorem srStart_arms_waiting (hs : s.Ready) (hr : r ≠ .i2c) (h1 : v.getLsbD 1 = false) (hfree : s.SrFree g)
    (hi : s.srTs g (s.srSource g) = none) : s.To (.srStart r g v) fun t => s.StartArmed t g none := by
  refine srStart_completes hs hr h1 fun o => ?_
  rw [State.srStart_waits hfree hi]
  exact State.srArm_startArmed hs.1.canon _ _

/-! T_s by its source. -/

theorem State.srTs_at : s.srTs g 0 = some (s.instant W_SYNC (SYNC_SR_AT_W0 + srOff g)) := rfl
theorem State.srTs_pin : s.srTs g 1 = none := rfl
theorem State.srTs_now : s.srTs g 3 = some (s.tplus s.now 65536000) := rfl

theorem State.srTs_withSync : s.srTs g 2 = if s.syncArmed then s.sync.t else none := rfl

/-- No reset is armed at a known instant. -/
theorem State.srTs_withSync_none (h : s.syncArmed = false ∨ s.sync.t = none) : s.srTs g 2 = none := by
  rw [State.srTs_withSync]
  rcases h with hfree | hnone
  · rw [hfree]
    rfl
  · rw [hnone, ite_self]

theorem toSigned_of_lt {w a : Nat} (h : a < 2 ^ (w - 1)) (hw : 0 < w) : toSigned w a = a := by
  have hlt : a < 2 ^ w := h.trans (Nat.pow_lt_pow_right (by decide) (by omega))
  unfold toSigned
  rw [Nat.mod_eq_of_lt hlt]
  exact if_pos h

/-- An instant lies after another one by what it was formed with. -/
theorem State.tdiff_tplus (a : Nat) {d : Nat} (hd : d < 2 ^ 95) : s.tdiff (s.tplus a d) a = d := by
  unfold State.tdiff State.tplus
  split
  · have hmod : ((a + d) % 2 ^ 96 + 2 ^ 96 - a % 2 ^ 96) % 2 ^ 96 = d := by omega
    unfold signedDiff
    rw [hmod]
    exact toSigned_of_lt hd (by decide)
  · omega

end

end Sys2Proof.Machine

/-!
PROOF. The gates of the SYSREF generators (R176, R177): STOP, the opening and the closing, and O41.
-/

namespace Sys2Proof.Machine

section
variable {s t : State} {r : Req} {g : SrGen} {v : Word}

/-! ### Many channels' records at once -/

/-- Channel `n` of those in `l` changed by `f n`. -/
def State.modOuts (s : State) (l : List Nat) (f : Nat → OutSt → OutSt) : State := l.foldl (fun u n => u.modOut n (f n)) s

theorem State.modOuts_frame (l : List Nat) (f : Nat → OutSt → OutSt) :
    s.modOuts l f = { s with outs := (s.modOuts l f).outs } :=
  List.foldlRecOn (motive := fun u : State => u = { s with outs := u.outs }) _ _ rfl fun _ hu n _ =>
    congrArg (State.modOut · n (f n)) hu

theorem State.modOuts_sync (l : List Nat) (f : Nat → OutSt → OutSt) : (s.modOuts l f).sync = s.sync := by
  rw [State.modOuts_frame]

theorem State.WinMoves.modOuts {w : Nat} {fs : List Fld} (h : s.WinMoves w fs t) (l : List Nat) (f : Nat → OutSt → OutSt) :
    s.WinMoves w fs (t.modOuts l f) := h.foldl fun _ n hu => hu.modChan n (f n)

theorem State.modOuts_snoc (l : List Nat) (m : Nat) (f : Nat → OutSt → OutSt) :
    s.modOuts (l ++ [m]) f = (s.modOuts l f).modOut m (f m) := by
  unfold State.modOuts
  rw [List.foldl_append]
  rfl

theorem State.modOuts_chan_of_not_mem {l : List Nat} {n : Nat} (hn : n ∉ l) (f : Nat → OutSt → OutSt) :
    (s.modOuts l f).chan n = s.chan n :=
  List.foldlRecOn (motive := fun u : State => u.chan n = s.chan n) _ _ rfl fun _ hu _ hm =>
    (State.modOut_chan_other _ (ne_of_mem_of_not_mem hm hn).symm _).trans hu

theorem State.modOuts_chan_of_mem (h : s.Inv) {l : List Nat} (hl : l.Nodup) {n : Nat} (hn : n ∈ l) (h40 : n < 40)
    (f : Nat → OutSt → OutSt) : (s.modOuts l f).chan n = f n (s.chan n) := by
  induction l using List.reverseRecOn with
  | nil => cases hn
  | append_singleton l m ih =>
    obtain ⟨hl', -, hdisj⟩ := List.nodup_append.mp hl
    have hm : m ∉ l := fun hmem => hdisj m hmem m (List.mem_singleton_self m) rfl
    rw [State.modOuts_snoc]
    rcases List.mem_append.mp hn with hbefore | hlast
    · rw [State.modOut_chan_other _ (ne_of_mem_of_not_mem hbefore hm), ih hl' hbefore]
    · rw [List.mem_singleton.mp hlast] at h40 ⊢
      have hinv : (s.modOuts l f).Inv := ((State.WinMoves.ofSync h []).modOuts l f).inv
      rw [State.modOut_chan hinv ⟨m, h40⟩, State.modOuts_chan_of_not_mem hm]

/-! ### A generator's channels -/

theorem State.srChans_nodup (g : Nat) : (s.srChans g).Nodup := List.nodup_range.filter _

theorem State.mem_srChans {n : Nat} : n ∈ s.srChans g ↔ n < 40 ∧ (s.outRun n && s.outMode n == 2 && s.srOf n == g) = true := by
  unfold State.srChans
  rw [List.mem_filter, List.mem_range]

/-! ### The gate closes (R177) -/

/-- What a gate's close writes. -/
def srCloseFields (g : SrGen) : List Fld := [srStateFld g, .word SYNC_STS]

theorem srst_clearOf_sts : ∀ g : SrGen, (SYNC_SR_STATE_SRST.up (srOff g)).clearOf [.word SYNC_STS] = true := by decide

theorem passed_clearOf_sts : ∀ g : SrGen, (SYNC_SR_STATE_PASSED.up (srOff g)).clearOf [.word SYNC_STS] = true := by decide

theorem srst_clearOf_nil : ∀ g : SrGen, (SYNC_SR_STATE_SRST.up (srOff g)).clearOf [] = true := by decide

theorem srst_clearOf_close : ∀ g k : SrGen, k ≠ g → (SYNC_SR_STATE_SRST.up (srOff k)).clearOf (srCloseFields g) = true := by decide

/-- The generator's event of SR_DONE. -/
theorem srDone_lt (g : SrGen) : 15 + g.val < 32 := by omega

/-- The close before its event. -/
def State.srClosed (s : State) (g passed : Nat) : State :=
  ((s.modOuts (s.srChans g) fun _ x => { x with sr := none, srLimit := none }).putSrst g 0 passed).modSr g
    fun x => { x with ts := none, rb := false }

theorem State.srClose_eq (g passed : Nat) : s.srClose g passed = (s.srClosed g passed).syncEvent (5 + g) (15 + g) := rfl

theorem State.srClosed_moves (h : s.Inv) (passed : Nat) : s.WinMoves W_SYNC [srStateFld g] (s.srClosed g passed) :=
  (((State.WinMoves.ofSync h _).modOuts _ _).putSrst 0 passed (by simp)).setSync _

theorem State.srClose_moves (h : s.Inv) (passed : Nat) : s.WinMoves W_SYNC (srCloseFields g) (s.srClose g passed) :=
  ((State.srClosed_moves h passed).mono (by simp [srCloseFields])).syncEvent _ (srDone_lt g) (by simp [srCloseFields])

/-- R177: IDLE with the count shown, SR_DONE, no T_s. -/
theorem State.srClose_spec (h : s.Inv) (passed : Nat) : let t := s.srClose g passed
    (t.evPending (evNo 6 (15 + g)) = true ∧ t.srst g = 0) ∧
      t.get W_SYNC (SYNC_SR_STATE_PASSED.up (srOff g)) = passed % 2 ^ 24 ∧ (t.sr g).ts = none := by
  have hinv := (State.srClosed_moves (g := g) h passed).inv
  have hevent := (State.WinMoves.ofSync hinv [.word SYNC_STS]).syncEvent (5 + g) (srDone_lt g) (by decide)
  have houts := (State.WinMoves.ofSync h []).modOuts (s.srChans g) fun _ x => { x with sr := none, srLimit := none }
  obtain ⟨hst, hpassed⟩ := State.putSrst_spec (g := g) houts.inv.canon (st := 0) (by decide) passed
  refine ⟨⟨State.syncEvent_evPending hinv _ (srDone_lt g), (hevent.get _ (srst_clearOf_sts g)).trans hst⟩,
    (hevent.get _ (passed_clearOf_sts g)).trans hpassed, ?_⟩
  have hsync : (s.srClose g passed).sync = (s.srClosed g passed).sync := State.syncEvent_sync _ _
  unfold State.sr
  rw [hsync]
  exact congrArg SrSt.ts (State.modSr_sr_same ..)

/-! ### STOP (R177) -/

theorem State.srStop_armed (h : s.srst g = 1) : s.srStop g = s.srClose g 0 := if_pos h

/-- STOPPING, every channel up to its last period. -/
def State.srStopping (s : State) (g : SrGen) : State :=
  (s.put W_SYNC (SYNC_SR_STATE_SRST.up (srOff g)) 3).modOuts (s.srChans g) fun n x => { x with srLimit := some (s.srLast n) }

theorem State.srStop_running (h : s.srst g = 2) : s.srStop g = s.srStopping g :=
  (if_neg (by rw [h]; decide)).trans (if_pos h)

theorem State.srStop_idle (h : s.srst g = 0 ∨ s.srst g = 3) : s.srStop g = s :=
  (if_neg (by omega)).trans (if_neg (by omega))

theorem srstFld_lt (g : SrGen) : (SYNC_SR_STATE_SRST.up (srOff g)).off < 0x4000 := srStateFld_lt g

theorem srst_lsb (g : SrGen) : (SYNC_SR_STATE_SRST.up (srOff g)).lsb + (SYNC_SR_STATE_SRST.up (srOff g)).width ≤ 32 := by
  change 0 + 2 ≤ 32
  decide

theorem State.srStopping_moves (h : s.Inv) :
    s.WinMoves W_SYNC [SYNC_SR_STATE_SRST.up (srOff g)] (s.srStopping g) :=
  ((State.WinMoves.ofSync h _).put 3 (by simp) (srstFld_lt g)).modOuts _ _

theorem State.srStop_sys (h : s.Inv) : (s.srStop g).sys = s.sys := by
  unfold State.srStop
  split
  · exact (State.srClose_moves h 0).sys
  · split
    · exact (State.srStopping_moves (g := g) h).sys
    · rfl

/-- STOP without START. -/
theorem srStop_completes (hs : s.Ready) (hr : r ≠ .i2c) (h0 : v.getLsbD 0 = false) {P : State → Prop}
    (hP : ∀ o, P ((s.srStop g).emit o)) : s.To (.srStop r g v) P := by
  have hstart : bitOf (putBits v.toNat 1 1 1) 0 = false :=
    (bitOf_putBits_other _ _ _ _ _ (.inl (by decide))).trans ((bitOf_toNat v 0).trans h0)
  have hact : s.srCmd g (putBits v.toNat 1 1 1) = s.srStop g := by
    simp only [State.srCmd, hstart, bitOf_putBits_one]
    rfl
  exact .of_emit ((State.doorWrite_srCmd hs hr hact (State.srStop_sys hs.1)).imp fun _ => congrArg Host.Outcome.next) hP

theorem srStop_ends_armed (hs : s.Ready) (hr : r ≠ .i2c) (h0 : v.getLsbD 0 = false) (hst : s.srst g = 1) :
    s.To (.srStop r g v) fun t => (t.evPending (evNo 6 (15 + g)) = true ∧ t.srst g = 0) ∧ (t.sr g).ts = none ∧
      t.get W_SYNC (SYNC_SR_STATE_PASSED.up (srOff g)) = 0 := by
  obtain ⟨hdone, hpassed, hts⟩ := State.srClose_spec (g := g) hs.1 0
  refine srStop_completes hs hr h0 fun o => ?_
  rw [State.srStop_armed hst]
  exact ⟨hdone, hts, hpassed⟩

theorem srStop_stops_running (hs : s.Ready) (hr : r ≠ .i2c) (h0 : v.getLsbD 0 = false) (hst : s.srst g = 2) :
    s.To (.srStop r g v) fun t => t.srst g = 3 ∧ (t.sr g).ts = (s.sr g).ts ∧
      ∀ n ∈ s.srChans g, (t.chan n).srLimit = some (s.srLast n) := by
  refine srStop_completes hs hr h0 fun o => ?_
  rw [State.srStop_running hst]
  simp only [State.emit_srst, State.emit_sr, State.emit_chan]
  have hput : (s.put W_SYNC (SYNC_SR_STATE_SRST.up (srOff g)) 3).Inv := hs.1.put _ _ _
  have houts := (State.WinMoves.ofSync hput []).modOuts (s.srChans g) fun n x => { x with srLimit := some (s.srLast n) }
  refine ⟨(houts.get _ (srst_clearOf_nil g)).trans (State.get_put_same s hs.1.canon _ _ _ (srst_lsb g)), ?_, fun n hn => ?_⟩
  · unfold State.sr State.srStopping
    rw [State.modOuts_sync]
    rfl
  · exact congrArg OutSt.srLimit (State.modOuts_chan_of_mem hput (State.srChans_nodup _) hn (State.mem_srChans.mp hn).1 _)

theorem srStop_leaves (hs : s.Ready) (hr : r ≠ .i2c) (h0 : v.getLsbD 0 = false) (hst : s.srst g = 0 ∨ s.srst g = 3) :
    s.To (.srStop r g v) fun t => t.srst g = s.srst g ∧ t.sync = s.sync := by
  refine srStop_completes hs hr h0 fun o => ?_
  rw [State.srStop_idle hst]
  exact ⟨rfl, rfl⟩

end

end Sys2Proof.Machine

/-!
PROOF. What the pattern of a SYSREF generator reads stays while another generator's gate closes (R176, R177).
-/

namespace Sys2Proof.Machine

section
variable {s t : State} {g k : SrGen} {n : Nat}

/-! ### What a pattern reads -/

/-- What generator `g` and its pattern read is the same in `t`: its record and SRST, the map, the clocks, the channels' registers,
and the records of its channels. -/
structure State.SrReads (s t : State) (g : SrGen) : Prop where
  tb : t.tb = s.tb
  aplls : t.aplls = s.aplls
  brg : t.brg = s.brg
  rn : ∀ w off, w < W_ENG ∧ w ≠ W_EVT ∧ w ≠ W_SYNC → off < 0x4000 → t.rn w off = s.rn w off
  srOf : ∀ m, m < 40 → t.srOf m = s.srOf m
  srst : t.srst g = s.srst g
  sr : t.sr g = s.sr g
  chan : ∀ m ∈ s.srChans g, t.chan m = s.chan m

namespace State.SrReads

theorem get (h : s.SrReads t g) {w : Nat} (hw : w < W_ENG ∧ w ≠ W_EVT ∧ w ≠ W_SYNC) (f : Fld)
    (ho : f.off < 0x4000) : t.get w f = s.get w f := by
  unfold State.get
  rw [h.rn w _ hw ho]

theorem outs_plain (hn : n < 40) : wOut n < W_ENG ∧ wOut n ≠ W_EVT ∧ wOut n ≠ W_SYNC := by
  unfold wOut W_OUT W_ENG W_EVT W_SYNC
  omega

theorem get_out (h : s.SrReads t g) (hn : n < 40) (f : Fld) (ho : f.off < 0x4000) : t.get (wOut n) f = s.get (wOut n) f :=
  h.get (outs_plain hn) f ho

theorem outRun (h : s.SrReads t g) (hn : n < 40) : t.outRun n = s.outRun n := by
  unfold State.outRun State.outst
  rw [h.get_out hn OUT_STATE_OUTST (by decide)]

theorem outMode (h : s.SrReads t g) (hn : n < 40) : t.outMode n = s.outMode n := by
  unfold State.outMode
  rw [h.get_out hn OUT_CFG_MODE (by decide)]

theorem srChans (h : s.SrReads t g) : t.srChans g = s.srChans g := by
  unfold State.srChans
  refine List.filter_congr fun m hm => ?_
  have hm40 := List.mem_range.mp hm
  rw [h.outRun hm40, h.outMode hm40, h.srOf m hm40]

theorem clksel (h : s.SrReads t g) (hn : n < 40) : t.clksel n = s.clksel n := h.get_out hn _ (by decide)

theorem stepPh (h : s.SrReads t g) (hn : n < 40) : t.stepPh n = s.stepPh n := by
  unfold State.stepPh State.prediv
  rw [h.clksel hn, h.get_out hn OUT_CFG_PREDIV (by decide)]

theorem outDiv (h : s.SrReads t g) (hn : n < 40) : t.outDiv n = s.outDiv n := congrArg (max 1) (h.get_out hn _ (by decide))

theorem periodPh (h : s.SrReads t g) (hn : n < 40) : t.periodPh n = s.periodPh n := by
  unfold State.periodPh
  rw [h.outDiv hn, h.stepPh hn]

theorem divHigh (h : s.SrReads t g) (hn : n < 40) (e p : Int) : t.divHigh n e p = s.divHigh n e p := by
  have hwidth := h.rn _ OUT_WIDTH (outs_plain hn) (by decide)
  unfold State.divHigh State.highPh State.flag
  rw [h.periodPh hn, h.get_out hn OUT_CFG_DUTY (by decide), h.outDiv hn, h.stepPh hn, hwidth]

theorem lastHigh (h : s.SrReads t g) (hn : n < 40) (o e p : Int) : t.lastHigh n o e p = s.lastHigh n o e p := by
  unfold State.lastHigh
  rw [h.divHigh hn, h.stepPh hn, h.periodPh hn]

theorem vcoPhase (h : s.SrReads t g) (hn : n < 2) (c : Nat) : t.vcoPhase n c = s.vcoPhase n c := by
  have hplain : wApll n < W_ENG ∧ wApll n ≠ W_EVT ∧ wApll n ≠ W_SYNC := by
    unfold wApll W_APLL W_ENG W_EVT W_SYNC
    omega
  unfold State.vcoPhase State.apll State.rdiv State.pair
  rw [h.aplls, h.get hplain APLL_CFG_RDIV (by decide), h.rn _ APLL_M_LO hplain (by decide), h.rn _ (APLL_M_LO + 4) hplain (by decide)]

theorem dsynPos (h : s.SrReads t g) (c : Nat) : t.dsynPos c = s.dsynPos c := by
  unfold State.dsynPos State.dsynAcc State.dest
  rw [h.brg]

theorem phaseNow (h : s.SrReads t g) (hn : n < 40) : t.phaseNow n = s.phaseNow n := by
  unfold State.phaseNow State.phaseAt State.clkPhase
  rw [h.clksel hn, h.tb, h.dsynPos]
  split
  · exact h.vcoPhase ‹_› _
  · rfl

/-- Of the generator's own channels, the level and the periods. -/
theorem divLevel (h : s.SrReads t g) (hn : n ∈ s.srChans g) (p : Int) : t.divLevel n p = s.divLevel n p := by
  have h40 := (State.mem_srChans.mp hn).1
  unfold State.divLevel
  simp only [h.chan n hn, h.divHigh h40, h.lastHigh h40]

theorem srCount (h : s.SrReads t g) (hn : n ∈ s.srChans g) (p : Int) : t.srCount n p = s.srCount n p := by
  unfold State.srCount
  simp only [h.chan n hn, h.periodPh (State.mem_srChans.mp hn).1]

theorem srOf_own (hn : n ∈ s.srChans g) : s.srOf n = g := by
  have hown := (State.mem_srChans.mp hn).2
  simp only [Bool.and_eq_true, beq_iff_eq] at hown
  exact hown.2

theorem srPass (h : s.SrReads t g) (hn : n ∈ s.srChans g) (p : Int) : t.srPass n p = s.srPass n p := by
  unfold State.srPass
  simp only [h.srCount hn, h.srOf n (State.mem_srChans.mp hn).1, srOf_own hn, h.sr, h.chan n hn]

theorem outLevel (h : s.SrReads t g) (hn : n ∈ s.srChans g) (p : Int) : t.outLevel n p = s.outLevel n p := by
  have h40 := (State.mem_srChans.mp hn).1
  unfold State.outLevel State.inPulse
  rw [h.outMode h40, h.divLevel hn, h.srPass hn, h.chan n hn]

theorem srPeriods (h : s.SrReads t g) (hn : n ∈ s.srChans g) : t.srPeriods n = s.srPeriods n := by
  have h40 := (State.mem_srChans.mp hn).1
  unfold State.srPeriods
  rw [h.phaseNow h40, h.srCount hn]

theorem srEnded (h : s.SrReads t g) : t.srEnded g = s.srEnded g := by
  unfold State.srEnded
  rw [h.srChans, Bool.eq_iff_iff, List.all_eq_true, List.all_eq_true]
  refine forall₂_congr fun n hn => ?_
  rw [h.chan n hn, h.sr, h.srPeriods hn, h.outLevel hn, h.phaseNow (State.mem_srChans.mp hn).1]

end State.SrReads

/-! ### Another gate closes -/

theorem srmap_clearOf_close : ∀ (g : SrGen) (i : Fin 3), (Fld.word (SYNC_SRMAP0 + 4 * i)).clearOf (srCloseFields g) = true := by
  decide

theorem State.srClosed_eq (passed : Nat) : s.srClosed k passed =
    (({ s with outs := (s.modOuts (s.srChans k) fun _ x => { x with sr := none, srLimit := none }).outs }).putSrst k 0 passed).modSr k
      fun x => { x with ts := none, rb := false } := by
  unfold State.srClosed
  rw [State.modOuts_frame]

theorem State.srClose_tb (passed : Nat) : (s.srClose k passed).tb = s.tb := by
  rw [State.srClose_eq, State.srClosed_eq]
  exact State.raise_tb _ _ _

theorem State.srClose_aplls (passed : Nat) : (s.srClose k passed).aplls = s.aplls := by
  rw [State.srClose_eq, State.srClosed_eq]
  exact State.raise_aplls _ _ _

theorem State.srClose_brg (passed : Nat) : (s.srClose k passed).brg = s.brg := by
  rw [State.srClose_eq, State.srClosed_eq]
  exact State.raise_brg _ _ _

theorem State.srClose_rn (h : s.Inv) (passed : Nat) {w off : Nat} (hw : w < W_ENG ∧ w ≠ W_EVT ∧ w ≠ W_SYNC) (ho : off < 0x4000) :
    (s.srClose k passed).rn w off = s.rn w off := by
  obtain ⟨hlt, hevt, hsync⟩ := hw
  have houts := (State.WinMoves.refl (fs := []) h ⟨hlt, hevt⟩).modOuts (s.srChans k) fun _ x => { x with sr := none, srLimit := none }
  have hclosed : s.WinMoves w [] (s.srClosed k passed) :=
    (houts.wrOther _ hsync.symm (by decide) (srStateFld_lt k)).setSync _
  exact (hclosed.syncEventOther hsync.symm _ (srDone_lt k)).rn off (by simp [Fld.clearOf, Fld.word, ho])

theorem State.srClose_srOf (h : s.Inv) (passed : Nat) (hn : n < 40) : (s.srClose k passed).srOf n = s.srOf n :=
  congrArg (bitsOf · _ _) ((State.srClose_moves h passed).rn _ (srmap_clearOf_close k ⟨n / 16, by omega⟩))

theorem State.srClose_sr (passed : Nat) (hne : g ≠ k) : (s.srClose k passed).sr g = s.sr g := by
  have hsync : (s.srClose k passed).sync = (s.srClosed k passed).sync := State.syncEvent_sync _ _
  have hbefore : ((s.modOuts (s.srChans k) fun _ x => { x with sr := none, srLimit := none }).putSrst k 0 passed).sync = s.sync :=
    State.modOuts_sync _ _
  unfold State.sr
  rw [hsync]
  exact ((State.modSr_sr ..).trans (if_neg fun heq => hne (Fin.ext heq))).trans (congrArg (fun x : SyncSt => lget SrSt.idle x.srs g) hbefore)

theorem State.srClose_chan (passed : Nat) (hn : n ∉ s.srChans k) : (s.srClose k passed).chan n = s.chan n :=
  (State.syncEvent_chan _ _ n).trans (State.modOuts_chan_of_not_mem hn _)

/-- R177: a generator's close leaves what another's pattern reads. -/
theorem State.srClose_reads (h : s.Inv) (passed : Nat) (hne : g ≠ k) : s.SrReads (s.srClose k passed) g where
  tb := State.srClose_tb passed
  aplls := State.srClose_aplls passed
  brg := State.srClose_brg passed
  rn _ _ hw ho := State.srClose_rn h passed hw ho
  srOf _ hm := State.srClose_srOf h passed hm
  srst := (State.srClose_moves h passed).get _ (srst_clearOf_close k g hne)
  sr := State.srClose_sr passed hne
  chan _ hm := State.srClose_chan passed fun hk => hne (Fin.ext
    ((State.SrReads.srOf_own hm).symm.trans (State.SrReads.srOf_own hk)))

/-! ### The tick of the gates (R177) -/

/-- STOPPING, and every channel has ended its last period. -/
def State.SrStopDue (s : State) (g : SrGen) : Prop := (s.sr g).ts.isSome = true ∧ s.srst g = 3 ∧ s.srEnded g = true

/-- IDLE with SR_DONE. -/
def State.SrDone (s : State) (g : SrGen) : Prop := s.evPending (evNo 6 (15 + g)) = true ∧ s.srst g = 0

/-- Generator `k` at the tick. -/
def State.srTickOf (s : State) (k : Nat) : State :=
  if (s.sr k).ts.isSome && s.srst k == 3 && s.srEnded k then s.srClose k (s.srPassed k) else s

theorem State.srTick_eq : s.srTick = (List.range 4).foldl State.srTickOf s := rfl

theorem State.srTickOf_due (h : s.SrStopDue g) : s.srTickOf g = s.srClose g (s.srPassed g) :=
  if_pos (by simp [h.1, h.2.1, h.2.2])

theorem State.srTickOf_done (h : s.SrDone g) : s.srTickOf g = s := if_neg (by simp [h.2])

theorem State.srTickOf_inv (h : s.Inv) : (s.srTickOf k).Inv := by
  unfold State.srTickOf
  split
  · exact (State.srClose_moves h _).inv
  · exact h

theorem State.srTickOf_own (h : s.Inv) (hg : s.SrStopDue g ∨ s.SrDone g) : (s.srTickOf g).SrDone g := by
  rcases hg with hdue | hdone
  · rw [State.srTickOf_due hdue]
    exact (State.srClose_spec h _).1
  · rw [State.srTickOf_done hdone]
    exact hdone

theorem State.srTickOf_other (h : s.Inv) (hne : g ≠ k) :
    (s.SrStopDue g → (s.srTickOf k).SrStopDue g) ∧ (s.SrDone g → (s.srTickOf k).SrDone g) := by
  unfold State.srTickOf
  split
  · have hreads := State.srClose_reads h (s.srPassed k) hne
    refine ⟨fun hdue => ?_, fun hdone => ⟨?_, hreads.srst.trans hdone.2⟩⟩
    · unfold State.SrStopDue
      rw [hreads.sr, hreads.srst, hreads.srEnded]
      exact hdue
    · exact (State.srClose_moves h _).event _ (evNo_sync_lt (srDone_lt g)) hdone.1
  · exact ⟨id, id⟩

theorem State.srTickOf_keeps (h : s.Inv) (hg : s.SrStopDue g ∨ s.SrDone g) : (s.srTickOf k).SrStopDue g ∨ (s.srTickOf k).SrDone g := by
  by_cases hne : g = k
  · rw [← hne]
    exact .inr (State.srTickOf_own h hg)
  · exact hg.imp (State.srTickOf_other h hne).1 (State.srTickOf_other h hne).2

theorem State.srTickOf_keeps_done (h : s.Inv) (hg : s.SrDone g) : (s.srTickOf k).SrDone g := by
  by_cases hne : g = k
  · rw [← hne]
    exact State.srTickOf_own h (.inr hg)
  · exact (State.srTickOf_other h hne).2 hg

/-- R177: at the tick a gate whose channels have all ended closes. -/
theorem State.srTick_done (h : s.Inv) (hdue : s.SrStopDue g) : s.srTick.SrDone g := by
  have hg : g.val ∈ List.range 4 := List.mem_range.mpr g.isLt
  obtain ⟨before, after, hall⟩ := List.append_of_mem hg
  have hlt {m : Nat} (hm : m ∈ before ++ g.val :: after) : m < 4 := List.mem_range.mp (hall ▸ hm)
  rw [State.srTick_eq, hall, List.foldl_append, List.foldl_cons]
  have hfirst := List.foldlRecOn (motive := fun u : State => u.Inv ∧ (u.SrStopDue g ∨ u.SrDone g)) before State.srTickOf
    ⟨h, .inl hdue⟩ fun u hu m hm => ⟨State.srTickOf_inv (k := ⟨m, hlt (List.mem_append_left _ hm)⟩) hu.1,
      State.srTickOf_keeps (k := ⟨m, hlt (List.mem_append_left _ hm)⟩) hu.1 hu.2⟩
  have hown : (before.foldl State.srTickOf s |>.srTickOf g).Inv ∧ (before.foldl State.srTickOf s |>.srTickOf g).SrDone g :=
    ⟨State.srTickOf_inv hfirst.1, State.srTickOf_own hfirst.1 hfirst.2⟩
  refine (List.foldlRecOn (motive := fun u : State => u.Inv ∧ u.SrDone g) after State.srTickOf hown fun u hu m hm => ?_).2
  have hm4 : m < 4 := hlt (List.mem_append_right _ (List.mem_cons_of_mem _ hm))
  exact ⟨State.srTickOf_inv (k := ⟨m, hm4⟩) hu.1, State.srTickOf_keeps_done (k := ⟨m, hm4⟩) hu.1 hu.2⟩

end

end Sys2Proof.Machine

/-!
PROOF. The gate of a SYSREF generator opens and its pattern ends (R175, R176, R188), and O41.
-/

namespace Sys2Proof.Machine

section
variable {s : State} {g : SrGen}

/-! ### The gate opens (R176) -/

/-- A channel of the generator has come to its first divider edge at or after T_s, or it has none. -/
def State.GateCome (s : State) (g : SrGen) : Prop :=
  s.srChans g = [] ∨ ∃ n ∈ s.srChans g, s.firstEdge n (s.tsPhase n) ≤ s.phaseNow n

theorem exec_srGateOpen {i : Nat} (hi : (s.sr g).ts = some i) (hst : s.srst g = 1) (hdue : s.tdiff i s.now ≤ 0)
    (hcome : s.GateCome g) : exec (.srGateOpen g) s = .next (s.srOpen g) := by
  have hany : ((s.srChans g).isEmpty || (s.srChans g).any fun n => decide (s.firstEdge n (s.tsPhase n) ≤ s.phaseNow n)) = true := by
    simpa only [State.GateCome, Bool.or_eq_true, List.isEmpty_iff, List.any_eq_true, decide_eq_true_iff] using hcome
  change execSrGateOpen g s = _
  unfold execSrGateOpen
  rw [hi]
  exact congrArg Host.Outcome.next (if_pos ⟨hst, hdue, hany⟩)

theorem exec_srGateOpen_early {i : Nat} (hi : (s.sr g).ts = some i) (hdue : 0 < s.tdiff i s.now) :
    exec (.srGateOpen g) s = .next s := by
  change execSrGateOpen g s = _
  unfold execSrGateOpen
  rw [hi]
  exact congrArg Host.Outcome.next (if_neg fun h => absurd h.2.1 (not_le.mpr hdue))

/-- A channel of an open gate counts from its first divider edge on. -/
def OutSt.gateOpen (edge : Int) (x : OutSt) : OutSt := { x with sr := some (0, edge), srLimit := none, pulse := none }

theorem State.srOpen_eq : s.srOpen g = (s.putSrst g 2 0).modOuts (s.srChans g) fun n => .gateOpen (s.firstEdge n (s.tsPhase n)) := rfl

theorem srGateOpen_opens (hs : s.Ready) {i : Nat} (hi : (s.sr g).ts = some i) (hst : s.srst g = 1) (hdue : s.tdiff i s.now ≤ 0)
    (hcome : s.GateCome g) : s.To (.srGateOpen g) fun t => t.srst g = 2 ∧ t.sr g = s.sr g ∧
      ∀ n ∈ s.srChans g, (t.chan n).sr = some (0, s.firstEdge n (s.tsPhase n)) := by
  refine ⟨_, exec_srGateOpen hi hst hdue hcome, ?_⟩
  rw [State.srOpen_eq]
  have hput : (s.putSrst g 2 0).Inv := ((State.WinMoves.ofSync hs.1 [srStateFld g]).putSrst 2 0 (by simp)).inv
  have houts := (State.WinMoves.ofSync hput []).modOuts (s.srChans g) fun n => .gateOpen (s.firstEdge n (s.tsPhase n))
  refine ⟨(houts.get _ (srst_clearOf_nil g)).trans (State.putSrst_spec hs.1.canon (by decide) 0).1, ?_, fun n hn => ?_⟩
  · unfold State.sr
    rw [State.modOuts_sync]
    rfl
  · rw [State.modOuts_chan_of_mem hput (State.srChans_nodup _) hn (State.mem_srChans.mp hn).1]
    rfl

/-! ### The end of a pattern (R175, R176) -/

theorem exec_srPatternEnd (hst : s.srst g = 2) (hkind : (s.sr g).kind = 1) (hend : s.srEnded g = true) :
    exec (.srPatternEnd g) s = .next (s.srClose g (s.srPassed g)) := congrArg Host.Outcome.next (if_pos ⟨hst, hkind, hend⟩)

theorem exec_srPatternEnd_before (hend : s.srEnded g = false) : exec (.srPatternEnd g) s = .next s :=
  congrArg Host.Outcome.next (if_neg fun h => absurd (hend.symm.trans h.2.2) (by decide))

theorem State.srPassed_running (hst : s.srst g = 2) : s.srPassed g =
    match s.srChan g with
    | some n => min (2 ^ 24 - 1) ((s.sr g).admitted (s.srAllowed n))
    | none => 0 := if_pos (by rw [hst])

theorem State.srPassed_lt (hst : s.srst g = 2) : s.srPassed g < 2 ^ 24 := by
  rw [State.srPassed_running hst]
  split
  · exact Nat.lt_of_le_of_lt (Nat.min_le_left ..) (by decide)
  · decide

/-- An NPULSE pattern that has ended has passed ON periods. -/
theorem State.srPassed_ended (hst : s.srst g = 2) (hkind : (s.sr g).kind = 1) (hend : s.srEnded g = true) {n : Nat}
    (hn : s.srChan g = some n) (hlimit : (s.chan n).srLimit = none) (hon : (s.sr g).on < 2 ^ 24) : s.srPassed g = (s.sr g).on := by
  have hmem : n ∈ s.srChans g := List.mem_of_head? hn
  have hperiods : (s.sr g).on ≤ s.srPeriods n := by
    have hown := List.all_eq_true.mp hend n hmem
    simp only [hlimit, Option.getD_none, Bool.and_eq_true, decide_eq_true_iff] at hown
    exact hown.1
  have hallowed : s.srAllowed n = s.srPeriods n := by simp [State.srAllowed, hlimit]
  have hadmitted : (s.sr g).admitted (s.srPeriods n) = (s.sr g).on := by simp [SrSt.admitted, hkind, hperiods]
  rw [State.srPassed_running hst, hn]
  dsimp only
  rw [hallowed, hadmitted]
  exact Nat.min_eq_right (Nat.le_of_lt_succ hon)

theorem srPatternEnd_closes (hs : s.Ready) (hst : s.srst g = 2) (hkind : (s.sr g).kind = 1) (hend : s.srEnded g = true) :
    s.To (.srPatternEnd g) fun t => t.SrDone g ∧ t.get W_SYNC (SYNC_SR_STATE_PASSED.up (srOff g)) = s.srPassed g ∧
      ∀ n, s.srChan g = some n → (s.chan n).srLimit = none → (s.sr g).on < 2 ^ 24 →
        t.get W_SYNC (SYNC_SR_STATE_PASSED.up (srOff g)) = (s.sr g).on := by
  obtain ⟨hdone, hpassed, -⟩ := State.srClose_spec (g := g) hs.1 (s.srPassed g)
  rw [Nat.mod_eq_of_lt (State.srPassed_lt hst)] at hpassed
  exact ⟨_, exec_srPatternEnd hst hkind hend, hdone, hpassed, fun n hn hlimit hon =>
    hpassed.trans (State.srPassed_ended hst hkind hend hn hlimit hon)⟩

end

section
variable {s : State} {r : Req} {g : SrGen} {v : Word}

/-! ### START by the source of T_s, as O41 lists them -/

theorem srStart_late_from (hs : s.Ready) (hr : r ≠ .i2c) (h1 : v.getLsbD 1 = false) (hfree : s.SrFree g) {st i : Nat}
    (hst : s.srSource g = st) (hi : s.srTs g st = some i) (hlate : s.tdiff i s.now < 200 * 65536) :
    s.To (.srStart r g v) fun t => t.srst g = 0 ∧ t.evPending (evNo 6 19) = true :=
  srStart_comes_late hs hr h1 hfree (hst ▸ hi) hlate

theorem srStart_arms_from (hs : s.Ready) (hr : r ≠ .i2c) (h1 : v.getLsbD 1 = false) (hfree : s.SrFree g) {st i : Nat}
    (hst : s.srSource g = st) (hi : s.srTs g st = some i) (hahead : 200 * 65536 ≤ s.tdiff i s.now)
    (halone : v.getLsbD 2 = false ∨ s.glMayBroadcast = false) :
    s.To (.srStart r g v) fun t => s.StartArmed t g (if st = 2 then none else some i) := by
  have harmed := srStart_arms_known hs hr h1 hfree (hst ▸ hi) hahead halone
  rwa [hst] at harmed

theorem srStart_waits_from (hs : s.Ready) (hr : r ≠ .i2c) (h1 : v.getLsbD 1 = false) (hfree : s.SrFree g) {st : Nat}
    (hst : s.srSource g = st) (hi : s.srTs g st = none) : s.To (.srStart r g v) fun t => s.StartArmed t g none :=
  srStart_arms_waiting hs hr h1 hfree (hst ▸ hi)

/-- A start now comes 1 µs ahead. -/
theorem State.tdiff_now : 200 * 65536 ≤ s.tdiff (s.tplus s.now 65536000) s.now := by
  rw [State.tdiff_tplus _ (by decide)]
  decide

end

/-- Settles O41: a start by the source of its T_s, a stop by SRST, the gate's opening channel by channel, and its close, which leaves
what the other generators' patterns read. -/
theorem sysrefGenerators : Obligations.SysrefGenerators := by
  unfold Obligations.SysrefGenerators
  intro s r g v hs hr
  refine ⟨fun hbusy h1 => srStart_refuses hs hr h1 (.inl hbusy),
    fun hfree hst hlate h1 => srStart_late_from hs hr h1 hfree hst State.srTs_at hlate,
    fun hfree hst hahead halone h1 => srStart_arms_from hs hr h1 hfree hst State.srTs_at hahead halone,
    fun hfree hst h1 => srStart_waits_from hs hr h1 hfree hst State.srTs_pin,
    fun hfree hst hnone h1 => srStart_waits_from hs hr h1 hfree hst (State.srTs_withSync_none hnone), fun t0 hfree hst harmed ht => ?_,
    fun hfree hst halone h1 => srStart_arms_from hs hr h1 hfree hst State.srTs_now State.tdiff_now halone,
    fun h0 => ⟨srStop_ends_armed hs hr h0, srStop_stops_running hs hr h0, srStop_leaves hs hr h0⟩,
    fun hst hts hend => State.srTick_done hs.1 ⟨Option.isSome_iff_ne_none.mpr hts, hst, hend⟩,
    fun t0 hts hst => ⟨srGateOpen_opens hs hts hst, fun hearly => ⟨s, exec_srGateOpen_early hts hearly, rfl⟩⟩,
    srPatternEnd_closes hs, fun _ _ hend => ⟨s, exec_srPatternEnd_before hend, rfl⟩⟩
  have hts : s.srTs g 2 = some t0 := by rw [State.srTs_withSync, if_pos harmed, ht]
  exact ⟨fun hlate h1 => srStart_late_from hs hr h1 hfree hst hts hlate,
    fun hahead halone h1 => srStart_arms_from hs hr h1 hfree hst hts hahead halone⟩

end Sys2Proof.Machine

/-!
PROOF. The grid phases, the trims and their saturation (R165, R167).
-/

namespace Sys2Proof.Machine

section
variable {s : State} {n : Apll}

/-! ### Grid phases (R165) -/

theorem State.view_aph : ∀ n : Apll, s.view W_SYNC (SYNC_APHA + 4 * n) = s.aphReg n % 2 ^ 32
  | 0 => rfl
  | 1 => rfl

theorem State.view_aperr : ∀ n : Apll, s.view W_SYNC (SYNC_APERRA + 4 * n) = s.aperrReg n % 2 ^ 32
  | 0 => rfl
  | 1 => rfl

/-- Without lock neither φ nor APERR is valid. -/
theorem State.phi_unlocked (h : s.apllLock n = false) : s.phi n = none := if_neg (by rw [h]; decide)

theorem State.aperr_of_phi {phi : Int} (h : s.phi n = some phi) : s.aperr n = some (
    let e := (phi - s.rn W_SYNC (SYNC_PHTGTA + 4 * n) * 2 ^ 16) % s.vcoPeriod n
    quotFree (if s.vcoPeriod n < 2 * e then e - s.vcoPeriod n else e) (2 ^ 16)) := by
  unfold State.aperr
  rw [h]
  rfl

/-- φ put, while locked. -/
theorem State.phi_put (hlock : s.apllLock n = true) (i : Int) :
    (s.setSync { s.sync with phi := lput none s.sync.phi n (some i) }).phi n = some i := by
  have hkept : (s.setSync { s.sync with phi := lput none s.sync.phi n (some i) }).apllLock n = true := hlock
  rw [State.phi, if_pos hkept]
  exact lget_lput_same ..

theorem State.syncPhase_eq (hp : 0 < s.vcoPeriod n) (raw : Int) :
    s.syncPhase n raw = s.setSync { s.sync with phi := lput none s.sync.phi n (some (raw % s.vcoPeriod n)) } := by
  unfold State.syncPhase
  dsimp only
  rw [if_neg (not_le.mpr hp)]

/-- A measured phase is the remainder modulo the VCO period. -/
theorem State.syncPhase_phi (hlock : s.apllLock n = true) (hp : 0 < s.vcoPeriod n) (raw : Int) :
    (s.syncPhase n raw).phi n = some (raw % s.vcoPeriod n) := by
  rw [State.syncPhase_eq hp, State.phi_put hlock]

theorem State.syncPhase_regs (hp : 0 < s.vcoPeriod n) (raw : Int) : (s.syncPhase n raw).regs = s.regs := by
  rw [State.syncPhase_eq hp]
  rfl

/-- The watch of an excursion leaves the registers and the phases. -/
theorem State.trimWatch_leaves : (s.trimWatch n).regs = s.regs ∧ (s.trimWatch n).sync.phi = s.sync.phi := by
  unfold State.trimWatch
  dsimp only
  split_ifs <;> exact ⟨rfl, rfl⟩

theorem State.phi_congr {t : State} (hregs : t.regs = s.regs) (hphi : t.sync.phi = s.sync.phi) : t.phi n = s.phi n := by
  unfold State.phi State.apllLock State.flag State.get State.rn State.rd
  rw [hregs, hphi]

theorem State.vcoPeriod_congr {t : State} (hregs : t.regs = s.regs) : t.vcoPeriod n = s.vcoPeriod n := by
  unfold State.vcoPeriod State.rdiv State.mNom State.pair State.get State.rn State.rd
  rw [hregs]

theorem exec_apllPhaseMeasurement (h : s.apllLock n = true) (raw : Int) :
    exec (.apllPhaseMeasurement n raw) s = .next ((s.syncPhase n raw).trimWatch n) := congrArg Host.Outcome.next (if_pos h)

theorem exec_apllPhaseMeasurement_unlocked (h : s.apllLock n = false) (raw : Int) :
    exec (.apllPhaseMeasurement n raw) s = .next s := congrArg Host.Outcome.next (if_neg (by rw [h]; decide))

theorem apllPhaseMeasurement_shows (hlock : s.apllLock n = true) (hp : 0 < s.vcoPeriod n) (raw : Int) :
    s.To (.apllPhaseMeasurement n raw) fun t =>
      t.view W_SYNC (SYNC_APHA + 4 * n) = (quotFree (raw % s.vcoPeriod n) (2 ^ 16)).toNat % 2 ^ 32 ∧
      t.aperr n = some (
        let e := (raw % s.vcoPeriod n - s.rn W_SYNC (SYNC_PHTGTA + 4 * n) * 2 ^ 16) % s.vcoPeriod n
        quotFree (if s.vcoPeriod n < 2 * e then e - s.vcoPeriod n else e) (2 ^ 16)) := by
  obtain ⟨hwatch, hkept⟩ := State.trimWatch_leaves (s := s.syncPhase n raw) (n := n)
  have hregs : ((s.syncPhase n raw).trimWatch n).regs = s.regs := hwatch.trans (State.syncPhase_regs hp raw)
  have hphi : ((s.syncPhase n raw).trimWatch n).phi n = some (raw % s.vcoPeriod n) :=
    (State.phi_congr hwatch hkept).trans (State.syncPhase_phi hlock hp raw)
  refine ⟨_, exec_apllPhaseMeasurement hlock raw, ?_, ?_⟩
  · rw [State.view_aph, State.aphReg, hphi]
    exact Nat.mod_mod _ _
  · rw [State.aperr_of_phi hphi, State.vcoPeriod_congr hregs]
    unfold State.rn State.rd
    rw [hregs]

theorem apllPhaseMeasurement_unlocked (hlock : s.apllLock n = false) (raw : Int) : s.To (.apllPhaseMeasurement n raw) (· = s) ∧
    s.view W_SYNC (SYNC_APHA + 4 * n) = 2 ^ 32 - 1 ∧ s.view W_SYNC (SYNC_APERRA + 4 * n) = 0x8000_0000 := by
  have hnone := State.phi_unlocked hlock
  refine ⟨⟨s, exec_apllPhaseMeasurement_unlocked hlock raw, rfl⟩, ?_, ?_⟩
  · rw [State.view_aph, State.aphReg, hnone]
    rfl
  · rw [State.view_aperr, State.aperrReg, State.aperr, hnone]
    rfl

/-! ### Trims (R167) -/

/-- The trim's place on its grid is taken. -/
def State.trimTaken (s : State) (n : Apll) : State :=
  s.setSync { s.sync with trimIdx := lput 0 s.sync.trimIdx n (s.tb.c / s.trimInt) }

theorem exec_apllTrim (hs : s.Ready) (hon : s.trimOn n = true) (hdue : lget 0 s.sync.trimIdx n < s.tb.c / s.trimInt) :
    exec (.apllTrim n) s = .next ((s.trimTaken n).trim n) := by
  have hgrid : s.gridDue s.trimInt (lget 0 s.sync.trimIdx n) = true := by
    have hrun : s.tb.running = true := (Bool.and_eq_true_iff.mp hs.2.2).1
    simp [State.gridDue, hrun, hdue]
  exact congrArg Host.Outcome.next (if_pos ⟨hon, hgrid⟩)

variable {e : Int}

/-- The counter of the trims of APLL `n`. -/
def trimCnt (n : Apll) : Fld := if n.val = 0 then SYNC_TRIMCNT_A else SYNC_TRIMCNT_B

theorem State.trim_small (he : s.aperr n = some e) (h : e.natAbs * 1000 ≤ s.trimThr * 16384) : s.trim n = s := by
  unfold State.trim
  rw [he]
  exact if_pos (.inl h)

theorem State.trim_large (he : s.aperr n = some e) (h : s.trimThr * 16384 < e.natAbs * 1000) (hrem : s.psrem (s.destLoop n) = 0) :
    s.trim n = if s.steersTb (s.destLoop n) then s.syncEvent 4 14
      else if s.pstepRefused (s.destLoop n) (roundFree (-e * 15625) 1024) then (s.pstepRef (s.destLoop n)).syncEvent 4 14
      else (s.pstep (s.destLoop n) (roundFree (-e * 15625) 1024)).put W_SYNC (trimCnt n)
        (s.get W_SYNC (trimCnt n) + 1) := by
  unfold State.trim
  rw [he]
  exact if_neg (by rw [hrem]; omega)

theorem apllTrim_leaves (hs : s.Ready) (hon : s.trimOn n = true) (hdue : lget 0 s.sync.trimIdx n < s.tb.c / s.trimInt)
    (he : s.aperr n = some e) (h : e.natAbs * 1000 ≤ s.trimThr * 16384) : s.To (.apllTrim n) fun t => t.regs = s.regs := by
  refine ⟨_, exec_apllTrim hs hon hdue, ?_⟩
  rw [State.trim_small (s := s.trimTaken n) he h]
  rfl

/-- The loop that steps APLL `n`'s output. -/
def State.trimLoop (s : State) (n : Apll) : Loop := ⟨s.destLoop n, bitsOf_lt _ _ _⟩

theorem wDpll_ne_sync (d : Loop) : W_SYNC ≠ wDpll d := by unfold wDpll W_DPLL W_SYNC; omega

/-- What an event of SYNC and a field of its window leave of a loop. -/
theorem State.LoopMoves.syncEvent {t : State} {d : Loop} {fs : List Fld} (h : s.LoopMoves d fs t) (bit : Nat) {b : Nat} (hb : b < 32) :
    s.LoopMoves d fs (t.syncEvent bit b) := (h.wrOther _ (wDpll_ne_sync d) (by decide)).raise (evNo_sync_lt hb)

theorem State.LoopMoves.putSync {t : State} {d : Loop} {fs : List Fld} (h : s.LoopMoves d fs t) {f : Fld} (v : Nat) (ho : f.off < 0x4000) :
    s.LoopMoves d fs (t.put W_SYNC f v) := h.wrOther _ (wDpll_ne_sync d) ho

/-- R167: a loop that steers the timebase is not stepped; the trim is reported. -/
theorem apllTrim_reports (hs : s.Ready) (hon : s.trimOn n = true) (hdue : lget 0 s.sync.trimIdx n < s.tb.c / s.trimInt)
    (he : s.aperr n = some e) (h : s.trimThr * 16384 < e.natAbs * 1000) (hrem : s.psrem (s.destLoop n) = 0)
    (htb : s.steersTb (s.destLoop n) = true) :
    s.To (.apllTrim n) fun t => t.psrem (s.destLoop n) = 0 ∧ t.evPending (evNo 6 14) = true := by
  have htrim : (s.trimTaken n).trim n = (s.trimTaken n).syncEvent 4 14 :=
    (State.trim_large (s := s.trimTaken n) he h hrem).trans (if_pos htb)
  have hinv : (s.trimTaken n).Inv := ((State.WinMoves.ofSync hs.1 []).setSync _).inv
  have hloop := (State.LoopMoves.refl (n := s.trimLoop n) (fs := []) hinv).syncEvent 4 (b := 14) (by decide)
  refine ⟨_, exec_apllTrim hs hon hdue, ?_⟩
  rw [htrim]
  exact ⟨hloop.psrem.trans hrem, State.syncEvent_evPending hinv 4 (by decide)⟩

theorem trimCnt_fits : ∀ n : Apll, (trimCnt n).lsb + (trimCnt n).width ≤ 32 ∧ (trimCnt n).width = 16 ∧ (trimCnt n).off < 0x4000 := by
  decide

/-- R167: the loop is stepped by minus the error, and the trim counted. -/
theorem apllTrim_steps (hs : s.Ready) (hon : s.trimOn n = true) (hdue : lget 0 s.sync.trimIdx n < s.tb.c / s.trimInt)
    (he : s.aperr n = some e) (h : s.trimThr * 16384 < e.natAbs * 1000) (hrem : s.psrem (s.destLoop n) = 0)
    (htb : s.steersTb (s.destLoop n) = false) (hfits : s.pstepRefused (s.destLoop n) (roundFree (-e * 15625) 1024) = false) :
    s.To (.apllTrim n) fun t => t.psrem (s.destLoop n) = roundFree (-e * 15625) 1024 ∧
      t.get W_SYNC (trimCnt n) =
        (s.get W_SYNC (trimCnt n) + 1) % 2 ^ 16 := by
  have hinv : (s.trimTaken n).Inv := ((State.WinMoves.ofSync hs.1 []).setSync _).inv
  have htrim : (s.trimTaken n).trim n =
      ((s.trimTaken n).pstep (s.trimLoop n) (roundFree (-e * 15625) 1024)).put W_SYNC (trimCnt n) (s.get W_SYNC (trimCnt n) + 1) :=
    (State.trim_large (s := s.trimTaken n) he h hrem).trans
      ((if_neg (Bool.eq_false_iff.mp htb)).trans (if_neg (Bool.eq_false_iff.mp hfits)))
  obtain ⟨hlo, hhi⟩ : -2 ^ 47 ≤ roundFree (-e * 15625) 1024 ∧ roundFree (-e * 15625) 1024 < 2 ^ 47 := by
    simp only [State.pstepRefused, hrem, zero_add, Bool.or_eq_false_iff, decide_eq_false_iff_not] at hfits
    omega
  have hzero : (s.trimTaken n).psrem (s.trimLoop n) = 0 := hrem
  have hinv' := (State.LoopMoves.pstep (State.LoopMoves.refl (n := s.trimLoop n) (fs := dpllStepFields) hinv)
    (roundFree (-e * 15625) 1024) (fun _ h => h)).inv
  have hstep : ((s.trimTaken n).pstep (s.trimLoop n) (roundFree (-e * 15625) 1024)).psrem (s.trimLoop n) =
      roundFree (-e * 15625) 1024 := by
    rw [State.pstep_psrem hinv (by rw [hzero, zero_add]; exact hlo) (by rw [hzero, zero_add]; exact hhi), hzero, zero_add]
  obtain ⟨h32, hwidth, hoff⟩ := trimCnt_fits n
  refine ⟨_, exec_apllTrim hs hon hdue, ?_⟩
  rw [htrim]
  refine ⟨((State.LoopMoves.refl (n := s.trimLoop n) (fs := []) hinv').putSync _ hoff).psrem.trans hstep, ?_⟩
  rw [State.get_put_same _ hinv'.canon _ _ _ h32, hwidth]

/-! ### Saturation (R167) -/

theorem trimSaturation_raises (hs : s.Ready) {c : Nat} (hc : lget none s.sync.satSince n = some c) (hon : s.trimOn n = true)
    (hdone : lget false s.sync.satDone n = false) (hvalid : (s.aperr n).isSome = true) (hdue : s.due ((c + secU) % 2 ^ 96) = true) :
    s.To (.trimSaturation n) fun t => t.evPending (evNo 6 13) = true ∧ lget false t.sync.satDone n = true := by
  have hexec : exec (.trimSaturation n) s =
      .next ((s.setSync { s.sync with satDone := lput false s.sync.satDone n true }).syncEvent 3 13) := by
    change execTrimSaturation n s = _
    unfold execTrimSaturation
    rw [hc]
    exact congrArg Host.Outcome.next (if_pos ⟨hon, hvalid, Bool.eq_false_iff.mp hdone, hdue⟩)
  refine ⟨_, hexec, State.syncEvent_evPending ((State.WinMoves.ofSync hs.1 []).setSync _).inv 3 (by decide), ?_⟩
  rw [State.syncEvent_sync]
  exact lget_lput_same ..

end

end Sys2Proof.Machine

/-!
PROOF. The echo results (R179 to R182), and O42.
-/

namespace Sys2Proof.Machine

section
variable {s t : State} {k : Chan} {fs : List Fld}

/-! ### The registers of a channel's results -/

/-- SYNC_ETAUn and SYNC_ERESn. -/
def etauFld (k : Chan) : Fld := .word (SYNC_ETAU + 0x10 * k)
def eresFld (k : Chan) : Fld := .word (SYNC_ERES + 0x10 * k)

theorem etauFld_lt (k : Chan) : SYNC_ETAU + 0x10 * k.val < 0x4000 := by unfold SYNC_ETAU; omega
theorem eresFld_lt (k : Chan) : SYNC_ERES + 0x10 * k.val < 0x4000 := by unfold SYNC_ERES; omega

theorem etau_clearOf_ests : ∀ k : Chan, (etauFld k).clearOf [.word SYNC_ESTS] = true := by decide
theorem rstat_clearOf_ests : ∀ k : Chan, (SYNC_ERES_RSTAT.up (0x10 * k)).clearOf [.word SYNC_ESTS] = true := by decide
theorem rstat_clearOf_etau_ests : ∀ k : Chan, (SYNC_ERES_RSTAT.up (0x10 * k)).clearOf [etauFld k, .word SYNC_ESTS] = true := by
  decide

/-- Everything that shows a result without accepting it writes. -/
theorem etau_clearOf_shown : ∀ k : Chan, (etauFld k).clearOf [eresFld k, .word SYNC_ESTS] = true := by decide

/-! ### Echo's events and the channel's compensation (R182, R185) -/

namespace State.WinMoves

theorem modEcho (h : s.WinMoves W_SYNC fs t) (m : Nat) (f : EchoSt → EchoSt) : s.WinMoves W_SYNC fs (t.modEcho m f) := h.setSync _

theorem echoShow (h : s.WinMoves W_SYNC fs t) (lam gam : Int) (r : RStat) (hf : eresFld k ∈ fs) :
    s.WinMoves W_SYNC fs (t.echoShow k lam gam r) := h.wr _ hf (eresFld_lt k)

theorem echoEvent (h : s.WinMoves W_SYNC fs t) (m : Nat) {b : Nat} (hb : b < 8) (hf : Fld.word SYNC_ESTS ∈ fs) :
    s.WinMoves W_SYNC fs (t.echoEvent m b) :=
  ((h.sts _ hf (by decide)).wr _ hf (by decide)).raise (by unfold evNo; omega)

/-- A channel's window stands beside SYNC's. -/
theorem putOut (h : s.WinMoves W_SYNC fs t) (m : Nat) {f : Fld} (v : Nat) (ho : f.off < 0x4000) :
    s.WinMoves W_SYNC fs (t.put (wOut m) f v) := h.putOther v (wOut_ne_sync m) (wOut_ne_evt m) ho

theorem outRetarget (h : s.WinMoves W_SYNC fs t) (m : Nat) : s.WinMoves W_SYNC fs (t.outRetarget m) := by
  have hclamp (i j : Nat) := (h.putOut m (f := OUT_FRETAPP_T) i (by decide)).putOut m (f := OUT_STATE_FCLAMP) j (by decide)
  refine .ite (fun _ => ?_) fun _ => hclamp _ _
  exact ((hclamp _ _).wrOther _ (wOut_ne_sync m) (wOut_ne_evt m) (by decide)).raise (by unfold evNo; split <;> omega)

theorem echoApply (h : s.WinMoves W_SYNC fs t) (m tau : Nat) (lam : Int) (hf : Fld.word SYNC_ESTS ∈ fs) :
    s.WinMoves W_SYNC fs (t.echoApply m tau lam) := by
  unfold State.echoApply
  dsimp only
  have hset {c : Prop} [Decidable c] (i : Nat) :
      s.WinMoves W_SYNC fs (if c then ((t.put (wOut m) OUT_FCOMP_V i).echoEvent m 0).outRetarget m else t) :=
    .ite (fun _ => ((h.putOut m i (by decide)).echoEvent m (by decide) hf).outRetarget m) fun _ => h
  exact .ite (fun _ => hset _) fun _ => (hset _).echoEvent m (by decide) hf

theorem echoAccept (h : s.WinMoves W_SYNC fs t) (tau : Nat) (lam : Int) (ht : etauFld k ∈ fs) (hf : Fld.word SYNC_ESTS ∈ fs) :
    s.WinMoves W_SYNC fs (t.echoAccept k tau lam) :=
  have hshown := (h.wr (off := SYNC_ETAU + 0x10 * k) tau ht (etauFld_lt k)).setCal _
  .ite (fun _ => hshown.echoApply k tau lam hf) fun _ => hshown

end State.WinMoves

/-- R181: the accepted τ is shown. -/
theorem State.echoAccept_etau (h : s.Inv) {tau : Nat} (htau : tau < 2 ^ 32) (lam : Int) :
    (s.echoAccept k tau lam).rn W_SYNC (SYNC_ETAU + 0x10 * k) = tau := by
  have hwr : (s.wr W_SYNC (SYNC_ETAU + 0x10 * k) tau).rn W_SYNC (SYNC_ETAU + 0x10 * k) = tau :=
    (State.rn_wr_same s h.canon _ _ _).trans (Nat.mod_eq_of_lt htau)
  have hshown := (State.WinMoves.ofSync (h.wr W_SYNC (SYNC_ETAU + 0x10 * k) tau) [.word SYNC_ESTS]).setCal
    { s.cal with echo := lupd (0, 0) s.cal.echo k fun x => (tau, x.2) }
  have hmoves : (s.wr W_SYNC (SYNC_ETAU + 0x10 * k) tau).WinMoves W_SYNC [.word SYNC_ESTS] (s.echoAccept k tau lam) :=
    .ite (fun _ => hshown.echoApply k tau lam (by decide)) fun _ => hshown
  exact (hmoves.rn _ (etau_clearOf_ests k)).trans hwr

theorem RStat.code_lt (r : RStat) : r.code < 8 := by cases r <;> decide

/-- The result shown. -/
theorem State.echoShow_rstat (h : s.Canon) (lam gam : Int) (r : RStat) :
    (s.echoShow k lam gam r).get W_SYNC (SYNC_ERES_RSTAT.up (0x10 * k)) = r.code := by
  have hrn : (s.echoShow k lam gam r).rn W_SYNC (SYNC_ERES + 0x10 * k) =
      (ofSigned 16 lam + ofSigned 8 (quotFree gam 512) * 2 ^ 16 + r.code * 2 ^ 24) % 2 ^ 32 := State.rn_wr_same s h _ _ _
  have hlam := ofSigned_lt 16 lam
  have hgam := ofSigned_lt 8 (quotFree gam 512)
  have hcode := r.code_lt
  refine (congrArg (bitsOf · 24 3) hrn).trans ?_
  unfold bitsOf
  omega

/-! ### Results outside CALSEQ (R181) -/

/-- A result that is no τ is shown with its event. -/
def State.echoBad (s : State) (k : Chan) (lam gam : Int) (r : RStat) (b : Nat) : State :=
  ((s.echoShow k lam gam r).modEcho k fun x => { x with run := 0 }).echoEvent k b

theorem State.echoBad_spec (h : s.Inv) (lam gam : Int) (r : RStat) {b : Nat} (hb : b < 8) :
    (s.echoBad k lam gam r b).get W_SYNC (SYNC_ERES_RSTAT.up (0x10 * k)) = r.code ∧
      (s.echoBad k lam gam r b).rn W_SYNC (SYNC_ETAU + 0x10 * k) = s.rn W_SYNC (SYNC_ETAU + 0x10 * k) := by
  have hshow := (State.WinMoves.ofSync h [eresFld k, .word SYNC_ESTS]).echoShow (k := k) lam gam r (by simp)
  have hafter := ((State.WinMoves.ofSync hshow.inv [.word SYNC_ESTS]).modEcho k fun x => { x with run := 0 }).echoEvent k hb (by decide)
  have hall := (hshow.modEcho k fun x => { x with run := 0 }).echoEvent k hb (by simp)
  exact ⟨(hafter.get _ (rstat_clearOf_ests k)).trans (State.echoShow_rstat h.canon lam gam r), hall.rn _ (etau_clearOf_shown k)⟩

theorem State.echoResult_none (lam gam : Int) : s.echoResult k none lam gam false = s.echoBad k lam gam .range 4 := rfl

theorem State.echoResult_weak (tau : Nat) (lam : Int) {gam : Int} (h : gam.natAbs * 100 < 3 * 65536) :
    s.echoResult k (some tau) lam gam false = s.echoBad k lam gam .weak 1 := by
  have hclass : echoClass (some tau) gam = .weak := if_pos h
  unfold State.echoResult
  rw [hclass]
  rfl

/-- A reflection within the limits of Γ and of τ. -/
theorem echoClass_ok {tau : Nat} {gam : Int} (hlo : 3 * 65536 ≤ gam.natAbs * 100) (hhi : gam.natAbs * 4 < 3 * 65536)
    (hmin : 65536 ≤ tau * 10) (hmax : tau * 10 ≤ 45 * 65536) : echoClass (some tau) gam = .ok := by
  unfold echoClass
  dsimp only
  rw [if_neg (by omega), if_neg (by omega), if_neg (by omega), if_neg (by omega)]

/-- The first τ of a channel is accepted. -/
def State.echoFirst (s : State) (k : Chan) (tau : Nat) (lam gam : Int) : State :=
  ((s.modEcho k fun x => { x with run := 0 }).echoShow k lam gam .ok).echoAccept k tau lam

theorem State.echoResult_first {tau : Nat} {gam : Int} (lam : Int) (hclass : echoClass (some tau) gam = .ok)
    (hfirst : s.rn W_SYNC (SYNC_ETAU + 0x10 * k) = 2 ^ 32 - 1) (hchk : s.flag W_CAL CAL_CTL_ECHOCHK = false) :
    s.echoResult k (some tau) lam gam false = s.echoFirst k tau lam gam := by
  have hjump : s.echoJump k tau = (true, s.modEcho k fun x => { x with run := 0 }) := if_pos (.inl hfirst)
  unfold State.echoResult
  rw [hclass]
  dsimp only
  rw [hjump, hchk]
  rfl

theorem State.echoFirst_spec (h : s.Inv) {tau : Nat} (htau : tau < 2 ^ 32) (lam gam : Int) :
    (s.echoFirst k tau lam gam).get W_SYNC (SYNC_ERES_RSTAT.up (0x10 * k)) = 1 ∧
      (s.echoFirst k tau lam gam).rn W_SYNC (SYNC_ETAU + 0x10 * k) = tau := by
  have hmod := (State.WinMoves.ofSync h [eresFld k]).modEcho k fun x => { x with run := 0 }
  have hshow := hmod.echoShow (k := k) lam gam .ok (by simp)
  have haccept := (State.WinMoves.ofSync hshow.inv [etauFld k, .word SYNC_ESTS]).echoAccept (k := k) tau lam (by simp) (by simp)
  exact ⟨(haccept.get _ (rstat_clearOf_etau_ests k)).trans (State.echoShow_rstat hmod.inv.canon lam gam .ok),
    State.echoAccept_etau hshow.inv htau lam⟩

/-! ### The sampler's results (R179, R180) -/

/-- The channel is ranged, outside CALSEQ's step 4, and AVG has passed. -/
def State.Ranged (s : State) (k : Chan) : Prop :=
  s.rangeRuns k = true ∧ s.rangeRefused k = false ∧ s.seqSt ≠ 4 ∧ s.flag W_SYNC SYNC_ECTL_ECHOEN = true ∧
    s.flag W_SYNC (SYNC_ECFG_EN.up (0x10 * k)) = true ∧ s.since (s.echoSt k).at_ s.echoAvg = true

/-- A result comes in. -/
def State.echoTaken (s : State) (k : Chan) : State := s.modEcho k fun x => { x with refused := false, at_ := some s.tb.c }

theorem State.echoTaken_inv (h : s.Inv) : (s.echoTaken k).Inv := ((State.WinMoves.ofSync h []).modEcho k _).inv

theorem exec_echoResult (h : s.Ranged k) (tau : Option Nat) (lam gam : Int) : exec (.echoResult k tau lam gam) s =
    .next ((s.echoTaken k).echoResult k (tau.filter (s.echoInWindow k)) lam gam false) := by
  obtain ⟨hruns, hfit, hseq, hon, hen, havg⟩ := h
  change execEchoResult k tau lam gam s = _
  unfold execEchoResult
  simp only [hruns, hfit, beq_false_of_ne hseq, hon, hen, havg, Bool.false_and, not_true, false_or, and_self, or_self, Bool.false_eq_true,
    if_false]
  rfl

/-- No reflection found in the search window. -/
theorem echoResult_range (hs : s.Ready) (h : s.Ranged k) {tau : Option Nat} (htau : tau.filter (s.echoInWindow k) = none)
    (lam gam : Int) : s.To (.echoResult k tau lam gam) fun t => t.get W_SYNC (SYNC_ERES_RSTAT.up (0x10 * k)) = 5 ∧
      t.rn W_SYNC (SYNC_ETAU + 0x10 * k) = s.rn W_SYNC (SYNC_ETAU + 0x10 * k) := by
  refine ⟨_, exec_echoResult h tau lam gam, ?_⟩
  rw [htau, State.echoResult_none]
  exact State.echoBad_spec (State.echoTaken_inv hs.1) lam gam .range (by decide)

theorem echoResult_weak (hs : s.Ready) (h : s.Ranged k) {tau : Nat} (hfound : s.echoInWindow k tau = true) (lam : Int) {gam : Int}
    (hgam : gam.natAbs * 100 < 3 * 65536) : s.To (.echoResult k (some tau) lam gam) fun t =>
      t.get W_SYNC (SYNC_ERES_RSTAT.up (0x10 * k)) = 2 ∧
      t.rn W_SYNC (SYNC_ETAU + 0x10 * k) = s.rn W_SYNC (SYNC_ETAU + 0x10 * k) := by
  refine ⟨_, exec_echoResult h _ lam gam, ?_⟩
  rw [Option.filter_some, if_pos hfound, State.echoResult_weak tau lam hgam]
  exact State.echoBad_spec (State.echoTaken_inv hs.1) lam gam .weak (by decide)

theorem echoResult_accepts (hs : s.Ready) (h : s.Ranged k) {tau : Nat} (hfound : s.echoInWindow k tau = true) (lam : Int) {gam : Int}
    (hlo : 3 * 65536 ≤ gam.natAbs * 100) (hhi : gam.natAbs * 4 < 3 * 65536) (hmin : 65536 ≤ tau * 10) (hmax : tau * 10 ≤ 45 * 65536)
    (hfirst : s.rn W_SYNC (SYNC_ETAU + 0x10 * k) = 2 ^ 32 - 1) (hchk : s.flag W_CAL CAL_CTL_ECHOCHK = false) :
    s.To (.echoResult k (some tau) lam gam) fun t => t.get W_SYNC (SYNC_ERES_RSTAT.up (0x10 * k)) = 1 ∧
      t.rn W_SYNC (SYNC_ETAU + 0x10 * k) = tau := by
  refine ⟨_, exec_echoResult h _ lam gam, ?_⟩
  rw [Option.filter_some, if_pos hfound,
    State.echoResult_first (s := s.echoTaken k) lam (echoClass_ok hlo hhi hmin hmax) hfirst hchk]
  exact State.echoFirst_spec (State.echoTaken_inv hs.1) (by omega) lam gam

end

/-- Settles O42: a measured phase is read back through its registers, a trim is followed to the loop's PSREM and the count, and an echo
result to its registers, past what its compensation writes. -/
theorem trimsAndEcho : Obligations.TrimsAndEcho := by
  unfold Obligations.TrimsAndEcho
  intro s n raw e k tau lam gam hs
  exact ⟨fun hlock hp => apllPhaseMeasurement_shows hlock hp raw, fun hlock => apllPhaseMeasurement_unlocked hlock raw,
    fun hon hdue he => ⟨apllTrim_leaves hs hon hdue he, fun hlarge hrem => ⟨apllTrim_reports hs hon hdue he hlarge hrem,
      apllTrim_steps hs hon hdue he hlarge hrem⟩⟩,
    fun _ hc hon hdone hvalid hdue => trimSaturation_raises hs hc hon hdone hvalid hdue,
    fun hranged => echoResult_range hs hranged rfl lam gam,
    fun hranged hlost => echoResult_range hs hranged (by rw [Option.filter_some, if_neg hlost]) lam gam,
    fun hranged hfound => echoResult_weak hs hranged hfound lam,
    fun hranged hfound => echoResult_accepts hs hranged hfound lam⟩

end Sys2Proof.Machine

/-!
PROOF. What leaves the timebase and TEV as they are: the operations of the channels, the queues and the Guyline that go on beside
them; and the tick itself (R190), as O6 states it.
-/

namespace Sys2Proof.Machine

/-- `t` comes of `s` by operations beside the timebase and TEV. -/
structure State.BesideTime (s t : State) : Prop where
  tb : t.tb = s.tb
  tev : t.tev = s.tev

namespace State.BesideTime

variable {s t u : State}

theorem refl (s : State) : s.BesideTime s := ⟨rfl, rfl⟩

theorem trans (h : s.BesideTime t) (k : t.BesideTime u) : s.BesideTime u := ⟨k.tb.trans h.tb, k.tev.trans h.tev⟩

theorem ite {c : Prop} [Decidable c] (ht : c → s.BesideTime t) (hu : ¬ c → s.BesideTime u) :
    s.BesideTime (if c then t else u) := by
  split
  · exact ht ‹_›
  · exact hu ‹_›

theorem foldl {α : Type} {op : State → α → State} (h : s.BesideTime t) (l : List α)
    (hop : ∀ (u : State) i, s.BesideTime u → s.BesideTime (op u i)) : s.BesideTime (l.foldl op t) :=
  List.foldlRecOn _ _ h fun u hu i _ => hop u i hu

/-! The small updates that they are made of. -/

theorem wr (h : s.BesideTime t) (w off v : Nat) : s.BesideTime (t.wr w off v) := h.trans ⟨rfl, rfl⟩
theorem put (h : s.BesideTime t) (w : Nat) (f : Fld) (v : Nat) : s.BesideTime (t.put w f v) := h.wr _ _ _
theorem count (h : s.BesideTime t) (w off n : Nat) : s.BesideTime (t.count w off n) := h.wr _ _ _
theorem sts (h : s.BesideTime t) (w off m : Nat) : s.BesideTime (t.sts w off m) := h.wr _ _ _
theorem emit (h : s.BesideTime t) (o : Output) : s.BesideTime (t.emit o) := h.trans ⟨rfl, rfl⟩
theorem modQueue (h : s.BesideTime t) (n : Nat) (f : QueueSt → QueueSt) : s.BesideTime (t.modQueue n f) := h.trans ⟨rfl, rfl⟩
theorem modOut (h : s.BesideTime t) (n : Nat) (f : OutSt → OutSt) : s.BesideTime (t.modOut n f) := h.trans ⟨rfl, rfl⟩
theorem setGl (h : s.BesideTime t) (x : GlSt) : s.BesideTime (t.setGl x) := h.trans ⟨rfl, rfl⟩
theorem setSync (h : s.BesideTime t) (x : SyncSt) : s.BesideTime (t.setSync x) := h.trans ⟨rfl, rfl⟩
theorem fault (h : s.BesideTime t) (src kind addr : Nat) : s.BesideTime (t.fault src kind addr) := h.trans ⟨rfl, rfl⟩

theorem raise (h : s.BesideTime t) (g b : Nat) : s.BesideTime (t.raise g b) :=
  h.trans ⟨State.raise_tb _ _ _, State.raise_tev _ _ _⟩

theorem engPend (h : s.BesideTime t) (k e : Nat) (arg : Word64) : s.BesideTime (t.engPend k e arg) :=
  .ite (fun _ => h.count _ _ _) fun _ => h.trans ⟨rfl, rfl⟩

/-! Queues (R296, R337). -/

theorem setBytes (h : s.BesideTime t) (a : Nat) (bs : List Byte) : s.BesideTime (t.setBytes a bs) := by
  induction bs generalizing t a with
  | nil => exact h
  | cons b bs ih => exact ih (h.trans (⟨rfl, rfl⟩ : t.BesideTime (t.setByte a b))) _

/-- A whole word written. -/
theorem memStore_word (h : s.BesideTime t) (a v : Nat) : s.BesideTime (t.memStore a 8 v) :=
  (h.trans (⟨rfl, rfl⟩ : t.BesideTime (t.setEcc (t.ecc.filter (fun e => e.1 != a / 8 * 8))))).setBytes a (leBytes 8 v)

theorem storeEntry (h : s.BesideTime t) (a : Nat) (e : BitVec 256) : s.BesideTime (t.storeEntry a e) :=
  (((h.memStore_word _ _).memStore_word _ _).memStore_word _ _).memStore_word _ _

theorem qPush (h : s.BesideTime t) (n : Nat) (e : BitVec 256) : s.BesideTime (t.qPush n e) := (h.storeEntry _ _).modQueue _ _

theorem qDrop (h : s.BesideTime t) (n k : Nat) : s.BesideTime (t.qDrop n k) := ((h.count _ _ _).sts _ _ _).raise 13 n

theorem qPutBlock (h : s.BesideTime t) (n : Nat) (e : BitVec 256) : s.BesideTime (t.qPutBlock n e) :=
  .ite (fun _ => h.qDrop n 1) fun _ => h.qPush n e

theorem qPutEngine (h : s.BesideTime t) (n : Nat) (e : BitVec 256) (wait : Bool) : s.BesideTime (t.qPutEngine n e wait).2 := by
  unfold State.qPutEngine
  split
  · exact h
  · split
    · exact h.qPush n e
    · split
      · exact h.qDrop n 1
      · exact ((h.modQueue n _).qPush n e).qDrop n 1
      · split
        · exact h.modQueue n _
        · exact h

/-! Channels (R152, R157). -/

theorem outEvent (h : s.BesideTime t) (n b : Nat) : s.BesideTime (t.outEvent n b) := (h.sts _ _ _).raise _ _

theorem outFinish (h : s.BesideTime t) (n : Nat) : s.BesideTime (t.outFinish n) :=
  (((h.put _ _ _).put _ _ _).modOut _ _).outEvent n 1

theorem drvDetect (h : s.BesideTime t) (n : Nat) : s.BesideTime (t.drvDetect n) :=
  ((((h.put _ _ _).count _ _ _).outEvent n 7).modOut _ _).fault _ _ _

theorem drvUnmask (h : s.BesideTime t) (n : Nat) : s.BesideTime (t.drvUnmask n) := .ite (fun _ => h.drvDetect n) fun _ => h

theorem outUngate (h : s.BesideTime t) (n : Nat) : s.BesideTime (t.outUngate n) := by
  have hcoarse : s.BesideTime (if t.safeAct n = 3 then t.coarseNow n else t) := .ite (fun _ => h.put _ _ _) fun _ => h
  exact (((((hcoarse.put _ _ _).modOut _ _).put _ _ _).modOut _ _).outEvent n 0).drvUnmask n

theorem outTurn (h : s.BesideTime t) (n : Nat) : s.BesideTime (t.outTurn n) :=
  .ite (fun _ => h) fun _ => .ite (fun _ => h.outFinish n) fun _ => .ite (fun _ => h.outUngate n) fun _ => h

theorem outTick (h : s.BesideTime t) : s.BesideTime t.outTick := h.foldl _ fun _ n hu => hu.outTurn n

/-! SYSREF (R177). -/

theorem modOuts (h : s.BesideTime t) (l : List Nat) (f : Nat → OutSt → OutSt) : s.BesideTime (t.modOuts l f) :=
  h.foldl _ fun _ _ hu => hu.modOut _ _

theorem srClose (h : s.BesideTime t) (g passed : Nat) : s.BesideTime (t.srClose g passed) := by
  rw [State.srClose_eq]
  exact ((((h.modOuts _ _).wr _ _ _).setSync _).sts _ _ _).raise 6 _

theorem srTick (h : s.BesideTime t) : s.BesideTime t.srTick :=
  h.foldl _ fun u g hu => .ite (fun _ => hu.srClose g (u.srPassed g)) fun _ => hu

/-! The Guyline (R257, R268 to R270). -/

theorem glNextSeq (h : s.BesideTime t) (cls : Nat) : s.BesideTime (t.glNextSeq cls) := h.setGl _

theorem glQueue (h : s.BesideTime t) (x : GlTx) : s.BesideTime (t.glQueue x) := .ite (fun _ => h.setGl _) fun _ => h

theorem glBroadcast (h : s.BesideTime t) (cls : Nat) (p : List Byte) : s.BesideTime (t.glBroadcast cls p) :=
  ((h.glQueue _).glQueue _).glNextSeq cls

theorem glDrain (h : s.BesideTime t) : s.BesideTime t.glDrain := by
  unfold State.glDrain
  split
  · exact h
  · exact .ite (fun _ => (h.setGl _).glBroadcast _ _) fun _ => h

theorem glDeliver (h : s.BesideTime t) (b : BulkCell) : s.BesideTime (t.glDeliver b) :=
  .ite (fun _ => h) fun _ => .ite (fun _ => (h.setGl _).qPutEngine _ _ _) fun _ => (h.setGl _).qDrop _ _

theorem glReturnCredits (h : s.BesideTime t) : s.BesideTime t.glReturnCredits :=
  h.foldl _ fun _ _ hu => .ite (fun _ => hu) fun _ => ((hu.setGl _).glQueue _).glNextSeq _

theorem glLeave (h : s.BesideTime t) (x : GlTx) (token : Bool) : s.BesideTime (t.glLeave x token) := by
  unfold State.glLeave
  split
  · exact h.emit _
  · have hdep : s.BesideTime (t.glDeparture x.port).2 := h.trans ⟨rfl, rfl⟩
    exact (State.BesideTime.ite (fun _ => hdep.setGl _) fun _ => hdep).emit _

theorem glIdleCell (h : s.BesideTime t) (p : Nat) (token : Bool) : s.BesideTime (t.glIdleCell p token) :=
  (State.BesideTime.ite (fun _ => h.glLeave _ true) fun _ => h).glNextSeq GL_IDLE

theorem glInsertBulk (h : s.BesideTime t) (d : Nat) : s.BesideTime (t.glInsertBulk d) := by
  unfold State.glInsertBulk
  split
  · exact (((h.setGl _).setGl _).glQueue _).glNextSeq _
  · exact h

theorem glSlot (h : s.BesideTime t) (k : SlotKind) (p : Nat) : s.BesideTime (t.glSlot k p) := by
  have htoken : s.BesideTime (if t.glTokenLeaves p then t.setToken p none else t) := .ite (fun _ => h.setGl _) fun _ => h
  have hbulk := State.BesideTime.ite
    (c := k = .bulk ∧ ((if t.glTokenLeaves p then t.setToken p none else t).glWaiting k p false).isNone)
    (fun _ => htoken.glInsertBulk p) fun _ => htoken
  unfold State.glSlot
  dsimp only
  split
  · exact (hbulk.setGl _).glLeave _ _
  · exact hbulk.glIdleCell _ _

theorem glTokenIn (h : s.BesideTime t) (d : Nat) : s.BesideTime (t.glTokenIn d) := (h.setGl _).setGl _

theorem glTurn (h : s.BesideTime t) (p : Nat) : s.BesideTime (t.glTurn p) := .ite (fun _ => (h.setGl _).glTokenIn _) fun _ => h

theorem glSlots (h : s.BesideTime t) : s.BesideTime t.glSlots :=
  .ite (fun _ => h) fun _ => (h.setGl _).foldl _ fun _ _ hu => .ite (fun _ => hu.glSlot _ _) fun _ => hu.glTurn _

theorem glDeliverAll (h : s.BesideTime t) : s.BesideTime t.glDeliverAll := h.foldl _ fun _ b hu => hu.glDeliver b

theorem glIdle (h : s.BesideTime t) : s.BesideTime t.glIdle :=
  .ite (fun _ => h.glDrain.glDeliverAll.glReturnCredits.glSlots) fun _ => h

/-! SYE (R243). -/

theorem syeRefresh (h : s.BesideTime t) : s.BesideTime t.syeRefresh :=
  h.foldl _ fun _ p hu => .ite (fun _ => hu) fun _ => (((hu.wr _ _ _).sts _ _ _).raise 12 4).engPend (9 + p) 1 0

end State.BesideTime

section
variable {s : State}

/-- A capture's record leaves through its queue (R206). -/
theorem State.capDrain_tb : s.capDrain.tb = s.tb := by
  unfold State.capDrain
  split
  · rfl
  · split
    · rfl
    · split
      · rfl
      · exact ((State.BesideTime.refl _).qPutBlock _ _).tb

/-! ### Increments and servo words (R194, R195) -/

theorem State.tbClamp_tb (acts : Bool) : (s.tbClamp acts).tb = { s.tb with clamp := acts } := by
  unfold State.tbClamp
  dsimp only
  split
  · exact State.raise_tb _ _ _
  · rfl

/-- The increment that `raw` comes to within the clamp of R194. -/
def clampedIncr (raw : Int) : Nat := ((2 : Int) ^ 48 + clampInt (-incrMax) incrMax (raw - 2 ^ 48)).toNat

/-- The timebase under the increment `raw`: in ring format its rate follows. -/
def TbSt.retuned (x : TbSt) (raw : Int) : TbSt :=
  if x.ring then { x.rebase with rate := clampInt (-rateMax) rateMax ((raw - 2 ^ 48) * 2 ^ 12) } else x

theorem State.tbRetune_tb (raw : Int) : ∃ acts, (s.tbRetune raw).tb = { s.tb.retuned raw with incr := clampedIncr raw, clamp := acts } :=
  ⟨_, State.tbClamp_tb _⟩

/-- What an increment leaves of the timebase: the count, standalone time, the format, steering, the epoch, what waits. -/
structure TbSt.SameCourse (x y : TbSt) : Prop where
  running : y.running = x.running
  c : y.c = x.c
  t : y.t = x.t
  ring : y.ring = x.ring
  steer : y.steer = x.steer
  changes : y.changes = x.changes

theorem State.tbRetune_course (raw : Int) : s.tb.SameCourse (s.tbRetune raw).tb := by
  obtain ⟨acts, htb⟩ := State.tbRetune_tb (s := s) raw
  rw [htb]
  unfold TbSt.retuned
  split <;> exact ⟨rfl, rfl, rfl, rfl, rfl, rfl⟩

/-- A servo word that comes into force leaves the count and the time. -/
theorem State.tbServoTick_course : s.tbServoTick.tb.running = s.tb.running ∧ s.tbServoTick.tb.c = s.tb.c ∧
    s.tbServoTick.tb.t = s.tb.t := by
  unfold State.tbServoTick
  split
  · unfold State.tbServoAgain
    split
    · obtain ⟨hrunning, hc, ht, -⟩ := State.tbRetune_course (s := s.setTb _) _
      exact ⟨hrunning, hc, ht⟩
    · exact ⟨rfl, rfl, rfl⟩
  · exact ⟨rfl, rfl, rfl⟩

/-! ### The tick (R190, R191) -/

theorem TbSt.tick_running (x : TbSt) : x.tick.running = x.running := by unfold TbSt.tick; dsimp only
theorem TbSt.tick_c (x : TbSt) : x.tick.c = (x.c + 65536) % 2 ^ 96 := rfl

theorem State.idle_tb (hrun : s.tb.running = true) : s.idle.tb = (s.setTb s.tb.tick).tbServoTick.tb := by
  unfold State.idle
  rw [if_pos hrun]
  exact (State.BesideTime.refl _).glIdle.syeRefresh.tb.trans
    (State.capDrain_tb.trans (State.BesideTime.refl _).outTick.srTick.tb)

end

/-- Settles O6: of what an idle tick does, only the count itself and a servo word that comes into force reach the timebase. -/
theorem idleTick : Obligations.IdleTick := by
  unfold Obligations.IdleTick
  intro s hempty
  have hstep : step s = .next s.idle := by
    unfold step
    rw [hempty]
  rw [hstep]
  refine ⟨fun hstill => ?_, fun hrun => ⟨_, rfl, ?_⟩⟩
  · have hidle : s.idle = s := if_neg (ne_true_of_eq_false hstill)
    rw [hidle]
  · obtain ⟨hrunning, hc, ht⟩ := State.tbServoTick_course (s := s.setTb s.tb.tick)
    rw [State.idle_tb hrun]
    rw [State.setTb_tb, TbSt.tick_running] at hrunning
    rw [State.setTb_tb, TbSt.tick_c] at hc
    refine ⟨(State.idle_keeps (State.keeps_refl s)).1.trans hempty, hc, hrunning.trans hrun, fun hring => ht.trans ?_⟩
    exact if_neg (ne_true_of_eq_false hring)

end Sys2Proof.Machine

/-!
PROOF. A read of a register at a door (R356, R375): where the registers stand, what a read latches, and what it answers, as O22 states it.
-/

namespace Sys2Proof.Machine

/-! ### Where registers stand (R376) -/

/-- The registers of a row are words below the end of the window. -/
def RegRow.placed (r : RegRow) : Bool := r.off % 4 == 0 && r.stride % 4 == 0 && decide (r.off + (r.n - 1) * r.stride < 0x1000)

theorem RegRow.placed_iff (r : RegRow) :
    r.placed = true ↔ r.off % 4 = 0 ∧ r.stride % 4 = 0 ∧ r.off + (r.n - 1) * r.stride < 0x1000 := by
  simp [RegRow.placed, and_assoc]

theorem RegRow.place_of_covers {r : RegRow} {off : Nat} (hp : r.placed = true) (hc : r.covers off = true) :
    off % 4 = 0 ∧ off < 0x1000 := by
  obtain ⟨hoff, hstride, hend⟩ := (RegRow.placed_iff r).mp hp
  simp only [RegRow.covers, Bool.and_eq_true, decide_eq_true_eq] at hc
  obtain ⟨hle, hc⟩ := hc
  split at hc
  · have heq := of_decide_eq_true hc
    omega
  · obtain ⟨hmod, hnum⟩ := (Bool.and_eq_true _ _).mp hc
    obtain ⟨k, hk⟩ := Nat.dvd_of_mod_eq_zero (of_decide_eq_true hmod)
    have hlast : k ≤ r.n - 1 := by
      have hdiv := of_decide_eq_true hnum
      rw [hk, Nat.mul_div_cancel_left k (by omega)] at hdiv
      omega
    have hin : r.stride * k ≤ (r.n - 1) * r.stride := (Nat.mul_comm _ _).trans_le (Nat.mul_le_mul_right _ hlast)
    have hword : r.stride * k % 4 = 0 := Nat.mod_eq_zero_of_dvd ((Nat.dvd_of_mod_eq_zero hstride).mul_right k)
    omega

theorem all_filter_of_all {α : Type} {p q : α → Bool} {l : List α} (h : l.all p = true) : (l.filter q).all p = true :=
  List.all_eq_true.mpr fun x hx => List.all_eq_true.mp h x (List.mem_of_mem_filter hx)

theorem all_ite {α : Type} {p : α → Bool} {c : Prop} [Decidable c] {l k : List α} (hl : l.all p = true) (hk : k.all p = true) :
    (if c then l else k).all p = true := by
  split
  · exact hl
  · exact hk

theorem blockRows_placed (b : Block) : (blockRows b).all RegRow.placed = true := by
  have hsrc : rowsSRC.all RegRow.placed = true := by decide
  have hptp : rowsPTP.all RegRow.placed = true := by decide
  have heng : rowsENG.all RegRow.placed = true := by decide
  cases b with
  | src n => exact all_ite (all_filter_of_all hsrc) hsrc
  | ptp n => exact all_ite hptp (all_filter_of_all hptp)
  | eng k => exact all_ite heng (all_filter_of_all heng)
  | _ => rfl

theorem winBlock_none {w : Nat} (h : 0x67 ≤ w) : winBlock w = none := by
  unfold winBlock
  repeat rw [if_neg (by omega)]

theorem winBlock_lt {w : Nat} {b : Block} (h : winBlock w = some b) : w < 0x67 := by
  by_contra hw
  rw [winBlock_none (by omega)] at h
  cases h

/-- A register of the map is a word of a block's window. -/
theorem regRow_place {w off : Nat} {row : RegRow} (h : regRow w off = some row) : w < 0x67 ∧ off % 4 = 0 ∧ off < 0x1000 := by
  unfold regRow at h
  split at h
  · cases h
  · rename_i b hb
    exact ⟨winBlock_lt hb, RegRow.place_of_covers (List.all_eq_true.mp (blockRows_placed b) _ (List.mem_of_find?_eq_some h))
      (List.find?_some (p := fun r : RegRow => r.covers off) h)⟩

/-! ### What a read does (R193, R356, R375) -/

section
variable {s : State} {r : Req} {w off : Nat}

theorem latchesOf_lt (ho : off < 0x1000) : ∀ o ∈ latchesOf w off, o < 0x4000 := by
  intro o hm
  unfold latchesOf at hm
  split at hm
  · cases hm
  · dsimp only at hm
    split_ifs at hm <;> simp only [List.mem_cons, List.not_mem_nil, or_false, OSC_LS_Y_LO, OSC_LS_Y_HI, OSC_LS_THETA, TB_TIME_W1,
      TB_TIME_W2, TB_EPOCH] at hm <;> omega

theorem State.view_lt : s.view w off < 2 ^ 32 := by
  unfold State.view
  split
  · exact Nat.mod_lt _ (by decide)
  · split
    · decide
    · split
      · decide
      · exact s.rn_lt w off

/-- While no parity is bad, a check finds none (R368). -/
theorem State.parCheck_of_nil (h : s.par = []) : s.parCheck w off = s := if_neg (by simp [h])

/-- A register outside PWR answers what the requester has latched of it, else what it shows. -/
theorem State.regRead_eq {row : RegRow} (hrow : regRow w off = some row) (hpar : s.par = []) (hw : w ≠ W_PWR) :
    s.regRead r w off = ((s.latched r w off).getD (s.view w off), s.readEffect r w off) := by
  have hsample : s.pwrSample w off = s := if_neg fun h => hw h.1
  have hcheck : (if row.cls = .cfg ∨ row.cls = .run then s.parCheck w off else s) = s := by
    rw [State.parCheck_of_nil hpar, ite_self]
  simp only [State.regRead, hrow, hsample, hcheck]
  cases s.latched r w off <;> rfl

/-- A read of a register outside OSC latches; one of an access register of CAL or HLTH moves its index on. -/
theorem State.readEffect_eq (hosc : w ≠ W_OSC) : s.readEffect r w off =
    if w = W_CAL ∧ off = CAL_TDATA then (s.latch r w (latchesOf w off)).tdataNext
    else if w = W_HLTH ∧ off = HLTH_LIFEDATA then (s.latch r w (latchesOf w off)).lifeNext
    else s.latch r w (latchesOf w off) := by
  simp only [State.readEffect, hosc, false_and, if_false]

theorem State.readEffect_acc (hosc : w ≠ W_OSC) : (s.readEffect r w off).acc = (s.latch r w (latchesOf w off)).acc := by
  rw [State.readEffect_eq hosc]
  split
  · rfl
  · split <;> rfl

/-- What was latched by a read outside OSC. -/
theorem State.readEffect_latched (ho : off < 0x1000) (hosc : w ≠ W_OSC) {o : Nat} (hm : o ∈ latchesOf w off) :
    (s.readEffect r w off).latched r w o = some (s.view w o) := by
  have hlatched := State.latched_latch (s := s) (w := w) r hm (latchesOf_lt ho)
  rw [Nat.mod_eq_of_lt State.view_lt] at hlatched
  unfold State.latched at *
  rwa [State.readEffect_acc hosc]

theorem State.latch_frame (offs : List Nat) : s.latch r w offs = { s with acc := (s.latch r w offs).acc } := by
  unfold State.latch
  dsimp only
  split <;> rfl

/-- A read that is no access of OSC, CAL or HLTH changes nothing but the latches. -/
theorem State.readEffect_frame (hosc : w ≠ W_OSC) (hcal : w ≠ W_CAL) (hhlth : w ≠ W_HLTH) :
    s.readEffect r w off = { s with acc := (s.readEffect r w off).acc } := by
  rw [State.readEffect_eq hosc, if_neg fun h => hcal h.1, if_neg fun h => hhlth h.1]
  exact State.latch_frame _

/-- An answer beside the latches. -/
theorem State.emit_frame {t : State} {x : AccSt} (h : t = { s with acc := x }) (o : Output) :
    t.emit o = { s with acc := (t.emit o).acc, out := (t.emit o).out } := by
  subst h
  rfl

theorem exec_latchingRead {row : RegRow} (hrow : regRow w off = some row) (hreach : inReach r false (regAddr w off) = true)
    (hpar : s.par = []) (hw : w ≠ W_PWR) : exec (.latchingRead r (regAddr w off) 15) s = .next ((s.readEffect r w off).emit
      (.answer r (regAddr w off) .ok (BitVec.ofNat 32 ((s.latched r w off).getD (s.view w off))))) := by
  obtain ⟨hwin, h4, ho⟩ := regRow_place hrow
  have hvalue (x : Nat) : BitVec.ofNat 32 (beLanes 15 x) = BitVec.ofNat 32 x := by
    rw [beLanes_all, ← BitVec.toNat_inj, BitVec.toNat_ofNat, BitVec.toNat_ofNat, Nat.mod_mod]
  have hdoor := State.doorRead_reg (s := s) hreach h4 (by omega) ho
  rw [State.regRead_eq hrow hpar hw, hvalue] at hdoor
  exact congrArg Host.Outcome.next hdoor

end

/-- Settles O22: a register's read is its latched or shown value, and what it does beside answering is to latch; the access registers
of OSC, CAL and HLTH alone do more. -/
theorem registerReads : Obligations.RegisterReads := by
  unfold Obligations.RegisterReads
  intro s r w off row hrow hreach hpar hw
  obtain ⟨-, -, ho⟩ := regRow_place hrow
  refine ⟨_, exec_latchingRead hrow hreach hpar hw, List.getLast?_concat .., fun hosc o hm => ?_, fun hosc hcal hhlth => ?_⟩
  · exact State.readEffect_latched ho hosc hm
  · exact State.emit_frame (State.readEffect_frame hosc hcal hhlth) _

end Sys2Proof.Machine

/-!
PROOF. What is granted to the timebase (R193, R195 to R197, R212): writes of TB's registers at a door, as O43 states them.
-/

namespace Sys2Proof.Machine

section
variable {s t : State} {r : Req}

theorem tb_plain : W_TB < W_ENG ∧ W_TB ≠ W_EVT := by decide

/-- The timebase with a change granted. -/
def TbSt.grant (x : TbSt) (c : TbChange) : TbSt := { x with changes := x.changes ++ [c] }

/-- A register of TB that nothing refuses is stored, with what that does. -/
theorem State.wrReg_tbRun (hs : s.Ready) (hr : r ≠ .i2c) {off : Nat} (v : Word) (hopen : openRun r W_TB off = true)
    (h4 : off % 4 = 0) (ho : off < 0x1000) (hn : s.refuses r W_TB off (s.view W_TB off) v.toNat = none)
    (ht : (s.wr W_TB off v.toNat).written r W_TB off (s.view W_TB off) = t) (hsys : t.sys = s.sys) :
    ∃ o, s.wrReg r W_TB off v = t.emit o :=
  State.doorWrite_taken hr (by decide) h4 ho ((State.regWrite_openRun hopen rfl hn).trans (congrArg _ ht)) (hsys ▸ hs.2.1)

/-- A command of TB that nothing refuses is carried out. -/
theorem State.doorWrite_tbCmd (hs : s.Ready) (hr : r ≠ .i2c) {off v : Nat} (hopen : openCmd r W_TB off = true)
    (h4 : off % 4 = 0) (ho : off < 0x1000) (hn : s.refuses r W_TB off (s.view W_TB off) v = none)
    (hact : s.cmdAct r W_TB off v = t) (hsys : t.sys = s.sys) : ∃ o, s.doorWrite r (regAddr W_TB off) 15 v = t.emit o :=
  State.doorWrite_taken hr (by decide) h4 ho ((State.regWrite_openCmd hopen hs.2.2 hn).trans (congrArg _ hact)) (hsys ▸ hs.2.1)

/-! ### Increments, steering, format, steps (R195 to R197) -/

theorem tbIncrCommit_grants (hs : s.Ready) (hr : r ≠ .i2c) (v : Word) :
    let asked := s.stagedVal r W_TB TB_INCR_LO + v.toNat * 2 ^ 32
    s.To (.tbIncrCommit r v) fun t =>
      t.tb = s.tb.grant (.incr asked) ∧ t.pair W_TB TB_INCR_LO = asked := by
  have hpair := State.commitPair_pair (r := r) (lo := TB_INCR_LO) (hi := TB_INCR_HI) hs.1.canon W_TB v rfl (by decide)
  have hdoor := State.wrReg_tbRun hs hr (off := TB_INCR_HI) v rfl (by decide) (by decide) rfl rfl rfl
  refine .of_emit (hdoor.imp fun _ => congrArg Host.Outcome.next) fun _ => ⟨?_, hpair⟩
  exact congrArg (fun x => s.tb.grant (.incr x)) hpair

theorem tbSteerWrite_grants (hs : s.Ready) (hr : r ≠ .i2c) (v : Word) : s.To (.tbSteerWrite r v) fun t =>
    t.tb = s.tb.grant (.steer (v.toNat % 4)) ∧ t.rn W_TB TB_STEER = v.toNat := by
  have hword : (s.wr W_TB TB_STEER v.toNat).rn W_TB TB_STEER = v.toNat :=
    (State.rn_wr_same s hs.1.canon _ _ _).trans (Nat.mod_eq_of_lt v.isLt)
  have hdoor := State.wrReg_tbRun hs hr (off := TB_STEER) v rfl (by decide) (by decide) rfl rfl rfl
  refine .of_emit (hdoor.imp fun _ => congrArg Host.Outcome.next) fun _ => ⟨?_, hword⟩
  exact congrArg (fun x => s.tb.grant (.steer (x % 4))) hword

theorem tbModeWrite_grants (hs : s.Ready) (hr : r ≠ .i2c) (v : Word) : s.To (.tbModeWrite r v) fun t =>
    t.tb = s.tb.grant (.mode (v.getLsbD 0)) ∧ t.rn W_TB TB_MODE = v.toNat := by
  have hword : (s.wr W_TB TB_MODE v.toNat).rn W_TB TB_MODE = v.toNat :=
    (State.rn_wr_same s hs.1.canon _ _ _).trans (Nat.mod_eq_of_lt v.isLt)
  have hdoor := State.wrReg_tbRun hs hr (off := TB_MODE) v rfl (by decide) (by decide) rfl rfl rfl
  refine .of_emit (hdoor.imp fun _ => congrArg Host.Outcome.next) fun _ => ⟨?_, hword⟩
  rw [← bitOf_toNat]
  exact congrArg (fun x => s.tb.grant (.mode (bitOf x 0))) hword

theorem tbStepCommand_grants (hs : s.Ready) (hr : r ≠ .i2c) (v : Word) : s.To (.tbStepCommand r v) fun t =>
    t.tb = s.tb.grant (.step (toSigned 96 (s.stagedVal r W_TB TB_STEP_W0 + s.stagedVal r W_TB TB_STEP_W1 * 2 ^ 32 + v.toNat * 2 ^ 64))) := by
  have hdoor := State.doorWrite_tbCmd hs hr (off := TB_STEP_W2) (v := v.toNat) rfl (by decide) (by decide) rfl rfl rfl
  refine .of_emit (hdoor.imp fun _ => congrArg Host.Outcome.next) fun _ => ?_
  have hlow : v.toNat % 2 ^ 32 = v.toNat := Nat.mod_eq_of_lt v.isLt
  exact congrArg (fun x => s.tb.grant (.step (toSigned 96 (s.stagedVal r W_TB TB_STEP_W0 + s.stagedVal r W_TB TB_STEP_W1 * 2 ^ 32 +
    x * 2 ^ 64)))) hlow

/-! ### The servo word and the duplicate (R195, R212) -/

theorem openRun_srvw : ∀ p : Port, openRun (.eng (9 + p)) W_TB TB_SRVW_HI = true := by decide

theorem tbSrvwCommit_grants (hs : s.Ready) (p : Port) (v : Word) (hsafe : s.safe = false) :
    s.To (.tbSrvwCommit (.eng (9 + p)) v) fun t =>
      t.pair W_TB TB_SRVW_LO = s.stagedVal (.eng (9 + p)) W_TB TB_SRVW_LO + v.toNat * 2 ^ 32 ∧
      t.tb = s.tb.grant (.srvw (toSigned 48 (t.pair W_TB TB_SRVW_LO)) s.tb.c) := by
  have hn (old : Nat) : s.refuses (.eng (9 + p)) W_TB TB_SRVW_HI old v.toNat = none :=
    (if_neg fun h => ne_true_of_eq_false hsafe h.2).trans rfl
  have hdoor := State.wrReg_tbRun (r := .eng (9 + p)) hs nofun v (openRun_srvw p) (by decide) (by decide) (hn _) rfl rfl
  exact .of_emit (hdoor.imp fun _ => congrArg Host.Outcome.next) fun _ =>
    ⟨State.commitPair_pair hs.1.canon W_TB v rfl (by decide), rfl⟩

theorem tbResync_ends (hs : s.Ready) (hr : r ≠ .i2c) (v : Word) :
    s.To (.tbResync r v) fun t => t.tb = { s.tb with dupbad := false } := by
  have hact : s.cmdAct r W_TB TB_CMD (putBits v.toNat 0 1 1) = s.tbResync := if_pos (bitOf_putBits_one _ _ _)
  have hdoor := State.doorWrite_tbCmd hs hr rfl (by decide) (by decide) rfl hact rfl
  exact .of_emit (hdoor.imp fun _ => congrArg Host.Outcome.next) fun _ => rfl

theorem tbDupMismatch_shows (hok : s.tb.dupbad = false) : s.To .tbDupMismatch fun t =>
    t.tb = { s.tb with dupbad := true } ∧ t.flt.msgs = s.flt.msgs ++ [⟨W_TB, K_TB_DUP, regAddr W_TB TB_TIME_W0, false⟩] :=
  ⟨_, congrArg Host.Outcome.next (if_neg (ne_true_of_eq_false hok)), rfl, rfl⟩

end

/-- Settles O43: each write is read as its door takes it, and what it grants is the value that its register then holds. -/
theorem timebaseWrites : Obligations.TimebaseWrites := by
  unfold Obligations.TimebaseWrites
  intro s r v p hs hr
  exact ⟨tbIncrCommit_grants hs hr v, tbSteerWrite_grants hs hr v, tbModeWrite_grants hs hr v, tbStepCommand_grants hs hr v,
    tbSrvwCommit_grants hs p v, tbResync_ends hs hr v, tbDupMismatch_shows,
    fun hbad => ⟨s, congrArg Host.Outcome.next (if_pos hbad), rfl⟩⟩

end Sys2Proof.Machine

/-!
PROOF. Changes of the timebase that take effect (R194 to R196): increments, steering and the format, as O44 states them.
-/

namespace Sys2Proof.Machine

section
variable {s t : State} {w : Nat} {fs : List Fld}

/-! ### What the timebase's operations leave of a window -/

namespace State.WinMoves

theorem setTb (h : s.WinMoves w fs t) (x : TbSt) (hx : t.tb.Ok → x.Ok) : s.WinMoves w fs (t.setTb x) :=
  h.beyond (State.keeps_inv h.inv (State.setTb_keeps (State.keeps_refl t) x hx)) rfl rfl

theorem tbClamp (h : s.WinMoves W_TB fs t) (acts : Bool) (hf : Fld.word TB_STS ∈ fs) : s.WinMoves W_TB fs (t.tbClamp acts) :=
  have hset : s.WinMoves W_TB fs (t.setTb { t.tb with clamp := acts }) := h.setTb _ id
  .ite (fun _ => (hset.sts 16 hf (by decide)).raise (by decide)) fun _ => hset

end State.WinMoves

theorem TbSt.Ok.retuned {x : TbSt} (h : x.Ok) (raw : Int) (i : Nat) : ({ x.retuned raw with incr := i } : TbSt).Ok := by
  unfold TbSt.retuned
  split <;> exact h

theorem State.WinMoves.tbRetune (h : s.WinMoves W_TB fs t) (raw : Int) (hf : Fld.word TB_STS ∈ fs) :
    s.WinMoves W_TB fs (t.tbRetune raw) := (h.setTb _ fun hok => hok.retuned raw _).tbClamp _ hf

theorem State.WinMoves.ofTb (h : s.Inv) (fs : List Fld) : s.WinMoves W_TB fs s := .refl h tb_plain

end

/-- The timebase whose waiting changes are `cs`. -/
def State.awaiting (s : State) (cs : List TbChange) : State := s.setTb { s.tb with changes := cs }

theorem State.Ready.running {s : State} (hs : s.Ready) : s.tb.running = true := ((Bool.and_eq_true _ _).mp hs.2.2).1

theorem State.awaiting_inv {s : State} (h : s.Inv) (cs : List TbChange) : (s.awaiting cs).Inv :=
  ((State.WinMoves.ofTb h []).setTb _ id).inv

section
variable {s : State} {v : Nat} {cs : List TbChange}

/-! ### Increments (R194, R195) -/

theorem clampInt_eq {lo hi : Int} (h : lo ≤ hi) (i : Int) : clampInt lo hi i = max lo (min hi i) := by
  unfold clampInt
  split_ifs <;> omega

theorem clampedIncr_eq (raw : Int) : (clampedIncr raw : Int) = max (2 ^ 48 - (2 ^ 35 - 1)) (min (2 ^ 48 + (2 ^ 35 - 1)) raw) := by
  unfold clampedIncr
  rw [clampInt_eq (by decide)]
  unfold incrMax
  omega

/-- Within the clamp the increment is what is asked for. -/
theorem clampedIncr_of_near {raw : Int} (h : (raw - 2 ^ 48).natAbs < 2 ^ 35) : clampedIncr raw = raw.toNat := by
  have hclamp := clampedIncr_eq raw
  omega

/-- The increment in force is not TB_INCR: steering is SERVO, or ring alignment (R195). -/
def TbSt.Led (x : TbSt) : Prop := x.steer = 1 ∨ (x.ring = true ∧ x.steer = 2)

theorem exec_tbIncrEffect (hs : s.Ready) (h : s.tb.changes = .incr v :: cs) :
    exec .tbIncrEffect s = .next ((s.awaiting cs).tbIncrEffect v) := by
  change execTbIncrEffect s = _
  unfold execTbIncrEffect
  rw [if_neg (not_not_intro hs.running), h]
  rfl

theorem State.tbIncrEffect_led (hled : s.tb.Led) (v : Nat) : s.tbIncrEffect v = s := if_pos hled

theorem State.tbIncrEffect_free (hfree : ¬ s.tb.Led) (v : Nat) : s.tbIncrEffect v = s.tbRetune v := if_neg hfree

/-- In ring format a new rate starts from the offset reached (R192). -/
theorem State.tbRetune_ring (hring : s.tb.ring = true) (raw : Int) : let t := s.tbRetune raw
    t.tb.rate = max (-(2 ^ 47 - 1)) (min (2 ^ 47 - 1) ((raw - 2 ^ 48) * 2 ^ 12)) ∧ t.tb.cr = s.tb.c ∧
      t.tb.ofs = ofSigned 96 ((s.tb.ofs : Int) + s.tb.rateTerm) := by
  obtain ⟨acts, htb⟩ := State.tbRetune_tb (s := s) raw
  have hretuned : s.tb.retuned raw = { s.tb.rebase with rate := clampInt (-rateMax) rateMax ((raw - 2 ^ 48) * 2 ^ 12) } := if_pos hring
  dsimp only
  rw [htb, hretuned]
  exact ⟨clampInt_eq (by decide) _, rfl, rfl⟩

theorem State.tbRetune_incr (raw : Int) : (s.tbRetune raw).tb.incr = clampedIncr raw := by
  obtain ⟨acts, htb⟩ := State.tbRetune_tb (s := s) raw
  rw [htb]

theorem tbIncrEffect_acts (hs : s.Ready) (h : s.tb.changes = .incr v :: cs) : s.To .tbIncrEffect fun t =>
    t.tb.changes = cs ∧ t.tb.c = s.tb.c ∧ t.tb.steer = s.tb.steer ∧
      (s.tb.steer ≠ 1 → s.tb.ring = false →
        (t.tb.incr : Int) = max (2 ^ 48 - (2 ^ 35 - 1)) (min (2 ^ 48 + (2 ^ 35 - 1)) v) ∧ t.tb.t = s.tb.t) ∧
      (s.tb.steer ≠ 1 → s.tb.steer ≠ 2 → s.tb.ring = true →
        t.tb.rate = max (-(2 ^ 47 - 1)) (min (2 ^ 47 - 1) (((v : Int) - 2 ^ 48) * 2 ^ 12)) ∧ t.tb.cr = s.tb.c ∧
        t.tb.ofs = ofSigned 96 ((s.tb.ofs : Int) + s.tb.rateTerm)) ∧
      (s.tb.steer = 1 ∨ (s.tb.ring = true ∧ s.tb.steer = 2) → t.tb = { s.tb with changes := cs }) := by
  refine ⟨_, exec_tbIncrEffect hs h, ?_⟩
  by_cases hled : s.tb.Led
  · rw [State.tbIncrEffect_led (s := s.awaiting cs) hled]
    refine ⟨rfl, rfl, rfl, fun hservo hring => ?_, fun hservo halign _ => ?_, fun _ => rfl⟩
    · exact absurd hled (by simp [TbSt.Led, hservo, hring])
    · exact absurd hled (by simp [TbSt.Led, hservo, halign])
  · rw [State.tbIncrEffect_free (s := s.awaiting cs) hled]
    obtain ⟨-, hc, ht, -, hsteer, hchanges⟩ := State.tbRetune_course (s := s.awaiting cs) v
    have hincr := (congrArg Int.ofNat (State.tbRetune_incr (s := s.awaiting cs) v)).trans (clampedIncr_eq v)
    refine ⟨hchanges, hc, hsteer, fun _ _ => ⟨?_, ht⟩, fun _ _ hring => State.tbRetune_ring (s := s.awaiting cs) hring v,
      fun hled' => absurd hled' hled⟩
    push_cast
    exact hincr

/-! ### Steering (R195) -/

theorem exec_tbSteerEffect (hs : s.Ready) (h : s.tb.changes = .steer v :: cs) :
    exec .tbSteerEffect s = .next ((s.awaiting cs).tbSteerEffect v) := by
  change execTbSteerEffect s = _
  unfold execTbSteerEffect
  rw [if_neg (not_not_intro hs.running), h]
  rfl

theorem State.tbSteerEffect_same : s.tbSteerEffect s.tb.steer = s := if_pos rfl

theorem State.tbSteerEffect_servo (h : s.tb.steer ≠ 1) :
    s.tbSteerEffect 1 = s.setTb { s.tb with steer := 1, servoWait := true, incr := s.tb.incrInForce.toNat } :=
  (if_neg (Ne.symm h)).trans (if_pos rfl)

theorem State.tbSteerEffect_align (hring : s.tb.ring = true) : s.tbSteerEffect 2 = s.setTb { s.tb with steer := 2 } := by
  unfold State.tbSteerEffect
  dsimp only
  split
  · rename_i h
    rw [h]
    rfl
  · rw [if_neg (by decide), if_pos ⟨rfl, hring⟩]

/-- TB_INCR is loaded with the increment in force when steering comes to follow it. -/
def State.tbLoaded (s : State) (v : Nat) : State :=
  (s.setTb { s.tb with steer := v }).putPair W_TB TB_INCR_LO s.tb.incrInForce.toNat

/-- What follows TB_INCR without having done so before, or INCR itself. -/
def TbSt.Loads (x : TbSt) (v : Nat) : Prop := v = 0 ∨ x.Led

theorem State.tbSteerEffect_loads (hv : v ≠ s.tb.steer) (hservo : v ≠ 1) (halign : v = 2 → s.tb.ring = false) (hl : s.tb.Loads v) :
    s.tbSteerEffect v = (s.tbLoaded v).tbRetune s.tb.incrInForce := by
  have hstd : ¬ (v = 2 ∧ s.tb.ring = true) := fun h => ne_true_of_eq_false (halign h.1) h.2
  have hcond : s.tb.steer = 1 ∨ (s.tb.ring = true ∧ s.tb.steer = 2) ∨ v = 0 := by
    unfold TbSt.Loads TbSt.Led at hl
    tauto
  unfold State.tbSteerEffect
  dsimp only
  rw [if_neg hv, if_neg hservo, if_neg hstd, if_pos hcond]
  rfl

theorem State.tbSteerEffect_keeps_incr (hv : v ≠ s.tb.steer) (hservo : v ≠ 1) (halign : v = 2 → s.tb.ring = false)
    (hl : ¬ s.tb.Loads v) : s.tbSteerEffect v = s.setTb { s.tb with steer := v } := by
  have hstd : ¬ (v = 2 ∧ s.tb.ring = true) := fun h => ne_true_of_eq_false (halign h.1) h.2
  have hcond : ¬ (s.tb.steer = 1 ∨ (s.tb.ring = true ∧ s.tb.steer = 2) ∨ v = 0) := by
    unfold TbSt.Loads TbSt.Led at hl
    tauto
  unfold State.tbSteerEffect
  dsimp only
  rw [if_neg hv, if_neg hservo, if_neg hstd, if_neg hcond]

/-- Whatever the change of steering, the count and what waits stay. -/
theorem State.tbSteerEffect_course (v : Nat) :
    (s.tbSteerEffect v).tb.changes = s.tb.changes ∧ (s.tbSteerEffect v).tb.c = s.tb.c ∧ (s.tbSteerEffect v).tb.steer = v := by
  by_cases hv : v = s.tb.steer
  · subst hv
    rw [State.tbSteerEffect_same]
    exact ⟨rfl, rfl, rfl⟩
  by_cases hservo : v = 1
  · subst hservo
    rw [State.tbSteerEffect_servo (Ne.symm hv)]
    exact ⟨rfl, rfl, rfl⟩
  by_cases halign : v = 2 ∧ s.tb.ring = true
  · obtain ⟨rfl, hring⟩ := halign
    rw [State.tbSteerEffect_align hring]
    exact ⟨rfl, rfl, rfl⟩
  have hstd : v = 2 → s.tb.ring = false := fun h2 => eq_false_of_ne_true fun hring => halign ⟨h2, hring⟩
  by_cases hl : s.tb.Loads v
  · rw [State.tbSteerEffect_loads hv hservo hstd hl]
    obtain ⟨-, hc, -, -, hsteer, hchanges⟩ := State.tbRetune_course (s := s.tbLoaded v) s.tb.incrInForce
    exact ⟨hchanges, hc, hsteer⟩
  · rw [State.tbSteerEffect_keeps_incr hv hservo hstd hl]
    exact ⟨rfl, rfl, rfl⟩

/-- The pair shows the increment loaded. -/
theorem State.tbLoaded_shows (h : s.Inv) (v : Nat) (hnear : (s.tb.incrInForce - 2 ^ 48).natAbs < 2 ^ 35) :
    ((s.tbLoaded v).tbRetune s.tb.incrInForce).pair W_TB TB_INCR_LO = s.tb.incrInForce.toNat := by
  have hset : s.WinMoves W_TB [] (s.setTb { s.tb with steer := v }) := (State.WinMoves.ofTb h []).setTb _ id
  have hmoves := (State.WinMoves.ofTb (hset.inv.putPair W_TB TB_INCR_LO s.tb.incrInForce.toNat) [.word TB_STS]).tbRetune
    s.tb.incrInForce (by decide)
  refine (hmoves.pair TB_INCR_LO (by decide) (by decide)).trans ((State.pair_putPair hset.inv.canon _ _ _ (by decide)).trans ?_)
  omega

theorem tbSteerEffect_acts (hs : s.Ready) (h : s.tb.changes = .steer v :: cs) : s.To .tbSteerEffect fun t =>
    t.tb.changes = cs ∧ t.tb.c = s.tb.c ∧ t.tb.steer = v ∧
      (v = s.tb.steer → t.tb = { s.tb with changes := cs }) ∧
      (v = 1 → s.tb.steer ≠ 1 → t.tb.incr = s.tb.incrInForce.toNat ∧ t.tb.servoWait = true) ∧
      (v = 2 → s.tb.ring = true → t.tb = { s.tb with changes := cs, steer := 2 }) ∧
      (v = 2 → s.tb.ring = false → s.tb.steer = 0 → t.tb = { s.tb with changes := cs, steer := 2 }) ∧
      (v ≠ 1 → s.tb.steer ≠ v → (v = 2 → s.tb.ring = false) → s.tb.Loads v → (s.tb.incrInForce - 2 ^ 48).natAbs < 2 ^ 35 →
        t.tb.incr = s.tb.incrInForce.toNat ∧ t.pair W_TB TB_INCR_LO = s.tb.incrInForce.toNat) := by
  obtain ⟨hchanges, hc, hsteer⟩ := State.tbSteerEffect_course (s := s.awaiting cs) v
  refine ⟨_, exec_tbSteerEffect hs h, hchanges, hc, hsteer, fun hv => ?_, fun hv hservo => ?_, fun hv hring => ?_,
    fun hv hring hincr => ?_, fun hservo hv hstd hl hnear => ?_⟩
  · subst hv
    exact congrArg State.tb (State.tbSteerEffect_same (s := s.awaiting cs))
  · subst hv
    rw [State.tbSteerEffect_servo (s := s.awaiting cs) hservo]
    exact ⟨rfl, rfl⟩
  · subst hv
    rw [State.tbSteerEffect_align (s := s.awaiting cs) hring]
    rfl
  · subst hv
    have hold : ¬ (s.awaiting cs).tb.Loads 2 := by
      change ¬ (2 = 0 ∨ s.tb.steer = 1 ∨ (s.tb.ring = true ∧ s.tb.steer = 2))
      simp [hring, hincr]
    rw [State.tbSteerEffect_keeps_incr (s := s.awaiting cs) (by rw [show (s.awaiting cs).tb.steer = 0 from hincr]; decide)
      (by decide) (fun _ => hring) hold]
    rfl
  · rw [State.tbSteerEffect_loads (s := s.awaiting cs) (Ne.symm hv) hservo hstd hl]
    exact ⟨(State.tbRetune_incr _).trans (clampedIncr_of_near hnear), State.tbLoaded_shows (State.awaiting_inv hs.1 cs) v hnear⟩

/-! ### The format (R196) -/

theorem exec_tbModeEffect {ring : Bool} (hs : s.Ready) (h : s.tb.changes = .mode ring :: cs) :
    exec .tbModeEffect s = .next ((s.awaiting cs).tbModeEffect ring) := by
  change execTbModeEffect s = _
  unfold execTbModeEffect
  rw [if_neg (not_not_intro hs.running), h]
  rfl

/-- Ring time whose offset was taken at this count. -/
theorem TbSt.now_anchored {x : TbSt} (hring : x.ring = true) (hcr : x.cr = x.c) {u : Nat} (hu : u < 2 ^ 96)
    (hofs : x.ofs = ofSigned 96 ((u : Int) - x.c)) : x.now = u := by
  have hzero : (x.c + 2 ^ 96 - x.c) % 2 ^ 96 = 0 := by omega
  have hterm : x.rateTerm = 0 := by
    unfold TbSt.rateTerm
    rw [hcr, hzero]
    simp
  unfold TbSt.now
  rw [if_pos hring, hterm, hofs]
  unfold ofSigned
  omega

theorem TbSt.Ok.std_now_lt {x : TbSt} (h : x.Ok) (hstd : x.ring = false) : x.now < 2 ^ 96 := by
  have ht : x.t < stdWrap := h.2.2
  unfold TbSt.now
  rw [if_neg (ne_true_of_eq_false hstd)]
  unfold stdWrap at ht
  omega

theorem TbSt.now_std {x : TbSt} {u : Nat} (hring : x.ring = false) (ht : x.t = u * 2 ^ 32) : x.now = u := by
  unfold TbSt.now
  rw [if_neg (ne_true_of_eq_false hring), ht]
  omega

/-- Stored instants are registers. -/
theorem State.BesideTime.convertInstants {t : State} (h : s.BesideTime t) (old new : Bool) : s.BesideTime (t.convertInstants old new) :=
  h.foldl _ fun _ _ hu => ((hu.wr _ _ _).wr _ _ _).wr _ _ _

/-- A timebase in the other format: stored instants follow, TB_MODE is raised. -/
def State.tbFormatted (s : State) (x : TbSt) : State :=
  (((s.setTb x).convertInstants s.tb.ring x.ring).sts W_TB TB_STS 4).raise 6 22

theorem State.tbFormatted_spec (h : s.Inv) {x : TbSt} (hx : s.tb.Ok → x.Ok) :
    (s.tbFormatted x).tb = x ∧ (s.tbFormatted x).evPending (evNo 6 22) = true :=
  ⟨((((State.BesideTime.refl (s.setTb x)).convertInstants _ _).sts _ _ _).raise _ _).tb,
    State.stsRaise_evPending (State.keeps_inv h (State.convertInstants_keeps (State.setTb_keeps (State.keeps_refl s) x hx) _ _)) _ _ _
      (by decide)⟩

/-- The timebase as it goes to ring format, and back to standalone time. -/
def TbSt.toRing (x : TbSt) : TbSt :=
  { x with ring := true, ofs := ofSigned 96 ((x.now : Int) - x.c), rate := ((x.incr : Int) - 2 ^ 48) * 2 ^ 12, cr := x.c }
def TbSt.toStd (x : TbSt) : TbSt :=
  { x with ring := false, t := x.now * 2 ^ 32, incr := (2 ^ 48 + roundFree x.rate (2 ^ 12)).toNat }

theorem State.tbModeEffect_same : s.tbModeEffect s.tb.ring = s := if_pos rfl

theorem State.tbModeEffect_toRing (hstd : s.tb.ring = false) : s.tbModeEffect true = s.tbFormatted s.tb.toRing := by
  unfold State.tbModeEffect State.tbFormatted
  rw [if_neg (by simp [hstd]), if_pos rfl, hstd]
  rfl

theorem State.tbModeEffect_toStd (hring : s.tb.ring = true) (hfits : s.tb.now < 2 ^ 48 * 10 ^ 9 * 65536) :
    s.tbModeEffect false = s.tbFormatted s.tb.toStd := by
  unfold State.tbModeEffect State.tbFormatted
  rw [if_neg (by simp [hring]), if_neg (by decide), if_neg (by omega), hring]
  rfl

theorem State.tbModeEffect_refused (hring : s.tb.ring = true) (hlate : 2 ^ 48 * 10 ^ 9 * 65536 ≤ s.tb.now) :
    s.tbModeEffect false = ((s.put W_TB TB_MODE_MODE 1).sts W_TB TB_STS 8).raise 6 22 := by
  unfold State.tbModeEffect
  rw [if_neg (by simp [hring]), if_neg (by decide), if_pos (by omega)]

theorem TbSt.Ok.toStd {x : TbSt} (h : x.Ok) (hfits : x.now < 2 ^ 48 * 10 ^ 9 * 65536) : x.toStd.Ok := by
  refine ⟨h.1, h.2.1, ?_⟩
  change x.now * 2 ^ 32 < stdWrap
  unfold stdWrap
  omega

theorem tbModeEffect_toRing (hs : s.Ready) (h : s.tb.changes = .mode true :: cs) (hstd : s.tb.ring = false) :
    s.To .tbModeEffect fun t => t.tb.ring = true ∧ t.now = s.now ∧ t.tb.c = s.tb.c ∧
      t.tb.rate = ((s.tb.incr : Int) - 2 ^ 48) * 2 ^ 12 ∧ t.tb.epoch = s.tb.epoch ∧ t.evPending (evNo 6 22) = true := by
  refine ⟨_, exec_tbModeEffect hs h, ?_⟩
  rw [State.tbModeEffect_toRing (s := s.awaiting cs) hstd]
  obtain ⟨htb, hev⟩ := State.tbFormatted_spec (s := s.awaiting cs) (State.awaiting_inv hs.1 cs) (x := (s.awaiting cs).tb.toRing) id
  unfold State.now
  rw [htb]
  have hnow : (s.awaiting cs).tb.now < 2 ^ 96 := (State.awaiting_inv hs.1 cs).2.2.2.1.std_now_lt hstd
  exact ⟨rfl, TbSt.now_anchored rfl rfl hnow rfl, rfl, rfl, rfl, hev⟩

theorem tbModeEffect_toStd (hs : s.Ready) (h : s.tb.changes = .mode false :: cs) (hring : s.tb.ring = true) :
    s.To .tbModeEffect fun t => t.tb.c = s.tb.c ∧ t.tb.epoch = s.tb.epoch ∧ t.evPending (evNo 6 22) = true ∧
      (s.now < 2 ^ 48 * 10 ^ 9 * 65536 → t.tb.ring = false ∧ t.now = s.now) ∧
      (2 ^ 48 * 10 ^ 9 * 65536 ≤ s.now → t.tb.ring = true ∧ t.now = s.now ∧ t.flag W_TB TB_MODE_MODE = true) := by
  have hinv := State.awaiting_inv hs.1 cs
  refine ⟨_, exec_tbModeEffect hs h, ?_⟩
  by_cases hfits : s.now < 2 ^ 48 * 10 ^ 9 * 65536
  · rw [State.tbModeEffect_toStd (s := s.awaiting cs) hring hfits]
    obtain ⟨htb, hev⟩ := State.tbFormatted_spec (s := s.awaiting cs) hinv (x := (s.awaiting cs).tb.toStd) fun hok => hok.toStd hfits
    unfold State.now
    rw [htb]
    exact ⟨rfl, rfl, hev, fun _ => ⟨rfl, TbSt.now_std rfl rfl⟩, fun hlate => absurd hfits (not_lt.mpr hlate)⟩
  · rw [State.tbModeEffect_refused (s := s.awaiting cs) hring (not_lt.mp hfits)]
    have hput := hinv.put W_TB TB_MODE_MODE 1
    have htb : ((((s.awaiting cs).put W_TB TB_MODE_MODE 1).sts W_TB TB_STS 8).raise 6 22).tb = { s.tb with changes := cs } :=
      State.raise_tb _ _ _
    have hmoves := ((State.WinMoves.ofTb hput [.word TB_STS]).sts (off := TB_STS) 8 (by decide) (by decide)).raise
      (g := 6) (b := 22) (by decide)
    have hnow := congrArg TbSt.now htb
    dsimp only
    rw [htb]
    exact ⟨rfl, rfl, State.stsRaise_evPending hput _ _ _ (by decide), fun h => absurd h hfits, fun _ => ⟨hring, hnow,
      (hmoves.flag _ (by decide)).trans (State.flag_put_same hinv.canon _ TB_MODE_MODE true rfl (by decide))⟩⟩

end

/-- Settles O44: each change is carried out by its command once it stands first, and every branch of the rules is followed. -/
theorem timebaseRates : Obligations.TimebaseRates := by
  unfold Obligations.TimebaseRates
  intro s v cs hs
  refine ⟨tbIncrEffect_acts hs, tbSteerEffect_acts hs, fun h => ?_, tbModeEffect_toRing hs, tbModeEffect_toStd hs⟩
  exact ⟨_, exec_tbModeEffect hs h, State.tbModeEffect_same (s := s.awaiting cs)⟩

end Sys2Proof.Machine

/-!
PROOF. A refused write of TB_BACKEN (R199) by a requester whose number no register holds.
-/

namespace Sys2Proof.Machine

/-- HIF_ACCREQ is a word: a write that is denied has a requester whose code fits beside the bit of a write. -/
theorem State.Denied.reqCode_lt {s : State} {i : Instr} {r : Req} {a : Nat} {v : Word} {o : AccOut}
    (h : s.Denied i r true a v o) : reqCode r + 2 ^ 8 < 2 ^ 32 := by
  obtain ⟨b, -, t, -, -, -, -, -, -, -, -, hreq, -⟩ := h
  have hword := t.rn_lt W_HIF HIF_ACCREQ
  rw [hreq] at hword
  exact hword

/-- Refutes O45: the clause of an ignored write of TB_BACKEN says of every requester that HIF_ACCREQ then holds its code. Engine
2^32 - 16 has the code 2^32, which the 32-bit register cannot hold. -/
theorem not_timebaseSteps : ¬ Obligations.TimebaseSteps := by
  unfold Obligations.TimebaseSteps
  intro h
  obtain ⟨-, ignored, -⟩ := h portDownAbandoned (.eng (2 ^ 32 - 16)) 0 0 [] portDownAbandoned_ready (by decide) (by decide)
  obtain ⟨denied, -⟩ := ignored (by decide)
  exact absurd denied.reqCode_lt (by decide)

end Sys2Proof.Machine

/-!
PROOF. Generators and captures (R201 to R206, R211): what their operations leave of a window, and the generators' commands.
-/

namespace Sys2Proof.Machine

section
variable {s t : State} {w : Nat} {fs : List Fld}

/-! ### What the operations leave of a window -/

theorem tev_plain : W_TEV < W_ENG ∧ W_TEV ≠ W_EVT := by decide

theorem State.WinMoves.ofTev (h : s.Inv) (fs : List Fld) : s.WinMoves W_TEV fs s := .refl h tev_plain

theorem wOut_apart {n : Nat} (hn : n ∈ List.range 40) : wOut n ≠ W_TEV ∧ wOut n ≠ W_EVT := by
  have h40 := List.mem_range.mp hn
  unfold wOut W_OUT W_TEV W_EVT
  omega

theorem State.setBytes_frame (a : Nat) (bs : List Byte) : (s.setBytes a bs).regs = s.regs ∧ (s.setBytes a bs).sys = s.sys := by
  induction bs generalizing s a with
  | nil => exact ⟨rfl, rfl⟩
  | cons b bs ih => exact ih (s := s.setByte a b) (a + 1)

namespace State.WinMoves

theorem setTev (h : s.WinMoves w fs t) (x : TevSt) : s.WinMoves w fs (t.setTev x) :=
  h.beyond (State.keeps_inv h.inv (State.setTev_keeps (State.keeps_refl t) x)) rfl rfl

theorem modGen (h : s.WinMoves w fs t) (g : Nat) (f : GenSt → GenSt) : s.WinMoves w fs (t.modGen g f) := h.setTev _

theorem modCap (h : s.WinMoves w fs t) (p : Nat) (f : CapSt → CapSt) : s.WinMoves w fs (t.modCap p f) := h.setTev _

/-- R211: an event of TEV. -/
theorem tevEvent (h : s.WinMoves W_TEV fs t) (hf : Fld.word TEV_STS ∈ fs) (hg : TEV_STS_LASTG ∈ fs) (g : Nat) {e : Nat}
    (he : e < 8) : s.WinMoves W_TEV fs (t.tevEvent g e) :=
  ((h.sts _ hf (by decide)).put g hg (by decide)).raise (by unfold evNo; omega)

/-! A pulse of a channel (R145). -/

theorem outFire (h : s.WinMoves W_TEV fs t) {n : Nat} (hn : n ∈ List.range 40) (i : Nat) :
    s.WinMoves W_TEV fs (t.outFire n i) := by
  obtain ⟨htev, hevt⟩ := wOut_apart hn
  have hlong {u : State} (hu : s.WinMoves W_TEV fs u) : s.WinMoves W_TEV fs (u.outEvent n 5) :=
    (hu.wrOther _ htev hevt (by decide)).raise (by unfold evNo; split <;> omega)
  refine .ite (fun _ => ?_) fun _ => h
  dsimp only
  split
  · exact .ite (fun _ => hlong (h.modChan _ _)) fun _ => h.modChan _ _
  · exact h.modChan _ _

theorem outFireAll (h : s.WinMoves W_TEV fs t) (g i : Nat) : s.WinMoves W_TEV fs (t.outFireAll g i) :=
  List.foldlRecOn _ _ h fun _ hu _ hn => .ite (fun _ => hu.outFire hn i) fun _ => hu

/-! An entry of a queue (R337). -/

theorem setBytes (h : s.WinMoves w fs t) (a : Nat) (bs : List Byte) : s.WinMoves w fs (t.setBytes a bs) :=
  h.beyond (State.keeps_inv h.inv (State.setBytes_keeps (State.keeps_refl t) a bs)) (State.setBytes_frame a bs).2
    (State.setBytes_frame a bs).1

theorem memStore_word (h : s.WinMoves w fs t) (a v : Nat) : s.WinMoves w fs (t.memStore a 8 v) :=
  (h.beyond (u := t.setEcc (t.ecc.filter (fun e => e.1 != a / 8 * 8))) h.inv rfl rfl).setBytes a (leBytes 8 v)

theorem storeEntry (h : s.WinMoves w fs t) (a : Nat) (e : BitVec 256) : s.WinMoves w fs (t.storeEntry a e) :=
  (((h.memStore_word _ _).memStore_word _ _).memStore_word _ _).memStore_word _ _

theorem modQueue (h : s.WinMoves w fs t) (n : Nat) (f : QueueSt → QueueSt) : s.WinMoves w fs (t.modQueue n f) :=
  h.beyond (State.keeps_inv h.inv (State.modQueue_keeps (State.keeps_refl t) n f)) rfl rfl

theorem qPutBlock (h : s.WinMoves w fs t) (hw : W_DMA ≠ w) {n : Nat} (hn : n < 64) (e : BitVec 256) :
    s.WinMoves w fs (t.qPutBlock n e) := by
  have hdrop : DMA_QDROP + 4 * n < 0x4000 := by unfold DMA_QDROP; omega
  have hsts : DMA_QSTS + qOff n < 0x4000 := by unfold DMA_QSTS qOff; omega
  have hev : evNo 13 n < 512 := by unfold evNo; omega
  exact .ite (fun _ => ((h.wrOther _ hw (by decide) hdrop).wrOther _ hw (by decide) hsts).raise hev)
    fun _ => (h.storeEntry _ _).modQueue _ _

end State.WinMoves

namespace State.BesideTime

theorem outFire (h : s.BesideTime t) (n i : Nat) : s.BesideTime (t.outFire n i) := by
  refine .ite (fun _ => ?_) fun _ => h
  dsimp only
  split
  · exact .ite (fun _ => (h.modOut _ _).outEvent _ _) fun _ => h.modOut _ _
  · exact h.modOut _ _

theorem outFireAll (h : s.BesideTime t) (g i : Nat) : s.BesideTime (t.outFireAll g i) :=
  h.foldl _ fun _ _ hu => .ite (fun _ => hu.outFire _ i) fun _ => hu

theorem gen (h : s.BesideTime t) (g : Nat) : t.gen g = s.gen g := congrArg (fun x : TevSt => lget GenSt.off x.gens g) h.tev

theorem tevEvent (h : s.BesideTime t) (g e : Nat) : s.BesideTime (t.tevEvent g e) := ((h.sts _ _ _).put _ _ _).raise _ _

end State.BesideTime

@[simp] theorem State.emit_gen (o : Output) (g : Nat) : (s.emit o).gen g = s.gen g := rfl

/-- The event just raised. -/
theorem State.raise_own_evPending (h : s.Inv) {g b : Nat} (hev : evNo g b < 512) : (s.raise g b).evPending (evNo g b) = true := by
  rw [State.raise_evPending h.canon _ _ _ hev hev, decide_eq_true rfl, Bool.true_or]

/-- The event of TEV is pending. -/
theorem State.tevEvent_raised (h : s.Inv) (g : Nat) {e : Nat} (he : e < 8) :
    (s.tevEvent g e).evPending (evNo 9 (24 + e)) = true := by
  have hev : evNo 9 (24 + e) < 512 := by unfold evNo; omega
  have hput := (State.WinMoves.ofTev h [.word TEV_STS, TEV_STS_LASTG]).sts (off := TEV_STS) (2 ^ e) (by decide) (by decide)
    |>.put (f := TEV_STS_LASTG) g (by decide) (by decide)
  exact State.raise_own_evPending hput.inv hev

end

section
variable {s t : State} {r : Req} {g : Gen} {v : Word}

/-! ### Commands of a generator (R201) -/

theorem openCmd_gen (r : Req) (g : Gen) : openCmd r W_TEV (TEV_G_CMD + 0x40 * g) = true := by
  have hhost : ∀ g : Gen, openCmd .pcie W_TEV (TEV_G_CMD + 0x40 * g) = true := by decide
  exact hhost g

theorem State.cmdAct_gen (a : Nat) : s.cmdAct r W_TEV (TEV_G_CMD + 0x40 * g) a = s.tevCmd g a := by
  have hidx : (TEV_G_CMD + 0x40 * g.val - TEV_G_CMD) / 0x40 = g.val := by omega
  have hact : s.cmdAct r W_TEV (TEV_G_CMD + 0x40 * g) a = s.tevCmd ((TEV_G_CMD + 0x40 * g.val - TEV_G_CMD) / 0x40) a :=
    if_neg (by unfold TEV_G_CMD TEV_CTL; omega)
  rw [hact, hidx]

/-- A write of TEVg_CMD. -/
theorem State.wrFld_gen (hs : s.Ready) (hr : r ≠ .i2c) {f : Fld} {x : Nat} (hf : f.off = TEV_G_CMD + 0x40 * g)
    (hact : s.tevCmd g (putBits v.toNat f.lsb f.width x) = t) (hsys : t.sys = s.sys) :
    ∃ o, s.wrFld r W_TEV f x v = t.emit o := by
  unfold State.wrFld
  rw [hf]
  exact State.doorWrite_taken hr (by decide) (by unfold TEV_G_CMD; omega) (by unfold TEV_G_CMD; omega)
    ((State.regWrite_openCmd (openCmd_gen r g) hs.2.2 rfl).trans (congrArg _ ((State.cmdAct_gen _).trans hact))) (hsys ▸ hs.2.1)

/-- An arm that no ring is told of. -/
theorem State.tevArm_alone {rb : Bool} (h : (rb && s.glMayBroadcast) = false) : s.tevArm g rb =
    if s.tevRefused g (s.instant W_TEV (TEV_G_AT_W0 + genOff g)) (200 * nsU) then s.tevEvent g 2
    else s.tevSet g (s.instant W_TEV (TEV_G_AT_W0 + genOff g)) := by
  unfold State.tevArm
  dsimp only
  rw [h]
  rw [if_neg Bool.false_ne_true, if_neg Bool.false_ne_true]

theorem State.tevRefused_iff (at_ lead : Nat) : s.tevRefused g at_ lead = true ↔
    s.flag W_TEV TEV_CTL_ENABLE = false ∨ (s.gen g).phase ≠ .idle ∨ s.tdiff at_ s.now < lead := by
  simp [State.tevRefused, or_assoc]

/-- The arm's outcome by the host's door: ARM without DISARM. -/
theorem tevArm_completes (hs : s.Ready) (hr : r ≠ .i2c) (h1 : v.getLsbD 1 = false)
    (halone : v.getLsbD 2 = false ∨ s.glMayBroadcast = false) {P : State → Prop}
    (hP : ∀ o, P ((s.tevArm g (v.getLsbD 2)).emit o)) : s.To (.tevArm r g v) P := by
  have hbit (b : Nat) (hb : 0 < b) : bitOf (putBits v.toNat 0 1 1) b = v.getLsbD b :=
    (bitOf_putBits_other _ _ _ _ _ (.inr hb)).trans (bitOf_toNat v b)
  have hact : s.tevCmd g (putBits v.toNat 0 1 1) = s.tevArm g (v.getLsbD 2) := by
    simp only [State.tevCmd, bitOf_putBits_one, hbit 1 (by decide), hbit 2 (by decide), h1, Bool.false_eq_true, if_false]
    exact if_pos rfl
  have hsys : (s.tevArm g (v.getLsbD 2)).sys = s.sys := by
    rw [State.tevArm_alone (alone_iff.mp halone)]
    split
    · exact ((State.WinMoves.ofTev hs.1 [.word TEV_STS, TEV_STS_LASTG]).tevEvent (by decide) (by decide) g (by decide)).sys
    · rfl
  exact .of_emit ((State.wrFld_gen (f := TEV_G_CMD_ARM.up (0x40 * g)) hs hr rfl hact hsys).imp fun _ =>
    congrArg Host.Outcome.next) hP

theorem tevArm_refuses (hs : s.Ready) (hr : r ≠ .i2c) (h1 : v.getLsbD 1 = false)
    (halone : v.getLsbD 2 = false ∨ s.glMayBroadcast = false)
    (hbad : s.tevRefused g (s.instant W_TEV (TEV_G_AT_W0 + genOff g)) (200 * nsU) = true) :
    s.To (.tevArm r g v) fun t => t.gen g = s.gen g ∧ t.evPending (evNo 9 26) = true := by
  refine tevArm_completes hs hr h1 halone fun o => ?_
  rw [State.tevArm_alone (alone_iff.mp halone), if_pos hbad, State.emit_gen, State.emit_evPending]
  exact ⟨((State.BesideTime.refl s).tevEvent g 2).gen g, State.tevEvent_raised hs.1 g (by decide)⟩

theorem tevArm_arms (hs : s.Ready) (hr : r ≠ .i2c) (h1 : v.getLsbD 1 = false)
    (halone : v.getLsbD 2 = false ∨ s.glMayBroadcast = false)
    (hgood : ¬ s.tevRefused g (s.instant W_TEV (TEV_G_AT_W0 + genOff g)) (200 * nsU) = true) :
    s.To (.tevArm r g v) fun t => (t.gen g).phase = .armed ∧ (t.gen g).t0 = s.instant W_TEV (TEV_G_AT_W0 + genOff g) ∧
      (t.gen g).label = 0 ∧ (t.gen g).per = max 6553600 (s.pair W_TEV (TEV_G_PER_LO + genOff g)) ∧
      (t.gen g).periodic = s.flag W_TEV (TEV_G_CFG_KIND.up (genOff g)) := by
  refine tevArm_completes hs hr h1 halone fun o => ?_
  rw [State.tevArm_alone (alone_iff.mp halone), if_neg hgood, State.emit_gen, State.tevSet, State.modGen_gen_same]
  exact ⟨rfl, rfl, rfl, rfl, rfl⟩

/-- DISARM without ARM. -/
theorem tevDisarm_acts (hs : s.Ready) (hr : r ≠ .i2c) (h0 : v.getLsbD 0 = false) :
    s.To (.tevDisarm r g v) fun t => t.gen g = { s.gen g with phase := .idle } := by
  have harm : bitOf (putBits v.toNat 1 1 1) 0 = false :=
    (bitOf_putBits_other _ _ _ _ _ (.inl (by decide))).trans ((bitOf_toNat v 0).trans h0)
  have hact : s.tevCmd g (putBits v.toNat 1 1 1) = s.tevDisarm g := by
    simp only [State.tevCmd, harm, bitOf_putBits_one]
    rfl
  refine .of_emit ((State.wrFld_gen (f := TEV_G_CMD_DISARM.up (0x40 * g)) hs hr rfl hact rfl).imp fun _ =>
    congrArg Host.Outcome.next) fun o => ?_
  exact State.modGen_gen_same s g _

/-! ### TEV_CTL.ENABLE cleared (R201) -/

theorem State.tevDisarm_gen (g j : Nat) :
    (s.tevDisarm g).gen j = if j = g then { s.gen g with phase := .idle } else s.gen j := State.modGen_gen _ _ _ _

theorem State.tevDisarms_idle {l : List Nat} {j : Nat} (hj : j ∈ l) : ((l.foldl State.tevDisarm s).gen j).phase = .idle := by
  induction l using List.reverseRecOn with
  | nil => cases hj
  | append_singleton l g ih =>
    rw [List.foldl_append, List.foldl_cons, List.foldl_nil, State.tevDisarm_gen]
    split
    · rfl
    · rename_i hne
      exact ih ((List.mem_append.mp hj).resolve_right fun hg => hne (List.mem_singleton.mp hg))

theorem State.tevDisarmAll_moves {w : Nat} {fs : List Fld} (h : s.WinMoves w fs t) : s.WinMoves w fs t.tevDisarmAll :=
  h.foldl fun _ g hu => hu.modGen g _

theorem State.written_tevOff {old : Nat} (hclk : s.tbClocked = true) (hold : bitOf old 0 = true)
    (hnow : bitOf (s.rn W_TEV TEV_CTL) 0 = false) : s.written r W_TEV TEV_CTL old = s.tevDisarmAll := by
  have hwritten : s.written r W_TEV TEV_CTL old = if ¬ s.tbClocked then s.hold r W_TEV TEV_CTL (s.rn W_TEV TEV_CTL)
      else if bitOf old 0 ∧ ¬ bitOf (s.rn W_TEV TEV_CTL) 0 then s.tevDisarmAll else s := rfl
  rw [hwritten, if_neg (not_not_intro hclk), if_pos ⟨hold, ne_true_of_eq_false hnow⟩]

/-- TEV_CTL with ENABLE cleared, before that disarms. -/
def State.tevOff (s : State) (v : Word) : State := s.wr W_TEV TEV_CTL (putBits v.toNat 0 1 0)

theorem State.tevOff_ctl (h : s.Inv) : bitOf ((s.tevOff v).rn W_TEV TEV_CTL) 0 = false := by
  unfold State.tevOff
  rw [State.rn_wr_same s h.canon, bitOf_eq_testBit, Nat.testBit_mod_two_pow, ← bitOf_eq_testBit, bitOf_putBits_one]
  rfl

theorem tevDisable_acts (hs : s.Ready) (hr : r ≠ .i2c) (hon : s.flag W_TEV TEV_CTL_ENABLE = true) :
    s.To (.tevDisable r v) fun t => t.flag W_TEV TEV_CTL_ENABLE = false ∧ ∀ j, j < 16 → (t.gen j).phase = .idle := by
  have hold : bitOf (s.view W_TEV TEV_CTL) 0 = true := (State.flag_bit s W_TEV 0 0).symm.trans hon
  have hmoves : (s.tevOff v).WinMoves W_TEV [] (s.tevOff v).tevDisarmAll := State.tevDisarmAll_moves (.ofTev (hs.1.wr _ _ _) [])
  have hdoor := State.doorWrite_taken (r := r) (w := W_TEV) (off := TEV_CTL) hr (by decide) (by decide) (by decide)
    ((State.regWrite_openRun (v := putBits v.toNat 0 1 0) rfl rfl rfl).trans
      (congrArg _ (State.written_tevOff (s := s.tevOff v) hs.2.2 hold (State.tevOff_ctl hs.1))))
    ((congrArg SysSt.soft hmoves.sys).trans hs.2.1)
  refine .of_emit (hdoor.imp fun _ => congrArg Host.Outcome.next) fun o => ⟨?_, fun j hj => ?_⟩
  · rw [State.emit_flag, hmoves.flag _ (by decide)]
    exact (State.flag_bit _ W_TEV 0 0).trans (State.tevOff_ctl hs.1)
  · rw [State.emit_gen]
    exact State.tevDisarms_idle (List.mem_range.mpr hj)

end
end Sys2Proof.Machine

/-!
PROOF. The firing of a generator, the end of a pin's pulse and the captures (R202 to R206), and O46.
-/

namespace Sys2Proof.Machine

section
variable {s t u : State} {g : Gen}

/-! ### What a firing does beside its own registers (R204) -/

/-- `t` comes of `s` by operations that leave the generators and, but for TEV_STS, the registers of TEV. -/
structure State.LeavesGens (s t : State) : Prop where
  win : s.WinMoves W_TEV [.word TEV_STS] t
  gens : t.tev.gens = s.tev.gens

namespace State.LeavesGens

theorem refl (h : s.Inv) : s.LeavesGens s := ⟨.ofTev h _, rfl⟩

theorem ite {c : Prop} [Decidable c] (ht : s.LeavesGens t) (hu : s.LeavesGens u) : s.LeavesGens (if c then t else u) := by
  split
  · exact ht
  · exact hu

theorem beside (h : s.LeavesGens t) (hw : s.WinMoves W_TEV [.word TEV_STS] u) (hb : t.BesideTime u) : s.LeavesGens u :=
  ⟨hw, (congrArg TevSt.gens hb.tev).trans h.gens⟩

theorem setTev (h : s.LeavesGens t) (x : TevSt) (hx : x.gens = t.tev.gens) : s.LeavesGens (t.setTev x) :=
  ⟨h.win.setTev x, hx.trans h.gens⟩

theorem snapTrigger (h : s.LeavesGens t) (cause : Nat) : s.LeavesGens (t.snapTrigger cause) := h.setTev _ rfl

theorem pinPulse (h : s.LeavesGens t) (p width : Nat) : s.LeavesGens (t.pinPulse p width) := by
  have hset := h.setTev { t.tev with pins := lput none t.tev.pins p (some (t.after (width * nsU))) } rfl
  exact .ite (hset.beside (hset.win.sts 16 (by decide) (by decide)) ((State.BesideTime.refl _).sts _ _ _)) hset

theorem outFireAll (h : s.LeavesGens t) (g i : Nat) : s.LeavesGens (t.outFireAll g i) :=
  h.beside (h.win.outFireAll g i) ((State.BesideTime.refl t).outFireAll g i)

theorem qPutBlock (h : s.LeavesGens t) {n : Nat} (hn : n < 64) (e : BitVec 256) : s.LeavesGens (t.qPutBlock n e) :=
  h.beside (h.win.qPutBlock (by decide) hn e) ((State.BesideTime.refl t).qPutBlock n e)

theorem gen (h : s.LeavesGens t) (g : Nat) : t.gen g = s.gen g := congrArg (lget GenSt.off · g) h.gens

end State.LeavesGens

/-! ### What it shows (R202, R203) -/

/-- The registers of a generator that fires its label. -/
def State.fireShown (s : State) (g : Nat) : State :=
  ((s.putInstant W_TEV (TEV_G_LAST_W0 + genOff g) (s.genInstant g)).putPair W_TEV (TEV_G_LABEL_LO + genOff g)
    (s.gen g).label).count W_TEV (TEV_G_COUNT + genOff g) 1

/-- A generator at its next label. -/
def GenSt.fired (x : GenSt) (late replay : Bool) (epoch c : Nat) : GenSt :=
  { x with phase := if x.periodic then .run else .idle, label := x.label + 1, last := x.label, late := late,
           replay := replay, epoch := epoch, firedAt := some c }

/-- A firing before pins, channels, the snapshot and the record. -/
def State.tevFired (s : State) (g : Nat) (late replay : Bool) : State :=
  ((s.fireShown g).raise 9 g).modGen g (·.fired late replay s.tb.epoch s.tb.c)

/-- The pins that name a generator start their pulses (R204). -/
def State.firePins (s : State) (g width : Nat) : State := (List.range 8).foldl (fun (t : State) p =>
  if bitOf (t.rn W_TEV TEV_PINEN) p ∧ bitsOf (t.rn W_TEV TEV_PINSEL) (4 * p) 4 = g then t.pinPulse p width else t) s

theorem State.LeavesGens.firePins (h : s.LeavesGens t) (g width : Nat) : s.LeavesGens (t.firePins g width) :=
  List.foldlRecOn _ _ h fun _ hu p _ => .ite (hu.pinPulse p width) hu


/-- The trigger that a firing may be (R208). -/
def State.fireTriggers (s t : State) (g : Nat) : State :=
  if s.flag W_SNAP SNAP_CTL_TEV ∧ s.get W_SNAP SNAP_CTL_TEVSEL = g then t.snapTrigger 2 else t

/-- The record that a firing may leave (R204). -/
def State.fireStamp (s t : State) (g : Nat) (late replay : Bool) : State :=
  if (s.gen g).stamp then
    (t.setTev { t.tev with lastRecord := s.tb.c }).qPutBlock (s.get W_TEV TEV_QSEL_STAMPQ)
      (s.record (s.genInstant g) W_TEV 4 g (8 * b2n replay + 16 * b2n late) ((s.gen g).label % 2 ^ 64))
  else t

theorem State.tevFire_eq (late replay : Bool) : s.tevFire g late replay =
    s.fireStamp (s.fireTriggers (((s.tevFired g late replay).firePins g (max 1 (s.get W_TEV (TEV_G_WIDTH_V.up (genOff g))))).outFireAll
      g (s.genInstant g)) g) g late replay := rfl

namespace State.LeavesGens

theorem fireTriggers (h : s.LeavesGens t) (u : State) (g : Nat) : s.LeavesGens (u.fireTriggers t g) := .ite (h.snapTrigger 2) h

theorem fireStamp (h : s.LeavesGens t) (u : State) (g : Nat) (late replay : Bool) :
    s.LeavesGens (u.fireStamp t g late replay) := by
  have hqueue : u.get W_TEV TEV_QSEL_STAMPQ < 64 := bitsOf_lt (u.rn W_TEV TEV_QSEL) 0 6
  exact .ite ((h.setTev { t.tev with lastRecord := u.tb.c } rfl).qPutBlock hqueue _) h

end State.LeavesGens

theorem State.tevFire_leaves (late replay : Bool) (h : (s.tevFired g late replay).Inv) :
    (s.tevFired g late replay).LeavesGens (s.tevFire g late replay) := by
  rw [State.tevFire_eq]
  exact ((((State.LeavesGens.refl h).firePins g _).outFireAll g _).fireTriggers s g).fireStamp s g late replay

/-! ### The registers of a firing -/

/-- What a firing writes of generator `g`'s registers after LAST, and after LABEL. -/
def fireLater (g : Nat) : List Fld := [.word (TEV_G_LABEL_LO + genOff g), .word (TEV_G_LABEL_LO + genOff g + 4), .word (TEV_G_COUNT + genOff g)]
def fireFirst (g : Nat) : List Fld :=
  [.word (TEV_G_LAST_W0 + genOff g), .word (TEV_G_LAST_W0 + genOff g + 4), .word (TEV_G_LAST_W0 + genOff g + 8),
    .word (TEV_G_LABEL_LO + genOff g), .word (TEV_G_LABEL_LO + genOff g + 4)]

theorem genReg_lt (g : Gen) : TEV_G_LAST_W0 + genOff g + 8 < 0x4000 ∧ TEV_G_LABEL_LO + genOff g + 4 < 0x4000 ∧
    TEV_G_COUNT + genOff g < 0x4000 := by
  unfold TEV_G_LAST_W0 TEV_G_LABEL_LO TEV_G_COUNT genOff
  omega

/-- The registers of a firing are apart from one another and from TEV_STS. -/
theorem genReg_apart : ∀ g : Gen,
    (∀ d ∈ [0, 4, 8], (Fld.word (TEV_G_LAST_W0 + genOff g + d)).clearOf (fireLater g) = true ∧
      (Fld.word (TEV_G_LAST_W0 + genOff g + d)).clearOf [.word TEV_STS] = true) ∧
    (∀ d ∈ [0, 4], (Fld.word (TEV_G_LABEL_LO + genOff g + d)).clearOf [.word (TEV_G_COUNT + genOff g)] = true ∧
      (Fld.word (TEV_G_LABEL_LO + genOff g + d)).clearOf [.word TEV_STS] = true) ∧
    (Fld.word (TEV_G_COUNT + genOff g)).clearOf (fireFirst g) = true ∧
    (Fld.word (TEV_G_COUNT + genOff g)).clearOf [.word TEV_STS] = true := by decide

theorem State.Inv.putInstant (h : s.Inv) (w off i : Nat) : (s.putInstant w off i).Inv := ((h.wr _ _ _).wr _ _ _).wr _ _ _

theorem State.fireShown_inv (h : s.Inv) (g : Gen) : (s.fireShown g).Inv :=
  ((h.putInstant _ _ _).putPair _ _ _).count _ _ _

theorem State.fireShown_last (h : s.Inv) (g : Gen) : (s.fireShown g).triple W_TEV (TEV_G_LAST_W0 + genOff g) =
    fmtTime s.tb.ring (s.genInstant g) % 2 ^ 96 := by
  obtain ⟨hlast, hlabel, hcount⟩ := genReg_lt g
  obtain ⟨hclear, -⟩ := genReg_apart g
  let shown := s.putInstant W_TEV (TEV_G_LAST_W0 + genOff g) (s.genInstant g)
  have hinv : shown.Inv := h.putInstant _ _ _
  have hmoves : shown.WinMoves W_TEV (fireLater g) (s.fireShown g) :=
    ((State.WinMoves.ofTev hinv _).putPair _ (by simp [fireLater]) (by simp [fireLater]) hlabel).count 1 (by simp [fireLater]) hcount
  exact (hmoves.triple _ (hclear 0 (by decide)).1 (hclear 4 (by decide)).1 (hclear 8 (by decide)).1).trans
    (State.triple_putTriple h.canon _ _ _ hlast)

theorem State.fireShown_label (h : s.Inv) (g : Gen) : (s.fireShown g).pair W_TEV (TEV_G_LABEL_LO + genOff g) =
    (s.gen g).label % 2 ^ 64 := by
  obtain ⟨-, hlabel, hcount⟩ := genReg_lt g
  obtain ⟨-, hclear, -⟩ := genReg_apart g
  have hinv : (s.putInstant W_TEV (TEV_G_LAST_W0 + genOff g) (s.genInstant g)).Inv := h.putInstant _ _ _
  have hmoves := (State.WinMoves.ofTev (hinv.putPair W_TEV (TEV_G_LABEL_LO + genOff g) (s.gen g).label)
    [.word (TEV_G_COUNT + genOff g)]).count 1 (by simp) hcount
  exact (hmoves.pair _ (hclear 0 (by decide)).1 (hclear 4 (by decide)).1).trans (State.pair_putPair hinv.canon _ _ _ hlabel)

theorem State.fireShown_count (h : s.Inv) (g : Gen) : (s.fireShown g).rn W_TEV (TEV_G_COUNT + genOff g) =
    (s.rn W_TEV (TEV_G_COUNT + genOff g) + 1) % 2 ^ 32 := by
  obtain ⟨hlast, hlabel, -⟩ := genReg_lt g
  obtain ⟨-, -, hclear, -⟩ := genReg_apart g
  have hmoves := ((State.WinMoves.ofTev h (fireFirst g)).putInstant (s.genInstant g) (by simp [fireFirst]) (by simp [fireFirst])
    (by simp [fireFirst]) hlast).putPair (s.gen g).label (by simp [fireFirst]) (by simp [fireFirst]) hlabel
  unfold State.fireShown
  rw [State.rn_count_same _ hmoves.inv.canon, hmoves.rn _ hclear]

/-- What a firing shows of its generator. -/
structure State.Fired (s t : State) (g : Gen) (late replay : Bool) : Prop where
  last : t.triple W_TEV (TEV_G_LAST_W0 + genOff g) = fmtTime s.tb.ring (s.genInstant g) % 2 ^ 96
  label : t.pair W_TEV (TEV_G_LABEL_LO + genOff g) = (s.gen g).label % 2 ^ 64
  count : t.rn W_TEV (TEV_G_COUNT + genOff g) = (s.rn W_TEV (TEV_G_COUNT + genOff g) + 1) % 2 ^ 32
  event : t.evPending (evNo 9 g) = true
  gen : t.gen g = (s.gen g).fired late replay s.tb.epoch s.tb.c

theorem State.tevFired_gen (g : Nat) (late replay : Bool) :
    (s.tevFired g late replay).gen g = (s.gen g).fired late replay s.tb.epoch s.tb.c := by
  have hgen : ((s.fireShown g).raise 9 g).gen g = s.gen g := ((State.BesideTime.refl (s.fireShown g)).raise 9 g).gen g
  unfold State.tevFired
  rw [State.modGen_gen_same, hgen]

theorem State.tevFired_moves (h : s.Inv) (g : Gen) (late replay : Bool) (fs : List Fld) :
    (s.fireShown g).WinMoves W_TEV fs (s.tevFired g late replay) := by
  have hev : evNo 9 g < 512 := by unfold evNo; omega
  unfold State.tevFired
  exact ((State.WinMoves.ofTev (State.fireShown_inv h g) fs).raise hev).modGen g _

theorem State.tevFired_event (h : s.Inv) (g : Gen) (late replay : Bool) :
    (s.tevFired g late replay).evPending (evNo 9 g) = true := by
  have hev : evNo 9 g < 512 := by unfold evNo; omega
  have hinv := State.fireShown_inv h g
  have hmoves := (State.WinMoves.ofTev (State.keeps_inv hinv (State.raise_keeps (State.keeps_refl _) 9 g)) []).modGen g
    (·.fired late replay s.tb.epoch s.tb.c)
  exact hmoves.event _ hev (State.raise_own_evPending hinv hev)

theorem State.tevFire_fired (h : s.Inv) (g : Gen) (late replay : Bool) : s.Fired (s.tevFire g late replay) g late replay := by
  have hraise := State.tevFired_moves h g late replay [.word TEV_STS]
  have hleaves := State.tevFire_leaves (g := g) late replay hraise.inv
  have hmoves := hraise.trans hleaves.win
  obtain ⟨hlast, hlabel, -, hcount⟩ := genReg_apart g
  exact {
    last := (hmoves.triple _ (hlast 0 (by decide)).2 (hlast 4 (by decide)).2 (hlast 8 (by decide)).2).trans (State.fireShown_last h g)
    label := (hmoves.pair _ (hlabel 0 (by decide)).2 (hlabel 4 (by decide)).2).trans (State.fireShown_label h g)
    count := (hmoves.rn _ hcount).trans (State.fireShown_count h g)
    event := hleaves.win.event _ (by unfold evNo; omega) (State.tevFired_event h g late replay)
    gen := (hleaves.gen g).trans (State.tevFired_gen g late replay) }

theorem timedEventFiring_fires {g : Gen} (hs : s.Ready)
    (hdue : (s.gen g).phase ≠ .idle ∧ (s.gen g).firedAt ≠ some s.tb.c ∧ s.tdiff (s.genInstant g) s.now ≤ 0)
    (hnew : (s.gen g).replayTo < 0) : s.To (.timedEventFiring g) fun t => s.Fired t g false false := by
  have hfresh : ((s.gen g).periodic && decide (((s.gen g).label : Int) ≤ (s.gen g).replayTo)) = false := by
    rw [decide_eq_false (by omega), Bool.and_false]
  have hfire : s.tevDue g = s.tevFire g false false := by
    unfold State.tevDue
    dsimp only
    rw [hfresh]
    rfl
  exact ⟨_, congrArg Host.Outcome.next ((if_pos hdue).trans hfire), State.tevFire_fired hs.1 g false false⟩

/-! ### Pins and captures (R204, R206) -/

theorem tevPinPulseEnd_ends {p : Fin 8} {d : Nat} (hpin : lget none s.tev.pins p = some d) (hdue : s.due d = true) :
    s.To (.tevPinPulseEnd p) fun t => lget none t.tev.pins p = none ∧ t.regs = s.regs := by
  refine ⟨s.setTev { s.tev with pins := lput none s.tev.pins p none }, ?_, lget_lput_same _ _ _ _, rfl⟩
  change execTevPinPulseEnd p s = _
  unfold execTevPinPulseEnd
  rw [hpin]
  exact congrArg Host.Outcome.next (if_pos hdue)

/-- Capture pin `p` takes an edge of this direction. -/
def State.CapTakes (s : State) (p : Cap) (falling : Bool) : Prop :=
  s.flag W_TEV (TEV_CAP_CFG_EN.up (capOff p)) = true ∧ capTakes (s.get W_TEV (TEV_CAP_CFG_EDGE.up (capOff p))) falling = true

/-- An edge at count `c` is lost: it is too close to the last one, or the FIFO is full. -/
def CapSt.Loses (x : CapSt) (c : Nat) : Prop :=
  (∃ c0, x.lastEdge = some c0 ∧ signedDiff 96 c c0 < 20 * 65536) ∨ 16 ≤ x.fifo.length

variable {p : Cap} {code : Fin 2048} {falling : Bool}

theorem exec_capture_taken (hs : s.Ready) (h : s.CapTakes p falling) : exec (.capture p code falling) s =
    .next (s.capture p (s.tdcCount (22 + p) code) (s.tdcStamp (22 + p) code) falling) :=
  congrArg Host.Outcome.next (if_pos ⟨hs.running, h⟩)

theorem exec_capture_ignored (h : ¬ s.CapTakes p falling) : exec (.capture p code falling) s = .next s :=
  congrArg Host.Outcome.next (if_neg fun htaken => h htaken.2)

/-- R206: a lost edge. -/
def State.capLoss (s : State) (p : Nat) : State := ((s.count W_TEV (TEV_CAP_LOST + 4 * p) 1).sts W_TEV TEV_STS 8).raise 9 27

/-- R206: the registers of an edge that is taken. -/
def State.capShown (s : State) (p i : Nat) : State :=
  (s.putInstant W_TEV (TEV_CAP_LAST_W0 + capOff p) i).wr W_TEV (TEV_CAP_INFO + 4 * p)
    (s.tb.epoch + (s.get W_TEV (TEV_CAP_INFO_COUNT.up (4 * p)) + 1) % 2 ^ 16 * 2 ^ 16)

theorem State.capture_lost {p c : Nat} (h : (s.capSt p).Loses c) (i : Nat) (falling : Bool) :
    s.capture p c i falling = s.capLoss p := by
  unfold State.capture
  dsimp only
  refine if_pos ?_
  obtain ⟨c0, hlast, hclose⟩ | hfull := h
  · rw [hlast]
    exact .inl (decide_eq_true hclose)
  · exact .inr hfull

theorem State.capture_taken {p c : Nat} (h : ¬ (s.capSt p).Loses c) (i : Nat) (falling : Bool) : ∃ e,
    s.capture p c i falling = ((s.capShown p i).raise 9 (16 + p)).modCap p fun y => { fifo := y.fifo ++ [e], lastEdge := some c } := by
  refine ⟨_, if_neg fun hlost => h ?_⟩
  rcases hlost with hclose | hfull
  · split at hclose
    · exact absurd hclose Bool.false_ne_true
    · rename_i c0 hlast
      exact .inl ⟨c0, hlast, of_decide_eq_true hclose⟩
  · exact .inr hfull

theorem State.BesideTime.capSt (h : s.BesideTime t) (p : Nat) : t.capSt p = s.capSt p :=
  congrArg (fun x : TevSt => lget CapSt.empty x.caps p) h.tev

theorem capLost_apart : ∀ p : Cap, (Fld.word (TEV_CAP_LOST + 4 * p)).clearOf [.word TEV_STS] = true := by decide

theorem capLast_apart : ∀ p : Cap, ∀ d ∈ [0, 4, 8],
    (Fld.word (TEV_CAP_LAST_W0 + capOff p + d)).clearOf [.word (TEV_CAP_INFO + 4 * p)] = true := by decide

theorem capture_loses (hs : s.Ready) (htakes : s.CapTakes p falling) (hlost : (s.capSt p).Loses (s.tdcCount (22 + p) code)) :
    s.To (.capture p code falling) fun t => t.capSt p = s.capSt p ∧ t.evPending (evNo 9 27) = true ∧
      t.rn W_TEV (TEV_CAP_LOST + 4 * p) = (s.rn W_TEV (TEV_CAP_LOST + 4 * p) + 1) % 2 ^ 32 := by
  have hcount := hs.1.count W_TEV (TEV_CAP_LOST + 4 * p) 1
  have hmoves := ((State.WinMoves.ofTev hcount [.word TEV_STS]).sts (off := TEV_STS) 8 (by decide) (by decide)).raise
    (g := 9) (b := 27) (by decide)
  refine ⟨_, (exec_capture_taken hs htakes).trans (congrArg _ (State.capture_lost hlost _ _)), ?_, ?_, ?_⟩
  · exact ((((State.BesideTime.refl s).count _ _ _).sts _ _ _).raise 9 27).capSt p
  · exact State.stsRaise_evPending hcount _ _ _ (by decide)
  · exact (hmoves.rn _ (capLost_apart p)).trans (State.rn_count_same s hs.1.canon _ _ _)

theorem capture_shows (hs : s.Ready) (htakes : s.CapTakes p falling) (hkept : ¬ (s.capSt p).Loses (s.tdcCount (22 + p) code)) :
    s.To (.capture p code falling) fun t =>
      t.triple W_TEV (TEV_CAP_LAST_W0 + capOff p) = fmtTime s.tb.ring (s.tdcStamp (22 + p) code) % 2 ^ 96 ∧
      (t.capSt p).lastEdge = some (s.tdcCount (22 + p) code) ∧ (t.capSt p).fifo.length = (s.capSt p).fifo.length + 1 ∧
      t.evPending (evNo 9 (16 + p)) = true := by
  obtain ⟨e, htaken⟩ := State.capture_taken hkept (s.tdcStamp (22 + p) code) falling
  have hev : evNo 9 (16 + p) < 512 := by unfold evNo; omega
  have hinfo : TEV_CAP_INFO + 4 * p < 0x4000 := by unfold TEV_CAP_INFO; omega
  have hlast : TEV_CAP_LAST_W0 + capOff p + 8 < 0x4000 := by unfold TEV_CAP_LAST_W0 capOff; omega
  have hput : (s.putInstant W_TEV (TEV_CAP_LAST_W0 + capOff p) (s.tdcStamp (22 + p) code)).Inv := hs.1.putInstant _ _ _
  have hshown : (s.capShown p (s.tdcStamp (22 + p) code)).Inv := hput.wr _ _ _
  have hraise := ((State.WinMoves.ofTev hput [.word (TEV_CAP_INFO + 4 * p)]).wr
    (s.tb.epoch + (s.get W_TEV (TEV_CAP_INFO_COUNT.up (4 * p)) + 1) % 2 ^ 16 * 2 ^ 16) (by simp) hinfo).raise hev
  have hpush := (State.WinMoves.ofTev hraise.inv [.word (TEV_CAP_INFO + 4 * p)]).modCap p
    fun y => { fifo := y.fifo ++ [e], lastEdge := some (s.tdcCount (22 + p) code) }
  have hmoves := hraise.trans hpush
  have hfifo : ((s.capShown p (s.tdcStamp (22 + p) code)).raise 9 (16 + p)).capSt p = s.capSt p :=
    ((State.BesideTime.refl (s.capShown p (s.tdcStamp (22 + p) code))).raise 9 (16 + p)).capSt p
  refine ⟨_, (exec_capture_taken hs htakes).trans (congrArg _ htaken), ?_, ?_, ?_, ?_⟩
  · exact (hmoves.triple _ (capLast_apart p 0 (by decide)) (capLast_apart p 4 (by decide)) (capLast_apart p 8 (by decide))).trans
      (State.triple_putTriple hs.1.canon _ _ _ hlast)
  · rw [State.modCap_capSt_same]
  · rw [State.modCap_capSt_same, hfifo, List.length_append]
    rfl
  · exact hpush.event _ hev (State.raise_own_evPending hshown hev)

end

/-- Settles O46: each command of TEV is followed to the generator, pin or FIFO that it changes; a firing's pins, channels, trigger
and record leave what the generator shows. -/
theorem timedEvents : Obligations.TimedEvents := by
  unfold Obligations.TimedEvents
  intro s r g v p code falling hs hr
  refine ⟨fun hbad h1 halone => tevArm_refuses hs hr h1 halone ((State.tevRefused_iff _ _).mpr hbad),
    fun hgood h1 halone => tevArm_arms hs hr h1 halone fun hbad => hgood ((State.tevRefused_iff _ _).mp hbad),
    tevDisarm_acts hs hr, tevDisable_acts hs hr, fun hdue hnew => ?_,
    fun hnot => ⟨s, congrArg Host.Outcome.next (if_neg hnot), rfl⟩, fun d => tevPinPulseEnd_ends, capture_shows hs, capture_loses hs,
    fun hnot => ⟨s, exec_capture_ignored hnot, rfl⟩⟩
  obtain ⟨t, hexec, hfired⟩ := timedEventFiring_fires hs hdue hnew
  refine ⟨t, hexec, hfired.last, hfired.label, hfired.count, hfired.event, ?_⟩
  rw [hfired.gen]
  exact ⟨rfl, rfl, rfl, rfl⟩

end Sys2Proof.Machine

/-!
PROOF. What a snapshot latches (R208): the SNP registers alone change, and each of them takes what its register shows.
-/

namespace Sys2Proof.Machine

section
variable {s t u : State}

/-! ### The registers that a snapshot writes -/

/-- The SNP registers of a block. -/
def snapRegs (b : Block) : List Nat :=
  (snapPairs b).map Prod.fst ++ (match b with
    | .ptp _ => [PTP_SNAP_OFS_LO, PTP_SNAP_OFS_LO + 4]
    | _ => [])

theorem snapRegs_lt (b : Block) : ∀ off ∈ snapRegs b, off < 0x4000 := by
  have hall : (snapRegs b).all (· < 0x4000) = true := by cases b <;> rfl
  exact fun off hoff => of_decide_eq_true (List.all_eq_true.mp hall off hoff)

/-- The register at `off` of window `w` is one of them. -/
def snapReg (w off : Nat) : Bool := (winBlock w).any fun b => (snapRegs b).contains off

/-- `t` comes of `s` by writes of SNP registers of the windows `ws`. -/
structure State.Latches (ws : List Nat) (s t : State) : Prop where
  inv : t.Inv
  sys : t.sys = s.sys
  tb : t.tb = s.tb
  tev : t.tev = s.tev
  dplls : t.dplls = s.dplls
  rn : ∀ w off, (w ∈ ws → snapReg w off = false) → off < 0x4000 → t.rn w off = s.rn w off

namespace State.Latches

variable {ws : List Nat} {w off : Nat} {b : Block}

theorem refl (h : s.Inv) : s.Latches ws s := ⟨h, rfl, rfl, rfl, rfl, fun _ _ _ _ => rfl⟩

theorem wr (h : s.Latches ws t) (hw : w ∈ ws) (hb : winBlock w = some b) (hoff : off ∈ snapRegs b) (v : Nat) :
    s.Latches ws (t.wr w off v) where
  inv := h.inv.wr _ _ _
  sys := h.sys
  tb := h.tb
  tev := h.tev
  dplls := h.dplls
  rn w' off' hfree ho := by
    have htaken : snapReg w off = true := by
      unfold snapReg
      rw [hb]
      exact List.contains_iff_mem.mpr hoff
    have hne : w ≠ w' ∨ off ≠ off' := by
      by_contra hsame
      obtain ⟨rfl, rfl⟩ := (not_or.mp hsame).imp not_not.mp not_not.mp
      exact Bool.noConfusion (htaken.symm.trans (hfree hw))
    exact (State.rn_wr_other _ _ _ _ _ _ (regAddr_ne (snapRegs_lt b off hoff) ho hne)).trans (h.rn w' off' hfree ho)

theorem pairs (h : s.Latches ws t) (hw : w ∈ ws) (hb : winBlock w = some b) (v : Nat → Nat) :
    s.Latches ws ((snapPairs b).foldl (fun u p => u.wr w p.1 (v p.2)) t) :=
  List.foldlRecOn _ _ h fun _ hu _ hp => hu.wr hw hb (List.mem_append_left _ (List.mem_map_of_mem hp)) _

theorem putPair (h : s.Latches ws t) (hw : w ∈ ws) (hb : winBlock w = some b) (hl : off ∈ snapRegs b)
    (hh : off + 4 ∈ snapRegs b) (v : Nat) : s.Latches ws (t.putPair w off v) := (h.wr hw hb hl _).wr hw hb hh _

/-- A block that latches. -/
theorem snapBlock (h : s.Latches ws t) (hw : w ∈ ws) : s.Latches ws (t.snapBlock w) := by
  unfold State.snapBlock
  split
  · exact h
  · rename_i b hb
    have hpairs := h.pairs hw hb (t.view w)
    dsimp only
    split
    · exact hpairs.putPair hw hb (by simp [snapRegs, snapPairs]) (by simp [snapRegs, snapPairs, SRC_SNAP_PHASE_LO, SRC_SNAP_PHASE_HI]) _
    · exact hpairs.putPair hw hb (by simp [snapRegs]) (by simp [snapRegs]) _
    · exact hpairs

theorem snapBlocks (h : s.Latches ws t) {l : List Nat} (hl : l ⊆ ws) : s.Latches ws (l.foldl State.snapBlock t) :=
  List.foldlRecOn _ _ h fun _ hu _ hw => hu.snapBlock (hl hw)

end State.Latches

/-! ### One window of the latch -/

/-- What a window's registers hold after the latch, its own block wrote. -/
theorem State.snapLatchAll_window (h : s.Inv) {w : Nat} (hw : w < 0x67) : ∃ ws u, s.Latches ws u ∧
    ∀ off, off < 0x4000 → s.snapLatchAll.rn w off = (u.snapBlock w).rn w off := by
  obtain ⟨pre, post, hsplit⟩ := List.append_of_mem (List.mem_range.mpr hw)
  have hnew : w ∉ post := by
    have hnodup : (pre ++ w :: post).Nodup := hsplit ▸ List.nodup_range
    exact (List.nodup_cons.mp (List.nodup_append.mp hnodup).2.1).1
  have hpre : s.Latches (w :: pre) (pre.foldl State.snapBlock s) := (State.Latches.refl h).snapBlocks (List.subset_cons_self w pre)
  have hpost := (State.Latches.refl (ws := post) (hpre.snapBlock List.mem_cons_self).inv).snapBlocks (List.Subset.refl post)
  refine ⟨_, _, hpre, fun off ho => ?_⟩
  unfold State.snapLatchAll
  rw [hsplit, List.foldl_append, List.foldl_cons]
  exact hpost.rn w off (fun hmem => absurd hmem hnew) ho

/-- A register among those that a window's block copies. -/
theorem State.pairs_rn (h : s.Inv) (w : Nat) {b : Block} (hnodup : ((snapPairs b).map Prod.fst).Nodup)
    (v : Nat → Nat) {p : Nat × Nat} (hp : p ∈ snapPairs b) :
    ((snapPairs b).foldl (fun u p => u.wr w p.1 (v p.2)) s).rn w p.1 = v p.2 % 2 ^ 32 := by
  obtain ⟨pre, post, hsplit⟩ := List.append_of_mem hp
  have hpre : (pre.foldl (fun u p => u.wr w p.1 (v p.2)) s).Inv := List.foldlRecOn _ _ h fun _ hu _ _ => hu.wr _ _ _
  rw [hsplit, List.map_append, List.map_cons] at hnodup
  have hnew : p.1 ∉ post.map Prod.fst := (List.nodup_cons.mp (List.nodup_append.mp hnodup).2.1).1
  have hlt {q : Nat × Nat} (hq : q ∈ snapPairs b) : q.1 < 0x4000 :=
    snapRegs_lt b _ (List.mem_append_left _ (List.mem_map_of_mem hq))
  rw [hsplit, List.foldl_append, List.foldl_cons]
  refine List.foldlRecOn (motive := fun u : State => u.rn w p.1 = v p.2 % 2 ^ 32) _ _ (State.rn_wr_same _ hpre.canon _ _ _)
    fun u hu q hq => (State.rn_wr_other _ _ _ _ _ _ (regAddr_ne (hlt ?_) (hlt hp) (.inr ?_))).trans hu
  · rw [hsplit]
    exact List.mem_append_right _ (List.mem_cons_of_mem _ hq)
  · exact fun heq => hnew (heq ▸ List.mem_map_of_mem hq)

/-! ### Loops (R98) -/

namespace State.Latches

variable {ws : List Nat}

theorem get (h : s.Latches ws t) {w : Nat} {f : Fld} (hfree : snapReg w f.off = false) (ho : f.off < 0x4000) :
    t.get w f = s.get w f := by
  unfold State.get
  rw [h.rn w f.off (fun _ => hfree) ho]

theorem flag (h : s.Latches ws t) {w : Nat} {f : Fld} (hfree : snapReg w f.off = false) (ho : f.off < 0x4000) :
    t.flag w f = s.flag w f := by
  unfold State.flag
  rw [h.get hfree ho]

theorem dpllStateReg (h : s.Latches ws t) (n : Loop) : t.dpllStateReg n = s.dpllStateReg n := by
  have hfree : ∀ n : Loop, ∀ off ∈ [DPLL_STATE, DPLL_SEL_STATE, DPLL_PSREM_LO, DPLL_PSREM_LO + 4],
      snapReg (wDpll n) off = false := by decide
  have hlock := h.flag (f := DPLL_STATE_PLOCK) (hfree n DPLL_STATE (by decide)) (by decide)
  have hchoice := h.flag (f := DPLL_SEL_STATE_BO) (hfree n DPLL_SEL_STATE (by decide)) (by decide)
  have hsel : t.selSt n = s.selSt n := h.get (hfree n DPLL_SEL_STATE (by decide)) (by decide)
  have hstep : t.psrem n = s.psrem n := by
    unfold State.psrem State.pair
    rw [h.rn _ DPLL_PSREM_LO (fun _ => hfree n DPLL_PSREM_LO (by decide)) (by decide),
      h.rn _ (DPLL_PSREM_LO + 4) (fun _ => hfree n (DPLL_PSREM_LO + 4) (by decide)) (by decide)]
  have hloop : t.hoLoop n = s.hoLoop n := by
    unfold State.hoLoop State.tied
    rw [h.flag (w := W_DPLL) (f := DPLL_CTL_TIED) rfl (by decide)]
  have hage : t.hoAge n = s.hoAge n := by
    unfold State.hoAge State.dpll
    rw [hloop, h.dplls, h.tb]
  unfold State.dpllStateReg
  dsimp only
  rw [hlock, hchoice, hsel, hstep, hage, h.rn _ DPLL_STATE (fun _ => hfree n DPLL_STATE (by decide)) (by decide)]

end State.Latches

theorem snapPairs_dpll_nodup : ∀ n : Loop, ((snapPairs (.dpll n)).map Prod.fst).Nodup := by decide

theorem State.view_dpllState (s : State) (n : Loop) : s.view (wDpll n) DPLL_STATE = s.dpllStateReg n % 2 ^ 32 := by
  unfold State.view State.live
  rw [winBlock_dpll]
  rfl

theorem State.snapBlock_dpll (s : State) (n : Loop) : (s.snapBlock (wDpll n)) =
    (snapPairs (.dpll n)).foldl (fun u p => u.wr (wDpll n) p.1 (s.view (wDpll n) p.2)) s := by
  unfold State.snapBlock
  rw [winBlock_dpll]

/-- R98: a loop's state as it is at the snapshot. -/
theorem State.snapLatchAll_dpll (h : s.Inv) (n : Loop) :
    s.snapLatchAll.rn (wDpll n) DPLL_SNAP_STATE = s.view (wDpll n) DPLL_STATE := by
  obtain ⟨ws, u, hlatches, hwin⟩ := State.snapLatchAll_window h (w := wDpll n) (by unfold wDpll W_DPLL; omega)
  have hcopy := State.pairs_rn hlatches.inv (wDpll n) (snapPairs_dpll_nodup n) (u.view (wDpll n))
    (p := (DPLL_SNAP_STATE, DPLL_STATE)) (by simp [snapPairs])
  rw [hwin _ (by decide), State.snapBlock_dpll, hcopy, Nat.mod_eq_of_lt State.view_lt, State.view_dpllState, State.view_dpllState,
    hlatches.dpllStateReg]

/-! ### The count (R212) -/

/-- A word of the count, as TB_COUNT shows it and TB_SNAP_COUNT takes it. -/
theorem State.snapBlock_tbCount (h : s.Inv) : (s.snapBlock W_TB).rn W_TB TB_SNAP_COUNT_W0 = part s.tb.c 0 % 2 ^ 32 % 2 ^ 32 ∧
    (s.snapBlock W_TB).rn W_TB (TB_SNAP_COUNT_W0 + 4) = part s.tb.c 1 % 2 ^ 32 % 2 ^ 32 ∧
    (s.snapBlock W_TB).rn W_TB (TB_SNAP_COUNT_W0 + 8) = part s.tb.c 2 % 2 ^ 32 % 2 ^ 32 := by
  have hcopy {p : Nat × Nat} (hp : p ∈ snapPairs .tb) := State.pairs_rn h W_TB (by decide) (s.view W_TB) hp
  exact ⟨hcopy (p := (TB_SNAP_COUNT_W0, TB_COUNT_W0)) (by decide), hcopy (p := (TB_SNAP_COUNT_W1, TB_COUNT_W1)) (by decide),
    hcopy (p := (TB_SNAP_COUNT_W2, TB_COUNT_W2)) (by decide)⟩

theorem State.snapLatchAll_count (h : s.Inv) : s.snapLatchAll.triple W_TB TB_SNAP_COUNT_W0 = s.tb.c := by
  obtain ⟨ws, u, hlatches, hwin⟩ := State.snapLatchAll_window h (w := W_TB) (by decide)
  obtain ⟨h0, h1, h2⟩ := State.snapBlock_tbCount hlatches.inv
  have hc : s.tb.c < 2 ^ 96 := h.2.2.2.1.2.1
  unfold State.triple
  rw [hwin _ (by decide), hwin _ (by decide), hwin _ (by decide), h0, h1, h2, hlatches.tb]
  unfold part
  omega

end

end Sys2Proof.Machine

/-!
PROOF. Triggers and snapshots (R208 to R210), and O47.
-/

namespace Sys2Proof.Machine

section
variable {s t : State} {r : Req} {v : Word}

theorem snap_plain : W_SNAP < W_ENG ∧ W_SNAP ≠ W_EVT := by decide

theorem State.WinMoves.ofSnap (h : s.Inv) (fs : List Fld) : s.WinMoves W_SNAP fs s := .refl h snap_plain

/-! ### A snapshot (R208, R209) -/

/-- The steps of a snapshot after the latch: its stamp, its number, its causes. -/
def State.snapStamped (s : State) : State :=
  (s.snapLatchAll.putInstant W_SNAP SNAP_STAMP_W0 s.now).wr W_SNAP SNAP_EPOCH s.tb.epoch
def State.snapCounted (s : State) : State := s.snapStamped.put W_SNAP SNAP_INFO_SEQ (s.get W_SNAP SNAP_INFO_SEQ + 1)
def State.snapCaused (s : State) (c : Nat) : State := s.snapCounted.put W_SNAP SNAP_INFO_CAUSE c

/-- R209: a snapshot of the causes `c` is to be held. -/
def State.snapHolds (s : State) (c : Nat) : Bool := s.flag W_SNAP SNAP_HOLD_HOLD || (s.flag W_SNAP SNAP_HOLD_FLTHOLD && bitOf c 2)

def State.snapHeldAs (s : State) (c : Nat) : State := (s.snapCaused c).put W_SNAP SNAP_INFO_HELD (b2n (s.snapHolds c))

theorem State.snapshot_eq (c : Nat) : s.snapshot c = ((s.snapHeldAs c).sts W_SNAP SNAP_STS 1).raise 0 28 := rfl

theorem State.snapLatchAll_latches (h : s.Inv) : s.Latches (List.range 0x67) s.snapLatchAll :=
  (State.Latches.refl h).snapBlocks (List.Subset.refl _)

theorem State.snapLatchAll_inv (h : s.Inv) : s.snapLatchAll.Inv := (State.snapLatchAll_latches h).inv

/-- A snapshot leaves the other windows as the latch left them. -/
theorem State.snapshot_others (h : s.Inv) (c : Nat) {w : Nat} (hw : w < W_ENG ∧ w ≠ W_EVT) (hne : W_SNAP ≠ w) :
    s.snapLatchAll.WinMoves w [] (s.snapshot c) := by
  have hwr {u : State} (hu : s.snapLatchAll.WinMoves w [] u) (off v : Nat) (ho : off < 0x4000) :
      s.snapLatchAll.WinMoves w [] (u.wr W_SNAP off v) := hu.wrOther v hne (by decide) ho
  have hstamp : s.snapLatchAll.WinMoves w [] s.snapStamped :=
    hwr (hwr (hwr (hwr (.refl (State.snapLatchAll_inv h) hw) _ _ (by decide)) _ _ (by decide)) _ _ (by decide)) _ _ (by decide)
  have hheld : s.snapLatchAll.WinMoves w [] (s.snapHeldAs c) :=
    hwr (hwr (hwr hstamp _ _ (by decide)) _ _ (by decide)) _ _ (by decide)
  rw [State.snapshot_eq]
  exact (hwr hheld _ _ (by decide)).raise (by decide)

theorem State.snapStamped_inv (h : s.Inv) : s.snapStamped.Inv := ((State.snapLatchAll_inv h).putInstant _ _ _).wr _ _ _

/-- What a snapshot leaves in its own window of what its steps wrote. -/
theorem State.snapHeldAs_moves (h : s.Inv) (c : Nat) : (s.snapHeldAs c).WinMoves W_SNAP [.word SNAP_STS] (s.snapshot c) := by
  have hinv : (s.snapHeldAs c).Inv := (((State.snapStamped_inv h).put _ _ _).put _ _ _).put _ _ _
  rw [State.snapshot_eq]
  exact ((State.WinMoves.ofSnap hinv _).sts (off := SNAP_STS) 1 (by decide) (by decide)).raise (by decide)

theorem State.snapCaused_moves (h : s.Inv) (c : Nat) :
    (s.snapCaused c).WinMoves W_SNAP [SNAP_INFO_HELD, .word SNAP_STS] (s.snapshot c) := by
  have hinv : (s.snapCaused c).Inv := ((State.snapStamped_inv h).put _ _ _).put _ _ _
  have hput : (s.snapCaused c).WinMoves W_SNAP [SNAP_INFO_HELD, .word SNAP_STS] (s.snapHeldAs c) :=
    (State.WinMoves.ofSnap hinv _).put (b2n (s.snapHolds c)) (by decide) (by decide)
  exact hput.trans ((State.snapHeldAs_moves h c).mono (by simp))

theorem State.snapCounted_moves (h : s.Inv) (c : Nat) :
    s.snapCounted.WinMoves W_SNAP [SNAP_INFO_CAUSE, SNAP_INFO_HELD, .word SNAP_STS] (s.snapshot c) := by
  have hinv : s.snapCounted.Inv := (State.snapStamped_inv h).put _ _ _
  have hput : s.snapCounted.WinMoves W_SNAP [SNAP_INFO_CAUSE, SNAP_INFO_HELD, .word SNAP_STS] (s.snapCaused c) :=
    (State.WinMoves.ofSnap hinv _).put c (by decide) (by decide)
  exact hput.trans ((State.snapCaused_moves h c).mono (by simp))

theorem State.snapshot_stamp (h : s.Inv) (c : Nat) :
    (s.snapshot c).triple W_SNAP SNAP_STAMP_W0 = fmtTime s.tb.ring s.now % 2 ^ 96 := by
  have hlatch := State.snapLatchAll_latches h
  have hinv : (s.snapLatchAll.putInstant W_SNAP SNAP_STAMP_W0 s.now).Inv := hlatch.inv.putInstant _ _ _
  have hput : (s.snapLatchAll.putInstant W_SNAP SNAP_STAMP_W0 s.now).WinMoves W_SNAP
      [.word SNAP_EPOCH, SNAP_INFO_SEQ, SNAP_INFO_CAUSE, SNAP_INFO_HELD, .word SNAP_STS] s.snapCounted :=
    ((State.WinMoves.ofSnap hinv _).wr (off := SNAP_EPOCH) s.tb.epoch (by decide) (by decide)).put (f := SNAP_INFO_SEQ) _ (by decide)
      (by decide)
  have hmoves := hput.trans ((State.snapCounted_moves h c).mono (by simp))
  rw [hmoves.triple _ (by decide) (by decide) (by decide), ← hlatch.tb]
  exact State.triple_putTriple hlatch.inv.canon _ _ _ (by decide)

theorem State.snapshot_cause (h : s.Inv) (c : Nat) : (s.snapshot c).get W_SNAP SNAP_INFO_CAUSE = c % 2 ^ SNAP_INFO_CAUSE.width := by
  rw [(State.snapCaused_moves h c).get _ (by decide)]
  exact State.get_put_same _ ((State.snapStamped_inv h).put _ _ _).canon _ _ _ (by decide)

theorem State.snapshot_seq (h : s.Inv) (c : Nat) :
    (s.snapshot c).get W_SNAP SNAP_INFO_SEQ = (s.get W_SNAP SNAP_INFO_SEQ + 1) % 2 ^ SNAP_INFO_SEQ.width := by
  rw [(State.snapCounted_moves h c).get _ (by decide)]
  exact State.get_put_same _ (State.snapStamped_inv h).canon _ _ _ (by decide)

theorem State.snapshot_held (h : s.Inv) (c : Nat) : (s.snapshot c).flag W_SNAP SNAP_INFO_HELD = s.snapHolds c := by
  rw [(State.snapHeldAs_moves h c).flag _ (by decide)]
  exact State.flag_put_same (((State.snapStamped_inv h).put _ _ _).put _ _ _).canon _ _ _ rfl (by decide)

theorem State.snapshot_done (h : s.Inv) (c : Nat) : (s.snapshot c).evPending (evNo 0 28) = true := by
  rw [State.snapshot_eq]
  exact State.stsRaise_evPending ((((State.snapStamped_inv h).put _ _ _).put _ _ _).put _ _ _) _ _ _ (by decide)

theorem State.snapshot_tev (h : s.Inv) (c : Nat) : (s.snapshot c).tev = s.tev := by
  have hstamped : s.snapLatchAll.BesideTime s.snapStamped :=
    ((((State.BesideTime.refl _).wr _ _ _).wr _ _ _).wr _ _ _).wr _ _ _
  have hheld : s.snapLatchAll.BesideTime (s.snapHeldAs c) := ((hstamped.put _ _ _).put _ _ _).put _ _ _
  rw [State.snapshot_eq, ((hheld.sts _ _ _).raise _ _).tev, (State.snapLatchAll_latches h).tev]

/-! ### The distribution of a trigger -/

/-- The triggers of the oldest tick are taken. -/
def State.untriggered (s : State) : State := s.setTev { s.tev with triggers := [] }

theorem State.untriggered_inv (h : s.Inv) : s.untriggered.Inv := ((State.WinMoves.ofSnap h []).setTev _).inv

theorem exec_snapshotTrigger {c m : Nat} (h : s.tev.triggers = [(c, m)]) : exec .snapshotTrigger s =
    .next (if s.snapHeld then s.untriggered.snapMiss else s.untriggered.snapshot m) := by
  change execSnapshotTrigger s = _
  unfold execSnapshotTrigger
  rw [h]
  simp [State.untriggered]

theorem snapshotTrigger_latches (hs : s.Ready) {c m : Nat} (h : s.tev.triggers = [(c, m)])
    (hfree : s.flag W_SNAP SNAP_INFO_HELD = false) : s.To .snapshotTrigger fun t => t.tev.triggers = [] ∧
      t.triple W_TB TB_SNAP_COUNT_W0 = s.tb.c ∧ t.triple W_SNAP SNAP_STAMP_W0 = fmtTime s.tb.ring s.now % 2 ^ 96 ∧
      (∀ n, n < 4 → t.rn (wDpll n) DPLL_SNAP_STATE = s.view (wDpll n) DPLL_STATE) ∧
      t.get W_SNAP SNAP_INFO_CAUSE = m % 2 ^ SNAP_INFO_CAUSE.width ∧
      t.get W_SNAP SNAP_INFO_SEQ = (s.get W_SNAP SNAP_INFO_SEQ + 1) % 2 ^ SNAP_INFO_SEQ.width ∧
      t.flag W_SNAP SNAP_INFO_HELD = (s.flag W_SNAP SNAP_HOLD_HOLD || (s.flag W_SNAP SNAP_HOLD_FLTHOLD && bitOf m 2)) ∧
      t.evPending (evNo 0 28) = true := by
  have hinv := State.untriggered_inv hs.1
  refine ⟨_, (exec_snapshotTrigger h).trans (congrArg _ (if_neg (ne_true_of_eq_false hfree))), ?_, ?_,
    State.snapshot_stamp hinv m, fun n hn => ?_, State.snapshot_cause hinv m, State.snapshot_seq hinv m,
    State.snapshot_held hinv m, State.snapshot_done hinv m⟩
  · rw [State.snapshot_tev hinv m]
    rfl
  · exact ((State.snapshot_others hinv m tb_plain (by decide)).triple _ (by decide) (by decide) (by decide)).trans
      (State.snapLatchAll_count hinv)
  · have hplain : wDpll n < W_ENG ∧ wDpll n ≠ W_EVT := by
      unfold wDpll W_DPLL W_ENG W_EVT
      omega
    have hsnap : W_SNAP ≠ wDpll n := by
      unfold wDpll W_DPLL W_SNAP
      omega
    exact ((State.snapshot_others hinv m hplain hsnap).rn _ (by decide)).trans (State.snapLatchAll_dpll hinv ⟨n, hn⟩)

theorem snapshotTrigger_misses (hs : s.Ready) {c m : Nat} (h : s.tev.triggers = [(c, m)])
    (hheld : s.flag W_SNAP SNAP_INFO_HELD = true) : s.To .snapshotTrigger fun t => t.tev.triggers = [] ∧
      t.rn W_SNAP SNAP_MISSED = (s.rn W_SNAP SNAP_MISSED + 1) % 2 ^ 32 ∧
      t.triple W_SNAP SNAP_STAMP_W0 = s.triple W_SNAP SNAP_STAMP_W0 ∧ t.evPending (evNo 0 29) = true := by
  have hinv := State.untriggered_inv hs.1
  have hcount := hinv.count W_SNAP SNAP_MISSED 1
  have htold := ((State.WinMoves.ofSnap hcount [.word SNAP_STS]).sts (off := SNAP_STS) 2 (by decide) (by decide)).raise
    (g := 0) (b := 29) (by decide)
  have hmoves := ((((State.WinMoves.ofSnap hs.1 [.word SNAP_MISSED, .word SNAP_STS]).setTev { s.tev with triggers := [] }).count
    (off := SNAP_MISSED) 1 (by decide) (by decide)).sts (off := SNAP_STS) 2 (by decide) (by decide)).raise
    (g := 0) (b := 29) (by decide)
  refine ⟨_, (exec_snapshotTrigger h).trans (congrArg _ (if_pos hheld)), ?_, ?_,
    hmoves.triple _ (by decide) (by decide) (by decide), State.stsRaise_evPending hcount _ _ _ (by decide)⟩
  · exact congrArg TevSt.triggers ((((State.BesideTime.refl s.untriggered).count _ _ _).sts _ _ _).raise 0 29).tev
  · exact (htold.rn _ (by decide)).trans (State.rn_count_same _ hinv.canon _ _ _)

/-! ### Triggers (R208, R210) -/

theorem snapInEdge_triggers {code : Fin 2048} {falling : Bool} (hs : s.Ready) (hpin : s.flag W_SNAP SNAP_CTL_PIN = true)
    (hedge : falling = s.flag W_SNAP SNAP_CTL_PINEDGE) : s.To (.snapInEdge code falling) fun t =>
      t.tev.triggers = s.tev.triggers ++ [(s.tb.c, 1)] ∧
      (s.flag W_SNAP SNAP_INFO_HELD = false → t.triple W_SNAP SNAP_PIN_W0 = fmtTime s.tb.ring (s.tdcStamp 31 code) % 2 ^ 96) ∧
      (s.flag W_SNAP SNAP_INFO_HELD = true → t.regs = s.regs) := by
  refine ⟨_, congrArg Host.Outcome.next (if_pos ⟨hs.running, hpin, hedge⟩), ?_⟩
  have hshown := State.triple_putTriple hs.1.canon W_SNAP SNAP_PIN_W0 (fmtTime s.tb.ring (s.tdcStamp 31 code)) (by decide)
  unfold State.snapHeld
  cases s.flag W_SNAP SNAP_INFO_HELD
  · exact ⟨rfl, fun _ => hshown, nofun⟩
  · exact ⟨rfl, nofun, fun _ => rfl⟩

theorem exec_snapInEdge_ignored {code : Fin 2048} {falling : Bool}
    (h : s.flag W_SNAP SNAP_CTL_PIN = false ∨ falling ≠ s.flag W_SNAP SNAP_CTL_PINEDGE) :
    exec (.snapInEdge code falling) s = .next s :=
  congrArg Host.Outcome.next (if_neg fun htaken => h.elim (ne_true_of_eq_false · htaken.2.1) (· htaken.2.2))

theorem ringSnapshot_triggers {d : Nat} (hat : s.tev.ringAt = some d) (hdue : s.tdiff d s.now ≤ 0)
    (hring : s.flag W_SNAP SNAP_CTL_RING = true) : s.To .ringSnapshot fun t =>
      t.tev.ringAt = none ∧ t.tev.triggers = s.tev.triggers ++ [(s.tb.c, 16)] := by
  refine ⟨(s.setTev { s.tev with ringAt := none }).snapTrigger 16, ?_, rfl, rfl⟩
  change execRingSnapshot s = _
  unfold execRingSnapshot
  rw [hat]
  exact congrArg Host.Outcome.next ((if_pos hdue).trans (if_pos hring))

/-! ### SNAP_CMD (R209, R210) -/

/-- A write of SNAP_CMD. -/
theorem State.wrFld_snap (hs : s.Ready) (hr : r ≠ .i2c) {f : Fld} {x : Nat} (hf : f.off = SNAP_CMD)
    (hact : s.snapCmd (putBits v.toNat f.lsb f.width x) = t) (hsys : t.sys = s.sys) : ∃ o, s.wrFld r W_SNAP f x v = t.emit o := by
  unfold State.wrFld
  rw [hf]
  exact State.doorWrite_taken hr (by decide) (by decide) (by decide)
    ((State.regWrite_openCmd rfl hs.2.2 rfl).trans (congrArg _ hact)) (hsys ▸ hs.2.1)

/-- RELEASE without RINGGO. -/
theorem snapRelease_releases (hs : s.Ready) (hr : r ≠ .i2c) (h1 : v.getLsbD 1 = false) :
    s.To (.snapRelease r v) fun t => t.flag W_SNAP SNAP_INFO_HELD = false := by
  have hring : bitOf (putBits v.toNat 0 1 1) 1 = false :=
    (bitOf_putBits_other _ _ _ _ _ (.inr (by decide))).trans ((bitOf_toNat v 1).trans h1)
  have hact : s.snapCmd (putBits v.toNat 0 1 1) = s.snapRelease := by
    simp only [State.snapCmd, hring, bitOf_putBits_one]
    rfl
  refine .of_emit ((State.wrFld_snap (f := SNAP_CMD_RELEASE) hs hr rfl hact rfl).imp fun _ => congrArg Host.Outcome.next)
    fun o => ?_
  exact State.flag_put_same hs.1.canon W_SNAP SNAP_INFO_HELD false rfl (by decide)

/-- RINGGO without RELEASE. -/
theorem snapRinggo_completes (hs : s.Ready) (hr : r ≠ .i2c) (h0 : v.getLsbD 0 = false) (hgo : s.snapRinggo = t)
    (hsys : t.sys = s.sys) {P : State → Prop} (hP : ∀ o, P (t.emit o)) : s.To (.snapRinggo r v) P := by
  have hrelease : bitOf (putBits v.toNat 1 1 1) 0 = false :=
    (bitOf_putBits_other _ _ _ _ _ (.inl (by decide))).trans ((bitOf_toNat v 0).trans h0)
  have hact : s.snapCmd (putBits v.toNat 1 1 1) = t := by
    simp only [State.snapCmd, hrelease, bitOf_putBits_one]
    exact hgo
  exact .of_emit ((State.wrFld_snap (f := SNAP_CMD_RINGGO) hs hr rfl hact hsys).imp fun _ => congrArg Host.Outcome.next) hP

theorem State.snapLate_moves (h : s.Inv) (fs : List Fld) (hf : Fld.word SNAP_STS ∈ fs) : s.WinMoves W_SNAP fs s.snapLate :=
  ((State.WinMoves.ofSnap h fs).sts 4 hf (by decide)).raise (by decide)

theorem snapRinggo_late (hs : s.Ready) (hr : r ≠ .i2c) (h0 : v.getLsbD 0 = false) (hanchor : s.glMayBroadcast = true)
    (hlate : s.tdiff (s.instant W_SNAP SNAP_RINGAT_W0) s.now < 20 * usU) :
    s.To (.snapRinggo r v) fun t => t.tev = s.tev ∧ t.evPending (evNo 0 30) = true := by
  have hgo : s.snapRinggo = s.snapLate := (if_neg (not_not_intro hanchor)).trans (if_pos hlate)
  refine snapRinggo_completes hs hr h0 hgo (State.snapLate_moves hs.1 [.word SNAP_STS] (by decide)).sys fun o => ⟨?_, ?_⟩
  · exact (((State.BesideTime.refl s).sts _ _ _).raise 0 30).tev
  · exact State.stsRaise_evPending hs.1 _ _ _ (by decide)

/-- A cell for which the timing queue has room. -/
theorem State.glTiming_sent (h : s.gl.tq.length < 16) (cls : Nat) (p : List Byte) : (s.glTiming cls p).1 = true := by
  unfold State.glTiming
  rw [if_pos h]
  split <;> rfl

theorem snapRinggo_awaits (hs : s.Ready) (hr : r ≠ .i2c) (h0 : v.getLsbD 0 = false) (hanchor : s.glMayBroadcast = true)
    (hahead : 20 * usU ≤ s.tdiff (s.instant W_SNAP SNAP_RINGAT_W0) s.now) (hroom : s.gl.tq.length < 16)
    (hring : s.flag W_SNAP SNAP_CTL_RING = true) :
    s.To (.snapRinggo r v) fun t => t.tev.ringAt = some (s.instant W_SNAP SNAP_RINGAT_W0) := by
  let at_ := s.instant W_SNAP SNAP_RINGAT_W0
  have hcell := (State.WinMoves.ofSnap hs.1 []).glTiming (by decide) GL_SYNCAT (syncAtPayload .snap at_)
  have hgo : s.snapRinggo = (s.glTiming GL_SYNCAT (syncAtPayload .snap at_)).2.setTev
      { (s.glTiming GL_SYNCAT (syncAtPayload .snap at_)).2.tev with ringAt := some at_ } :=
    (if_neg (not_not_intro hanchor)).trans ((if_neg (not_lt.mpr hahead)).trans
      ((if_pos (State.glTiming_sent hroom _ _)).trans (if_pos ((hcell.flag _ (by decide)).trans hring))))
  exact snapRinggo_completes hs hr h0 hgo hcell.sys fun o => rfl

theorem snapRinggo_apart (hs : s.Ready) (hr : r ≠ .i2c) (h0 : v.getLsbD 0 = false) (hmember : s.glMayBroadcast = false) :
    s.To (.snapRinggo r v) fun t => t.regs = s.regs ∧ t.tev = s.tev :=
  snapRinggo_completes hs hr h0 (if_pos (ne_true_of_eq_false hmember)) rfl fun _ => ⟨rfl, rfl⟩

end

/-- Settles O47: each trigger is followed to the tick's record or to the latch, and a snapshot window by window. -/
theorem snapshots : Obligations.Snapshots := by
  unfold Obligations.Snapshots
  intro s r v code falling hs hr
  exact ⟨snapInEdge_triggers hs, fun hnot => ⟨s, exec_snapInEdge_ignored hnot, rfl⟩,
    fun c m htrig => ⟨snapshotTrigger_latches hs htrig, snapshotTrigger_misses hs htrig⟩, snapRelease_releases hs hr,
    fun h0 => ⟨snapRinggo_apart hs hr h0, snapRinggo_late hs hr h0, snapRinggo_awaits hs hr h0⟩, fun d => ringSnapshot_triggers⟩

end Sys2Proof.Machine

/-!
PROOF. What the operations that network time shares with other blocks leave: the registers of a window, and the records of the
timebase, the PTP engines, SYE and the UART.
-/

namespace Sys2Proof.Machine

section
variable {s t u : State} {w : Nat} {fs : List Fld}

/-! ### Updates beside the registers -/

namespace State.WinMoves

theorem modPtp (h : s.WinMoves w fs t) (n : Nat) (f : PtpSt → PtpSt) : s.WinMoves w fs (t.modPtp n f) :=
  h.beyond (State.keeps_inv h.inv (State.modPtp_keeps (State.keeps_refl t) n f)) rfl rfl

theorem modSel (h : s.WinMoves w fs t) (n : Nat) (f : SelSt → SelSt) : s.WinMoves w fs (t.modSel n f) :=
  h.beyond (h.inv.modSel n f) rfl rfl

theorem modSrc (h : s.WinMoves w fs t) (n : Nat) (f : SrcSt → SrcSt) : s.WinMoves w fs (t.modSrc n f) :=
  h.beyond (h.inv.modSrc n f) rfl rfl

theorem emit (h : s.WinMoves w fs t) (o : Output) : s.WinMoves w fs (t.emit o) := h.beyond h.inv rfl rfl

/-- R302: an event at an engine. -/
theorem engPend (h : s.WinMoves w fs t) (k e : Nat) (arg : Word64) : s.WinMoves w fs (t.engPend k e arg) := by
  have hinv : (t.engPend k e arg).Inv := State.keeps_inv h.inv (State.engPend_keeps (State.keeps_refl t) _ _ _)
  refine h.trans ⟨h.plain, hinv, State.engPend_proj State.sys (fun _ _ _ _ => rfl) (fun _ _ _ => rfl) _ _ _, fun g hg => ?_,
    fun n hn hp => (State.engPend_evPending _ _ _ _ hn).trans hp⟩
  obtain ⟨⟨ho, -⟩, -⟩ := (Fld.clearOf_iff g fs).mp hg
  exact State.engPend_get _ _ _ _ _ h.plain.1 ho

end State.WinMoves

/-- `t` comes of `s` by operations beside the timebase, the PTP engines, SYE and the UART and the device's safe state; what has
left the device has left it. -/
structure State.BesideNet (s t : State) : Prop where
  tb : t.tb = s.tb
  tod : t.tod = s.tod
  ptps : t.ptps = s.ptps
  safe : t.flt.st = s.flt.st
  out : s.out <+: t.out

namespace State.BesideNet

theorem refl (s : State) : s.BesideNet s := ⟨rfl, rfl, rfl, rfl, List.prefix_rfl⟩

theorem trans (h : s.BesideNet t) (k : t.BesideNet u) : s.BesideNet u :=
  ⟨k.tb.trans h.tb, k.tod.trans h.tod, k.ptps.trans h.ptps, k.safe.trans h.safe, h.out.trans k.out⟩

theorem ptp (h : s.BesideNet t) (n : Nat) : t.ptp n = s.ptp n := congrArg (lget PtpSt.reset · n) h.ptps

theorem wr (h : s.BesideNet t) (w off v : Nat) : s.BesideNet (t.wr w off v) := h.trans ⟨rfl, rfl, rfl, rfl, List.prefix_rfl⟩
theorem put (h : s.BesideNet t) (w : Nat) (f : Fld) (v : Nat) : s.BesideNet (t.put w f v) := h.wr _ _ _
theorem emit (h : s.BesideNet t) (o : Output) : s.BesideNet (t.emit o) :=
  h.trans ⟨rfl, rfl, rfl, rfl, List.prefix_append _ _⟩

end State.BesideNet

/-! ### Events and messages (R346 to R348) -/

theorem State.msixSend_out (h : t.out = s.out) (v : Nat) : s.out <+: (t.msixSend v).out := by
  rw [← h]
  unfold State.msixSend
  split
  · exact List.prefix_rfl
  · split
    · exact List.prefix_append _ _
    · exact List.prefix_rfl

theorem State.engPend_out (k e : Nat) (arg : Word64) : (s.engPend k e arg).out = s.out :=
  State.engPend_proj State.out (fun _ _ _ _ => rfl) (fun _ _ _ => rfl) _ _ _

/-- What has left the device stays so when an event is raised; a message may follow it. -/
theorem State.raise_out (g b : Nat) : s.out <+: (s.raise g b).out := by
  unfold State.raise State.raiseNo
  dsimp only
  refine List.foldlRecOn (motive := fun t : State => s.out <+: t.out) _ _ ?_ fun t ht ki _ => ?_
  · split
    · exact State.msixSend_out (s := s) (by rfl) _
    · exact List.prefix_rfl
  · rwa [State.engPend_out]

theorem State.raise_besideNet (g b : Nat) : s.BesideNet (s.raise g b) :=
  ⟨State.raise_tb _ _ _, State.raise_tod _ _ _, State.raise_ptps _ _ _, congrArg FltSt.st (State.raise_flt _ _ _), State.raise_out g b⟩

/-! ### Both together -/

/-- `t` comes of `s` by operations that leave the fields of window `w` beside those of `fs` and the records of network time. -/
structure State.NetMoves (s : State) (w : Nat) (fs : List Fld) (t : State) : Prop where
  win : s.WinMoves w fs t
  net : s.BesideNet t

namespace State.NetMoves

theorem refl (h : s.Inv) (hw : w < W_ENG ∧ w ≠ W_EVT) : s.NetMoves w fs s := ⟨.refl h hw, .refl s⟩

theorem trans (h : s.NetMoves w fs t) (k : t.NetMoves w fs u) : s.NetMoves w fs u := ⟨h.win.trans k.win, h.net.trans k.net⟩

theorem ite {c : Prop} [Decidable c] (ht : c → s.NetMoves w fs t) (hu : ¬ c → s.NetMoves w fs u) :
    s.NetMoves w fs (if c then t else u) := by
  split
  · exact ht ‹_›
  · exact hu ‹_›

theorem foldl {α : Type} {op : State → α → State} {l : List α} (h : s.NetMoves w fs t)
    (hop : ∀ (u : State) i, s.NetMoves w fs u → s.NetMoves w fs (op u i)) : s.NetMoves w fs (l.foldl op t) :=
  List.foldlRecOn _ _ h fun u hu i _ => hop u i hu

theorem wr (h : s.NetMoves w fs t) {off : Nat} (v : Nat) (hf : Fld.word off ∈ fs) (ho : off < 0x4000) :
    s.NetMoves w fs (t.wr w off v) := ⟨h.win.wr v hf ho, h.net.wr _ _ _⟩

theorem put (h : s.NetMoves w fs t) {f : Fld} (v : Nat) (hf : f ∈ fs) (ho : f.off < 0x4000) : s.NetMoves w fs (t.put w f v) :=
  ⟨h.win.put v hf ho, h.net.put _ _ _⟩

theorem count (h : s.NetMoves w fs t) {off : Nat} (k : Nat) (hf : Fld.word off ∈ fs) (ho : off < 0x4000) :
    s.NetMoves w fs (t.count w off k) := h.wr _ hf ho

theorem wrOther (h : s.NetMoves w fs t) {w' off : Nat} (v : Nat) (hne : w' ≠ w) (hevt : w' ≠ W_EVT) (ho : off < 0x4000) :
    s.NetMoves w fs (t.wr w' off v) := ⟨h.win.wrOther v hne hevt ho, h.net.wr _ _ _⟩

theorem raise (h : s.NetMoves w fs t) {g b : Nat} (hg : evNo g b < 512) : s.NetMoves w fs (t.raise g b) :=
  ⟨h.win.raise hg, h.net.trans (State.raise_besideNet g b)⟩

/-- An event of the window's block with its bit (R247, R360). -/
theorem event (h : s.NetMoves w fs t) {off g b : Nat} (m : Nat) (hf : Fld.word off ∈ fs) (ho : off < 0x4000) (hg : evNo g b < 512) :
    s.NetMoves w fs ((t.sts w off m).raise g b) := (h.wr _ hf ho).raise hg

/-- An event of another block. -/
theorem eventOther (h : s.NetMoves w fs t) {w' off g b : Nat} (m : Nat) (hne : w' ≠ w) (hevt : w' ≠ W_EVT) (ho : off < 0x4000)
    (hg : evNo g b < 512) : s.NetMoves w fs ((t.sts w' off m).raise g b) := (h.wrOther _ hne hevt ho).raise hg

theorem engPend (h : s.NetMoves w fs t) (k e : Nat) (arg : Word64) : s.NetMoves w fs (t.engPend k e arg) := by
  have hp {α : Type} (p : State → α) (hw : ∀ (t : State) w off v, p (t.wr w off v) = p t)
      (he : ∀ (t : State) k f, p (t.modEng k f) = p t) : p (t.engPend k e arg) = p t := State.engPend_proj p hw he k e arg
  exact ⟨h.win.engPend k e arg, h.net.trans ⟨hp State.tb (fun _ _ _ _ => rfl) fun _ _ _ => rfl,
    hp State.tod (fun _ _ _ _ => rfl) fun _ _ _ => rfl, hp State.ptps (fun _ _ _ _ => rfl) fun _ _ _ => rfl,
    hp (fun u => u.flt.st) (fun _ _ _ _ => rfl) fun _ _ _ => rfl, (State.engPend_out k e arg) ▸ List.prefix_rfl⟩⟩

theorem fault (h : s.NetMoves w fs t) (src kind addr : Nat) : s.NetMoves w fs (t.fault src kind addr) :=
  ⟨h.win.fault _ _ _, h.net.trans ⟨rfl, rfl, rfl, rfl, List.prefix_rfl⟩⟩

theorem modSrc (h : s.NetMoves w fs t) (n : Nat) (f : SrcSt → SrcSt) : s.NetMoves w fs (t.modSrc n f) :=
  ⟨h.win.modSrc _ _, h.net.trans ⟨rfl, rfl, rfl, rfl, List.prefix_rfl⟩⟩

theorem modSel (h : s.NetMoves w fs t) (n : Nat) (f : SelSt → SelSt) : s.NetMoves w fs (t.modSel n f) :=
  ⟨h.win.modSel _ _, h.net.trans ⟨rfl, rfl, rfl, rfl, List.prefix_rfl⟩⟩

/-- R62: a published rank has changed. -/
theorem rankChanged (h : s.NetMoves w fs t) : s.NetMoves w fs t.rankChanged := h.foldl fun _ _ hu => hu.modSel _ _

end State.NetMoves

/-- What an operation has put out is among what has left the device since. -/
theorem State.emitted_since {o : Output} (h : s.out <+: t.out) (k : (t.emit o).out <+: u.out) :
    (u.out.drop s.out.length).contains o = true := by
  obtain ⟨l, hl⟩ := h
  obtain ⟨r, hr⟩ := k
  have hdrop : u.out.drop s.out.length = l ++ (o :: r) := by
    rw [← hr, show (t.emit o).out = t.out ++ [o] from rfl, ← hl, List.append_assoc, List.append_assoc, List.drop_left]
    rfl
  simp [hdrop]

end

end Sys2Proof.Machine

/-!
PROOF. The quality levels of SyncE, received and sent (R241 to R243), as O50 states them.
-/

namespace Sys2Proof.Machine

section
variable {s t : State} {fs : List Fld}

theorem sye_plain : W_SYE < W_ENG ∧ W_SYE ≠ W_EVT := by decide

/-! ### The table of R242 -/

theorem ssmRows_small : ∀ opt2, ∀ r ∈ ssmRows opt2, r.1 < 16 ∧ r.2.1 < 16 ∧ r.2.2.getD 0 < 256 := by decide

theorem rankOf_lt (opt2 : Bool) (ssm : Nat) (essm : Option Nat) : (rankOf opt2 ssm essm).getD 14 < 16 := by
  unfold rankOf
  dsimp only
  cases hrow : List.find? _ _ with
  | none => decide
  | some r => exact (ssmRows_small opt2 r (List.mem_of_mem_filter (List.mem_of_find?_eq_some hrow))).1

theorem rowOf_small (opt2 : Bool) (rank : Nat) :
    (rowOf opt2 rank).1 < 16 ∧ (rowOf opt2 rank).2.1 < 16 ∧ (rowOf opt2 rank).2.2.getD 0 < 256 := by
  unfold rowOf
  cases hrow : List.find? _ _ with
  | none => decide
  | some r => exact ssmRows_small opt2 r (List.mem_of_find?_eq_some hrow)

theorem State.syeTxWord_lt (p : Nat) : s.syeTxWord p < 2 ^ 16 := by
  unfold State.syeTxWord
  split
  · decide
  · obtain ⟨hrank, hssm, henh⟩ := rowOf_small (s.flag W_SYE SYE_CFG_NET) (s.syeTxRank (16 + p))
    dsimp only
    split <;> omega

/-! ### SYE's events and its published ranks (R241) -/

theorem State.NetMoves.syeEvent (h : s.NetMoves W_SYE fs t) {b : Nat} (hb : b < 32) (hf : Fld.word SYE_STS ∈ fs) :
    s.NetMoves W_SYE fs (t.syeEvent b) := h.event _ hf (by decide) (by unfold evNo; omega)

theorem State.syeEvent_pending (h : s.Inv) {b : Nat} (hb : b < 32) : (s.syeEvent b).evPending (evNo 12 b) = true :=
  State.stsRaise_evPending h _ _ _ (by unfold evNo; omega)

theorem rxql_width : ∀ p : Port, (rxqlField p).width = 4 ∧ (rxqlField p).off < 0x4000 ∧ (rxqlField p).lsb + (rxqlField p).width ≤ 32 ∧
    (rxqlField p).clearOf [.word SYE_STS] = true ∧ (rxqlField p).clearOf [.word (SYE_RXSSM0 + 4 * p)] = true := by decide

/-- What a received rank may change in SYE. -/
def syeRankFields (p : Port) : List Fld := [rxqlField p, .word SYE_STS]

/-- A rank published: shown, with its event where it is another one. -/
theorem State.syeRank_shows (h : s.Inv) (p : Port) {r : Nat} (hr : r < 16) :
    s.NetMoves W_SYE (syeRankFields p) (s.syeRank p r) ∧ (s.syeRank p r).get W_SYE (rxqlField p) = r ∧
      (r ≠ s.get W_SYE (rxqlField p) → (s.syeRank p r).evPending (evNo 12 p) = true) := by
  obtain ⟨hwidth, hoff, h32, hsts, -⟩ := rxql_width p
  unfold State.syeRank
  split
  · next hsame => exact ⟨.refl h sye_plain, hsame, fun hne => absurd hsame.symm hne⟩
  · have hput : (s.put W_SYE (rxqlField p) r).Inv := h.put _ _ _
    have hshown : (s.put W_SYE (rxqlField p) r).get W_SYE (rxqlField p) = r := by
      rw [State.get_put_same s h.canon _ _ _ h32, hwidth]
      exact Nat.mod_eq_of_lt hr
    have hp : p.val < 32 := by omega
    have htold := (State.NetMoves.refl hput sye_plain).syeEvent (fs := [.word SYE_STS]) hp (by simp)
    have hrank := (State.NetMoves.refl (fs := [.word SYE_STS]) htold.win.inv sye_plain).rankChanged
    have hall : s.NetMoves W_SYE (syeRankFields p) (((s.put W_SYE (rxqlField p) r).syeEvent p).rankChanged) :=
      (((State.NetMoves.refl h sye_plain).put r (by simp [syeRankFields]) hoff).syeEvent hp (by simp [syeRankFields])).rankChanged
    exact ⟨hall, ((hrank.win.get _ hsts).trans (htold.win.get _ hsts)).trans hshown, fun _ =>
      hrank.win.event _ (by unfold evNo; omega) (State.syeEvent_pending hput hp)⟩

/-! ### Codes received (R241) -/

/-- The 5 s of port `p` start anew. -/
def State.syeHeard (s : State) (p : Nat) : State :=
  s.setTod { s.tod with esmcEnd := lput none s.tod.esmcEnd p (some (s.after (5 * secU))) }

/-- The rank of the codes that port `p` received last. -/
def State.rxRank (s : State) (p : Nat) : Option Nat :=
  rankOf (s.flag W_SYE SYE_CFG_NET) (s.rn W_SYE (SYE_RXSSM0 + 4 * p) % 16)
    (if bitOf (s.rn W_SYE (SYE_RXSSM0 + 4 * p)) 16 then some (bitsOf (s.rn W_SYE (SYE_RXSSM0 + 4 * p)) 8 8) else none)

theorem State.syeRx_disabled {p : Nat} (hoff : bitOf (s.rn W_SYE SYE_CTL) p = false) : s.syeRx p = s :=
  if_pos (ne_true_of_eq_false hoff)

theorem State.syeRx_enabled {p : Nat} (hon : bitOf (s.rn W_SYE SYE_CTL) p = true) :
    s.syeRx p = if (s.rxRank p).isNone then ((s.syeHeard p).syeRank p 14).syeEvent 5
      else (s.syeHeard p).syeRank p ((s.rxRank p).getD 14) := by
  have htaken : s.syeRx p = match s.rxRank p with
    | some r => (s.syeHeard p).syeRank p r
    | none => ((s.syeHeard p).syeRank p 14).syeEvent 5 := if_neg (not_not_intro hon)
  rw [htaken]
  cases s.rxRank p <;> rfl

theorem State.syeRx_shows (h : s.Inv) (p : Port) (hon : bitOf (s.rn W_SYE SYE_CTL) p = true) :
    (s.syeRx p).sys = s.sys ∧ (s.syeRx p).get W_SYE (rxqlField p) = (s.rxRank p).getD 14 ∧
      (s.syeRx p).tod = (s.syeHeard p).tod ∧
      ((s.rxRank p).getD 14 ≠ s.get W_SYE (rxqlField p) → (s.syeRx p).evPending (evNo 12 p) = true) ∧
      (s.rxRank p = none → (s.syeRx p).evPending (evNo 12 5) = true) := by
  have hheard : (s.syeHeard p).Inv := h
  obtain ⟨-, -, -, hsts, -⟩ := rxql_width p
  rw [State.syeRx_enabled hon]
  cases hrank : s.rxRank p with
  | some r =>
    have hlt : r < 16 := by
      have := rankOf_lt (s.flag W_SYE SYE_CFG_NET) (s.rn W_SYE (SYE_RXSSM0 + 4 * p) % 16)
        (if bitOf (s.rn W_SYE (SYE_RXSSM0 + 4 * p)) 16 then some (bitsOf (s.rn W_SYE (SYE_RXSSM0 + 4 * p)) 8 8) else none)
      rwa [show rankOf _ _ _ = some r from hrank] at this
    obtain ⟨hmoves, hshown, hevent⟩ := State.syeRank_shows hheard p hlt
    exact ⟨hmoves.win.sys, hshown, hmoves.net.tod, hevent, nofun⟩
  | none =>
    obtain ⟨hmoves, hshown, hevent⟩ := State.syeRank_shows hheard p (r := 14) (by decide)
    have hbad : ((s.syeHeard p).syeRank p 14).NetMoves W_SYE [.word SYE_STS] (((s.syeHeard p).syeRank p 14).syeEvent 5) :=
      (State.NetMoves.refl hmoves.win.inv sye_plain).syeEvent (by decide) (by simp)
    have hp : evNo 12 p < 512 := by unfold evNo; omega
    exact ⟨hbad.win.sys.trans hmoves.win.sys, (hbad.win.get _ hsts).trans hshown, hbad.net.tod.trans hmoves.net.tod,
      fun hne => hbad.win.event _ hp (hevent hne), fun _ => State.syeEvent_pending hmoves.win.inv (by decide)⟩

theorem openCmd_rxssm : ∀ p : Port, openCmd (.eng (9 + p)) W_SYE (SYE_RXSSM0 + 4 * p) = true := by decide

theorem rxssm_place : ∀ p : Port, (SYE_RXSSM0 + 4 * p.val) % 4 = 0 ∧ SYE_RXSSM0 + 4 * p.val < 0x1000 ∧
    (SYE_RXSSM0 + 4 * p.val - SYE_RXSSM0) / 4 = p.val := by decide

theorem rxssm_apart : ∀ p : Port, (Fld.word SYE_CTL).clearOf [.word (SYE_RXSSM0 + 4 * p)] = true ∧
    SYE_CFG_NET.clearOf [.word (SYE_RXSSM0 + 4 * p)] = true := by decide

/-- PTp's write of SYE_RXSSMp: the codes are stored and judged. -/
theorem exec_syeRxssmWrite (hs : s.Ready) (p : Port) (v : Word)
    (hsys : ((s.wr W_SYE (SYE_RXSSM0 + 4 * p) v.toNat).syeRx p).sys = s.sys) : ∃ o, exec (.syeRxssmWrite (.eng (9 + p)) p v) s =
      .next (((s.wr W_SYE (SYE_RXSSM0 + 4 * p) v.toNat).syeRx p).emit o) := by
  obtain ⟨h4, ho, hport⟩ := rxssm_place p
  have hact : s.cmdAct (.eng (9 + p)) W_SYE (SYE_RXSSM0 + 4 * p) v.toNat = (s.wr W_SYE (SYE_RXSSM0 + 4 * p) v.toNat).syeRx p :=
    congrArg (State.syeRx _) hport
  exact (State.doorWrite_taken (r := .eng (9 + p)) (w := W_SYE) nofun (by decide) h4 ho ((State.regWrite_openCmd (openCmd_rxssm p) hs.2.2 rfl).trans
    (congrArg _ hact)) (hsys ▸ hs.2.1)).imp fun _ => congrArg Host.Outcome.next

section
variable (hs : s.Ready) (p : Port) (v : Word)
include hs

/-- The codes stored. -/
theorem State.rxssm_stored : (s.wr W_SYE (SYE_RXSSM0 + 4 * p) v.toNat).rn W_SYE (SYE_RXSSM0 + 4 * p) = v.toNat ∧
    s.NetMoves W_SYE [.word (SYE_RXSSM0 + 4 * p)] (s.wr W_SYE (SYE_RXSSM0 + 4 * p) v.toNat) := by
  have ho : SYE_RXSSM0 + 4 * p.val < 0x4000 := by unfold SYE_RXSSM0; omega
  exact ⟨(State.rn_wr_same s hs.1.canon _ _ _).trans (Nat.mod_eq_of_lt v.isLt),
    (State.NetMoves.refl hs.1 sye_plain).wr _ (by simp) ho⟩

theorem syeRxssmWrite_disabled (hoff : bitOf (s.rn W_SYE SYE_CTL) p = false) : s.To (.syeRxssmWrite (.eng (9 + p)) p v) fun t =>
    t.rn W_SYE (SYE_RXSSM0 + 4 * p) = v.toNat ∧ t.get W_SYE (rxqlField p) = s.get W_SYE (rxqlField p) ∧ t.tod = s.tod := by
  obtain ⟨hstored, hmoves⟩ := State.rxssm_stored hs p v
  obtain ⟨hctl, -⟩ := rxssm_apart p
  have hkept := State.syeRx_disabled (((congrArg (bitOf · p) (hmoves.win.rn _ hctl))).trans hoff)
  obtain ⟨-, -, -, -, hrxql⟩ := rxql_width p
  have hexec := exec_syeRxssmWrite hs p v ((congrArg State.sys hkept).trans rfl)
  rw [hkept] at hexec
  exact .of_emit hexec fun _ => ⟨hstored, hmoves.win.get _ hrxql, rfl⟩

theorem syeRxssmWrite_enabled (hon : bitOf (s.rn W_SYE SYE_CTL) p = true) :
    let rank := rankOf (s.flag W_SYE SYE_CFG_NET) (v.toNat % 16) (if v.getLsbD 16 then some (bitsOf v.toNat 8 8) else none)
    s.To (.syeRxssmWrite (.eng (9 + p)) p v) fun t => t.get W_SYE (rxqlField p) = rank.getD 14 ∧
      lget none t.tod.esmcEnd p = some (s.after (5 * secU)) ∧
      (rank.getD 14 ≠ s.get W_SYE (rxqlField p) → t.evPending (evNo 12 p) = true) ∧ (rank = none → t.evPending (evNo 12 5) = true) := by
  intro rank
  obtain ⟨hstored, hmoves⟩ := State.rxssm_stored hs p v
  obtain ⟨hctl, hnet⟩ := rxssm_apart p
  obtain ⟨-, -, -, -, hrxql⟩ := rxql_width p
  have hrank : (s.wr W_SYE (SYE_RXSSM0 + 4 * p) v.toNat).rxRank p = rank := by
    unfold State.rxRank
    rw [hstored, hmoves.win.flag _ hnet, bitOf_toNat]
  obtain ⟨hsys, hshown, htod, hevent, hbad⟩ :=
    State.syeRx_shows hmoves.win.inv p ((congrArg (bitOf · p) (hmoves.win.rn _ hctl)).trans hon)
  rw [hrank, hmoves.win.get _ hrxql] at hevent
  rw [hrank] at hshown hbad
  refine .of_emit (exec_syeRxssmWrite hs p v hsys) fun _ => ⟨hshown, ?_, hevent, hbad⟩
  exact (congrArg (fun x : TodSt => lget none x.esmcEnd p) htod).trans (lget_lput_same _ _ _ _)

end

/-! ### 5 s without a PDU (R241) -/

theorem esmcTimeout_due (hs : s.Ready) (p : Port) {d : Nat} (hd : lget none s.tod.esmcEnd p = some d) (hdue : s.due d = true) :
    s.To (.esmcTimeout p) fun t => t.get W_SYE (rxqlField p) = 15 ∧ lget none t.tod.esmcEnd p = none ∧
      t.evPending (evNo 12 (2 + p)) = true := by
  let u := s.setTod { s.tod with esmcEnd := lput none s.tod.esmcEnd p none }
  have hexec : exec (.esmcTimeout p) s = .next ((u.syeRank p 15).syeEvent (2 + p)) := by
    change execEsmcTimeout p s = _
    unfold execEsmcTimeout
    rw [hd]
    exact congrArg Host.Outcome.next (if_pos hdue)
  have hu : u.Inv := hs.1
  obtain ⟨hmoves, hshown, -⟩ := State.syeRank_shows hu p (r := 15) (by decide)
  obtain ⟨-, -, -, hsts, -⟩ := rxql_width p
  have htold : (u.syeRank p 15).NetMoves W_SYE [.word SYE_STS] ((u.syeRank p 15).syeEvent (2 + p)) :=
    (State.NetMoves.refl hmoves.win.inv sye_plain).syeEvent (by omega) (by simp)
  refine ⟨_, hexec, (htold.win.get _ hsts).trans hshown, ?_, State.syeEvent_pending hmoves.win.inv (by omega)⟩
  rw [htold.net.tod, hmoves.net.tod]
  exact lget_lput_same _ _ _ _

theorem esmcTimeout_waits (p : Port) {d : Nat} (hd : lget none s.tod.esmcEnd p = some d) (hdue : s.due d = false) :
    s.To (.esmcTimeout p) (· = s) := by
  refine ⟨s, ?_, rfl⟩
  change execEsmcTimeout p s = _
  unfold execEsmcTimeout
  rw [hd]
  exact congrArg Host.Outcome.next (if_neg (ne_true_of_eq_false hdue))

/-! ### Ranks sent (R243) -/

/-- What port `p` sends follows the loop's source: one port's turn in `State.syeRefresh`. -/
def State.syeSent (s : State) (p : Nat) : State :=
  if bitsOf (s.rn W_SYE SYE_TXQL) (16 * p) 16 = s.syeTxWord p then s
  else ((s.wr W_SYE SYE_TXQL (putBits (s.rn W_SYE SYE_TXQL) (16 * p) 16 (s.syeTxWord p))).syeEvent 4).engPend (9 + p) 1 0

theorem State.syeRefresh_eq : s.syeRefresh = (s.syeSent 0).syeSent 1 := rfl

theorem State.NetMoves.syeSent (h : s.NetMoves W_SYE [.word SYE_TXQL, .word SYE_STS] t) (p : Nat) :
    s.NetMoves W_SYE [.word SYE_TXQL, .word SYE_STS] (t.syeSent p) :=
  .ite (fun _ => h) fun _ => ((h.wr _ (by decide) (by decide)).syeEvent (by decide) (by decide)).engPend _ _ _

theorem State.syeSent_others (h : s.Inv) (p : Nat) {w : Nat} (hw : w < W_ENG ∧ w ≠ W_EVT) (hne : W_SYE ≠ w) :
    s.NetMoves w [] (s.syeSent p) :=
  .ite (fun _ => .refl h hw) fun _ => (((State.NetMoves.refl h hw).wrOther _ hne (by decide) (by decide)).eventOther _ hne (by decide)
    (by decide) (by decide)).engPend _ _ _

theorem State.syeSent_gl (p : Nat) : (s.syeSent p).gl = s.gl := by
  unfold State.syeSent
  split
  · rfl
  · rw [State.engPend_proj State.gl (fun _ _ _ _ => rfl) fun _ _ _ => rfl]
    exact State.raise_gl _ _ _

/-- The word of a port is the same after another port's turn. -/
theorem State.syeTxWord_syeSent (h : s.Inv) (p j : Nat) : (s.syeSent p).syeTxWord j = s.syeTxWord j := by
  have hsye := (State.NetMoves.refl h sye_plain).syeSent p
  have hreg {w off : Nat} (hw : w < W_ENG ∧ w ≠ W_EVT) (hne : W_SYE ≠ w) (ho : off < 0x4000) :
      (s.syeSent p).rn w off = s.rn w off :=
    (State.syeSent_others h p hw hne).win.rn off ((Fld.clearOf_iff _ _).mpr ⟨⟨ho, Nat.zero_lt_succ _, le_rfl⟩, nofun⟩)
  have hget {w : Nat} (f : Fld) (hw : w < W_ENG ∧ w ≠ W_EVT) (hne : W_SYE ≠ w) (ho : f.off < 0x4000) :
      (s.syeSent p).get w f = s.get w f := congrArg (bitsOf · _ _) (hreg hw hne ho)
  have hloop : wDpll 2 < W_ENG ∧ wDpll 2 ≠ W_EVT := by decide
  have hcur : (s.syeSent p).selCur 2 = s.selCur 2 := hget _ hloop (by decide) (by decide)
  have hlt : s.selCur 2 < 2 ^ 5 := bitsOf_lt _ _ _
  have hpub (k : Nat) : (s.syeSent p).publishedRank k = s.publishedRank k := by
    unfold State.publishedRank
    rw [hsye.win.get SYE_RXQL_RANK0 (by decide), hsye.win.get SYE_RXQL_RANK1 (by decide), hget PTP_PSTATE_RANK (by decide) (by decide)
      (by decide), hget PTP_PSTATE_RANK (by decide) (by decide) (by decide), State.syeSent_gl]
  have heff : (s.syeSent p).effRank 2 (s.selCur 2) = s.effRank 2 (s.selCur 2) := by
    unfold State.effRank State.nib
    dsimp only
    rw [hreg hloop (by decide) (by decide), hreg hloop (by decide) (by unfold DPLL_SEL_QL0; omega), hpub]
  have hrank (own : Nat) : (s.syeSent p).syeTxRank own = s.syeTxRank own := by
    unfold State.syeTxRank State.loopst
    rw [hget _ hloop (by decide) (by decide), hcur, heff, hsye.win.get SYE_CFG_HOQL (by decide)]
  unfold State.syeTxWord
  rw [hsye.win.rn SYE_CTL (by decide), hsye.win.flag SYE_CFG_NET (by decide), hsye.win.flag SYE_CFG_ENH (by decide), hrank]

theorem State.syeSent_txql (h : s.Inv) (p : Nat) {j : Nat} (hj : j < 2) : bitsOf ((s.syeSent p).rn W_SYE SYE_TXQL) (16 * j) 16 =
    if j = p then s.syeTxWord p else bitsOf (s.rn W_SYE SYE_TXQL) (16 * j) 16 := by
  unfold State.syeSent
  split
  · next hsame =>
    split
    · next hjp => rw [hjp, hsame]
    · rfl
  · have hinv := h.wr W_SYE SYE_TXQL (putBits (s.rn W_SYE SYE_TXQL) (16 * p) 16 (s.syeTxWord p))
    have htold := ((State.NetMoves.refl hinv sye_plain).syeEvent (fs := [.word SYE_STS]) (b := 4) (by decide) (by simp)).engPend (9 + p) 1 0
    rw [htold.win.rn _ (by decide), State.rn_wr_same s h.canon, bitsOf_mod32 _ _ _ (by omega)]
    split
    · next hjp => rw [hjp, bitsOf_putBits_same, Nat.mod_eq_of_lt (State.syeTxWord_lt p)]
    · exact bitsOf_putBits_other _ _ _ _ _ _ (by omega)

theorem State.syeRefresh_txql (h : s.Inv) {j : Nat} (hj : j < 2) :
    bitsOf (s.syeRefresh.rn W_SYE SYE_TXQL) (16 * j) 16 = s.syeTxWord j := by
  have hfirst : (s.syeSent 0).Inv := ((State.NetMoves.refl h sye_plain).syeSent 0).win.inv
  rw [State.syeRefresh_eq, State.syeSent_txql hfirst 1 hj, State.syeSent_txql h 0 hj, State.syeTxWord_syeSent h]
  obtain rfl | rfl : j = 0 ∨ j = 1 := by omega
  · rfl
  · rfl

/-! ### The tick of each second (R243) -/

/-- The event ESMCTICK of a transmitting port's engine. -/
def State.esmcTold (s : State) (p : Nat) : State := if bitOf (s.rn W_SYE SYE_CTL) (2 + p) then s.engPend (9 + p) 0 0 else s

theorem State.esmcTold_moves (h : s.Inv) (p : Nat) : s.NetMoves W_SYE [] (s.esmcTold p) :=
  .ite (fun _ => (State.NetMoves.refl h sye_plain).engPend _ _ _) fun _ => .refl h sye_plain

theorem State.esmcTold_pends (h : s.Inv) {p : Nat} (hp : p < 2) (hon : bitOf (s.rn W_SYE SYE_CTL) (2 + p) = true) :
    ((s.esmcTold p).eng (9 + p)).pend.any (fun e => e.1 == 0) = true := by
  unfold State.esmcTold
  rw [if_pos hon]
  exact State.engPend_pends h _ (by omega) _ _

theorem State.esmcTold_keepsPending (p k : Nat) (hk : (s.eng k).pend.any (fun e => e.1 == 0) = true) :
    ((s.esmcTold p).eng k).pend.any (fun e => e.1 == 0) = true := by
  unfold State.esmcTold
  split
  · exact State.engPend_keepsPending _ _ _ _ _ hk
  · exact hk

theorem exec_esmcTick (hdue : s.gridDue secU s.tod.esmcIdx = true) : exec .esmcTick s =
    .next ((((s.setTod { s.tod with esmcIdx := s.tb.c / secU }).syeRefresh).esmcTold 0).esmcTold 1) :=
  congrArg Host.Outcome.next (if_pos hdue)

theorem esmcTick_due (hs : s.Ready) (hdue : s.gridDue secU s.tod.esmcIdx = true) : s.To .esmcTick fun t => ∀ j, j < 2 →
    bitsOf (t.rn W_SYE SYE_TXQL) (16 * j) 16 = s.syeTxWord j ∧
    (bitOf (s.rn W_SYE SYE_CTL) (2 + j) = true → (t.eng (9 + j)).pend.any (fun e => e.1 == 0) = true) := by
  let u := (s.setTod { s.tod with esmcIdx := s.tb.c / secU })
  have hu : u.Inv := hs.1
  have hsent : u.NetMoves W_SYE [.word SYE_TXQL, .word SYE_STS] u.syeRefresh := ((State.NetMoves.refl hu sye_plain).syeSent 0).syeSent 1
  have hzero := State.esmcTold_moves hsent.win.inv 0
  have hone := State.esmcTold_moves hzero.win.inv 1
  have hctl : u.syeRefresh.rn W_SYE SYE_CTL = s.rn W_SYE SYE_CTL := hsent.win.rn _ (by decide)
  refine ⟨_, exec_esmcTick hdue, fun j hj => ⟨?_, fun hon => ?_⟩⟩
  · rw [hone.win.rn _ (by decide), hzero.win.rn _ (by decide)]
    exact State.syeRefresh_txql hu hj
  · obtain rfl | rfl : j = 0 ∨ j = 1 := by omega
    · exact State.esmcTold_keepsPending _ _ (State.esmcTold_pends hsent.win.inv (by decide) (hctl ▸ hon))
    · exact State.esmcTold_pends hzero.win.inv (by decide) ((hzero.win.rn _ (by decide)).trans hctl ▸ hon)

end

end Sys2Proof.Machine

/-!
PROOF. The messages of the UART, received, associated and sent (R244 to R246), and O50.
-/

namespace Sys2Proof.Machine

section
variable {s t : State} {fs : List Fld}

theorem uart_plain : W_UART < W_ENG ∧ W_UART ≠ W_EVT := by decide

/-! ### UART's events -/

theorem State.NetMoves.uartEvent (h : s.NetMoves W_UART fs t) {b : Nat} (hb : b < 16) (hf : Fld.word UART_STS ∈ fs) :
    s.NetMoves W_UART fs (t.uartEvent b) := h.event _ hf (by decide) (by unfold evNo; omega)

theorem State.uartEvent_pending (h : s.Inv) {b : Nat} (hb : b < 16) : (s.uartEvent b).evPending (evNo 12 (16 + b)) = true :=
  State.stsRaise_evPending h _ _ _ (by unfold evNo; omega)

theorem State.NetMoves.uartErr (h : s.NetMoves W_UART fs t) (c : Nat) (hc : Fld.word UART_ERRCNT ∈ fs) (hf : Fld.word UART_STS ∈ fs) :
    s.NetMoves W_UART fs (t.uartErr c) :=
  ((h.count 1 hc (by decide)).uartEvent (by decide) hf).trans
    (((State.NetMoves.refl (((h.count 1 hc (by decide)).uartEvent (by decide) hf).win.inv) uart_plain).wr (off := UART_STS) _ hf (by decide)))

/-- A message rejected (R244, R245): counted, with its cause and its event. -/
theorem State.uartErr_shows (h : s.Inv) {c : Nat} (hc : c < 16) :
    ((s.uartErr c).rn W_UART UART_ERRCNT = (s.rn W_UART UART_ERRCNT + 1) % 2 ^ 32 ∧ (s.uartErr c).get W_UART UART_STS_CAUSE = c ∧
      (s.uartErr c).evPending (evNo 12 17) = true) ∧ (s.uartErr c).tod = s.tod := by
  have hcount : (s.count W_UART UART_ERRCNT 1).Inv := h.count _ _ _
  have htold := (State.NetMoves.refl (fs := [.word UART_STS]) hcount uart_plain).uartEvent (b := 1) (by decide) (by simp)
  have hcause := (State.NetMoves.refl (fs := [UART_STS_CAUSE]) htold.win.inv uart_plain).put (f := UART_STS_CAUSE) c (by simp) (by decide)
  refine ⟨⟨?_, ?_, ?_⟩, hcause.net.tod.trans htold.net.tod⟩
  · exact ((hcause.win.rn _ (by decide)).trans (htold.win.rn _ (by decide))).trans (State.rn_count_same s h.canon _ _ _)
  · exact (State.get_put_same _ htold.win.inv.canon _ _ _ (by decide)).trans (Nat.mod_eq_of_lt hc)
  · exact hcause.win.event _ (by decide) (State.uartEvent_pending hcount (by decide))

/-! ### What a message says (R244): a rejected one gives a cause below 3. -/

theorem parseBinary_cause {m : List Byte} {c : Nat} (h : parseBinary m = .err c) : c < 3 := by
  unfold parseBinary at h
  split at h
  · cases h; decide
  · split at h
    · cases h; decide
    · split at h
      · cases h; decide
      · cases h

theorem sentenceSecs_cause {body : List Byte} {c : Nat} (h : sentenceSecs body = .err c) : c = 2 := by
  unfold sentenceSecs at h
  dsimp only at h
  split at h
  · cases h
  · split at h
    · split at h
      · split at h <;> cases h
        rfl
      · cases h; rfl
    · split at h
      · split at h
        · cases h; rfl
        · split at h
          · split at h <;> cases h
            rfl
          · cases h; rfl
      · cases h

theorem parseNmea_cause {m : List Byte} {leap : Int} {c : Nat} (h : parseNmea m leap = .err c) : c < 3 := by
  unfold parseNmea at h
  dsimp only at h
  split at h
  · split at h
    · cases h; decide
    · split at h
      · split at h
        · cases h; decide
        · split at h
          · cases h
          · rw [sentenceSecs_cause h]; decide
      · cases h; decide
  · cases h; decide

/-- What the message `m` says by PROTO. -/
def State.todParsed (s : State) (m : List Byte) : TodParse :=
  if s.flag W_UART UART_CFG_PROTO then parseBinary m else parseNmea m (toSigned 16 (s.get W_UART UART_LEAP_V))

theorem State.todParsed_cause {m : List Byte} {c : Nat} (h : s.todParsed m = .err c) : c < 3 := by
  unfold State.todParsed at h
  split at h
  · exact parseBinary_cause h
  · exact parseNmea_cause h

/-! ### The edge of a message (R245) -/

/-- The whole second of timebase time nearest to `i`. -/
def nearestSec (i : Nat) : Nat := (2 * i + secU) / (2 * secU)

/-- What an association shows of its edge. -/
def State.todShown (s : State) (secs i : Nat) : State :=
  ((s.putInstant W_UART UART_PPS_W0 i).wr W_UART UART_SECDIFF (fit32 ((secs : Int) - nearestSec i))).wr W_UART UART_NSERR
    (fit32 ((i : Int) - nearestSec i * secU))

theorem State.todAssociate_eq (secs i : Nat) : s.todAssociate secs i =
    if (secs : Int) - nearestSec i = 0 then (s.todShown secs i).uartEvent 0 else ((s.todShown secs i).uartEvent 0).uartEvent 2 := rfl

/-- The registers of an association. -/
def todFields : List Fld := [.word UART_PPS_W0, .word (UART_PPS_W0 + 4), .word (UART_PPS_W0 + 8), .word UART_SECDIFF, .word UART_NSERR,
  .word UART_STS]

theorem State.todShown_moves (h : s.Inv) (secs i : Nat) : s.NetMoves W_UART todFields (s.todShown secs i) where
  win := (((State.WinMoves.refl h uart_plain).putInstant i (by decide) (by decide) (by decide) (by decide)).wr _ (by decide)
    (by decide)).wr _ (by decide) (by decide)
  net := ((((((State.BesideNet.refl s).wr _ _ _).wr _ _ _).wr _ _ _)).wr _ _ _).wr _ _ _

theorem State.todEvents_moves (h : t.Inv) (P : Prop) [Decidable P] :
    t.NetMoves W_UART [.word UART_STS] (if P then t.uartEvent 0 else (t.uartEvent 0).uartEvent 2) := by
  have htold := (State.NetMoves.refl (fs := [.word UART_STS]) h uart_plain).uartEvent (b := 0) (by decide) (by simp)
  exact .ite (fun _ => htold) fun _ => htold.uartEvent (by decide) (by simp)

theorem State.todAssociate_moves (h : s.Inv) (secs i : Nat) : s.NetMoves W_UART todFields (s.todAssociate secs i) := by
  have hshown := State.todShown_moves h secs i
  have htold := hshown.uartEvent (b := 0) (by decide) (by decide)
  exact .ite (fun _ => htold) fun _ => htold.uartEvent (by decide) (by decide)

/-- R245: the edge's time, the difference and the events. -/
theorem State.todAssociate_shows (h : s.Inv) (secs i : Nat) : (s.todAssociate secs i).evPending (evNo 12 16) = true ∧
    (s.todAssociate secs i).triple W_UART UART_PPS_W0 = fmtTime s.tb.ring i % 2 ^ 96 ∧
    (secs = nearestSec i → (s.todAssociate secs i).rn W_UART UART_SECDIFF = 0) ∧
    (secs ≠ nearestSec i → (s.todAssociate secs i).evPending (evNo 12 18) = true) := by
  have hinv := (State.todShown_moves h secs i).win.inv
  have hpps := h.putInstant W_UART UART_PPS_W0 i
  have hfirst := (State.NetMoves.refl (fs := [.word UART_STS]) hinv uart_plain).uartEvent (b := 0) (by decide) (by simp)
  have hevents := State.todEvents_moves hinv ((secs : Int) - nearestSec i = 0)
  have hlater := ((State.NetMoves.refl (fs := [.word UART_SECDIFF, .word UART_NSERR]) hpps uart_plain).wr (off := UART_SECDIFF)
    (fit32 ((secs : Int) - nearestSec i)) (by simp) (by decide)).wr (off := UART_NSERR) (fit32 ((i : Int) - nearestSec i * secU)) (by simp)
    (by decide)
  rw [State.todAssociate_eq]
  refine ⟨?_, ?_, fun heq => ?_, fun hne => ?_⟩
  · have hzero : ((s.todShown secs i).uartEvent 0).evPending (evNo 12 16) = true := State.uartEvent_pending hinv (by decide)
    split
    · exact hzero
    · exact ((State.NetMoves.refl (fs := [.word UART_STS]) hfirst.win.inv uart_plain).uartEvent (b := 2) (by decide)
        (by simp)).win.event _ (by decide) hzero
  · rw [hevents.win.triple _ (by decide) (by decide) (by decide)]
    exact (hlater.win.triple _ (by decide) (by decide) (by decide)).trans (State.triple_putTriple h.canon _ _ _ (by decide))
  · have hdiff : (secs : Int) - nearestSec i = 0 := by omega
    have hwritten : ((s.putInstant W_UART UART_PPS_W0 i).wr W_UART UART_SECDIFF (fit32 ((secs : Int) - nearestSec i))).rn W_UART
        UART_SECDIFF = 0 := (State.rn_wr_same _ hpps.canon _ _ _).trans (by rw [hdiff]; rfl)
    have hnserr := (State.NetMoves.refl (fs := [.word UART_NSERR]) (hpps.wr W_UART UART_SECDIFF (fit32 ((secs : Int) - nearestSec i)))
      uart_plain).wr (off := UART_NSERR) (fit32 ((i : Int) - nearestSec i * secU)) (by simp) (by decide)
    exact ((hevents.win.rn _ (by decide)).trans (hnserr.win.rn _ (by decide))).trans hwritten
  · rw [if_neg (by omega)]
    exact State.uartEvent_pending hfirst.win.inv (by decide)

/-! ### A message received (R244, R245) -/

theorem exec_uartMessage {bs : List Byte} {framing : Bool} {start : Nat} (hon : s.flag W_UART UART_CTL_RXEN = true) :
    exec (.uartMessage bs framing start) s = .next (s.uartRx bs framing start) := congrArg Host.Outcome.next (if_pos hon)

theorem uartMessage_ignored {bs : List Byte} {framing : Bool} {start : Nat} (hoff : s.flag W_UART UART_CTL_RXEN = false) :
    s.To (.uartMessage bs framing start) (· = s) := ⟨s, congrArg Host.Outcome.next (if_neg (ne_true_of_eq_false hoff)), rfl⟩

theorem State.uartRx_said {m : List Byte} {start : Nat} : s.uartRx m false start = match s.todParsed m with
    | .secs v => s.todMessage v start
    | .err c => s.uartErr c
    | .other => s := rfl

section
variable {bs : List Byte} {framing : Bool} {start : Nat} (hs : s.Ready) (hon : s.flag W_UART UART_CTL_RXEN = true)
include hs hon

theorem uartMessage_framing (hf : framing = true) : s.To (.uartMessage bs framing start) fun t =>
    (t.rn W_UART UART_ERRCNT = (s.rn W_UART UART_ERRCNT + 1) % 2 ^ 32 ∧ t.get W_UART UART_STS_CAUSE = 0 ∧
      t.evPending (evNo 12 17) = true) ∧ t.tod = s.tod :=
  ⟨s.uartErr 0, (exec_uartMessage hon).trans (congrArg Host.Outcome.next (if_pos hf)), State.uartErr_shows hs.1 (by decide)⟩

theorem uartMessage_rejected {c : Nat} (hf : framing = false) (hsaid : s.todParsed bs = .err c) :
    s.To (.uartMessage bs framing start) fun t =>
    (t.rn W_UART UART_ERRCNT = (s.rn W_UART UART_ERRCNT + 1) % 2 ^ 32 ∧ t.get W_UART UART_STS_CAUSE = c ∧
      t.evPending (evNo 12 17) = true) ∧ t.tod = s.tod := by
  have hc := State.todParsed_cause hsaid
  refine ⟨s.uartErr c, (exec_uartMessage hon).trans (congrArg Host.Outcome.next ?_), State.uartErr_shows hs.1 (by omega)⟩
  rw [hf, State.uartRx_said, hsaid]

theorem uartMessage_taken {secs : Nat} (hf : framing = false) (hsaid : s.todParsed bs = .secs secs) :
    s.To (.uartMessage bs framing start) fun t =>
    t.pair W_UART UART_TODSEC_LO = secs % 2 ^ 48 ∧
    (s.flag W_UART UART_CFG_TODREF = true → t.tod.msgs = s.tod.msgs ++ [⟨secs, s.tb.c⟩]) := by
  refine ⟨s.todMessage secs start, (exec_uartMessage hon).trans (congrArg Host.Outcome.next ?_), ?_, fun hnext => ?_⟩
  · rw [hf, State.uartRx_said, hsaid]
  · have hinv := hs.1.putPair W_UART UART_TODSEC_LO (secs % 2 ^ 48)
    have hpair : (s.putPair W_UART UART_TODSEC_LO (secs % 2 ^ 48)).pair W_UART UART_TODSEC_LO = secs % 2 ^ 48 :=
      (State.pair_putPair hs.1.canon _ _ _ (by decide)).trans (Nat.mod_eq_of_lt (by omega))
    unfold State.todMessage
    dsimp only
    split
    · exact hpair
    · split
      · exact ((State.todAssociate_moves hinv secs _).win.pair _ (by decide) (by decide)).trans hpair
      · have herr := (State.NetMoves.refl (fs := [.word UART_ERRCNT, .word UART_STS]) hinv uart_plain).uartErr 3 (by simp) (by simp)
        exact (herr.win.pair _ (by decide) (by decide)).trans hpair
  · unfold State.todMessage
    rw [if_pos hnext]
    rfl

end

/-! ### A message's edge comes, or does not (R245) -/

theorem uartTodAssociation_meets (hs : s.Ready) {m : TodMsg} {y : Int × Nat}
    (hm : s.tod.msgs.find? (fun m => (s.todNextEdge m.stop).isSome) = some m) (hy : s.todNextEdge m.stop = some y) :
    s.To .uartTodAssociation fun t => t.tod.msgs = s.tod.msgs.erase m ∧ t.evPending (evNo 12 16) = true ∧
      t.triple W_UART UART_PPS_W0 = fmtTime s.tb.ring y.2 % 2 ^ 96 ∧
      (m.secs = (2 * y.2 + secU) / (2 * secU) → t.rn W_UART UART_SECDIFF = 0) ∧
      (m.secs ≠ (2 * y.2 + secU) / (2 * secU) → t.evPending (evNo 12 18) = true) := by
  let u := s.setTod { s.tod with msgs := s.tod.msgs.erase m }
  have hexec : exec .uartTodAssociation s = .next (u.todAssociate m.secs y.2) := by
    change execUartTodAssociation s = _
    simp only [execUartTodAssociation, hm, hy, u]
  have hu : u.Inv := hs.1
  have htod := (State.todAssociate_moves hu m.secs y.2).net.tod
  exact ⟨_, hexec, congrArg TodSt.msgs htod, State.todAssociate_shows hu m.secs y.2⟩

theorem uartTodAssociation_waits (hm : s.tod.msgs.find? (fun m => (s.todNextEdge m.stop).isSome) = none) :
    s.To .uartTodAssociation (· = s) := by
  refine ⟨s, ?_, rfl⟩
  change execUartTodAssociation s = _
  simp only [execUartTodAssociation, hm]

/-- The message has waited its 990 ms without an edge. -/
def State.todMissed (s : State) (m : TodMsg) : Bool := s.due ((m.stop + 990 * msU) % 2 ^ 96) && (s.todNextEdge m.stop).isNone

theorem todAssociationTimeout_rejects (hs : s.Ready) {m : TodMsg} (hm : s.tod.msgs.find? s.todMissed = some m) :
    s.To .todAssociationTimeout fun t => (t.rn W_UART UART_ERRCNT = (s.rn W_UART UART_ERRCNT + 1) % 2 ^ 32 ∧
      t.get W_UART UART_STS_CAUSE = 3 ∧ t.evPending (evNo 12 17) = true) ∧ t.tod.msgs = s.tod.msgs.erase m := by
  let u := s.setTod { s.tod with msgs := s.tod.msgs.erase m }
  have hexec : exec .todAssociationTimeout s = .next (u.uartErr 3) := by
    change execTodAssociationTimeout s = _
    unfold execTodAssociationTimeout
    unfold State.todMissed at hm
    rw [hm]
  obtain ⟨herr, htod⟩ := State.uartErr_shows (s := u) (c := 3) hs.1 (by decide)
  exact ⟨_, hexec, herr, congrArg TodSt.msgs htod⟩

theorem todAssociationTimeout_waits (hm : s.tod.msgs.find? s.todMissed = none) : s.To .todAssociationTimeout (· = s) := by
  refine ⟨s, ?_, rfl⟩
  change execTodAssociationTimeout s = _
  unfold execTodAssociationTimeout
  unfold State.todMissed at hm
  rw [hm]

/-! ### The device's own message (R246) -/

/-- The time message of the present second is to start. -/
def State.TodStarts (s : State) : Prop := s.flag W_UART UART_CTL_TXEN = true ∧ s.txDly ≤ s.now % secU ∧
  s.tod.txSec ≠ some (s.now / secU) ∧ s.tod.txBytes = none

theorem uartTxStart_starts (hs : s.Ready) (hgo : s.TodStarts) : s.To .uartTxStart fun t =>
    t.tod.txSec = some (s.now / secU) ∧ t.tod.txBytes = some (s.todBytes (s.now / secU)) ∧ t.regs = s.regs := by
  obtain ⟨hon, hdly, hsec, hidle⟩ := hgo
  exact ⟨_, congrArg Host.Outcome.next (if_pos ⟨hon, hs.running, hdly, hsec, hidle⟩), rfl, rfl, rfl⟩

theorem uartTxStart_waits (hgo : ¬ s.TodStarts) : s.To .uartTxStart (· = s) :=
  ⟨s, congrArg Host.Outcome.next (if_neg fun ⟨hon, _, hdly, hsec, hidle⟩ => hgo ⟨hon, hdly, hsec, hidle⟩), rfl⟩

theorem uartTxEnd_sent (hs : s.Ready) {b : List Byte} (hb : s.tod.txBytes = some b) : s.To .uartTxEnd fun t =>
    t.tod.txBytes = none ∧ t.evPending (evNo 12 19) = true ∧ (t.out.drop s.out.length).contains (.todByte b) = true := by
  let u := s.setTod { s.tod with txBytes := none }
  have hexec : exec .uartTxEnd s = .next ((u.emit (.todByte b)).uartEvent 3) := by
    change execUartTxEnd s = _
    unfold execUartTxEnd
    rw [hb]
  have hu : (u.emit (.todByte b)).Inv := hs.1
  have htold := (State.NetMoves.refl (fs := [.word UART_STS]) hu uart_plain).uartEvent (b := 3) (by decide) (by simp)
  exact ⟨_, hexec, congrArg TodSt.txBytes htold.net.tod, State.uartEvent_pending hu (by decide),
    State.emitted_since List.prefix_rfl htold.net.out⟩

theorem uartTxEnd_idle (hb : s.tod.txBytes = none) : s.To .uartTxEnd (· = s) := by
  refine ⟨s, ?_, rfl⟩
  change execUartTxEnd s = _
  unfold execUartTxEnd
  rw [hb]

end

/-- Settles O50: a rank published and the words sent are followed through the registers of SYE, and a message of the UART to its
rejection, its edge or its end. -/
theorem syncEAndTimeOfDay : Obligations.SyncEAndTimeOfDay := by
  unfold Obligations.SyncEAndTimeOfDay
  intro s p v bs framing start secs cause d hs
  exact ⟨syeRxssmWrite_disabled hs p v, syeRxssmWrite_enabled hs p v,
    fun hd => ⟨esmcTimeout_due hs p hd, esmcTimeout_waits p hd⟩,
    esmcTick_due hs, fun hwait => ⟨s, congrArg Host.Outcome.next (if_neg (ne_true_of_eq_false hwait)), rfl⟩,
    fun hf hon => uartMessage_framing hs hon hf, fun hf hsaid hon => uartMessage_rejected hs hon hf hsaid,
    fun hf hsaid hon => uartMessage_taken hs hon hf hsaid, uartMessage_ignored,
    fun m hm y hy => uartTodAssociation_meets hs hm hy, uartTodAssociation_waits,
    fun m hm => todAssociationTimeout_rejects hs hm, todAssociationTimeout_waits,
    uartTxStart_starts hs, uartTxStart_waits, fun b hb => uartTxEnd_sent hs hb, uartTxEnd_idle⟩

end Sys2Proof.Machine

/-!
PROOF. What the operations of a source leave of another window and of the records of network time (R36, R37, R46, R49).
-/

namespace Sys2Proof.Machine

theorem wSrc_ne_window_evt (n : Nat) : wSrc n ≠ W_EVT := by unfold wSrc W_SRC W_EVT; omega

namespace State.NetMoves

section
variable {s t : State} {w n : Nat} {fs : List Fld} (hn : n < 21) (hw : wSrc n ≠ w)

/-! ### Registers and events of the source -/

include hw in
theorem srcWr (h : s.NetMoves w fs t) {off : Nat} (v : Nat) (ho : off < 0x4000) : s.NetMoves w fs (t.wr (wSrc n) off v) :=
  h.wrOther v hw (wSrc_ne_window_evt n) ho

include hw in
theorem srcPut (h : s.NetMoves w fs t) {f : Fld} (v : Nat) (ho : f.off < 0x4000) : s.NetMoves w fs (t.put (wSrc n) f v) :=
  h.srcWr hw _ ho

include hn in
theorem srcEvent (h : s.NetMoves w fs t) {e : Nat} (he : e < 5) : s.NetMoves w fs (t.srcEvent n e) :=
  h.raise (by unfold evNo; omega)

theorem consLow (h : s.NetMoves w fs t) (kind before : Nat) : s.NetMoves w fs (t.consLow kind before) :=
  .ite (fun _ => .ite (fun _ => h.raise (by decide)) fun _ => .ite (fun _ => h.raise (by decide)) fun _ => h) fun _ => h

include hw in
theorem setQ (h : s.NetMoves w fs t) (q : Nat) : s.NetMoves w fs (t.setQ n q) := by
  have hpass : s.NetMoves w fs (if t.qstate n = 4 then t.modSrc n (fun x => { x with pass := List.replicate 4 false }) else t) :=
    .ite (fun _ => h.modSrc _ _) fun _ => h
  exact .ite (fun _ => h) fun _ => ((hpass.srcPut hw _ (by decide)).engPend _ _ _).consLow _ _

include hw in
theorem srcClearWait (h : s.NetMoves w fs t) : s.NetMoves w fs (t.srcClearWait n) := (h.modSrc _ _).srcPut hw _ (by decide)

include hw in
theorem toUnqual (h : s.NetMoves w fs t) : s.NetMoves w fs (t.toUnqual n) := (h.srcClearWait hw).setQ hw _

include hw in
/-- The history of the source begins anew. -/
theorem srcClearHist (h : s.NetMoves w fs t) (next : Bool) : s.NetMoves w fs (t.srcClearHist n next) := by
  unfold State.srcClearHist
  dsimp only
  refine List.foldlRecOn (motive := fun u : State => s.NetMoves w fs u) _ _ (List.foldlRecOn (motive := fun u : State =>
    s.NetMoves w fs u) _ _ ((h.modSrc _ _).srcWr hw _ (by decide)) fun u hu i hi => ?_) fun u hu i hi => ?_
  · have hlt := List.mem_range.mp hi
    exact (hu.srcWr hw _ (by unfold SRC_FOFF0; omega)).srcWr hw _ (by unfold SRC_COFF0; omega)
  · have hlt := List.mem_range.mp hi
    exact (hu.srcWr hw _ (by unfold SRC_MTIE0; omega)).srcWr hw _ (by unfold SRC_TDEV0; omega)

/-! ### Moves that raise an event of the source -/

include hn hw in
theorem srcDisq (h : s.NetMoves w fs t) (cause : Nat) : s.NetMoves w fs (t.srcDisq n cause) :=
  ((h.srcWr hw _ (by decide)).srcPut hw _ (by decide)).srcEvent hn (by decide)

include hn hw in
theorem toQual (h : s.NetMoves w fs t) : s.NetMoves w fs (t.toQual n) :=
  (((((h.srcClearWait hw).setQ hw 4).srcPut hw _ (by decide)).srcWr hw _ (by decide))).srcEvent hn (by decide)

include hn hw in
theorem toLost (h : s.NetMoves w fs t) : s.NetMoves w fs (t.toLost n) := by
  have hlost := ((((h.srcClearWait hw).setQ hw 1).srcClearHist hw false).srcWr hw
    (v := putBits ((((t.srcClearWait n).setQ n 1).srcClearHist n false).rn (wSrc n) SRC_STS ||| 1) 24 8
      ((((t.srcClearWait n).setQ n 1).srcClearHist n false).rn (wSrc n) SRC_STS / 2 ^ 24 + 1))
    (off := SRC_STS) (by decide)).srcEvent hn (e := 0) (by decide)
  exact .ite (fun _ => h) fun _ => .ite (fun _ => hlost.srcDisq hn hw 0) fun _ => hlost

include hn hw in
theorem srcReturn (h : s.NetMoves w fs t) : s.NetMoves w fs (t.srcReturn n) :=
  have hcleared := (h.srcClearHist hw false).modSrc n (fun x => { x with index := none })
  .ite (fun _ => hcleared.toQual hn hw) fun _ => hcleared.toUnqual hw

/-! ### Activity, samples, holds (R36, R37, R49) -/

include hn hw in
theorem actBad (h : s.NetMoves w fs t) : s.NetMoves w fs (t.actBad n) :=
  .ite (fun _ => (h.modSrc _ _).toLost hn hw) fun _ => h.modSrc _ _

include hn hw in
theorem actGood (h : s.NetMoves w fs t) : s.NetMoves w fs (t.actGood n) :=
  .ite (fun _ => (h.modSrc _ _).srcReturn hn hw) fun _ => h.modSrc _ _

include hn hw in
theorem actEdge (h : s.NetMoves w fs t) (time : Nat) : s.NetMoves w fs (t.actEdge n time) := by
  have hkept := h.modSrc n (fun v => { v with missed := 0, lastEdge := some time })
  unfold State.actEdge
  dsimp only
  split
  · exact .ite (fun _ => hkept.actBad hn hw) fun _ => hkept
  · exact .ite (fun _ => hkept.actBad hn hw) fun _ => .ite (fun _ => hkept.actGood hn hw) fun _ => hkept

include hn hw in
theorem srcVirtual (h : s.NetMoves w fs t) (tag : Nat) (x : Int) : s.NetMoves w fs (t.srcVirtual n tag x) :=
  .ite (fun _ => h) fun _ =>
    ((((h.srcWr hw _ (by decide)).actEdge hn hw t.tb.c).srcWr hw _ (by decide)).srcWr hw _ (by decide)).modSrc _ _

include hn hw in
theorem srcAccept (h : s.NetMoves w fs t) : s.NetMoves w fs (t.srcAccept n) := by
  have hpass : s.NetMoves w fs (if t.get (wSrc n) SRC_STATE_HOLDCAUSE = 1 then
      t.modSrc n (fun x => { x with pass := List.replicate 4 true }) else t) := .ite (fun _ => h.modSrc _ _) fun _ => h
  refine .ite (fun _ => h) fun _ => ?_
  dsimp only
  split
  · exact .ite (fun _ => hpass.toQual hn hw) fun _ => hpass.toUnqual hw
  · exact hpass.toUnqual hw

include hw in
/-- A hold that the host, or a PTP engine, asks for. -/
theorem srcHoldAs (h : s.NetMoves w fs t) : s.NetMoves w fs (t.srcHoldAs n 2) :=
  .ite (fun _ => .ite (fun _ => ((h.srcClearWait hw).setQ hw 5).srcPut hw 2 (by decide)) fun _ => h) fun _ => h

end

end State.NetMoves

end Sys2Proof.Machine

/-!
PROOF. Memory and queues (R23, R336, R337): the bytes that a store writes, and what accesses to memory and to a queue leave of a
window and of the records of network time.
-/

namespace Sys2Proof.Machine

/-! ### Bytes in order -/

theorem leBytes_leNat (bs : List Byte) : leBytes bs.length (leNat bs) = bs := by
  induction bs with
  | nil => rfl
  | cons b bs ih =>
    have hb := b.isLt
    have hdiv : (b.toNat + 256 * leNat bs) / 256 = leNat bs := by omega
    have hbyte : BitVec.ofNat 8 (b.toNat + 256 * leNat bs) = b :=
      BitVec.eq_of_toNat_eq (by rw [BitVec.toNat_ofNat, Nat.add_mod]; omega)
    simp only [List.length_cons, leBytes, leNat, hdiv, hbyte, ih]

section
variable {s t : State}

theorem State.bytes_succ (a n : Nat) : s.bytes a (n + 1) = s.byte a :: s.bytes (a + 1) n := by
  simp [State.bytes, List.range_succ_eq_map, Function.comp_def, Nat.add_assoc, Nat.add_comm 1]

theorem State.bytes_add (a m n : Nat) : s.bytes a (m + n) = s.bytes a m ++ s.bytes (a + m) n := by
  simp [State.bytes, List.range_add, Function.comp_def, Nat.add_assoc]

theorem State.bytes_congr {a n : Nat} (h : ∀ x, x < a + n → t.byte x = s.byte x) : t.bytes a n = s.bytes a n :=
  List.map_congr_left fun i hi => h _ (by have := List.mem_range.mp hi; omega)

theorem State.byte_of_mem (h : t.mem = s.mem) (x : Nat) : t.byte x = s.byte x := congrArg (sparseGet memDefault · x) h

theorem State.bytes_of_mem (h : t.mem = s.mem) (a n : Nat) : t.bytes a n = s.bytes a n :=
  State.bytes_congr fun x _ => State.byte_of_mem h x

/-! ### A store (R23) -/

theorem State.setByte_byte_same (h : Memory.wf s.mem = true) (a : Nat) (b : Byte) : (s.setByte a b).byte a = b :=
  sparseGet_put_same memDefault s.mem a 0 b h

theorem State.setBytes_byte_below {a x : Nat} (hx : x < a) (bs : List Byte) : (s.setBytes a bs).byte x = s.byte x := by
  induction bs generalizing s a with
  | nil => rfl
  | cons b bs ih =>
    exact (ih (s := s.setByte a b) (Nat.lt_succ_of_lt hx)).trans (sparseGet_put_ne memDefault s.mem a x b (Nat.ne_of_gt hx))

theorem State.setBytes_bytes (h : Memory.wf s.mem = true) (a : Nat) (bs : List Byte) :
    (s.setBytes a bs).bytes a bs.length = bs := by
  induction bs generalizing s a with
  | nil => rfl
  | cons b bs ih =>
    have hfirst : ((s.setByte a b).setBytes (a + 1) bs).byte a = b :=
      (State.setBytes_byte_below (Nat.lt_succ_self a) bs).trans (State.setByte_byte_same h a b)
    rw [List.length_cons, State.bytes_succ]
    exact congrArg₂ _ hfirst (ih (s := s.setByte a b) (sparsePut_wf memDefault _ _ _ h) (a + 1))

theorem State.setBytes_ecc (a : Nat) (bs : List Byte) : (s.setBytes a bs).ecc = s.ecc := by
  induction bs generalizing s a with
  | nil => rfl
  | cons b bs ih => exact ih (s := s.setByte a b) (a + 1)

theorem State.setBytes_queues (a : Nat) (bs : List Byte) : (s.setBytes a bs).queues = s.queues := by
  induction bs generalizing s a with
  | nil => rfl
  | cons b bs ih => exact ih (s := s.setByte a b) (a + 1)

/-- The word of `a` has no error, or a store at `a` is the first one into it. -/
def State.Fresh (s : State) (a : Nat) : Prop := a % 8 = 0 ∨ ∀ e ∈ s.ecc, e.1 ≠ a / 8 * 8

/-- A check of a word writes no byte. -/
theorem State.eccCheck_mem (a : Nat) : (s.eccCheck a).2.mem = s.mem := by
  unfold State.eccCheck
  split
  · rfl
  · rfl
  · simp [State.raise_mem]

theorem State.eccCheck_queues (a : Nat) : (s.eccCheck a).2.queues = s.queues := by
  unfold State.eccCheck
  split
  · rfl
  · rfl
  · simp

/-- A check that reports no double-bit error leaves its word without one. -/
theorem State.eccCheck_good {a : Nat} (h : (s.eccCheck a).1 = false) : ∀ e ∈ (s.eccCheck a).2.ecc, e.1 ≠ a := by
  unfold State.eccCheck at h ⊢
  split at h
  next hnone => exact fun e he => by simpa using List.find?_eq_none.mp hnone e he
  next => exact nomatch h
  next => intro e he; simp at he; exact he.2

theorem State.eccCheck_bad {a : Nat} (h : (s.eccCheck a).1 = true) : ∃ e ∈ s.ecc, e.1 = a := by
  unfold State.eccCheck at h
  split at h
  next => exact nomatch h
  next e he => exact ⟨_, List.mem_of_find?_eq_some he, by simpa using List.find?_some he⟩
  next => exact nomatch h

/-- What a store of `bs` at `a` leaves: its bytes and those below it. -/
structure State.Stored (s : State) (a : Nat) (bs : List Byte) (t : State) : Prop where
  below : ∀ x, x < a → t.byte x = s.byte x
  held : t.bytes a bs.length = bs

/-- A whole word. -/
theorem State.memStore_word_stored (h : s.Inv) (a : Nat) {bs : List Byte} (hbs : bs.length = 8) :
    s.Stored a bs (s.memStore a 8 (leNat bs)) := by
  have hbytes : leBytes 8 (leNat bs) = bs := hbs ▸ leBytes_leNat bs
  have hdef : s.memStore a 8 (leNat bs) = (s.setEcc (s.ecc.filter (fun e => e.1 != a / 8 * 8))).setBytes a bs := by
    rw [State.memStore, if_pos rfl, hbytes]
  rw [hdef]
  exact ⟨fun x hx => State.setBytes_byte_below hx bs, State.setBytes_bytes (s := s.setEcc (s.ecc.filter (fun e => e.1 != a / 8 * 8))) h.2.1 a bs⟩

/-- A byte, the first one into its word or into a word without an error: the word then has none. -/
theorem State.memStore_byte_stored (h : s.Inv) {a : Nat} (hf : s.Fresh a) (b : Byte) :
    s.Stored a [b] (s.memStore a 1 b.toNat) ∧ (s.memStore a 1 b.toNat).Fresh (a + 1) := by
  have hbytes : leBytes 1 b.toNat = [b] := leBytes_leNat [b]
  have hinv : (s.eccCheck (a / 8 * 8)).2.Inv := State.keeps_inv h (State.eccCheck_keeps (State.keeps_refl s) _)
  have hmem (x : Nat) : (s.eccCheck (a / 8 * 8)).2.byte x = s.byte x := State.byte_of_mem (State.eccCheck_mem _) x
  have hnext {t : State} (ht : ∀ e ∈ t.ecc, e.1 ≠ a / 8 * 8) : t.Fresh (a + 1) := by
    by_cases hend : (a + 1) % 8 = 0
    · exact .inl hend
    · exact .inr fun e he heq => ht e he (by omega)
  unfold State.memStore
  rw [if_neg (by decide), hbytes]
  dsimp only
  cases hbad : (s.eccCheck (a / 8 * 8)).1 with
  | false =>
    rw [if_neg (by simp)]
    exact ⟨⟨fun x hx => (State.setBytes_byte_below hx _).trans (hmem x), State.setBytes_bytes hinv.2.1 a [b]⟩,
      hnext (by rw [State.setBytes_ecc]; exact State.eccCheck_good hbad)⟩
  | true =>
    obtain ⟨e, he, hword⟩ := State.eccCheck_bad hbad
    have hstart : a / 8 * 8 = a := by
      rcases hf with hf | hf
      · omega
      · exact absurd hword (hf e he)
    rw [if_pos rfl]
    have hones := State.keeps_inv hinv (State.setBytes_keeps (State.setEcc_keeps (State.keeps_refl _)
      ((s.eccCheck (a / 8 * 8)).2.ecc.filter (fun e => e.1 != a / 8 * 8))) (a / 8 * 8) (leBytes 8 (2 ^ 64 - 1)))
    refine ⟨⟨fun x hx => ?_, State.setBytes_bytes hones.2.1 a [b]⟩, hnext fun e he => ?_⟩
    · have hx' : x < a / 8 * 8 := by omega
      exact ((State.setBytes_byte_below hx _).trans (State.setBytes_byte_below hx' _)).trans (hmem x)
    · rw [State.setBytes_ecc, State.setBytes_ecc, State.setEcc_ecc] at he
      simpa using (List.mem_filter.mp he).2

/-- Bytes stored one piece after the other hold the whole. -/
theorem State.Stored.append {u : State} {a c : Nat} {bs cs : List Byte} (h : s.Stored a bs t) (hc : a + bs.length = c)
    (k : t.Stored c cs u) : s.Stored a (bs ++ cs) u := by
  subst hc
  exact ⟨fun x hx => (k.below x (Nat.lt_add_right _ hx)).trans (h.below x hx), by
    rw [List.length_append, State.bytes_add, State.bytes_congr k.below, h.held, k.held]⟩

theorem State.memPut_stored (m : Nat) {a : Nat} {bs : List Byte} (hm : bs.length ≤ m) (h : s.Inv) (hf : s.Fresh a) :
    s.Stored a bs (State.memPut m s a bs) := by
  induction m generalizing s a bs with
  | zero =>
    obtain rfl := List.length_eq_zero_iff.mp (Nat.le_zero.mp hm)
    exact ⟨fun _ _ => rfl, rfl⟩
  | succ m ih =>
    cases bs with
    | nil => exact ⟨fun _ _ => rfl, rfl⟩
    | cons b bs =>
      rw [State.memPut]
      split
      next hword =>
        obtain ⟨halign, hlen⟩ := hword
        have htake : ((b :: bs).take 8).length = 8 := List.length_take_of_le hlen
        have hfirst := State.memStore_word_stored h a htake
        have hrest := ih (s := s.memStore a 8 (leNat ((b :: bs).take 8))) (a := a + 8) (bs := (b :: bs).drop 8)
          (by rw [List.length_drop]; omega) (State.keeps_inv h (State.memStore_keeps (State.keeps_refl s) _ _ _)) (.inl (by omega))
        have hwhole := hfirst.append (congrArg (a + ·) htake) hrest
        rwa [List.take_append_drop] at hwhole
      next =>
        obtain ⟨hfirst, hnext⟩ := State.memStore_byte_stored h hf b
        exact hfirst.append rfl (ih (Nat.le_of_succ_le_succ hm) (State.keeps_inv h (State.memStore_keeps (State.keeps_refl s) _ _ _)) hnext)

/-- Bytes filled in from the beginning of a word read back. -/
theorem State.memFill_bytes (h : s.Inv) {a : Nat} (ha : a % 8 = 0) (bs : List Byte) : (s.memFill a bs).bytes a bs.length = bs :=
  (State.memPut_stored _ (Nat.le_refl _) h (.inl ha)).held

/-! ### Queues beside memory -/

theorem State.memStore_queues (a n v : Nat) : (s.memStore a n v).queues = s.queues := by
  unfold State.memStore
  dsimp only
  split
  · rw [State.setBytes_queues, State.setEcc_queues]
  · split
    · rw [State.setBytes_queues, State.setBytes_queues, State.setEcc_queues, State.eccCheck_queues]
    · rw [State.setBytes_queues, State.eccCheck_queues]

theorem State.memPut_queues (m a : Nat) (bs : List Byte) : (State.memPut m s a bs).queues = s.queues := by
  induction m generalizing s a bs with
  | zero => rfl
  | succ m ih =>
    cases bs with
    | nil => rfl
    | cons b bs =>
      rw [State.memPut]
      split
      · rw [ih, State.memStore_queues]
      · rw [ih, State.memStore_queues]

theorem State.memFill_queues (a : Nat) (bs : List Byte) : (s.memFill a bs).queues = s.queues := State.memPut_queues _ _ _

theorem State.storeEntry_queues (a : Nat) (e : BitVec 256) : (s.storeEntry a e).queues = s.queues := by
  unfold State.storeEntry
  rw [State.memStore_queues, State.memStore_queues, State.memStore_queues, State.memStore_queues]

theorem State.qDrop_mem (n k : Nat) : (s.qDrop n k).mem = s.mem := State.raise_mem _ 13 n

/-- A queue that takes an entry holds one more. -/
theorem State.qPush_fill (h : s.Inv) {n : Nat} (hn : n < 64) (e : BitVec 256) :
    ((s.qPush n e).queue n).fill = (s.queue n).fill + 1 := by
  obtain ⟨-, -, ⟨hqueues, -⟩, -⟩ := h
  unfold State.qPush State.queue
  rw [State.modQueue_queues, State.storeEntry_queues, lget_lmod, if_pos ⟨rfl, hqueues.symm ▸ hn⟩]

end

/-! ### What they leave (R23, R337) -/

namespace State.NetMoves

section
variable {s t : State} {w : Nat} {fs : List Fld}

theorem setBytes (h : s.NetMoves w fs t) (a : Nat) (bs : List Byte) : s.NetMoves w fs (t.setBytes a bs) := by
  induction bs generalizing t a with
  | nil => exact h
  | cons b bs ih => exact ih ⟨h.win.setBytes a [b], h.net.trans ⟨rfl, rfl, rfl, rfl, List.prefix_rfl⟩⟩ (a + 1)

theorem setEcc (h : s.NetMoves w fs t) (l : List (Nat × Bool)) : s.NetMoves w fs (t.setEcc l) :=
  ⟨h.win.beyond h.win.inv rfl rfl, h.net.trans ⟨rfl, rfl, rfl, rfl, List.prefix_rfl⟩⟩

theorem modQueue (h : s.NetMoves w fs t) (n : Nat) (f : QueueSt → QueueSt) : s.NetMoves w fs (t.modQueue n f) :=
  ⟨h.win.modQueue _ _, h.net.trans ⟨rfl, rfl, rfl, rfl, List.prefix_rfl⟩⟩

theorem setTev (h : s.NetMoves w fs t) (x : TevSt) : s.NetMoves w fs (t.setTev x) :=
  ⟨h.win.setTev x, h.net.trans ⟨rfl, rfl, rfl, rfl, List.prefix_rfl⟩⟩

theorem memStore_word (h : s.NetMoves w fs t) (a v : Nat) : s.NetMoves w fs (t.memStore a 8 v) := (h.setEcc _).setBytes _ _

theorem storeEntry (h : s.NetMoves w fs t) (a : Nat) (e : BitVec 256) : s.NetMoves w fs (t.storeEntry a e) :=
  (((h.memStore_word _ _).memStore_word _ _).memStore_word _ _).memStore_word _ _

theorem qDrop (h : s.NetMoves w fs t) (hw : W_DMA ≠ w) {n : Nat} (hn : n < 64) (k : Nat) : s.NetMoves w fs (t.qDrop n k) := by
  have hdrop : DMA_QDROP + 4 * n < 0x4000 := by unfold DMA_QDROP; omega
  have hsts : DMA_QSTS + qOff n < 0x4000 := by unfold DMA_QSTS qOff; omega
  exact ((h.wrOther _ hw (by decide) hdrop).wrOther _ hw (by decide) hsts).raise (by unfold evNo; omega)

theorem qPush (h : s.NetMoves w fs t) (n : Nat) (e : BitVec 256) : s.NetMoves w fs (t.qPush n e) := (h.storeEntry _ _).modQueue _ _

theorem qPutBlock (h : s.NetMoves w fs t) (hw : W_DMA ≠ w) {n : Nat} (hn : n < 64) (e : BitVec 256) :
    s.NetMoves w fs (t.qPutBlock n e) := .ite (fun _ => h.qDrop hw hn _) fun _ => h.qPush _ _

variable (hsys : W_SYS ≠ w)

include hsys in
theorem eccCheck (h : s.NetMoves w fs t) (a : Nat) : s.NetMoves w fs (t.eccCheck a).2 := by
  unfold State.eccCheck
  split
  · exact h
  · exact h.fault _ _ _
  · exact ((((h.setEcc _).wrOther _ hsys (by decide) (by decide)).wrOther _ hsys (by decide) (by decide)).wrOther _ hsys
      (by decide) (by decide)).raise (by decide)

include hsys in
theorem memLoad (h : s.NetMoves w fs t) (a n : Nat) : s.NetMoves w fs (t.memLoad a n).2 := h.eccCheck hsys _

include hsys in
theorem memStore (h : s.NetMoves w fs t) (a n v : Nat) : s.NetMoves w fs (t.memStore a n v) := by
  have hcheck := h.eccCheck hsys (a / 8 * 8)
  exact .ite (fun _ => (h.setEcc _).setBytes _ _) fun _ => State.NetMoves.setBytes
    (.ite (fun _ => (hcheck.setEcc _).setBytes _ _) fun _ => hcheck) _ _

include hsys in
theorem memFill (h : s.NetMoves w fs t) (a : Nat) (bs : List Byte) : s.NetMoves w fs (t.memFill a bs) := by
  suffices hput : ∀ (m : Nat) (t : State) (a : Nat) (bs : List Byte), s.NetMoves w fs t → s.NetMoves w fs (State.memPut m t a bs) from
    hput _ _ _ _ h
  intro m
  induction m with
  | zero => exact fun _ _ _ h => h
  | succ m ih =>
    intro t a bs h
    cases bs with
    | nil => exact h
    | cons b bs => exact .ite (fun _ => ih _ _ _ (h.memStore hsys _ _ _)) fun _ => ih _ _ _ (h.memStore hsys _ _ _)

include hsys in
theorem wordsTake (h : s.NetMoves w fs t) (n a : Nat) : s.NetMoves w fs (State.wordsTake n t a).2 := by
  induction n generalizing t a with
  | zero => exact h
  | succ n ih => exact ih (h.memLoad hsys a 8) _

include hsys in
theorem memTake (h : s.NetMoves w fs t) (n a : Nat) : s.NetMoves w fs (State.memTake n t a).2 := by
  unfold State.memTake
  split
  · exact h
  · exact h.wordsTake hsys _ _

include hsys in
theorem loadEntry (h : s.NetMoves w fs t) (a : Nat) : s.NetMoves w fs (t.loadEntry a).2 := by
  unfold State.loadEntry
  dsimp only
  exact (((h.memLoad hsys _ _).memLoad hsys _ _).memLoad hsys _ _).memLoad hsys _ _

include hsys in
theorem qPop (h : s.NetMoves w fs t) (n : Nat) : s.NetMoves w fs (t.qPop n).2 := (h.loadEntry hsys _).modQueue _ _

include hsys in
/-- A frame fetched from its transmit buffer. -/
theorem txFrame (h : s.NetMoves w fs t) (n k : Nat) : s.NetMoves w fs (t.txFrame n k).2 := by
  unfold State.txFrame
  dsimp only
  exact (h.memLoad hsys _ 2).memTake hsys _ _

end

end State.NetMoves

end Sys2Proof.Machine

/-!
PROOF. The Ethernet ports and the frames of a PTP engine (R217 to R228).
-/

namespace Sys2Proof.Machine

/-- `t` comes of `s` by operations that leave the fields of window `w` beside those of `fs`, and the timebase but for the changes that
wait for it, and that take the record of PTP engine `n` to `x`. -/
structure State.PortMoves (s : State) (n w : Nat) (fs : List Fld) (x : PtpSt) (t : State) : Prop where
  win : s.WinMoves w fs t
  tb : ∃ l, t.tb = { s.tb with changes := l }
  safe : t.flt.st = s.flt.st
  out : s.out <+: t.out
  ptp : t.ptp n = x

section
variable {s t u : State} {w n : Nat} {fs : List Fld} {x : PtpSt}

theorem State.modPtp_ptp_same (h : s.Inv) (n : Port) (f : PtpSt → PtpSt) : (s.modPtp n f).ptp n = f (s.ptp n) := by
  obtain ⟨-, -, ⟨-, -, -, -, -, -, -, hptps, -⟩, -⟩ := h
  unfold State.ptp
  rw [State.modPtp_ptps, lget_lmod, if_pos ⟨rfl, hptps.symm ▸ n.isLt⟩]

namespace State.NetMoves

/-- A register of any window, named where it is the window's own. -/
theorem wrAny (h : s.NetMoves w fs t) {w' off : Nat} (v : Nat) (hf : w' = w → Fld.word off ∈ fs) (hevt : w' ≠ W_EVT)
    (ho : off < 0x4000) : s.NetMoves w fs (t.wr w' off v) := by
  by_cases hw : w' = w
  · exact hw ▸ h.wr v (hf hw) ho
  · exact h.wrOther v hw hevt ho

theorem emit (h : s.NetMoves w fs t) (o : Output) : s.NetMoves w fs (t.emit o) := ⟨h.win.emit _, h.net.emit _⟩

end State.NetMoves

namespace State.PortMoves

theorem refl (h : s.Inv) (hw : w < W_ENG ∧ w ≠ W_EVT) : s.PortMoves n w fs (s.ptp n) s :=
  ⟨.refl h hw, ⟨_, rfl⟩, rfl, List.prefix_rfl, rfl⟩

theorem trans {y : PtpSt} (h : s.PortMoves n w fs x t) (k : t.PortMoves n w fs y u) : s.PortMoves n w fs y u := by
  obtain ⟨l, hl⟩ := h.tb
  obtain ⟨m, hm⟩ := k.tb
  exact ⟨h.win.trans k.win, ⟨m, by rw [hm, hl]⟩, k.safe.trans h.safe, h.out.trans k.out, k.ptp⟩

theorem clock (h : s.PortMoves n w fs x t) : t.tb.c = s.tb.c ∧ t.tb.epoch = s.tb.epoch ∧ t.tb.steer = s.tb.steer := by
  obtain ⟨l, hl⟩ := h.tb
  rw [hl]
  exact ⟨rfl, rfl, rfl⟩

/-- The empty sequence of operations at the end. -/
theorem here (h : s.PortMoves n w fs x t) : t.NetMoves w fs t := .refl h.win.inv h.win.plain

/-- Operations beside the records of network time. -/
theorem net (h : s.PortMoves n w fs x t) (k : t.NetMoves w fs u) : s.PortMoves n w fs x u :=
  ⟨h.win.trans k.win, h.tb.imp fun _ hl => k.net.tb.trans hl, k.net.safe.trans h.safe, h.out.trans k.net.out, (k.net.ptp n).trans h.ptp⟩

theorem modPtp {n : Port} (h : s.PortMoves n w fs x t) (f : PtpSt → PtpSt) : s.PortMoves n w fs (f x) (t.modPtp n f) :=
  ⟨h.win.modPtp _ _, h.tb, h.safe, h.out, (State.modPtp_ptp_same h.win.inv n f).trans (congrArg f h.ptp)⟩

end State.PortMoves

/-! ### The windows -/

theorem wEth_plain (n : Port) : wEth n < W_ENG ∧ wEth n ≠ W_EVT := by revert n; decide
theorem wPtp_plain (n : Port) : wPtp n < W_ENG ∧ wPtp n ≠ W_EVT := by revert n; decide
theorem dma_plain : W_DMA < W_ENG ∧ W_DMA ≠ W_EVT := by decide
theorem wEth_ne_wPtp (m n : Port) : wEth m ≠ wPtp n := by revert m n; decide
theorem wEth_ne_dma (n : Port) : wEth n ≠ W_DMA := by revert n; decide
theorem wPtp_ne_dma (n : Port) : wPtp n ≠ W_DMA := by revert n; decide
theorem sys_ne_wEth (n : Port) : W_SYS ≠ wEth n := by revert n; decide
theorem sys_ne_wPtp (n : Port) : W_SYS ≠ wPtp n := by revert n; decide
theorem port_evNo_lt (n : Port) (b : Nat) (hb : b < 32) : evNo (10 + n) b < 512 := by unfold evNo; omega

/-! ### Codewords and buffers (R225, R247) -/

/-- The registers that the codewords of a frame concern. -/
def fecFlds : List Fld := [.word ETH_FECCOR, .word ETH_FECUNC, .word ETH_STS]

variable {n : Port}

theorem State.NetMoves.ethEvent (h : s.NetMoves w fs t) (hf : wEth n = w → .word ETH_STS ∈ fs) (bit : Nat) {b : Nat} (hb : b < 32) :
    s.NetMoves w fs (t.ethEvent n bit b) := (h.wrAny _ hf (wEth_plain n).2 (by decide)).raise (port_evNo_lt n b hb)

theorem State.NetMoves.ptpEvent (h : s.NetMoves w fs t) (hf : wPtp n = w → .word PTP_STS ∈ fs) (bit : Nat) {b : Nat} (hb : b < 32) :
    s.NetMoves w fs (t.ptpEvent n bit b) := (h.wrAny _ hf (wPtp_plain n).2 (by decide)).raise (port_evNo_lt n b hb)

theorem State.ethEvent_pending (h : s.Inv) (bit : Nat) {b : Nat} (hb : b < 32) :
    (s.ethEvent n bit b).evPending (evNo (10 + n) b) = true := State.raise_own_evPending (h.wr _ _ _) (port_evNo_lt n b hb)

theorem State.ptpEvent_pending (h : s.Inv) (bit : Nat) {b : Nat} (hb : b < 32) :
    (s.ptpEvent n bit b).evPending (evNo (10 + n) b) = true := State.raise_own_evPending (h.wr _ _ _) (port_evNo_lt n b hb)

/-- R247: the codewords counted, and perhaps the window that the event ETH_FEC opens. -/
theorem State.ethFecCount_cases (s : State) (n : Port) (cor unc : Nat) :
    let s1 := (s.count (wEth n) ETH_FECCOR cor).count (wEth n) ETH_FECUNC unc
    s.ethFecCount n cor unc = s1 ∨ s.ethFecCount n cor unc =
      (s1.modPtp n (fun x => { x with fecEnd := some (s1.after secU) })).ethEvent n 1 1 := ite_eq_or_eq ..

theorem State.ethFecCount_moves (h : s.Inv) (hw : w < W_ENG ∧ w ≠ W_EVT) (hf : wEth n = w → fecFlds ⊆ fs) (cor unc : Nat) :
    ∃ e, s.PortMoves n w fs { s.ptp n with fecEnd := e } (s.ethFecCount n cor unc) := by
  have hcor : wEth n = w → .word ETH_FECCOR ∈ fs := fun hn => hf hn (by decide)
  have hunc : wEth n = w → .word ETH_FECUNC ∈ fs := fun hn => hf hn (by decide)
  have hsts : wEth n = w → .word ETH_STS ∈ fs := fun hn => hf hn (by decide)
  have hcount : s.PortMoves n w fs (s.ptp n) ((s.count (wEth n) ETH_FECCOR cor).count (wEth n) ETH_FECUNC unc) :=
    (State.PortMoves.refl h hw).net (((State.NetMoves.refl h hw).wrAny _ hcor (wEth_plain n).2 (by decide)).wrAny _ hunc
      (wEth_plain n).2 (by decide))
  rcases s.ethFecCount_cases n cor unc with he | he
  · exact ⟨_, he ▸ hcount⟩
  · have hopen := hcount.modPtp fun x =>
      { x with fecEnd := some (((s.count (wEth n) ETH_FECCOR cor).count (wEth n) ETH_FECUNC unc).after secU) }
    exact ⟨_, he ▸ hopen.net (hopen.here.ethEvent hsts 1 (by decide))⟩

@[simp] theorem State.ethFecCount_mem (cor unc : Nat) : (s.ethFecCount n cor unc).mem = s.mem := by
  rcases s.ethFecCount_cases n cor unc with he | he
  · rw [he]
    rfl
  · rw [he]
    exact State.raise_mem _ _ _

@[simp] theorem State.ethFecCount_queues (cor unc : Nat) : (s.ethFecCount n cor unc).queues = s.queues := by
  rcases s.ethFecCount_cases n cor unc with he | he
  · rw [he]
    rfl
  · rw [he]
    exact State.raise_queues _ _ _

/-- A frame enters the next receive buffer. -/
theorem State.PortMoves.ptpStore (h : s.PortMoves n w fs x t) (hsys : W_SYS ≠ w) (f : List Byte) :
    s.PortMoves n w fs { x with rxIdx := (x.rxIdx + 1) % 64 } (t.ptpStore n f) :=
  (h.net (h.here.memFill hsys _ _)).modPtp fun x => { x with rxIdx := (x.rxIdx + 1) % 64 }

/-- A queue that a PTP engine is bound to. -/
theorem State.rxq_lt (p : Nat) : s.get p PTP_QCFG_RXQ < 64 := bitsOf_lt _ _ _
theorem State.txq_lt (p : Nat) : s.get p PTP_QCFG_TXQ < 64 := bitsOf_lt _ _ _

/-- A record goes to RXQ. -/
theorem State.PortMoves.ptpRecord (h : s.PortMoves n w fs x t) (hdma : W_DMA ≠ w) (hf : wPtp n = w → .word PTP_QDROP ∈ fs)
    (r : BitVec 256) : s.PortMoves n w fs x (t.ptpRecord n r) := by
  have hcount : t.NetMoves w fs (if ¬ t.qEnabled (t.get (wPtp n) PTP_QCFG_RXQ) ∨ t.qFull (t.get (wPtp n) PTP_QCFG_RXQ) then
      t.count (wPtp n) PTP_QDROP 1 else t) := .ite (fun _ => h.here.wrAny _ hf (wPtp_plain n).2 (by decide)) fun _ => h.here
  exact h.net ((hcount.setTev _).qPutBlock hdma (State.rxq_lt _) r)

/-! ### A record at its queue (R225, R337) -/

theorem Fld.clearOf_nil {g : Fld} (ho : g.off < 0x4000) (hw : 0 < g.width) (h32 : g.lsb + g.width ≤ 32) : g.clearOf [] = true :=
  (Fld.clearOf_iff g []).mpr ⟨⟨ho, hw, h32⟩, nofun⟩

theorem State.WinMoves.qGet (h : s.WinMoves W_DMA [] t) {q : Nat} (hlt : q < 64) {f : Fld} (ho : f.off < 0x3000) (hw : 0 < f.width)
    (h32 : f.lsb + f.width ≤ 32) : t.qGet q f = s.qGet q f :=
  h.get _ (Fld.clearOf_nil (show f.off + qOff q < 0x4000 by unfold qOff; omega) hw h32)

/-- What a queue takes depends on its registers and its record. -/
theorem State.WinMoves.qTakes (h : s.WinMoves W_DMA [] t) (hq : t.queues = s.queues) {q : Nat} (hlt : q < 64) :
    t.qEnabled q = s.qEnabled q ∧ t.qFull q = s.qFull q := by
  unfold State.qEnabled State.qFull State.qSlots State.queue
  rw [h.qGet (f := DMA_QCTL_ENABLE) hlt (by decide) (by decide) (by decide),
    h.qGet (f := DMA_QCFG_DEPTH) hlt (by decide) (by decide) (by decide), hq]
  exact ⟨rfl, rfl⟩

/-- The queue of received frames refuses an entry. -/
def State.rxqRefuses (s : State) (n : Port) : Prop :=
  s.qEnabled (s.get (wPtp n) PTP_QCFG_RXQ) = false ∨ s.qFull (s.get (wPtp n) PTP_QCFG_RXQ) = true

/-- A record that finds its queue full, or not enabled, is counted (R225). -/
theorem State.ptpRecord_refused (h : s.Inv) (hq : s.rxqRefuses n) (r : BitVec 256) :
    (s.ptpRecord n r).rn (wPtp n) PTP_QDROP = (s.rn (wPtp n) PTP_QDROP + 1) % 2 ^ 32 ∧ (s.ptpRecord n r).mem = s.mem := by
  let u := (s.count (wPtp n) PTP_QDROP 1).setTev { s.tev with lastRecord := s.tb.c }
  let q := s.get (wPtp n) PTP_QCFG_RXQ
  have hq64 : q < 64 := State.rxq_lt _
  have hdma : s.NetMoves W_DMA [] u := ((State.NetMoves.refl h dma_plain).wrOther _ (wPtp_ne_dma n) (wPtp_plain n).2 (by decide)).setTev _
  obtain ⟨henabled, hfull⟩ := hdma.win.qTakes rfl hq64
  have hnot : ¬ s.qEnabled q ∨ s.qFull q := hq.imp (fun h => by rw [h]; exact Bool.false_ne_true) id
  have heq : s.ptpRecord n r = u.qDrop q 1 := by
    unfold State.ptpRecord
    dsimp only
    rw [if_pos hnot]
    exact if_pos (show ¬ u.qEnabled q ∨ u.qFull q by rwa [henabled, hfull])
  have hdrop : u.NetMoves (wPtp n) [] (u.qDrop q 1) :=
    (State.NetMoves.refl hdma.win.inv (wPtp_plain n)).qDrop (wPtp_ne_dma n).symm hq64 1
  rw [heq, hdrop.win.rn _ (by decide), State.qDrop_mem]
  exact ⟨State.rn_count_same _ h.canon _ _ _, rfl⟩

theorem State.ptpRecord_taken (hq : ¬ s.rxqRefuses n) (r : BitVec 256) : s.ptpRecord n r =
    (s.setTev { s.tev with lastRecord := s.tb.c }).qPush (s.get (wPtp n) PTP_QCFG_RXQ) r := by
  have hnot : ¬ (¬ s.qEnabled (s.get (wPtp n) PTP_QCFG_RXQ) ∨ s.qFull (s.get (wPtp n) PTP_QCFG_RXQ)) :=
    fun h => hq (h.imp (fun h => by simpa using h) id)
  unfold State.ptpRecord State.qPutBlock
  dsimp only
  rw [if_neg hnot]
  exact if_neg hnot

/-- A frame stored in its buffer, with its record. -/
def State.ptpTaken (s : State) (n : Port) (f : List Byte) (r : BitVec 256) : State := (s.ptpStore n f).ptpRecord n r

theorem State.PortMoves.ptpTaken (h : s.PortMoves n w fs x t) (hdma : W_DMA ≠ w) (hsys : W_SYS ≠ w)
    (hf : wPtp n = w → .word PTP_QDROP ∈ fs) (f : List Byte) (r : BitVec 256) :
    s.PortMoves n w fs { x with rxIdx := (x.rxIdx + 1) % 64 } (t.ptpTaken n f r) := (h.ptpStore hsys f).ptpRecord hdma hf r

/-- The buffer area begins at a word. -/
theorem State.ptpBuf_aligned (k : Nat) : (s.ptpBuf n + 256 * k) % 8 = 0 := by
  unfold State.ptpBuf SRAM
  omega

/-- Storing a frame changes nothing of what the queue of received frames takes. -/
theorem State.ptpStore_rxq (h : s.Inv) (f : List Byte) : (s.ptpStore n f).get (wPtp n) PTP_QCFG_RXQ = s.get (wPtp n) PTP_QCFG_RXQ ∧
    ((s.ptpStore n f).rxqRefuses n ↔ s.rxqRefuses n) ∧ (s.ptpStore n f).queues = s.queues := by
  have hqueues : (s.ptpStore n f).queues = s.queues := State.memFill_queues _ _
  have hget := ((State.PortMoves.refl (n := n) (fs := []) h (wPtp_plain n)).ptpStore (sys_ne_wPtp n) f).win.get PTP_QCFG_RXQ (by decide)
  have hdma := ((State.PortMoves.refl (n := n) (fs := []) h dma_plain).ptpStore (by decide) f).win
  obtain ⟨henabled, hfull⟩ := hdma.qTakes hqueues (State.rxq_lt (s := s) (wPtp n))
  refine ⟨hget, ?_, hqueues⟩
  unfold State.rxqRefuses
  rw [hget, henabled, hfull]

/-- A record that finds its queue full, or not enabled, is counted; the frame is in its buffer. -/
theorem State.ptpTaken_refused (h : s.Inv) (hq : s.rxqRefuses n) (f : List Byte) (r : BitVec 256) :
    (s.ptpTaken n f r).rn (wPtp n) PTP_QDROP = (s.rn (wPtp n) PTP_QDROP + 1) % 2 ^ 32 ∧
      (s.ptpTaken n f r).bytes (s.ptpBuf n + 256 * (s.ptp n).rxIdx) (2 + f.length) = leBytes 2 f.length ++ f := by
  obtain ⟨-, hrefuses, -⟩ := State.ptpStore_rxq (n := n) h f
  have hstore := (State.PortMoves.refl (n := n) (fs := []) h (wPtp_plain n)).ptpStore (sys_ne_wPtp n) f
  unfold State.ptpTaken
  obtain ⟨hcount, hmem⟩ := State.ptpRecord_refused hstore.win.inv (hrefuses.mpr hq) r
  rw [State.bytes_of_mem hmem, hcount, hstore.win.rn _ (by decide)]
  have hlen : (leBytes 2 f.length ++ f).length = 2 + f.length := List.length_append
  exact ⟨rfl, hlen ▸ State.memFill_bytes h (State.ptpBuf_aligned _) _⟩

/-- A record that its queue takes. -/
theorem State.ptpTaken_fill (h : s.Inv) (hq : ¬ s.rxqRefuses n) (f : List Byte) (r : BitVec 256) :
    ((s.ptpTaken n f r).queue (s.get (wPtp n) PTP_QCFG_RXQ)).fill = (s.queue (s.get (wPtp n) PTP_QCFG_RXQ)).fill + 1 := by
  obtain ⟨hget, hrefuses, hqueues⟩ := State.ptpStore_rxq (n := n) h f
  have hstore := (State.PortMoves.refl (n := n) (fs := []) h (wPtp_plain n)).ptpStore (sys_ne_wPtp n) f
  have hqueue (q : Nat) : (s.ptpStore n f).queue q = s.queue q := congrArg (lget _ · q) hqueues
  unfold State.ptpTaken
  rw [State.ptpRecord_taken (hrefuses.not.mpr hq), hget, ← hqueue]
  exact State.qPush_fill (hstore.here.setTev _).win.inv (State.rxq_lt _) r

/-! ### A frame received (R218, R225, R228) -/

/-- R228: an event message beyond 128 in the window. -/
theorem State.ptpRx_over {f : List Byte} {h : Nat} (hev : isEventMsg f h = true) (hrate : 128 ≤ (s.ptp n).rxEv) (time : Nat) :
    s.ptpRx n h f time = (s.count (wPtp n) PTP_RATECNT 1).ptpEvent n 6 14 := if_pos ⟨hev, hrate⟩

/-- An event message counted, the instant of the latest Sync noted. -/
def State.eventTaken (s : State) (n : Port) (noted : Option Nat → Option Nat) : State :=
  (s.count (wPtp n) PTP_RXEVCNT 1).modPtp n (fun x => { x with rxEv := x.rxEv + 1, syncAt := noted x.syncAt })

/-- R225: a PTP frame within the rate: stored, a message of event kind counted, and the event. -/
theorem State.ptpRx_within {f : List Byte} {h : Nat} (hrate : isEventMsg f h = false ∨ (s.ptp n).rxEv < 128) (time : Nat) :
    ∃ r noted, s.ptpRx n h f time =
      (if isEventMsg f h then (s.ptpTaken n f r).eventTaken n noted else s.ptpTaken n f r).ptpEvent n 0 8 := by
  have hnot : ¬ (isEventMsg f h = true ∧ 128 ≤ (s.ptp n).rxEv) := fun ⟨hev, hover⟩ => by
    rcases hrate with hno | hlt
    · exact Bool.false_ne_true (hno.symm.trans hev)
    · omega
  unfold State.ptpRx
  dsimp only
  rw [if_neg hnot]
  exact ⟨_, fun old => if byteAt f h % 16 == 0 then some s.tb.c else old, rfl⟩

theorem State.PortMoves.eventTaken (h : s.PortMoves n w fs x t) (hf : wPtp n = w → .word PTP_RXEVCNT ∈ fs)
    (noted : Option Nat → Option Nat) :
    s.PortMoves n w fs { x with rxEv := x.rxEv + 1, syncAt := noted x.syncAt } (t.eventTaken n noted) :=
  (h.net (h.here.wrAny _ hf (wPtp_plain n).2 (by decide))).modPtp fun x => { x with rxEv := x.rxEv + 1, syncAt := noted x.syncAt }

theorem State.esmcRx_taken (f : List Byte) (time : Nat) : ∃ r, s.esmcRx n f time = s.ptpTaken n f r := ⟨_, rfl⟩

/-- The classes of the frames that a port terminates. -/
def State.terminates (s : State) (n : Port) (f : List Byte) (h : Nat) (udp : Bool) : Prop :=
  s.classify n f = .ptp h udp ∨ s.classify n f = .esmc

/-- A terminated frame that is broken or too long. -/
theorem State.ethRx_bad {f : List Byte} {h : Nat} {udp fcs : Bool} (hc : s.terminates n f h udp) (hbad : fcs = false ∨ 254 < f.length)
    (time : Nat) : s.ethRx n f fcs time = (s.count (wEth n) ETH_DROPCNT 1).ethEvent n 2 2 := by
  have hbad' : ¬ fcs ∨ 254 < f.length := hbad.imp (by rintro rfl; exact Bool.false_ne_true) id
  unfold State.ethRx
  rcases hc with hc | hc
  · rw [hc]
    exact if_pos hbad'
  · rw [hc]
    exact if_pos hbad'

theorem State.ethRx_good {f : List Byte} {fcs : Bool} (hgood : ¬ (fcs = false ∨ 254 < f.length)) (time : Nat) :
    (∀ h udp, s.classify n f = .ptp h udp → s.ethRx n f fcs time = if (s.count (wEth n) ETH_RXCNT 1).ptpOn n then
      (s.count (wEth n) ETH_RXCNT 1).ptpRx n h f time else s.count (wEth n) ETH_RXCNT 1) ∧
    (s.classify n f = .esmc → s.ethRx n f fcs time = if (s.count (wEth n) ETH_RXCNT 1).ptpOn n then
      (s.count (wEth n) ETH_RXCNT 1).esmcRx n f time else s.count (wEth n) ETH_RXCNT 1) := by
  have hgood' : ¬ (¬ fcs ∨ 254 < f.length) := fun h => hgood (h.imp (fun h => by simpa using h) id)
  unfold State.ethRx
  constructor
  · intro h udp hc
    rw [hc]
    exact if_neg hgood'
  · intro hc
    rw [hc]
    exact if_neg hgood'

theorem State.ethRx_other {f : List Byte} (hc : s.classify n f = .other) (fcs : Bool) (time : Nat) :
    s.ethRx n f fcs time = s.ethOther n f := by
  unfold State.ethRx
  rw [hc]

/-- The class of a frame depends on the port's addresses and tag. -/
theorem State.WinMoves.classify (h : s.WinMoves (wEth n) fecFlds t) (f : List Byte) : t.classify n f = s.classify n f := by
  have hmac (d : Nat) : t.ptpMac n d = s.ptpMac n d := by
    unfold State.ptpMac
    rw [h.rn ETH_MAC_LO (by decide), h.get ETH_MAC_HI_V (by decide)]
  have hip6 : t.ip6 n = s.ip6 n := by
    unfold State.ip6
    rw [h.rn ETH_IP6_W0 (by decide), h.rn ETH_IP6_W1 (by decide), h.rn ETH_IP6_W2 (by decide), h.rn ETH_IP6_W3 (by decide)]
  unfold State.classify
  rw [h.flag ETH_VLAN_VLANEN (by decide), h.get ETH_VLAN_VID (by decide), h.rn ETH_IP4 (by decide), hip6]
  simp only [hmac]

end

end Sys2Proof.Machine

/-!
PROOF. A frame received, from the codewords to the record (R218, R225, R228, R247).
-/

namespace Sys2Proof.Machine

section
variable {s t : State} {w : Nat} {fs : List Fld} {x : PtpSt} {n : Port} {f : List Byte} {h : Nat} {udp fcs : Bool}

/-! ### After the buffer -/

/-- A PTP frame that is in its buffer: an event message is counted, and the event is raised. -/
def State.rxFinish (s : State) (n : Port) (event : Bool) (noted : Option Nat → Option Nat) : State :=
  (if event then s.eventTaken n noted else s).ptpEvent n 0 8

/-- The registers of an engine that this concerns. -/
def rxFinishFlds : List Fld := [.word PTP_RXEVCNT, .word PTP_STS]

theorem State.ptpRx_eq (hrate : isEventMsg f h = false ∨ (s.ptp n).rxEv < 128) (time : Nat) :
    ∃ r noted, s.ptpRx n h f time = (s.ptpTaken n f r).rxFinish n (isEventMsg f h) noted := State.ptpRx_within hrate time

theorem State.rxFinish_moves (hs : s.Inv) (hw : w < W_ENG ∧ w ≠ W_EVT) (hf : wPtp n = w → rxFinishFlds ⊆ fs) (event : Bool)
    (noted : Option Nat → Option Nat) : ∃ y, s.PortMoves n w fs y (s.rxFinish n event noted) ∧ y.rxIdx = (s.ptp n).rxIdx ∧
      (event = true → y.rxEv = (s.ptp n).rxEv + 1) := by
  have hstart : s.PortMoves n w fs (s.ptp n) s := .refl hs hw
  have hraised {x : PtpSt} {u : State} (hu : s.PortMoves n w fs x u) : s.PortMoves n w fs x (u.ptpEvent n 0 8) :=
    hu.net (hu.here.ptpEvent (fun he => hf he (by decide)) 0 (by decide))
  cases event with
  | false => exact ⟨_, hraised hstart, rfl, nofun⟩
  | true => exact ⟨_, hraised (hstart.eventTaken (fun he => hf he (by decide)) noted), rfl, fun _ => rfl⟩

theorem State.rxFinish_mem (event : Bool) (noted : Option Nat → Option Nat) : (s.rxFinish n event noted).mem = s.mem := by
  refine (State.raise_mem _ _ _).trans ?_
  cases event with
  | false => rfl
  | true => rfl

theorem State.rxFinish_queues (event : Bool) (noted : Option Nat → Option Nat) : (s.rxFinish n event noted).queues = s.queues := by
  refine (State.raise_queues _ _ _).trans ?_
  cases event with
  | false => rfl
  | true => rfl

theorem State.rxFinish_event (hs : s.Inv) (event : Bool) (noted : Option Nat → Option Nat) :
    (s.rxFinish n event noted).evPending (evNo (10 + n) 8) = true := by
  cases event with
  | false => exact State.ptpEvent_pending hs _ (by decide)
  | true => exact State.ptpEvent_pending ((State.PortMoves.refl (n := n) (fs := rxFinishFlds) hs (wPtp_plain n)).eventTaken
      (fun _ => by decide) noted).win.inv _ (by decide)

theorem State.rxFinish_counts (hs : s.Inv) (noted : Option Nat → Option Nat) :
    (s.rxFinish n true noted).rn (wPtp n) PTP_RXEVCNT = (s.rn (wPtp n) PTP_RXEVCNT + 1) % 2 ^ 32 := by
  have hinv := ((State.PortMoves.refl (n := n) (fs := rxFinishFlds) hs (wPtp_plain n)).eventTaken (fun _ => by decide) noted).win.inv
  have hraised := (State.NetMoves.refl (fs := [.word PTP_STS]) hinv (wPtp_plain n)).ptpEvent (n := n) (b := 8) (fun _ => by decide) 0
    (by decide)
  exact (hraised.win.rn _ (by decide)).trans (State.rn_count_same _ hs.canon _ _ _)

/-! ### Frames over all classes (R218) -/

theorem State.ethOther_moves (hs : s.Inv) (hw : w < W_ENG ∧ w ≠ W_EVT)
    (hf : wEth n = w → Fld.word ETH_FWDCNT ∈ fs ∧ Fld.word ETH_DROPCNT ∈ fs) : s.NetMoves w fs (s.ethOther n f) := by
  have hcounted : s.NetMoves w fs (s.count (wEth n) ETH_FWDCNT 1) :=
    (State.NetMoves.refl hs hw).wrAny _ (fun he => (hf he).1) (wEth_plain n).2 (by decide)
  exact .ite (fun _ => hcounted.emit _) fun _ => (State.NetMoves.refl hs hw).wrAny _ (fun he => (hf he).2) (wEth_plain n).2 (by decide)

/-- The registers of a port that a frame concerns beside the codewords. -/
def ethRxFlds : List Fld := [.word ETH_STS, .word ETH_RXCNT, .word ETH_DROPCNT, .word ETH_FWDCNT]

/-- A frame that is taken leaves the port's registers. -/
theorem State.ptpRx_ethWin (hs : s.Inv) (h : Nat) (time : Nat) : s.WinMoves (wEth n) fs (s.ptpRx n h f time) := by
  have hne : wPtp n ≠ wEth n := (wEth_ne_wPtp n n).symm
  have hstart := State.NetMoves.refl (fs := fs) hs (wEth_plain n)
  by_cases hover : isEventMsg f h = true ∧ 128 ≤ (s.ptp n).rxEv
  · rw [State.ptpRx_over hover.1 hover.2]
    exact ((hstart.wrAny _ (fun he => absurd he hne) (wPtp_plain n).2 (by decide)).ptpEvent (fun he => absurd he hne) 6 (by decide)).win
  · have hrate : isEventMsg f h = false ∨ (s.ptp n).rxEv < 128 := by
      rcases Bool.eq_false_or_eq_true (isEventMsg f h) with hev | hev
      · exact .inr (Nat.lt_of_not_le fun hle => hover ⟨hev, hle⟩)
      · exact .inl hev
    obtain ⟨r, noted, heq⟩ := State.ptpRx_eq hrate time
    have htaken := (State.PortMoves.refl (n := n) (fs := fs) hs (wEth_plain n)).ptpTaken (wEth_ne_dma n).symm (sys_ne_wEth n)
      (fun he => absurd he hne) f r
    obtain ⟨y, hfinish, -⟩ := State.rxFinish_moves (n := n) htaken.win.inv (wEth_plain n) (fun he => absurd he hne) (isEventMsg f h) noted
    exact heq ▸ htaken.win.trans hfinish.win

theorem State.esmcRx_ethWin (hs : s.Inv) (time : Nat) : s.WinMoves (wEth n) fs (s.esmcRx n f time) := by
  obtain ⟨r, heq⟩ := s.esmcRx_taken (n := n) f time
  exact heq ▸ ((State.PortMoves.refl hs (wEth_plain n)).ptpTaken (wEth_ne_dma n).symm (sys_ne_wEth n)
    (fun he => absurd he (wEth_ne_wPtp n n).symm) f r).win

theorem State.ethRx_win (hs : s.Inv) (time : Nat) : s.WinMoves (wEth n) ethRxFlds (s.ethRx n f fcs time) := by
  have hstart := State.NetMoves.refl (fs := ethRxFlds) hs (wEth_plain n)
  have hcounted := (hstart.count (off := ETH_RXCNT) 1 (by decide) (by decide)).win
  by_cases hbad : fcs = false ∨ 254 < f.length
  · have hdropped := ((hstart.count (off := ETH_DROPCNT) 1 (by decide) (by decide)).ethEvent (n := n) (b := 2) (fun _ => by decide) 2
      (by decide)).win
    cases hc : s.classify n f with
    | ptp h udp => exact State.ethRx_bad (.inl hc) hbad time ▸ hdropped
    | esmc => exact State.ethRx_bad (h := 0) (udp := false) (.inr hc) hbad time ▸ hdropped
    | other => exact State.ethRx_other hc fcs time ▸ (State.ethOther_moves hs (wEth_plain n) fun _ => by decide).win
  · obtain ⟨hptp, hesmc⟩ := State.ethRx_good (s := s) (n := n) hbad time
    cases hc : s.classify n f with
    | ptp h udp => exact hptp h udp hc ▸ .ite (fun _ => hcounted.trans (State.ptpRx_ethWin hcounted.inv h time)) fun _ => hcounted
    | esmc => exact hesmc hc ▸ .ite (fun _ => hcounted.trans (State.esmcRx_ethWin hcounted.inv time)) fun _ => hcounted
    | other => exact State.ethRx_other hc fcs time ▸ (State.ethOther_moves hs (wEth_plain n) fun _ => by decide).win

/-! ### The command ETH_FRAME_RX -/

/-- The port is up. -/
def State.portLive (s : State) (n : Port) : Prop := s.ethOn n = true ∧ s.ethLink n = true

theorem exec_ethFrameRx (hlive : s.portLive n) (f : List Byte) (fcs : Bool) (time cor unc : Nat) :
    exec (.ethFrameRx n f fcs time cor unc) s = .next ((s.ethFecCount n cor unc).ethRx n f fcs time) :=
  congrArg Host.Outcome.next (if_pos hlive)

theorem ethFrameRx_dead (hlive : ¬ s.portLive n) (f : List Byte) (fcs : Bool) (time cor unc : Nat) :
    s.To (.ethFrameRx n f fcs time cor unc) (· = s) := ⟨s, congrArg Host.Outcome.next (if_neg hlive), rfl⟩

/-- The codewords counted, whatever the frame (R247). -/
theorem ethFrameRx_codewords (hs : s.Ready) (hlive : s.portLive n) (time cor unc : Nat) :
    s.To (.ethFrameRx n f fcs time cor unc) fun t => t.rn (wEth n) ETH_FECCOR = (s.rn (wEth n) ETH_FECCOR + cor) % 2 ^ 32 ∧
      t.rn (wEth n) ETH_FECUNC = (s.rn (wEth n) ETH_FECUNC + unc) % 2 ^ 32 := by
  let s1 := (s.count (wEth n) ETH_FECCOR cor).count (wEth n) ETH_FECUNC unc
  have hcor := (State.NetMoves.refl (fs := [.word ETH_FECCOR]) hs.1 (wEth_plain n)).count (off := ETH_FECCOR) cor (by decide) (by decide)
  have hunc := (State.NetMoves.refl (fs := [.word ETH_FECUNC]) hcor.win.inv (wEth_plain n)).count (off := ETH_FECUNC) unc (by decide)
    (by decide)
  have hfec : s1.WinMoves (wEth n) [.word ETH_STS] (s.ethFecCount n cor unc) := by
    have hstart := State.PortMoves.refl (n := n) (fs := [.word ETH_STS]) hunc.win.inv (wEth_plain n)
    rcases s.ethFecCount_cases n cor unc with he | he
    · exact he ▸ hstart.win
    · have hopen := hstart.modPtp fun x => { x with fecEnd := some (s1.after secU) }
      exact he ▸ (hopen.net (hopen.here.ethEvent (fun _ => by decide) 1 (by decide))).win
  have hrx := State.ethRx_win (n := n) (f := f) (fcs := fcs) hfec.inv time
  refine ⟨_, exec_ethFrameRx hlive f fcs time cor unc, ?_, ?_⟩
  · rw [hrx.rn _ (by decide), hfec.rn _ (by decide), hunc.win.rn _ (by decide)]
    exact State.rn_count_same _ hs.1.canon _ _ _
  · rw [hrx.rn _ (by decide), hfec.rn _ (by decide), State.rn_count_same _ hcor.win.inv.canon, hcor.win.rn _ (by decide)]

/-- A terminated frame that is broken or too long is counted and dropped. -/
theorem ethFrameRx_bad (hs : s.Ready) (hlive : s.portLive n) (hc : s.terminates n f h udp) (hbad : fcs = false ∨ 254 < f.length)
    (time cor unc : Nat) : s.To (.ethFrameRx n f fcs time cor unc) fun t =>
      t.rn (wEth n) ETH_DROPCNT = (s.rn (wEth n) ETH_DROPCNT + 1) % 2 ^ 32 ∧ t.rn (wEth n) ETH_RXCNT = s.rn (wEth n) ETH_RXCNT ∧
      t.evPending (evNo (10 + n) 2) = true ∧ t.mem = s.mem ∧ (t.ptp n).rxIdx = (s.ptp n).rxIdx := by
  obtain ⟨e, hfec⟩ := State.ethFecCount_moves (n := n) (fs := fecFlds) hs.1 (wEth_plain n) (fun _ => List.Subset.refl _) cor unc
  let t0 := s.ethFecCount n cor unc
  have hc0 : t0.terminates n f h udp := by
    unfold State.terminates
    rwa [hfec.win.classify]
  have hcount := (State.NetMoves.refl (fs := [.word ETH_DROPCNT]) hfec.win.inv (wEth_plain n)).count (off := ETH_DROPCNT) 1 (by decide)
    (by decide)
  have hev := (State.NetMoves.refl (fs := [.word ETH_STS]) hcount.win.inv (wEth_plain n)).ethEvent (n := n) (b := 2)
    (fun _ => by decide) 2 (by decide)
  refine ⟨_, State.ethRx_bad hc0 hbad time ▸ exec_ethFrameRx hlive f fcs time cor unc, ?_, ?_, ?_, ?_, ?_⟩
  · rw [hev.win.rn _ (by decide), State.rn_count_same _ hfec.win.inv.canon, hfec.win.rn _ (by decide)]
  · rw [hev.win.rn _ (by decide), hcount.win.rn _ (by decide), hfec.win.rn _ (by decide)]
  · exact State.ethEvent_pending hcount.win.inv 2 (by decide)
  · exact (State.raise_mem _ _ _).trans (State.ethFecCount_mem _ _)
  · rw [hev.net.ptp, hcount.net.ptp, hfec.ptp]

/-- The state in which a good frame is taken: the codewords and the frame counted. -/
def State.rxCounted (s : State) (n : Port) (cor unc : Nat) : State := (s.ethFecCount n cor unc).count (wEth n) ETH_RXCNT 1

theorem State.rxCounted_moves (hs : s.Inv) (hw : w < W_ENG ∧ w ≠ W_EVT) (hf : wEth n = w → fecFlds ⊆ fs ∧ Fld.word ETH_RXCNT ∈ fs)
    (cor unc : Nat) : ∃ e, s.PortMoves n w fs { s.ptp n with fecEnd := e } (s.rxCounted n cor unc) := by
  obtain ⟨e, hfec⟩ := State.ethFecCount_moves (n := n) hs hw (fun he => (hf he).1) cor unc
  exact ⟨e, hfec.net (hfec.here.wrAny _ (fun he => (hf he).2) (wEth_plain n).2 (by decide))⟩

theorem State.rxCounted_apart (hs : s.Inv) (hw : w < W_ENG ∧ w ≠ W_EVT) (hne : wEth n ≠ w) (cor unc : Nat) :
    ∃ e, s.PortMoves n w [] { s.ptp n with fecEnd := e } (s.rxCounted n cor unc) :=
  State.rxCounted_moves hs hw (fun he => absurd he hne) cor unc

theorem State.rxCounted_mem (cor unc : Nat) : (s.rxCounted n cor unc).mem = s.mem := State.ethFecCount_mem cor unc
theorem State.rxCounted_queues (cor unc : Nat) : (s.rxCounted n cor unc).queues = s.queues := State.ethFecCount_queues cor unc

theorem State.rxCounted_counts (hs : s.Inv) (cor unc : Nat) :
    (s.rxCounted n cor unc).rn (wEth n) ETH_RXCNT = (s.rn (wEth n) ETH_RXCNT + 1) % 2 ^ 32 ∧
      (s.rxCounted n cor unc).rn (wEth n) ETH_DROPCNT = s.rn (wEth n) ETH_DROPCNT := by
  obtain ⟨e, hfec⟩ := State.ethFecCount_moves (n := n) (fs := fecFlds) hs (wEth_plain n) (fun _ => List.Subset.refl _) cor unc
  obtain ⟨e', hall⟩ := State.rxCounted_moves (n := n) (fs := .word ETH_RXCNT :: fecFlds) hs (wEth_plain n) (fun _ => by decide) cor unc
  refine ⟨?_, hall.win.rn _ (by decide)⟩
  unfold State.rxCounted
  rw [State.rn_count_same _ hfec.win.inv.canon, hfec.win.rn _ (by decide)]

theorem State.rxCounted_ptpOn (hs : s.Inv) (cor unc : Nat) : (s.rxCounted n cor unc).ptpOn n = s.ptpOn n := by
  obtain ⟨e, hptp⟩ := State.rxCounted_apart (n := n) hs (wPtp_plain n) (wEth_ne_wPtp n n) cor unc
  exact hptp.win.flag _ (by decide)

/-- A good frame of a class that the port terminates. -/
theorem exec_ethFrameRx_good (hs : s.Ready) (hlive : s.portLive n) (hgood : ¬ (fcs = false ∨ 254 < f.length)) (time cor unc : Nat) :
    (s.classify n f = .ptp h udp → exec (.ethFrameRx n f fcs time cor unc) s = .next (if s.ptpOn n then
      (s.rxCounted n cor unc).ptpRx n h f time else s.rxCounted n cor unc)) ∧
    (s.classify n f = .esmc → exec (.ethFrameRx n f fcs time cor unc) s = .next (if s.ptpOn n then
      (s.rxCounted n cor unc).esmcRx n f time else s.rxCounted n cor unc)) := by
  obtain ⟨e, hfec⟩ := State.ethFecCount_moves (n := n) (fs := fecFlds) hs.1 (wEth_plain n) (fun _ => List.Subset.refl _) cor unc
  obtain ⟨hptp, hesmc⟩ := State.ethRx_good (s := s.ethFecCount n cor unc) (n := n) hgood time
  have hon := State.rxCounted_ptpOn (n := n) hs.1 cor unc
  rw [exec_ethFrameRx hlive, ← hon]
  exact ⟨fun hc => congrArg _ (hptp h udp ((hfec.win.classify f).trans hc)), fun hc => congrArg _ (hesmc ((hfec.win.classify f).trans hc))⟩

theorem exec_ethFrameRx_off (hs : s.Ready) (hlive : s.portLive n) (hc : s.terminates n f h udp)
    (hgood : ¬ (fcs = false ∨ 254 < f.length)) (hon : s.ptpOn n = false) (time cor unc : Nat) :
    exec (.ethFrameRx n f fcs time cor unc) s = .next (s.rxCounted n cor unc) := by
  obtain ⟨hptp, hesmc⟩ := exec_ethFrameRx_good (h := h) (udp := udp) hs hlive hgood time cor unc
  rw [if_neg (by simp [hon])] at hptp hesmc
  exact hc.elim hptp hesmc

/-- A good frame with PTP on: the message within the rate, the message beyond it, or an ESMC frame. -/
theorem exec_ethFrameRx_on (hs : s.Ready) (hlive : s.portLive n) (hgood : ¬ (fcs = false ∨ 254 < f.length)) (hon : s.ptpOn n = true)
    (time cor unc : Nat) :
    (s.classify n f = .ptp h udp → exec (.ethFrameRx n f fcs time cor unc) s = .next ((s.rxCounted n cor unc).ptpRx n h f time)) ∧
    (s.classify n f = .esmc → ∃ r, exec (.ethFrameRx n f fcs time cor unc) s = .next ((s.rxCounted n cor unc).ptpTaken n f r)) := by
  obtain ⟨hptp, hesmc⟩ := exec_ethFrameRx_good (h := h) (udp := udp) hs hlive hgood time cor unc
  rw [if_pos hon] at hptp hesmc
  obtain ⟨r, he⟩ := (s.rxCounted n cor unc).esmcRx_taken (n := n) f time
  exact ⟨hptp, fun hc => ⟨r, he ▸ hesmc hc⟩⟩

/-- A good frame is counted; with PTP off it is not stored. -/
theorem ethFrameRx_good (hs : s.Ready) (hlive : s.portLive n) (hc : s.terminates n f h udp) (hgood : ¬ (fcs = false ∨ 254 < f.length))
    (time cor unc : Nat) : s.To (.ethFrameRx n f fcs time cor unc) fun t =>
      t.rn (wEth n) ETH_RXCNT = (s.rn (wEth n) ETH_RXCNT + 1) % 2 ^ 32 ∧ t.rn (wEth n) ETH_DROPCNT = s.rn (wEth n) ETH_DROPCNT ∧
      (s.ptpOn n = false → t.mem = s.mem ∧ (t.ptp n).rxIdx = (s.ptp n).rxIdx) := by
  obtain ⟨e, hown⟩ := State.rxCounted_apart (n := n) hs.1 (wPtp_plain n) (wEth_ne_wPtp n n) cor unc
  obtain ⟨hcount, hdrop⟩ := State.rxCounted_counts (n := n) hs.1 cor unc
  cases hon : s.ptpOn n with
  | false =>
    exact ⟨_, exec_ethFrameRx_off hs hlive hc hgood hon time cor unc, hcount, hdrop, fun _ => ⟨State.rxCounted_mem cor unc,
      by rw [hown.ptp]⟩⟩
  | true =>
    have hafter {t : State} (he : exec (.ethFrameRx n f fcs time cor unc) s = .next t)
        (ht : (s.rxCounted n cor unc).WinMoves (wEth n) [] t) : s.To (.ethFrameRx n f fcs time cor unc) fun t =>
        t.rn (wEth n) ETH_RXCNT = (s.rn (wEth n) ETH_RXCNT + 1) % 2 ^ 32 ∧ t.rn (wEth n) ETH_DROPCNT = s.rn (wEth n) ETH_DROPCNT ∧
        (true = false → t.mem = s.mem ∧ (t.ptp n).rxIdx = (s.ptp n).rxIdx) :=
      ⟨t, he, (ht.rn _ (by decide)).trans hcount, (ht.rn _ (by decide)).trans hdrop, nofun⟩
    obtain ⟨hptp, hesmc⟩ := exec_ethFrameRx_on (h := h) (udp := udp) hs hlive hgood hon time cor unc
    rcases hc with hc | hc
    · exact hafter (hptp hc) (State.ptpRx_ethWin hown.win.inv h time)
    · obtain ⟨r, he⟩ := hesmc hc
      exact hafter he ((State.PortMoves.refl (n := n) hown.win.inv (wEth_plain n)).ptpTaken (wEth_ne_dma n).symm (sys_ne_wEth n)
        (fun he => absurd he (wEth_ne_wPtp n n).symm) f r).win

/-! ### The buffer and the queue of a good frame (R225) -/

/-- What the record of a frame leaves of its queue, told of the state before the frame. -/
theorem State.rxTaken_queue (hs : s.Inv) (cor unc : Nat) (r : BitVec 256) {t : State}
    (hwin : ((s.rxCounted n cor unc).ptpTaken n f r).WinMoves (wPtp n) rxFinishFlds t)
    (hmem : t.mem = ((s.rxCounted n cor unc).ptpTaken n f r).mem) (hqueues : t.queues = ((s.rxCounted n cor unc).ptpTaken n f r).queues) :
    (s.rxqRefuses n → t.rn (wPtp n) PTP_QDROP = (s.rn (wPtp n) PTP_QDROP + 1) % 2 ^ 32 ∧
      t.bytes (s.ptpBuf n + 256 * (s.ptp n).rxIdx) (2 + f.length) = leBytes 2 f.length ++ f) ∧
    (¬ s.rxqRefuses n → (t.queue (s.get (wPtp n) PTP_QCFG_RXQ)).fill = (s.queue (s.get (wPtp n) PTP_QCFG_RXQ)).fill + 1) := by
  let u := s.rxCounted n cor unc
  obtain ⟨e, hown⟩ := State.rxCounted_apart (n := n) hs (wPtp_plain n) (wEth_ne_wPtp n n) cor unc
  obtain ⟨e', hdma⟩ := State.rxCounted_apart (n := n) hs dma_plain (wEth_ne_dma n) cor unc
  have hq : u.queues = s.queues := State.rxCounted_queues cor unc
  have hrxq : u.get (wPtp n) PTP_QCFG_RXQ = s.get (wPtp n) PTP_QCFG_RXQ := hown.win.get _ (by decide)
  have hbuf : u.ptpBuf n = s.ptpBuf n := by
    unfold State.ptpBuf
    rw [hown.win.get PTP_BUFBASE_BASE (by decide)]
  have hidx : (u.ptp n).rxIdx = (s.ptp n).rxIdx := by rw [hown.ptp]
  obtain ⟨henabled, hfull⟩ := hdma.win.qTakes hq (State.rxq_lt (s := s) (wPtp n))
  have hrefuses : u.rxqRefuses n ↔ s.rxqRefuses n := by
    unfold State.rxqRefuses
    rw [hrxq, henabled, hfull]
  constructor
  · intro hr
    obtain ⟨hcount, hbytes⟩ := State.ptpTaken_refused hown.win.inv (hrefuses.mpr hr) f r
    rw [hwin.rn _ (by decide), hcount, hown.win.rn _ (by decide), State.bytes_of_mem hmem, ← hbuf, ← hidx]
    exact ⟨rfl, hbytes⟩
  · intro hr
    have hfill := State.ptpTaken_fill hown.win.inv (hrefuses.not.mpr hr) f r
    unfold State.queue at hfill ⊢
    rw [hqueues, ← hrxq, hfill, hq]

/-- A good frame with PTP on, and within the rate where it is an event message, is stored with its record. -/
theorem ethFrameRx_stored (hs : s.Ready) (hlive : s.portLive n) (hc : s.terminates n f h udp)
    (hgood : ¬ (fcs = false ∨ 254 < f.length)) (hon : s.ptpOn n = true)
    (hrate : isEventMsg f h = false ∨ (s.ptp n).rxEv < 128 ∨ ¬ s.classify n f = .ptp h udp) (time cor unc : Nat) :
    s.To (.ethFrameRx n f fcs time cor unc) fun t => (t.ptp n).rxIdx = ((s.ptp n).rxIdx + 1) % 64 ∧
      (s.classify n f = .ptp h udp → t.evPending (evNo (10 + n) 8) = true ∧ (isEventMsg f h = true →
        (t.ptp n).rxEv = (s.ptp n).rxEv + 1 ∧ t.rn (wPtp n) PTP_RXEVCNT = (s.rn (wPtp n) PTP_RXEVCNT + 1) % 2 ^ 32)) ∧
      (s.rxqRefuses n → t.rn (wPtp n) PTP_QDROP = (s.rn (wPtp n) PTP_QDROP + 1) % 2 ^ 32 ∧
        t.bytes (s.ptpBuf n + 256 * (s.ptp n).rxIdx) (2 + f.length) = leBytes 2 f.length ++ f) ∧
      (¬ s.rxqRefuses n → (t.queue (s.get (wPtp n) PTP_QCFG_RXQ)).fill = (s.queue (s.get (wPtp n) PTP_QCFG_RXQ)).fill + 1) := by
  obtain ⟨e, hown⟩ := State.rxCounted_apart (n := n) hs.1 (wPtp_plain n) (wEth_ne_wPtp n n) cor unc
  obtain ⟨hptp, hesmc⟩ := exec_ethFrameRx_on (h := h) (udp := udp) hs hlive hgood hon time cor unc
  have htaken (r : BitVec 256) := (State.PortMoves.refl (n := n) (fs := [.word PTP_QDROP]) hown.win.inv (wPtp_plain n)).ptpTaken
    (wPtp_ne_dma n).symm (sys_ne_wPtp n) (fun _ => by decide) f r
  by_cases hc' : s.classify n f = .ptp h udp
  · have hrate' : isEventMsg f h = false ∨ ((s.rxCounted n cor unc).ptp n).rxEv < 128 := by
      rw [hown.ptp]
      exact hrate.imp id fun hr => hr.resolve_right (not_not.mpr hc')
    obtain ⟨r, noted, heq⟩ := State.ptpRx_eq hrate' time
    have hinv := (htaken r).win.inv
    obtain ⟨y, hfinish, hidx, hev⟩ := State.rxFinish_moves (n := n) (fs := rxFinishFlds) hinv (wPtp_plain n) (fun _ => List.Subset.refl _)
      (isEventMsg f h) noted
    refine ⟨_, heq ▸ hptp hc', ?_, fun _ => ⟨State.rxFinish_event hinv _ _, fun hmsg => ⟨?_, ?_⟩⟩,
      State.rxTaken_queue hs.1 cor unc r hfinish.win (State.rxFinish_mem _ _) (State.rxFinish_queues _ _)⟩
    · rw [hfinish.ptp, hidx, (htaken r).ptp, hown.ptp]
    · rw [hfinish.ptp, hev hmsg, (htaken r).ptp, hown.ptp]
    · rw [hmsg, State.rxFinish_counts hinv, (htaken r).win.rn _ (by decide), hown.win.rn _ (by decide)]
  · obtain ⟨r, he⟩ := hesmc (hc.resolve_left hc')
    refine ⟨_, he, ?_, fun h => absurd h hc', State.rxTaken_queue hs.1 cor unc r (.refl (htaken r).win.inv (wPtp_plain n)) rfl rfl⟩
    rw [(htaken r).ptp, hown.ptp]

/-- An event message beyond the rate is counted and no more (R228). -/
theorem ethFrameRx_over (hs : s.Ready) (hlive : s.portLive n) (hc : s.classify n f = .ptp h udp)
    (hgood : ¬ (fcs = false ∨ 254 < f.length)) (hon : s.ptpOn n = true) (hmsg : isEventMsg f h = true)
    (hrate : 128 ≤ (s.ptp n).rxEv) (time cor unc : Nat) : s.To (.ethFrameRx n f fcs time cor unc) fun t =>
      t.rn (wPtp n) PTP_RATECNT = (s.rn (wPtp n) PTP_RATECNT + 1) % 2 ^ 32 ∧ t.evPending (evNo (10 + n) 14) = true ∧
      t.mem = s.mem ∧ (t.ptp n).rxIdx = (s.ptp n).rxIdx := by
  obtain ⟨e, hown⟩ := State.rxCounted_apart (n := n) hs.1 (wPtp_plain n) (wEth_ne_wPtp n n) cor unc
  obtain ⟨hptp, -⟩ := exec_ethFrameRx_on (h := h) (udp := udp) hs hlive hgood hon time cor unc
  have hover : 128 ≤ ((s.rxCounted n cor unc).ptp n).rxEv := by
    rw [hown.ptp]
    exact hrate
  have hcount := (State.NetMoves.refl (fs := [.word PTP_RATECNT]) hown.win.inv (wPtp_plain n)).count (off := PTP_RATECNT) 1 (by decide)
    (by decide)
  have hev := (State.NetMoves.refl (fs := [.word PTP_STS]) hcount.win.inv (wPtp_plain n)).ptpEvent (n := n) (b := 14)
    (fun _ => by decide) 6 (by decide)
  refine ⟨_, State.ptpRx_over hmsg hover time ▸ hptp hc, ?_, State.ptpEvent_pending hcount.win.inv 6 (by decide), ?_, ?_⟩
  · rw [hev.win.rn _ (by decide), State.rn_count_same _ hown.win.inv.canon, hown.win.rn _ (by decide)]
  · rw [State.ptpEvent, State.raise_mem, State.sts_mem, State.count_mem, State.rxCounted_mem]
  · rw [hev.net.ptp, hcount.net.ptp, hown.ptp]

/-! ### A frame of class Other (R218, R219) -/

/-- Whether frames are forwarded depends on registers that the codewords of a frame leave. -/
theorem State.ethFecCount_forwarding (hs : s.Inv) (cor unc : Nat) : (s.ethFecCount n cor unc).forwarding = s.forwarding := by
  have hwin (m : Port) : s.WinMoves (wEth m) fecFlds (s.ethFecCount n cor unc) := by
    obtain ⟨e, hfec⟩ := State.ethFecCount_moves (n := n) (fs := fecFlds) hs (wEth_plain m) (fun _ => List.Subset.refl _) cor unc
    exact hfec.win
  have h0 : s.WinMoves (wEth 0) fecFlds (s.ethFecCount n cor unc) := hwin 0
  have h1 : s.WinMoves (wEth 1) fecFlds (s.ethFecCount n cor unc) := hwin 1
  unfold State.forwarding State.inline State.ethFec State.ethLink
  rw [h0.get ETH_CFG_MODE (by decide), h1.get ETH_CFG_MODE (by decide), h0.get ETH_CFG_RATE (by decide), h1.get ETH_CFG_RATE (by decide),
    h0.flag ETH_CFG_FEC (by decide), h1.flag ETH_CFG_FEC (by decide), h0.flag ETH_CFG_RATE (by decide), h1.flag ETH_CFG_RATE (by decide),
    h0.flag ETH_STATE_LINK (by decide), h1.flag ETH_STATE_LINK (by decide)]

/-- Forwarding is active at INLINE ports only. -/
theorem State.inline_of_forwarding (hf : s.forwarding = true) (n : Port) : s.inline n = true := by
  have hboth : s.inline 0 = true ∧ s.inline 1 = true := by
    unfold State.forwarding at hf
    simp only [Bool.and_eq_true] at hf
    obtain ⟨⟨⟨⟨⟨h0, h1⟩, -⟩, -⟩, -⟩, -⟩ := hf
    exact ⟨h0, h1⟩
  match n with
  | 0 => exact hboth.1
  | 1 => exact hboth.2

theorem ethFrameRx_other (hs : s.Ready) (hlive : s.portLive n) (hc : s.classify n f = .other) (time cor unc : Nat) :
    s.To (.ethFrameRx n f fcs time cor unc) fun t => t.mem = s.mem ∧
      (s.forwarding = true → t.rn (wEth n) ETH_FWDCNT = (s.rn (wEth n) ETH_FWDCNT + 1) % 2 ^ 32 ∧
        t.out.getLast? = some (.frame (1 - n.val) f)) ∧
      (s.forwarding = false → t.rn (wEth n) ETH_DROPCNT = (s.rn (wEth n) ETH_DROPCNT + 1) % 2 ^ 32) := by
  obtain ⟨e, hfec⟩ := State.ethFecCount_moves (n := n) (fs := fecFlds) hs.1 (wEth_plain n) (fun _ => List.Subset.refl _) cor unc
  have hforward := State.ethFecCount_forwarding (n := n) hs.1 cor unc
  have hexec := exec_ethFrameRx hlive f fcs time cor unc
  rw [State.ethRx_other ((hfec.win.classify f).trans hc)] at hexec
  have hcount {off : Nat} (hclear : (Fld.word off).clearOf fecFlds = true) :
      ((s.ethFecCount n cor unc).count (wEth n) off 1).rn (wEth n) off = (s.rn (wEth n) off + 1) % 2 ^ 32 := by
    rw [State.rn_count_same _ hfec.win.inv.canon, hfec.win.rn _ hclear]
  refine ⟨_, hexec, ?_⟩
  cases hf : s.forwarding with
  | false =>
    have heq : (s.ethFecCount n cor unc).ethOther n f = (s.ethFecCount n cor unc).count (wEth n) ETH_DROPCNT 1 :=
      if_neg fun hgo => Bool.false_ne_true ((hforward.trans hf).symm.trans hgo.2)
    rw [heq]
    exact ⟨State.ethFecCount_mem cor unc, nofun, fun _ => hcount (by decide)⟩
  | true =>
    have heq : (s.ethFecCount n cor unc).ethOther n f = ((s.ethFecCount n cor unc).count (wEth n) ETH_FWDCNT 1).emit (.frame (1 - n) f) :=
      if_pos ⟨State.inline_of_forwarding (hforward.trans hf) n, hforward.trans hf⟩
    rw [heq]
    exact ⟨State.ethFecCount_mem cor unc, fun _ => ⟨hcount (by decide), List.getLast?_concat⟩, nofun⟩

end

end Sys2Proof.Machine

/-!
PROOF. Links, the rate window and frames originated (R217, R220, R226, R228, R240).
-/

namespace Sys2Proof.Machine

section
variable {s t : State} {w : Nat} {fs : List Fld} {n : Port}

/-! ### A link changes (R217, R240) -/

/-- The port's source. -/
def ethSrc (n : Port) : Src := ⟨16 + n, by omega⟩

theorem wSrc_ne_wEth (k : Src) (n : Port) : wSrc k ≠ wEth n := by revert k n; decide
theorem wEth_ne_wSrc (n : Port) (k : Src) : wEth n ≠ wSrc k := (wSrc_ne_wEth k n).symm
theorem wSrc_plain (k : Src) : wSrc k < W_ENG ∧ wSrc k ≠ W_EVT := by revert k; decide

theorem State.NetMoves.ethLinkLost (h : s.NetMoves (wEth n) fs t) : s.NetMoves (wEth n) fs (t.ethLinkLost n) :=
  (h.modSrc _ _).toLost (by omega) (wSrc_ne_wEth (ethSrc n) n)

/-- The port's source is LOST at the latest now, its bucket full. -/
theorem State.ethLinkLost_source (hs : s.Inv) :
    (s.ethLinkLost n).qstate (16 + n) ≤ 1 ∧ ((s.ethLinkLost n).src (16 + n)).bucket = s.actLim (16 + n) := by
  let u := s.modSrc (ethSrc n) (fun x => { x with bucket := s.actLim (ethSrc n) })
  have hu : u.Inv := hs.modSrc _ _
  have hbucket : (u.src (ethSrc n)).bucket = s.actLim (ethSrc n) := congrArg SrcSt.bucket (State.modSrc_src_same hs (ethSrc n) _)
  refine ⟨?_, ((State.SrcMoves.refl (n := ethSrc n) hu).toLost.bucket).trans hbucket⟩
  change (u.toLost (ethSrc n)).qstate (ethSrc n) ≤ 1
  by_cases hq : 2 ≤ u.qstate (ethSrc n)
  · rw [State.toLost_qstate hu hq]
  · rw [State.toLost_of_inactive (by omega)]
    omega

/-- What ETHn_STATE holds once the PCS has reported. -/
theorem ethState_bits (link hiber lock : Bool) : let v := (b2n link + 2 * b2n hiber + 4 * b2n lock) % 2 ^ 32
    (bitsOf v 0 1 != 0) = link ∧ (bitsOf v 1 1 != 0) = hiber := by
  revert link hiber lock
  decide

theorem ethLinkChange_off (hoff : s.ethOn n = false) (link hiber lock : Bool) : s.To (.ethLinkChange n link hiber lock) (· = s) :=
  ⟨s, congrArg Host.Outcome.next (if_pos (by simp [hoff])), rfl⟩

theorem ethLinkChange_takes (hs : s.Ready) (hon : s.ethOn n = true) (link hiber lock : Bool) :
    s.To (.ethLinkChange n link hiber lock) fun t => t.ethLink n = link ∧ t.flag (wEth n) ETH_STATE_HIBER = hiber ∧
      (s.ethLink n ≠ link → t.evPending (evNo (10 + n) 0) = true) ∧
      (s.ethLink n = true → link = false → t.qstate (16 + n) ≤ 1 ∧ (t.src (16 + n)).bucket = s.actLim (16 + n)) := by
  let s1 := s.wr (wEth n) ETH_STATE (b2n link + 2 * b2n hiber + 4 * b2n (lock && s.ethFec n))
  let s2 := s1.ethEvent n 0 0
  have hexec : exec (.ethLinkChange n link hiber lock) s =
      .next (if s.ethLink n = link then s1 else if link then s2 else s2.ethLinkLost n) :=
    congrArg Host.Outcome.next (if_neg (not_not.mpr hon))
  have hs1 : s1.Inv := hs.1.wr _ _ _
  obtain ⟨hlink, hhiber⟩ := ethState_bits link hiber (lock && s.ethFec n)
  have hstate : s1.rn (wEth n) ETH_STATE = _ := State.rn_wr_same s hs.1.canon _ _ _
  have hlink1 : s1.ethLink n = link := (congrArg (bitsOf · 0 1 != 0) hstate).trans hlink
  have hhiber1 : s1.flag (wEth n) ETH_STATE_HIBER = hiber := (congrArg (bitsOf · 1 1 != 0) hstate).trans hhiber
  have hshown {t : State} (ht : s1.WinMoves (wEth n) [.word ETH_STS] t) : t.ethLink n = link ∧ t.flag (wEth n) ETH_STATE_HIBER = hiber :=
    ⟨(ht.flag _ (by decide)).trans hlink1, (ht.flag _ (by decide)).trans hhiber1⟩
  have hevent : s1.NetMoves (wEth n) [.word ETH_STS] s2 :=
    (State.NetMoves.refl hs1 (wEth_plain n)).ethEvent (fun _ => by decide) 0 (by decide)
  have hraised : s2.evPending (evNo (10 + n) 0) = true := State.ethEvent_pending hs1 0 (by decide)
  rw [State.To, hexec]
  refine ⟨_, rfl, ?_⟩
  split
  · next hsame =>
    obtain ⟨hl, hh⟩ := hshown (.refl hs1 (wEth_plain n))
    exact ⟨hl, hh, fun h => absurd hsame h, fun hwas hnow => absurd (hwas.symm.trans (hsame.trans hnow)) (by decide)⟩
  · split
    · next hup =>
      obtain ⟨hl, hh⟩ := hshown hevent.win
      exact ⟨hl, hh, fun _ => hraised, fun _ hnow => absurd (hup.symm.trans hnow) (by decide)⟩
    · have hlost : s2.NetMoves (wEth n) [.word ETH_STS] (s2.ethLinkLost n) :=
        (State.NetMoves.refl hevent.win.inv (wEth_plain n)).ethLinkLost
      obtain ⟨hl, hh⟩ := hshown (hevent.trans hlost).win
      obtain ⟨hq, hbucket⟩ := State.ethLinkLost_source (n := n) hevent.win.inv
      have hsrc : s.NetMoves (wSrc (ethSrc n)) [] s2 := ((State.NetMoves.refl hs.1 (wSrc_plain _)).wrOther _ (wEth_ne_wSrc n _)
        (wEth_plain n).2 (by decide)).ethEvent (fun he => absurd he (wEth_ne_wSrc n _)) 0 (by decide)
      have hlim : s2.actLim (16 + n) = s.actLim (16 + n) := congrArg (max 1 ·) (hsrc.win.get SRC_ACT_ACT_LIM (by decide))
      exact ⟨hl, hh, fun _ => hlost.win.event _ (port_evNo_lt n 0 (by decide)) hraised,
        fun _ _ => ⟨hq, hbucket.trans hlim⟩⟩

/-! ### The rate window (R228) -/

theorem eventRateWindow_due (hs : s.Inv) (hdue : s.gridDue secU (s.ptp n).winIdx = true) : s.To (.eventRateWindow n) fun t =>
    (t.ptp n).rxEv = 0 ∧ (t.ptp n).txEv = 0 ∧ t.regs = s.regs := by
  refine ⟨_, congrArg Host.Outcome.next (if_pos hdue), ?_, ?_, rfl⟩
  · rw [State.modPtp_ptp_same hs]
  · rw [State.modPtp_ptp_same hs]

theorem eventRateWindow_early (hdue : s.gridDue secU (s.ptp n).winIdx = false) : s.To (.eventRateWindow n) (· = s) :=
  ⟨s, congrArg Host.Outcome.next (if_neg (by simp [hdue])), rfl⟩

/-! ### A frame fetched (R23, R226) -/

/-- Memory reads alike in both: the same bytes, the same errors. -/
def State.SameMem (s t : State) : Prop := t.mem = s.mem ∧ t.ecc = s.ecc

theorem State.SameMem.eccCheck (h : s.SameMem t) (a : Nat) :
    (t.eccCheck a).1 = (s.eccCheck a).1 ∧ (s.eccCheck a).2.SameMem (t.eccCheck a).2 := by
  obtain ⟨hmem, hecc⟩ := h
  unfold State.eccCheck
  rw [hecc]
  split
  · exact ⟨rfl, hmem, hecc⟩
  · exact ⟨rfl, hmem, hecc⟩
  · exact ⟨rfl, by simpa using hmem, by simp⟩

theorem State.SameMem.memLoad (h : s.SameMem t) (a k : Nat) :
    (t.memLoad a k).1 = (s.memLoad a k).1 ∧ (s.memLoad a k).2.SameMem (t.memLoad a k).2 := by
  obtain ⟨hbad, hnext⟩ := h.eccCheck (a / 8 * 8)
  refine ⟨?_, hnext⟩
  unfold State.memLoad State.memNat
  dsimp only
  rw [hbad, State.bytes_of_mem hnext.1]

theorem State.SameMem.wordsTake (h : s.SameMem t) (k a : Nat) : (State.wordsTake k t a).1 = (State.wordsTake k s a).1 := by
  induction k generalizing s t a with
  | zero => rfl
  | succ k ih =>
    obtain ⟨hword, hnext⟩ := h.memLoad a 8
    exact congrArg₂ (fun v r => leBytes 8 v ++ r) hword (ih hnext _)

theorem State.SameMem.memTake (h : s.SameMem t) (k a : Nat) : (State.memTake k t a).1 = (State.memTake k s a).1 := by
  unfold State.memTake
  dsimp only
  split
  · rfl
  · rw [h.wordsTake]

/-- The record of an engine has no part in what a transmit buffer holds. -/
theorem State.modPtp_txFrame (m : Nat) (go : PtpSt → PtpSt) (k : Nat) : ((s.modPtp m go).txFrame n k).1 = (s.txFrame n k).1 := by
  obtain ⟨hlen, hnext⟩ := State.SameMem.memLoad (s := s) (t := s.modPtp m go) ⟨rfl, rfl⟩ (s.ptpBuf n + 16384 + 256 * k) 2
  have hbuf : (s.modPtp m go).ptpBuf n = s.ptpBuf n := rfl
  unfold State.txFrame
  dsimp only
  rw [hbuf, hlen, hnext.memTake]

/-! ### Descriptors and frames sent (R220, R226, R227) -/

/-- The registers of an engine that a record of transmission concerns. -/
def txRecordFlds : List Fld := [.word PTP_QDROP, .word PTP_STS]

theorem State.PortMoves.txRecord {x : PtpSt} (h : s.PortMoves n w fs x t) (hdma : W_DMA ≠ w) (hf : wPtp n = w → txRecordFlds ⊆ fs)
    (d : TxDesc) (f : List Byte) (at_ time : Nat) (dropped : Bool) : s.PortMoves n w fs x (t.txRecord n d f at_ time dropped) := by
  have hrecord := h.ptpRecord hdma (fun he => hf he (by decide)) (t.record time (wEth n) 1 n (d.flags + 64 * b2n dropped) (ptpData d.buf at_ f))
  exact hrecord.net (hrecord.here.ptpEvent (fun he => hf he (by decide)) 1 (by decide))

theorem State.txRecord_event (hs : s.Inv) (d : TxDesc) (f : List Byte) (at_ time : Nat) (dropped : Bool) :
    (s.txRecord n d f at_ time dropped).evPending (evNo (10 + n) 9) = true := by
  have hrecord := (State.PortMoves.refl (n := n) (fs := txRecordFlds) hs (wPtp_plain n)).ptpRecord (wPtp_ne_dma n).symm
    (fun _ => by decide) (s.record time (wEth n) 1 n (d.flags + 64 * b2n dropped) (ptpData d.buf at_ f))
  exact State.ptpEvent_pending hrecord.win.inv 1 (by decide)

/-- The engine takes a descriptor that its queue holds. -/
theorem exec_ptpTxDescriptor (hon : s.ptpOn n = true) (hen : s.qEnabled (s.get (wPtp n) PTP_QCFG_TXQ) = true)
    (hheld : s.qEmpty (s.get (wPtp n) PTP_QCFG_TXQ) = false) : exec (.ptpTxDescriptor n) s = .next (s.txTake n) :=
  congrArg Host.Outcome.next (if_pos ⟨hon, hen, by simp [hheld]⟩)

theorem ptpTxDescriptor_none (h : s.ptpOn n = false ∨ s.qEmpty (s.get (wPtp n) PTP_QCFG_TXQ) = true) :
    s.To (.ptpTxDescriptor n) (· = s) := by
  refine ⟨s, congrArg Host.Outcome.next (if_neg fun hgo => ?_), rfl⟩
  obtain ⟨hon, -, hheld⟩ := hgo
  exact h.elim (fun hoff => Bool.false_ne_true (hoff.symm.trans hon)) hheld

theorem ptpTxDescriptor_takes (hs : s.Ready) (hon : s.ptpOn n = true) (hen : s.qEnabled (s.get (wPtp n) PTP_QCFG_TXQ) = true)
    (hheld : s.qEmpty (s.get (wPtp n) PTP_QCFG_TXQ) = false) :
    let d := (s.qPop (s.get (wPtp n) PTP_QCFG_TXQ)).2.txDesc (s.qPop (s.get (wPtp n) PTP_QCFG_TXQ)).1
    s.To (.ptpTxDescriptor n) fun t => (d.event = false ∨ (s.ptp n).txEv < 128 → (t.ptp n).txs = (s.ptp n).txs ++ [d]) ∧
      (d.event = true → 128 ≤ (s.ptp n).txEv → (t.ptp n).txs = (s.ptp n).txs ∧ t.evPending (evNo (10 + n) 9) = true) := by
  intro d
  let s1 := (s.qPop (s.get (wPtp n) PTP_QCFG_TXQ)).2
  have hpop : s.PortMoves n (wPtp n) txRecordFlds (s.ptp n) s1 :=
    (State.PortMoves.refl hs.1 (wPtp_plain n)).net ((State.NetMoves.refl hs.1 (wPtp_plain n)).qPop (sys_ne_wPtp n) _)
  have htake : s.txTake n = if d.event ∧ 128 ≤ (s.ptp n).txEv then
      (s1.txFrame n d.buf).2.txRecord n d (s1.txFrame n d.buf).1 (txHeader (s1.txFrame n d.buf).1).1 s.now true
      else s1.modPtp n (fun x => { x with txs := x.txs ++ [d], txEv := x.txEv + b2n d.event }) := rfl
  refine ⟨_, exec_ptpTxDescriptor hon hen hheld, ?_⟩
  rw [htake]
  by_cases hover : d.event = true ∧ 128 ≤ (s.ptp n).txEv
  · rw [if_pos hover]
    have hframe := hpop.net (hpop.here.txFrame (sys_ne_wPtp n) n d.buf)
    have hrecord := hframe.txRecord (wPtp_ne_dma n).symm (fun _ => List.Subset.refl _) d (s1.txFrame n d.buf).1
      (txHeader (s1.txFrame n d.buf).1).1 s.now true
    refine ⟨fun h => ?_, fun _ _ => ⟨by rw [hrecord.ptp], State.txRecord_event hframe.win.inv _ _ _ _ _⟩⟩
    rcases h with h | h
    · exact absurd (h.symm.trans hover.1) Bool.false_ne_true
    · exact absurd h (by omega)
  · rw [if_neg hover]
    have hkept := hpop.modPtp fun x => { x with txs := x.txs ++ [d], txEv := x.txEv + b2n d.event }
    exact ⟨fun _ => by rw [hkept.ptp], fun hev hrate => absurd ⟨hev, hrate⟩ hover⟩

theorem exec_ptpFrameTx {y : TxDesc × List TxDesc} (hfirst : s.txFirst (s.ptp n).txs = some y) (hlive : s.portLive n)
    (hon : s.ptpOn n = true) (time : Nat) : exec (.ptpFrameTx n time) s = .next (s.txSend n y.1 y.2 time) := by
  refine congrArg Host.Outcome.next ?_
  rw [hfirst]
  exact if_pos ⟨hon, hlive⟩

/-- A frame leaves at its gap. -/
theorem ptpFrameTx_sends (hs : s.Ready) {y : TxDesc × List TxDesc} (hfirst : s.txFirst (s.ptp n).txs = some y) (hlive : s.portLive n)
    (hon : s.ptpOn n = true) (time : Nat) : s.To (.ptpFrameTx n time) fun t => (t.ptp n).txs = y.2 ∧
      (y.1.oneStep = false → (t.out.drop s.out.length).contains (.frame n (s.txTag n (s.txFrame n y.1.buf).1)) = true) ∧
      (y.1.event = true → t.rn (wPtp n) PTP_TXEVCNT = (s.rn (wPtp n) PTP_TXEVCNT + 1) % 2 ^ 32 ∧
        t.evPending (evNo (10 + n) 9) = true) := by
  let s0 := s.modPtp n (fun x => { x with txs := y.2 })
  let s1 := (s0.txFrame n y.1.buf).2
  let stamp := s.stampAt time (s.ri (wEth n) ETH_TXLAT)
  let o : Output := .frame n (s.txTag n (if y.1.oneStep then oneStep (s0.txFrame n y.1.buf).1 stamp else (s0.txFrame n y.1.buf).1))
  have htaken := (State.PortMoves.refl (n := n) (fs := []) hs.1 (wPtp_plain n)).modPtp fun x => { x with txs := y.2 }
  have hframe : s.PortMoves n (wPtp n) [] { s.ptp n with txs := y.2 } s1 := htaken.net (htaken.here.txFrame (sys_ne_wPtp n) n y.1.buf)
  have hsent := hframe.net (hframe.here.emit o)
  have hout {u : State} (hu : (s1.emit o).out <+: u.out) (hone : y.1.oneStep = false) :
      (u.out.drop s.out.length).contains (.frame n (s.txTag n (s.txFrame n y.1.buf).1)) = true := by
    have ho : o = .frame n (s.txTag n (s.txFrame n y.1.buf).1) := by
      unfold o s0
      rw [if_neg (by simp [hone]), State.modPtp_txFrame]
    exact ho ▸ State.emitted_since hframe.out hu
  rw [State.To, exec_ptpFrameTx hfirst hlive hon time]
  refine ⟨_, rfl, ?_⟩
  unfold State.txSend
  dsimp only
  by_cases hev : y.1.event = true
  · rw [if_pos hev]
    have hcount := (State.NetMoves.refl (fs := [.word PTP_TXEVCNT]) hsent.win.inv (wPtp_plain n)).count (off := PTP_TXEVCNT) 1 (by decide)
      (by decide)
    have hrecord := (State.PortMoves.refl (n := n) (fs := txRecordFlds) hcount.win.inv (wPtp_plain n)).txRecord (wPtp_ne_dma n).symm
      (fun _ => List.Subset.refl _) y.1 (s0.txFrame n y.1.buf).1 (txHeader (s0.txFrame n y.1.buf).1).1 stamp false
    refine ⟨?_, hout (hcount.net.out.trans hrecord.out), fun _ => ⟨?_, State.txRecord_event hcount.win.inv _ _ _ _ _⟩⟩
    · rw [hrecord.ptp, hcount.net.ptp, hsent.ptp]
    · rw [hrecord.win.rn _ (by decide), State.rn_count_same _ hsent.win.inv.canon, hsent.win.rn _ (by decide)]
  · rw [if_neg hev]
    exact ⟨congrArg PtpSt.txs hsent.ptp, hout List.prefix_rfl, fun h => absurd h hev⟩

/-! ### Frames that find no gap (R220) -/

theorem State.txLate_expired {l : List TxDesc} {y : TxDesc × List TxDesc} (h : s.txLate l = some y) : s.txExpired y.1 = true := by
  induction l generalizing y with
  | nil => exact nomatch h
  | cons d ds ih =>
    unfold State.txLate at h
    split at h
    next hd => exact Option.some.inj h ▸ hd
    next =>
      obtain ⟨z, hz, rfl⟩ := Option.map_eq_some_iff.mp h
      exact (ih hz : s.txExpired z.1 = true)

theorem originatedFrameTimeout_none (h : s.inline n = false ∨ s.txLate (s.ptp n).txs = none) :
    s.To (.originatedFrameTimeout n) (· = s) := by
  refine ⟨s, congrArg Host.Outcome.next ?_, rfl⟩
  split
  next d rest hlate =>
    refine if_neg fun hin => ?_
    rcases h with h | h
    · exact Bool.false_ne_true (h.symm.trans hin)
    · exact nomatch h.symm.trans hlate
  next => rfl

theorem originatedFrameTimeout_drops (hs : s.Ready) {y : TxDesc × List TxDesc} (hlate : s.txLate (s.ptp n).txs = some y)
    (hin : s.inline n = true) : s.To (.originatedFrameTimeout n) fun t => (t.ptp n).txs = y.2 ∧ s.txExpired y.1 = true ∧
      t.rn (wEth n) ETH_TXDROPCNT = (s.rn (wEth n) ETH_TXDROPCNT + 1) % 2 ^ 32 ∧ t.evPending (evNo (10 + n) 3) = true ∧
      t.evPending (evNo (10 + n) 9) = true := by
  have hexec : exec (.originatedFrameTimeout n) s = .next (s.txDrop n y.1 y.2) := by
    refine congrArg Host.Outcome.next ?_
    rw [hlate]
    exact if_pos hin
  let s0 := s.modPtp n (fun x => { x with txs := y.2 })
  let s1 := (s0.txFrame n y.1.buf).2
  have htaken := (State.PortMoves.refl (n := n) (fs := []) hs.1 (wEth_plain n)).modPtp fun x => { x with txs := y.2 }
  have hframe : s.PortMoves n (wEth n) [] { s.ptp n with txs := y.2 } s1 := htaken.net (htaken.here.txFrame (sys_ne_wEth n) n y.1.buf)
  have hcount := (State.NetMoves.refl (fs := [.word ETH_TXDROPCNT]) hframe.win.inv (wEth_plain n)).count (off := ETH_TXDROPCNT) 1
    (by decide) (by decide)
  have hevent := (State.NetMoves.refl (fs := [.word ETH_STS]) hcount.win.inv (wEth_plain n)).ethEvent (n := n) (b := 3) (fun _ => by decide) 3
    (by decide)
  have hrecord := (State.PortMoves.refl (n := n) (fs := []) hevent.win.inv (wEth_plain n)).txRecord (wEth_ne_dma n).symm
    (fun he => absurd he (wEth_ne_wPtp n n).symm) y.1 (s0.txFrame n y.1.buf).1 (txHeader (s0.txFrame n y.1.buf).1).1 s.now true
  refine ⟨_, hexec, ?_, State.txLate_expired hlate, ?_, ?_, State.txRecord_event hevent.win.inv _ _ _ _ _⟩
  · exact congrArg PtpSt.txs (hrecord.ptp.trans ((hevent.net.ptp n).trans ((hcount.net.ptp n).trans hframe.ptp)))
  · refine (hrecord.win.rn _ (by decide)).trans ((hevent.win.rn _ (by decide)).trans ?_)
    rw [State.rn_count_same _ hframe.win.inv.canon, hframe.win.rn _ (by decide)]
  · exact hrecord.win.event _ (port_evNo_lt n 3 (by decide)) (State.ethEvent_pending hcount.win.inv 3 (by decide))

end

/-- Settles O48: each command of a port and its engine's frames is followed to the registers, the record, the buffer and the queue that
it leaves. -/
theorem ptpFrames : Obligations.PtpFrames := by
  unfold Obligations.PtpFrames
  intro s n link hiber lock udp fcs f h time cor unc hs
  dsimp only
  refine ⟨fun hon => ethLinkChange_takes hs hon link hiber lock, fun hoff => ethLinkChange_off hoff link hiber lock,
    fun hlive => ethFrameRx_codewords hs hlive time cor unc, fun hc hbad hlive => ethFrameRx_bad hs hlive hc hbad time cor unc,
    fun hc hgood hlive => ethFrameRx_good hs hlive hc hgood time cor unc, fun hc hgood hon hrate hlive => ?_,
    fun hc hgood hon hmsg hrate hlive => ethFrameRx_over hs hlive hc hgood hon hmsg hrate time cor unc,
    fun hc hlive => ethFrameRx_other hs hlive hc time cor unc, fun hdead => ethFrameRx_dead hdead f fcs time cor unc,
    eventRateWindow_due hs.1, eventRateWindow_early, ptpTxDescriptor_takes hs, ptpTxDescriptor_none,
    fun y hfirst hlive hon => ptpFrameTx_sends hs hfirst hlive hon time,
    fun y hlate hin => originatedFrameTimeout_drops hs hlate hin, originatedFrameTimeout_none⟩
  obtain ⟨t, hexec, hidx, hptp, hrefused, htaken⟩ := ethFrameRx_stored hs hlive hc hgood hon hrate time cor unc
  refine ⟨t, hexec, hidx, hptp, hrefused, fun hen hroom => htaken fun hr => ?_⟩
  rcases hr with hr | hr
  · exact Bool.false_ne_true (hr.symm.trans hen)
  · exact Bool.false_ne_true (hroom.symm.trans hr)

end Sys2Proof.Machine

/-!
PROOF. The operations of a PTP engine (R229 to R239): what they leave of a window and of the engine's record.
-/

namespace Sys2Proof.Machine

section
variable {s t u : State} {w : Nat} {fs : List Fld} {x y : PtpSt} {n : Port}

/-! ### Registers named where they are the window's own -/

namespace State.NetMoves

theorem putAny (h : s.NetMoves w fs t) {w' : Nat} {f : Fld} (v : Nat) (hf : w' = w → f ∈ fs) (hevt : w' ≠ W_EVT)
    (ho : f.off < 0x4000) : s.NetMoves w fs (t.put w' f v) := by
  by_cases hw : w' = w
  · exact hw ▸ h.put v (hf hw) ho
  · exact h.wrOther _ hw hevt ho

theorem putPairAny (h : s.NetMoves w fs t) {w' off : Nat} (v : Nat) (hf : w' = w → Fld.word off ∈ fs ∧ Fld.word (off + 4) ∈ fs)
    (hevt : w' ≠ W_EVT) (ho : off + 4 < 0x4000) : s.NetMoves w fs (t.putPair w' off v) :=
  (h.wrAny _ (fun he => (hf he).1) hevt (by omega)).wrAny _ (fun he => (hf he).2) hevt ho

/-- The record of an access (R355). -/
theorem accRecord (h : s.NetMoves w fs t) (hw : W_HIF ≠ w) (r : Req) (write : Bool) (a : Nat) (o : AccOut) :
    s.NetMoves w fs (t.accRecord r write a o) := by
  unfold State.accRecord
  split
  · exact h
  · next b _ =>
    have hrec : s.NetMoves w fs (((((t.sts W_HIF HIF_ACCSTAT (2 ^ b)).put W_HIF HIF_ACCSTAT_WINDOW (bitsOf a 14 8)).wr W_HIF
        HIF_ACCADDR (a % 2 ^ 25)).wr W_HIF HIF_ACCREQ (reqCode r + b2n write * 2 ^ 8)).count W_HIF HIF_ACCCNT 1) :=
      ((((h.wrOther _ hw (by decide) (by decide)).wrOther _ hw (by decide) (by decide)).wrOther _ hw (by decide) (by decide)).wrOther _
        hw (by decide) (by decide)).wrOther _ hw (by decide) (by decide)
    have hall : s.NetMoves w fs _ := .ite (c := r = Req.script) (fun _ => h) fun _ =>
      .ite (c := b < 5) (fun hb => hrec.raise (g := 0) (b := b) (by unfold evNo; omega)) fun _ => hrec
    exact .ite (fun _ => hall.fault _ _ _) fun _ => hall

end State.NetMoves

/-- A window beside those that an engine's operations write, but for its own. -/
structure PtpApart (n : Port) (w : Nat) : Prop where
  plain : w < W_ENG ∧ w ≠ W_EVT
  src : wSrc (18 + n) ≠ w
  tb : W_TB ≠ w
  hif : W_HIF ≠ w
  other : ∀ m : Port, m ≠ n → wPtp m ≠ w

theorem ptpApart_own (n : Port) : PtpApart n (wPtp n) := by
  have h : ∀ n : Port, (wPtp n < W_ENG ∧ wPtp n ≠ W_EVT) ∧ wSrc (18 + n) ≠ wPtp n ∧ W_TB ≠ wPtp n ∧ W_HIF ≠ wPtp n ∧
      ∀ m : Port, m ≠ n → wPtp m ≠ wPtp n := by decide
  obtain ⟨hplain, hsrc, htb, hhif, hother⟩ := h n
  exact ⟨hplain, hsrc, htb, hhif, hother⟩

theorem ptpApart_dma (n : Port) : PtpApart n W_DMA := by
  have h : ∀ n : Port, wSrc (18 + n) ≠ W_DMA ∧ ∀ m : Port, m ≠ n → wPtp m ≠ W_DMA := by decide
  obtain ⟨hsrc, hother⟩ := h n
  exact ⟨by decide, hsrc, by decide, by decide, hother⟩

theorem ptpApart_loop (n : Port) : PtpApart n (wDpll 3) := by
  have h : ∀ n : Port, wSrc (18 + n) ≠ wDpll 3 ∧ ∀ m : Port, m ≠ n → wPtp m ≠ wDpll 3 := by decide
  obtain ⟨hsrc, hother⟩ := h n
  exact ⟨by decide, hsrc, by decide, by decide, hother⟩

theorem wPtp_ne_loop : ∀ n : Port, wPtp n ≠ wDpll 3 := by decide

/-! ### The source of an engine (R234) -/

section
variable (hw : PtpApart n w)

include hw in
theorem State.NetMoves.ptpSrcHold (h : s.NetMoves w fs t) (hf : wPtp n = w → PTP_STATE_SRCHELD ∈ fs) :
    s.NetMoves w fs (t.ptpSrcHold n) :=
  .ite (fun _ => (h.srcHoldAs hw.src).putAny _ hf (wPtp_plain n).2 (by decide)) fun _ => h

include hw in
theorem State.NetMoves.ptpSrcResume (h : s.NetMoves w fs t) (hf : wPtp n = w → PTP_STATE_SRCHELD ∈ fs) :
    s.NetMoves w fs (t.ptpSrcResume n) :=
  .ite (fun _ => (h.putAny _ hf (wPtp_plain n).2 (by decide)).srcAccept (by omega) hw.src) fun _ => h

/-! ### The servo's words (R195, R232) -/

/-- The words that show the servo's integral term. -/
def srviFlds : List Fld := [.word PTP_SRVI_LO, .word PTP_SRVI_HI]

namespace State.PortMoves

include hw in
/-- The servo word of the timebase. -/
theorem putSrvw (h : s.PortMoves n w fs x t) (m : Nat) (i : Int) : s.PortMoves n w fs x (t.putSrvw m i) := by
  unfold State.putSrvw
  split
  · exact h.net (h.here.accRecord hw.hif _ _ _ _)
  · have hpair := h.net (h.here.putPairAny (w' := W_TB) (off := TB_SRVW_LO) (ofSigned 48 i) (fun he => absurd he hw.tb) (by decide) (by decide))
    obtain ⟨l, hl⟩ := hpair.tb
    exact ⟨hpair.win.setTb _ id, ⟨_, by rw [State.tbServoWord, State.setTb_tb, hl]⟩, hpair.safe, hpair.out, hpair.ptp⟩

include hw in
theorem srvWrite (h : s.PortMoves n w fs x t) (hf : wPtp n = w → srviFlds ⊆ fs) : s.PortMoves n w fs x (t.srvWrite n) := by
  have hshown := h.net (h.here.putPairAny (ofSigned 48 (satSigned 48 (quotFree (t.ptp n).i (2 ^ 16))))
    (fun he => ⟨hf he (a := .word PTP_SRVI_LO) (by decide), hf he (a := .word PTP_SRVI_HI) (by decide)⟩) (wPtp_plain n).2 (by decide))
  unfold State.srvWrite
  dsimp only
  split
  · exact hshown.putSrvw hw _ _
  · exact hshown

include hw in
theorem srvHold (h : s.PortMoves n w fs x t) (hf : wPtp n = w → srviFlds ⊆ fs) :
    s.PortMoves n w fs { x with p := 0 } (t.srvHold n) := (h.modPtp fun x => { x with p := 0 }).srvWrite hw hf

end State.PortMoves

end

/-! ### The bits of PTPn_CMD (R235, R237, R238) -/

/-- The registers of an engine that a command concerns. -/
def ptpCmdFlds : List Fld := [PTP_STATE_PATHST, PTP_STATE_SRCHELD, .word PTP_STS, .word PTP_SRVI_LO, .word PTP_SRVI_HI]

/-- What a command, or a part of one, leaves of its engine: its fields, its record `x` and PATHST. -/
structure State.PathMoves (s : State) (n : Port) (x : PtpSt) (st : Nat) (t : State) : Prop where
  moves : s.PortMoves n (wPtp n) ptpCmdFlds x t
  path : t.pathSt n = st

namespace State.PathMoves

variable {st : Nat}

theorem refl (h : s.Inv) (n : Port) : s.PathMoves n (s.ptp n) (s.pathSt n) s := ⟨.refl h (wPtp_plain n), rfl⟩

theorem inv (h : s.PathMoves n x st t) : t.Inv := h.moves.win.inv

theorem trans {st' : Nat} (h : s.PathMoves n x st t) (k : t.PathMoves n y st' u) : s.PathMoves n y st' u :=
  ⟨h.moves.trans k.moves, k.path⟩

theorem event (h : s.PathMoves n x st t) {b : Nat} (hb : b < 32) (hp : s.evPending (evNo (10 + n) b) = true) :
    t.evPending (evNo (10 + n) b) = true := h.moves.win.event _ (port_evNo_lt n b hb) hp

/-- Operations that leave PATHST. -/
theorem next (h : s.PathMoves n x st t) (k : t.PortMoves n (wPtp n) (ptpCmdFlds.erase PTP_STATE_PATHST) y u) : s.PathMoves n y st u :=
  ⟨h.moves.trans ⟨k.win.mono List.erase_subset, k.tb, k.safe, k.out, k.ptp⟩, (k.win.get _ (by decide)).trans h.path⟩

/-- PATHST is put. -/
theorem putPath (h : s.PathMoves n x st t) {v : Nat} (hv : v < 4) : s.PathMoves n x v (t.put (wPtp n) PTP_STATE_PATHST v) :=
  ⟨h.moves.net (h.moves.here.put _ (by decide) (by decide)),
    (State.get_put_same _ h.inv.canon _ _ _ (by decide)).trans (Nat.mod_eq_of_lt hv)⟩

theorem here (h : s.PathMoves n x st t) : t.PortMoves n (wPtp n) (ptpCmdFlds.erase PTP_STATE_PATHST) x t :=
  h.moves.ptp ▸ .refl h.inv (wPtp_plain n)

theorem srcHold (h : s.PathMoves n x st t) : s.PathMoves n x st (t.ptpSrcHold n) :=
  h.next (h.here.net (h.here.here.ptpSrcHold (ptpApart_own n) fun _ => by decide))

theorem srcResume (h : s.PathMoves n x st t) : s.PathMoves n x st (t.ptpSrcResume n) :=
  h.next (h.here.net (h.here.here.ptpSrcResume (ptpApart_own n) fun _ => by decide))

theorem srvWrite (h : s.PathMoves n x st t) : s.PathMoves n x st (t.srvWrite n) :=
  h.next (h.here.srvWrite (ptpApart_own n) fun _ => by decide)

theorem modPtp (h : s.PathMoves n x st t) (f : PtpSt → PtpSt) : s.PathMoves n (f x) st (t.modPtp n f) := h.next (h.here.modPtp f)

theorem srvHold (h : s.PathMoves n x st t) : s.PathMoves n { x with p := 0 } st (t.srvHold n) :=
  (h.modPtp fun x => { x with p := 0 }).srvWrite

theorem ptpEvent (h : s.PathMoves n x st t) (bit : Nat) {b : Nat} (hb : b < 32) : s.PathMoves n x st (t.ptpEvent n bit b) :=
  h.next (h.here.net (h.here.here.ptpEvent (fun _ => by decide) bit hb))

theorem pathLeave (h : s.PathMoves n x st t) {v : Nat} (hv : v < 4) :
    s.PathMoves n { x with pathEnd := none, pathTo := false } v (t.pathLeave n v) :=
  ((h.putPath hv).modPtp fun x => { x with pathEnd := none, pathTo := false }).srcResume

end State.PathMoves

/-- PATHHOLD: path hold, entered or lasting. -/
theorem State.ptpPathHold_lasting (hst : s.pathSt n = 1) : s.ptpPathHold n = s := if_pos hst

theorem State.ptpPathHold_enters (h : s.Inv) (hst : s.pathSt n ≠ 1) :
    s.PathMoves n { s.ptp n with p := 0, pathEnd := some (s.after (s.pathHoldU n)), pathTo := false } 1 (s.ptpPathHold n) ∧
      (s.ptpPathHold n).evPending (evNo (10 + n) 11) = true := by
  have hheld := ((State.PathMoves.refl h n).srcHold.putPath (v := 1) (by decide)).srvHold.modPtp fun x =>
    { x with pathEnd := some (s.after (s.pathHoldU n)), pathTo := false }
  unfold State.ptpPathHold
  rw [if_neg hst]
  exact ⟨hheld.ptpEvent 3 (by decide), State.ptpEvent_pending hheld.inv 3 (by decide)⟩

theorem State.ptpPathAccept_moves (h : s.Inv) : ∃ y, s.PathMoves n y 0 (s.ptpPathAccept n) ∧ y.p = (s.ptp n).p ∧ y.i = (s.ptp n).i := by
  unfold State.ptpPathAccept
  by_cases hst : s.pathSt n = 0
  · rw [if_pos hst]
    exact ⟨_, hst ▸ State.PathMoves.refl h n, rfl, rfl⟩
  · rw [if_neg hst]
    exact ⟨_, (State.PathMoves.refl h n).pathLeave (by decide), rfl, rfl⟩

theorem State.ptpPathReject_moves (h : s.Inv) : ∃ y, s.PathMoves n y (if s.pathSt n = 1 then 2 else s.pathSt n) (s.ptpPathReject n) ∧
    y.p = (s.ptp n).p ∧ y.i = (s.ptp n).i := by
  unfold State.ptpPathReject
  split
  · exact ⟨_, (State.PathMoves.refl h n).pathLeave (by decide), rfl, rfl⟩
  · exact ⟨_, State.PathMoves.refl h n, rfl, rfl⟩

theorem State.ptpParentChg_moves (h : s.Inv) : s.PathMoves n { s.ptp n with p := 0 } (s.pathSt n) (s.ptpParentChg n) ∧
    (s.ptpParentChg n).evPending (evNo (10 + n) 13) = true := by
  have hheld := (State.PathMoves.refl h n).srvHold
  exact ⟨hheld.ptpEvent 5 (by decide), State.ptpEvent_pending hheld.inv 5 (by decide)⟩

theorem State.ptpSrvReset_moves (h : s.Inv) : s.PathMoves n { s.ptp n with i := 0, pathEnd := none, pathTo := false } 0 (s.ptpSrvReset n) :=
  ((State.PathMoves.refl h n).modPtp fun x => { x with i := 0 }).srvWrite.pathLeave (by decide)

/-- PATHST after the bits of a command, in order. -/
def pathAfter (a b c g : Bool) (st : Nat) : Nat :=
  let p1 := if a then 1 else st
  let p2 := if b then 0 else p1
  let p3 := if c = true ∧ p2 = 1 then 2 else p2
  if g then 0 else p3

/-- The parts of a command that is given as value `v`, in order. -/
def State.cmdPart (s : State) (op : State → State) (b : Bool) : State := if b then op s else s

theorem State.ptpCmd_eq (v : Nat) : s.ptpCmd n v =
    ((((s.cmdPart (·.ptpPathHold n) (bitOf v 0)).cmdPart (·.ptpPathAccept n) (bitOf v 1)).cmdPart (·.ptpPathReject n) (bitOf v 2)).cmdPart
      (·.ptpParentChg n) (bitOf v 3)).cmdPart (·.ptpSrvReset n) (bitOf v 4) := rfl

/-- What a command leaves of its engine. -/
structure State.CmdLeaves (s : State) (n : Port) (a b c d g : Bool) (t : State) : Prop where
  moves : s.PathMoves n (t.ptp n) (pathAfter a b c g (s.pathSt n)) t
  held : a = true → s.pathSt n ≠ 1 → t.evPending (evNo (10 + n) 11) = true ∧ (t.ptp n).p = 0
  ends : a = true → s.pathSt n ≠ 1 → b = false → c = false → d = false → g = false →
    (t.ptp n).pathEnd = some (s.after (s.pathHoldU n))
  parent : d = true → (t.ptp n).p = 0 ∧ t.evPending (evNo (10 + n) 13) = true
  kept : g = false → (t.ptp n).i = (s.ptp n).i
  reset : g = true → (t.ptp n).i = 0

theorem State.CmdLeaves.hold (h : s.Inv) (a : Bool) : s.CmdLeaves n a false false false false (s.cmdPart (·.ptpPathHold n) a) := by
  cases a with
  | false => exact ⟨State.PathMoves.refl h n, nofun, nofun, nofun, fun _ => rfl, nofun⟩
  | true =>
    by_cases hst : s.pathSt n = 1
    · have heq : s.cmdPart (·.ptpPathHold n) true = s := State.ptpPathHold_lasting hst
      rw [heq]
      exact ⟨⟨.refl h (wPtp_plain n), hst⟩, fun _ hne => absurd hst hne, fun _ hne => absurd hst hne, nofun, fun _ => rfl, nofun⟩
    · obtain ⟨hmoves, hev⟩ := State.ptpPathHold_enters h hst
      have hptp : (s.cmdPart (·.ptpPathHold n) true).ptp n = _ := hmoves.moves.ptp
      exact ⟨hptp ▸ hmoves, fun _ _ => ⟨hev, by rw [hptp]⟩, fun _ _ _ _ _ _ => by rw [hptp], nofun, fun _ => by rw [hptp], nofun⟩

namespace State.CmdLeaves

variable {a b c d : Bool}

theorem accept (h : s.CmdLeaves n a false false false false t) (b : Bool) :
    s.CmdLeaves n a b false false false (t.cmdPart (·.ptpPathAccept n) b) := by
  cases b with
  | false => exact h
  | true =>
    obtain ⟨y, hmoves, hp, hi⟩ := State.ptpPathAccept_moves (n := n) h.moves.inv
    have hptp : (t.cmdPart (·.ptpPathAccept n) true).ptp n = y := hmoves.moves.ptp
    exact ⟨hptp ▸ h.moves.trans hmoves, fun ha hst => ⟨hmoves.event (by decide) (h.held ha hst).1, by rw [hptp, hp, (h.held ha hst).2]⟩,
      nofun, nofun, fun hg => by rw [hptp, hi, h.kept hg], nofun⟩

theorem reject (h : s.CmdLeaves n a b false false false t) (c : Bool) :
    s.CmdLeaves n a b c false false (t.cmdPart (·.ptpPathReject n) c) := by
  cases c with
  | false => exact h
  | true =>
    obtain ⟨y, hmoves, hp, hi⟩ := State.ptpPathReject_moves (n := n) h.moves.inv
    have hptp : (t.cmdPart (·.ptpPathReject n) true).ptp n = y := hmoves.moves.ptp
    have hpath : (if t.pathSt n = 1 then 2 else t.pathSt n) = pathAfter a b true false (s.pathSt n) := by
      rw [h.moves.path]
      simp [pathAfter]
    exact ⟨hptp ▸ hpath ▸ h.moves.trans hmoves,
      fun ha hst => ⟨hmoves.event (by decide) (h.held ha hst).1, by rw [hptp, hp, (h.held ha hst).2]⟩, nofun, nofun,
      fun hg => by rw [hptp, hi, h.kept hg], nofun⟩

theorem parentChg (h : s.CmdLeaves n a b c false false t) (d : Bool) :
    s.CmdLeaves n a b c d false (t.cmdPart (·.ptpParentChg n) d) := by
  cases d with
  | false => exact h
  | true =>
    obtain ⟨hmoves, hev⟩ := State.ptpParentChg_moves (n := n) h.moves.inv
    have hptp : (t.cmdPart (·.ptpParentChg n) true).ptp n = _ := hmoves.moves.ptp
    exact ⟨hptp ▸ h.moves.path ▸ h.moves.trans hmoves, fun ha hst => ⟨hmoves.event (by decide) (h.held ha hst).1, by rw [hptp]⟩,
      nofun, fun _ => ⟨by rw [hptp], hev⟩, fun hg => by rw [hptp]; exact h.kept hg, nofun⟩

theorem srvReset (h : s.CmdLeaves n a b c d false t) (g : Bool) : s.CmdLeaves n a b c d g (t.cmdPart (·.ptpSrvReset n) g) := by
  cases g with
  | false => exact h
  | true =>
    have hmoves := State.ptpSrvReset_moves (n := n) h.moves.inv
    have hptp : (t.cmdPart (·.ptpSrvReset n) true).ptp n = _ := hmoves.moves.ptp
    exact ⟨hptp ▸ h.moves.trans hmoves, fun ha hst => ⟨hmoves.event (by decide) (h.held ha hst).1, by rw [hptp]; exact (h.held ha hst).2⟩,
      nofun, fun hd => ⟨by rw [hptp]; exact (h.parent hd).1, hmoves.event (by decide) (h.parent hd).2⟩, nofun, fun _ => by rw [hptp]⟩

end State.CmdLeaves

/-- The bits of a command, in order. -/
theorem State.ptpCmd_leaves (h : s.Inv) (v : Nat) :
    s.CmdLeaves n (bitOf v 0) (bitOf v 1) (bitOf v 2) (bitOf v 3) (bitOf v 4) (s.ptpCmd n v) :=
  State.ptpCmd_eq v ▸ ((((State.CmdLeaves.hold h _).accept _).reject _).parentChg _).srvReset _

end

end Sys2Proof.Machine

/-!
PROOF. Writes of a PTP engine's registers at the door (R224, R229, R231, R235, R237, R238), path hold that lasts too long and a held
source (R234, R237).
-/

namespace Sys2Proof.Machine

section
variable {s t : State} {r : Req} {n : Port} {v : Word}

theorem winBlock_ptp : ∀ n : Port, winBlock (wPtp n) = some (.ptp n) := by decide

theorem State.refuses_ptp (off old v : Nat) : s.refuses r (wPtp n) off old v =
    if off = PTP_CTL ∧ rises old v ∧ s.ptpEnableRefused n then some (s.ptpCfgRef n) else none := by
  simp only [State.refuses, winBlock_ptp]

theorem State.refuses_ptp_other {off : Nat} (hoff : off ≠ PTP_CTL) (old v : Nat) : s.refuses r (wPtp n) off old v = none :=
  (State.refuses_ptp off old v).trans (if_neg fun h => hoff h.1)

theorem State.srvIgnored_ptp (off old v : Nat) : s.srvIgnored (wPtp n) off old v =
    (off == PTP_CTL && bitOf v 1 && !bitOf old 1 && s.srvRefused n) := by
  simp only [State.srvIgnored, winBlock_ptp]

/-! ### Commands (R235, R237, R238) -/

theorem openCmd_ptpCmd (r : Req) (n : Port) : openCmd r (wPtp n) PTP_CMD = true := by
  have hhost : ∀ n : Port, openCmd .pcie (wPtp n) PTP_CMD = true := by decide
  exact hhost n

theorem State.cmdAct_ptpCmd (a : Nat) : s.cmdAct r (wPtp n) PTP_CMD a = s.ptpCmd n a := by
  simp only [State.cmdAct, winBlock_ptp]
  exact if_neg (by decide)

/-- A write of PTPn_CMD: its bits take effect. -/
theorem State.wrFld_ptpCmd (hs : s.Ready) (hr : r ≠ .i2c) {f : Fld} (hf : f.off = PTP_CMD) (v : Word) :
    ∃ o, s.wrFld r (wPtp n) f 1 v = (s.ptpCmd n (putBits v.toNat f.lsb f.width 1)).emit o := by
  have hleaves := State.ptpCmd_leaves (n := n) hs.1 (putBits v.toNat f.lsb f.width 1)
  unfold State.wrFld
  rw [hf]
  exact State.doorWrite_taken hr (wPtp_plain n).1 (by decide) (by decide)
    ((State.regWrite_openCmd (openCmd_ptpCmd r n) hs.2.2 (State.refuses_ptp_other (by decide) _ _)).trans
      (congrArg _ (State.cmdAct_ptpCmd _))) (hleaves.moves.moves.win.sys ▸ hs.2.1)

/-- Bit `j` of a write that sets bit `k`. -/
theorem bitOf_set (v : Word) (k j : Nat) : bitOf (putBits v.toNat k 1 1) j = (decide (j = k) || v.getLsbD j) := by
  by_cases hj : j = k
  · rw [hj, bitOf_putBits_one, decide_eq_true rfl, Bool.true_or]
    rfl
  · rw [bitOf_putBits_other _ _ _ _ _ (by omega), bitOf_toNat, decide_eq_false hj, Bool.false_or]

/-- A command given with its bit `k`: what its bits leave, whichever way the others are set. -/
theorem ptpCmd_given (hs : s.Ready) (hr : r ≠ .i2c) {i : Instr} {f : Fld} (hf : f.off = PTP_CMD) (hw : f.width = 1) (v : Word)
    (hexec : exec i s = .next (s.wrFld r (wPtp n) f 1 v)) {P : State → Prop}
    (hP : ∀ t o, s.CmdLeaves n (decide (0 = f.lsb) || v.getLsbD 0) (decide (1 = f.lsb) || v.getLsbD 1)
      (decide (2 = f.lsb) || v.getLsbD 2) (decide (3 = f.lsb) || v.getLsbD 3) (decide (4 = f.lsb) || v.getLsbD 4) t → P (t.emit o)) :
    s.To i P := by
  obtain ⟨o, ho⟩ := State.wrFld_ptpCmd (n := n) hs hr hf v
  have hleaves := State.ptpCmd_leaves (n := n) hs.1 (putBits v.toNat f.lsb f.width 1)
  rw [hw, bitOf_set, bitOf_set, bitOf_set, bitOf_set, bitOf_set] at hleaves
  exact ⟨_, hexec.trans (congrArg _ ho), hP _ o (hw ▸ hleaves)⟩

theorem ptpPathhold_takes (hs : s.Ready) (hr : r ≠ .i2c) (v : Word) : s.To (.ptpPathhold r n v) fun t =>
    t.pathSt n = pathAfter true (v.getLsbD 1) (v.getLsbD 2) (v.getLsbD 4) (s.pathSt n) ∧
      (s.pathSt n ≠ 1 → t.evPending (evNo (10 + n) 11) = true ∧ (t.ptp n).p = 0 ∧
        (v.toNat % 32 / 2 = 0 → (t.ptp n).pathEnd = some (s.after (s.pathHoldU n)))) := by
  refine ptpCmd_given (n := n) (f := PTP_CMD_PATHHOLD) hs hr rfl rfl v rfl fun t o hleaves => ⟨hleaves.moves.path, fun hst => ?_⟩
  obtain ⟨hev, hp⟩ := hleaves.held rfl hst
  have hclear (j : Nat) (hj : j ∈ [1, 2, 3, 4]) (halone : v.toNat % 32 / 2 = 0) : v.getLsbD j = false := by
    rw [← bitOf_toNat, bitOf, decide_eq_false_iff_not]
    simp only [List.mem_cons, List.not_mem_nil, or_false] at hj
    rcases hj with rfl | rfl | rfl | rfl
    all_goals omega
  exact ⟨hev, hp, fun halone => hleaves.ends rfl hst (hclear 1 (by decide) halone) (hclear 2 (by decide) halone)
    (hclear 3 (by decide) halone) (hclear 4 (by decide) halone)⟩

theorem ptpPathaccept_takes (hs : s.Ready) (hr : r ≠ .i2c) (v : Word) : s.To (.ptpPathaccept r n v) fun t =>
    t.pathSt n = pathAfter (v.getLsbD 0) true (v.getLsbD 2) (v.getLsbD 4) (s.pathSt n) :=
  ptpCmd_given (n := n) (f := PTP_CMD_PATHACCEPT) hs hr rfl rfl v rfl fun _ _ hleaves => hleaves.moves.path

theorem ptpPathreject_takes (hs : s.Ready) (hr : r ≠ .i2c) (v : Word) : s.To (.ptpPathreject r n v) fun t =>
    t.pathSt n = pathAfter (v.getLsbD 0) (v.getLsbD 1) true (v.getLsbD 4) (s.pathSt n) :=
  ptpCmd_given (n := n) (f := PTP_CMD_PATHREJECT) hs hr rfl rfl v rfl fun _ _ hleaves => hleaves.moves.path

theorem ptpParentchg_takes (hs : s.Ready) (hr : r ≠ .i2c) (v : Word) : s.To (.ptpParentchg r n v) fun t =>
    t.pathSt n = pathAfter (v.getLsbD 0) (v.getLsbD 1) (v.getLsbD 2) (v.getLsbD 4) (s.pathSt n) ∧ (t.ptp n).p = 0 ∧
      t.evPending (evNo (10 + n) 13) = true ∧ (v.getLsbD 4 = false → (t.ptp n).i = (s.ptp n).i) :=
  ptpCmd_given (n := n) (f := PTP_CMD_PARENTCHG) hs hr rfl rfl v rfl fun _ _ hleaves =>
    ⟨hleaves.moves.path, (hleaves.parent rfl).1, (hleaves.parent rfl).2, hleaves.kept⟩

theorem pathAfter_reset (a b c : Bool) (st : Nat) : pathAfter a b c true st = 0 := rfl

theorem ptpSrvreset_takes (hs : s.Ready) (hr : r ≠ .i2c) (v : Word) : s.To (.ptpSrvreset r n v) fun t =>
    t.pathSt n = 0 ∧ (t.ptp n).i = 0 :=
  ptpCmd_given (n := n) (f := PTP_CMD_SRVRESET) hs hr rfl rfl v rfl fun _ _ hleaves =>
    ⟨hleaves.moves.path.trans (pathAfter_reset _ _ _ _), hleaves.reset rfl⟩

/-! ### Path hold that lasts too long (R237) and a held source (R234) -/

theorem pathHoldTimeout_due (hs : s.Ready) {d : Nat} (hend : (s.ptp n).pathEnd = some d) (hst : s.pathSt n = 1)
    (hto : (s.ptp n).pathTo = false) (hdue : s.due d = true) : s.To (.pathHoldTimeout n) fun t =>
      t.evPending (evNo (10 + n) 12) = true ∧ t.pathSt n = 1 ∧ t.ptp n = { s.ptp n with pathTo := true } := by
  have hexec : exec (.pathHoldTimeout n) s = .next ((s.modPtp n (fun x => { x with pathTo := true })).ptpEvent n 4 12) := by
    refine congrArg Host.Outcome.next ?_
    rw [hend]
    exact if_pos ⟨hst, by rw [hto]; exact Bool.false_ne_true, hdue⟩
  have hnoted := (State.PathMoves.refl hs.1 n).modPtp fun x => { x with pathTo := true }
  have hraised := hnoted.ptpEvent 4 (b := 12) (by decide)
  exact ⟨_, hexec, State.ptpEvent_pending hnoted.inv 4 (by decide), hraised.path.trans hst, hraised.moves.ptp⟩

theorem pathHoldTimeout_early {d : Nat} (hend : (s.ptp n).pathEnd = some d) (hdue : s.due d = false) :
    s.To (.pathHoldTimeout n) (· = s) := by
  refine ⟨s, congrArg Host.Outcome.next ?_, rfl⟩
  rw [hend]
  exact if_neg fun h => Bool.false_ne_true (hdue.symm.trans h.2.2)

/-- The source of a slave port is held and its interval is over. -/
def State.heldDue (s : State) (n : Port) : Prop := s.vsrcEn n = true ∧ s.slave n = true ∧ s.flag (wPtp n) PTP_STATE_SRCHELD = true ∧
  s.due (((s.ptp n).sampleAt + (s.ptp n).interval) % 2 ^ 96) = true

theorem heldOffsetSample_due (hs : s.Ready) (hheld : s.heldDue n) : s.To (.heldOffsetSample n) fun t =>
    t.ptp n = { s.ptp n with sampleAt := s.tb.c } := by
  have hsampled := ((State.NetMoves.refl (fs := []) hs.1 (wPtp_plain n)).srcVirtual (by omega) (ptpApart_own n).src s.tb.c (s.ptp n).heldOfs)
  exact ⟨_, congrArg Host.Outcome.next (if_pos hheld),
    (State.modPtp_ptp_same hsampled.win.inv n _).trans (by rw [hsampled.net.ptp])⟩

theorem heldOffsetSample_none (hheld : ¬ s.heldDue n) : s.To (.heldOffsetSample n) (· = s) :=
  ⟨s, congrArg Host.Outcome.next (if_neg hheld), rfl⟩

end

end Sys2Proof.Machine

/-!
PROOF. Writes of PTPn_CTL and PTPn_PSTATE (R224, R229, R231).
-/

namespace Sys2Proof.Machine

section
variable {s t : State} {r : Req} {n : Port} {w : Nat} {fs : List Fld} {x : PtpSt} {v : Word}

/-! ### The registers at the door -/

theorem openRun_ptpCtl (r : Req) (n : Port) : openRun r (wPtp n) PTP_CTL = true := by
  match n with
  | 0 => rfl
  | 1 => rfl

theorem openRun_ptpPstate : ∀ n : Port, openRun (.eng 0) (wPtp n) PTP_PSTATE = true := by decide

theorem State.view_ptpCtl : s.view (wPtp n) PTP_CTL = s.rn (wPtp n) PTP_CTL := by
  match n with
  | 0 => rfl
  | 1 => rfl

theorem State.ptpOn_eq : s.ptpOn n = bitOf (s.rn (wPtp n) PTP_CTL) 0 := State.flag_bit _ _ _ _
theorem State.srvEn_eq : s.srvEn n = bitOf (s.rn (wPtp n) PTP_CTL) 1 := State.flag_bit _ _ _ _

/-- The word of a write that sets ENABLE. -/
theorem ofNat_putBits_enable (v : Word) : BitVec.ofNat 32 (putBits v.toNat 0 1 1) = v ||| 1 := by
  refine BitVec.eq_of_getLsbD_eq fun i hi => ?_
  rw [BitVec.getLsbD_ofNat, ← bitOf_eq_testBit, bitOf_set, BitVec.getLsbD_or, decide_eq_true hi, Bool.true_and, Bool.or_comm]
  congr 1
  rcases Nat.eq_zero_or_pos i with rfl | hpos
  · rfl
  · simp [BitVec.getLsbD_one, hpos.ne']

/-! ### What a write of PTPn_CTL does (R231, R336) -/

/-- The servo begins, or ends with a word of 0 (R194). -/
theorem State.PortMoves.ptpCtlWritten (hw : PtpApart n w) (h : s.PortMoves n w fs x t) (old : Nat) :
    ∃ y, s.PortMoves n w fs y (t.ptpCtlWritten n old) := by
  unfold State.ptpCtlWritten
  split
  · exact ⟨_, h.putSrvw hw _ _⟩
  · split
    · exact ⟨_, h.modPtp fun x => { x with lastAt := none }⟩
    · exact ⟨_, h⟩

/-- The engine takes its TXQ as block consumer. -/
def State.txqTaken (s : State) (n : Port) : State :=
  let q := qOff (s.get (wPtp n) PTP_QCFG_TXQ)
  (s.put W_DMA (DMA_QCFG_CONS.up q) 3).put W_DMA (DMA_QCFG_CONSID.up q) (wPtp n)

theorem State.txqTaken_moves (h : s.NetMoves w fs t) (hw : W_DMA ≠ w) : s.NetMoves w fs (t.txqTaken n) := by
  have hlt := State.txq_lt (s := t) (wPtp n)
  exact (h.wrOther _ hw (by decide) (show DMA_QCFG_CONS.off + qOff _ < _ by unfold qOff DMA_QCFG_CONS; simp only; omega)).wrOther _ hw (by decide)
    (show DMA_QCFG_CONSID.off + qOff _ < _ by unfold qOff DMA_QCFG_CONSID; simp only; omega)

theorem State.txqTaken_cons (h : s.Inv) :
    (s.txqTaken n).get W_DMA (DMA_QCFG_CONS.up (qOff (s.get (wPtp n) PTP_QCFG_TXQ))) = 3 := by
  have hput (q : Nat) : ((s.put W_DMA (DMA_QCFG_CONS.up q) 3).put W_DMA (DMA_QCFG_CONSID.up q) (wPtp n)).get W_DMA (DMA_QCFG_CONS.up q) =
      3 := by
    rw [State.get_put_beside _ (h.put _ _ _).canon, State.get_put_same _ h.canon]
    · rfl
    · exact (by decide : DMA_QCFG_CONS.lsb + DMA_QCFG_CONS.width ≤ 32)
    · rfl
    · exact (by decide : DMA_QCFG_CONS.lsb + DMA_QCFG_CONS.width ≤ 32)
    · exact .inl (by decide : DMA_QCFG_CONS.lsb + DMA_QCFG_CONS.width ≤ DMA_QCFG_CONSID.lsb)
  exact hput _

theorem State.written_ptpCtl (old : Nat) : s.written r (wPtp n) PTP_CTL old =
    (if rises old (s.rn (wPtp n) PTP_CTL) then s.txqTaken n else s).ptpCtlWritten n old := by
  simp only [State.written, winBlock_ptp, if_true]
  rfl

theorem State.written_ptpPstate (old : Nat) : s.written r (wPtp n) PTP_PSTATE old = s.pstateWritten n old := by
  simp only [State.written, winBlock_ptp]
  exact (if_neg (by decide)).trans (if_pos trivial)

/-- A write of PTPn_CTL once it is taken. -/
def State.ptpCtlTaken (s : State) (n : Port) (a : Nat) : State :=
  (s.wr (wPtp n) PTP_CTL a).written .pcie (wPtp n) PTP_CTL (s.rn (wPtp n) PTP_CTL)

/-- The value is stored, the queue taken where the engine is enabled. -/
def State.ptpCtlStored (s : State) (n : Port) (a : Nat) : State :=
  if rises (s.rn (wPtp n) PTP_CTL) ((s.wr (wPtp n) PTP_CTL a).rn (wPtp n) PTP_CTL) then (s.wr (wPtp n) PTP_CTL a).txqTaken n
  else s.wr (wPtp n) PTP_CTL a

theorem State.ptpCtlTaken_eq (a : Nat) : s.ptpCtlTaken n a = (s.ptpCtlStored n a).ptpCtlWritten n (s.rn (wPtp n) PTP_CTL) :=
  State.written_ptpCtl _

theorem State.ptpCtlStored_moves (h : s.Inv) (a : Nat) :
    (s.wr (wPtp n) PTP_CTL a).NetMoves (wPtp n) [] (s.ptpCtlStored n a) := by
  have hput := State.NetMoves.refl (fs := []) (h.wr (wPtp n) PTP_CTL a) (wPtp_plain n)
  exact .ite (fun _ => State.txqTaken_moves hput (wPtp_ne_dma n).symm) fun _ => hput

theorem State.ptpCtlTaken_moves (h : s.Inv) (a : Nat) :
    ∃ y, (s.wr (wPtp n) PTP_CTL a).PortMoves n (wPtp n) [] y (s.ptpCtlTaken n a) := by
  have hstored := (State.PortMoves.refl (n := n) (h.wr (wPtp n) PTP_CTL a) (wPtp_plain n)).net (State.ptpCtlStored_moves (n := n) h a)
  exact State.ptpCtlTaken_eq (s := s) a ▸ hstored.ptpCtlWritten (ptpApart_own n) _

theorem State.ptpCtlTaken_ctl (h : s.Inv) (a : Nat) : (s.ptpCtlTaken n a).rn (wPtp n) PTP_CTL = a % 2 ^ 32 := by
  obtain ⟨y, hmoves⟩ := State.ptpCtlTaken_moves (n := n) h a
  exact (hmoves.win.rn _ (by decide)).trans (State.rn_wr_same _ h.canon _ _ _)

/-- An enable takes the queue. -/
theorem State.ptpCtlTaken_cons (h : s.Inv) {a : Nat} (hr : rises (s.rn (wPtp n) PTP_CTL) a = true) :
    (s.ptpCtlTaken n a).get W_DMA (DMA_QCFG_CONS.up (qOff (s.get (wPtp n) PTP_QCFG_TXQ))) = 3 := by
  have hu : (s.wr (wPtp n) PTP_CTL a).Inv := h.wr _ _ _
  have hnow : rises (s.rn (wPtp n) PTP_CTL) ((s.wr (wPtp n) PTP_CTL a).rn (wPtp n) PTP_CTL) = true := by
    obtain ⟨hold, hnew⟩ := (rises_iff _ _).mp hr
    exact (rises_iff _ _).mpr ⟨hold, (State.bitOf_rn_wr h.canon _ _ _ (by decide)).trans hnew⟩
  have htxq : (s.wr (wPtp n) PTP_CTL a).get (wPtp n) PTP_QCFG_TXQ = s.get (wPtp n) PTP_QCFG_TXQ :=
    ((State.NetMoves.refl (fs := [.word PTP_CTL]) h (wPtp_plain n)).wr (off := PTP_CTL) a (by decide) (by decide)).win.get _ (by decide)
  have hstored : s.ptpCtlStored n a = (s.wr (wPtp n) PTP_CTL a).txqTaken n := if_pos hnow
  have hlt := State.txq_lt (s := s) (wPtp n)
  have hinv := (State.txqTaken_moves (n := n) (State.NetMoves.refl (fs := []) hu (wPtp_plain n)) (wPtp_ne_dma n).symm).win.inv
  obtain ⟨y, hwritten⟩ := (State.PortMoves.refl (n := n) (fs := []) hinv dma_plain).ptpCtlWritten (ptpApart_dma n) (s.rn (wPtp n) PTP_CTL)
  have hclear : (DMA_QCFG_CONS.up (qOff (s.get (wPtp n) PTP_QCFG_TXQ))).clearOf [] = true := Fld.clearOf_nil
    (show DMA_QCFG_CONS.off + qOff (s.get (wPtp n) PTP_QCFG_TXQ) < _ by unfold qOff DMA_QCFG_CONS; simp only; omega)
    (by decide : 0 < DMA_QCFG_CONS.width) (by decide : DMA_QCFG_CONS.lsb + DMA_QCFG_CONS.width ≤ 32)
  have hcons := State.txqTaken_cons (n := n) hu
  rw [htxq] at hcons
  rw [State.ptpCtlTaken_eq, hstored, hwritten.win.get _ hclear]
  exact hcons

/-- Without a servo SRVW is 0. -/
theorem State.ptpCtlTaken_srvw (h : s.Inv) {a : Nat} (hwas : s.srvEn n = true) (hnow : bitOf a 1 = false) (hsafe : s.safe = false) :
    (s.ptpCtlTaken n a).pair W_TB TB_SRVW_LO % 2 ^ 48 = 0 := by
  have hmoves := State.ptpCtlStored_moves (n := n) h a
  have hen : (s.ptpCtlStored n a).srvEn n = false := by
    rw [State.srvEn_eq, hmoves.win.rn _ (by decide), State.bitOf_rn_wr h.canon _ _ _ (by decide), hnow]
  have hsafe' : (s.ptpCtlStored n a).safe = false := by
    unfold State.safe
    rw [hmoves.net.safe]
    exact hsafe
  have hput : (s.ptpCtlStored n a).ptpCtlWritten n (s.rn (wPtp n) PTP_CTL) = (s.ptpCtlStored n a).putSrvw n 0 :=
    if_pos ⟨State.srvEn_eq ▸ hwas, by rw [hen]; exact Bool.false_ne_true⟩
  have hpair : (s.ptpCtlStored n a).putSrvw n 0 = ((s.ptpCtlStored n a).putPair W_TB TB_SRVW_LO (ofSigned 48 0)).tbServoWord :=
    if_neg (by rw [hsafe']; exact Bool.false_ne_true)
  rw [State.ptpCtlTaken_eq, hput, hpair]
  exact congrArg (· % 2 ^ 48) (State.pair_putPair_signed hmoves.win.inv.canon (by decide) W_TB 0 (by decide))

/-! ### The writes (R224, R229, R231) -/

/-- SRVEN as written is not refused. -/
def State.srvTaken (s : State) (n : Port) (v : Word) : Prop := v.getLsbD 1 = false ∨ s.srvEn n = true ∨ s.srvRefused n = false

theorem State.srvIgnored_ctl (v : Nat) : s.srvIgnored (wPtp n) PTP_CTL (s.view (wPtp n) PTP_CTL) v =
    (bitOf v 1 && !s.srvEn n && s.srvRefused n) := by
  rw [State.srvIgnored_ptp, State.view_ptpCtl, State.srvEn_eq]
  rfl

theorem State.srvIgnored_iff (v : Word) {a : Nat} (ha : bitOf a 1 = v.getLsbD 1) :
    s.srvIgnored (wPtp n) PTP_CTL (s.view (wPtp n) PTP_CTL) a = false ↔ s.srvTaken n v := by
  rw [State.srvIgnored_ctl, ha]
  unfold State.srvTaken
  cases v.getLsbD 1 with
  | false => simp
  | true =>
    cases s.srvEn n with
    | false => simp
    | true => simp

theorem State.doorWrite_ptpCtl (hs : s.Ready) (hr : r ≠ .i2c) {a : Nat}
    (href : ¬ (rises (s.rn (wPtp n) PTP_CTL) a = true ∧ s.ptpEnableRefused n = true))
    (hsrv : s.srvIgnored (wPtp n) PTP_CTL (s.view (wPtp n) PTP_CTL) a = false) :
    s.doorWrite r (regAddr (wPtp n) PTP_CTL) 15 a =
      (s.ptpCtlTaken n a).emit (.answer r (regAddr (wPtp n) PTP_CTL) .ok (BitVec.ofNat 32 a)) := by
  obtain ⟨y, hmoves⟩ := State.ptpCtlTaken_moves (n := n) hs.1 a
  have hput : (s.wr (wPtp n) PTP_CTL a).sys = s.sys := rfl
  have hn : s.refuses r (wPtp n) PTP_CTL (s.view (wPtp n) PTP_CTL) a = none := by
    rw [State.refuses_ptp, State.view_ptpCtl]
    exact if_neg fun h => href h.2
  have hw := State.regWrite_openRun (openRun_ptpCtl r n) hsrv hn
  rw [State.written_ptpCtl, State.view_ptpCtl, ← State.written_ptpCtl (r := .pcie)] at hw
  exact State.doorWrite_reg hr (wPtp_plain n).1 (by decide) (by decide) hw ((hmoves.win.sys.trans hput) ▸ hs.2.1)

theorem State.ptpCfgRef_eq : s.ptpCfgRef n = s.sts (wPtp n) PTP_STS (2 ^ 9) := rfl

/-- R224: an enable for peer delay at an INLINE port is refused. -/
theorem ptpEnable_refused (hs : s.Ready) (hr : r ≠ .i2c) (v : Word) (hoff : s.ptpOn n = false) (href : s.ptpEnableRefused n = true) :
    s.To (.ptpEnable r n v) fun t => t.ptpOn n = false ∧ bitOf (t.rn (wPtp n) PTP_STS) 9 = true ∧
      t.Answered r (regAddr (wPtp n) PTP_CTL) .wign (v ||| 1) := by
  have hrise : rises (s.rn (wPtp n) PTP_CTL) (putBits v.toNat 0 1 1) = true :=
    (rises_iff _ _).mpr ⟨State.ptpOn_eq.symm.trans hoff, bitOf_putBits_one _ _ _⟩
  have hw := State.regWrite_openRun_refused (s := s) (openRun_ptpCtl r n)
    ((State.refuses_ptp PTP_CTL (s.view (wPtp n) PTP_CTL) (putBits v.toNat 0 1 1)).trans (if_pos ⟨rfl, State.view_ptpCtl ▸ hrise, href⟩))
  have hsts : s.NetMoves (wPtp n) [.word PTP_STS] (s.ptpCfgRef n) :=
    (State.NetMoves.refl hs.1 (wPtp_plain n)).wr _ (by decide) (by decide)
  have hrec := (State.NetMoves.refl (fs := []) hsts.win.inv (wPtp_plain n)).accRecord (ptpApart_own n).hif r true
    (regAddr (wPtp n) PTP_CTL) .wign
  have hdoor := State.doorWrite_reg hr (wPtp_plain n).1 (by decide) (by decide) hw
    (by rw [hrec.win.sys, hsts.win.sys]; exact hs.2.1)
  refine ⟨_, congrArg Host.Outcome.next hdoor, ?_, ?_, ofNat_putBits_enable v ▸ List.getLast?_concat ..⟩
  · exact (hrec.win.flag _ (by decide)).trans ((hsts.win.flag _ (by decide)).trans hoff)
  · rw [State.emit_rn, hrec.win.rn _ (by decide), State.ptpCfgRef_eq, State.sts_bitOf hs.1.canon _ _ (by decide)]

theorem ptpEnable_takes (hs : s.Ready) (hr : r ≠ .i2c) (v : Word) (hoff : s.ptpOn n = false) (href : s.ptpEnableRefused n = false)
    (hsrv : s.srvTaken n v) : s.To (.ptpEnable r n v) fun t => t.ptpOn n = true ∧
      t.get W_DMA (DMA_QCFG_CONS.up (qOff (s.get (wPtp n) PTP_QCFG_TXQ))) = 3 ∧
      t.Answered r (regAddr (wPtp n) PTP_CTL) .ok (v ||| 1) := by
  have hbit : bitOf (putBits v.toNat 0 1 1) 1 = v.getLsbD 1 := bitOf_set v 0 1
  have hrise : rises (s.rn (wPtp n) PTP_CTL) (putBits v.toNat 0 1 1) = true :=
    (rises_iff _ _).mpr ⟨State.ptpOn_eq.symm.trans hoff, bitOf_putBits_one _ _ _⟩
  have hdoor := State.doorWrite_ptpCtl hs hr (n := n) (a := putBits v.toNat 0 1 1) (fun h => Bool.false_ne_true (href.symm.trans h.2))
    ((State.srvIgnored_iff v hbit).mpr hsrv)
  refine ⟨_, congrArg Host.Outcome.next hdoor, ?_, State.ptpCtlTaken_cons hs.1 hrise, ofNat_putBits_enable v ▸ List.getLast?_concat ..⟩
  obtain ⟨y, hmoves⟩ := State.ptpCtlTaken_moves (n := n) hs.1 (putBits v.toNat 0 1 1)
  rw [State.ptpOn_eq, State.emit_rn, hmoves.win.rn _ (by decide), State.bitOf_rn_wr hs.1.canon _ _ _ (by decide), bitOf_putBits_one]
  rfl

/-- A write of PTPn_CTL that is no refused enable. -/
theorem State.enable_not_refused (v : Word) (href : s.ptpOn n = true ∨ v.getLsbD 0 = false ∨ s.ptpEnableRefused n = false) :
    ¬ (rises (s.rn (wPtp n) PTP_CTL) v.toNat = true ∧ s.ptpEnableRefused n = true) := by
  rintro ⟨hrise, hbad⟩
  obtain ⟨hold, hnew⟩ := (rises_iff _ _).mp hrise
  rcases href with href | href | href
  · exact Bool.false_ne_true (hold.symm.trans (State.ptpOn_eq.symm.trans href))
  · exact Bool.false_ne_true (href.symm.trans ((bitOf_toNat v 0).symm.trans hnew))
  · exact Bool.false_ne_true (href.symm.trans hbad)

/-- A write that asks for a refused servo raises the event and is ignored whole (R231). -/
theorem State.regWrite_openRun_ignored {off a : Nat} (h : openRun r w off = true) (hsrv : s.srvIgnored w off (s.view w off) a = true)
    (hn : s.refuses r w off (s.view w off) a = none) : s.regWrite r w off .plain a = (.ok, s.srvRef (w - W_PTP)) := by
  obtain ⟨hrow, hguard, -, -, hm, hg⟩ := (openRun_iff r w off).mp h
  obtain ⟨row, hrow, hc⟩ := Option.map_eq_some_iff.mp hrow
  simp [State.regWrite, hrow, hc, State.writeLocked_openRun h, hguard, State.runWrite, hm, aliasValue, hn, State.runTake, hg, hsrv]

/-- A whole register written at the door, as a command's execution. -/
theorem exec_wrReg {i : Instr} {off : Nat} (hi : exec i s = .next (s.wrReg r w off v)) (hr : r ≠ .i2c) (hlt : w < W_ENG)
    (h4 : off % 4 = 0) (ho : off < 0x1000) (hw : s.regWrite r w off .plain v.toNat = (.ok, t)) (hsoft : t.sys.soft = false) :
    ∃ o, exec i s = .next (t.emit o) :=
  (State.doorWrite_taken hr hlt h4 ho hw hsoft).imp fun _ ho => hi.trans (congrArg _ ho)

/-- R231: SRVEN is refused beside another servo or on a ring member: the write is ignored whole. -/
theorem ptpSrvenWrite_refused (hs : s.Ready) (hr : r ≠ .i2c) (v : Word)
    (href : s.ptpOn n = true ∨ v.getLsbD 0 = false ∨ s.ptpEnableRefused n = false) (hsrv : ¬ s.srvTaken n v) :
    s.To (.ptpSrvenWrite r n v) fun t => t.rn (wPtp n) PTP_CTL = s.rn (wPtp n) PTP_CTL ∧ t.evPending (evNo (10 + n) 16) = true := by
  have hignored : s.srvIgnored (wPtp n) PTP_CTL (s.view (wPtp n) PTP_CTL) v.toNat = true :=
    (Bool.not_eq_false _).mp ((State.srvIgnored_iff v (bitOf_toNat v 1)).not.mpr hsrv)
  have hn : s.refuses r (wPtp n) PTP_CTL (s.view (wPtp n) PTP_CTL) v.toNat = none := by
    rw [State.refuses_ptp, State.view_ptpCtl]
    exact if_neg fun h => State.enable_not_refused v href h.2
  have hport : wPtp n - W_PTP = n := Nat.add_sub_cancel_left _ _
  have hw := State.regWrite_openRun_ignored (openRun_ptpCtl r n) hignored hn
  rw [hport] at hw
  have hraised : s.NetMoves (wPtp n) [.word PTP_STS] (s.srvRef n) :=
    (State.NetMoves.refl hs.1 (wPtp_plain n)).ptpEvent (fun _ => by decide) 8 (by decide)
  exact .of_emit (exec_wrReg rfl hr (wPtp_plain n).1 (by decide) (by decide) hw (hraised.win.sys ▸ hs.2.1)) fun o =>
    ⟨hraised.win.rn _ (by decide), State.ptpEvent_pending hs.1 8 (by decide)⟩

/-- A write of PTPn_CTL that is taken; a servo that it ends leaves a word of 0. -/
theorem ptpSrvenWrite_takes (hs : s.Ready) (hr : r ≠ .i2c) (v : Word)
    (href : s.ptpOn n = true ∨ v.getLsbD 0 = false ∨ s.ptpEnableRefused n = false) (hsrv : s.srvTaken n v) :
    s.To (.ptpSrvenWrite r n v) fun t => t.rn (wPtp n) PTP_CTL = v.toNat ∧
      (s.srvEn n = true → v.getLsbD 1 = false → s.safe = false → t.pair W_TB TB_SRVW_LO % 2 ^ 48 = 0) := by
  have hdoor := State.doorWrite_ptpCtl hs hr (n := n) (a := v.toNat) (State.enable_not_refused v href)
    ((State.srvIgnored_iff v (bitOf_toNat v 1)).mpr hsrv)
  refine ⟨_, congrArg Host.Outcome.next hdoor, ?_, fun hwas hnow hsafe => State.ptpCtlTaken_srvw hs.1 hwas
    ((bitOf_toNat v 1).trans hnow) hsafe⟩
  exact (State.ptpCtlTaken_ctl hs.1 _).trans (Nat.mod_eq_of_lt v.isLt)

/-- PSTATE takes the value; a change of rank is news for the selectors (R62, R229). -/
theorem ptpPstateWrite_takes (hs : s.Ready) (v : Word) : s.To (.ptpPstateWrite (.eng 0) n v) fun t => t.rn (wPtp n) PTP_PSTATE = v.toNat := by
  have hput := State.NetMoves.refl (fs := []) (hs.1.wr (wPtp n) PTP_PSTATE v.toNat) (wPtp_plain n)
  have htold {old : Nat} : (s.wr (wPtp n) PTP_PSTATE v.toNat).NetMoves (wPtp n) []
      ((s.wr (wPtp n) PTP_PSTATE v.toNat).written (.eng 0) (wPtp n) PTP_PSTATE old) :=
    State.written_ptpPstate (r := .eng 0) old ▸ .ite (fun _ => hput) fun _ => hput.rankChanged
  have hsrv : s.srvIgnored (wPtp n) PTP_PSTATE (s.view (wPtp n) PTP_PSTATE) v.toNat = false := by
    rw [State.srvIgnored_ptp]
    rfl
  have hw := State.regWrite_openRun (openRun_ptpPstate n) hsrv (State.refuses_ptp_other (s := s) (by decide) _ v.toNat)
  refine .of_emit (exec_wrReg (r := .eng 0) (w := wPtp n) rfl nofun (wPtp_plain n).1 (by decide) (by decide) hw
    (htold.win.sys ▸ hs.2.1)) fun o => ?_
  rw [State.emit_rn, htold.win.rn _ (by decide), State.rn_wr_same _ hs.1.canon]
  exact Nat.mod_eq_of_lt v.isLt

end

end Sys2Proof.Machine

/-!
PROOF. Offsets: the commit, step hold and the hardware servo (R230 to R233, R239).
-/

namespace Sys2Proof.Machine

section
variable {s t : State} {n : Port} {w : Nat} {fs : List Fld} {x : PtpSt} {v : Word}

/-! ### What an engine has committed (R230) -/

/-- The registers of a commit. -/
def ofsFlds : List Fld := [.word PTP_OFSEP, .word PTP_OFS_LO, .word PTP_OFS_HI, .word PTP_MPD_LO, .word PTP_MPD_HI]

/-- What engine `9 + n` has staged is in its registers, with `v` as OFS_HI. -/
def State.ofsStored (s : State) (n : Port) (v : Nat) : State :=
  let take (off : Nat) (t : State) : State := t.wr (wPtp n) off (s.stagedVal (.eng (9 + n)) (wPtp n) off)
  (take PTP_OFSEP (take PTP_MPD_LO (take PTP_MPD_HI (take PTP_OFS_LO s)))).wr (wPtp n) PTP_OFS_HI v

theorem State.ptpOfsWrite_eq (v : Nat) : s.ptpOfsWrite (.eng (9 + n)) n v = (s.ofsStored n v).ofsCommit n := rfl

theorem State.ofsStored_moves (h : s.Inv) (hw : w < W_ENG ∧ w ≠ W_EVT) (hf : wPtp n = w → ofsFlds ⊆ fs) (v : Nat) :
    s.PortMoves n w fs (s.ptp n) (s.ofsStored n v) := by
  have hword {off : Nat} (hoff : Fld.word off ∈ ofsFlds) (he : wPtp n = w) : Fld.word off ∈ fs := hf he hoff
  have hevt := (wPtp_plain n).2
  exact (State.PortMoves.refl h hw).net ((((((State.NetMoves.refl h hw).wrAny _ (hword (by decide)) hevt (by decide)).wrAny _
    (hword (by decide)) hevt (by decide)).wrAny _ (hword (by decide)) hevt (by decide)).wrAny _ (hword (by decide)) hevt (by decide)).wrAny _
    (hword (by decide)) hevt (by decide))

theorem State.ofsStored_epoch (h : s.Inv) (v : Nat) :
    (s.ofsStored n v).get (wPtp n) PTP_OFSEP_V = s.stagedVal (.eng (9 + n)) (wPtp n) PTP_OFSEP % 2 ^ 16 := by
  have hrest : (s.wr (wPtp n) PTP_OFS_LO (s.stagedVal (.eng (9 + n)) (wPtp n) PTP_OFS_LO)).Inv := h.wr _ _ _
  have hbefore := (hrest.wr (wPtp n) PTP_MPD_HI (s.stagedVal (.eng (9 + n)) (wPtp n) PTP_MPD_HI)).wr (wPtp n) PTP_MPD_LO
    (s.stagedVal (.eng (9 + n)) (wPtp n) PTP_MPD_LO)
  have hlast := (State.NetMoves.refl (fs := [.word PTP_OFS_HI]) (hbefore.wr (wPtp n) PTP_OFSEP
    (s.stagedVal (.eng (9 + n)) (wPtp n) PTP_OFSEP)) (wPtp_plain n)).wr (off := PTP_OFS_HI) v (by decide) (by decide)
  have hget := hlast.win.get PTP_OFSEP_V (by decide)
  unfold State.ofsStored
  dsimp only
  rw [hget, State.get, show PTP_OFSEP_V.off = PTP_OFSEP from rfl, State.rn_wr_same _ hbefore.canon, bitsOf_mod32 _ _ _ (by decide)]
  exact congrArg (· % 2 ^ 16) (Nat.div_one _)

/-- The offset committed. -/
theorem State.ofsStored_ofs (h : s.Inv) (v : Word) : (s.ofsStored n v.toNat).ptpOfs n =
    toSigned 64 (s.stagedVal (.eng (9 + n)) (wPtp n) PTP_OFS_LO + v.toNat * 2 ^ 32) := by
  let sv (off : Nat) : Nat := s.stagedVal (.eng (9 + n)) (wPtp n) off
  have hlow := (((State.NetMoves.refl (fs := [.word PTP_OFSEP, .word PTP_OFS_HI, .word PTP_MPD_LO, .word PTP_MPD_HI])
    (h.wr (wPtp n) PTP_OFS_LO (sv PTP_OFS_LO)) (wPtp_plain n)).wr (off := PTP_MPD_HI) (sv PTP_MPD_HI) (by decide) (by decide)).wr
    (off := PTP_MPD_LO) (sv PTP_MPD_LO) (by decide) (by decide)).wr (off := PTP_OFSEP) (sv PTP_OFSEP) (by decide) (by decide)
  have hhigh := hlow.wr (off := PTP_OFS_HI) v.toNat (by decide) (by decide)
  have hlo : (s.ofsStored n v.toNat).rn (wPtp n) PTP_OFS_LO = sv PTP_OFS_LO :=
    (hhigh.win.rn _ (by decide)).trans ((State.rn_wr_same _ h.canon _ _ _).trans (Nat.mod_eq_of_lt (State.stagedVal_lt _ _ _)))
  have hhi : (s.ofsStored n v.toNat).rn (wPtp n) PTP_OFS_HI = v.toNat :=
    (State.rn_wr_same _ hlow.win.inv.canon _ _ _).trans (Nat.mod_eq_of_lt v.isLt)
  unfold State.ptpOfs State.pair
  rw [show PTP_OFS_LO + 4 = PTP_OFS_HI from rfl, hlo, hhi]

/-! ### An offset heard (R239) -/

/-- The registers of the comparison of the two ports. -/
def xofsFlds : List Fld := [.word PTP_XOFS, .word PTP_STS]

theorem State.NetMoves.xofs (h : s.NetMoves w fs t) (hw : PtpApart n w) (hf : wPtp n = w → xofsFlds ⊆ fs) : s.NetMoves w fs t.xofs := by
  have hown (he : wPtp (0 : Port) = w) : xofsFlds ⊆ fs := by
    by_cases hn : 0 = n
    · exact hf (hn ▸ he)
    · exact absurd he (hw.other 0 hn)
  have hput (d : Nat) : s.NetMoves w fs (t.wr (wPtp (0 : Port)) PTP_XOFS d) :=
    h.wrAny _ (fun he => hown he (by decide)) (wPtp_plain 0).2 (by decide)
  unfold State.xofs
  dsimp only
  split
  · exact .ite (fun _ => (hput _).ptpEvent (n := 0) (fun he => hown he (by decide)) 10 (by decide)) fun _ => hput _
  · exact hput _

/-- The offset is noted, and the comparison made anew. -/
def State.ofsHeard (s : State) (n : Port) (o : Int) : State := ((s.modPtp n (fun x => { x with ofs := o })).meanTake n o).xofs

theorem State.PortMoves.ofsHeard (h : s.PortMoves n w fs x t) (hw : PtpApart n w) (hf : wPtp n = w → xofsFlds ⊆ fs) (o : Int) :
    ∃ y, s.PortMoves n w fs y (t.ofsHeard n o) ∧ y.heldOfs = x.heldOfs ∧ y.i = x.i ∧ y.p = x.p := by
  have hmean := (h.modPtp fun x => { x with ofs := o }).modPtp fun x =>
    if t.tb.c / secU = x.secIdx then { x with sum := x.sum + o, count := x.count + 1 }
    else { x with mean := if x.count = 0 then none else some (quotFree x.sum x.count), sum := o, count := 1, secIdx := t.tb.c / secU }
  refine ⟨_, hmean.net (hmean.here.xofs hw hf), ?_⟩
  split
  · exact ⟨rfl, rfl, rfl⟩
  · exact ⟨rfl, rfl, rfl⟩

/-! ### Step hold (R233) -/

/-- What an offset beyond the threshold leaves. -/
theorem State.stepHold_shows (h : s.Inv) (o : Int) : let t := s.stepHold n o
    t.Inv ∧ t.sys = s.sys ∧ t.stepPend n = true ∧ t.triple (wPtp n) PTP_STEPAMT_W0 = ofSigned 96 (-o) ∧
      (t.ptp n).heldOfs = (s.ptp n).heldOfs ∧ (t.ptp n).i = (s.ptp n).i ∧
      (s.stepPend n = false → t.evPending (evNo (10 + n) 10) = true ∧ (t.ptp n).p = 0) := by
  let u := s.putTriple (wPtp n) PTP_STEPAMT_W0 (ofSigned 96 (-o))
  have hamount : s.NetMoves (wPtp n) [.word PTP_STEPAMT_W0, .word PTP_STEPAMT_W1, .word PTP_STEPAMT_W2] u :=
    (((State.NetMoves.refl h (wPtp_plain n)).wr _ (by decide) (by decide)).wr _ (by decide) (by decide)).wr _ (by decide) (by decide)
  have htriple : u.triple (wPtp n) PTP_STEPAMT_W0 = ofSigned 96 (-o) :=
    (State.triple_putTriple h.canon _ _ _ (by decide)).trans (Nat.mod_eq_of_lt (ofSigned_lt 96 _))
  have hptp : u.ptp n = s.ptp n := hamount.net.ptp n
  have hpend : u.stepPend n = s.stepPend n := hamount.win.flag _ (by decide)
  cases hold : s.stepPend n with
  | true =>
    have heq : s.stepHold n o = u := if_pos hold
    rw [heq]
    exact ⟨hamount.win.inv, hamount.win.sys, hpend.trans hold, htriple, by rw [hptp], by rw [hptp], nofun⟩
  | false =>
    have heq : s.stepHold n o = (((u.ptpSrcHold n).put (wPtp n) PTP_STATE_STEPPEND 1).srvHold n).ptpEvent n 2 10 :=
      if_neg (by rw [hold]; exact Bool.false_ne_true)
    have hheld := (State.NetMoves.refl (fs := [PTP_STATE_SRCHELD]) hamount.win.inv (wPtp_plain n)).ptpSrcHold (ptpApart_own n)
      fun _ => by decide
    have hput := (State.NetMoves.refl (fs := [PTP_STATE_STEPPEND]) hheld.win.inv (wPtp_plain n)).put (f := PTP_STATE_STEPPEND) 1 (by decide)
      (by decide)
    have hsrv := (State.PortMoves.refl (n := n) (fs := srviFlds) hput.win.inv (wPtp_plain n)).srvHold (ptpApart_own n)
      fun _ => List.Subset.refl _
    have hev := (State.NetMoves.refl (fs := [.word PTP_STS]) hsrv.win.inv (wPtp_plain n)).ptpEvent (n := n) (b := 10) (fun _ => by decide) 2
      (by decide)
    have hrec : ((((u.ptpSrcHold n).put (wPtp n) PTP_STATE_STEPPEND 1).srvHold n).ptpEvent n 2 10).ptp n = { s.ptp n with p := 0 } := by
      rw [hev.net.ptp, hsrv.ptp, hput.net.ptp, hheld.net.ptp, hptp]
    rw [heq]
    refine ⟨hev.win.inv, ?_, ?_, ?_, by rw [hrec], by rw [hrec], fun _ => ⟨State.ptpEvent_pending hsrv.win.inv 2 (by decide), by rw [hrec]⟩⟩
    · rw [hev.win.sys, hsrv.win.sys, hput.win.sys, hheld.win.sys, hamount.win.sys]
    · exact (hev.win.flag _ (by decide)).trans ((hsrv.win.flag _ (by decide)).trans
        (State.flag_put_same hheld.win.inv.canon (wPtp n) PTP_STATE_STEPPEND true rfl (by decide)))
    · rw [hev.win.triple _ (by decide) (by decide) (by decide), hsrv.win.triple _ (by decide) (by decide) (by decide),
        hput.win.triple _ (by decide) (by decide) (by decide), hheld.win.triple _ (by decide) (by decide) (by decide)]
      exact htriple

/-! ### An offset accepted (R231, R232, R237) -/

/-- The offset within the threshold has ended step hold and is the sample held. -/
def State.acceptKept (s : State) (n : Port) (o : Int) : State :=
  let s1 := s.put (wPtp n) PTP_STATE_STEPPEND 0
  let s2 := if s1.vsrcEn n then s1.srcVirtual (18 + n) ((s1.ptp n).syncAt.getD s.tb.c) o else s1
  (s2.ptpSrcResume n).modPtp n (fun x =>
    { x with heldOfs := o, interval := (signedDiff 96 s.tb.c x.sampleAt).toNat, sampleAt := s.tb.c })

theorem State.ptpAccept_within {o : Int} (hstep : o.natAbs ≤ s.srvStep n) (hpath : s.pathSt n ≠ 1) : s.ptpAccept n o =
    if (s.acceptKept n o).srvEn n ∧ (s.acceptKept n o).tb.steer = 1 then (s.acceptKept n o).servo n o else s.acceptKept n o :=
  (if_neg (by omega)).trans (if_neg hpath)

theorem State.ptpAccept_beyond {o : Int} (hstep : s.srvStep n < o.natAbs) : s.ptpAccept n o = s.stepHold n o := if_pos hstep

theorem State.PortMoves.acceptKept (h : s.PortMoves n w fs x t) (hw : PtpApart n w)
    (hf : wPtp n = w → PTP_STATE_STEPPEND ∈ fs ∧ PTP_STATE_SRCHELD ∈ fs) (o : Int) :
    ∃ y, s.PortMoves n w fs y (t.acceptKept n o) ∧ y.heldOfs = o := by
  have hput := h.here.putAny (w' := wPtp n) (f := PTP_STATE_STEPPEND) 0 (fun he => (hf he).1) (wPtp_plain n).2 (by decide)
  have hsampled : t.NetMoves w fs (if (t.put (wPtp n) PTP_STATE_STEPPEND 0).vsrcEn n then (t.put (wPtp n) PTP_STATE_STEPPEND 0).srcVirtual
      (18 + n) (((t.put (wPtp n) PTP_STATE_STEPPEND 0).ptp n).syncAt.getD t.tb.c) o else t.put (wPtp n) PTP_STATE_STEPPEND 0) :=
    .ite (fun _ => hput.srcVirtual (by omega) hw.src _ _) fun _ => hput
  exact ⟨_, (h.net (hsampled.ptpSrcResume hw fun he => (hf he).2)).modPtp fun x =>
    { x with heldOfs := o, interval := (signedDiff 96 t.tb.c x.sampleAt).toNat, sampleAt := t.tb.c }, rfl⟩

/-- Step hold has ended. -/
theorem State.acceptKept_stepPend (h : s.Inv) (o : Int) : (s.acceptKept n o).stepPend n = false := by
  let u := s.put (wPtp n) PTP_STATE_STEPPEND 0
  have hput : u.Inv := h.put _ _ _
  have hpend : u.stepPend n = false := State.flag_put_same h.canon (wPtp n) PTP_STATE_STEPPEND false rfl (by decide)
  have hstart := State.NetMoves.refl (fs := [PTP_STATE_SRCHELD]) hput (wPtp_plain n)
  have hsampled : u.NetMoves (wPtp n) [PTP_STATE_SRCHELD] (if u.vsrcEn n then u.srcVirtual (18 + n) ((u.ptp n).syncAt.getD s.tb.c) o else u) :=
    .ite (fun _ => hstart.srcVirtual (by omega) (ptpApart_own n).src _ _) fun _ => hstart
  exact ((hsampled.ptpSrcResume (ptpApart_own n) fun _ => by decide).win.flag PTP_STATE_STEPPEND (by decide)).trans hpend

/-- R232: the servo takes an offset to its terms and to a word within FLIM. -/
theorem State.servo_eq (o : Int) : ∃ (i : PtpSt → Int) (p : Int),
    s.servo n o = (s.modPtp n (fun y => { y with i := i y, p := p })).srvWrite n := ⟨_, _, rfl⟩

theorem State.PortMoves.servo (h : s.PortMoves n w fs x t) (hw : PtpApart n w) (hf : wPtp n = w → srviFlds ⊆ fs) (o : Int) :
    ∃ i p, s.PortMoves n w fs { x with i := i, p := p } (t.servo n o) := by
  obtain ⟨i, p, heq⟩ := t.servo_eq (n := n) o
  exact ⟨_, _, heq ▸ (h.modPtp fun y => { y with i := i y, p := p }).srvWrite hw hf⟩

/-- The limit of a word's magnitude lies within 48 bits. -/
theorem State.flim_range (k : Nat) : 0 ≤ s.flim k ∧ s.flim k < 2 ^ 47 := by
  unfold State.flim
  have hle : min 1000000 (max 1 (s.rn (wDpll k) DPLL_FLIM)) ≤ 1000000 := Nat.min_le_left _ _
  omega

theorem State.tbServoWord_pair (w off : Nat) : s.tbServoWord.pair w off = s.pair w off := rfl

theorem State.srvWrite_word (h : s.Inv) (hen : s.srvEn n = true) (hsafe : s.safe = false) :
    -(s.flim 3) ≤ toSigned 48 ((s.srvWrite n).pair W_TB TB_SRVW_LO) ∧ toSigned 48 ((s.srvWrite n).pair W_TB TB_SRVW_LO) ≤ s.flim 3 := by
  let i := satSigned 48 (quotFree (s.ptp n).i (2 ^ 16))
  let u := s.putPair (wPtp n) PTP_SRVI_LO (ofSigned 48 i)
  let word := clampInt (-(s.flim 3)) (s.flim 3) (i + (s.ptp n).p)
  have hshown : s.NetMoves (wPtp n) srviFlds u := (State.NetMoves.refl h (wPtp_plain n)).putPairAny _
    (fun _ => ⟨by decide, by decide⟩) (wPtp_plain n).2 (by decide)
  have hwrite : s.srvWrite n = u.putSrvw n word := if_pos hen
  have hput : u.putSrvw n word = (u.putPair W_TB TB_SRVW_LO (ofSigned 48 word)).tbServoWord :=
    if_neg (by rw [State.safe, hshown.net.safe, ← State.safe, hsafe]; exact Bool.false_ne_true)
  obtain ⟨hpos, hlt⟩ := s.flim_range 3
  have hword : word = max (-(s.flim 3)) (min (s.flim 3) (i + (s.ptp n).p)) := clampInt_eq (by omega) _
  have hpair : (s.srvWrite n).pair W_TB TB_SRVW_LO = ofSigned 48 word := by
    rw [hwrite, hput, State.tbServoWord_pair]
    exact State.pair_putPair_signed hshown.win.inv.canon (by decide) W_TB word (by decide)
  rw [hpair, toSigned_ofSigned (by decide) (by omega) (by omega)]
  omega

theorem State.servo_word (h : s.Inv) (hen : s.srvEn n = true) (hsafe : s.safe = false) (o : Int) :
    -(s.flim 3) ≤ toSigned 48 ((s.servo n o).pair W_TB TB_SRVW_LO) ∧ toSigned 48 ((s.servo n o).pair W_TB TB_SRVW_LO) ≤ s.flim 3 := by
  obtain ⟨i, p, heq⟩ := s.servo_eq (n := n) o
  have hrec := (State.PortMoves.refl (n := n) (fs := []) h (wPtp_plain n)).modPtp fun y => { y with i := i y, p := p }
  rw [heq]
  exact State.srvWrite_word (s := s.modPtp n fun y => { y with i := i y, p := p }) hrec.win.inv hen hsafe

/-- What an offset within the threshold leaves where path hold does not last. -/
theorem State.ptpAccept_shows (h : s.Inv) {o : Int} (hstep : o.natAbs ≤ s.srvStep n) (hpath : s.pathSt n ≠ 1) :
    let t := s.ptpAccept n o
    t.Inv ∧ t.sys = s.sys ∧ t.stepPend n = false ∧ (t.ptp n).heldOfs = o ∧ (s.srvEn n = true → s.tb.steer = 1 → s.safe = false →
      -(s.flim 3) ≤ toSigned 48 (t.pair W_TB TB_SRVW_LO) ∧ toSigned 48 (t.pair W_TB TB_SRVW_LO) ≤ s.flim 3) := by
  obtain ⟨k, hk⟩ : ∃ k, s.acceptKept n o = k := ⟨_, rfl⟩
  obtain ⟨y, hkept, hofs⟩ := (State.PortMoves.refl (n := n) (fs := [PTP_STATE_STEPPEND, PTP_STATE_SRCHELD]) h (wPtp_plain n)).acceptKept
    (ptpApart_own n) (fun _ => ⟨by decide, by decide⟩) o
  obtain ⟨y', hloop, -⟩ := (State.PortMoves.refl (n := n) (fs := []) h (ptpApart_loop n).plain).acceptKept (ptpApart_loop n)
    (fun he => absurd he (wPtp_ne_loop n)) o
  have hpend := State.acceptKept_stepPend (n := n) h o
  have hwithin := State.ptpAccept_within hstep hpath
  rw [hk] at hkept hloop hpend hwithin
  have hen : k.srvEn n = s.srvEn n := hkept.win.flag _ (by decide)
  have hsteer : k.tb.steer = s.tb.steer := hkept.clock.2.2
  have hflim : k.flim 3 = s.flim 3 := by
    unfold State.flim
    rw [hloop.win.rn _ (by decide)]
  have hsafe : k.safe = s.safe := congrArg (· == .safe) hkept.safe
  intro t
  by_cases hservo : k.srvEn n = true ∧ k.tb.steer = 1
  · have ht : t = k.servo n o := hwithin.trans (if_pos hservo)
    obtain ⟨i, p, hrun⟩ := (State.PortMoves.refl (n := n) (fs := srviFlds) hkept.win.inv (wPtp_plain n)).servo (ptpApart_own n)
      (fun _ => List.Subset.refl _) o
    rw [ht]
    refine ⟨hrun.win.inv, hrun.win.sys.trans hkept.win.sys, (hrun.win.flag _ (by decide)).trans hpend, ?_, fun _ _ hsafe' => ?_⟩
    · rw [hrun.ptp, hkept.ptp]
      exact hofs
    · exact hflim ▸ State.servo_word hkept.win.inv hservo.1 (hsafe.trans hsafe') o
  · have ht : t = k := hwithin.trans (if_neg hservo)
    rw [ht]
    refine ⟨hkept.win.inv, hkept.win.sys, hpend, ?_, fun hen' hsteer' => absurd ⟨hen.trans hen', hsteer.trans hsteer'⟩ hservo⟩
    rw [hkept.ptp]
    exact hofs

/-! ### The command PTP_OFFSET_COMMIT (R230) -/

theorem openCmd_ptpOfs : ∀ n : Port, openCmd (.eng (9 + n)) (wPtp n) PTP_OFS_HI = true := by decide

theorem State.cmdAct_ptpOfs (v : Nat) : s.cmdAct (.eng (9 + n)) (wPtp n) PTP_OFS_HI v = (s.ofsStored n v).ofsCommit n := by
  simp only [State.cmdAct, winBlock_ptp]
  exact (if_pos trivial).trans (State.ptpOfsWrite_eq v)

theorem exec_ptpOffsetCommit (hs : s.Ready) (v : Word) (hact : (s.ofsStored n v.toNat).ofsCommit n = t) (hsys : t.sys = s.sys) :
    ∃ o, exec (.ptpOffsetCommit (.eng (9 + n)) n v) s = .next (t.emit o) :=
  exec_wrReg (r := .eng (9 + n)) (w := wPtp n) rfl nofun (wPtp_plain n).1 (by decide) (by decide)
    ((State.regWrite_openCmd (openCmd_ptpOfs n) hs.2.2 (State.refuses_ptp_other (by decide) _ _)).trans
      (congrArg _ ((State.cmdAct_ptpOfs _).trans hact))) (hsys ▸ hs.2.1)

/-- The commit of an offset at an engine that runs: of another epoch, or heard. -/
theorem State.ofsCommit_other (hon : s.ptpOn n = true) (hep : s.get (wPtp n) PTP_OFSEP_V ≠ s.tb.epoch) :
    s.ofsCommit n = (s.count (wPtp n) PTP_EPDROP 1).ptpEvent n 7 15 := (if_neg (not_not.mpr hon)).trans (if_pos hep)

theorem State.ofsCommit_slave (hon : s.ptpOn n = true) (hep : s.get (wPtp n) PTP_OFSEP_V = s.tb.epoch)
    (hslave : s.slave n = true) : s.ofsCommit n =
      ((s.ofsHeard n (s.ptpOfs n)).ptpAccept n (s.ptpOfs n)).modPtp n (fun x => { x with lastAt := some s.tb.c }) :=
  (if_neg (not_not.mpr hon)).trans ((if_neg (not_not.mpr hep)).trans (if_pos hslave))

/-- A stored commit finds the engine's registers and the timebase as they were. -/
theorem State.ofsStored_beside (h : s.Inv) (v : Nat) : (s.ofsStored n v).ptpOn n = s.ptpOn n ∧
    (s.ofsStored n v).slave n = s.slave n ∧ (s.ofsStored n v).tb = s.tb := by
  have hstored := State.ofsStored_moves (n := n) h (wPtp_plain n) (fun _ => List.Subset.refl _) v
  refine ⟨hstored.win.flag _ (by decide), ?_, rfl⟩
  unfold State.slave
  rw [hstored.win.get _ (by decide)]

/-- An offset of another epoch is dropped and counted. -/
theorem ptpOffsetCommit_other (hs : s.Ready) (v : Word) (hep : s.stagedVal (.eng (9 + n)) (wPtp n) PTP_OFSEP % 2 ^ 16 ≠ s.tb.epoch)
    (hon : s.ptpOn n = true) : s.To (.ptpOffsetCommit (.eng (9 + n)) n v) fun t =>
      t.evPending (evNo (10 + n) 15) = true ∧ t.ptp n = s.ptp n ∧ t.rn (wPtp n) PTP_EPDROP = (s.rn (wPtp n) PTP_EPDROP + 1) % 2 ^ 32 := by
  obtain ⟨hon', -, htb⟩ := State.ofsStored_beside (n := n) hs.1 v.toNat
  have hstored := State.ofsStored_moves (n := n) hs.1 (wPtp_plain n) (fun _ => List.Subset.refl _) v.toNat
  have hepoch : (s.ofsStored n v.toNat).get (wPtp n) PTP_OFSEP_V ≠ (s.ofsStored n v.toNat).tb.epoch := by
    rwa [State.ofsStored_epoch hs.1, htb]
  have hact := State.ofsCommit_other (hon'.trans hon) hepoch
  obtain ⟨u, hu⟩ : ∃ u, s.ofsStored n v.toNat = u := ⟨_, rfl⟩
  rw [hu] at hstored hact
  have hcount := (State.NetMoves.refl (fs := [.word PTP_EPDROP]) hstored.win.inv (wPtp_plain n)).count (off := PTP_EPDROP) 1 (by decide)
    (by decide)
  have hev := (State.NetMoves.refl (fs := [.word PTP_STS]) hcount.win.inv (wPtp_plain n)).ptpEvent (n := n) (b := 15) (fun _ => by decide) 7
    (by decide)
  refine .of_emit (exec_ptpOffsetCommit hs v (hu ▸ hact) (by rw [hev.win.sys, hcount.win.sys, hstored.win.sys])) fun o =>
    ⟨State.ptpEvent_pending hcount.win.inv 7 (by decide), ?_, ?_⟩
  · exact (hev.net.ptp n).trans ((hcount.net.ptp n).trans hstored.ptp)
  · rw [State.emit_rn, hev.win.rn _ (by decide), State.rn_count_same _ hstored.win.inv.canon, hstored.win.rn _ (by decide)]

/-- The offset that a commit gives. -/
def State.ofsGiven (s : State) (n : Port) (v : Word) : Int :=
  toSigned 64 (s.stagedVal (.eng (9 + n)) (wPtp n) PTP_OFS_LO + v.toNat * 2 ^ 32)

/-- The state in which an offset that has been heard is judged. -/
def State.ofsJudged (s : State) (n : Port) (v : Word) : State := (s.ofsStored n v.toNat).ofsHeard n (s.ofsGiven n v)

theorem State.ofsJudged_moves (h : s.Inv) (hw : PtpApart n w) (hf : wPtp n = w → ofsFlds ++ xofsFlds ⊆ fs) (v : Word) :
    ∃ y, s.PortMoves n w fs y (s.ofsJudged n v) ∧ y.heldOfs = (s.ptp n).heldOfs ∧ y.i = (s.ptp n).i ∧ y.p = (s.ptp n).p :=
  (State.ofsStored_moves h hw.plain (fun he => (List.append_subset.mp (hf he)).1) v.toNat).ofsHeard hw
    (fun he => (List.append_subset.mp (hf he)).2) (s.ofsGiven n v)

/-- The commit of an offset of the present epoch at a slave port. -/
theorem State.ofsStored_commit (h : s.Inv) (v : Word) (hep : s.stagedVal (.eng (9 + n)) (wPtp n) PTP_OFSEP % 2 ^ 16 = s.tb.epoch)
    (hslave : s.slave n = true) (hon : s.ptpOn n = true) : (s.ofsStored n v.toNat).ofsCommit n =
      ((s.ofsJudged n v).ptpAccept n (s.ofsGiven n v)).modPtp n (fun x => { x with lastAt := some s.tb.c }) := by
  obtain ⟨hon', hslave', htb⟩ := State.ofsStored_beside (n := n) h v.toNat
  have hofs : (s.ofsStored n v.toNat).ptpOfs n = s.ofsGiven n v := State.ofsStored_ofs h v
  have hepoch : (s.ofsStored n v.toNat).get (wPtp n) PTP_OFSEP_V = (s.ofsStored n v.toNat).tb.epoch := by
    rw [State.ofsStored_epoch h, htb, hep]
  rw [State.ofsCommit_slave (hon'.trans hon) hepoch (hslave'.trans hslave), hofs, htb, State.ofsJudged]

/-- An offset of the present epoch at a slave port is judged. -/
theorem ptpOffsetCommit_judged (hs : s.Ready) (v : Word)
    (hfits : s.stagedVal (.eng (9 + n)) (wPtp n) PTP_OFSEP % 2 ^ 16 = s.tb.epoch ∧ s.slave n = true) (hon : s.ptpOn n = true)
    (ht : (s.ofsJudged n v).ptpAccept n (s.ofsGiven n v) = t) (hsys : t.sys = (s.ofsJudged n v).sys) :
    ∃ o, exec (.ptpOffsetCommit (.eng (9 + n)) n v) s = .next ((t.modPtp n (fun x => { x with lastAt := some s.tb.c })).emit o) := by
  obtain ⟨y, hjudged, -⟩ := State.ofsJudged_moves (n := n) hs.1 (ptpApart_own n) (fun _ => List.Subset.refl _) v
  have hact := State.ofsStored_commit hs.1 v hfits.1 hfits.2 hon
  rw [ht] at hact
  exact exec_ptpOffsetCommit hs v hact (hsys.trans hjudged.win.sys)

/-- R233: an offset beyond the threshold. -/
theorem ptpOffsetCommit_beyond (hs : s.Ready) (v : Word)
    (hfits : s.stagedVal (.eng (9 + n)) (wPtp n) PTP_OFSEP % 2 ^ 16 = s.tb.epoch ∧ s.slave n = true)
    (hstep : s.srvStep n < (s.ofsGiven n v).natAbs) (hon : s.ptpOn n = true) : s.To (.ptpOffsetCommit (.eng (9 + n)) n v) fun t =>
      t.stepPend n = true ∧ t.triple (wPtp n) PTP_STEPAMT_W0 = ofSigned 96 (-s.ofsGiven n v) ∧ (t.ptp n).heldOfs = (s.ptp n).heldOfs ∧
      (t.ptp n).i = (s.ptp n).i ∧ (s.stepPend n = false → t.evPending (evNo (10 + n) 10) = true ∧ (t.ptp n).p = 0) := by
  obtain ⟨y, hjudged, hofs, hi, -⟩ := State.ofsJudged_moves (n := n) hs.1 (ptpApart_own n) (fun _ => List.Subset.refl _) v
  have hthreshold : (s.ofsJudged n v).srvStep n = s.srvStep n := by
    unfold State.srvStep
    rw [hjudged.win.rn _ (by decide)]
  have hshows := State.stepHold_shows (n := n) hjudged.win.inv (s.ofsGiven n v)
  obtain ⟨t, ht⟩ : ∃ t, (s.ofsJudged n v).ptpAccept n (s.ofsGiven n v) = t := ⟨_, rfl⟩
  rw [← State.ptpAccept_beyond (by rw [hthreshold]; exact hstep), ht] at hshows
  obtain ⟨hinv, hsys, hpend, htriple, hofs', hi', hnew⟩ := hshows
  have hrec := State.modPtp_ptp_same hinv n fun x => { x with lastAt := some s.tb.c }
  refine .of_emit (ptpOffsetCommit_judged hs v hfits hon ht hsys) fun o => ⟨hpend, htriple, ?_, ?_, fun hold => ?_⟩
  · exact (congrArg PtpSt.heldOfs hrec).trans (hofs'.trans ((congrArg PtpSt.heldOfs hjudged.ptp).trans hofs))
  · exact (congrArg PtpSt.i hrec).trans (hi'.trans ((congrArg PtpSt.i hjudged.ptp).trans hi))
  · obtain ⟨hev, hp⟩ := hnew ((hjudged.win.flag PTP_STATE_STEPPEND (by decide)).trans hold)
    exact ⟨hev, (congrArg PtpSt.p hrec).trans hp⟩

/-- R231, R232: an offset within the threshold. -/
theorem ptpOffsetCommit_within (hs : s.Ready) (v : Word)
    (hfits : s.stagedVal (.eng (9 + n)) (wPtp n) PTP_OFSEP % 2 ^ 16 = s.tb.epoch ∧ s.slave n = true)
    (hstep : (s.ofsGiven n v).natAbs ≤ s.srvStep n) (hpath : s.pathSt n ≠ 1) (hon : s.ptpOn n = true) :
    s.To (.ptpOffsetCommit (.eng (9 + n)) n v) fun t => t.stepPend n = false ∧ (t.ptp n).heldOfs = s.ofsGiven n v ∧
      (t.ptp n).lastAt = some s.tb.c ∧ (s.srvEn n = true → s.tb.steer = 1 → s.safe = false →
        -(s.flim 3) ≤ toSigned 48 (t.pair W_TB TB_SRVW_LO) ∧ toSigned 48 (t.pair W_TB TB_SRVW_LO) ≤ s.flim 3) := by
  obtain ⟨y, hjudged, -⟩ := State.ofsJudged_moves (n := n) hs.1 (ptpApart_own n) (fun _ => List.Subset.refl _) v
  obtain ⟨y', hloop, -⟩ := State.ofsJudged_moves (n := n) (fs := []) hs.1 (ptpApart_loop n) (fun he => absurd he (wPtp_ne_loop n)) v
  have hthreshold : (s.ofsJudged n v).srvStep n = s.srvStep n := by
    unfold State.srvStep
    rw [hjudged.win.rn _ (by decide)]
  have hpath' : (s.ofsJudged n v).pathSt n = s.pathSt n := hjudged.win.get _ (by decide)
  have hflim : (s.ofsJudged n v).flim 3 = s.flim 3 := by
    unfold State.flim
    rw [hloop.win.rn _ (by decide)]
  have hsafe : (s.ofsJudged n v).safe = s.safe := congrArg (· == .safe) hjudged.safe
  have hshows := State.ptpAccept_shows (n := n) (o := s.ofsGiven n v) hjudged.win.inv (by rw [hthreshold]; exact hstep)
    (by rw [hpath']; exact hpath)
  obtain ⟨t, ht⟩ : ∃ t, (s.ofsJudged n v).ptpAccept n (s.ofsGiven n v) = t := ⟨_, rfl⟩
  rw [ht, hflim] at hshows
  obtain ⟨hinv, hsys, hpend, hofs, hword⟩ := hshows
  have hrec := State.modPtp_ptp_same hinv n fun x => { x with lastAt := some s.tb.c }
  exact .of_emit (ptpOffsetCommit_judged hs v hfits hon ht hsys) fun o => ⟨hpend, (congrArg PtpSt.heldOfs hrec).trans hofs,
    congrArg PtpSt.lastAt hrec, fun hen hsteer hsafe' =>
      hword ((hjudged.win.flag _ (by decide)).trans hen) (hjudged.clock.2.2.trans hsteer) (hsafe.trans hsafe')⟩

end

/-- Settles O49: each command of an engine is followed to its registers, its record and the servo word that it leaves. -/
theorem ptpServo : Obligations.PtpServo := by
  unfold Obligations.PtpServo
  intro s r n v d hs hr _
  dsimp only
  exact ⟨ptpEnable_refused hs hr v, fun hoff href hsrv => ptpEnable_takes hs hr v hoff href hsrv,
    fun href => ⟨fun hsrv => ptpSrvenWrite_refused hs hr v href hsrv, fun hsrv => ptpSrvenWrite_takes hs hr v href hsrv⟩,
    ptpPstateWrite_takes hs v, ptpOffsetCommit_other hs v, ptpOffsetCommit_beyond hs v, ptpOffsetCommit_within hs v,
    ptpPathhold_takes hs hr v, ptpPathaccept_takes hs hr v, ptpPathreject_takes hs hr v, ptpParentchg_takes hs hr v,
    ptpSrvreset_takes hs hr v,
    fun hend hst hto => ⟨fun hdue => pathHoldTimeout_due hs hend hst hto hdue, fun hdue => pathHoldTimeout_early hend hdue⟩,
    heldOffsetSample_due hs, heldOffsetSample_none⟩

end Sys2Proof.Machine
